-- ==== Sys2Proof/Word.lean ====
section
/-! DEFINITION. The words the machine computes on, and the small names that commands carry as operands. -/

namespace Sys2Proof

/-- A byte of any of the module's stores. -/
abbrev Byte := BitVec 8

/-- A 32-bit word: an accumulator, a vector lane, a descriptor word. -/
abbrev Word := BitVec 32

/-- A 64-bit word: a unit register (R50 and its like), a chip word, a rule instruction. -/
abbrev DWord := BitVec 64

/-- A command descriptor of 64 bytes (Table BC-2). -/
abbrev Desc := BitVec 512

/-- A core slice, bits 447 to 0 of Table PL-5. -/
abbrev SliceBits := BitVec 448

/-- A core of the compute die (R118: sixteen). -/
abbrev CoreId := Fin 16

/-- A logical engine, 8c + e (R81). -/
abbrev EngineId := Fin 128

/-- A DDR4 channel (R143). -/
abbrev ChanId := Fin 8

/-- A partition P0 to P7. -/
abbrev PartId := Fin 8

/-- A sensor port (Table SN-1). -/
abbrev SensorPort := Fin 27

/-- A host channel (R376). -/
abbrev HostChan := Fin 2

/-- A tether port (Table TL-1). -/
abbrev TetherPort := Fin 3

/-- The two plan streams of R26. -/
inductive Stream where
  | frame
  | fill
deriving DecidableEq, Repr

/-- The error in the 80 bits of each of a line's eight beats: bit 80 b + 8 d + i is bit i of device d in beat b (Table DR-1). -/
abbrev LineError := BitVec 640

/-- What a controller's decoder finds in a line (R149, Table DR-4). -/
inductive LineOutcome where
  | clean
  | innerCorrected
  | marked
  | outerCorrected
  | storedPoison
  | uncorrectable
deriving DecidableEq, Repr

/-- A CSI-2 packet as its receiver sees it (Table SN-2): short packets, and a long packet with its data type, its data in packed
line form and the verdict of its payload CRC. A header that cannot be corrected names nothing. -/
inductive CsiPacket where
  | frameStart (vc : BitVec 4)
  | frameEnd (vc : BitVec 4)
  | lineStart
  | lineEnd
  | long (vc : BitVec 4) (dtype : BitVec 6) (data : List Byte) (crcOk : Bool)
  | badHeader
deriving DecidableEq, Repr

/-- A CAN frame on a port's bus (Table SN-2): identifier, its width, format, and whether the frame ended in an error frame. -/
structure CanFrame where
  id     : BitVec 29
  ext    : Bool
  fd     : Bool
  remote : Bool
  error  : Bool
  data   : List Byte
deriving DecidableEq, Repr

/-- The LPDDR5 commands of the last row of Table TH-2: CAS with its WCK2CK synchronisation, the FIFO and read-data training commands,
ZQ commands, and the entry into and exit from a CBT sequence. -/
inductive TrainCmd where
  | cas
  | rdc
  | rff
  | wff (data : BitVec 256)
  | zq
  | cbt (on : Bool)
deriving DecidableEq, Repr

/-- What the training of a tether port gives (R496, R507): the peer's MODULE_ID and device ID as TL_PORT_STAT reports them, and the
one-way latency measured, in ns. -/
structure TetherPeer where
  id   : BitVec 2
  dev  : BitVec 40
  meas : BitVec 11
deriving DecidableEq, Repr

end Sys2Proof
end

