-- ==== Sys2Proof/Syntax.lean ====
section
/-! DEFINITION. The commands of the module: one constructor for each row of spec/opcode_table.json. The table gives no
operand fields; the operands are what the rules of the row's chapter name: the unit the row acts on, the data that
arrives, and, where a rule is about time, the cycles `dt` of the unit's own clock that pass before the event. -/

namespace Sys2Proof

/-- A command taken by the module. -/
inductive Instr where
  /-- NORMAL: Ridgepole fetches, checks and issues a NORMAL bundle's slices and slot words for COUNT ACLK cycles, then evaluates its branch and flips its PUBLISH bits. -/
  | normal (st : Stream) (dt n : Nat)
  /-- FRAME_WAIT: The frame stream idles until an unreleased frame start exists, then releases it in a one-cycle release cycle. -/
  | frameWait (dt : Nat)
  /-- ANCHOR: An ANCHOR bundle issues its slices for one cycle when its offset from the released frame start is reached, or once a hold ends. -/
  | anchor (dt : Nat)
  /-- OPEN: An OPEN bundle issues at its offset and opens a protected window on the cores and channels it claims. -/
  | planOpen (dt : Nat)
  /-- CLOSE: A CLOSE bundle issues for COUNT cycles and closes its window after its last cycle. -/
  | planClose (dt n : Nat)
  /-- MARKER_WAIT: The stream idles until the named marker has arrived from every named peer port, then issues for COUNT cycles. -/
  | markerWait (st : Stream) (dt n : Nat)
  /-- END: An END bundle stops its stream. -/
  | planEnd (st : Stream) (dt : Nat)
  /-- MARKER_WAIT_EXPIRY: A MARKER_WAIT exceeds TETHER_WAIT and becomes a plan fault with FCAUSE 7. -/
  | markerWaitExpiry (st : Stream) (dt : Nat)
  /-- PLAN_HOLD_END: The last cause of a hold event clears, the hold ends, issue resumes and the hold is logged. -/
  | planHoldEnd (dt : Nat)
  /-- SLOT_WINDOW_END: A DDR4 slot window ends on its channel and frees its place in the slot queue. -/
  | slotWindowEnd (ch : ChanId) (dt : Nat)
  /-- REFRESH_DEBT_TICK: Every 3,120 MCLK cycles a controller's refresh debt rises by one, with REF issued in holds or standalone service and a hold at 8. -/
  | refreshDebtTick (ch : ChanId) (dt : Nat)
  /-- FRAME_GO: A write of PL_CTRL.FRAME_GO starts the frame stream at FRAME_ENTRY at the next frame start. -/
  | frameGo (p : PartId)
  /-- FILL_GO: A write of PL_CTRL.FILL_GO starts the fill stream at FILL_ENTRY. -/
  | fillGo (p : PartId)
  /-- FILL_STOP: A write of PL_CTRL.FILL_STOP stops the fill stream at its next bundle boundary. -/
  | fillStop (p : PartId)
  /-- STOP: A write of PL_CTRL.STOP with the P0 right stops both streams at their next boundaries. -/
  | planStop (p : PartId)
  /-- DEBUG_EN: A write of PL_CTRL.DEBUG_EN allows DEBUG holds, and writing 0 ends a DEBUG hold in effect. -/
  | debugEn (p : PartId) (v : Bool)
  /-- DEBUG_HOLD: A write of PL_CTRL.DEBUG_HOLD raises a DEBUG plan hold. -/
  | debugHold (p : PartId)
  /-- DEBUG_STEP: A write of PL_CTRL.DEBUG_STEP during a DEBUG hold issues one bundle of each running stream. -/
  | debugStep (p : PartId)
  /-- COND_WRITE_VISIBLE: A condition register write becomes visible in ACLK within 8 cycles and Field Book records it. -/
  | condWriteVisible (dt : Nat)
  /-- PL_HOLD_LOG_READ: A read of PL_HOLD_LOG returns the oldest hold entry and pops it. -/
  | plHoldLogRead
  /-- RC_FIELD_READ: A read of a register with RC fields returns their values and clears them. -/
  | rcFieldRead (unit : BitVec 8) (off : BitVec 24)
  /-- STANDALONE_SERVICE: While the frame stream is not running, each controller refreshes and serves its OPEN queue by itself. -/
  | standaloneService (ch : ChanId) (dt : Nat)
  /-- MAC_SS: A run accumulates signed weight times signed activation products in each cell. -/
  | macSs (c : CoreId) (sl : SliceBits) (n : Nat)
  /-- MAC_SU: A run accumulates signed weight times unsigned activation products in each cell. -/
  | macSu (c : CoreId) (sl : SliceBits) (n : Nat)
  /-- MAC_BIN: A run accumulates +1 or -1 per cell as binary operand bits agree or differ. -/
  | macBin (c : CoreId) (sl : SliceBits) (n : Nat)
  /-- DIST_L1: A run accumulates the absolute difference of activation and weight elements. -/
  | distL1 (c : CoreId) (sl : SliceBits) (n : Nat)
  /-- MINPLUS: A run sets ACC to the minimum of ACC and activation plus weight per element. -/
  | minplus (c : CoreId) (sl : SliceBits) (n : Nat)
  /-- MAXPLUS: A run sets ACC to the maximum of ACC and activation plus weight per element. -/
  | maxplus (c : CoreId) (sl : SliceBits) (n : Nat)
  /-- RETIRE: A RETIRE run copies a live ACC to OUT, resets ACC and starts the drain. -/
  | retire (c : CoreId) (sl : SliceBits) (n : Nat)
  /-- LOAD_ACC: LOAD_ACC retires the tile, then loads ACC from 1,024 activation rows. -/
  | loadAcc (c : CoreId) (sl : SliceBits) (n : Nat)
  /-- DRAIN_ROW_WRITE: An engine writes its next drain row at the drain pointer in each issuing ACLK cycle after a retire. -/
  | drainRowWrite (n : EngineId)
  /-- MOVE: A MOVE enters the core's transfer queue and moves data between tiers at the path's rate. -/
  | move (c : CoreId) (sl : SliceBits)
  /-- SEGMENT_LOAD: A SEGMENT_LOAD moves plan bundles into the fill part of the issuing core's plan region. -/
  | segmentLoad (c : CoreId) (sl : SliceBits)
  /-- TRANSFER_COMPLETE: A queued transfer completes and the core's queue starts the next one. -/
  | transferComplete (c : CoreId) (dt : Nat)
  /-- FADD: Vector floating-point addition. -/
  | fadd (c : CoreId) (sl : SliceBits) (n : Nat)
  /-- FSUB: Vector floating-point subtraction. -/
  | fsub (c : CoreId) (sl : SliceBits) (n : Nat)
  /-- FMUL: Vector floating-point multiplication. -/
  | fmul (c : CoreId) (sl : SliceBits) (n : Nat)
  /-- FMA: Vector fused multiply-add. -/
  | fma (c : CoreId) (sl : SliceBits) (n : Nat)
  /-- FMIN: Vector IEEE minimum. -/
  | fmin (c : CoreId) (sl : SliceBits) (n : Nat)
  /-- FMAX: Vector IEEE maximum. -/
  | fmax (c : CoreId) (sl : SliceBits) (n : Nat)
  /-- FDOT: Per-lane fused dot product added to an FP32 accumulator. -/
  | fdot (c : CoreId) (sl : SliceBits) (n : Nat)
  /-- FCMP_LT: Vector floating-point less-than compare. -/
  | fcmpLt (c : CoreId) (sl : SliceBits) (n : Nat)
  /-- FCMP_LE: Vector floating-point less-or-equal compare. -/
  | fcmpLe (c : CoreId) (sl : SliceBits) (n : Nat)
  /-- FCMP_EQ: Vector floating-point equality compare. -/
  | fcmpEq (c : CoreId) (sl : SliceBits) (n : Nat)
  /-- FRECIP_EST: Vector reciprocal estimate. -/
  | frecipEst (c : CoreId) (sl : SliceBits) (n : Nat)
  /-- FRSQRT_EST: Vector reciprocal square-root estimate. -/
  | frsqrtEst (c : CoreId) (sl : SliceBits) (n : Nat)
  /-- FSUM_ERR: Exact rounding error of a binary32 sum. -/
  | fsumErr (c : CoreId) (sl : SliceBits) (n : Nat)
  /-- FPROD_ERR: Rounding error of a binary32 product. -/
  | fprodErr (c : CoreId) (sl : SliceBits) (n : Nat)
  /-- PAIR_ADD: Addition of error-compensating pairs. -/
  | pairAdd (c : CoreId) (sl : SliceBits) (n : Nat)
  /-- PAIR_MAC: Multiply-accumulate of binary32 operands into an error-compensating pair. -/
  | pairMac (c : CoreId) (sl : SliceBits) (n : Nat)
  /-- IADD: Wrapping integer addition. -/
  | iadd (c : CoreId) (sl : SliceBits) (n : Nat)
  /-- ISUB: Wrapping integer subtraction. -/
  | isub (c : CoreId) (sl : SliceBits) (n : Nat)
  /-- IADD_SAT: Saturating integer addition. -/
  | iaddSat (c : CoreId) (sl : SliceBits) (n : Nat)
  /-- ISUB_SAT: Saturating integer subtraction. -/
  | isubSat (c : CoreId) (sl : SliceBits) (n : Nat)
  /-- IMUL: Low half of an integer product. -/
  | imul (c : CoreId) (sl : SliceBits) (n : Nat)
  /-- IMUL_HI: High 32 bits of a signed product by an iterative multiplier. -/
  | imulHi (c : CoreId) (sl : SliceBits) (n : Nat)
  /-- IMIN: Integer minimum. -/
  | imin (c : CoreId) (sl : SliceBits) (n : Nat)
  /-- IMAX: Integer maximum. -/
  | imax (c : CoreId) (sl : SliceBits) (n : Nat)
  /-- AND: Vector bitwise AND. -/
  | vecAnd (c : CoreId) (sl : SliceBits) (n : Nat)
  /-- OR: Vector bitwise OR. -/
  | vecOr (c : CoreId) (sl : SliceBits) (n : Nat)
  /-- XOR: Vector bitwise XOR. -/
  | vecXor (c : CoreId) (sl : SliceBits) (n : Nat)
  /-- SHIFT_RNE: Integer right shift rounded to nearest, ties to even. -/
  | shiftRne (c : CoreId) (sl : SliceBits) (n : Nat)
  /-- IDIV: Signed integer quotient. -/
  | idiv (c : CoreId) (sl : SliceBits) (n : Nat)
  /-- IREM: Signed integer remainder. -/
  | irem (c : CoreId) (sl : SliceBits) (n : Nat)
  /-- UDIV: Unsigned integer quotient. -/
  | udiv (c : CoreId) (sl : SliceBits) (n : Nat)
  /-- UREM: Unsigned integer remainder. -/
  | urem (c : CoreId) (sl : SliceBits) (n : Nat)
  /-- CVT_F32: Conversion to FP32. -/
  | cvtF32 (c : CoreId) (sl : SliceBits) (n : Nat)
  /-- CVT_F16: Conversion to FP16. -/
  | cvtF16 (c : CoreId) (sl : SliceBits) (n : Nat)
  /-- CVT_BF16: Conversion to BF16. -/
  | cvtBf16 (c : CoreId) (sl : SliceBits) (n : Nat)
  /-- CVT_E4M3: Saturating conversion to E4M3. -/
  | cvtE4m3 (c : CoreId) (sl : SliceBits) (n : Nat)
  /-- CVT_E5M2: Saturating conversion to E5M2. -/
  | cvtE5m2 (c : CoreId) (sl : SliceBits) (n : Nat)
  /-- CVT_I32: Conversion to INT32 rounding to nearest even. -/
  | cvtI32 (c : CoreId) (sl : SliceBits) (n : Nat)
  /-- CVT_I16: Conversion to INT16. -/
  | cvtI16 (c : CoreId) (sl : SliceBits) (n : Nat)
  /-- CVT_I8: Conversion to INT8. -/
  | cvtI8 (c : CoreId) (sl : SliceBits) (n : Nat)
  /-- CVT_U8: Conversion to UINT8. -/
  | cvtU8 (c : CoreId) (sl : SliceBits) (n : Nat)
  /-- CVT_I32_RTZ: Conversion to INT32 rounding toward zero. -/
  | cvtI32Rtz (c : CoreId) (sl : SliceBits) (n : Nat)
  /-- CVT_I32_FLOOR: Conversion to INT32 rounding toward minus infinity. -/
  | cvtI32Floor (c : CoreId) (sl : SliceBits) (n : Nat)
  /-- CVT_E4M3_NS: Non-saturating conversion to E4M3. -/
  | cvtE4m3Ns (c : CoreId) (sl : SliceBits) (n : Nat)
  /-- CVT_E5M2_NS: Non-saturating conversion to E5M2. -/
  | cvtE5m2Ns (c : CoreId) (sl : SliceBits) (n : Nat)
  /-- CVT_PAIR: Conversion of FP32 to a pair (a, +0). -/
  | cvtPair (c : CoreId) (sl : SliceBits) (n : Nat)
  /-- BF_EXP4: Block exponent per lane for 4-bit mantissas, written 8 cycles after the run. -/
  | bfExp4 (c : CoreId) (sl : SliceBits) (n : Nat)
  /-- BF_EXP8: Block exponent per lane for 8-bit mantissas. -/
  | bfExp8 (c : CoreId) (sl : SliceBits) (n : Nat)
  /-- BF_EXP16: Block exponent per lane for 16-bit mantissas. -/
  | bfExp16 (c : CoreId) (sl : SliceBits) (n : Nat)
  /-- BF_PACK4: Packs 4-bit block-float mantissas. -/
  | bfPack4 (c : CoreId) (sl : SliceBits) (n : Nat)
  /-- BF_PACK8: Packs 8-bit block-float mantissas. -/
  | bfPack8 (c : CoreId) (sl : SliceBits) (n : Nat)
  /-- BF_PACK16: Packs 16-bit block-float mantissas. -/
  | bfPack16 (c : CoreId) (sl : SliceBits) (n : Nat)
  /-- BF_UNPACK: Converts block-float mantissa and exponent to FP32. -/
  | bfUnpack (c : CoreId) (sl : SliceBits) (n : Nat)
  /-- TILE_SCALE: Scales drained INT32 tile sums to FP32 by row and column exponents and a factor. -/
  | tileScale (c : CoreId) (sl : SliceBits) (n : Nat)
  /-- LUT_EXPAND: Expands 4-bit indices through a 16-entry table to INT8. -/
  | lutExpand (c : CoreId) (sl : SliceBits) (n : Nat)
  /-- NIB_G0: Writes nibble group 0 of each element as a nibble stream. -/
  | nibG0 (c : CoreId) (sl : SliceBits) (n : Nat)
  /-- NIB_G1: Writes nibble group 1 of each element as a nibble stream. -/
  | nibG1 (c : CoreId) (sl : SliceBits) (n : Nat)
  /-- NIB_G2: Writes nibble group 2 of each element as a nibble stream. -/
  | nibG2 (c : CoreId) (sl : SliceBits) (n : Nat)
  /-- NIB_G3: Writes nibble group 3 of each element as a nibble stream. -/
  | nibG3 (c : CoreId) (sl : SliceBits) (n : Nat)
  /-- HIST_DUMP: Writes the 64 exponent-histogram counters and clears them. -/
  | histDump (c : CoreId) (sl : SliceBits) (n : Nat)
  /-- VEC_HIST_CLEAR: A write of PL_VEC_HIST.CLEAR clears the core's 64 histogram counters. -/
  | vecHistClear (c : CoreId) (p : PartId)
  /-- MT_LOT_SEL_WRITE: A write of MT_LOT_SEL copies a lot-table entry into MT_LOT_W0 and MT_LOT_W1. -/
  | mtLotSelWrite (sel : BitVec 13)
  /-- MT_FETCH: Demand command that brings a DDR4 range into lots of the requester's share, evicting oldest first. -/
  | mtFetch (ring : BitVec 14) (d : Desc)
  /-- MT_FLUSH: Demand command that writes every DIRTY lot homed in the range to its home. -/
  | mtFlush (ring : BitVec 14) (d : Desc)
  /-- MT_PIN: Demand command that sets PIN on present lots of the range. -/
  | mtPin (ring : BitVec 14) (d : Desc)
  /-- MT_UNPIN: Demand command that clears PIN on present lots of the range. -/
  | mtUnpin (ring : BitVec 14) (d : Desc)
  /-- MT_DROP: Demand command that sets present lots of the range to FREE without write-back. -/
  | mtDrop (ring : BitVec 14) (d : Desc)
  /-- DEMAND_TRANSFER_COMPLETE: A demand-mode fill or write-back completes in OPEN slots and its lot becomes CLEAN. -/
  | demandTransferComplete (p : PartId) (dt : Nat)
  /-- DDR_LINE_DECODE: A controller decodes a read line with the inner and outer codes and delivers it with the outcome's latency. -/
  | ddrLineDecode (ch : ChanId) (line : BitVec 28) (err : LineError) (core : CoreId) (part : PartId) (implicated : BitVec 10) (waits : Bool)
  /-- WRITE_CRC_ALERT: A device reports a write CRC error and the controller rewrites the line from its buffer. -/
  | writeCrcAlert (ch : ChanId) (lane : Fin 10) (line : BitVec 28)
  /-- CA_PARITY_ALERT: A device reports a CA parity error and the controller reopens banks and reissues lost commands. -/
  | caParityAlert (ch : ChanId) (line : BitVec 28) (read : Bool)
  /-- SCRUB_READ: A controller scrub-reads its next line in an OPEN slot and writes corrected lines back. -/
  | scrubRead (ch : ChanId) (err : LineError) (implicated : BitVec 10) (dt : Nat)
  /-- SCRUB_QUOTA_TICK: At each ms end, unread scrub quota carries over and SCRUB_LAG is set. -/
  | scrubQuotaTick (ch : ChanId) (dt : Nat)
  /-- DR_MARK_WRITE: Maluo marks a DDR4 device so later lines rebuild it from the outer code, with a Plumb event. -/
  | drMarkWrite (ch : ChanId) (device : Fin 10)
  /-- DR_RETRAIN_REQ: A write of DR_RETRAIN.REQ starts a full live retraining of the channel. -/
  | drRetrainReq (ch : ChanId)
  /-- RETRAIN_PERIOD_EXPIRY: DR_RETRAIN.PERIOD elapses and a full live retraining starts. -/
  | retrainPeriodExpiry (ch : ChanId) (dt : Nat)
  /-- RETRAIN_TEMP_DRIFT: Device temperature drifts by DTEMP since the last training and a full live retraining starts. -/
  | retrainTempDrift (ch : ChanId) (temp : BitVec 8)
  /-- RETRAIN_STEP: A live retraining step runs in an OPEN slot of at least 1,600 MCLK cycles. -/
  | retrainStep (ch : ChanId) (dt : Nat)
  /-- RETRAIN_WAIT_EXPIRY: No suitable OPEN slot comes within WAIT, so a RETRAIN hold is raised and the step runs in it. -/
  | retrainWaitExpiry (ch : ChanId) (dt : Nat)
  /-- EFFECTIVE_LEVEL_UPDATE: A queue or urgency level change reaches the regulator and updates the gating of traffic. -/
  | effectiveLevelUpdate (ch : ChanId) (occ1 : BitVec 7) (occ3 : BitVec 7)
  /-- SEQ_ASSEMBLY_VISIBLE: The step's token list, row updates and walker lists become visible T_asm cycles after the flip. -/
  | seqAssemblyVisible (p : PartId) (dt : Nat)
  /-- WALKER_ITEM_WRITE: A walker writes its lead item records to the core store and count minus i to its condition register. -/
  | walkerItemWrite (p : PartId) (w : Fin 4) (dt : Nat)
  /-- SEQ_JOIN: Binds the lowest EMPTY row to a context in JOINING. -/
  | seqJoin (ring : BitVec 14) (d : Desc)
  /-- SEQ_APPEND: Appends tokens from window SRAM to a row's log. -/
  | seqAppend (ring : BitVec 14) (d : Desc)
  /-- SEQ_RESET: Marks a pending position of a row for RESET. -/
  | seqReset (ring : BitVec 14) (d : Desc)
  /-- SEQ_LEAVE: Moves a row to LEAVING and completes after the flip that empties it. -/
  | seqLeave (ring : BitVec 14) (d : Desc)
  /-- SEQ_QUERY: Writes a row's pending entry to window SRAM. -/
  | seqQuery (ring : BitVec 14) (d : Desc)
  /-- SYNC_EDGE: A SYNC edge leaves the synchroniser and is accepted to start a synced frame, or ignored as early. -/
  | syncEdge (dt : Nat)
  /-- FREE_RUN_FRAME_START: No edge is accepted by LEN + LOSS or LEN after the last start, so Ridgepole starts an unsynced frame. -/
  | freeRunFrameStart (dt : Nat)
  /-- GOLDEN_SKIP_DEADLINE: At OFFSET + SLACK of a golden frame whose OPEN has not issued, Ridgepole writes 1 to the skip register. -/
  | goldenSkipDeadline (dt : Nat)
  /-- GOLDEN_JUDGEMENT: At OFFSET + SLACK + 1 Ridgepole judges whether the golden window ran or counts a deferral. -/
  | goldenJudgement (dt : Nat)
  /-- CSI2_PACKET: A CSI-2 packet is received, stamped, matched to a stream and assembled into a sample ending at FE. -/
  | csi2Packet (n : Fin 8) (x : CsiPacket) (corrected : Bool) (drained : Nat) (dt : Nat)
  /-- ETH_FRAME_RX: An Ethernet frame is received, stamped, FCS-checked and matched to a stream as one sample. -/
  | ethFrameRx (k : Fin 4) (data : List Byte) (fcsOk : Bool) (drained : Nat) (dt : Nat) (dtLast : Nat)
  /-- CAN_FRAME_RX: A CAN FD frame is received, stamped and matched to a stream as one sample. -/
  | canFrameRx (k : Fin 6) (x : CanFrame) (drained : Nat) (dt : Nat) (dtLast : Nat)
  /-- TDM_FRAME_RX: TDM frames are received and the selected slots of FRAMES frames form one sample. -/
  | tdmFrameRx (k : Fin 2) (slots : List Word) (drained : Nat) (dt : Nat)
  /-- GPIO_EDGE_CAPTURE: A captured GPIO edge feeds its streams and sequencer triggers. -/
  | gpioEdgeCapture (g : BitVec 5) (rising : Bool) (dt : Nat)
  /-- SAMPLE_PUBLISH: A finished sample's slot buffer flips once its payload has reached the Datum store or DDR4 write buffer. -/
  | samplePublish (site : Fin 48)
  /-- LINK_STATE_CHANGE: A sensor port's link trains, integrates or goes bus-off and LINK_UP changes. -/
  | linkStateChange (n : SensorPort) (up : Bool)
  /-- HALT: Stops the sequencer until the next commit. -/
  | halt (q : Fin 6) (dt : Nat)
  /-- WAIT_TRIG: Waits for the named trigger source. -/
  | waitTrig (q : Fin 6) (dt : Nat)
  /-- STAMP: Reads the port counter into STAMP_FIRST if none is held and into STAMP_LAST. -/
  | stamp (q : Fin 6) (dt : Nat)
  /-- XFER: Clocks bytes to a chip select or I3C address and appends received bytes to the assembly buffer. -/
  | xfer (q : Fin 6) (rx : List Byte) (dt : Nat)
  /-- DELAY: Waits a given number of port cycles. -/
  | delay (q : Fin 6) (dt : Nat)
  /-- EMIT: Ends the sample, hands it to the stream with the matching tag and clears the buffer. -/
  | emit (q : Fin 6) (dt : Nat)
  /-- JUMP: Continues at the target instruction. -/
  | jump (q : Fin 6) (dt : Nat)
  /-- GPIO_OUT: Drives a sequencer-owned output pin. -/
  | gpioOut (q : Fin 6) (dt : Nat)
  /-- SEQUENCER_TRIGGER: A trigger arrives and releases a waiting WAIT_TRIG, or is held pending or lost. -/
  | sequencerTrigger (q : Fin 6) (src : BitVec 6) (dt : Nat)
  /-- SEQUENCER_TIMER_EXPIRY: The sequencer timer period elapses and raises the timer trigger source. -/
  | sequencerTimerExpiry (q : Fin 6) (dt : Nat)
  /-- GPIO_FRAME_TRIGGER: OFFSET GPIO cycles after a frame start, a frame-trigger pin begins its pulse. -/
  | gpioFrameTrigger (g : BitVec 5) (since : Nat) (dt : Nat)
  /-- GPIO_PULSE_END: A frame-trigger pulse ends after WIDTH cycles. -/
  | gpioPulseEnd (g : BitVec 5) (dt : Nat)
  /-- DRIVE_TRANSMIT: A DRIVE port begins transmitting a record released by the Plumb gate within 16 port cycles. -/
  | driveTransmit (n : SensorPort) (dt : Nat)
  /-- DRIVE_TRANSMIT_END: A DRIVE port's transmission ends and frees the record's queue place. -/
  | driveTransmitEnd (n : SensorPort) (rx : List Byte) (dt : Nat)
  /-- DATUM_SNAPSHOT: A frame start reaches FCLK and Datum snapshots every enabled port's stamp counter. -/
  | datumSnapshot (lag : BitVec 27) (dt : Nat)
  /-- DATUM_LATCH: At LATCH Datum takes every source's latest record, classifies it, predicts and writes the association tables. -/
  | datumLatch (dt : Nat)
  /-- DATUM_COST_STAGE: At COST Datum latches cost matrices and runs auctions, gates, updates, retrodictions and track upkeep. -/
  | datumCostStage (dt : Nat)
  /-- DATUM_PUBLISH: At PUBLISH Datum flips the fused-state record and stores posteriors in history. -/
  | datumPublish (dt : Nat)
  /-- DT_RELEASE: Releases a quarantined source at the next latch. -/
  | dtRelease (ring : BitVec 14) (d : Desc)
  /-- TV_REGISTER: Registers a Traverse problem image after digest and structural checks. -/
  | tvRegister (ring : BitVec 14) (d : Desc)
  /-- TV_PARAM: Writes parameters into a problem's back bank and sets PENDING. -/
  | tvParam (ring : BitVec 14) (d : Desc)
  /-- TRAVERSE_LATCH: At a run's latch Traverse takes its source records and swaps a pending parameter bank, or skips the run. -/
  | traverseLatch (j : Fin 64) (k : Fin 15) (dt : Nat)
  /-- PARAM_COPY_END: The copy of the new active bank into the back bank completes. -/
  | paramCopyEnd (dt : Nat)
  /-- TRAVERSE_ASSEMBLY_END: Assembly of the run's values ends and a deferred linearisation flip takes effect. -/
  | traverseAssemblyEnd (dt : Nat)
  /-- TRAVERSE_FACTOR_END: The KKT factorisation with pivot replacement completes. -/
  | traverseFactorEnd (dt : Nat)
  /-- TRAVERSE_ITERATION_END: One operator-splitting iteration completes. -/
  | traverseIterationEnd (dt : Nat)
  /-- MISCLOSURE_TEST: The primal and dual residuals are tested and the run converges, continues or is CAPPED. -/
  | misclosureTest (dt : Nat)
  /-- TRAVERSE_OUTPUT_END: The output record and persistent state are written and a converged record is published. -/
  | traverseOutputEnd (dt : Nat)
  /-- EST_RUN_END: An estimator step completes and publishes at latch + WCET. -/
  | estRunEnd (dt : Nat)
  /-- TRAVERSE_WINDOW_END: At latch + BUDGET a capped record is published. -/
  | traverseWindowEnd (dt : Nat)
  /-- GUYLINE_FRAME_START: A frame start reaches GCLK and abandons triggers of the previous frame not yet due. -/
  | guylineFrameStart (dt : Nat)
  /-- CHANNEL_TRIGGER: A channel triggers, applies a pending swap, latches its inputs and starts its sample. -/
  | channelTrigger (mask : BitVec 64) (dt : Nat)
  /-- GUYLINE_RESULT_READY: A sample's outputs and next state are ready 2,000 GCLK cycles after the trigger. -/
  | guylineResultReady (mask : BitVec 64) (dt : Nat)
  /-- GUYLINE_OUTPUT_WRITE: At OUT_PHASE a channel writes its gate record into the queue to the Plumb gate. -/
  | guylineOutputWrite (mask : BitVec 64) (dt : Nat)
  /-- GL_LOAD: Loads a Guyline coefficient bank into the active or back bank, optionally requesting a swap. -/
  | glLoad (ring : BitVec 14) (d : Desc)
  /-- ST_MODEL: Loads the Stadia robot model image. -/
  | stModel (ring : BitVec 14) (d : Desc)
  /-- STADIA_UPDATE_APPLY: A published update record is applied to the brick directory and the epoch increments. -/
  | stadiaUpdateApply (dt : Nat)
  /-- PROPOSAL_FLIP: A deferred proposal buffer flip takes effect once no MOVE through the view remains. -/
  | proposalFlip (dt : Nat)
  /-- STADIA_LATCH: At LATCH Stadia takes the staged proposal set and begins checking candidates. -/
  | stadiaLatch (dt : Nat)
  /-- CANDIDATE_CHECK: A candidate check against the field completes with a pass or fail verdict. -/
  | candidateCheck (dt : Nat)
  /-- STADIA_CHECK_END: At CHECK_END Stadia selects the best passing candidate or sets NO_PATH or TIMEOUT. -/
  | stadiaCheckEnd (dt : Nat)
  /-- STADIA_RECHECK: A re-check of a passing candidate against the newer epoch completes. -/
  | stadiaRecheck (dt : Nat)
  /-- STADIA_GATE: At GATE Stadia fixes the gate epoch and re-checks the selected candidate and the hold. -/
  | stadiaGate (dt : Nat)
  /-- STADIA_PUBLISH: At GATE + T_gate Stadia publishes the trajectory and diagnosis records and builds the next hold. -/
  | stadiaPublish (dt : Nat)
  /-- LOCKSTEP_MISMATCH: The comparator finds cores A and B diverge and Plumb enters DM3. -/
  | lockstepMismatch (dt : Nat)
  /-- CLOCK_MONITOR_WINDOW: At the end of each monitor window the FCLK count is checked and a MONITOR fault raised if off. -/
  | clockMonitorWindow (edges : Nat) (dt : Nat)
  /-- READBACK_CHECK: Each SAFE_STOP line is read back 4 SCLK cycles after a command change. -/
  | readbackCheck (a b : Bool) (dt : Nat)
  /-- TEST_PULSE: An energised line drops for 200 µs on its 100 ms schedule and its readback is checked. -/
  | testPulse (lineB shown : Bool) (dt : Nat)
  /-- WDI_EDGE: A filtered WDI edge reaches SCLK and restarts the watchdog. -/
  | wdiEdge (dt : Nat)
  /-- WATCHDOG_TIMEOUT: No WDI edge within WD_TIMEOUT raises a WATCHDOG fault. -/
  | watchdogTimeout (dt : Nat)
  /-- SUPPLY_MONITOR_FAULT: Plumb's supply leaves its band and both lines are de-energised. -/
  | supplyMonitorFault (dt : Nat)
  /-- PLUMB_EVENT: A unit's event crosses into SCLK and updates its counter and detail. -/
  | plumbEvent (dt : Nat)
  /-- EVENT_ENTRY_RUN: Every 4,000 SCLK cycles with changed counters the event entry runs on the watch thread. -/
  | eventEntryRun (dt : Nat)
  /-- FRAME_ENTRY_RUN: FRAME_OFS after each frame start reaches SCLK the frame entry runs. -/
  | frameEntryRun (since : Nat) (dt : Nat)
  /-- GATE_RECORD_DEQUEUE: A free gate thread takes the oldest gate record and runs the gate entry. -/
  | gateRecordDequeue (dt : Nat)
  /-- GATE_VERDICT: 400 SCLK cycles after dequeue the verdict releases, blocks or drops the record and may stop or degrade. -/
  | gateVerdict (dt : Nat)
  /-- SAFE_STOP_DELAY_EXPIRY: STOP_DELAY after entry into DM2, SAFE_STOP is asserted. -/
  | safeStopDelayExpiry (dt : Nat)
  /-- GOLDEN_STORE_CLEAR: The golden OPEN reaches SCLK and Plumb clears its golden store. -/
  | goldenStoreClear (dt : Nat)
  /-- GOLDEN_COMPARE: 8,000 SCLK cycles after the golden CLOSE reaches SCLK the golden judgement passes or fails. -/
  | goldenCompare (dt : Nat)
  /-- PB_LOAD: Loads and checks a signed Plumb rule image. -/
  | pbLoad (ring : BitVec 14) (d : Desc)
  /-- PB_CLEAR: Returns DM1 to DM0 when only class-8 causes are latched. -/
  | pbClear (ring : BitVec 14) (d : Desc)
  /-- PB_RELEASE: Returns the module to DM0 and energises both lines when all causes are cleared. -/
  | pbRelease (ring : BitVec 14) (d : Desc)
  /-- RULE_END: Ends the rule entry. -/
  | ruleEnd (t : Fin 5)
  /-- LDI: Loads an immediate into a word register. -/
  | ldi (t : Fin 5)
  /-- LDREC: Loads a word of the gate record. -/
  | ldrec (t : Fin 5)
  /-- LDHDR: Loads a word of a snapshot record header. -/
  | ldhdr (t : Fin 5)
  /-- LDMEM: Loads a data-store word. -/
  | ldmem (t : Fin 5)
  /-- STMEM: Stores a word to the data store. -/
  | stmem (t : Fin 5)
  /-- LDEV: Loads the increase of an event counter since the entry last read it. -/
  | ldev (t : Fin 5)
  /-- ADD: Wrapping 32-bit addition. -/
  | ruleAdd (t : Fin 5)
  /-- SUB: Wrapping 32-bit subtraction. -/
  | ruleSub (t : Fin 5)
  /-- RULE_AND: Bitwise AND of rule registers. -/
  | ruleAnd (t : Fin 5)
  /-- RULE_OR: Bitwise OR of rule registers. -/
  | ruleOr (t : Fin 5)
  /-- RULE_XOR: Bitwise XOR of rule registers. -/
  | ruleXor (t : Fin 5)
  /-- SHR: Arithmetic right shift. -/
  | ruleShr (t : Fin 5)
  /-- SHL: Left shift. -/
  | ruleShl (t : Fin 5)
  /-- MIN: Signed minimum. -/
  | ruleMin (t : Fin 5)
  /-- MAX: Signed maximum. -/
  | ruleMax (t : Fin 5)
  /-- ABS: Absolute value with 0x8000_0000 giving 0x7FFF_FFFF. -/
  | ruleAbs (t : Fin 5)
  /-- SLT: Signed less-than of two registers. -/
  | slt (t : Fin 5)
  /-- SLTI: Signed less-than against an immediate. -/
  | slti (t : Fin 5)
  /-- FLT: Binary32 less-than compare. -/
  | flt (t : Fin 5)
  /-- FNAN: Tests for a binary32 NaN or infinity. -/
  | fnan (t : Fin 5)
  /-- RULE_FSUB: Binary32 subtraction in a rule program. -/
  | ruleFsub (t : Fin 5)
  /-- FABS: Clears bit 31 of a word. -/
  | fabs (t : Fin 5)
  /-- SEXT16: Sign-extends the low 16 bits. -/
  | sext16 (t : Fin 5)
  /-- SKIPZ: Skips forward if a register is zero. -/
  | skipz (t : Fin 5)
  /-- SKIPNZ: Skips forward if a register is nonzero. -/
  | skipnz (t : Fin 5)
  /-- VERDICT: Issues a PASS, BLOCK, STOP or DEGRADE verdict. -/
  | verdict (t : Fin 5)
  /-- RAISE: Sets a bit of PB_USER and Field Book records it. -/
  | ruleRaise (t : Fin 5)
  /-- LDEVD: Loads the last detail of an event. -/
  | ldevd (t : Fin 5)
  /-- LDFRM: Loads the low 32 bits of the current frame number. -/
  | ldfrm (t : Fin 5)
  /-- ACT: An LPDDR5 ACT sets the bank's row register. -/
  | act (ch : HostChan) (bank : Fin 16) (row : BitVec 16)
  /-- PRE: An LPDDR5 PRE or PREA has no effect. -/
  | pre (ch : HostChan)
  /-- RD: An LPDDR5 read burst returns a 32-byte unit of the aperture. -/
  | rd (ch : HostChan) (bank : Fin 16) (col : BitVec 6)
  /-- WR: An LPDDR5 write burst writes a 32-byte unit of the aperture or a streaming position. -/
  | wr (ch : HostChan) (bank : Fin 16) (col : BitVec 6) (data : BitVec 256)
  /-- MWR: An LPDDR5 masked write burst accesses the aperture. -/
  | mwr (ch : HostChan) (bank : Fin 16) (col : BitVec 6) (data : BitVec 256) (mask : BitVec 32)
  /-- REF: An LPDDR5 REF or RFM has no effect. -/
  | ref (ch : HostChan)
  /-- SRE: Self-refresh entry reports host idle to Basecamp. -/
  | sre (ch : HostChan)
  /-- SRX: Self-refresh exit reports the end of host idle. -/
  | srx (ch : HostChan)
  /-- PDE: Power-down entry or exit has no effect. -/
  | pde (ch : HostChan)
  /-- DSM_ENTRY: Deep-sleep entry reports host departure and stops fetching from the channel's rings. -/
  | dsmEntry (ch : HostChan)
  /-- DSM_EXIT: Deep-sleep exit requires the host to retrain the channel. -/
  | dsmExit (ch : HostChan)
  /-- MRW: Stores a mode-register operand. -/
  | mrw (ch : HostChan) (mr : BitVec 7) (v : Byte)
  /-- MRR: Returns the last mode-register value or a read-only value. -/
  | mrr (ch : HostChan) (mr : BitVec 7)
  /-- LPDDR5_TRAINING_COMMAND: CAS, RDC, RFF, WFF, ZQ and CBT commands are served from training registers. -/
  | lpddr5TrainingCommand (ch : HostChan) (t : TrainCmd)
  /-- BAD_CMD: An unsupported LPDDR5 command is ignored and counted. -/
  | badCmd (ch : HostChan)
  /-- HOST_RESET_N: Host RESET_n resets the channel's mode and training registers with the effect of deep-sleep entry and exit. -/
  | hostResetN (ch : HostChan) (low : Bool)
  /-- BOOT_PAGE_WRITE: A host write to a boot-page word without its own row, such as a W1C or MASK field. -/
  | bootPageWrite (ch : HostChan) (off : BitVec 16) (v : DWord) (masked : Bool)
  /-- TH_COMMIT_WRITE: A host write to TH_COMMIT sets a stream's commit point or is ignored as COMMIT_BAD. -/
  | thCommitWrite (ch : HostChan) (a : BitVec 6) (v : DWord)
  /-- STREAM_DRAIN_LINE: A stream drains one staging line to its DDR4 ring, advancing B and credit. -/
  | streamDrainLine (str : BitVec 7) (bad : Bool)
  /-- TH_MAP: Maps free window SRAM blocks to exchange or staged aperture blocks. -/
  | thMap (ring : BitVec 14) (d : Desc)
  /-- TH_UNMAP: TH_MAP with flags bit 16 unmaps aperture blocks. -/
  | thUnmap (ring : BitVec 14) (d : Desc)
  /-- TH_STAGE: Starts filling staged aperture blocks from DDR4. -/
  | thStage (ring : BitVec 14) (d : Desc)
  /-- TH_STAGE_FILL_COMPLETE: The last staged line reaches SRAM, FILLING clears and TH_STAGE completes. -/
  | thStageFillComplete (g : Nat)
  /-- TH_STREAM_OPEN: Configures and opens a streaming write aperture. -/
  | thStreamOpen (ring : BitVec 14) (d : Desc)
  /-- TH_STREAM_CLOSE: Stops a stream's acceptance and completes once drained. -/
  | thStreamClose (ring : BitVec 14) (d : Desc)
  /-- HOST_ATTN_HOLDOFF_END: The 1 µs minimum deassertion of HOST_ATTN ends and a pending cause asserts the pin. -/
  | hostAttnHoldoffEnd
  /-- DOORBELL: A host doorbell write sets a ring's TAIL or CQ_HEAD or is ignored. -/
  | doorbell (ch : HostChan) (v : DWord) (masked : Bool)
  /-- DESCRIPTOR_FETCH: Basecamp fetches and checks a descriptor and runs or rejects it. -/
  | descriptorFetch (meas : BitVec 11) (bad : Bool)
  /-- NOP: Completes OK. -/
  | nop (ring : BitVec 14) (d : Desc)
  /-- CTX_OPEN: Opens a context in a partition. -/
  | ctxOpen (ring : BitVec 14) (d : Desc)
  /-- CTX_CLOSE: Closes a context, its rings, streams, blocks and rows. -/
  | ctxClose (ring : BitVec 14) (d : Desc)
  /-- RING_CREATE: Creates a ring and maps its blocks. -/
  | ringCreate (ring : BitVec 14) (d : Desc)
  /-- RING_DESTROY: Destroys one ring as CTX_CLOSE does. -/
  | ringDestroy (ring : BitVec 14) (d : Desc)
  /-- REG_READ: Copies consecutive unit registers into window SRAM. -/
  | regRead (ring : BitVec 14) (d : Desc)
  /-- REG_WRITE: Writes one unit register allowed by Table BC-7, for registers without their own row. -/
  | regWrite (ring : BitVec 14) (d : Desc)
  /-- BC_RING_SEL_WRITE: Copies a ring's state into BC_RING_INFO. -/
  | bcRingSelWrite (ring : BitVec 14)
  /-- POWER_ON: VIN in range starts S0, sequencing rails and starting Plumb and the boot page. -/
  | powerOn (seed : Option (BitVec 256))
  /-- S0_COMPLETE: S0 completes, straps are sampled and MOD_PG is asserted. -/
  | s0Complete (jtag wpN : Bool)
  /-- S1: Records trained host channels and completes. -/
  | s1 (seq : Byte)
  /-- S2: Boot ROM verifies the images, applies the repair map, clears stores and starts Maluo. -/
  | s2 (seq : Byte)
  /-- S3: Trains each DDR4 channel in full or from saved settings. -/
  | s3 (seq : Byte) (saved mpr : Byte)
  /-- S4: Qualifies the error rate of every link. -/
  | s4 (seq : Byte) (rdErr : Word) (links : List (Option TetherPeer))
  /-- S5: Runs error injections, memory and array start tests. -/
  | s5 (seq : Byte)
  /-- S6: Checks and commits the configuration block and starts frames. -/
  | s6 (seq : Byte)
  /-- S7: Clears demand mode and starts both streams. -/
  | s7 (seq : Byte)
  /-- STEP_END: A bring-up step ends in success or failure and BC_STEP_STATUS is written. -/
  | stepEnd (code unit : Byte) (dt : Nat)
  /-- STEP_TIMEOUT: A step runs past its maximum and fails with FAIL_CODE 0x01. -/
  | stepTimeout (dt : Nat)
  /-- PLAN_LOAD: Loads a signed plan image into every core's plan region. -/
  | planLoad (ring : BitVec 14) (d : Desc)
  /-- PLAN_LOAD_FILL: Replaces the fill part of the plan only. -/
  | planLoadFill (ring : BitVec 14) (d : Desc)
  /-- BU_RESTART: Stops a best-effort partition and frees its lots and rows. -/
  | buRestart (ring : BitVec 14) (d : Desc)
  /-- BU_RESUME: Tests, checks and resumes a stopped best-effort partition. -/
  | buResume (ring : BitVec 14) (d : Desc) (bad : Bool)
  /-- BU_RETRAIN: Requests live retraining of named DDR4 channels. -/
  | buRetrain (ring : BitVec 14) (d : Desc)
  /-- POWER_ESTIMATE: Every 1 µs the power manager forms the rail and input power estimates. -/
  | powerEstimate (prot fill : List Nat) (dt : Nat)
  /-- CONTROL_TICK: Every 10 µs the power manager sets the throttle duty for the next tick. -/
  | controlTick (temp : Byte) (dt : Nat)
  /-- THROTTLE_HOLD_REQUEST: A scheduled throttle request raises or extends a THROTTLE hold. -/
  | throttleHoldRequest (dt : Nat)
  /-- DROOP: VDD_CORE falls below 0.70 V and a hold is requested within 50 ns and every 1 µs. -/
  | droop (mV dt : Nat)
  /-- RAIL_MEASUREMENT: A regulator reports rail voltage and current at 100 kHz. -/
  | railMeasurement (r : Fin 8) (mV mA : Nat) (limit : Bool)
  /-- CALIBRATION_UPDATE: Every 100 ms each rail's estimate gain is updated from measured energy. -/
  | calibrationUpdate (dt : Nat)
  /-- THERMAL_SHUTDOWN: At 115 °C die temperature the main rails are switched off. -/
  | thermalShutdown (temp : Byte)
  /-- HOLDUP_READY: The hold-up bank reaches 40 V and HOLDUP_READY is set. -/
  | holdupReady (vbank : BitVec 9)
  /-- VIN_SAG: VIN stays below VIN_SAG for SAG_TIME and the save starts or bring-up ends. -/
  | vinSag (vin : BitVec 13) (us : Nat)
  /-- SAVE_COMPLETE: The hold-up save writes its trailer, the slot becomes valid and SAVED is set. -/
  | saveComplete
  /-- PW_SET_CAP: Sets the power cap. -/
  | pwSetCap (ring : BitVec 14) (d : Desc)
  /-- PW_RESTORE: Writes the newest saved lots back. -/
  | pwRestore (ring : BitVec 14) (d : Desc)
  /-- PW_SAVE_CLEAR: Marks both save slots invalid. -/
  | pwSaveClear (ring : BitVec 14) (d : Desc)
  /-- PW_LEARN_SEL_WRITE: Copies a learned phase entry into PW_LEARN. -/
  | pwLearnSelWrite (phase : Byte)
  /-- ID_ATTEST: Writes a signed attestation report. -/
  | idAttest (ring : BitVec 14) (d : Desc)
  /-- ID_CERT: Writes the public key and device certificate. -/
  | idCert (ring : BitVec 14) (d : Desc)
  /-- ID_FLASH_WRITE: Verifies an image and starts programming a flash area. -/
  | idFlashWrite (ring : BitVec 14) (d : Desc)
  /-- FLASH_PROGRAM_COMPLETE: Flash programming of an area ends and the command completes. -/
  | flashProgramComplete
  /-- ID_LOG: Copies the newest measurement log entries. -/
  | idLog (ring : BitVec 14) (d : Desc)
  /-- FB_RECORD_RELEASE: 20,000 ACLK cycles after its ACYC the merge releases a record to the ring. -/
  | fbRecordRelease (dt : Nat)
  /-- FB_REPLAY: Starts replay of a recording on a bench module. -/
  | fbReplay (ring : BitVec 14) (d : Desc)
  /-- REPLAY_RECORD_APPLY: A recorded record is applied at its ACYC during replay. -/
  | replayRecordApply (dt : Nat)
  /-- FB_STOP: Ends a replay. -/
  | fbStop (ring : BitVec 14) (d : Desc)
  /-- FAULT_LEAK: A fault counter loses 1 after WINDOW with no change. -/
  | faultLeak (site : BitVec 12) (dt : Nat)
  /-- FB_FAULT_SEL_WRITE: Copies a fault site into FB_FAULT_INFO. -/
  | fbFaultSelWrite (site : BitVec 12)
  /-- DATA_FLIT: A DATA flit is received, CRC-checked and queued. -/
  | dataFlit (p : TetherPort) (hdr : BitVec 128) (payload : BitVec 512) (crc : BitVec 32) (bad : BitVec 8) (dt : Nat)
  /-- MARKER_FLIT: A MARKER flit is received. -/
  | markerFlit (p : TetherPort) (hdr : BitVec 128) (payload : BitVec 512) (crc : BitVec 32) (bad : BitVec 8) (dt : Nat)
  /-- SYNC_FLIT: A SYNC flit is received. -/
  | syncFlit (p : TetherPort) (hdr : BitVec 128) (payload : BitVec 512) (crc : BitVec 32) (bad : BitVec 8) (dt : Nat)
  /-- ACK_FLIT: An ACK flit acknowledges flits or requests a resend. -/
  | ackFlit (p : TetherPort) (hdr : BitVec 128) (payload : BitVec 512) (crc : BitVec 32) (bad : BitVec 8) (dt : Nat)
  /-- TEST_FLIT: A PRBS31 TEST flit is received. -/
  | testFlit (p : TetherPort) (clean : Nat) (hdr : BitVec 128) (payload : BitVec 512) (crc : BitVec 32) (bad : BitVec 8) (dt : Nat)
  /-- FLIT_RELEASE: A held flit is released FIX_NS after sending. -/
  | flitRelease (p : TetherPort) (dt : Nat)
  /-- LINK_TIMEOUT_EXPIRY: Waiting units are dropped after LINK_TIMEOUT. -/
  | linkTimeoutExpiry (p : TetherPort) (dt : Nat)
  /-- LANE_RETRAIN: A lasting lane retrains the port to half width. -/
  | laneRetrain (p : TetherPort) (meas : BitVec 11) (dt : Nat)
  /-- TL_RETRAIN: Retrains a tether port at full width. -/
  | tlRetrain (ring : BitVec 14) (d : Desc) (meas : BitVec 11)
  /-- NRESET_ASSERT: NRESET low switches all regulators off. -/
  | nresetAssert
  /-- NRESET_RELEASE: NRESET release powers up and begins S0. -/
  | nresetRelease (seed : Option (BitVec 256))
  /-- REGULATOR_FAULT: A regulator fault releases MOD_PG. -/
  | regulatorFault
  /-- BYPASS: JTAG BYPASS instruction. -/
  | bypass (scan : List Bool)
  /-- SAMPLE_PRELOAD: JTAG SAMPLE/PRELOAD instruction. -/
  | samplePreload (cells scan : List Bool)
  /-- EXTEST: JTAG EXTEST instruction. -/
  | extest (cells scan : List Bool)
  /-- IDCODE: JTAG IDCODE instruction. -/
  | idcode (scan : List Bool)
  /-- HIGHZ: JTAG HIGHZ instruction. -/
  | highz (scan : List Bool)
  /-- CLAMP: JTAG CLAMP instruction. -/
  | clamp (scan : List Bool)
  /-- SAFE_VREF_FALL: A SAFE_VREF supply from the external controller falls while its line is energised, giving a readback mismatch and a MONITOR fault. -/
  | safeVrefFall (lineB : Bool)
  /-- CURRENT_LIMIT_SWITCH_OFF: A SAFE_STOP line that stays in current limit for 2 ms is switched off, and the resulting readback mismatch is a MONITOR fault. -/
  | currentLimitSwitchOff (lineB : Bool)
  /-- VIN_TURN_OFF: VIN falls below 28.0 V or is removed and the VIN-fed regulators turn off, ending the SAVED state or any running operation. -/
  | vinTurnOff
  /-- TETHER_LINK_DOWN: A tether link goes down, so transfers to its port wait, SYNC edges stop and a receiver taking SYNC from that port free-runs. -/
  | tetherLinkDown (p : TetherPort) (dt : Nat)
deriving DecidableEq, Repr

end Sys2Proof
end

