-- ==== Sys2Proof/Decode.lean ====
section
/-! DEFINITION. Words of commands. No row of spec/opcode_table.json gives its command bits: a command reaches the module over a ring, a
bus, a link or a pin, and no word of it is numbered. So no word spells a command (entry 2). -/

namespace Sys2Proof

/-- The command that a word of `nbits` bits spells by the table's bits: none, since the table gives no row any bits. -/
def decodeTableWord (_nbits _w : Nat) : Option Instr := none

end Sys2Proof
end

