-- ==== Sys2Proof/Config.lean ====
section
/-! DEFINITION. What the spec leaves open and what Keadal keeps to itself: two constants without a body, so that no proof can
see a value of them, and the names under which they are used. A value that depends on its operands is `freeFn` of a number of
its own and the operands; a fresh value is `freeValue` of a counter of the state. -/

namespace Sys2Proof.Config

/-- A fresh 64-bit value for each number taken: what the spec leaves open and the machine goes on from. -/
opaque freeValue : Nat → BitVec 64

/-- An open function of its operands, one for each first argument. -/
opaque freeFn : Nat → List Nat → Nat

/-- The reciprocal estimate of FRECIP_EST, a fixed function of the operand's bits (R94). -/
def recipEst (a : Nat) : Nat := freeFn 1 [a] % 2 ^ 32

/-- The reciprocal square-root estimate of FRSQRT_EST, a fixed function of the operand's bits (R94). -/
def rsqrtEst (a : Nat) : Nat := freeFn 2 [a] % 2 ^ 32

/-- The pair that PAIR_ADD and PAIR_MAC give for the operands' bits, within the bound of R106. -/
def pairSum (a b d : Nat) : Nat := freeFn 3 [a, b, d] % 2 ^ 64

end Sys2Proof.Config
end

