-- ==== Sys2Proof/Machine/Layouts.lean ====
section
/-! DEFINITION. The bit fields of the structures that travel as data: bundle words, slices, descriptors, records, headers
and entries, written from the tables of spec/ named beside them. R4: little-endian, bit 0 least significant. -/

namespace Sys2Proof.Machine

/-- A bit field of a structure: its lowest bit and its width. -/
structure Bits where
  lo : Nat
  w  : Nat
deriving DecidableEq, Repr

/-- The value of a field in a structure held as a number. -/
def Bits.get (b : Bits) (v : Nat) : Nat := (v >>> b.lo) % 2 ^ b.w

/-- A field's contribution to a structure that is zero there: structures are built as sums of these. -/
def Bits.put (b : Bits) (x : Nat) : Nat := (x % 2 ^ b.w) <<< b.lo

/-! Table PL-3. -/
def B.CW0_COUNT : Bits := ⟨0, 24⟩
def B.CW0_KIND : Bits := ⟨24, 4⟩
def B.CW0_TARGET : Bits := ⟨32, 15⟩
def B.CW0_COND : Bits := ⟨47, 6⟩
def B.CW0_SENSE : Bits := ⟨53, 1⟩
def B.CW0_BMODE : Bits := ⟨54, 2⟩
/-! Table PL-4. -/
def B.CW1_CORE_MASK : Bits := ⟨0, 16⟩
def B.CW1_CHAN_MASK : Bits := ⟨16, 8⟩
def B.CW1_WINDOW_ID : Bits := ⟨24, 8⟩
def B.CW1_ALT_TARGET : Bits := ⟨32, 15⟩
def B.CW1_ALT_EN : Bits := ⟨47, 1⟩
/-! Table PL-5. -/
def B.SLICE_EOP : Bits := ⟨0, 4⟩
def B.SLICE_ENG_EN : Bits := ⟨4, 8⟩
def B.SLICE_WBITS : Bits := ⟨12, 3⟩
def B.SLICE_TRANS : Bits := ⟨15, 1⟩
def B.SLICE_ABITS : Bits := ⟨16, 4⟩
def B.SLICE_ACC_CLR : Bits := ⟨20, 1⟩
def B.SLICE_A_ROW : Bits := ⟨22, 13⟩
def B.SLICE_W_ROW : Bits := ⟨35, 13⟩
def B.SLICE_O_ROW : Bits := ⟨48, 13⟩
def B.SLICE_A_STEP : Bits := ⟨64, 10⟩
def B.SLICE_W_STEP : Bits := ⟨74, 10⟩
def B.SLICE_O_STEP : Bits := ⟨84, 10⟩
def B.SLICE_VOP : Bits := ⟨128, 8⟩
def B.SLICE_VFMT : Bits := ⟨136, 4⟩
def B.SLICE_VSA : Bits := ⟨140, 20⟩
def B.SLICE_VSB : Bits := ⟨160, 20⟩
def B.SLICE_VD : Bits := ⟨180, 20⟩
def B.SLICE_VLEN : Bits := ⟨200, 10⟩
def B.SLICE_XOP : Bits := ⟨256, 4⟩
def B.SLICE_XLEN : Bits := ⟨260, 12⟩
def B.SLICE_XSRC : Bits := ⟨272, 48⟩
def B.SLICE_XDST : Bits := ⟨320, 48⟩
def B.SLICE_PART : Bits := ⟨384, 3⟩
def B.SLICE_CLASS : Bits := ⟨387, 2⟩
def B.SLICE_SLOT_ID : Bits := ⟨389, 8⟩
/-! Table PL-6. -/
def B.SLOT_DOP : Bits := ⟨0, 3⟩
def B.SLOT_CORE : Bits := ⟨3, 4⟩
def B.SLOT_CLASS : Bits := ⟨7, 2⟩
def B.SLOT_PART : Bits := ⟨9, 3⟩
def B.SLOT_MCYC : Bits := ⟨16, 16⟩
/-! Table NF-6. -/
def B.TSCALE_ROW_EXP : Bits := ⟨0, 1024⟩
def B.TSCALE_COL_EXP : Bits := ⟨1024, 1024⟩
def B.TSCALE_SCALE : Bits := ⟨2048, 32⟩
/-! Table SQ-1. -/
def B.ROW_STATE : Bits := ⟨0, 3⟩
def B.ROW_AUTO : Bits := ⟨3, 1⟩
def B.ROW_RESETS : Bits := ⟨4, 4⟩
def B.ROW_CONTEXT : Bits := ⟨8, 12⟩
def B.ROW_POS : Bits := ⟨32, 21⟩
def B.ROW_LOG_LEN : Bits := ⟨64, 21⟩
def B.ROW_HIGH : Bits := ⟨96, 21⟩
def B.ROW_COLUMNS : Bits := ⟨128, 16⟩
def B.ROW_PAGE_WAIT : Bits := ⟨144, 16⟩
def B.ROW_NEXT_TOKEN : Bits := ⟨160, 32⟩
def B.ROW_NEXT_VALID : Bits := ⟨192, 1⟩
def B.ROW_LAST_STEP : Bits := ⟨256, 64⟩
/-! Table SQ-2. -/
def B.TOK_TOKEN : Bits := ⟨0, 32⟩
def B.TOK_POS : Bits := ⟨32, 20⟩
def B.TOK_ROW : Bits := ⟨52, 8⟩
def B.TOK_RESET : Bits := ⟨60, 1⟩
def B.TOK_OUT : Bits := ⟨61, 1⟩
def B.TOK_RECOMPUTE : Bits := ⟨62, 1⟩
/-! Table SQ-4. -/
def B.ITEM_VALID : Bits := ⟨0, 1⟩
def B.ITEM_ROW : Bits := ⟨8, 8⟩
def B.ITEM_INDEX : Bits := ⟨16, 16⟩
def B.ITEM_FIRST_POS : Bits := ⟨32, 21⟩
def B.ITEM_COUNT : Bits := ⟨64, 14⟩
def B.ITEM_SEG_START : Bits := ⟨96, 21⟩
def B.ITEM_LIST_FIRST : Bits := ⟨128, 13⟩
/-! Table IM-2. -/
def B.IDESC_MODE : Bits := ⟨0, 2⟩
def B.IDESC_EFMT : Bits := ⟨2, 3⟩
def B.IDESC_LB_BASE : Bits := ⟨8, 20⟩
def B.IDESC_ROW_PITCH : Bits := ⟨32, 16⟩
def B.IDESC_LB_ROWS : Bits := ⟨48, 10⟩
def B.IDESC_IN_W : Bits := ⟨64, 13⟩
def B.IDESC_IN_H : Bits := ⟨80, 13⟩
def B.IDESC_OUT_W : Bits := ⟨96, 13⟩
def B.IDESC_Y0 : Bits := ⟨112, 12⟩
def B.IDESC_STRIPE_ROWS : Bits := ⟨128, 9⟩
def B.IDESC_POS_OFF : Bits := ⟨144, 12⟩
def B.IDESC_IN_C : Bits := ⟨160, 13⟩
def B.IDESC_C_TOT : Bits := ⟨176, 13⟩
def B.IDESC_CH_OFF : Bits := ⟨192, 12⟩
def B.IDESC_KH : Bits := ⟨208, 4⟩
def B.IDESC_KW : Bits := ⟨212, 4⟩
def B.IDESC_SH : Bits := ⟨216, 2⟩
def B.IDESC_SW : Bits := ⟨218, 2⟩
def B.IDESC_DH : Bits := ⟨220, 2⟩
def B.IDESC_DW : Bits := ⟨222, 2⟩
def B.IDESC_PAD_T : Bits := ⟨224, 4⟩
def B.IDESC_PAD_L : Bits := ⟨228, 4⟩
def B.IDESC_PAD_VAL : Bits := ⟨232, 16⟩
def B.IDESC_ROW_LO : Bits := ⟨256, 12⟩
def B.IDESC_OH : Bits := ⟨272, 8⟩
def B.IDESC_OW : Bits := ⟨280, 8⟩
def B.IDESC_BOX_ADDR : Bits := ⟨288, 20⟩
def B.IDESC_BOX_COUNT : Bits := ⟨320, 16⟩
def B.IDESC_BOX_FIRST : Bits := ⟨336, 16⟩
/-! Table IM-3. -/
def B.CODEC_BASE : Bits := ⟨0, 8⟩
def B.CODEC_SHIFT : Bits := ⟨8, 3⟩
def B.CODEC_Q : Bits := ⟨16, 48⟩
/-! Table SN-5. -/
def B.SHDR_STREAM : Bits := ⟨0, 6⟩
def B.SHDR_DOMAIN : Bits := ⟨8, 8⟩
def B.SHDR_INLINE : Bits := ⟨16, 1⟩
def B.SHDR_LEN : Bits := ⟨32, 32⟩
def B.SHDR_SEQ : Bits := ⟨64, 64⟩
def B.SHDR_STAMP_FIRST : Bits := ⟨128, 64⟩
def B.SHDR_STAMP_LAST : Bits := ⟨192, 64⟩
def B.SHDR_FRAME : Bits := ⟨256, 48⟩
def B.SHDR_ADDR : Bits := ⟨320, 48⟩
/-! Table DT-2. -/
def B.TAP_SOURCE : Bits := ⟨0, 6⟩
def B.TAP_COMPONENT : Bits := ⟨8, 10⟩
def B.TAP_OFFSET : Bits := ⟨24, 8⟩
def B.TAP_FORMAT : Bits := ⟨32, 3⟩
def B.TAP_SCALE : Bits := ⟨64, 32⟩
def B.TAP_BIAS : Bits := ⟨96, 32⟩
def B.TAP_VAR : Bits := ⟨128, 32⟩
/-! Table DT-3. -/
def B.FHDR_INSTANT : Bits := ⟨0, 48⟩
def B.FHDR_COUNT : Bits := ⟨48, 7⟩
def B.FHDR_SEQ : Bits := ⟨64, 64⟩
def B.FHDR_FRAME : Bits := ⟨128, 48⟩
def B.FHDR_DOMAIN : Bits := ⟨176, 8⟩
def B.FHDR_STAMP : Bits := ⟨184, 64⟩
/-! Table DT-4. -/
def B.FENT_KIND : Bits := ⟨0, 2⟩
def B.FENT_COMPONENT : Bits := ⟨2, 10⟩
def B.FENT_CLASS : Bits := ⟨12, 8⟩
def B.FENT_VAL : Bits := ⟨32, 96⟩
def B.FENT_VAR : Bits := ⟨128, 96⟩
/-! Table DT-5. -/
def B.DET_POS : Bits := ⟨0, 96⟩
def B.DET_VAR : Bits := ⟨96, 96⟩
def B.DET_CLASS : Bits := ⟨192, 8⟩
def B.DET_SOURCE : Bits := ⟨200, 6⟩
def B.DET_VALID : Bits := ⟨206, 1⟩
/-! Table DT-6. -/
def B.TRK_POS : Bits := ⟨0, 96⟩
def B.TRK_VEL : Bits := ⟨96, 96⟩
def B.TRK_VAR : Bits := ⟨192, 96⟩
def B.TRK_ID : Bits := ⟨288, 16⟩
def B.TRK_GEN : Bits := ⟨304, 8⟩
def B.TRK_STATE : Bits := ⟨312, 2⟩
def B.TRK_GROUP : Bits := ⟨314, 2⟩
def B.TRK_HITS : Bits := ⟨316, 8⟩
def B.TRK_MISSES : Bits := ⟨324, 8⟩
def B.TRK_CLASS : Bits := ⟨332, 8⟩
/-! Table DT-7. -/
def B.FUSED_FRAME : Bits := ⟨0, 48⟩
def B.FUSED_STATUS : Bits := ⟨48, 16⟩
def B.FUSED_STAMP : Bits := ⟨64, 64⟩
def B.FUSED_DOMAIN : Bits := ⟨128, 8⟩
def B.FUSED_UNSYNCED : Bits := ⟨136, 1⟩
def B.FUSED_ASSOC_STALE : Bits := ⟨137, 4⟩
def B.FUSED_AUCTION_CAP : Bits := ⟨141, 4⟩
def B.FUSED_COMPONENTS : Bits := ⟨145, 11⟩
def B.FUSED_TRACKS : Bits := ⟨156, 11⟩
def B.FUSED_USED : Bits := ⟨512, 64⟩
def B.FUSED_STALE : Bits := ⟨576, 64⟩
def B.FUSED_LATE : Bits := ⟨640, 64⟩
def B.FUSED_LATE_DROP : Bits := ⟨704, 64⟩
def B.FUSED_CONFLICT : Bits := ⟨768, 64⟩
def B.FUSED_QUAR : Bits := ⟨832, 64⟩
def B.FUSED_REJECT : Bits := ⟨896, 64⟩
def B.FUSED_AGES : Bits := ⟨1024, 4096⟩
/-! Table TV-2. -/
def B.TVH_KIND : Bits := ⟨0, 8⟩
def B.TVH_LENGTH : Bits := ⟨32, 32⟩
def B.TVH_N : Bits := ⟨64, 14⟩
def B.TVH_M : Bits := ⟨80, 14⟩
def B.TVH_NNZ_P : Bits := ⟨96, 17⟩
def B.TVH_NNZ_A : Bits := ⟨128, 19⟩
def B.TVH_LNZ : Bits := ⟨160, 21⟩
def B.TVH_ENTRIES : Bits := ⟨192, 18⟩
def B.TVH_RANGES : Bits := ⟨224, 13⟩
def B.TVH_PARAMS : Bits := ⟨240, 15⟩
def B.TVH_LIN_WORDS : Bits := ⟨256, 18⟩
def B.TVH_SCHED_LEN : Bits := ⟨288, 32⟩
def B.TVH_ITER_CAP : Bits := ⟨320, 16⟩
/-! Table TV-5. -/
def B.ASM_TARGET : Bits := ⟨0, 3⟩
def B.ASM_ACCUM : Bits := ⟨3, 1⟩
def B.ASM_SRC : Bits := ⟨4, 4⟩
def B.ASM_DEST : Bits := ⟨8, 20⟩
def B.ASM_SRC_INDEX : Bits := ⟨32, 32⟩
def B.ASM_SCALE : Bits := ⟨64, 16⟩
def B.ASM_OFFSET : Bits := ⟨80, 16⟩
def B.ASM_RANGE : Bits := ⟨96, 12⟩
/-! Table TV-14. -/
def B.TVO_FRAME : Bits := ⟨0, 48⟩
def B.TVO_STATUS : Bits := ⟨48, 16⟩
def B.TVO_STAMP : Bits := ⟨64, 64⟩
def B.TVO_DOMAIN : Bits := ⟨128, 8⟩
def B.TVO_PROBLEM : Bits := ⟨136, 6⟩
def B.TVO_RUN : Bits := ⟨142, 4⟩
def B.TVO_CONVERGED : Bits := ⟨146, 1⟩
def B.TVO_CAPPED : Bits := ⟨147, 1⟩
def B.TVO_PIVOT : Bits := ⟨148, 1⟩
def B.TVO_SAT : Bits := ⟨149, 1⟩
def B.TVO_CLAMP : Bits := ⟨150, 1⟩
def B.TVO_NO_INPUT : Bits := ⟨151, 1⟩
def B.TVO_UNSYNCED : Bits := ⟨152, 1⟩
def B.TVO_WARM : Bits := ⟨153, 1⟩
def B.TVO_REFACTOR : Bits := ⟨154, 1⟩
def B.TVO_ITERS : Bits := ⟨160, 16⟩
def B.TVO_PIVOTS : Bits := ⟨176, 16⟩
def B.TVO_R_PRIM : Bits := ⟨192, 32⟩
def B.TVO_R_DUAL : Bits := ⟨224, 32⟩
def B.TVO_STEP : Bits := ⟨256, 64⟩
def B.TVO_AGE_DATUM : Bits := ⟨320, 8⟩
def B.TVO_AGE_STADIA : Bits := ⟨328, 8⟩
def B.TVO_AGE_LIN : Bits := ⟨336, 8⟩
def B.TVO_AGE_OUT : Bits := ⟨344, 8⟩
/-! Table GL-2. -/
def B.BANK_NS : Bits := ⟨0, 6⟩
def B.BANK_NU : Bits := ⟨6, 6⟩
def B.BANK_NY : Bits := ⟨12, 4⟩
def B.BANK_INIT : Bits := ⟨16, 1⟩
/-! Table GL-3. -/
def B.GIN_SRC : Bits := ⟨0, 4⟩
def B.GIN_INDEX : Bits := ⟨4, 6⟩
def B.GIN_WORD : Bits := ⟨32, 32⟩
def B.GIN_FORMAT : Bits := ⟨64, 3⟩
def B.GIN_FRAC : Bits := ⟨72, 6⟩
/-! Table GL-4. -/
def B.GREC_CHANNEL : Bits := ⟨0, 6⟩
def B.GREC_DOMAIN : Bits := ⟨8, 8⟩
def B.GREC_STATUS : Bits := ⟨16, 16⟩
def B.GREC_FLAGS : Bits := ⟨32, 8⟩
def B.GREC_SWAPPED : Bits := ⟨40, 1⟩
def B.GREC_BANK : Bits := ⟨41, 1⟩
def B.GREC_AGE_REF : Bits := ⟨48, 8⟩
def B.GREC_SAMPLE : Bits := ⟨64, 64⟩
def B.GREC_FRAME : Bits := ⟨128, 48⟩
def B.GREC_STAMP : Bits := ⟨192, 64⟩
def B.GREC_PAYLOAD : Bits := ⟨256, 256⟩
/-! Table ST-2. -/
def B.UPD_BX : Bits := ⟨0, 16⟩
def B.UPD_BY : Bits := ⟨16, 16⟩
def B.UPD_BZ : Bits := ⟨32, 16⟩
def B.UPD_OP : Bits := ⟨48, 1⟩
def B.UPD_SLOT : Bits := ⟨64, 15⟩
/-! Table ST-3. -/
def B.LINK_PARENT : Bits := ⟨0, 8⟩
def B.LINK_TYPE : Bits := ⟨8, 2⟩
def B.LINK_JOINT : Bits := ⟨16, 6⟩
def B.LINK_RF : Bits := ⟨32, 288⟩
def B.LINK_PF : Bits := ⟨320, 96⟩
def B.LINK_AXIS : Bits := ⟨416, 96⟩
def B.LINK_LO : Bits := ⟨512, 32⟩
def B.LINK_HI : Bits := ⟨544, 32⟩
/-! Table ST-4. -/
def B.TRAJ_FRAME : Bits := ⟨0, 48⟩
def B.TRAJ_STATUS : Bits := ⟨48, 16⟩
def B.TRAJ_STAMP : Bits := ⟨64, 64⟩
def B.TRAJ_DOMAIN : Bits := ⟨128, 8⟩
def B.TRAJ_UNSYNCED : Bits := ⟨136, 1⟩
def B.TRAJ_HOLD : Bits := ⟨137, 1⟩
def B.TRAJ_SUBSTITUTE : Bits := ⟨138, 1⟩
def B.TRAJ_NO_PATH : Bits := ⟨139, 1⟩
def B.TRAJ_TIMEOUT : Bits := ⟨140, 1⟩
def B.TRAJ_HOLD_BLOCKED : Bits := ⟨141, 1⟩
def B.TRAJ_HOLD_EMPTY : Bits := ⟨142, 1⟩
def B.TRAJ_PROP_STALE : Bits := ⟨143, 1⟩
def B.TRAJ_PROP_BAD : Bits := ⟨144, 1⟩
def B.TRAJ_INVALIDATED : Bits := ⟨145, 1⟩
def B.TRAJ_CANDIDATE : Bits := ⟨152, 7⟩
def B.TRAJ_WP : Bits := ⟨160, 8⟩
def B.TRAJ_DOF : Bits := ⟨168, 7⟩
def B.TRAJ_AGE_PROP : Bits := ⟨176, 8⟩
def B.TRAJ_CHECKED : Bits := ⟨184, 8⟩
def B.TRAJ_EPOCH : Bits := ⟨192, 64⟩
def B.TRAJ_PROP_SEQ : Bits := ⟨256, 64⟩
def B.TRAJ_PASSED : Bits := ⟨320, 7⟩
def B.TRAJ_FAIL_WP : Bits := ⟨328, 8⟩
def B.TRAJ_FAIL_SPHERE : Bits := ⟨336, 9⟩
def B.TRAJ_FAIL_CAUSE : Bits := ⟨345, 3⟩
def B.TRAJ_CLEARANCE : Bits := ⟨352, 32⟩
/-! Table PB-3. -/
def B.RINS_OP : Bits := ⟨0, 6⟩
def B.RINS_RD : Bits := ⟨6, 6⟩
def B.RINS_RA : Bits := ⟨12, 6⟩
def B.RINS_RB : Bits := ⟨18, 6⟩
def B.RINS_IMM : Bits := ⟨32, 32⟩
/-! Table BC-1. -/
def B.RSB_SQ_HEAD : Bits := ⟨0, 16⟩
def B.RSB_CQ_TAIL : Bits := ⟨16, 16⟩
def B.RSB_TAIL : Bits := ⟨32, 16⟩
def B.RSB_CQ_HEAD : Bits := ⟨48, 16⟩
def B.RSB_RING : Bits := ⟨64, 14⟩
def B.RSB_LOG_SIZE : Bits := ⟨80, 4⟩
def B.RSB_BAD_DOORBELL : Bits := ⟨96, 16⟩
/-! Table BC-2. -/
def B.DESC_OPCODE : Bits := ⟨0, 16⟩
def B.DESC_FLAGS : Bits := ⟨16, 8⟩
def B.DESC_FENCE : Bits := ⟨24, 1⟩
def B.DESC_CONTEXT : Bits := ⟨32, 12⟩
def B.DESC_PART : Bits := ⟨44, 3⟩
def B.DESC_RING : Bits := ⟨50, 14⟩
def B.DESC_TAG : Bits := ⟨64, 32⟩
def B.DESC_LENGTH : Bits := ⟨96, 32⟩
def B.DESC_OPERANDS : Bits := ⟨128, 320⟩
def B.DESC_CRC : Bits := ⟨480, 32⟩
/-! Table BC-4. -/
def B.CPL_TAG : Bits := ⟨0, 32⟩
def B.CPL_STATUS : Bits := ⟨32, 16⟩
def B.CPL_DETAIL : Bits := ⟨48, 16⟩
def B.CPL_FRAME : Bits := ⟨64, 32⟩
def B.CPL_EPOCH : Bits := ⟨96, 16⟩
def B.CPL_DOMAIN : Bits := ⟨112, 8⟩
def B.CPL_PHASE : Bits := ⟨120, 1⟩
def B.CPL_STAMP : Bits := ⟨128, 64⟩
def B.CPL_RESULT : Bits := ⟨192, 32⟩
def B.CPL_CRC : Bits := ⟨224, 32⟩
/-! Table ID-2. -/
def B.SIG_KIND : Bits := ⟨0, 8⟩
def B.SIG_KEY : Bits := ⟨8, 8⟩
def B.SIG_LENGTH : Bits := ⟨32, 32⟩
def B.SIG_DIGEST : Bits := ⟨64, 256⟩
def B.SIG_SIGNATURE : Bits := ⟨512, 26472⟩
/-! Table ID-8. -/
def B.ATT_FORMAT : Bits := ⟨0, 8⟩
def B.ATT_STEPPING : Bits := ⟨8, 8⟩
def B.ATT_BOOT_SLOT : Bits := ⟨16, 1⟩
def B.ATT_PB_MODE : Bits := ⟨17, 2⟩
def B.ATT_DONE : Bits := ⟨19, 3⟩
def B.ATT_RESTORED : Bits := ⟨22, 1⟩
def B.ATT_FW_VERSION : Bits := ⟨32, 32⟩
def B.ATT_FRAME : Bits := ⟨64, 48⟩
def B.ATT_NONCE : Bits := ⟨128, 256⟩
def B.ATT_DEVICE_ID : Bits := ⟨384, 256⟩
def B.ATT_VENDOR_KEY : Bits := ⟨640, 256⟩
def B.ATT_BOOT_DIGEST : Bits := ⟨896, 256⟩
def B.ATT_OWNER_DIGEST : Bits := ⟨1152, 256⟩
def B.ATT_CONFIG_DIGEST : Bits := ⟨1408, 256⟩
def B.ATT_PLAN_FRAME : Bits := ⟨1664, 256⟩
def B.ATT_PLAN_FILL : Bits := ⟨1920, 256⟩
def B.ATT_RULE_DIGEST : Bits := ⟨2176, 256⟩
def B.ATT_MEASURE : Bits := ⟨2432, 256⟩
def B.ATT_MEASURE_COUNT : Bits := ⟨2688, 64⟩
/-! Table FB-1. -/
def B.FBR_KIND : Bits := ⟨0, 8⟩
def B.FBR_CONT : Bits := ⟨8, 1⟩
def B.FBR_MORE : Bits := ⟨9, 1⟩
def B.FBR_LEN : Bits := ⟨16, 16⟩
def B.FBR_CRC : Bits := ⟨32, 32⟩
def B.FBR_RECNO : Bits := ⟨64, 64⟩
def B.FBR_ACYC : Bits := ⟨128, 64⟩
def B.FBR_FRAME : Bits := ⟨192, 48⟩
def B.FBR_DOMAIN : Bits := ⟨240, 8⟩
/-! Table TL-2. -/
def B.FLIT_KIND : Bits := ⟨0, 3⟩
def B.FLIT_RETRY : Bits := ⟨3, 1⟩
def B.FLIT_PART : Bits := ⟨4, 3⟩
def B.FLIT_CLASS : Bits := ⟨7, 2⟩
def B.FLIT_SEQ : Bits := ⟨9, 12⟩
def B.FLIT_ACK_SEQ : Bits := ⟨21, 12⟩
def B.FLIT_DEST : Bits := ⟨33, 38⟩
def B.FLIT_UNSYNCED : Bits := ⟨81, 1⟩

end Sys2Proof.Machine
end

