-- ==== Sys2Proof/Machine/Regs.lean ====
section
/-! DEFINITION. Every register of the spec's register maps and every field of its register tables, written from the
tables of spec/ (the caption of each table stands beside its registers). R5, R6, R10: a register is 64 bits wide and lies at an
offset of its unit block; unit block `0x11` is the model's name for the boot page of the host port (Table TH-4), whose
words lie at channel offsets and not in a unit block. -/

namespace Sys2Proof.Machine

/-- A register, or an array of registers at equal strides: entry `i` lies at `off + stride * (i % n) + stride2 * (i / n)`.
`reset` is the value after S0; the masks give the bits of each access code of R6. -/
structure RegArr where
  unit    : Nat
  off     : Nat
  n       : Nat
  stride  : Nat
  stride2 : Nat
  count   : Nat
  reset   : BitVec 64
  rw      : BitVec 64
  w1c     : BitVec 64
  rc      : BitVec 64
  wo      : BitVec 64
deriving DecidableEq, Repr

/-- A field of a register: its lowest bit and its width. -/
structure RegField where
  reg : RegArr
  lo  : Nat
  w   : Nat
deriving DecidableEq, Repr

/-- The key of entry `i` of a register array in the register file: unit block and offset. -/
def RegArr.key (r : RegArr) (i : Nat) : Nat :=
  r.unit * 0x1000000 + r.off + r.stride * (i % r.n) + r.stride2 * (i / r.n)

/-- PL_CTRL (Table PL-10). -/
def R.PL_CTRL : RegArr := ⟨0x1, 0x0, 1, 0, 0, 1, 0x0, 0x10, 0x0, 0x0, 0x6F⟩
def F.PL_CTRL_FRAME_GO : RegField := ⟨R.PL_CTRL, 0, 1⟩
def F.PL_CTRL_FILL_GO : RegField := ⟨R.PL_CTRL, 1, 1⟩
def F.PL_CTRL_FILL_STOP : RegField := ⟨R.PL_CTRL, 2, 1⟩
def F.PL_CTRL_STOP : RegField := ⟨R.PL_CTRL, 3, 1⟩
def F.PL_CTRL_DEBUG_EN : RegField := ⟨R.PL_CTRL, 4, 1⟩
def F.PL_CTRL_DEBUG_HOLD : RegField := ⟨R.PL_CTRL, 5, 1⟩
def F.PL_CTRL_DEBUG_STEP : RegField := ⟨R.PL_CTRL, 6, 1⟩
/-- PL_CONFIG (Table PL-11). -/
def R.PL_CONFIG : RegArr := ⟨0x1, 0x8, 1, 0, 0, 1, 0x4E219000020, 0xFFFFFFFF003F, 0x0, 0x0, 0x0⟩
def F.PL_CONFIG_PLAN_SIZE : RegField := ⟨R.PL_CONFIG, 0, 6⟩
def F.PL_CONFIG_HOLD_RESERVE : RegField := ⟨R.PL_CONFIG, 16, 16⟩
def F.PL_CONFIG_TETHER_WAIT : RegField := ⟨R.PL_CONFIG, 32, 16⟩
/-- PL_ENTRY (Table PL-12). -/
def R.PL_ENTRY : RegArr := ⟨0x1, 0x10, 1, 0, 0, 1, 0x0, 0x7FFF7FFF7FFF, 0x0, 0x0, 0x0⟩
def F.PL_ENTRY_FRAME_ENTRY : RegField := ⟨R.PL_ENTRY, 0, 15⟩
def F.PL_ENTRY_FILL_ENTRY : RegField := ⟨R.PL_ENTRY, 16, 15⟩
def F.PL_ENTRY_FILL_BASE : RegField := ⟨R.PL_ENTRY, 32, 15⟩
/-- PL_STATUS (Table PL-13). -/
def R.PL_STATUS : RegArr := ⟨0x1, 0x18, 1, 0, 0, 1, 0x0, 0x0, 0x0, 0x0, 0x0⟩
def F.PL_STATUS_FRAME_STATE : RegField := ⟨R.PL_STATUS, 0, 2⟩
def F.PL_STATUS_FILL_STATE : RegField := ⟨R.PL_STATUS, 2, 2⟩
def F.PL_STATUS_IN_WINDOW : RegField := ⟨R.PL_STATUS, 4, 1⟩
def F.PL_STATUS_WINDOW_ID : RegField := ⟨R.PL_STATUS, 5, 8⟩
def F.PL_STATUS_HOLDING : RegField := ⟨R.PL_STATUS, 13, 1⟩
def F.PL_STATUS_HOLD_CAUSE : RegField := ⟨R.PL_STATUS, 14, 4⟩
def F.PL_STATUS_UNSYNCED : RegField := ⟨R.PL_STATUS, 18, 1⟩
/-- PL_STEP (its line of the register map). -/
def R.PL_STEP : RegArr := ⟨0x1, 0x20, 1, 0, 0, 1, 0x0, 0x0, 0x0, 0x0, 0x0⟩
def F.PL_STEP_STEP : RegField := ⟨R.PL_STEP, 0, 64⟩
/-- PL_HOLD_LOG (Table PL-14). -/
def R.PL_HOLD_LOG : RegArr := ⟨0x1, 0x28, 1, 0, 0, 1, 0x0, 0x0, 0x0, 0xFFFFFFFFFFFFFFFF, 0x0⟩
def F.PL_HOLD_LOG_CAUSE : RegField := ⟨R.PL_HOLD_LOG, 0, 4⟩
def F.PL_HOLD_LOG_CAUSE_MASK : RegField := ⟨R.PL_HOLD_LOG, 4, 8⟩
def F.PL_HOLD_LOG_VALID : RegField := ⟨R.PL_HOLD_LOG, 12, 1⟩
def F.PL_HOLD_LOG_LOST : RegField := ⟨R.PL_HOLD_LOG, 13, 1⟩
def F.PL_HOLD_LOG_LENGTH : RegField := ⟨R.PL_HOLD_LOG, 14, 18⟩
def F.PL_HOLD_LOG_START_STEP : RegField := ⟨R.PL_HOLD_LOG, 32, 32⟩
/-- PL_FAULT (Table PL-15). -/
def R.PL_FAULT : RegArr := ⟨0x1, 0x30, 1, 0, 0, 1, 0x0, 0x0, 0x0, 0x0, 0x0⟩
def F.PL_FAULT_FCAUSE : RegField := ⟨R.PL_FAULT, 0, 4⟩
def F.PL_FAULT_STREAM : RegField := ⟨R.PL_FAULT, 4, 1⟩
def F.PL_FAULT_BUNDLE : RegField := ⟨R.PL_FAULT, 5, 15⟩
def F.PL_FAULT_FRAME : RegField := ⟨R.PL_FAULT, 32, 32⟩
/-- PL_COUNTS (Table PL-16). -/
def R.PL_COUNTS : RegArr := ⟨0x1, 0x38, 1, 0, 0, 1, 0x0, 0x0, 0x0, 0x0, 0x0⟩
def F.PL_COUNTS_ABANDON : RegField := ⟨R.PL_COUNTS, 0, 16⟩
def F.PL_COUNTS_OVERRUN : RegField := ⟨R.PL_COUNTS, 16, 16⟩
def F.PL_COUNTS_FRAME_LATE : RegField := ⟨R.PL_COUNTS, 32, 16⟩
/-- PL_HOLD_CYC (its line of the register map). -/
def R.PL_HOLD_CYC : RegArr := ⟨0x1, 0x40, 8, 8, 0, 8, 0x0, 0x0, 0x0, 0x0, 0x0⟩
def F.PL_HOLD_CYC_CYCLES : RegField := ⟨R.PL_HOLD_CYC, 0, 64⟩
/-- PL_COND (its line of the register map). -/
def R.PL_COND : RegArr := ⟨0x1, 0x100, 64, 8, 0, 64, 0x0, 0xFFFFFFFF, 0x0, 0x0, 0x0⟩
def F.PL_COND_VALUE : RegField := ⟨R.PL_COND, 0, 32⟩
/-- PL_COND_OWN (Table PL-17). -/
def R.PL_COND_OWN : RegArr := ⟨0x1, 0xC00, 64, 8, 0, 64, 0x0, 0xF, 0x0, 0x0, 0x0⟩
def F.PL_COND_OWN_OWNER : RegField := ⟨R.PL_COND_OWN, 0, 3⟩
def F.PL_COND_OWN_VALID : RegField := ⟨R.PL_COND_OWN, 3, 1⟩
/-- PL_PUB_MAP (Table PL-18). -/
def R.PL_PUB_MAP : RegArr := ⟨0x1, 0xE00, 16, 8, 0, 16, 0x0, 0xF3, 0x0, 0x0, 0x0⟩
def F.PL_PUB_MAP_KIND : RegField := ⟨R.PL_PUB_MAP, 0, 2⟩
def F.PL_PUB_MAP_INDEX : RegField := ⟨R.PL_PUB_MAP, 4, 4⟩
/-- PL_ENG_STATUS (Table EA-5). -/
def R.PL_ENG_STATUS : RegArr := ⟨0x1, 0x400, 128, 8, 0, 128, 0x0, 0x0, 0x7F0000, 0xFFFF, 0x0⟩
def F.PL_ENG_STATUS_SAT_TILES : RegField := ⟨R.PL_ENG_STATUS, 0, 16⟩
def F.PL_ENG_STATUS_SAT : RegField := ⟨R.PL_ENG_STATUS, 16, 1⟩
def F.PL_ENG_STATUS_DRAIN_OVERRUN : RegField := ⟨R.PL_ENG_STATUS, 17, 1⟩
def F.PL_ENG_STATUS_POISON : RegField := ⟨R.PL_ENG_STATUS, 18, 1⟩
def F.PL_ENG_STATUS_WRITE_CLASH : RegField := ⟨R.PL_ENG_STATUS, 19, 1⟩
def F.PL_ENG_STATUS_PASS_PARTIAL : RegField := ⟨R.PL_ENG_STATUS, 20, 1⟩
def F.PL_ENG_STATUS_TILE_MISMATCH : RegField := ⟨R.PL_ENG_STATUS, 21, 1⟩
def F.PL_ENG_STATUS_ECC_CORR : RegField := ⟨R.PL_ENG_STATUS, 22, 1⟩
def F.PL_ENG_STATUS_LIVE : RegField := ⟨R.PL_ENG_STATUS, 23, 1⟩
def F.PL_ENG_STATUS_PASS : RegField := ⟨R.PL_ENG_STATUS, 24, 5⟩
def F.PL_ENG_STATUS_PHYS : RegField := ⟨R.PL_ENG_STATUS, 32, 4⟩
def F.PL_ENG_STATUS_SPARE_COLS : RegField := ⟨R.PL_ENG_STATUS, 36, 3⟩
/-- PL_VEC_STATUS (Table NF-7). -/
def R.PL_VEC_STATUS : RegArr := ⟨0x1, 0x800, 16, 8, 0, 16, 0x0, 0x0, 0x7FF, 0xFFFFFFFF00000000, 0x0⟩
def F.PL_VEC_STATUS_INVALID : RegField := ⟨R.PL_VEC_STATUS, 0, 1⟩
def F.PL_VEC_STATUS_DIV_ZERO : RegField := ⟨R.PL_VEC_STATUS, 1, 1⟩
def F.PL_VEC_STATUS_OVERFLOW : RegField := ⟨R.PL_VEC_STATUS, 2, 1⟩
def F.PL_VEC_STATUS_UNDERFLOW : RegField := ⟨R.PL_VEC_STATUS, 3, 1⟩
def F.PL_VEC_STATUS_INEXACT : RegField := ⟨R.PL_VEC_STATUS, 4, 1⟩
def F.PL_VEC_STATUS_INT_DIV0 : RegField := ⟨R.PL_VEC_STATUS, 5, 1⟩
def F.PL_VEC_STATUS_INT_OVF : RegField := ⟨R.PL_VEC_STATUS, 6, 1⟩
def F.PL_VEC_STATUS_SAT : RegField := ⟨R.PL_VEC_STATUS, 7, 1⟩
def F.PL_VEC_STATUS_NAN_IN : RegField := ⟨R.PL_VEC_STATUS, 8, 1⟩
def F.PL_VEC_STATUS_PLAN_REGION : RegField := ⟨R.PL_VEC_STATUS, 9, 1⟩
def F.PL_VEC_STATUS_WRITE_CLASH : RegField := ⟨R.PL_VEC_STATUS, 10, 1⟩
def F.PL_VEC_STATUS_LAST_PART : RegField := ⟨R.PL_VEC_STATUS, 16, 3⟩
def F.PL_VEC_STATUS_LAST_SLOT : RegField := ⟨R.PL_VEC_STATUS, 19, 8⟩
def F.PL_VEC_STATUS_ITER_SKIPPED : RegField := ⟨R.PL_VEC_STATUS, 32, 32⟩
/-- PL_VEC_HIST (Table NF-8). -/
def R.PL_VEC_HIST : RegArr := ⟨0x1, 0x880, 16, 8, 0, 16, 0x0, 0x1FF, 0x0, 0x0, 0x200⟩
def F.PL_VEC_HIST_SLOT : RegField := ⟨R.PL_VEC_HIST, 0, 8⟩
def F.PL_VEC_HIST_EN : RegField := ⟨R.PL_VEC_HIST, 8, 1⟩
def F.PL_VEC_HIST_CLEAR : RegField := ⟨R.PL_VEC_HIST, 9, 1⟩
def F.PL_VEC_HIST_PART : RegField := ⟨R.PL_VEC_HIST, 10, 3⟩
/-- PL_SEQ_CFG (Table SQ-8). -/
def R.PL_SEQ_CFG : RegArr := ⟨0x1, 0x900, 6, 64, 0, 6, 0x0, 0x7FFF7F7FFFFFFF, 0x0, 0x0, 0x0⟩
def F.PL_SEQ_CFG_ROWS : RegField := ⟨R.PL_SEQ_CFG, 0, 9⟩
def F.PL_SEQ_CFG_MAX_TOK : RegField := ⟨R.PL_SEQ_CFG, 9, 7⟩
def F.PL_SEQ_CFG_COLUMNS : RegField := ⟨R.PL_SEQ_CFG, 16, 15⟩
def F.PL_SEQ_CFG_LAYERS : RegField := ⟨R.PL_SEQ_CFG, 32, 7⟩
def F.PL_SEQ_CFG_TPP : RegField := ⟨R.PL_SEQ_CFG, 40, 11⟩
def F.PL_SEQ_CFG_FLIP_BIT : RegField := ⟨R.PL_SEQ_CFG, 51, 4⟩
/-- PL_SEQ_LOG (Table SQ-9). -/
def R.PL_SEQ_LOG : RegArr := ⟨0x1, 0x908, 6, 64, 0, 6, 0x0, 0xFFFFFFFFFFFFFFFF, 0x0, 0x0, 0x0⟩
def F.PL_SEQ_LOG_BASE : RegField := ⟨R.PL_SEQ_LOG, 0, 16⟩
def F.PL_SEQ_LOG_KV_BASE : RegField := ⟨R.PL_SEQ_LOG, 16, 16⟩
def F.PL_SEQ_LOG_LIST_LOT : RegField := ⟨R.PL_SEQ_LOG, 32, 13⟩
def F.PL_SEQ_LOG_STATE_BYTES : RegField := ⟨R.PL_SEQ_LOG, 45, 7⟩
def F.PL_SEQ_LOG_STATE_BASE : RegField := ⟨R.PL_SEQ_LOG, 52, 12⟩
/-- PL_SEQ_WALK (Table SQ-10). -/
def R.PL_SEQ_WALK : RegArr := ⟨0x1, 0x910, 4, 8, 64, 24, 0x0, 0xFFFFF000FFFFF, 0x0, 0x0, 0x0⟩
def F.PL_SEQ_WALK_KIND : RegField := ⟨R.PL_SEQ_WALK, 0, 2⟩
def F.PL_SEQ_WALK_COND : RegField := ⟨R.PL_SEQ_WALK, 2, 6⟩
def F.PL_SEQ_WALK_ADV_BIT : RegField := ⟨R.PL_SEQ_WALK, 8, 4⟩
def F.PL_SEQ_WALK_REW_BIT : RegField := ⟨R.PL_SEQ_WALK, 12, 4⟩
def F.PL_SEQ_WALK_CORE : RegField := ⟨R.PL_SEQ_WALK, 16, 4⟩
def F.PL_SEQ_WALK_ITEM_ADDR : RegField := ⟨R.PL_SEQ_WALK, 32, 20⟩
/-- PL_SEQ_COUNTS (Table SQ-11). -/
def R.PL_SEQ_COUNTS : RegArr := ⟨0x1, 0x930, 6, 64, 0, 6, 0x0, 0x0, 0x0, 0xFFFFFFFFFFFFFFFF, 0x0⟩
def F.PL_SEQ_COUNTS_PAGE_DROPS : RegField := ⟨R.PL_SEQ_COUNTS, 0, 16⟩
def F.PL_SEQ_COUNTS_PAGE_WAIT : RegField := ⟨R.PL_SEQ_COUNTS, 16, 16⟩
def F.PL_SEQ_COUNTS_RECOMPUTE_TOKENS : RegField := ⟨R.PL_SEQ_COUNTS, 32, 16⟩
def F.PL_SEQ_COUNTS_FLIP_EARLY : RegField := ⟨R.PL_SEQ_COUNTS, 48, 4⟩
def F.PL_SEQ_COUNTS_LOG_FULL : RegField := ⟨R.PL_SEQ_COUNTS, 52, 4⟩
def F.PL_SEQ_COUNTS_WALK_DROP : RegField := ⟨R.PL_SEQ_COUNTS, 56, 8⟩
/-- PL_SEQ_STEP (its line of the register map). -/
def R.PL_SEQ_STEP : RegArr := ⟨0x1, 0x938, 6, 64, 0, 6, 0x0, 0x0, 0x0, 0x0, 0x0⟩
def F.PL_SEQ_STEP_STEP : RegField := ⟨R.PL_SEQ_STEP, 0, 64⟩
/-- PL_IMG_CFG (Table IM-5). -/
def R.PL_IMG_CFG : RegArr := ⟨0x1, 0xB00, 16, 8, 0, 16, 0x0, 0x8FFFFF, 0x0, 0x0, 0x0⟩
def F.PL_IMG_CFG_DESC_ADDR : RegField := ⟨R.PL_IMG_CFG, 0, 20⟩
def F.PL_IMG_CFG_PART : RegField := ⟨R.PL_IMG_CFG, 20, 3⟩
def F.PL_IMG_CFG_EN : RegField := ⟨R.PL_IMG_CFG, 23, 1⟩
/-- PL_IMG_STATUS (Table IM-6). -/
def R.PL_IMG_STATUS : RegArr := ⟨0x1, 0xB80, 16, 8, 0, 16, 0x0, 0x0, 0xF, 0x0, 0x0⟩
def F.PL_IMG_STATUS_HALO_MISS : RegField := ⟨R.PL_IMG_STATUS, 0, 1⟩
def F.PL_IMG_STATUS_DESC_BAD : RegField := ⟨R.PL_IMG_STATUS, 1, 1⟩
def F.PL_IMG_STATUS_BOX_BAD : RegField := ⟨R.PL_IMG_STATUS, 2, 1⟩
def F.PL_IMG_STATUS_CODEC_ALIGN : RegField := ⟨R.PL_IMG_STATUS, 3, 1⟩
def F.PL_IMG_STATUS_LAST_DESC : RegField := ⟨R.PL_IMG_STATUS, 8, 4⟩
def F.PL_IMG_STATUS_LAST_PART : RegField := ⟨R.PL_IMG_STATUS, 12, 3⟩
/-- MT_CTRL (Table MT-8). -/
def R.MT_CTRL : RegArr := ⟨0x2, 0x0, 1, 0, 0, 1, 0x0, 0xFF, 0x0, 0x0, 0x0⟩
def F.MT_CTRL_DEMAND : RegField := ⟨R.MT_CTRL, 0, 8⟩
/-- MT_STATUS (Table MT-9). -/
def R.MT_STATUS : RegArr := ⟨0x2, 0x8, 1, 0, 0, 1, 0x0, 0x0, 0x3, 0x0, 0x0⟩
def F.MT_STATUS_EARLY_READ : RegField := ⟨R.MT_STATUS, 0, 1⟩
def F.MT_STATUS_XQ_FULL : RegField := ⟨R.MT_STATUS, 1, 1⟩
def F.MT_STATUS_LAST_CORE : RegField := ⟨R.MT_STATUS, 8, 4⟩
def F.MT_STATUS_LAST_PART : RegField := ⟨R.MT_STATUS, 12, 3⟩
/-- MT_LOT_SEL (its line of the register map). -/
def R.MT_LOT_SEL : RegArr := ⟨0x2, 0x10, 1, 0, 0, 1, 0x0, 0x1FFF, 0x0, 0x0, 0x0⟩
def F.MT_LOT_SEL_LOT : RegField := ⟨R.MT_LOT_SEL, 0, 13⟩
/-- MT_LOT_W0 (Table MT-10). -/
def R.MT_LOT_W0 : RegArr := ⟨0x2, 0x18, 1, 0, 0, 1, 0x0, 0x0, 0x0, 0x0, 0x0⟩
def F.MT_LOT_W0_STATE : RegField := ⟨R.MT_LOT_W0, 0, 3⟩
def F.MT_LOT_W0_PART : RegField := ⟨R.MT_LOT_W0, 4, 3⟩
def F.MT_LOT_W0_PIN : RegField := ⟨R.MT_LOT_W0, 8, 1⟩
def F.MT_LOT_W0_SAVE : RegField := ⟨R.MT_LOT_W0, 9, 1⟩
def F.MT_LOT_W0_SWAP : RegField := ⟨R.MT_LOT_W0, 10, 1⟩
def F.MT_LOT_W0_POISON : RegField := ⟨R.MT_LOT_W0, 11, 1⟩
def F.MT_LOT_W0_HOME_VALID : RegField := ⟨R.MT_LOT_W0, 12, 1⟩
def F.MT_LOT_W0_HOME : RegField := ⟨R.MT_LOT_W0, 32, 21⟩
/-- MT_LOT_W1 (its line of the register map). -/
def R.MT_LOT_W1 : RegArr := ⟨0x2, 0x20, 1, 0, 0, 1, 0x0, 0x0, 0x0, 0x0, 0x0⟩
def F.MT_LOT_W1_LAST : RegField := ⟨R.MT_LOT_W1, 0, 64⟩
/-- MT_PSTAT (Table MT-11). -/
def R.MT_PSTAT : RegArr := ⟨0x2, 0x40, 8, 8, 0, 8, 0x0, 0x0, 0x0, 0x0, 0x0⟩
def F.MT_PSTAT_USED : RegField := ⟨R.MT_PSTAT, 0, 13⟩
def F.MT_PSTAT_DIRTY : RegField := ⟨R.MT_PSTAT, 16, 13⟩
def F.MT_PSTAT_PINNED : RegField := ⟨R.MT_PSTAT, 32, 13⟩
/-- MT_EVICT (Table MT-12). -/
def R.MT_EVICT : RegArr := ⟨0x2, 0x80, 8, 8, 0, 8, 0x0, 0x0, 0x0, 0x0, 0x0⟩
def F.MT_EVICT_EVICTIONS : RegField := ⟨R.MT_EVICT, 0, 32⟩
def F.MT_EVICT_WRITEBACKS : RegField := ⟨R.MT_EVICT, 32, 32⟩
/-- MT_SEQ (its line of the register map). -/
def R.MT_SEQ : RegArr := ⟨0x2, 0xC0, 8, 8, 0, 8, 0x0, 0x0, 0x0, 0x0, 0x0⟩
def F.MT_SEQ_SEQ : RegField := ⟨R.MT_SEQ, 0, 64⟩
/-- MT_SHARE (Table MT-13). -/
def R.MT_SHARE : RegArr := ⟨0x2, 0x100, 128, 8, 0, 128, 0x0, 0x1FF01FF, 0x0, 0x0, 0x0⟩
def F.MT_SHARE_BASE : RegField := ⟨R.MT_SHARE, 0, 9⟩
def F.MT_SHARE_COUNT : RegField := ⟨R.MT_SHARE, 16, 9⟩
/-- MT_OPB_TAG (Table MT-14). -/
def R.MT_OPB_TAG : RegArr := ⟨0x2, 0x500, 16, 8, 0, 16, 0x0, 0xFFFFFFFFFFFF, 0x0, 0x0, 0x0⟩
def F.MT_OPB_TAG_TAG : RegField := ⟨R.MT_OPB_TAG, 0, 48⟩
/-- MT_LOT_CFG (Table MT-15). -/
def R.MT_LOT_CFG : RegArr := ⟨0x2, 0x1000, 6144, 8, 0, 6144, 0x0, 0x3, 0x0, 0x0, 0x0⟩
def F.MT_LOT_CFG_SAVE : RegField := ⟨R.MT_LOT_CFG, 0, 1⟩
def F.MT_LOT_CFG_SWAP : RegField := ⟨R.MT_LOT_CFG, 1, 1⟩
/-- DR_STATUS (Table DR-6). -/
def R.DR_STATUS : RegArr := ⟨0x3, 0x0, 8, 256, 0, 8, 0x0, 0x0, 0x1F, 0x0, 0x0⟩
def F.DR_STATUS_UNCORR : RegField := ⟨R.DR_STATUS, 0, 1⟩
def F.DR_STATUS_CRC_RETRY : RegField := ⟨R.DR_STATUS, 1, 1⟩
def F.DR_STATUS_CA_RETRY : RegField := ⟨R.DR_STATUS, 2, 1⟩
def F.DR_STATUS_LINK_FAULT : RegField := ⟨R.DR_STATUS, 3, 1⟩
def F.DR_STATUS_SCRUB_LAG : RegField := ⟨R.DR_STATUS, 4, 1⟩
def F.DR_STATUS_RETRAINING : RegField := ⟨R.DR_STATUS, 5, 1⟩
def F.DR_STATUS_TEMP : RegField := ⟨R.DR_STATUS, 8, 8⟩
def F.DR_STATUS_WBUF : RegField := ⟨R.DR_STATUS, 16, 9⟩
/-- DR_ECC_COUNT (Table DR-7). -/
def R.DR_ECC_COUNT : RegArr := ⟨0x3, 0x8, 8, 256, 0, 8, 0x0, 0x0, 0x0, 0xFFFFFFFFFFFFFFFF, 0x0⟩
def F.DR_ECC_COUNT_INNER : RegField := ⟨R.DR_ECC_COUNT, 0, 16⟩
def F.DR_ECC_COUNT_OUTER : RegField := ⟨R.DR_ECC_COUNT, 16, 16⟩
def F.DR_ECC_COUNT_UNCORR : RegField := ⟨R.DR_ECC_COUNT, 32, 16⟩
def F.DR_ECC_COUNT_POISON : RegField := ⟨R.DR_ECC_COUNT, 48, 16⟩
/-- DR_ERR_LOG (Table DR-8). -/
def R.DR_ERR_LOG : RegArr := ⟨0x3, 0x10, 8, 256, 0, 8, 0x0, 0x0, 0x0, 0xFFFFFFFFFFFFFFFF, 0x0⟩
def F.DR_ERR_LOG_KIND : RegField := ⟨R.DR_ERR_LOG, 0, 2⟩
def F.DR_ERR_LOG_DEVICE : RegField := ⟨R.DR_ERR_LOG, 2, 4⟩
def F.DR_ERR_LOG_VALID : RegField := ⟨R.DR_ERR_LOG, 6, 1⟩
def F.DR_ERR_LOG_LOST : RegField := ⟨R.DR_ERR_LOG, 7, 1⟩
def F.DR_ERR_LOG_SCRUB : RegField := ⟨R.DR_ERR_LOG, 8, 1⟩
def F.DR_ERR_LOG_LINE : RegField := ⟨R.DR_ERR_LOG, 9, 28⟩
def F.DR_ERR_LOG_STAMP : RegField := ⟨R.DR_ERR_LOG, 37, 27⟩
/-- DR_MARK (Table DR-9). -/
def R.DR_MARK : RegArr := ⟨0x3, 0x18, 8, 256, 0, 8, 0x0, 0x1F, 0x0, 0x0, 0x0⟩
def F.DR_MARK_DEVICE : RegField := ⟨R.DR_MARK, 0, 4⟩
def F.DR_MARK_VALID : RegField := ⟨R.DR_MARK, 4, 1⟩
/-- DR_SCRUB (Table DR-10). -/
def R.DR_SCRUB : RegArr := ⟨0x3, 0x20, 8, 256, 0, 8, 0x1000, 0xFFFF, 0x0, 0x0, 0x0⟩
def F.DR_SCRUB_RATE : RegField := ⟨R.DR_SCRUB, 0, 16⟩
def F.DR_SCRUB_POS : RegField := ⟨R.DR_SCRUB, 16, 28⟩
def F.DR_SCRUB_PASSES : RegField := ⟨R.DR_SCRUB, 44, 20⟩
/-- DR_RETRAIN (Table DR-11). -/
def R.DR_RETRAIN : RegArr := ⟨0x3, 0x28, 8, 256, 0, 8, 0x9C4003E80A, 0xFFFFFFFFFF, 0x0, 0x0, 0x10000000000⟩
def F.DR_RETRAIN_DTEMP : RegField := ⟨R.DR_RETRAIN, 0, 8⟩
def F.DR_RETRAIN_PERIOD : RegField := ⟨R.DR_RETRAIN, 8, 16⟩
def F.DR_RETRAIN_WAIT : RegField := ⟨R.DR_RETRAIN, 24, 16⟩
def F.DR_RETRAIN_REQ : RegField := ⟨R.DR_RETRAIN, 40, 1⟩
def F.DR_RETRAIN_STEPS_LEFT : RegField := ⟨R.DR_RETRAIN, 41, 5⟩
/-- DR_QCFG (Table DR-12). -/
def R.DR_QCFG : RegArr := ⟨0x3, 0x30, 8, 256, 0, 8, 0x302010, 0x7F7F7F, 0x0, 0x0, 0x0⟩
def F.DR_QCFG_T1 : RegField := ⟨R.DR_QCFG, 0, 7⟩
def F.DR_QCFG_T2 : RegField := ⟨R.DR_QCFG, 8, 7⟩
def F.DR_QCFG_T3 : RegField := ⟨R.DR_QCFG, 16, 7⟩
/-- DR_QLEVEL (Table DR-13). -/
def R.DR_QLEVEL : RegArr := ⟨0x3, 0x38, 8, 256, 0, 8, 0x0, 0x0, 0x0, 0x0, 0x0⟩
def F.DR_QLEVEL_LEVEL : RegField := ⟨R.DR_QLEVEL, 0, 2⟩
def F.DR_QLEVEL_OCC_C1 : RegField := ⟨R.DR_QLEVEL, 2, 7⟩
def F.DR_QLEVEL_OCC_C3 : RegField := ⟨R.DR_QLEVEL, 9, 7⟩
/-- DR_TRAIN_STATUS (Table DR-14). -/
def R.DR_TRAIN_STATUS : RegArr := ⟨0x3, 0x40, 8, 256, 0, 8, 0x0, 0x0, 0x0, 0x0, 0x0⟩
def F.DR_TRAIN_STATUS_MODE : RegField := ⟨R.DR_TRAIN_STATUS, 0, 2⟩
def F.DR_TRAIN_STATUS_PASS : RegField := ⟨R.DR_TRAIN_STATUS, 2, 1⟩
def F.DR_TRAIN_STATUS_TRAIN_TEMP : RegField := ⟨R.DR_TRAIN_STATUS, 8, 8⟩
def F.DR_TRAIN_STATUS_TIME : RegField := ⟨R.DR_TRAIN_STATUS, 16, 32⟩
/-- SP_FRAME_CFG (Table SP-10). -/
def R.SP_FRAME_CFG : RegArr := ⟨0x4, 0x0, 1, 0, 0, 1, 0x1312D0, 0x77FFFFFF, 0x0, 0x0, 0x0⟩
def F.SP_FRAME_CFG_LEN : RegField := ⟨R.SP_FRAME_CFG, 0, 27⟩
def F.SP_FRAME_CFG_SRC : RegField := ⟨R.SP_FRAME_CFG, 28, 2⟩
def F.SP_FRAME_CFG_EN : RegField := ⟨R.SP_FRAME_CFG, 30, 1⟩
/-- SP_SYNC_CFG (Table SP-11). -/
def R.SP_SYNC_CFG : RegArr := ⟨0x4, 0x8, 1, 0, 0, 1, 0xF4240030D4, 0xFFFFFFFFFFFF, 0x0, 0x0, 0x0⟩
def F.SP_SYNC_CFG_MIN_GAP : RegField := ⟨R.SP_SYNC_CFG, 0, 24⟩
def F.SP_SYNC_CFG_LOSS : RegField := ⟨R.SP_SYNC_CFG, 24, 24⟩
/-- SP_FRAME_NUM (its line of the register map). -/
def R.SP_FRAME_NUM : RegArr := ⟨0x4, 0x10, 1, 0, 0, 1, 0x0, 0x0, 0x0, 0x0, 0x0⟩
def F.SP_FRAME_NUM_NUM : RegField := ⟨R.SP_FRAME_NUM, 0, 48⟩
/-- SP_FRAME_STATUS (Table SP-12). -/
def R.SP_FRAME_STATUS : RegArr := ⟨0x4, 0x18, 1, 0, 0, 1, 0x0, 0x0, 0x2, 0x0, 0x0⟩
def F.SP_FRAME_STATUS_UNSYNCED : RegField := ⟨R.SP_FRAME_STATUS, 0, 1⟩
def F.SP_FRAME_STATUS_LOST : RegField := ⟨R.SP_FRAME_STATUS, 1, 1⟩
def F.SP_FRAME_STATUS_LAST_INTERVAL : RegField := ⟨R.SP_FRAME_STATUS, 32, 27⟩
/-- SP_SYNC_COUNTS (Table SP-13). -/
def R.SP_SYNC_COUNTS : RegArr := ⟨0x4, 0x20, 1, 0, 0, 1, 0x0, 0x0, 0x0, 0x0, 0x0⟩
def F.SP_SYNC_COUNTS_EARLY : RegField := ⟨R.SP_SYNC_COUNTS, 0, 16⟩
def F.SP_SYNC_COUNTS_LOSSES : RegField := ⟨R.SP_SYNC_COUNTS, 16, 16⟩
def F.SP_SYNC_COUNTS_FREE_FRAMES : RegField := ⟨R.SP_SYNC_COUNTS, 32, 32⟩
/-- SP_GOLDEN_CFG (Table SP-14). -/
def R.SP_GOLDEN_CFG : RegArr := ⟨0x4, 0x28, 1, 0, 0, 1, 0x0, 0xFFFFFFFFFFFF7FFF, 0x0, 0x0, 0x0⟩
def F.SP_GOLDEN_CFG_WINDOW : RegField := ⟨R.SP_GOLDEN_CFG, 0, 8⟩
def F.SP_GOLDEN_CFG_COND : RegField := ⟨R.SP_GOLDEN_CFG, 8, 6⟩
def F.SP_GOLDEN_CFG_EN : RegField := ⟨R.SP_GOLDEN_CFG, 14, 1⟩
def F.SP_GOLDEN_CFG_OFFSET : RegField := ⟨R.SP_GOLDEN_CFG, 16, 24⟩
def F.SP_GOLDEN_CFG_SLACK : RegField := ⟨R.SP_GOLDEN_CFG, 40, 24⟩
/-- SP_GOLDEN_STATUS (Table SP-15). -/
def R.SP_GOLDEN_STATUS : RegArr := ⟨0x4, 0x30, 1, 0, 0, 1, 0x0, 0x0, 0x0, 0x0, 0x0⟩
def F.SP_GOLDEN_STATUS_DEFER_RUN : RegField := ⟨R.SP_GOLDEN_STATUS, 0, 3⟩
def F.SP_GOLDEN_STATUS_DUE : RegField := ⟨R.SP_GOLDEN_STATUS, 3, 1⟩
def F.SP_GOLDEN_STATUS_RAN : RegField := ⟨R.SP_GOLDEN_STATUS, 4, 1⟩
def F.SP_GOLDEN_STATUS_LAST_CAUSE : RegField := ⟨R.SP_GOLDEN_STATUS, 5, 3⟩
def F.SP_GOLDEN_STATUS_DEFER_TOTAL : RegField := ⟨R.SP_GOLDEN_STATUS, 32, 32⟩
/-- SP_REG_CFG (Table SP-16). -/
def R.SP_REG_CFG : RegArr := ⟨0x4, 0x38, 1, 0, 0, 1, 0x39, 0x3F, 0x0, 0x0, 0x0⟩
def F.SP_REG_CFG_SCRUB_LVL : RegField := ⟨R.SP_REG_CFG, 0, 2⟩
def F.SP_REG_CFG_HOST_LVL : RegField := ⟨R.SP_REG_CFG, 2, 2⟩
def F.SP_REG_CFG_C2_LVL : RegField := ⟨R.SP_REG_CFG, 4, 2⟩
/-- SP_REG_STATUS (Table SP-17). -/
def R.SP_REG_STATUS : RegArr := ⟨0x4, 0x40, 1, 0, 0, 1, 0x0, 0x0, 0x0, 0x0, 0x0⟩
def F.SP_REG_STATUS_LEVEL : RegField := ⟨R.SP_REG_STATUS, 0, 2⟩
def F.SP_REG_STATUS_C2_GATED : RegField := ⟨R.SP_REG_STATUS, 2, 8⟩
def F.SP_REG_STATUS_HOST_GATED : RegField := ⟨R.SP_REG_STATUS, 10, 1⟩
def F.SP_REG_STATUS_SCRUB_GATED : RegField := ⟨R.SP_REG_STATUS, 11, 1⟩
def F.SP_REG_STATUS_URGENCY : RegField := ⟨R.SP_REG_STATUS, 12, 2⟩
/-- SP_REG_WAIT (its line of the register map). -/
def R.SP_REG_WAIT : RegArr := ⟨0x4, 0x48, 1, 0, 0, 1, 0x0, 0x0, 0x0, 0x0, 0x0⟩
def F.SP_REG_WAIT_CYCLES : RegField := ⟨R.SP_REG_WAIT, 0, 64⟩
/-- SP_SCHED_CFG (Table SP-18). -/
def R.SP_SCHED_CFG : RegArr := ⟨0x4, 0x80, 8, 8, 0, 8, 0x0, 0x7FFF, 0x0, 0x0, 0x0⟩
def F.SP_SCHED_CFG_LEN : RegField := ⟨R.SP_SCHED_CFG, 0, 9⟩
def F.SP_SCHED_CFG_COND : RegField := ⟨R.SP_SCHED_CFG, 9, 6⟩
/-- SP_CLASS_LINES (its line of the register map). -/
def R.SP_CLASS_LINES : RegArr := ⟨0x4, 0xC0, 4, 8, 0, 4, 0x0, 0x0, 0x0, 0x0, 0x0⟩
def F.SP_CLASS_LINES_LINES : RegField := ⟨R.SP_CLASS_LINES, 0, 64⟩
/-- SP_CLASS_FRAME (its line of the register map). -/
def R.SP_CLASS_FRAME : RegArr := ⟨0x4, 0xE0, 4, 8, 0, 4, 0x0, 0x0, 0x0, 0x0, 0x0⟩
def F.SP_CLASS_FRAME_LINES : RegField := ⟨R.SP_CLASS_FRAME, 0, 32⟩
/-- SP_REGION (Table SP-19). -/
def R.SP_REGION : RegArr := ⟨0x4, 0x100, 32, 8, 0, 32, 0x0, 0xFF0FFF07FF, 0x0, 0x0, 0x0⟩
def F.SP_REGION_BASE : RegField := ⟨R.SP_REGION, 0, 11⟩
def F.SP_REGION_COUNT : RegField := ⟨R.SP_REGION, 16, 12⟩
def F.SP_REGION_RD_MASK : RegField := ⟨R.SP_REGION, 32, 8⟩
/-- SP_SCHED_ENT (its line of the register map). -/
def R.SP_SCHED_ENT : RegArr := ⟨0x4, 0x1000, 2048, 8, 0, 2048, 0x0, 0x1FFFFFFFF, 0x0, 0x0, 0x0⟩
def F.SP_SCHED_ENT_FLAGS : RegField := ⟨R.SP_SCHED_ENT, 0, 32⟩
def F.SP_SCHED_ENT_GOLDEN : RegField := ⟨R.SP_SCHED_ENT, 32, 1⟩
/-- SN_PORT_CFG (Table SN-10). -/
def R.SN_PORT_CFG : RegArr := ⟨0x5, 0x0, 27, 8, 0, 27, 0xC840, 0xFFFFFFFF0000FFF3, 0x0, 0x0, 0x0⟩
def F.SN_PORT_CFG_EN : RegField := ⟨R.SN_PORT_CFG, 0, 1⟩
def F.SN_PORT_CFG_ROLE : RegField := ⟨R.SN_PORT_CFG, 1, 1⟩
def F.SN_PORT_CFG_T1 : RegField := ⟨R.SN_PORT_CFG, 4, 4⟩
def F.SN_PORT_CFG_T2 : RegField := ⟨R.SN_PORT_CFG, 8, 4⟩
def F.SN_PORT_CFG_T3 : RegField := ⟨R.SN_PORT_CFG, 12, 4⟩
def F.SN_PORT_CFG_IFCFG : RegField := ⟨R.SN_PORT_CFG, 32, 32⟩
/-- SN_PORT_STATUS (Table SN-11). -/
def R.SN_PORT_STATUS : RegArr := ⟨0x5, 0x100, 27, 8, 0, 27, 0x0, 0x0, 0x0, 0xFFFFFFFFFFFF0000, 0x0⟩
def F.SN_PORT_STATUS_URGENCY : RegField := ⟨R.SN_PORT_STATUS, 0, 2⟩
def F.SN_PORT_STATUS_LINK_UP : RegField := ⟨R.SN_PORT_STATUS, 2, 1⟩
def F.SN_PORT_STATUS_UNMATCHED : RegField := ⟨R.SN_PORT_STATUS, 16, 16⟩
def F.SN_PORT_STATUS_TRIG_MISS : RegField := ⟨R.SN_PORT_STATUS, 32, 16⟩
def F.SN_PORT_STATUS_CORRECTED : RegField := ⟨R.SN_PORT_STATUS, 48, 16⟩
/-- SN_STREAM_A (Table SN-8). -/
def R.SN_STREAM_A : RegArr := ⟨0x5, 0x200, 48, 16, 0, 48, 0x0, 0xFFFFFFFF0003FF3F, 0x0, 0x0, 0x0⟩
def F.SN_STREAM_A_EN : RegField := ⟨R.SN_STREAM_A, 0, 1⟩
def F.SN_STREAM_A_PORT : RegField := ⟨R.SN_STREAM_A, 1, 5⟩
def F.SN_STREAM_A_TRUST : RegField := ⟨R.SN_STREAM_A, 8, 4⟩
def F.SN_STREAM_A_BUFS : RegField := ⟨R.SN_STREAM_A, 12, 6⟩
def F.SN_STREAM_A_SEL : RegField := ⟨R.SN_STREAM_A, 32, 32⟩
/-- SN_STREAM_B (Table SN-9). -/
def R.SN_STREAM_B : RegArr := ⟨0x5, 0x208, 48, 16, 0, 48, 0x0, 0xFFFFFFFF1FFFFFFF, 0x0, 0x0, 0x0⟩
def F.SN_STREAM_B_MASK : RegField := ⟨R.SN_STREAM_B, 0, 29⟩
def F.SN_STREAM_B_RING_BASE : RegField := ⟨R.SN_STREAM_B, 32, 21⟩
def F.SN_STREAM_B_BUF_UNITS : RegField := ⟨R.SN_STREAM_B, 53, 11⟩
/-- SN_STREAM_CNT (Table SN-12). -/
def R.SN_STREAM_CNT : RegArr := ⟨0x5, 0x600, 48, 8, 0, 48, 0x0, 0x0, 0x0, 0xFFFFFF00000000, 0x0⟩
def F.SN_STREAM_CNT_PUBLISHED : RegField := ⟨R.SN_STREAM_CNT, 0, 32⟩
def F.SN_STREAM_CNT_LINK_DROP : RegField := ⟨R.SN_STREAM_CNT, 32, 8⟩
def F.SN_STREAM_CNT_BUF_DROP : RegField := ⟨R.SN_STREAM_CNT, 40, 8⟩
def F.SN_STREAM_CNT_OVERSIZE : RegField := ⟨R.SN_STREAM_CNT, 48, 8⟩
/-- SN_GPIO (Table SN-13). -/
def R.SN_GPIO : RegArr := ⟨0x5, 0x800, 32, 8, 0, 32, 0x0, 0xFFFFFFFFFFFFFF, 0x0, 0x0, 0x0⟩
def F.SN_GPIO_MODE : RegField := ⟨R.SN_GPIO, 0, 2⟩
def F.SN_GPIO_EDGE : RegField := ⟨R.SN_GPIO, 2, 2⟩
def F.SN_GPIO_OWNER : RegField := ⟨R.SN_GPIO, 4, 3⟩
def F.SN_GPIO_POL : RegField := ⟨R.SN_GPIO, 7, 1⟩
def F.SN_GPIO_OFFSET : RegField := ⟨R.SN_GPIO, 8, 24⟩
def F.SN_GPIO_WIDTH : RegField := ⟨R.SN_GPIO, 32, 16⟩
def F.SN_GPIO_EVERY : RegField := ⟨R.SN_GPIO, 48, 8⟩
/-- SN_SEQ_CFG (Table SN-14). -/
def R.SN_SEQ_CFG : RegArr := ⟨0x5, 0x900, 6, 8, 0, 6, 0x0, 0xFFFFFF7F, 0x0, 0x0, 0x0⟩
def F.SN_SEQ_CFG_EN : RegField := ⟨R.SN_SEQ_CFG, 0, 1⟩
def F.SN_SEQ_CFG_START : RegField := ⟨R.SN_SEQ_CFG, 1, 6⟩
def F.SN_SEQ_CFG_PERIOD : RegField := ⟨R.SN_SEQ_CFG, 8, 24⟩
/-- SN_INSTR (its line of the register map). -/
def R.SN_INSTR : RegArr := ⟨0x5, 0x1000, 192, 8, 0, 192, 0x0, 0xFFFFFFFFFFFFFFFF, 0x0, 0x0, 0x0⟩
def F.SN_INSTR_I0 : RegField := ⟨R.SN_INSTR, 0, 32⟩
def F.SN_INSTR_I1 : RegField := ⟨R.SN_INSTR, 32, 32⟩
/-- SN_TX (its line of the register map). -/
def R.SN_TX : RegArr := ⟨0x5, 0x2000, 48, 8, 0, 48, 0x0, 0xFFFFFFFFFFFFFFFF, 0x0, 0x0, 0x0⟩
def F.SN_TX_BYTES : RegField := ⟨R.SN_TX, 0, 64⟩
/-- DT_CFG (Table DT-8). -/
def R.DT_CFG : RegArr := ⟨0x6, 0x0, 1, 0, 0, 1, 0x0, 0xFFFF07FF0FFF, 0x0, 0x0, 0x0⟩
def F.DT_CFG_EN : RegField := ⟨R.DT_CFG, 0, 1⟩
def F.DT_CFG_COMPONENTS : RegField := ⟨R.DT_CFG, 1, 11⟩
def F.DT_CFG_TAPS : RegField := ⟨R.DT_CFG, 16, 11⟩
def F.DT_CFG_FEAT_EN : RegField := ⟨R.DT_CFG, 32, 16⟩
/-- DT_BASE (Table DT-9). -/
def R.DT_BASE : RegArr := ⟨0x6, 0x8, 1, 0, 0, 1, 0x0, 0xFFF0FFF0FFF0FFF, 0x0, 0x0, 0x0⟩
def F.DT_BASE_TAP_BASE : RegField := ⟨R.DT_BASE, 0, 12⟩
def F.DT_BASE_FEAT_BASE : RegField := ⟨R.DT_BASE, 16, 12⟩
def F.DT_BASE_ASSOC_BASE : RegField := ⟨R.DT_BASE, 32, 12⟩
def F.DT_BASE_OUT_BASE : RegField := ⟨R.DT_BASE, 48, 12⟩
/-- DT_TIME (Table DT-10). -/
def R.DT_TIME : RegArr := ⟨0x6, 0x10, 1, 0, 0, 1, 0x0, 0x7FFFFFFFFFFFFFFF, 0x0, 0x0, 0x0⟩
def F.DT_TIME_LATCH : RegField := ⟨R.DT_TIME, 0, 21⟩
def F.DT_TIME_COST : RegField := ⟨R.DT_TIME, 21, 21⟩
def F.DT_TIME_PUBLISH : RegField := ⟨R.DT_TIME, 42, 21⟩
/-- DT_NUM (its line of the register map). -/
def R.DT_NUM : RegArr := ⟨0x6, 0x18, 1, 0, 0, 1, 0x34000000, 0xFFFFFFFF, 0x0, 0x0, 0x0⟩
def F.DT_NUM_VAR_MIN : RegField := ⟨R.DT_NUM, 0, 32⟩
/-- DT_STATUS (Table DT-11). -/
def R.DT_STATUS : RegArr := ⟨0x6, 0x20, 1, 0, 0, 1, 0x0, 0x0, 0x0, 0x0, 0x0⟩
def F.DT_STATUS_RUNNING : RegField := ⟨R.DT_STATUS, 0, 1⟩
def F.DT_STATUS_UNSYNCED : RegField := ⟨R.DT_STATUS, 1, 1⟩
def F.DT_STATUS_LAST_FRAME : RegField := ⟨R.DT_STATUS, 16, 48⟩
/-- DT_COUNTS (Table DT-12). -/
def R.DT_COUNTS : RegArr := ⟨0x6, 0x28, 1, 0, 0, 1, 0x0, 0x0, 0x0, 0xFFFFFFFFFFFFFFFF, 0x0⟩
def F.DT_COUNTS_CONFLICTS : RegField := ⟨R.DT_COUNTS, 0, 16⟩
def F.DT_COUNTS_LATE_DROP : RegField := ⟨R.DT_COUNTS, 16, 16⟩
def F.DT_COUNTS_RETRO : RegField := ⟨R.DT_COUNTS, 32, 16⟩
def F.DT_COUNTS_QUARANTINES : RegField := ⟨R.DT_COUNTS, 48, 8⟩
def F.DT_COUNTS_LATCH_LATE : RegField := ⟨R.DT_COUNTS, 56, 8⟩
/-- DT_COUNTS2 (Table DT-13). -/
def R.DT_COUNTS2 : RegArr := ⟨0x6, 0x30, 1, 0, 0, 1, 0x0, 0x0, 0x0, 0xFFFFFFFFFFFFFF, 0x0⟩
def F.DT_COUNTS2_DET_OVER : RegField := ⟨R.DT_COUNTS2, 0, 8⟩
def F.DT_COUNTS2_TRACK_FULL : RegField := ⟨R.DT_COUNTS2, 8, 8⟩
def F.DT_COUNTS2_ASSOC_STALE : RegField := ⟨R.DT_COUNTS2, 16, 8⟩
def F.DT_COUNTS2_AUCTION_CAP : RegField := ⟨R.DT_COUNTS2, 24, 8⟩
def F.DT_COUNTS2_REC_BAD : RegField := ⟨R.DT_COUNTS2, 32, 8⟩
def F.DT_COUNTS2_COST_BAD : RegField := ⟨R.DT_COUNTS2, 40, 8⟩
def F.DT_COUNTS2_REJECT : RegField := ⟨R.DT_COUNTS2, 48, 8⟩
/-- DT_QUAR (its line of the register map). -/
def R.DT_QUAR : RegArr := ⟨0x6, 0x38, 1, 0, 0, 1, 0x0, 0x0, 0x0, 0x0, 0x0⟩
def F.DT_QUAR_SOURCES : RegField := ⟨R.DT_QUAR, 0, 64⟩
/-- DT_TRACK_ID (Table DT-14). -/
def R.DT_TRACK_ID : RegArr := ⟨0x6, 0x40, 1, 0, 0, 1, 0x0, 0x0, 0x0, 0x0, 0x0⟩
def F.DT_TRACK_ID_NEXT_ID : RegField := ⟨R.DT_TRACK_ID, 0, 16⟩
def F.DT_TRACK_ID_BIRTHS : RegField := ⟨R.DT_TRACK_ID, 16, 48⟩
/-- DT_ASSOC_A (Table DT-15). -/
def R.DT_ASSOC_A : RegArr := ⟨0x6, 0x80, 4, 8, 0, 4, 0x30504000000, 0xFFFF0FFFFFFF01FF, 0x0, 0x0, 0x0⟩
def F.DT_ASSOC_A_TRACK_MAX : RegField := ⟨R.DT_ASSOC_A, 0, 9⟩
def F.DT_ASSOC_A_CAP : RegField := ⟨R.DT_ASSOC_A, 16, 16⟩
def F.DT_ASSOC_A_MISS_MAX : RegField := ⟨R.DT_ASSOC_A, 32, 8⟩
def F.DT_ASSOC_A_CONFIRM : RegField := ⟨R.DT_ASSOC_A, 40, 4⟩
def F.DT_ASSOC_A_FEAT_MASK : RegField := ⟨R.DT_ASSOC_A, 48, 16⟩
/-- DT_ASSOC_B (its line of the register map). -/
def R.DT_ASSOC_B : RegArr := ⟨0x6, 0xA0, 4, 8, 0, 4, 0x7FFFFFFF, 0xFFFFFFFFFFFFFFFF, 0x0, 0x0, 0x0⟩
def F.DT_ASSOC_B_GATE_COST : RegField := ⟨R.DT_ASSOC_B, 0, 32⟩
def F.DT_ASSOC_B_Q : RegField := ⟨R.DT_ASSOC_B, 32, 32⟩
/-- DT_ASSOC_C (its line of the register map). -/
def R.DT_ASSOC_C : RegArr := ⟨0x6, 0xC0, 4, 8, 0, 4, 0x0, 0xFFFFFFFF, 0x0, 0x0, 0x0⟩
def F.DT_ASSOC_C_V0 : RegField := ⟨R.DT_ASSOC_C, 0, 32⟩
/-- DT_SRC_CFG (Table DT-16). -/
def R.DT_SRC_CFG : RegArr := ⟨0x6, 0x200, 64, 8, 0, 64, 0x1, 0xFFFFFFFF000000F3, 0x0, 0x0, 0x0⟩
def F.DT_SRC_CFG_INSTANT : RegField := ⟨R.DT_SRC_CFG, 0, 2⟩
def F.DT_SRC_CFG_TRUST : RegField := ⟨R.DT_SRC_CFG, 4, 4⟩
def F.DT_SRC_CFG_OFS : RegField := ⟨R.DT_SRC_CFG, 32, 32⟩
/-- DT_SRC_STAT (Table DT-17). -/
def R.DT_SRC_STAT : RegArr := ⟨0x6, 0x400, 64, 8, 0, 64, 0x0, 0x0, 0x0, 0x0, 0x0⟩
def F.DT_SRC_STAT_AGE : RegField := ⟨R.DT_SRC_STAT, 0, 8⟩
def F.DT_SRC_STAT_CLASS : RegField := ⟨R.DT_SRC_STAT, 8, 3⟩
def F.DT_SRC_STAT_LAST_SEQ : RegField := ⟨R.DT_SRC_STAT, 16, 48⟩
/-- DT_GROUP_A (Table DT-18). -/
def R.DT_GROUP_A : RegArr := ⟨0x6, 0x600, 64, 8, 0, 64, 0x200000, 0xFFFFFFFF03FFFFFF, 0x0, 0x0, 0x0⟩
def F.DT_GROUP_A_BASE : RegField := ⟨R.DT_GROUP_A, 0, 10⟩
def F.DT_GROUP_A_COUNT : RegField := ⟨R.DT_GROUP_A, 10, 6⟩
def F.DT_GROUP_A_ORDER : RegField := ⟨R.DT_GROUP_A, 16, 1⟩
def F.DT_GROUP_A_SAFETY : RegField := ⟨R.DT_GROUP_A, 17, 1⟩
def F.DT_GROUP_A_CONFLICT_MAX : RegField := ⟨R.DT_GROUP_A, 18, 8⟩
def F.DT_GROUP_A_GATE : RegField := ⟨R.DT_GROUP_A, 32, 32⟩
/-- DT_GROUP_B (its line of the register map). -/
def R.DT_GROUP_B : RegArr := ⟨0x6, 0x800, 64, 8, 0, 64, 0x0, 0xFFFFFFFF, 0x0, 0x0, 0x0⟩
def F.DT_GROUP_B_Q : RegField := ⟨R.DT_GROUP_B, 0, 32⟩
/-- DT_GROUP_M (its line of the register map). -/
def R.DT_GROUP_M : RegArr := ⟨0x6, 0xA00, 64, 8, 0, 64, 0x0, 0xFFFFFFFFFFFFFFFF, 0x0, 0x0, 0x0⟩
def F.DT_GROUP_M_SRC_MASK : RegField := ⟨R.DT_GROUP_M, 0, 64⟩
/-- TV_CFG (Table TV-7). -/
def R.TV_CFG : RegArr := ⟨0x7, 0x0, 1, 0, 0, 1, 0x0, 0xFFF, 0x0, 0x0, 0x0⟩
def F.TV_CFG_EN : RegField := ⟨R.TV_CFG, 0, 1⟩
def F.TV_CFG_WORK_BASE : RegField := ⟨R.TV_CFG, 1, 11⟩
/-- TV_STATUS (Table TV-8). -/
def R.TV_STATUS : RegArr := ⟨0x7, 0x8, 1, 0, 0, 1, 0x0, 0x0, 0x0, 0x0, 0x0⟩
def F.TV_STATUS_RUNNING : RegField := ⟨R.TV_STATUS, 0, 1⟩
def F.TV_STATUS_PROBLEM : RegField := ⟨R.TV_STATUS, 1, 6⟩
def F.TV_STATUS_FRAME : RegField := ⟨R.TV_STATUS, 16, 48⟩
/-- TV_COUNTS (Table TV-9). -/
def R.TV_COUNTS : RegArr := ⟨0x7, 0x10, 1, 0, 0, 1, 0x0, 0x0, 0x0, 0xFFFFFFFFFFFFFFFF, 0x0⟩
def F.TV_COUNTS_SKIPPED : RegField := ⟨R.TV_COUNTS, 0, 16⟩
def F.TV_COUNTS_CLAMPS : RegField := ⟨R.TV_COUNTS, 16, 16⟩
def F.TV_COUNTS_NO_INPUT : RegField := ⟨R.TV_COUNTS, 32, 16⟩
def F.TV_COUNTS_LIN_DEFER : RegField := ⟨R.TV_COUNTS, 48, 16⟩
/-- TV_COUNTS2 (Table TV-21). -/
def R.TV_COUNTS2 : RegArr := ⟨0x7, 0x18, 1, 0, 0, 1, 0x0, 0x0, 0x0, 0xFFFFFFFFFFFFFFFF, 0x0⟩
def F.TV_COUNTS2_CAPPED : RegField := ⟨R.TV_COUNTS2, 0, 16⟩
def F.TV_COUNTS2_PIVOT_RUNS : RegField := ⟨R.TV_COUNTS2, 16, 16⟩
def F.TV_COUNTS2_SAT_RUNS : RegField := ⟨R.TV_COUNTS2, 32, 16⟩
def F.TV_COUNTS2_TIMEOUTS : RegField := ⟨R.TV_COUNTS2, 48, 8⟩
def F.TV_COUNTS2_COLD : RegField := ⟨R.TV_COUNTS2, 56, 8⟩
/-- TV_PROB_A (Table TV-10). -/
def R.TV_PROB_A : RegArr := ⟨0x7, 0x100, 64, 16, 0, 64, 0x0, 0x1FFFFF000001FF, 0x0, 0x0, 0x0⟩
def F.TV_PROB_A_EN : RegField := ⟨R.TV_PROB_A, 0, 1⟩
def F.TV_PROB_A_RUNS : RegField := ⟨R.TV_PROB_A, 1, 4⟩
def F.TV_PROB_A_LIN_BIT : RegField := ⟨R.TV_PROB_A, 5, 4⟩
def F.TV_PROB_A_LATCH : RegField := ⟨R.TV_PROB_A, 32, 21⟩
/-- TV_PROB_B (Table TV-11). -/
def R.TV_PROB_B : RegArr := ⟨0x7, 0x108, 64, 16, 0, 64, 0x0, 0x1FFFFFFFFFFFFF, 0x0, 0x0, 0x0⟩
def F.TV_PROB_B_PERIOD : RegField := ⟨R.TV_PROB_B, 0, 21⟩
def F.TV_PROB_B_BUDGET : RegField := ⟨R.TV_PROB_B, 21, 21⟩
def F.TV_PROB_B_BASE : RegField := ⟨R.TV_PROB_B, 42, 11⟩
/-- TV_PROB_STAT (Table TV-12). -/
def R.TV_PROB_STAT : RegArr := ⟨0x7, 0x500, 64, 8, 0, 64, 0x0, 0x0, 0x0, 0x0, 0x0⟩
def F.TV_PROB_STAT_REGISTERED : RegField := ⟨R.TV_PROB_STAT, 0, 1⟩
def F.TV_PROB_STAT_PENDING : RegField := ⟨R.TV_PROB_STAT, 1, 1⟩
def F.TV_PROB_STAT_BANK : RegField := ⟨R.TV_PROB_STAT, 2, 1⟩
def F.TV_PROB_STAT_WCET : RegField := ⟨R.TV_PROB_STAT, 3, 21⟩
def F.TV_PROB_STAT_LIN_OFS : RegField := ⟨R.TV_PROB_STAT, 24, 21⟩
def F.TV_PROB_STAT_AREA : RegField := ⟨R.TV_PROB_STAT, 45, 19⟩
/-- TV_PROB_C (Table TV-17). -/
def R.TV_PROB_C : RegArr := ⟨0x7, 0x700, 64, 8, 0, 64, 0x800, 0xFFF, 0x0, 0x0, 0x0⟩
def F.TV_PROB_C_OUT_BASE : RegField := ⟨R.TV_PROB_C, 0, 11⟩
def F.TV_PROB_C_WARM : RegField := ⟨R.TV_PROB_C, 11, 1⟩
/-- TV_SOLVE_A (Table TV-18). -/
def R.TV_SOLVE_A : RegArr := ⟨0x7, 0x900, 64, 8, 0, 64, 0x3A83126F3A83126F, 0xFFFFFFFFFFFFFFFF, 0x0, 0x0, 0x0⟩
def F.TV_SOLVE_A_EPS_PRIM : RegField := ⟨R.TV_SOLVE_A, 0, 32⟩
def F.TV_SOLVE_A_EPS_DUAL : RegField := ⟨R.TV_SOLVE_A, 32, 32⟩
/-- TV_SOLVE_B (Table TV-18). -/
def R.TV_SOLVE_B : RegArr := ⟨0x7, 0xB00, 64, 8, 0, 64, 0x358637BD3DCCCCCD, 0xFFFFFFFFFFFFFFFF, 0x0, 0x0, 0x0⟩
def F.TV_SOLVE_B_RHO : RegField := ⟨R.TV_SOLVE_B, 0, 32⟩
def F.TV_SOLVE_B_SIGMA : RegField := ⟨R.TV_SOLVE_B, 32, 32⟩
/-- TV_SOLVE_C (Table TV-18). -/
def R.TV_SOLVE_C : RegArr := ⟨0x7, 0xD00, 64, 8, 0, 64, 0x3A83126F38D1B717, 0xFFFFFFFFFFFFFFFF, 0x0, 0x0, 0x0⟩
def F.TV_SOLVE_C_PIVOT_MIN : RegField := ⟨R.TV_SOLVE_C, 0, 32⟩
def F.TV_SOLVE_C_DELTA : RegField := ⟨R.TV_SOLVE_C, 32, 32⟩
/-- TV_TIME (Table TV-19). -/
def R.TV_TIME : RegArr := ⟨0x7, 0xF00, 64, 8, 0, 64, 0x0, 0x0, 0x0, 0x0, 0x0⟩
def F.TV_TIME_FACT : RegField := ⟨R.TV_TIME, 0, 21⟩
def F.TV_TIME_ITER : RegField := ⟨R.TV_TIME, 21, 16⟩
def F.TV_TIME_TEST : RegField := ⟨R.TV_TIME, 37, 16⟩
def F.TV_TIME_CHECK : RegField := ⟨R.TV_TIME, 53, 6⟩
/-- TV_LAST (Table TV-20). -/
def R.TV_LAST : RegArr := ⟨0x7, 0x1100, 64, 8, 0, 64, 0x0, 0x0, 0x0, 0x0, 0x0⟩
def F.TV_LAST_ITERS : RegField := ⟨R.TV_LAST, 0, 16⟩
def F.TV_LAST_PIVOTS : RegField := ⟨R.TV_LAST, 16, 16⟩
def F.TV_LAST_STATUS : RegField := ⟨R.TV_LAST, 32, 16⟩
/-- GL_CFG (its line of the register map). -/
def R.GL_CFG : RegArr := ⟨0x8, 0x0, 1, 0, 0, 1, 0x0, 0x1, 0x0, 0x0, 0x0⟩
def F.GL_CFG_EN : RegField := ⟨R.GL_CFG, 0, 1⟩
/-- GL_ETH_SA (its line of the register map). -/
def R.GL_ETH_SA : RegArr := ⟨0x8, 0x20, 4, 8, 0, 4, 0x0, 0xFFFFFFFFFFFF, 0x0, 0x0, 0x0⟩
def F.GL_ETH_SA_SA : RegField := ⟨R.GL_ETH_SA, 0, 48⟩
/-- GL_CH_A (Table GL-6). -/
def R.GL_CH_A : RegArr := ⟨0x8, 0x100, 64, 8, 0, 64, 0x0, 0x3FFFFFF0001FFFF, 0x0, 0x0, 0x0⟩
def F.GL_CH_A_EN : RegField := ⟨R.GL_CH_A, 0, 1⟩
def F.GL_CH_A_NS : RegField := ⟨R.GL_CH_A, 1, 6⟩
def F.GL_CH_A_NU : RegField := ⟨R.GL_CH_A, 7, 6⟩
def F.GL_CH_A_NY : RegField := ⟨R.GL_CH_A, 13, 4⟩
def F.GL_CH_A_PHASE0 : RegField := ⟨R.GL_CH_A, 32, 26⟩
/-- GL_CH_B (Table GL-7). -/
def R.GL_CH_B : RegArr := ⟨0x8, 0x300, 64, 8, 0, 64, 0x10007D0003D09, 0xFFFFFFFFFFFFFFF, 0x0, 0x0, 0x0⟩
def F.GL_CH_B_PERIOD : RegField := ⟨R.GL_CH_B, 0, 24⟩
def F.GL_CH_B_OUT_PHASE : RegField := ⟨R.GL_CH_B, 24, 24⟩
def F.GL_CH_B_SAMPLES : RegField := ⟨R.GL_CH_B, 48, 12⟩
/-- GL_CH_C (Table GL-8). -/
def R.GL_CH_C : RegArr := ⟨0x8, 0x500, 64, 8, 0, 64, 0x0, 0xFFFFFFFF0001FFFF, 0x0, 0x0, 0x0⟩
def F.GL_CH_C_PORT : RegField := ⟨R.GL_CH_C, 0, 5⟩
def F.GL_CH_C_DFMT : RegField := ⟨R.GL_CH_C, 5, 2⟩
def F.GL_CH_C_DFRAC : RegField := ⟨R.GL_CH_C, 7, 6⟩
def F.GL_CH_C_HDR : RegField := ⟨R.GL_CH_C, 13, 1⟩
def F.GL_CH_C_CRC : RegField := ⟨R.GL_CH_C, 14, 1⟩
def F.GL_CH_C_FD : RegField := ⟨R.GL_CH_C, 15, 1⟩
def F.GL_CH_C_BRS : RegField := ⟨R.GL_CH_C, 16, 1⟩
def F.GL_CH_C_ADDR : RegField := ⟨R.GL_CH_C, 32, 32⟩
/-- GL_CH_D (its line of the register map). -/
def R.GL_CH_D : RegArr := ⟨0x8, 0x700, 64, 8, 0, 64, 0x0, 0xFFFFFFFFFFFF, 0x0, 0x0, 0x0⟩
def F.GL_CH_D_DA : RegField := ⟨R.GL_CH_D, 0, 48⟩
/-- GL_CH_STAT (Table GL-9). -/
def R.GL_CH_STAT : RegArr := ⟨0x8, 0x900, 64, 8, 0, 64, 0x0, 0x0, 0x0, 0x0, 0x0⟩
def F.GL_CH_STAT_BANK : RegField := ⟨R.GL_CH_STAT, 0, 1⟩
def F.GL_CH_STAT_PENDING : RegField := ⟨R.GL_CH_STAT, 1, 1⟩
def F.GL_CH_STAT_LOADED : RegField := ⟨R.GL_CH_STAT, 2, 1⟩
def F.GL_CH_STAT_SAMPLE : RegField := ⟨R.GL_CH_STAT, 16, 48⟩
/-- GL_CH_CNT (Table GL-10). -/
def R.GL_CH_CNT : RegArr := ⟨0x8, 0xB00, 64, 8, 0, 64, 0x0, 0x0, 0x0, 0xFFFFFFFFFFFFFFFF, 0x0⟩
def F.GL_CH_CNT_SAT : RegField := ⟨R.GL_CH_CNT, 0, 16⟩
def F.GL_CH_CNT_MISSED : RegField := ⟨R.GL_CH_CNT, 16, 16⟩
def F.GL_CH_CNT_SKIPPED : RegField := ⟨R.GL_CH_CNT, 32, 8⟩
def F.GL_CH_CNT_GATE_DROP : RegField := ⟨R.GL_CH_CNT, 40, 8⟩
def F.GL_CH_CNT_DRIVE_DROP : RegField := ⟨R.GL_CH_CNT, 48, 8⟩
def F.GL_CH_CNT_STALE : RegField := ⟨R.GL_CH_CNT, 56, 8⟩
/-- ST_CFG (Table ST-5). -/
def R.ST_CFG : RegArr := ⟨0x9, 0x0, 1, 0, 0, 1, 0x0, 0x1FFFFFFFF, 0x0, 0x0, 0x0⟩
def F.ST_CFG_EN : RegField := ⟨R.ST_CFG, 0, 1⟩
def F.ST_CFG_UNKNOWN : RegField := ⟨R.ST_CFG, 1, 1⟩
def F.ST_CFG_PROP_BIT : RegField := ⟨R.ST_CFG, 2, 4⟩
def F.ST_CFG_UPD_BIT : RegField := ⟨R.ST_CFG, 6, 4⟩
def F.ST_CFG_WP_MAX : RegField := ⟨R.ST_CFG, 10, 8⟩
def F.ST_CFG_HOLD_WP : RegField := ⟨R.ST_CFG, 18, 8⟩
def F.ST_CFG_HOLD_SHIFT : RegField := ⟨R.ST_CFG, 26, 7⟩
/-- ST_TIME_A (its line of the register map). -/
def R.ST_TIME_A : RegArr := ⟨0x9, 0x8, 1, 0, 0, 1, 0x0, 0x7FFFFFF07FFFFFF, 0x0, 0x0, 0x0⟩
def F.ST_TIME_A_LATCH : RegField := ⟨R.ST_TIME_A, 0, 27⟩
def F.ST_TIME_A_CHECK_END : RegField := ⟨R.ST_TIME_A, 32, 27⟩
/-- ST_TIME_B (its line of the register map). -/
def R.ST_TIME_B : RegArr := ⟨0x9, 0x10, 1, 0, 0, 1, 0x0, 0x7FFFFFF, 0x0, 0x0, 0x0⟩
def F.ST_TIME_B_GATE : RegField := ⟨R.ST_TIME_B, 0, 27⟩
/-- ST_GEOM (its line of the register map). -/
def R.ST_GEOM : RegArr := ⟨0x9, 0x18, 1, 0, 0, 1, 0x0, 0xFFFFFFFFFFFFFFFF, 0x0, 0x0, 0x0⟩
def F.ST_GEOM_VOX : RegField := ⟨R.ST_GEOM, 0, 32⟩
def F.ST_GEOM_MARGIN : RegField := ⟨R.ST_GEOM, 32, 32⟩
/-- ST_STEP (its line of the register map). -/
def R.ST_STEP : RegArr := ⟨0x9, 0x20, 1, 0, 0, 1, 0x0, 0xFFFFFFFF, 0x0, 0x0, 0x0⟩
def F.ST_STEP_STEP_MAX : RegField := ⟨R.ST_STEP, 0, 32⟩
/-- ST_PROP (Table ST-6). -/
def R.ST_PROP : RegArr := ⟨0x9, 0x28, 1, 0, 0, 1, 0x0, 0x3FFFFFFF, 0x0, 0x0, 0x0⟩
def F.ST_PROP_BASE : RegField := ⟨R.ST_PROP, 0, 21⟩
def F.ST_PROP_SIZE : RegField := ⟨R.ST_PROP, 21, 6⟩
def F.ST_PROP_PART : RegField := ⟨R.ST_PROP, 27, 3⟩
/-- ST_STATUS (Table ST-7). -/
def R.ST_STATUS : RegArr := ⟨0x9, 0x30, 1, 0, 0, 1, 0x0, 0x0, 0x18, 0x0, 0x0⟩
def F.ST_STATUS_RUNNING : RegField := ⟨R.ST_STATUS, 0, 1⟩
def F.ST_STATUS_PHASE : RegField := ⟨R.ST_STATUS, 1, 2⟩
def F.ST_STATUS_STAGE_WRITE : RegField := ⟨R.ST_STATUS, 3, 1⟩
def F.ST_STATUS_HOLD_BLOCKED : RegField := ⟨R.ST_STATUS, 4, 1⟩
def F.ST_STATUS_SPHERES : RegField := ⟨R.ST_STATUS, 5, 10⟩
def F.ST_STATUS_LINKS : RegField := ⟨R.ST_STATUS, 15, 7⟩
def F.ST_STATUS_DOF : RegField := ⟨R.ST_STATUS, 22, 7⟩
/-- ST_EPOCH (its line of the register map). -/
def R.ST_EPOCH : RegArr := ⟨0x9, 0x38, 1, 0, 0, 1, 0x0, 0x0, 0x0, 0x0, 0x0⟩
def F.ST_EPOCH_EPOCH : RegField := ⟨R.ST_EPOCH, 0, 64⟩
/-- ST_COUNTS (Table ST-8). -/
def R.ST_COUNTS : RegArr := ⟨0x9, 0x40, 1, 0, 0, 1, 0x0, 0x0, 0x0, 0xFFFFFFFFFFFFFFF, 0x0⟩
def F.ST_COUNTS_NO_PATH : RegField := ⟨R.ST_COUNTS, 0, 8⟩
def F.ST_COUNTS_TIMEOUT : RegField := ⟨R.ST_COUNTS, 8, 8⟩
def F.ST_COUNTS_INVALIDATED : RegField := ⟨R.ST_COUNTS, 16, 8⟩
def F.ST_COUNTS_HOLD_OUT : RegField := ⟨R.ST_COUNTS, 24, 8⟩
def F.ST_COUNTS_UPD_BAD : RegField := ⟨R.ST_COUNTS, 32, 8⟩
def F.ST_COUNTS_UPD_FULL : RegField := ⟨R.ST_COUNTS, 40, 8⟩
def F.ST_COUNTS_FLIP_DEFER : RegField := ⟨R.ST_COUNTS, 48, 4⟩
def F.ST_COUNTS_UPD_DEFER : RegField := ⟨R.ST_COUNTS, 52, 4⟩
def F.ST_COUNTS_LATCH_LATE : RegField := ⟨R.ST_COUNTS, 56, 4⟩
/-- ST_LAST (Table ST-9). -/
def R.ST_LAST : RegArr := ⟨0x9, 0x48, 1, 0, 0, 1, 0x0, 0x0, 0x0, 0x0, 0x0⟩
def F.ST_LAST_SELECTED : RegField := ⟨R.ST_LAST, 0, 7⟩
def F.ST_LAST_CHECKED : RegField := ⟨R.ST_LAST, 8, 8⟩
def F.ST_LAST_PASSED : RegField := ⟨R.ST_LAST, 16, 8⟩
def F.ST_LAST_RECHECKED : RegField := ⟨R.ST_LAST, 24, 8⟩
def F.ST_LAST_STATUS : RegField := ⟨R.ST_LAST, 32, 16⟩
def F.ST_LAST_LIVE : RegField := ⟨R.ST_LAST, 48, 16⟩
/-- PB_CFG (Table PB-8). -/
def R.PB_CFG : RegArr := ⟨0xA, 0x0, 1, 0, 0, 1, 0x19008A, 0x2FFFFFFFFFFFF, 0x0, 0x0, 0x0⟩
def F.PB_CFG_WD_TIMEOUT : RegField := ⟨R.PB_CFG, 0, 7⟩
def F.PB_CFG_PULSE_EN : RegField := ⟨R.PB_CFG, 7, 1⟩
def F.PB_CFG_STOP_COND : RegField := ⟨R.PB_CFG, 8, 6⟩
def F.PB_CFG_STOP_DELAY : RegField := ⟨R.PB_CFG, 14, 10⟩
def F.PB_CFG_FRAME_OFS : RegField := ⟨R.PB_CFG, 24, 24⟩
def F.PB_CFG_LOCKED : RegField := ⟨R.PB_CFG, 48, 1⟩
def F.PB_CFG_STOP_EN : RegField := ⟨R.PB_CFG, 49, 1⟩
/-- PB_DEGRADE (Table PB-9). -/
def R.PB_DEGRADE : RegArr := ⟨0xA, 0x8, 1, 0, 0, 1, 0x2A, 0x3F, 0x0, 0x0, 0x0⟩
def F.PB_DEGRADE_GOLDEN_DEFER : RegField := ⟨R.PB_DEGRADE, 0, 2⟩
def F.PB_DEGRADE_GOLDEN_MISMATCH : RegField := ⟨R.PB_DEGRADE, 2, 2⟩
def F.PB_DEGRADE_FRAME_PLAN : RegField := ⟨R.PB_DEGRADE, 4, 2⟩
/-- PB_STATUS (Table PB-10). -/
def R.PB_STATUS : RegArr := ⟨0xA, 0x10, 1, 0, 0, 1, 0x100090F, 0x0, 0x0, 0x0, 0x0⟩
def F.PB_STATUS_MODE : RegField := ⟨R.PB_STATUS, 0, 2⟩
def F.PB_STATUS_STOP_A : RegField := ⟨R.PB_STATUS, 2, 1⟩
def F.PB_STATUS_STOP_B : RegField := ⟨R.PB_STATUS, 3, 1⟩
def F.PB_STATUS_RB_A : RegField := ⟨R.PB_STATUS, 4, 1⟩
def F.PB_STATUS_RB_B : RegField := ⟨R.PB_STATUS, 5, 1⟩
def F.PB_STATUS_WDI_OK : RegField := ⟨R.PB_STATUS, 6, 1⟩
def F.PB_STATUS_GATE_OPEN : RegField := ⟨R.PB_STATUS, 7, 1⟩
def F.PB_STATUS_CAUSE : RegField := ⟨R.PB_STATUS, 8, 8⟩
def F.PB_STATUS_CAUSES : RegField := ⟨R.PB_STATUS, 16, 9⟩
def F.PB_STATUS_FRAME : RegField := ⟨R.PB_STATUS, 32, 32⟩
/-- PB_COUNTS (Table PB-11). -/
def R.PB_COUNTS : RegArr := ⟨0xA, 0x18, 1, 0, 0, 1, 0x0, 0x0, 0x0, 0xFFFFFFFFFFFFFFFF, 0x0⟩
def F.PB_COUNTS_BLOCKED : RegField := ⟨R.PB_COUNTS, 0, 32⟩
def F.PB_COUNTS_GATE_CLOSED : RegField := ⟨R.PB_COUNTS, 32, 16⟩
def F.PB_COUNTS_STOPS : RegField := ⟨R.PB_COUNTS, 48, 8⟩
def F.PB_COUNTS_RELEASES : RegField := ⟨R.PB_COUNTS, 56, 8⟩
/-- PB_GOLDEN (Table PB-12). -/
def R.PB_GOLDEN : RegArr := ⟨0xA, 0x20, 1, 0, 0, 1, 0x0, 0x0, 0x0, 0xFFFF0000, 0x0⟩
def F.PB_GOLDEN_LAST_SET : RegField := ⟨R.PB_GOLDEN, 0, 4⟩
def F.PB_GOLDEN_LAST_OK : RegField := ⟨R.PB_GOLDEN, 4, 1⟩
def F.PB_GOLDEN_MISMATCHES : RegField := ⟨R.PB_GOLDEN, 16, 16⟩
def F.PB_GOLDEN_JUDGED : RegField := ⟨R.PB_GOLDEN, 32, 32⟩
/-- PB_INJECT (Table PB-13). -/
def R.PB_INJECT : RegArr := ⟨0xA, 0x28, 1, 0, 0, 1, 0x0, 0x0, 0x0, 0x0, 0x0⟩
def F.PB_INJECT_FAIL : RegField := ⟨R.PB_INJECT, 0, 11⟩
def F.PB_INJECT_DONE : RegField := ⟨R.PB_INJECT, 11, 1⟩
def F.PB_INJECT_PASS : RegField := ⟨R.PB_INJECT, 12, 1⟩
/-- PB_USER (its line of the register map). -/
def R.PB_USER : RegArr := ⟨0xA, 0x30, 1, 0, 0, 1, 0x0, 0x0, 0x0, 0x0, 0x0⟩
def F.PB_USER_BITS : RegField := ⟨R.PB_USER, 0, 32⟩
/-- PB_EV (its line of the register map). -/
def R.PB_EV : RegArr := ⟨0xA, 0x100, 64, 8, 0, 64, 0x0, 0x0, 0x0, 0x0, 0x0⟩
def F.PB_EV_COUNT : RegField := ⟨R.PB_EV, 0, 32⟩
def F.PB_EV_LAST_DETAIL : RegField := ⟨R.PB_EV, 32, 32⟩
/-- TH_STREAM (Table TH-10). -/
def R.TH_STREAM : RegArr := ⟨0xB, 0x0, 128, 8, 0, 128, 0x0, 0x0, 0x0, 0x0, 0x0⟩
def F.TH_STREAM_OPEN : RegField := ⟨R.TH_STREAM, 0, 1⟩
def F.TH_STREAM_STAGE_FIRST : RegField := ⟨R.TH_STREAM, 1, 9⟩
def F.TH_STREAM_STAGE_BLOCKS : RegField := ⟨R.TH_STREAM, 10, 9⟩
def F.TH_STREAM_COND : RegField := ⟨R.TH_STREAM, 19, 6⟩
def F.TH_STREAM_PART : RegField := ⟨R.TH_STREAM, 25, 3⟩
def F.TH_STREAM_DEST_LEN : RegField := ⟨R.TH_STREAM, 32, 16⟩
def F.TH_STREAM_DEST_HI : RegField := ⟨R.TH_STREAM, 48, 16⟩
/-- TH_WMAP (Table TH-11). -/
def R.TH_WMAP : RegArr := ⟨0xB, 0x100000, 32768, 8, 0, 32768, 0x0, 0x0, 0x0, 0x0, 0x0⟩
def F.TH_WMAP_BLOCK : RegField := ⟨R.TH_WMAP, 0, 9⟩
def F.TH_WMAP_VALID : RegField := ⟨R.TH_WMAP, 9, 1⟩
def F.TH_WMAP_KIND : RegField := ⟨R.TH_WMAP, 10, 2⟩
def F.TH_WMAP_FILLING : RegField := ⟨R.TH_WMAP, 12, 1⟩
def F.TH_WMAP_PART : RegField := ⟨R.TH_WMAP, 13, 3⟩
def F.TH_WMAP_CONTEXT : RegField := ⟨R.TH_WMAP, 16, 12⟩
/-- BC_STATUS (Table BC-8). -/
def R.BC_STATUS : RegArr := ⟨0xC, 0x0, 1, 0, 0, 1, 0x200000000, 0x0, 0x0, 0x0, 0x0⟩
def F.BC_STATUS_HOST_IDLE : RegField := ⟨R.BC_STATUS, 0, 2⟩
def F.BC_STATUS_DEPARTED : RegField := ⟨R.BC_STATUS, 2, 2⟩
def F.BC_STATUS_CONTEXTS : RegField := ⟨R.BC_STATUS, 16, 13⟩
def F.BC_STATUS_RINGS : RegField := ⟨R.BC_STATUS, 32, 15⟩
/-- BC_COUNTS (Table BC-9). -/
def R.BC_COUNTS : RegArr := ⟨0xC, 0x8, 1, 0, 0, 1, 0x0, 0x0, 0x0, 0xFFFFFFFFFFFFFFFF, 0x0⟩
def F.BC_COUNTS_BAD_DOORBELL : RegField := ⟨R.BC_COUNTS, 0, 16⟩
def F.BC_COUNTS_REJECTED : RegField := ⟨R.BC_COUNTS, 16, 16⟩
def F.BC_COUNTS_COMPLETED : RegField := ⟨R.BC_COUNTS, 32, 32⟩
/-- BC_RING_SEL (its line of the register map). -/
def R.BC_RING_SEL : RegArr := ⟨0xC, 0x10, 1, 0, 0, 1, 0x0, 0x0, 0x0, 0x0, 0x3FFF⟩
def F.BC_RING_SEL_RING : RegField := ⟨R.BC_RING_SEL, 0, 14⟩
/-- BC_RING_INFO (Table BC-10). -/
def R.BC_RING_INFO : RegArr := ⟨0xC, 0x18, 1, 0, 0, 1, 0x0, 0x0, 0x0, 0x0, 0x0⟩
def F.BC_RING_INFO_VALID : RegField := ⟨R.BC_RING_INFO, 0, 1⟩
def F.BC_RING_INFO_CHANNEL : RegField := ⟨R.BC_RING_INFO, 1, 1⟩
def F.BC_RING_INFO_ATTN : RegField := ⟨R.BC_RING_INFO, 2, 1⟩
def F.BC_RING_INFO_LOG_SIZE : RegField := ⟨R.BC_RING_INFO, 3, 4⟩
def F.BC_RING_INFO_PART : RegField := ⟨R.BC_RING_INFO, 7, 3⟩
def F.BC_RING_INFO_CONTEXT : RegField := ⟨R.BC_RING_INFO, 10, 12⟩
def F.BC_RING_INFO_OFFSET : RegField := ⟨R.BC_RING_INFO, 22, 24⟩
def F.BC_RING_INFO_OUTSTANDING : RegField := ⟨R.BC_RING_INFO, 46, 16⟩
/-- BC_RIGHTS (Table BC-11). -/
def R.BC_RIGHTS : RegArr := ⟨0xC, 0x40, 8, 8, 0, 8, 0x0, 0x0, 0x0, 0x0, 0x0⟩
def F.BC_RIGHTS_CHANNELS : RegField := ⟨R.BC_RIGHTS, 0, 2⟩
def F.BC_RIGHTS_MAX_CONTEXTS : RegField := ⟨R.BC_RIGHTS, 2, 13⟩
/-- BC_COMMIT_REPORT (Table BU-9). -/
def R.BC_COMMIT_REPORT : RegArr := ⟨0xC, 0x100, 1, 0, 0, 1, 0x0, 0x0, 0x0, 0x0, 0x0⟩
def F.BC_COMMIT_REPORT_STATUS : RegField := ⟨R.BC_COMMIT_REPORT, 0, 16⟩
def F.BC_COMMIT_REPORT_UNIT : RegField := ⟨R.BC_COMMIT_REPORT, 16, 8⟩
def F.BC_COMMIT_REPORT_OFFSET : RegField := ⟨R.BC_COMMIT_REPORT, 24, 24⟩
def F.BC_COMMIT_REPORT_INDEX : RegField := ⟨R.BC_COMMIT_REPORT, 48, 16⟩
/-- BC_PART_STATE (Table BU-10). -/
def R.BC_PART_STATE : RegArr := ⟨0xC, 0x108, 1, 0, 0, 1, 0x0, 0x0, 0x0, 0x0, 0x0⟩
def F.BC_PART_STATE_STATE : RegField := ⟨R.BC_PART_STATE, 0, 24⟩
def F.BC_PART_STATE_FILL_HELD : RegField := ⟨R.BC_PART_STATE, 24, 1⟩
def F.BC_PART_STATE_RESTARTS : RegField := ⟨R.BC_PART_STATE, 32, 32⟩
/-- BC_SOAK (Table BU-11). -/
def R.BC_SOAK : RegArr := ⟨0xC, 0x110, 2, 8, 0, 2, 0x0, 0x0, 0x0, 0x0, 0x0⟩
def F.BC_SOAK_WR_BLOCKS : RegField := ⟨R.BC_SOAK, 0, 28⟩
def F.BC_SOAK_RD_BLOCKS : RegField := ⟨R.BC_SOAK, 28, 28⟩
def F.BC_SOAK_WR_ERR : RegField := ⟨R.BC_SOAK, 56, 8⟩
/-- PW_CFG (Table PW-4). -/
def R.PW_CFG : RegArr := ⟨0xD, 0x0, 1, 0, 0, 1, 0x8294064, 0xFFFFF7F, 0x0, 0x0, 0x0⟩
def F.PW_CFG_T_THROT : RegField := ⟨R.PW_CFG, 0, 7⟩
def F.PW_CFG_VIN_SAG : RegField := ⟨R.PW_CFG, 8, 9⟩
def F.PW_CFG_SAG_TIME : RegField := ⟨R.PW_CFG, 17, 10⟩
def F.PW_CFG_SAVE_EN : RegField := ⟨R.PW_CFG, 27, 1⟩
/-- PW_CAP (Table PW-5). -/
def R.PW_CAP : RegArr := ⟨0xD, 0x8, 1, 0, 0, 1, 0xA1E1C2708, 0x3FFFFFFF000000, 0x0, 0x0, 0x0⟩
def F.PW_CAP_CAP : RegField := ⟨R.PW_CAP, 0, 12⟩
def F.PW_CAP_FLOOR : RegField := ⟨R.PW_CAP, 12, 12⟩
def F.PW_CAP_MARGIN : RegField := ⟨R.PW_CAP, 24, 8⟩
def F.PW_CAP_CAP_WIN : RegField := ⟨R.PW_CAP, 32, 10⟩
def F.PW_CAP_PROT_W : RegField := ⟨R.PW_CAP, 42, 12⟩
/-- PW_STATUS (Table PW-6). -/
def R.PW_STATUS : RegArr := ⟨0xD, 0x10, 1, 0, 0, 1, 0x0, 0x0, 0x20000, 0x0, 0x0⟩
def F.PW_STATUS_DUTY : RegField := ⟨R.PW_STATUS, 0, 4⟩
def F.PW_STATUS_PHASE : RegField := ⟨R.PW_STATUS, 4, 8⟩
def F.PW_STATUS_REASONS : RegField := ⟨R.PW_STATUS, 12, 5⟩
def F.PW_STATUS_CAP_UNMET : RegField := ⟨R.PW_STATUS, 17, 1⟩
def F.PW_STATUS_HOLDUP_READY : RegField := ⟨R.PW_STATUS, 18, 1⟩
def F.PW_STATUS_CALIB_OK : RegField := ⟨R.PW_STATUS, 19, 1⟩
def F.PW_STATUS_SAVING : RegField := ⟨R.PW_STATUS, 20, 1⟩
def F.PW_STATUS_SAVED : RegField := ⟨R.PW_STATUS, 21, 1⟩
def F.PW_STATUS_DIE_TEMP : RegField := ⟨R.PW_STATUS, 22, 8⟩
def F.PW_STATUS_VIN : RegField := ⟨R.PW_STATUS, 32, 13⟩
def F.PW_STATUS_VBANK : RegField := ⟨R.PW_STATUS, 45, 9⟩
/-- PW_SAVE (Table PW-7). -/
def R.PW_SAVE : RegArr := ⟨0xD, 0x18, 1, 0, 0, 1, 0x0, 0x0, 0x0, 0x0, 0x0⟩
def F.PW_SAVE_VALID0 : RegField := ⟨R.PW_SAVE, 0, 1⟩
def F.PW_SAVE_VALID1 : RegField := ⟨R.PW_SAVE, 1, 1⟩
def F.PW_SAVE_NEWEST : RegField := ⟨R.PW_SAVE, 2, 1⟩
def F.PW_SAVE_RESTORED : RegField := ⟨R.PW_SAVE, 3, 1⟩
def F.PW_SAVE_LOTS : RegField := ⟨R.PW_SAVE, 4, 7⟩
def F.PW_SAVE_FRAME : RegField := ⟨R.PW_SAVE, 16, 48⟩
/-- PW_THR_TIME (its line of the register map). -/
def R.PW_THR_TIME : RegArr := ⟨0xD, 0x40, 5, 8, 0, 5, 0x0, 0x0, 0x0, 0x0, 0x0⟩
def F.PW_THR_TIME_CYCLES : RegField := ⟨R.PW_THR_TIME, 0, 64⟩
/-- PW_RAIL (Table PW-8). -/
def R.PW_RAIL : RegArr := ⟨0xD, 0x80, 8, 8, 0, 8, 0x0, 0x0, 0x0, 0x0, 0x0⟩
def F.PW_RAIL_MEAS : RegField := ⟨R.PW_RAIL, 0, 32⟩
def F.PW_RAIL_EST : RegField := ⟨R.PW_RAIL, 32, 32⟩
/-- PW_CALIB (Table PW-9). -/
def R.PW_CALIB : RegArr := ⟨0xD, 0xC0, 8, 8, 0, 8, 0x4000, 0x0, 0x0, 0x0, 0x0⟩
def F.PW_CALIB_GAIN : RegField := ⟨R.PW_CALIB, 0, 16⟩
def F.PW_CALIB_ERR : RegField := ⟨R.PW_CALIB, 16, 16⟩
/-- PW_LEARN_SEL (its line of the register map). -/
def R.PW_LEARN_SEL : RegArr := ⟨0xD, 0x100, 1, 0, 0, 1, 0x0, 0x0, 0x0, 0x0, 0xFF⟩
def F.PW_LEARN_SEL_PHASE : RegField := ⟨R.PW_LEARN_SEL, 0, 8⟩
/-- PW_LEARN (Table PW-10). -/
def R.PW_LEARN : RegArr := ⟨0xD, 0x108, 1, 0, 0, 1, 0x0, 0x0, 0x0, 0x0, 0x0⟩
def F.PW_LEARN_PROT : RegField := ⟨R.PW_LEARN, 0, 16⟩
def F.PW_LEARN_FILL : RegField := ⟨R.PW_LEARN, 16, 16⟩
def F.PW_LEARN_TICKS : RegField := ⟨R.PW_LEARN, 32, 16⟩
/-- ID_STATUS (Table ID-10). -/
def R.ID_STATUS : RegArr := ⟨0xE, 0x0, 1, 0, 0, 1, 0x0, 0x0, 0x0, 0x0, 0x0⟩
def F.ID_STATUS_IDENTITY_OK : RegField := ⟨R.ID_STATUS, 0, 1⟩
def F.ID_STATUS_BOOT_SLOT : RegField := ⟨R.ID_STATUS, 1, 1⟩
def F.ID_STATUS_FLASH_BUSY : RegField := ⟨R.ID_STATUS, 2, 1⟩
def F.ID_STATUS_LOG_LOST : RegField := ⟨R.ID_STATUS, 16, 16⟩
def F.ID_STATUS_FW_VERSION : RegField := ⟨R.ID_STATUS, 32, 32⟩
/-- ID_DEVICE (its line of the register map). -/
def R.ID_DEVICE : RegArr := ⟨0xE, 0x8, 4, 8, 0, 4, 0x0, 0x0, 0x0, 0x0, 0x0⟩
def F.ID_DEVICE_BYTES : RegField := ⟨R.ID_DEVICE, 0, 64⟩
/-- FB_CFG (Table FB-4). -/
def R.FB_CFG : RegArr := ⟨0xF, 0x0, 1, 0, 0, 1, 0xC84000000, 0xFFFFFFFFF, 0x0, 0x0, 0x0⟩
def F.FB_CFG_EN : RegField := ⟨R.FB_CFG, 0, 1⟩
def F.FB_CFG_RING_BASE : RegField := ⟨R.FB_CFG, 1, 11⟩
def F.FB_CFG_RING_LEN : RegField := ⟨R.FB_CFG, 12, 12⟩
def F.FB_CFG_T1 : RegField := ⟨R.FB_CFG, 24, 4⟩
def F.FB_CFG_T2 : RegField := ⟨R.FB_CFG, 28, 4⟩
def F.FB_CFG_T3 : RegField := ⟨R.FB_CFG, 32, 4⟩
/-- FB_STATUS (Table FB-5). -/
def R.FB_STATUS : RegArr := ⟨0xF, 0x8, 1, 0, 0, 1, 0x0, 0x0, 0x4, 0x0, 0x0⟩
def F.FB_STATUS_RECORDING : RegField := ⟨R.FB_STATUS, 0, 1⟩
def F.FB_STATUS_REPLAYING : RegField := ⟨R.FB_STATUS, 1, 1⟩
def F.FB_STATUS_GAP : RegField := ⟨R.FB_STATUS, 2, 1⟩
def F.FB_STATUS_URGENCY : RegField := ⟨R.FB_STATUS, 3, 2⟩
/-- FB_HEAD (its line of the register map). -/
def R.FB_HEAD : RegArr := ⟨0xF, 0x10, 1, 0, 0, 1, 0x0, 0x0, 0x0, 0x0, 0x0⟩
def F.FB_HEAD_RECNO : RegField := ⟨R.FB_HEAD, 0, 64⟩
/-- FB_OLDEST (its line of the register map). -/
def R.FB_OLDEST : RegArr := ⟨0xF, 0x18, 1, 0, 0, 1, 0x0, 0x0, 0x0, 0x0, 0x0⟩
def F.FB_OLDEST_RECNO : RegField := ⟨R.FB_OLDEST, 0, 64⟩
/-- FB_POS (its line of the register map). -/
def R.FB_POS : RegArr := ⟨0xF, 0x20, 1, 0, 0, 1, 0x0, 0x0, 0x0, 0x0, 0x0⟩
def F.FB_POS_NEXT : RegField := ⟨R.FB_POS, 0, 32⟩
def F.FB_POS_OLDEST : RegField := ⟨R.FB_POS, 32, 32⟩
/-- FB_WRAPS (its line of the register map). -/
def R.FB_WRAPS : RegArr := ⟨0xF, 0x28, 1, 0, 0, 1, 0x0, 0x0, 0x0, 0x0, 0x0⟩
def F.FB_WRAPS_WRAPS : RegField := ⟨R.FB_WRAPS, 0, 64⟩
/-- FB_BYTES (its line of the register map). -/
def R.FB_BYTES : RegArr := ⟨0xF, 0x30, 1, 0, 0, 1, 0x0, 0x0, 0x0, 0x0, 0x0⟩
def F.FB_BYTES_BYTES : RegField := ⟨R.FB_BYTES, 0, 64⟩
/-- FB_COUNTS (Table FB-5). -/
def R.FB_COUNTS : RegArr := ⟨0xF, 0x38, 1, 0, 0, 1, 0x0, 0x0, 0x0, 0xFFFFFFFFFFFF, 0x0⟩
def F.FB_COUNTS_LOST : RegField := ⟨R.FB_COUNTS, 0, 32⟩
def F.FB_COUNTS_GAPS : RegField := ⟨R.FB_COUNTS, 32, 16⟩
/-- FB_DIGEST (its line of the register map). -/
def R.FB_DIGEST : RegArr := ⟨0xF, 0x40, 2, 8, 0, 2, 0x0, 0xFFFFFFFFFFFFFFFF, 0x0, 0x0, 0x0⟩
def F.FB_DIGEST_MASK : RegField := ⟨R.FB_DIGEST, 0, 64⟩
/-- FB_FAULT_CFG (Table FB-6). -/
def R.FB_FAULT_CFG : RegArr := ⟨0xF, 0x80, 1, 0, 0, 1, 0x30064, 0xFF1FFF, 0x0, 0x0, 0x0⟩
def F.FB_FAULT_CFG_WINDOW : RegField := ⟨R.FB_FAULT_CFG, 0, 13⟩
def F.FB_FAULT_CFG_THRESHOLD : RegField := ⟨R.FB_FAULT_CFG, 16, 8⟩
/-- FB_FAULT_SEL (its line of the register map). -/
def R.FB_FAULT_SEL : RegArr := ⟨0xF, 0x88, 1, 0, 0, 1, 0x0, 0x0, 0x0, 0x0, 0xFFF⟩
def F.FB_FAULT_SEL_SITE : RegField := ⟨R.FB_FAULT_SEL, 0, 12⟩
/-- FB_FAULT_INFO (Table FB-6). -/
def R.FB_FAULT_INFO : RegArr := ⟨0xF, 0x90, 1, 0, 0, 1, 0x0, 0x0, 0x0, 0x0, 0x0⟩
def F.FB_FAULT_INFO_COUNT : RegField := ⟨R.FB_FAULT_INFO, 0, 8⟩
def F.FB_FAULT_INFO_LASTING : RegField := ⟨R.FB_FAULT_INFO, 8, 1⟩
def F.FB_FAULT_INFO_VALID : RegField := ⟨R.FB_FAULT_INFO, 9, 1⟩
def F.FB_FAULT_INFO_TOTAL : RegField := ⟨R.FB_FAULT_INFO, 16, 16⟩
def F.FB_FAULT_INFO_LAST_FRAME : RegField := ⟨R.FB_FAULT_INFO, 32, 32⟩
/-- TL_CFG (Table TL-3). -/
def R.TL_CFG : RegArr := ⟨0x10, 0x0, 1, 0, 0, 1, 0x3E801F40000, 0xFFFF07FF7FFF, 0x0, 0x0, 0x0⟩
def F.TL_CFG_PORT_EN : RegField := ⟨R.TL_CFG, 0, 3⟩
def F.TL_CFG_SYNC_OUT : RegField := ⟨R.TL_CFG, 3, 3⟩
def F.TL_CFG_FIXED : RegField := ⟨R.TL_CFG, 6, 1⟩
def F.TL_CFG_MODULE_ID : RegField := ⟨R.TL_CFG, 7, 2⟩
def F.TL_CFG_PEER : RegField := ⟨R.TL_CFG, 9, 6⟩
def F.TL_CFG_FIX_NS : RegField := ⟨R.TL_CFG, 16, 11⟩
def F.TL_CFG_LINK_TIMEOUT : RegField := ⟨R.TL_CFG, 32, 16⟩
/-- TL_STATUS (its line of the register map). -/
def R.TL_STATUS : RegArr := ⟨0x10, 0x8, 1, 0, 0, 1, 0x0, 0x0, 0x0, 0x0, 0x0⟩
def F.TL_STATUS_FRAME : RegField := ⟨R.TL_STATUS, 0, 48⟩
def F.TL_STATUS_UNSYNCED : RegField := ⟨R.TL_STATUS, 48, 1⟩
/-- TL_PORT_STAT (Table TL-4). -/
def R.TL_PORT_STAT : RegArr := ⟨0x10, 0x40, 3, 8, 0, 3, 0x0, 0x0, 0x0, 0x0, 0x0⟩
def F.TL_PORT_STAT_UP : RegField := ⟨R.TL_PORT_STAT, 0, 1⟩
def F.TL_PORT_STAT_HALF : RegField := ⟨R.TL_PORT_STAT, 1, 1⟩
def F.TL_PORT_STAT_UPPER : RegField := ⟨R.TL_PORT_STAT, 2, 1⟩
def F.TL_PORT_STAT_PEER_ID : RegField := ⟨R.TL_PORT_STAT, 3, 2⟩
def F.TL_PORT_STAT_MEAS_NS : RegField := ⟨R.TL_PORT_STAT, 5, 11⟩
def F.TL_PORT_STAT_LASTING : RegField := ⟨R.TL_PORT_STAT, 16, 8⟩
def F.TL_PORT_STAT_PEER_DEV : RegField := ⟨R.TL_PORT_STAT, 24, 40⟩
/-- TL_COUNTS (Table TL-5). -/
def R.TL_COUNTS : RegArr := ⟨0x10, 0x80, 3, 8, 0, 3, 0x0, 0x0, 0x0, 0xFFFFFFFFFFFFFF, 0x0⟩
def F.TL_COUNTS_RETRY : RegField := ⟨R.TL_COUNTS, 0, 16⟩
def F.TL_COUNTS_LATE : RegField := ⟨R.TL_COUNTS, 16, 16⟩
def F.TL_COUNTS_ISOL : RegField := ⟨R.TL_COUNTS, 32, 8⟩
def F.TL_COUNTS_DROP : RegField := ⟨R.TL_COUNTS, 40, 8⟩
def F.TL_COUNTS_MARKER_LOST : RegField := ⟨R.TL_COUNTS, 48, 8⟩
/-- TH_ID (Table TH-5). -/
def R.TH_ID : RegArr := ⟨0x11, 0x0, 2, 65536, 0, 2, 0x100B13854444B, 0x0, 0x0, 0x0, 0x0⟩
def F.TH_ID_SIGNATURE : RegField := ⟨R.TH_ID, 0, 32⟩
def F.TH_ID_STEPPING : RegField := ⟨R.TH_ID, 32, 8⟩
def F.TH_ID_CHANNEL : RegField := ⟨R.TH_ID, 40, 1⟩
def F.TH_ID_PORT_VER : RegField := ⟨R.TH_ID, 48, 16⟩
/-- TH_STATUS (Table TH-6). -/
def R.TH_STATUS : RegArr := ⟨0x11, 0x8, 1, 0, 0, 1, 0x0, 0x0, 0xBF, 0x0, 0x0⟩
def F.TH_STATUS_UNBACKED : RegField := ⟨R.TH_STATUS, 0, 1⟩
def F.TH_STATUS_UNBACKED_WR : RegField := ⟨R.TH_STATUS, 1, 1⟩
def F.TH_STATUS_OVERRUN : RegField := ⟨R.TH_STATUS, 2, 1⟩
def F.TH_STATUS_MASK_DROP : RegField := ⟨R.TH_STATUS, 3, 1⟩
def F.TH_STATUS_COMMIT_BAD : RegField := ⟨R.TH_STATUS, 4, 1⟩
def F.TH_STATUS_BAD_CMD : RegField := ⟨R.TH_STATUS, 5, 1⟩
def F.TH_STATUS_HOST_IDLE : RegField := ⟨R.TH_STATUS, 6, 1⟩
def F.TH_STATUS_DEPARTED : RegField := ⟨R.TH_STATUS, 7, 1⟩
/-- TH_ATTN (Table TH-9). -/
def R.TH_ATTN : RegArr := ⟨0x11, 0x10, 1, 0, 0, 1, 0x200, 0xFF00, 0xFF, 0x0, 0x0⟩
def F.TH_ATTN_COMPLETION : RegField := ⟨R.TH_ATTN, 0, 1⟩
def F.TH_ATTN_STEP : RegField := ⟨R.TH_ATTN, 1, 1⟩
def F.TH_ATTN_CREDIT : RegField := ⟨R.TH_ATTN, 2, 1⟩
def F.TH_ATTN_OVERRUN : RegField := ⟨R.TH_ATTN, 3, 1⟩
def F.TH_ATTN_UNBACKED : RegField := ⟨R.TH_ATTN, 4, 1⟩
def F.TH_ATTN_PLUMB : RegField := ⟨R.TH_ATTN, 5, 1⟩
def F.TH_ATTN_SYNC_LOST : RegField := ⟨R.TH_ATTN, 6, 1⟩
def F.TH_ATTN_FAULT : RegField := ⟨R.TH_ATTN, 7, 1⟩
def F.TH_ATTN_MASK : RegField := ⟨R.TH_ATTN, 8, 8⟩
def F.TH_ATTN_PIN : RegField := ⟨R.TH_ATTN, 16, 1⟩
/-- TH_COUNTS (Table TH-7). -/
def R.TH_COUNTS : RegArr := ⟨0x11, 0x18, 1, 0, 0, 1, 0x0, 0x0, 0x0, 0xFFFFFFFFFFFFFFFF, 0x0⟩
def F.TH_COUNTS_UNBACKED : RegField := ⟨R.TH_COUNTS, 0, 16⟩
def F.TH_COUNTS_OVERRUN : RegField := ⟨R.TH_COUNTS, 16, 16⟩
def F.TH_COUNTS_MASK_DROP : RegField := ⟨R.TH_COUNTS, 32, 16⟩
def F.TH_COUNTS_COMMIT_BAD : RegField := ⟨R.TH_COUNTS, 48, 8⟩
def F.TH_COUNTS_BAD_CMD : RegField := ⟨R.TH_COUNTS, 56, 8⟩
/-- TH_UNBACKED (Table TH-8). -/
def R.TH_UNBACKED : RegArr := ⟨0x11, 0x20, 1, 0, 0, 1, 0x0, 0x0, 0x0, 0x0, 0x0⟩
def F.TH_UNBACKED_OFFSET : RegField := ⟨R.TH_UNBACKED, 0, 31⟩
def F.TH_UNBACKED_CHANNEL : RegField := ⟨R.TH_UNBACKED, 31, 1⟩
def F.TH_UNBACKED_WRITE : RegField := ⟨R.TH_UNBACKED, 32, 1⟩
def F.TH_UNBACKED_FRAME : RegField := ⟨R.TH_UNBACKED, 33, 31⟩
/-- BC_STEP (Table BU-1). -/
def R.BC_STEP : RegArr := ⟨0x11, 0x100, 1, 0, 0, 1, 0x0, 0x0, 0x0, 0x0, 0xFFFFFFFF00FFFF07⟩
def F.BC_STEP_STEP : RegField := ⟨R.BC_STEP, 0, 3⟩
def F.BC_STEP_SEQ : RegField := ⟨R.BC_STEP, 8, 8⟩
def F.BC_STEP_SAVED : RegField := ⟨R.BC_STEP, 16, 8⟩
def F.BC_STEP_HOST_RD_ERR : RegField := ⟨R.BC_STEP, 32, 32⟩
/-- BC_STEP_STATUS (Table BU-2). -/
def R.BC_STEP_STATUS : RegArr := ⟨0x11, 0x108, 1, 0, 0, 1, 0x0, 0x0, 0x0, 0x0, 0x0⟩
def F.BC_STEP_STATUS_DONE : RegField := ⟨R.BC_STEP_STATUS, 0, 3⟩
def F.BC_STEP_STATUS_ACTIVE : RegField := ⟨R.BC_STEP_STATUS, 3, 3⟩
def F.BC_STEP_STATUS_RESULT : RegField := ⟨R.BC_STEP_STATUS, 6, 2⟩
def F.BC_STEP_STATUS_SEQ : RegField := ⟨R.BC_STEP_STATUS, 8, 8⟩
def F.BC_STEP_STATUS_FAIL_CODE : RegField := ⟨R.BC_STEP_STATUS, 16, 8⟩
def F.BC_STEP_STATUS_FAIL_UNIT : RegField := ⟨R.BC_STEP_STATUS, 24, 8⟩
def F.BC_STEP_STATUS_TRAINED : RegField := ⟨R.BC_STEP_STATUS, 32, 2⟩
def F.BC_STEP_STATUS_TIME : RegField := ⟨R.BC_STEP_STATUS, 40, 24⟩
/-- TH_CREDIT (its line of the register map). -/
def R.TH_CREDIT : RegArr := ⟨0x11, 0x1000, 64, 16, 65536, 128, 0x0, 0x0, 0x0, 0x0, 0x0⟩
def F.TH_CREDIT_CREDIT : RegField := ⟨R.TH_CREDIT, 0, 64⟩
/-- TH_COMMIT (its line of the register map). -/
def R.TH_COMMIT : RegArr := ⟨0x11, 0x1008, 64, 16, 65536, 128, 0x0, 0xFFFFFFFFFFFFFFFF, 0x0, 0x0, 0x0⟩
def F.TH_COMMIT_COMMIT : RegField := ⟨R.TH_COMMIT, 0, 64⟩
/-- TH_DRAINED (its line of the register map). -/
def R.TH_DRAINED : RegArr := ⟨0x11, 0x2000, 64, 8, 65536, 128, 0x0, 0x0, 0x0, 0x0, 0x0⟩
def F.TH_DRAINED_DRAINED : RegField := ⟨R.TH_DRAINED, 0, 64⟩

def regTable0 : List RegArr := [R.PL_CTRL, R.PL_CONFIG, R.PL_ENTRY, R.PL_STATUS, R.PL_STEP, R.PL_HOLD_LOG, R.PL_FAULT, R.PL_COUNTS, R.PL_HOLD_CYC, R.PL_COND, R.PL_COND_OWN, R.PL_PUB_MAP, R.PL_ENG_STATUS, R.PL_VEC_STATUS, R.PL_VEC_HIST, R.PL_SEQ_CFG, R.PL_SEQ_LOG, R.PL_SEQ_WALK, R.PL_SEQ_COUNTS, R.PL_SEQ_STEP, R.PL_IMG_CFG, R.PL_IMG_STATUS, R.MT_CTRL, R.MT_STATUS]
def regTable1 : List RegArr := [R.MT_LOT_SEL, R.MT_LOT_W0, R.MT_LOT_W1, R.MT_PSTAT, R.MT_EVICT, R.MT_SEQ, R.MT_SHARE, R.MT_OPB_TAG, R.MT_LOT_CFG, R.DR_STATUS, R.DR_ECC_COUNT, R.DR_ERR_LOG, R.DR_MARK, R.DR_SCRUB, R.DR_RETRAIN, R.DR_QCFG, R.DR_QLEVEL, R.DR_TRAIN_STATUS, R.SP_FRAME_CFG, R.SP_SYNC_CFG, R.SP_FRAME_NUM, R.SP_FRAME_STATUS, R.SP_SYNC_COUNTS, R.SP_GOLDEN_CFG]
def regTable2 : List RegArr := [R.SP_GOLDEN_STATUS, R.SP_REG_CFG, R.SP_REG_STATUS, R.SP_REG_WAIT, R.SP_SCHED_CFG, R.SP_CLASS_LINES, R.SP_CLASS_FRAME, R.SP_REGION, R.SP_SCHED_ENT, R.SN_PORT_CFG, R.SN_PORT_STATUS, R.SN_STREAM_A, R.SN_STREAM_B, R.SN_STREAM_CNT, R.SN_GPIO, R.SN_SEQ_CFG, R.SN_INSTR, R.SN_TX, R.DT_CFG, R.DT_BASE, R.DT_TIME, R.DT_NUM, R.DT_STATUS, R.DT_COUNTS]
def regTable3 : List RegArr := [R.DT_COUNTS2, R.DT_QUAR, R.DT_TRACK_ID, R.DT_ASSOC_A, R.DT_ASSOC_B, R.DT_ASSOC_C, R.DT_SRC_CFG, R.DT_SRC_STAT, R.DT_GROUP_A, R.DT_GROUP_B, R.DT_GROUP_M, R.TV_CFG, R.TV_STATUS, R.TV_COUNTS, R.TV_COUNTS2, R.TV_PROB_A, R.TV_PROB_B, R.TV_PROB_STAT, R.TV_PROB_C, R.TV_SOLVE_A, R.TV_SOLVE_B, R.TV_SOLVE_C, R.TV_TIME, R.TV_LAST]
def regTable4 : List RegArr := [R.GL_CFG, R.GL_ETH_SA, R.GL_CH_A, R.GL_CH_B, R.GL_CH_C, R.GL_CH_D, R.GL_CH_STAT, R.GL_CH_CNT, R.ST_CFG, R.ST_TIME_A, R.ST_TIME_B, R.ST_GEOM, R.ST_STEP, R.ST_PROP, R.ST_STATUS, R.ST_EPOCH, R.ST_COUNTS, R.ST_LAST, R.PB_CFG, R.PB_DEGRADE, R.PB_STATUS, R.PB_COUNTS, R.PB_GOLDEN, R.PB_INJECT]
def regTable5 : List RegArr := [R.PB_USER, R.PB_EV, R.TH_STREAM, R.TH_WMAP, R.BC_STATUS, R.BC_COUNTS, R.BC_RING_SEL, R.BC_RING_INFO, R.BC_RIGHTS, R.BC_COMMIT_REPORT, R.BC_PART_STATE, R.BC_SOAK, R.PW_CFG, R.PW_CAP, R.PW_STATUS, R.PW_SAVE, R.PW_THR_TIME, R.PW_RAIL, R.PW_CALIB, R.PW_LEARN_SEL, R.PW_LEARN, R.ID_STATUS, R.ID_DEVICE, R.FB_CFG]
def regTable6 : List RegArr := [R.FB_STATUS, R.FB_HEAD, R.FB_OLDEST, R.FB_POS, R.FB_WRAPS, R.FB_BYTES, R.FB_COUNTS, R.FB_DIGEST, R.FB_FAULT_CFG, R.FB_FAULT_SEL, R.FB_FAULT_INFO, R.TL_CFG, R.TL_STATUS, R.TL_PORT_STAT, R.TL_COUNTS, R.TH_ID, R.TH_STATUS, R.TH_ATTN, R.TH_COUNTS, R.TH_UNBACKED, R.BC_STEP, R.BC_STEP_STATUS, R.TH_CREDIT, R.TH_COMMIT]
def regTable7 : List RegArr := [R.TH_DRAINED]

/-- Every register array of the module. -/
def regTable : List RegArr := regTable0 ++ regTable1 ++ regTable2 ++ regTable3 ++ regTable4 ++ regTable5 ++ regTable6 ++ regTable7

/-- The entry of an array that lies at offset `off` of unit block `unit`, if one does. -/
def RegArr.entryAt (r : RegArr) (unit off : Nat) : Option Nat :=
  if r.unit == unit then
    (List.range (r.count / r.n + 1)).findSome? fun b =>
      let base := r.off + r.stride2 * b
      if base ≤ off then
        let d := off - base
        let i := if r.stride == 0 then 0 else d / r.stride
        if i < r.n ∧ d == r.stride * i ∧ r.n * b + i < r.count then some (r.n * b + i) else none
      else none
  else none

/-- The register at an offset of a unit block: its array and its entry. -/
def regAt (unit off : Nat) : Option (RegArr × Nat) :=
  regTable.findSome? fun r => (r.entryAt unit off).map fun i => (r, i)

end Sys2Proof.Machine
end

