-- ==== Sys2Proof/Machine/Sparse.lean ====
section
/-! DEFINITION. Sparse tables: a list of key and value pairs in one canonical form. Keys strictly rise, and no entry holds
the value that an unlisted key reads as, so equal tables are equal lists. -/

namespace Sys2Proof.Machine

/-- The value of key `k`; an unlisted key reads `d`. -/
def spGet {α : Type} (d : α) : List (Nat × α) → Nat → α
  | [], _ => d
  | (k, v) :: rest, a => if a = k then v else if a < k then d else spGet d rest a

/-- Writes key `a`, keeping the canonical form: writing the default removes the entry. -/
def spSet {α : Type} [DecidableEq α] (d : α) : List (Nat × α) → Nat → α → List (Nat × α)
  | [], a, x => if x = d then [] else [(a, x)]
  | (k, v) :: rest, a, x =>
    if a = k then (if x = d then rest else (a, x) :: rest)
    else if a < k then (if x = d then (k, v) :: rest else (a, x) :: (k, v) :: rest)
    else (k, v) :: spSet d rest a x

/-- The canonical form: keys strictly rise from above `lo`, and no entry holds the default. -/
def spWfFrom {α : Type} [DecidableEq α] (d : α) : Option Nat → List (Nat × α) → Bool
  | _, [] => true
  | lo, (k, v) :: rest =>
    (match lo with | none => true | some l => decide (l < k)) && decide (v ≠ d) && spWfFrom d (some k) rest

/-- A table in canonical form. -/
def spWf {α : Type} [DecidableEq α] (d : α) (t : List (Nat × α)) : Bool := spWfFrom d none t

/-- The table of `f` over the keys 0 to n − 1, in canonical form. -/
def spTabulate {α : Type} [DecidableEq α] (d : α) (n : Nat) (f : Nat → α) : List (Nat × α) :=
  (List.range n).filterMap fun k => if f k = d then none else some (k, f k)

/-- Keeps the entries whose key meets `p`. -/
def spKeep {α : Type} (p : Nat → Bool) (t : List (Nat × α)) : List (Nat × α) := t.filter fun e => p e.1

/-- The values of the keys a to a + n − 1, in rising order. -/
def spRange {α : Type} (d : α) (t : List (Nat × α)) (a n : Nat) : List α :=
  (List.range n).map fun k => spGet d t (a + k)

/-- Replaces every entry with a key from `a` to a + n − 1 by the entries of `mid`, whose keys lie in that range. -/
def spSplice {α : Type} (t : List (Nat × α)) (a n : Nat) (mid : List (Nat × α)) : List (Nat × α) :=
  spKeep (fun k => decide (k < a)) t ++ mid ++ spKeep (fun k => decide (a + n ≤ k)) t

/-- Copies the `n` keys from `src` to the `n` keys from `dst`. -/
def spCopy {α : Type} (t : List (Nat × α)) (src dst n : Nat) : List (Nat × α) :=
  spSplice t dst n ((spKeep (fun k => decide (src ≤ k) && decide (k < src + n)) t).map fun e => (e.1 - src + dst, e.2))

/-- Writes a list of values from key `a` upward. -/
def spWrite {α : Type} [DecidableEq α] (d : α) (t : List (Nat × α)) (a : Nat) : List α → List (Nat × α)
  | [] => t
  | x :: xs => spWrite d (spSet d t a x) (a + 1) xs

/-- A little-endian number of the bytes of a list (R4). -/
def leNat : List Byte → Nat
  | [] => 0
  | b :: bs => b.toNat + 256 * leNat bs

/-- The low `n` bytes of a number, least significant first (R4). -/
def leBytes : Nat → Nat → List Byte
  | 0, _ => []
  | n + 1, v => BitVec.ofNat 8 v :: leBytes n (v / 256)

/-- A `w`-bit field of a number read as two's complement. -/
def asSigned (w v : Nat) : Int :=
  let x := v % 2 ^ w
  if 2 ^ w ≤ 2 * x then (x : Int) - (2 : Int) ^ w else x

/-- The two's-complement encoding of an integer in `w` bits. -/
def ofSigned (w : Nat) (x : Int) : Nat := (x % ((2 : Int) ^ w)).toNat

/-- A Bool as a bit. -/
def bit (b : Bool) : Nat := if b then 1 else 0

/-- Bit `i` of a number. -/
def hasBit (v i : Nat) : Bool := v.testBit i

/-- The positions below `n` whose bit is set. -/
def bitsOf (n v : Nat) : List Nat := (List.range n).filter fun i => hasBit v i

/-- `v` with bit `i` set or cleared. -/
def putBit (v i : Nat) (b : Bool) : Nat :=
  if hasBit v i then (if b then v else v - 2 ^ i) else (if b then v + 2 ^ i else v)

/-- Saturating addition at `max`. -/
def satAdd (max a b : Nat) : Nat := min max (a + b)

end Sys2Proof.Machine
end

