-- ==== Sys2Proof/Machine/State.lean ====
section
/-! DEFINITION. The state of the module, as plain data. Registers that the spec maps stand in `State.regs`, each as its
difference from the value after S0; everything the rules give a unit beside its registers stands in that unit's structure. Each
field's comment gives its width, the file and rule that name it, and its value after reset. -/

namespace Sys2Proof.Machine

/-- Why the machine stops with a fault. No rule of the spec stops the module: every error is reported by a flag, a
status, a hold or a refused command, so no meaning of this model raises a fault. -/
inductive Fault where
  /-- Raised by no command: kept so that the type has a name for a stop. Safe: the machine would stop where the hardware goes on. -/
  | halted
deriving DecidableEq, Repr

/-- Why a command has no meaning. -/
inductive Refusal where
  /-- Raised by `exec` for a command that has no meaning yet. Safe: the machine stops where the hardware goes on. -/
  | notModelled (mnemonic : String)
deriving DecidableEq, Repr


/-- The cycle counters of the clock domains (R11). No counter is ever converted into another (R12). -/
structure Clocks where
  /-- ACLK cycles (00 R11); reset 0. -/
  aclk : Nat
  /-- FCLK cycles (00 R11); reset 0. -/
  fclk : Nat
  /-- MCLK cycles (00 R11); reset 0. -/
  mclk : Nat
  /-- TCLK cycles (00 R11); reset 0. -/
  tclk : Nat
  /-- GCLK cycles (00 R11); reset 0. -/
  gclk : Nat
  /-- SCLK cycles (00 R11); reset 0. -/
  sclk : Nat
  /-- BCLK cycles (00 R11); reset 0. -/
  bclk : Nat
  /-- Stamp counter of each sensor port, by port index (00 R11, 10 R228); reset 0. -/
  port : List (Nat × Nat)
  /-- Host-port time, counted in FCLK-equal nanoseconds by the port (00 R11 code 0x10); reset 0. -/
  host : Nat
  /-- Tether port counters, by port (00 R11 codes 0x11–0x13); reset 0. -/
  tether : List (Nat × Nat)
deriving DecidableEq, Repr

/-- One plan stream (R26). FRAME_STATE and FILL_STATE of PL_STATUS say whether it runs. -/
structure StreamState where
  /-- Bundle pointer, 15 bits (02 R26); reset 0. -/
  ptr : Nat
  /-- ACLK cycle from which the stream may issue again: the end of what it last issued and the bubble of a taken branch (02 R43); reset 0. -/
  freeAt : Nat
  /-- Cycles of the current bundle already issued (02 R30, R39); reset 0. -/
  issued : Nat
  /-- The current bundle has been fetched, checked and started (02 R28); reset 0. -/
  started : Bool
  /-- Loop counters as they stood at the start of the current bundle (02 R38); reset empty. -/
  lcSaved : List (Nat × Nat)
  /-- ACLK cycle in which the current MARKER_WAIT began to wait (02 R42); reset none. -/
  waitFrom : Option Nat
  /-- The current bundle replaces another under ALT_TARGET and its bubble has passed (02 R37); reset 0. -/
  viaAlt : Bool
deriving DecidableEq, Repr

/-- An open protected window (R36). -/
structure Window where
  id    : Nat
  cores : Nat
  chans : Nat
  part  : Nat
  cyc   : Nat
deriving DecidableEq, Repr

/-- One cause of the hold in effect: its code of Table PL-7, its first cycle, and its last cycle where the cause bounds itself. -/
structure HoldCause where
  code  : Nat
  start : Nat
  due   : Option Nat
deriving DecidableEq, Repr

/-- A hold event in effect (R42). -/
structure Hold where
  first     : Nat
  mask      : Nat
  start     : Nat
  startStep : Nat
  causes    : List HoldCause
deriving DecidableEq, Repr

/-- A condition write that has left its own domain and is not yet visible in ACLK (R45). -/
structure CondWrite where
  reg   : Nat
  value : Nat
  /-- The REG_WRITE that completes when the write is visible (18 R416). -/
  done  : Option (Nat × Desc)
deriving DecidableEq, Repr

/-- A frame start not yet released (R48): its number, its ACLK cycle. -/
structure FrameStart where
  num : Nat
  cyc : Nat
deriving DecidableEq, Repr

/-- An earlier value of a condition register: the ACLK cycle in which the next one became visible, and what stood before (R45). -/
structure CondOld where
  reg : Nat
  cyc : Nat
  old : Nat
deriving DecidableEq, Repr

/-- The Ridgepole sequencer (02). -/
structure Ridge where
  /-- Frame stream (02 R26). -/
  frame : StreamState
  /-- Fill stream (02 R26). -/
  fill : StreamState
  /-- Loop counters LC0–LC15, 24 bits each (02 R43); reset 0. -/
  lc : List (Nat × Nat)
  /-- Frame starts not yet released, oldest first (02 R48); reset empty. -/
  starts : List FrameStart
  /-- The released frame start (02 R30); reset none. -/
  released : Option FrameStart
  /-- ACLK cycles in which FRAME_STATE last became 1 and last left it (09 R215 cause STOPPED); reset 0. -/
  runFrom : Nat
  stopFrom : Nat
  /-- Open windows, most recently opened first (02 R36); reset empty. -/
  windows : List Window
  /-- The hold event in effect (02 R42); reset none. -/
  hold : Option Hold
  /-- PL_HOLD_LOG queue, oldest first, at most 64 entries (02 Table PL-14); reset empty. -/
  holdLog : List (BitVec 64)
  /-- Entries were dropped at a full queue since the last read (02 Table PL-14 LOST); reset 0. -/
  holdLost : Bool
  /-- FRAME_GO has been written and the next frame start begins the stream (02 Table PL-10); reset 0. -/
  goArmed : Bool
  /-- ACLK cycle of FRAME_GO, from which PL_STEP and ACYC count (02 PL_STEP, 22 R478); reset none. -/
  goAt : Option Nat
  /-- A FILL_STOP or STOP waits for the fill stream's next boundary (02 Table PL-10); reset 0. -/
  fillStopReq : Bool
  /-- A STOP waits for the frame stream's next boundary (02 Table PL-10); reset 0. -/
  frameStopReq : Bool
  /-- The plan faults of a stopped stream bar a start until a plan load (02 R47); reset 0. -/
  faulted : Bool
  /-- Markers that have arrived: tether port and MARKER_ID (02 R52); reset empty. -/
  markers : List (Nat × Nat)
  /-- POWER_PHASE in force, 8 bits (02 Table PL-2); reset 0. -/
  phase : Nat
  /-- Condition writes on their way to ACLK, oldest first (02 R45); reset empty. -/
  condPend : List CondWrite
  /-- Earlier values of condition registers that a branch still to be evaluated may see, newest first (02 R45); reset empty. -/
  condOld : List CondOld
  /-- Slot words of frame-stream bundles that issued in a hold, for channels that no window claims: channel and word; they take their
  places when the hold has ended (02 R34, R36, R39); reset empty. -/
  heldSlots : List (Nat × Nat)
  /-- The fill stream waits under the gating of R223 (09 R223); reset 0. -/
  regWaiting : Bool
  /-- The channels whose gate keeps it waiting, one bit each (09 R223); reset 0. -/
  regChans : Nat
  /-- ACLK cycle at which the OPEN whose overrun is counted came due (02 R48); reset none. -/
  overrunFor : Option Nat
  /-- The frame stream has issued since its last start (02 R542); reset 0. -/
  frameIssued : Bool
  /-- A plan image has been loaded (19 R435); reset 0. -/
  planLoaded : Bool
  /-- FILL_BASE of the loaded plan image (02 R50); reset 0. -/
  imageFillBase : Nat
  /-- Cycles the frame stream's last OPEN was late by a window's overrun, per golden frame (09 R215 cause OVERRUN); reset 0. -/
  goldenOverrun : Bool
  /-- DEBUG_STEP lets the frame stream (bit 0) and the fill stream (bit 1) issue one bundle each (02 Table PL-10); reset 0. -/
  stepGrant : Nat
deriving DecidableEq, Repr

/-- The drain of one engine: pointer, step, rows still to write, and the first ACLK cycle in which a row may be written (R66, R67). -/
structure Drain where
  ptr   : Nat
  step  : Int
  count : Nat
  start : Nat
deriving DecidableEq, Repr

/-- One engine of 128 × 128 cells (R53). Cell (i, j) has index 128 i + j. -/
structure Engine where
  /-- ACC, 16,384 × 32 bits (03 R53); reset 0. -/
  acc : List (Nat × Word)
  /-- CKPT, 16,384 × 32 bits (03 R53); reset DESIGN CHOICE 0. -/
  ckpt : List (Nat × Word)
  /-- OUT, 16,384 × 32 bits (03 R53); reset 0. -/
  out : List (Nat × Word)
  /-- LIVE flag (03 R53); reset 0. -/
  live : Bool
  /-- Pass index, 5 bits, kept below S × a ≤ 32 (03 R53, R59); reset 0. -/
  pass : Nat
  /-- Drain state (03 R53, R66); reset no rows to write. -/
  drain : Drain
  /-- EOP, WBITS and ABITS latched with the tile, as coded in the slice (03 R61); reset DESIGN CHOICE 0. -/
  eop : Nat
  wbits : Nat
  abits : Nat
  /-- The tile in progress has saturated (03 R55); reset 0. -/
  sat : Bool
  /-- The tile in progress has read a poisoned row (03 R74); reset 0. -/
  poison : Bool
  /-- The tile in OUT is poisoned (03 R74); reset 0. -/
  outPoison : Bool
  /-- PART of the slice that retired the tile in OUT (03 R67, R120); reset DESIGN CHOICE 0. -/
  drainPart : Nat
  /-- A run of the tile differed from its latched fields (03 R61); reset 0. -/
  mismatch : Bool
  /-- Activation value gathered so far in the comparison element, by array row (03 R62); reset DESIGN CHOICE 0. -/
  elemA : List (Nat × Nat)
  /-- Weight value gathered so far in the comparison element, by array column (03 R62); reset DESIGN CHOICE 0. -/
  elemW : List (Nat × Nat)
  /-- Saved at the first cycle of a run: pass index, LIVE, drain (03 R76); reset DESIGN CHOICE 0. -/
  savedPass : Nat
  savedLive : Bool
  savedDrain : Drain
  /-- The poison mark of the tile as it stood then (03 R74, R76); reset 0. -/
  savedPoison : Bool
deriving DecidableEq, Repr

/-- A vector result on its way to the core store (R91): visible from `cyc`. PART and SLOT_ID are those of its slice, `bins` the histogram
bins of the elements that count (R107), and `run` says that the run that started it is the core's latest (R109). -/
structure VecWrite where
  cyc    : Nat
  addr   : Nat
  bytes  : List Byte
  poison : Bool
  part   : Nat
  slot   : Nat
  bins   : List Nat
  run    : Bool
deriving DecidableEq, Repr

/-- The vector unit of one core (04). -/
structure VecUnit where
  /-- The 64 histogram counters, 32 bits each (04 R107); reset DESIGN CHOICE 0. -/
  hist : List (Nat × Nat)
  /-- The counters saved at the first cycle of a run (04 R109); reset DESIGN CHOICE 0. -/
  histSaved : List (Nat × Nat)
  /-- Running maxima of BF_EXP, one per lane: exponent of the largest magnitude, if any nonzero element (04 R99); reset none. -/
  bfMax : List (Nat × Int)
  /-- Lanes in which BF_EXP met a NaN or an infinity (04 R99); reset none. -/
  bfBad : List (Nat × Bool)
  /-- A source of the BF_EXP run was poisoned (04 R110); reset 0. -/
  bfPoison : Bool
  /-- Writes started and not yet visible, oldest first (04 R91); reset empty. -/
  pend : List VecWrite
  /-- PL_VEC_HIST as it stood at the core's last bundle boundary (04 R108); reset 0. -/
  cfg : BitVec 64
  /-- A CLEAR waits for the core's next bundle boundary (04 R108); reset 0. -/
  clear : Bool
deriving DecidableEq, Repr

/-- Where an end of a transfer lies once a walker view is resolved (R174). -/
inductive Place where
  | addr (a : Nat)
  /-- The item lies past the end of the list: reads give zeros, writes are dropped. -/
  | pastEnd
  /-- The access is a violation under R33. -/
  | violation
deriving DecidableEq, Repr

/-- A unit of a transfer on its way: its 64 bytes and the poison of its two halves. -/
structure MoveUnit where
  bytes : List Byte
  lo    : Bool
  hi    : Bool
deriving DecidableEq, Repr

/-- The path of a transfer (Table MT-2). -/
inductive Route where
  /-- Within the issuing core's store and operand buffers: one unit per ACLK cycle. -/
  | inCore
  /-- Over the fabric, by the read port of one core store and the write port of another, where an end is one: one unit per FCLK cycle. -/
  | fabric (src dst : Option Nat)
  /-- An end in DDR4: lines move in GRANT slots. -/
  | ddr
deriving DecidableEq, Repr

/-- A queued transfer (R123): its ends as the slice names them and as resolved, the image descriptor read in its first cycle
(R190), and the lines that each channel's GRANT slots have moved for it: reads by channel, writes by 8 + channel. -/
structure Transfer where
  core  : Nat
  seg   : Bool
  len   : Nat
  src   : Nat
  dst   : Nat
  rsrc  : Place
  rdst  : Place
  idesc : Option Nat
  part  : Nat
  klass : Nat
  slot  : Nat
  got   : List (Nat × Nat)
  route : Route
  /-- Off DDR4: units whose cycle has come, and units moved (R122, R125). -/
  due   : Nat
  done  : Nat
  /-- The cycle of its route's clock up to which `due` has been counted. -/
  upto  : Nat
  /-- DDR4 lines read in a GRANT whose data wait for a write GRANT: unit and its data (R122). -/
  carry : List (Nat × MoveUnit)
  /-- Lost reads to issue again: line address and the MCLK cycle of the error (R156). -/
  again : List (Nat × Nat)
  /-- The regions that stood when the transfer started, where a change has come since (R217). -/
  tags  : Option (List (Nat × BitVec 64))
deriving DecidableEq, Repr

/-- An entry of the lot table (R127, Table MT-10). -/
structure Lot where
  state     : Nat
  part      : Nat
  pin       : Bool
  save      : Bool
  swap      : Bool
  homeValid : Bool
  home      : Nat
  last      : Nat
deriving DecidableEq, Repr

/-- A demand transfer of a demand command: fill of a lot from a home, or write-back (R134). -/
structure DemandMove where
  lot  : Nat
  home : Nat
  fill : Bool
deriving DecidableEq, Repr

/-- A demand command in progress for a partition (R134). -/
structure DemandCmd where
  ring    : Nat
  desc    : Desc
  started : Bool
  moves   : List DemandMove
  status  : Nat
  detail  : Nat
deriving DecidableEq, Repr

/-- What writes a store in an ACLK cycle, in the order of precedence at a clash (R72, R111). -/
inductive Writer where
  | transfer
  | vector (part slot : Nat)
  | drain
deriving DecidableEq, Repr

/-- A write of an ACLK cycle: what it replaced is what every read of that cycle sees (R71, R125). -/
structure EdgeWrite where
  cyc    : Nat
  who    : Writer
  addr   : Nat
  old    : List Byte
  marks  : List Bool
deriving DecidableEq, Repr

/-- Stow (05). -/
structure Stow where
  /-- Lot table, 6,144 entries (05 R127); reset each FREE, or PLAN where R118 puts the plan region. -/
  lots : List (Nat × Lot)
  /-- Transfer queues of the cores, each at most four, the running one first (05 R123); reset empty. -/
  queues : List (Nat × List Transfer)
  /-- Demand commands of each partition, the running one first (05 R134); reset empty. -/
  demand : List (Nat × List DemandCmd)
  /-- Writes of the ACLK cycle written last to core stores and operand buffers (03 R71, R72, 04 R111, 05 R125); reset empty. -/
  edge : List EdgeWrite
  /-- Core whose transfer a fabric port served last (05 R124); reset DESIGN CHOICE 0. -/
  served : Nat
deriving DecidableEq, Repr

/-- A queued DDR4 slot word (R34): its fields and its first MCLK cycle once it runs. -/
structure SlotRun where
  dop   : Nat
  core  : Nat
  klass : Nat
  part  : Nat
  mcyc  : Nat
  start : Option Nat
  claim : Bool
deriving DecidableEq, Repr

/-- A line in a controller's write buffer (R154): whether its slice is of P0 or P1, and the core of its GRANT, none for OPEN-slot
traffic. -/
structure WLine where
  addr : Nat
  prot : Bool
  core : Option Nat
deriving DecidableEq, Repr

/-- What waits for OPEN-slot time on a channel (R224), in the order of service of its groups. -/
inductive OpenSource where
  /-- A live retraining step. -/
  | step
  /-- Ring lines of the sensor port. -/
  | ingest (port : Nat)
  /-- Lines of Field Book's staging buffer. -/
  | book
  /-- The running demand transfer of a partition. -/
  | demand (part : Nat)
  /-- A TH_STAGE fill, by its ring and descriptor. -/
  | stage (ring : Nat) (desc : Desc)
  /-- The drain of a stream. -/
  | drain (str : Nat)
  /-- DDR4 units received on a tether port (23 R501). -/
  | tether (port : Nat)
  /-- Scrub reads. -/
  | scrub
deriving DecidableEq, Repr

/-- An entry of a controller's OPEN queue: its source, the MCLK cycle in which it came, and its lines in the queue. -/
structure OpenEntry where
  src   : OpenSource
  cyc   : Nat
  lines : Nat
deriving DecidableEq, Repr

/-- A training record of the MRAM store (R160): temperature, the die's stepping and the module that wrote it, and its CRC-32C. -/
structure TrainRec where
  temp   : Int
  die    : Nat
  owner  : Nat
  crc    : Nat
deriving DecidableEq, Repr

/-- One DDR4 channel and its controller (06). -/
structure DdrChan where
  /-- Refresh debt, 0–8 (02 R35); reset 0. -/
  debt : Nat
  /-- MCLK cycle of the last debt tick (02 R35); reset 0. -/
  debtAt : Nat
  /-- Slot queue, the running window first, at most four (02 R34); reset empty. -/
  slots : List SlotRun
  /-- The controller may issue its next REF of a hold in this half cycle of ACLK (02 R35); reset 0. -/
  refAt : Nat
  /-- Write buffer, at most 256 lines, oldest first (06 R154); reset empty. -/
  wbuf : List WLine
  /-- Lines written to the pins in the last window, which the buffer keeps until the device has had time to report (06 R156); reset
  empty. -/
  sent : List WLine
  /-- OPEN queue, at most 64 lines, oldest first (06 R163, 09 R224); reset empty. -/
  openq : List OpenEntry
  /-- DR_ERR_LOG queue, oldest first, at most 32 (06 Table DR-8); reset empty. -/
  errLog : List (BitVec 64)
  /-- Entries were dropped at a full queue since the last read (06 Table DR-8 LOST); reset 0. -/
  errLost : Bool
  /-- DDR4 lines delivered with poison and not yet consumed: a lost read or an uncorrectable decode (06 R150, R157); reset empty. -/
  bad : List Nat
  /-- Scrub lines of the quota not yet read (06 R158); reset 0. -/
  quota : Nat
  /-- MCLK cycle of the last scrub tick (06 R158); reset 0. -/
  quotaAt : Nat
  /-- MCLK cycle since which a live retraining step waits for its slot (06 R162); reset none. -/
  stepWait : Option Nat
  /-- MCLK cycle of the last training (06 R161); reset 0. -/
  trainAt : Nat
  /-- Failures in a row of the commands being retried, by 2 × line + 1 for a read (06 R157); reset empty. -/
  fails : List (Nat × Nat)
  /-- Training record in the MRAM store (06 R160); reset DESIGN CHOICE none. -/
  saved : Option TrainRec
  /-- MCLK cycle of the last write of DR_MARK (06 R151); reset 0. -/
  markAt : Nat
  /-- ZQCS is owed in the next OPEN slot, and the MCLK cycle of the last ZQCS (02 Table PL-8, R542); reset 0. -/
  zqAt : Nat
  /-- The controller was trained in S3 (06 R160, 02 R542); reset 0. -/
  ready : Bool
deriving DecidableEq, Repr

/-- A frame whose P0 entry has GOLDEN set and whose judgement is to come (R214, R215): its number and ACLK cycle, the cycle of its
release, its golden OPEN has issued by the judgement and in which cycle, it was overrun, its skip write has been made, and the cycle in
which a later frame was first released. -/
structure GoldenDue where
  num      : Nat
  cyc      : Nat
  released : Option Nat
  ran      : Bool
  overrun  : Bool
  skip     : Bool
  opened   : Option Nat
  passed   : Option Nat
deriving DecidableEq, Repr

/-- A free-run start of this ACLK cycle (R206), with SP_SYNC_COUNTS and SP_FRAME_STATUS as they stood before it: an edge accepted in the
same cycle makes the frame synced. -/
structure FreeStart where
  cyc    : Nat
  counts : BitVec 64
  status : BitVec 64
  attn   : BitVec 64
deriving DecidableEq, Repr

/-- Scheduling and regulation (09). -/
structure Sched where
  /-- ACLK cycle of the last frame start, or of the S6 commit before frame 1 (09 R206); reset none. -/
  lastStart : Option Nat
  /-- Free-run is in effect (09 R206); reset 0. -/
  freeRun : Bool
  /-- Frames whose judgement is still to come, in frame order (09 R215); reset empty. -/
  golden : List GoldenDue
  /-- Lines of each class moved in the running frame (09 R219); reset 0. -/
  frameLines : List (Nat × Nat)
  /-- Effective level of each channel, 0–3 (09 R221, R223); reset 0. -/
  level : List (Nat × Nat)
  /-- Regions in force, entry 4p + k as SP_REGION holds it: a change waits for a frame start (09 R217); reset 0. -/
  regions : List (Nat × BitVec 64)
  /-- The free-run start made last (09 R206); reset none. -/
  free : Option FreeStart
deriving DecidableEq, Repr

/-- A record in Field Book's merge (R480): when it is due, its kind, source index, payload. -/
structure BookRec where
  acyc    : Nat
  kind    : Nat
  source  : Nat
  frame   : Nat
  domain  : Nat
  payload : List Byte
deriving DecidableEq, Repr

/-- A fault counter of Table FB-3 (R491, R492). -/
structure FaultSite where
  count   : Nat
  lasting : Bool
  total   : Nat
  last    : Nat
  changed : Nat
deriving DecidableEq, Repr


/-- A ring of Basecamp (18 R396, R397). -/
structure Ring where
  valid  : Bool
  chan   : Nat
  off    : Nat
  l      : Nat
  attn   : Bool
  part   : Nat
  ctx    : Nat
  tail   : Nat
  sqHead : Nat
  cqTail : Nat
  cqHead : Nat
  bad    : Nat
  /-- Commands started and not completed (18 R405). -/
  flying : Nat
  /-- Fetching has stopped for a close (18 R408). -/
  stopped : Bool
deriving DecidableEq, Repr

/-- A close of a context, or of one ring of it, that waits for started commands (18 R408, R414). -/
structure Closing where
  ring : Nat
  desc : Desc
  ctx  : Nat
  only : Option Nat
deriving DecidableEq, Repr

/-- Basecamp's rings and contexts (18). -/
structure Rings where
  /-- Rings by ID (18 R396); reset none: Maluo creates rings 0 and 1 at the end of S2. -/
  table : List (Nat × Ring)
  /-- Open contexts: ID, and partition plus 1 (18 R406, R407); reset none. -/
  contexts : List (Nat × Nat)
  /-- Ring served last in each of the two fetch bands (18 R401); reset DESIGN CHOICE 0. -/
  lastBand : List (Nat × Nat)
  /-- Closes that wait for started commands, oldest first (18 R408); reset empty. -/
  closing : List Closing
  /-- Channels that have departed and not been trained again and rung (18 R417); reset 0. -/
  stalled : List (Nat × Bool)
  /-- BU_RETRAIN commands in progress: ring, descriptor, channels (19 Table BU-7); reset empty. -/
  retrains : List (Nat × Desc × Nat)
deriving DecidableEq, Repr


/-- A row of a step table (07 R165, Table SQ-1). -/
structure SeqRow where
  state     : Nat
  auto      : Bool
  ctx       : Nat
  pos       : Nat
  logLen    : Nat
  high      : Nat
  /-- Columns of the pool held, in position order (07 R179). -/
  cols      : List Nat
  pageWait  : Nat
  nextToken : Nat
  nextValid : Bool
  lastStep  : Nat
  /-- Pending reset marks, at most eight (07 R187). -/
  marks     : List Nat
  /-- Reset marks whose position has been processed: they bound segments and return on a recompute (07 R172, R181). -/
  past      : List Nat
  /-- The SEQ_LEAVE commands that wait for the flip (07 R187). -/
  leave     : List (Nat × Desc)
deriving DecidableEq, Repr

/-- What a step takes from one row (07 R169, R170). -/
structure SeqTake where
  row   : Nat
  first : Nat
  take  : Nat
  high  : Nat
  seg   : Nat
  list  : Nat
  cols  : List Nat
deriving DecidableEq, Repr

/-- A step: its takes in list order, and the token list of 8-byte entries (07 R170). -/
structure SeqStep where
  takes  : List SeqTake
  tokens : List Nat
deriving DecidableEq, Repr

/-- The sequence unit of one partition (07 R165). -/
structure SeqPart where
  /-- Pending rows (07 R168); reset each EMPTY. -/
  rows : List (Nat × SeqRow)
  /-- START (07 R169); reset 0. -/
  start : Nat
  /-- ACLK cycle of the last flip taken (07 R167); reset none. -/
  lastFlip : Option Nat
  /-- The step in assembly: the rows as the flip leaves them, and the step (07 R167, R169); reset none. -/
  building : Option (List (Nat × SeqRow) × SeqStep)
  /-- The step whose lists are visible (07 R172); reset empty. -/
  step : SeqStep
  /-- Walker indices (07 R172); reset 0. -/
  walk : List (Nat × Nat)
  /-- Walkers whose item records and COND are still to be written (07 R175); reset none. -/
  due : List Nat
  /-- Tags of the sequence commands applied since the last flip (07 R168); reset empty. -/
  tags : List Nat
  /-- Recomputed entries not yet a thousand (07 Table SQ-11); reset 0. -/
  again : Nat
deriving DecidableEq, Repr


/-- A streaming write aperture (17 R386–R391), beside its registers TH_STREAM, TH_CREDIT, TH_COMMIT and TH_DRAINED. -/
structure WStream where
  /-- DEST_BASE, DDR4 address (17 R386); reset DESIGN CHOICE 0. -/
  base : Nat
  /-- Owning context (18 R407); reset DESIGN CHOICE 0. -/
  ctx : Nat
  /-- Bursts dropped beyond credit since the opening (17 R391); reset 0. -/
  overrun : Nat
  /-- The TH_STREAM_CLOSE, or the close of the context (none inside), that waits for the drain (17 R391); reset none. -/
  closing : Option (Option (Nat × Desc))
  /-- Bytes drained into the digest record in progress (22 R485); reset empty. -/
  block : List Byte
deriving DecidableEq, Repr

/-- A TH_STAGE in progress (17 R385). -/
structure Stage where
  ring : Nat
  desc : Desc
  src  : Nat
  chan : Nat
  off  : Nat
  len  : Nat
deriving DecidableEq, Repr

/-- One LPDDR5 channel of the host port (17 R375–R378). -/
structure HostLane where
  /-- Row register of each bank, 16 bits (17 R376); reset 0. -/
  rows : List (Nat × Nat)
  /-- Mode registers as MRW stored them, 8 bits each (17 R378); reset 0 (PRESUMED, the standard's default). -/
  modes : List (Nat × Nat)
  /-- FIFO that WFF writes and RFF reads (17 R376); reset empty. -/
  fifo : List (List Byte)
  /-- WCK2CK synchronisation by CAS (17 R375); reset 0. -/
  synced : Bool
  /-- Write training completed since S0, the last deep-sleep exit or RESET_n (19 R424); reset 0. -/
  trained : Bool
  /-- The CA bus is in a CBT sequence (17 R376); reset 0. -/
  cbt : Bool
  /-- Self-refresh is in effect (17 R376); reset 0. -/
  idle : Bool
  /-- Deep sleep is in effect (17 R376, R393); reset 0. -/
  asleep : Bool
  /-- Scratch area of the boot page, 16 KiB (17 R384); reset 0. -/
  scratch : List (Nat × Byte)
  /-- 8-byte words of each scratch block written, and its halves read, since the port last counted it (19 R428); reset 0. -/
  soakWr : List (Nat × Nat)
  soakRd : List (Nat × Nat)
  /-- Data of the last burst or mode register returned to the host (17 R381); reset DESIGN CHOICE empty. -/
  dq : List Byte
deriving DecidableEq, Repr

/-- The host port (17). -/
structure Trail where
  /-- TH_UNBACKED holds an access made since UNBACKED was last cleared (17 R380); reset 0. -/
  latched : Bool
  /-- The minimum deassertion of HOST_ATTN runs (17 R392); reset 0. -/
  attnHold : Bool
  /-- Streams by number (17 R386); reset none open. -/
  streams : List (Nat × WStream)
  /-- TH_STAGE commands in progress (17 R385); reset empty. -/
  stages : List Stage
  /-- The two host channels (17 R375). -/
  lanes : List (Nat × HostLane)
deriving DecidableEq, Repr

/-- A replay in progress (22 R486–R490). -/
structure Replay where
  /-- The FB_REPLAY that runs, with its operands (22 R486). -/
  ring : Nat
  desc : Desc
  base : Nat
  len  : Nat
  side : Nat
  sideLen : Nat
  /-- Offset of the next record, and of the next bytes of the side data (22 R488). -/
  pos : Nat
  sidePos : Nat
  /-- RECNO of the last record applied (22 R490). -/
  recno : Nat
  /-- Bench ACYC: cycles in which no bench hold is in effect (22 R488). -/
  acyc : Nat
  /-- The hold in effect reproduces a recorded one (22 R488). -/
  reproduced : Bool
  /-- Payload gathered from records linked by MORE (22 R479). -/
  part : List Byte
  /-- Publications of the bench not yet compared, oldest first, as PUBLISH payloads (22 R489). -/
  pubs : List (List Byte)
deriving DecidableEq, Repr

/-- Field Book (22). -/
structure Book where
  /-- Records in the merge, in the order in which they are released (22 R480); reset empty. -/
  merge : List BookRec
  /-- Encoded records in the 512 KiB staging buffer, oldest first (22 R483); reset empty. -/
  staging : List (List Byte)
  /-- First half of the ring line in assembly, 32 bytes, where NEXT lies within a line (06 R146); reset empty. -/
  half : List Byte
  /-- Lengths of the records in the ring, oldest first, in 32-byte units (22 R482); reset empty. -/
  lens : List Nat
  /-- Records lost since the last GAP record, ACYC of the first and of the last (22 R483); reset 0. -/
  lost : Nat
  lostFirst : Nat
  lostLast : Nat
  /-- The replay in progress (22 R486); reset none. -/
  replay : Option Replay
  /-- An FB_REPLAY has been accepted since the cold start (22 R487); reset 0. -/
  replayed : Bool
deriving DecidableEq, Repr


/-- A golden set of a rule image (16 R363): its segment mask, and the expected digest of each segment of the mask. -/
structure GoldenSet where
  mask    : Nat
  digests : List (Nat × Nat)
deriving DecidableEq, Repr

/-- A rule image (16 R363): its three entries and its golden sets. The initial data words stand in Plumb's data store. -/
structure RuleImage where
  gate  : List (BitVec 64)
  event : List (BitVec 64)
  frame : List (BitVec 64)
  sets  : List GoldenSet
deriving DecidableEq, Repr

/-- A rule thread (16 R360): threads 0–3 are the gate threads, thread 4 the watch thread. -/
structure Thread where
  /-- The entry that runs: 0 gate, 1 event, 2 frame (16 R360); reset none. -/
  entry : Option Nat
  /-- Index of the next instruction (16 R362); reset 0. -/
  pc : Nat
  /-- Word registers W1–W63, 32 bits each (16 R362); reset 0. -/
  w : List (Nat × Nat)
  /-- The strongest verdict issued: 0 PASS, 1 BLOCK, 1 + m DEGRADE to mode m, 5 STOP (16 R361); reset 0. -/
  verdict : Nat
  /-- The gate record under judgement, 512 bits (16 R365); reset none. -/
  record : Option Nat
  /-- SCLK cycle at which the verdict takes effect (16 R365); reset 0. -/
  due : Nat
  /-- The gate was closed when the record was dequeued (16 R366); reset 0. -/
  closed : Bool
deriving DecidableEq, Repr

/-- Plumb (16). -/
structure Plumb where
  /-- Events raised by other units and not yet counted in SCLK, oldest first: code, detail, injected (16 R358); reset empty. -/
  inbox : List (Nat × Nat × Bool)
  /-- The five threads (16 R360); reset idle. -/
  threads : List (Nat × Thread)
  /-- The rule image in the program store (16 R351, R363); reset none. -/
  rules : Option RuleImage
  /-- A PB_LOAD has been accepted (16 R364); reset 0. -/
  loaded : Bool
  /-- Data store, 4,096 words of 32 bits (16 R351, R362); reset DESIGN CHOICE 0. -/
  data : List (Nat × Nat)
  /-- Golden store, 122,944 bytes (16 R351, R367); reset DESIGN CHOICE 0. -/
  golden : List (Nat × Byte)
  /-- The golden OPEN is on its way to SCLK (16 R367); reset 0. -/
  goldenOpen : Bool
  /-- SCLK cycle at which the golden CLOSE reached SCLK (16 R368); reset none. -/
  goldenClose : Option Nat
  /-- Command of each SAFE_STOP line, 1 energised (16 R354); reset 0. -/
  lineA : Bool
  lineB : Bool
  /-- SCLK cycles at which the lines are read back after their command changes, oldest first (16 R355); reset empty. -/
  rbDue : List Nat
  /-- The last readback differed from its command (16 R355, R370); reset 0. -/
  rbBad : Bool
  /-- The last clock monitor window was out of range (16 R352, R370); reset 0. -/
  clockBad : Bool
  /-- SCLK cycle at which the last clock monitor window ended (16 R352); reset 0. -/
  windowAt : Nat
  /-- Plumb's supply is outside its band (16 R357, R370); reset 0. -/
  supplyBad : Bool
  /-- SCLK cycle of the last accepted WDI edge (16 R356); reset none. -/
  wdi : Option Nat
  /-- Counters as LDEV last read them, by entry and code (16 Table PB-4); reset 0. -/
  evRead : List (Nat × Nat)
  /-- Some counter has changed since the last event entry run (16 R360); reset 0. -/
  changed : Bool
  /-- SCLK cycle of the last 4,000-cycle mark (16 R360); reset 0. -/
  eventAt : Nat
  /-- SCLK cycles at which the frame entry falls due, FRAME_OFS after the frame starts that reached SCLK, oldest first (16 R360); reset
  empty. -/
  frameDue : List Nat
  /-- SCLK cycle in which the watch thread's run began (16 R360); reset 0. -/
  watchAt : Nat
  /-- Snapshot headers by source and word, of the latest watch run, each word plus 1 (16 R360); reset 0, none. -/
  snap : List (Nat × Nat)
  /-- SCLK cycle at which the last PB_RELEASE energised both lines (16 R355); reset none. -/
  releasedAt : Option Nat
  /-- Test pulses of line A (0) and line B (1) since that release (16 R355); reset 0. -/
  pulses : List (Nat × Nat)
  /-- SCLK cycle of the entry into DM2 (16 R369); reset none. -/
  dm2At : Option Nat
  /-- A golden judgement has passed since the latest fault of class 5, and of class 6 (16 R371); reset 0. -/
  passed5 : Bool
  passed6 : Bool
  /-- A plan load has been made since the latest fault of class 7 (16 Table PB-5); reset 0. -/
  planSince : Bool
  /-- Highest mode that a verdict of class 8 has named (16 R371); reset 0. -/
  ruleMode : Nat
  /-- Watch entries that have fallen due and wait for the thread: 1 event, 2 frame (16 R360); reset empty. -/
  watchDue : List Nat
deriving DecidableEq, Repr


/-- A sample in reception on a stream (10 R230): its number, its first and last stamps, the bytes and TDM frames taken so far; the bytes
of an inline payload, and of a ring payload those that have not moved to DDR4. A sample that has met a drop cause is dead until its end. -/
structure Gather where
  seq    : Nat
  first  : Nat
  last   : Nat
  len    : Nat
  bytes  : List Byte
  frames : Nat
  dead   : Bool
deriving DecidableEq, Repr

/-- A finished sample that waits for its publication (10 R233), with its inline payload, or what has not moved of a ring payload. -/
structure Sample where
  seq   : Nat
  first : Nat
  last  : Nat
  len   : Nat
  bytes : List Byte
deriving DecidableEq, Repr

/-- A sensor stream (10 R231). -/
structure StreamUnit where
  /-- Samples begun, 64 bits (10 Table SN-5 SEQ); reset 0. -/
  begun : Nat
  /-- The sample in reception (10 R230); reset none. -/
  asm : Option Gather
  /-- Finished samples, oldest first (10 R233); reset empty. -/
  ready : List Sample
  /-- The published buffer of the slot plus 1, or 0 before the first publication (10 R233); reset 0. -/
  side : Nat
deriving DecidableEq, Repr

/-- A micro-sequencer (10 R237). -/
structure Sequencer where
  /-- It runs: EN, and no HALT since the commit (10 R237); reset 0. -/
  run : Bool
  /-- Next instruction, 6 bits (10 R237); reset 0. -/
  pc : Nat
  /-- Port cycle in which the next instruction executes (10 R237); reset 0. -/
  freeAt : Nat
  /-- It waits in WAIT_TRIG (10 Table SN-7); reset 0. -/
  waiting : Bool
  /-- Sources with one pending trigger (10 R238); reset empty. -/
  pend : List Nat
  /-- GPIO triggers on their way to the port domain, oldest first (10 R238); reset empty. -/
  arriving : List Nat
  /-- STAMP_FIRST and STAMP_LAST held since the last EMIT (10 Table SN-7); reset none. -/
  first : Option Nat
  last : Option Nat
  /-- Assembly buffer, 192 bytes (10 R237); reset empty. -/
  buf : List Byte
  /-- More than 192 bytes were appended since the last EMIT (10 R238); reset 0. -/
  excess : Bool
  /-- Port cycle of the last timer period (10 Table SN-14); reset 0. -/
  timerAt : Nat
  /-- Target and bytes of the last transfer clocked out (10 Table SN-7); reset none. -/
  sent : Option (Nat × List Byte)
  /-- Frame whose start last triggered this sequencer (10 Table SN-7 source 34); reset 0. -/
  frame : Nat
deriving DecidableEq, Repr

/-- A record in a DRIVE port's queue (14 R322), and the port cycle in which its transmission began. -/
structure DriveRec where
  record  : Nat
  started : Option Nat
deriving DecidableEq, Repr

/-- The sensor ports (10). -/
structure Sensors where
  /-- Streams by number, 48 (10 R231); an unlisted stream has begun nothing. -/
  streams : List (Nat × StreamUnit)
  /-- Micro-sequencers by number, 6 (10 R237); an unlisted one is stopped. -/
  seqs : List (Nat × Sequencer)
  /-- Bytes in the ingest buffer of each port on their way to the Datum store (10 R236); reset 0. -/
  fill : List (Nat × Nat)
  /-- Level that the module drives on each GPIO pin (10 R239); reset DESIGN CHOICE 0. -/
  gpio : List (Nat × Bool)
  /-- GPIO cycle at which the pulse in progress of each pin ends (10 R239); reset none, written as end plus 1. -/
  pulse : List (Nat × Nat)
  /-- GPIO cycle in which the last pulse of each pin ended, or ends (10 R239); reset 0. -/
  pulseEnd : List (Nat × Nat)
  /-- GPIO cycle from which each frame-trigger pin counts OFFSET, plus 1; 0 where it counts none (10 R239); reset 0. -/
  offset : List (Nat × Nat)
  /-- Queue of each DRIVE port, at most 16, the record in transmission first (14 R322); reset empty. -/
  drive : List (Nat × List DriveRec)
  /-- Bytes of the frame that each DRIVE port transmitted last (14 Table GL-5); reset empty. -/
  wire : List (Nat × List Byte)
  /-- Error frames that each CAN port has put on its bus (10 R229, Table SN-2); reset 0. -/
  canErrors : List (Nat × Nat)
deriving DecidableEq, Repr


/-- A state component, binary32 fields (11 R250); a track axis has the same terms (11 R261). -/
structure Comp where
  init : Bool
  x    : Nat
  v    : Nat
  p00  : Nat
  p01  : Nat
  p11  : Nat
deriving DecidableEq, Repr

/-- A track slot (11 R261, Table DT-6). -/
structure Track where
  state  : Nat
  axes   : List Comp
  id     : Nat
  gen    : Nat
  hits   : Nat
  misses : Nat
  cls    : Nat
deriving DecidableEq, Repr

/-- What a latch took from a source (11 R245): its SEQ, instant frame, ages, class of Table DT-17, the bytes of its payload or feature
record, and the 32-byte units of it that carry poison. -/
structure DatumRec where
  seq     : Nat
  instant : Option Nat
  age     : Nat
  ticks   : Nat
  cls     : Nat
  bytes   : List Byte
  bad     : List Nat
deriving DecidableEq, Repr

/-- A detection of the current frame (11 R261, Table DT-5). -/
structure Detection where
  pos    : List Nat
  var    : List Nat
  cls    : Nat
  source : Nat
deriving DecidableEq, Repr

/-- The masks and bits that the fused-state record of the current frame reports (11 Table DT-7). -/
structure DatumMasks where
  used       : Nat
  late       : Nat
  lateDrop   : Nat
  conflict   : Nat
  reject     : Nat
  assocStale : Nat
  auctionCap : Nat
deriving DecidableEq, Repr

/-- Datum (11). -/
structure Datum where
  /-- Snapshots of each port, newest first, at most 18: frame and counter (11 R243); reset empty. -/
  snaps : List (Nat × List (Nat × Nat))
  /-- Frame whose start last reached FCLK (11 R243); reset 0. -/
  seen : Nat
  /-- Stage of the current Datum frame: 0 none, 1 waits for LATCH, 2 for COST, 3 for PUBLISH (11, the Datum frame); reset 0. -/
  stage : Nat
  /-- Number of the current Datum frame, and the FCLK cycles of its three stages (11 R247, R248); reset DESIGN CHOICE 0. -/
  frame : Nat
  latchAt : Nat
  costAt : Nat
  publishAt : Nat
  /-- A frame whose LATCH waits for the publish (11 R248); reset none. -/
  next : Option Nat
  /-- What the last latch took, by source (11 R245); reset empty. -/
  recs : List (Nat × DatumRec)
  /-- SEQs that earlier latches classified ON_TIME, LATE or DROPPED, by source (11 Table DT-1); reset none. -/
  taken : List (Nat × List Nat)
  /-- Components, 1,024 (11 R250); reset uninitialised. -/
  comps : List (Nat × Comp)
  /-- Posteriors of the kept instants, at most 16, by instant (11 R258); reset empty. -/
  history : List (Nat × List (Nat × Comp))
  /-- Track slots, 256 a + j (11 R261); reset empty. -/
  tracks : List (Nat × Track)
  /-- Detections of each group taken at the last latch (11 R261); reset empty. -/
  dets : List (Nat × List Detection)
  /-- Run counters of source pairs, 4096 g + 64 a + b (11 R256); reset 0. -/
  runs : List (Nat × Nat)
  /-- Sources whose release takes effect at the next latch (11 R269); reset empty. -/
  releases : List Nat
  /-- Published buffer plus 1 of each feature source, and of each group's cost matrix at 16 + a (11 R260, R263); reset 0. -/
  sides : List (Nat × Nat)
  /-- Published fused-state buffer plus 1 (11 R267); reset 0. -/
  out : Nat
  /-- Births and reuses of each track ID (11 R266); reset 0. -/
  gens : List (Nat × Nat)
  masks : DatumMasks
  /-- Components, and track slots as 256 a + j, whose stored state reads uncorrectable (11 R268); reset none. -/
  badComps : List Nat
  badTracks : List Nat
deriving DecidableEq, Repr


/-- A run of Traverse whose window is open (13 R290, Table TV-13). -/
structure TvRun where
  prob   : Nat
  run    : Nat
  frame  : Nat
  /-- The frame of the latch was unsynced (13 Table TV-14). -/
  unsynced : Bool
  /-- TCLK cycle of the latch. -/
  latch  : Nat
  /-- Phase: 1 assembly, 2 factorisation, 3 iteration, 4 test, 5 output, 6 written and waiting for the window's end, 7 published. -/
  phase  : Nat
  /-- TCLK cycle at which the phase ends. -/
  due    : Nat
  /-- Records taken at the latch: source kind and problem, with the address of word 0 (12 R282). -/
  taken  : List (Nat × Nat)
  /-- AGE_DATUM, AGE_STADIA, AGE_LIN, AGE_OUT (13 Table TV-14). -/
  ages   : List Nat
  /-- Flips of the linearisation buffers that wait for the end of the assembly (12 R283). -/
  defer  : Nat
  /-- Assembled destinations in target order, 32 bits each (12 R286). -/
  values : List (Nat × Nat)
  /-- Destinations with a poison mark, in target order (12 R286). -/
  bad    : List Nat
  clamp    : Bool
  noInput  : Bool
  warm     : Bool
  sat      : Bool
  pivots   : Nat
  /-- The iterates x, z and y, each in the format of its variable or constraint (13 R296). -/
  x      : List Int
  z      : List Int
  y      : List Int
  iters  : Nat
  rPrim  : Nat
  rDual  : Nat
  converged : Bool
  capped    : Bool
deriving DecidableEq, Repr

/-- A word that TV_PARAM wrote into the back bank of a problem (12 R284, R285): the TCLK cycle, the index, the word, what it replaced, and
PENDING as it stood before the command. -/
structure TvParam where
  prob  : Nat
  cycle : Nat
  index : Nat
  word  : Nat
  old   : Nat
  pend  : Bool
deriving DecidableEq, Repr

/-- Traverse (12, 13). -/
structure Traverse where
  /-- Accepted images by problem, until S6 places them in the scratch areas (12 R274; entry 14); reset none. -/
  images : List (Nat × List Byte)
  /-- Digests of the images accepted, by problem, plus 1 (12 R274); reset none. -/
  digests : List (Nat × Nat)
  /-- Published linearisation buffer plus 1 of each problem (12 R283); reset 0. -/
  lin : List (Nat × Nat)
  /-- Published output buffer plus 1 of each problem (13 R303); reset 0. -/
  out : List (Nat × Nat)
  /-- The previous run since commit: 0 none, 1 one that bars a warm start, 2 one that allows it (13 R297); reset 0. -/
  prev : List (Nat × Nat)
  /-- STEP: completed runs of each problem since commit, 64 bits (13 R301, Table TV-14); reset 0. -/
  steps : List (Nat × Nat)
  /-- The run whose window is open (12 R280); reset none. -/
  run : Option TvRun
  /-- Frame whose runs are being latched, and the TCLK cycle at which its start reached TCLK (12 R280); reset none. -/
  origin : Option (Nat × Nat)
  /-- Runs latched or skipped in that frame, as 16 × problem + run (12 R280); reset empty. -/
  latched : List Nat
  /-- Copies of active banks in progress: problem and TCLK cycle of their end (12 R285); reset empty. -/
  copies : List (Nat × Nat)
  /-- TV_PARAM commands held for a copy: ring and descriptor (12 R285); reset empty. -/
  held : List (Nat × Desc)
  /-- Words of the back banks written before S6 places the images: 16,384 × problem + index, and the word plus 1 (12 R284; entry 14);
  reset empty. -/
  early : List (Nat × Nat)
  /-- Words that TV_PARAM wrote in its last TCLK cycle, oldest first (12 R285); reset empty. -/
  recent : List TvParam
  /-- Words that wait for the end of a copy: a TV_PARAM completed in the cycle of the latch that began it (12 R285); reset empty. -/
  after : List TvParam
deriving DecidableEq, Repr


/-- A sample in flight (14 R307, R308). -/
structure GlSample where
  /-- GCLK cycle of the trigger. -/
  trig   : Nat
  frame  : Nat
  unsynced : Bool
  /-- Latched inputs, mantissas on the input grid (14 R314). -/
  u      : List Int
  /-- FLAGS of Table GL-4 so far. -/
  flags  : Nat
  swapped : Bool
  /-- Active bank of the sample. -/
  bank   : Nat
  ageRef : Nat
  poison : Bool
  /-- Output mantissas, once the result is ready (14 R307). -/
  y      : Option (List Int)
deriving DecidableEq, Repr

/-- Outputs of a channel as they entered the gate queue: mantissas, their exponent, and the SAMPLE of their record (14 R313, R320). -/
structure GlOut where
  ys     : List Int
  exp    : Int
  sample : Nat
deriving DecidableEq, Repr

/-- A Guyline channel (14). -/
structure GlChan where
  /-- Images of banks 0 and 1 (14 R316); reset empty, no law. -/
  bank0 : List Byte
  bank1 : List Byte
  /-- State mantissas (14 R310); reset empty, set by the first load. -/
  x : List Int
  /-- Inputs of the previous sample (14 R314); reset empty. -/
  u : List Int
  /-- Outputs last written to the gate queue, the outputs before them, and the GCLK cycle of the write (14 R313); reset none, none, 0. -/
  y : Option GlOut
  yOld : Option GlOut
  yAt : Nat
  /-- SEQ plus 1 that the previous trigger took from each stream (14 R314); reset 0. -/
  seqs : List (Nat × Nat)
  /-- Samples since commit (14 Table GL-4 SAMPLE); reset 0. -/
  samples : Nat
  /-- Triggers of the running frame that have fallen due (14 R306); reset 0. -/
  fired : Nat
  /-- The sample whose output is not yet written (14 R308); reset none. -/
  cur : Option GlSample
  /-- The GL_LOAD whose swap is pending: ring and descriptor (14 R318); reset none. -/
  swap : Option (Nat × Desc)
  /-- GCLK cycle in which PENDING was set (14 R318); reset 0. -/
  pendAt : Nat
  /-- GL_LOAD commands held for a pending swap (14 R317); reset empty. -/
  held : List (Nat × Desc)
  /-- State words that read uncorrectable, and whether a word of bank 0 or 1 does (14 R323); reset none. -/
  badX : List Nat
  bad0 : Bool
  bad1 : Bool
deriving DecidableEq, Repr

/-- Guyline (14). -/
structure Guyline where
  /-- The 64 channels (14 R306); an unlisted channel is as after S0. -/
  chans : List (Nat × GlChan)
  /-- GCLK cycle at which the running frame's start reached GCLK (14 R306); reset none. -/
  origin : Option Nat
  /-- GCLK-to-SCLK queue to the Plumb gate, oldest first, at most 128 (14 R320); reset empty. -/
  gate : List (BitVec 512)
deriving DecidableEq, Repr


/-- A candidate's latest verdict (15 R341). -/
structure Verdict where
  pass   : Bool
  epoch  : Nat
  wp     : Nat
  sphere : Nat
  cause  : Nat
  clear  : Nat
deriving DecidableEq, Repr

/-- Stadia (15). -/
structure Stadia where
  /-- The model image (15 R331); reset none. -/
  model : Option (List Byte)
  /-- Directory ways, 4 × bucket + way: 65,536 × key + slot, plus 1 (15 R327); reset DESIGN CHOICE empty. -/
  dir : List (Nat × Nat)
  /-- Published update buffer plus 1, whether it waits for its application, and the FCLK cycle of its flip (15 R328); reset 0, none, 0. -/
  upd : Nat
  updWaits : Bool
  updAt : Nat
  /-- Deferred flips of the update buffers (15 R330); reset 0. -/
  updDefer : Nat
  /-- Published proposal buffer plus 1, and deferred flips (15 R334, R335); reset 0. -/
  prop : Nat
  propDefer : Nat
  /-- Phase of the running frame: 0 none, 1 waits for LATCH, 2 to CHECK_END, 3 to GATE, 4 to the publication (15 R341–R344); reset 0. -/
  stage : Nat
  /-- Its FCLK cycles of LATCH, CHECK_END and GATE (15 R341–R343); reset DESIGN CHOICE 0. -/
  latchAt : Nat
  endAt : Nat
  gateAt : Nat
  /-- A frame start that waits for the publication (15 R344); reset 0. -/
  next : Bool
  /-- The frame of the latch, and whether it was unsynced (15 Table ST-4); reset DESIGN CHOICE 0. -/
  frame : Nat
  unsynced : Bool
  /-- What LATCH took: SEQ, candidates, waypoints, age, and the flags PROP_STALE and PROP_BAD (15 R337); reset 0. -/
  seq : Nat
  count : Nat
  wp : Nat
  age : Nat
  stale : Bool
  bad : Bool
  /-- SEQ taken at the previous latch, plus 1 (15 R337); reset 0. -/
  lastSeq : Nat
  /-- Candidates still to be checked, in the order of R341; reset empty. -/
  queue : List Nat
  /-- Latest verdicts by candidate (15 R341); reset none. -/
  verdicts : List (Nat × Verdict)
  /-- FCLK cycle from which the checker is free (15 R329, R340); reset 0. -/
  freeAt : Nat
  /-- Checks before CHECK_END, re-checks after it, and both since the latch (15 Table ST-9, R349); reset 0. -/
  checked : Nat
  rechecked : Nat
  /-- Selected candidate plus 1 (15 R342); reset 0. -/
  selected : Nat
  noPath : Bool
  timeout : Bool
  /-- What the gate put out: candidate plus 1, 0 for the hold; and whether the selection failed there (15 R343); reset 0. -/
  out : Nat
  invalidated : Bool
  holdBlocked : Bool
  /-- The gate epoch (15 R343); reset 0. -/
  epoch : Nat
  /-- The hold trajectory, a list of waypoints of binary32 words (15 R347); reset empty. -/
  hold : List (List Nat)
  /-- Published buffer plus 1 of the trajectory and diagnosis records (15 R348); reset 0. -/
  side : Nat
deriving DecidableEq, Repr



/-- A flit of a tether port: its header of Table TL-2 and its 64-byte payload (23 R497). -/
structure Flit where
  hdr     : Nat
  payload : List Byte
deriving DecidableEq, Repr

/-- A flit that the receiver holds (23 R505): the port cycle of its release. -/
structure HeldFlit where
  due  : Nat
  flit : Flit
deriving DecidableEq, Repr

/-- A marker that waits behind the tether transfers issued before it (23 R503): the transfers still to end in each core's queue. -/
structure MarkerOut where
  id    : Nat
  ahead : List (Nat × Nat)
deriving DecidableEq, Repr

/-- One tether port (23). -/
structure TlPort where
  /-- SEQ of the next flit sent, 12 bits (23 Table TL-2); reset DESIGN CHOICE 0. -/
  next : Nat
  /-- SEQ of the last flit received in order, 12 bits (23 R498); reset DESIGN CHOICE 4,095, the number before the first. -/
  last : Nat
  /-- Flits dropped since a failed one: the receiver drops every later flit until the resent one arrives (23 R498); reset 0. -/
  lost : Nat
  /-- Unacknowledged flits, oldest first, at most 256 (23 R498); reset empty. -/
  sent : List Flit
  /-- Flits sent again after a retry was last asked for (23 R498); reset empty. -/
  resent : List Flit
  /-- Flits that wait to be sent, without SEQ, oldest first (23 R502); reset empty. -/
  queue : List Flit
  /-- Markers that wait behind transfers, oldest first (23 R503); reset empty. -/
  markers : List MarkerOut
  /-- Header of the ACK flit returned last (23 R498); reset none. -/
  ack : Option Nat
  /-- Received flits held until their release, in order (23 R505); reset empty. -/
  held : List HeldFlit
  /-- Received DDR4 units that wait for OPEN-slot time, and the markers behind them, oldest first (23 R501, R503); reset empty. -/
  landing : List Flit
  /-- Port cycle since which the link is down (23 R502); reset none. -/
  downAt : Option Nat
  /-- TEST flits that passed in S4 and those that failed (23 R507, 19 R427); reset 0. -/
  good : Nat
  bad  : Nat
deriving DecidableEq, Repr

/-- A measured event of ID_LOG (21 R470). -/
structure Measured where
  kind   : Nat
  frame  : Nat
  digest : Nat
deriving DecidableEq, Repr

/-- A flash area to program: the command, the area and the image (21 R475). -/
structure FlashJob where
  ring  : Nat
  desc  : Desc
  area  : Nat
  bytes : List Byte
deriving DecidableEq, Repr

/-- Identity (21). -/
structure Ident where
  /-- Measurement value M, 32 bytes (21 R470); reset 0. -/
  measure : Nat
  /-- Extensions since S0, 64 bits (21 Table ID-8 MEASURE_COUNT); reset 0. -/
  count : Nat
  /-- ID_LOG, oldest first, at most 4,096 entries (21 R470); reset empty. -/
  log : List Measured
  /-- Traverse image digests in the manifest of the loaded plan image (21 R471); reset empty. -/
  manifest : List Nat
  /-- DIGEST of the running boot image, the owner certificate and the configuration image (21 Table ID-8); reset 0. -/
  bootDigest  : Nat
  ownerDigest : Nat
  confDigest  : Nat
  /-- FRAME_DIGEST and FILL_DIGEST of the plan parts in force (21 Table ID-8); reset 0. -/
  planFrame : Nat
  planFill  : Nat
  /-- DIGEST of the loaded rule image, 0 for the default (21 Table ID-8); reset 0. -/
  ruleDigest : Nat
  /-- FW_VERSION, vendor root public key and slot SEQ of the running boot image (21 Table ID-8, R464, R465); reset DESIGN CHOICE 0. -/
  fwVersion : Nat
  vendor : Nat
  slotSeq : Nat
  /-- The identity seed that the fingerprint read at power-on gives, none where it does not match its check (21 R468); reset DESIGN
  CHOICE none. -/
  seed : Option Nat
  /-- Device public key, 1,952 bytes (21 R468); reset 0. -/
  pub : Nat
  /-- Owner public key of the owner certificate in force (21 R465); reset 0. -/
  owner : Nat
  /-- The flash, 256 MiB (21 R464); reset DESIGN CHOICE 0xFF, erased. -/
  flash : List (Nat × Byte)
  /-- ID_FLASH_WRITE commands accepted and not yet programmed, the running one first (21 R476); reset empty. -/
  program : List FlashJob
deriving DecidableEq, Repr

/-- How the module is supplied (20, 25). -/
inductive Supply where
  /-- NRESET low, or no VIN: every regulator is off (25 R529, R537). -/
  | off
  /-- S0: the rails come up (19 Table BU-3, 25 R538). -/
  | starting
  /-- Every rail in regulation. -/
  | on
  /-- The save rails alone (20 R457). -/
  | save
  /-- VDD_CORE, VDD_DDR, VPP and VDD_SER off after the thermal shutdown (20 R449). -/
  | hot
deriving DecidableEq, Repr

/-- A save record of the MRAM store (20 R458): sequence number, frame and PL_STEP at the sag, digest of the committed configuration
block, and the lots: index, MT_LOT_W0 as it stood, bytes by offset. -/
structure SaveRec where
  seq    : Nat
  frame  : Nat
  step   : Nat
  digest : Nat
  lots   : List (Nat × BitVec 64 × List (Nat × Byte))
deriving DecidableEq, Repr

/-- The power manager (20). Powers are in mW, energies in mW × µs, as exact fractions. -/
structure Power where
  /-- How the module is supplied (20 R457, 25 R529, R537, R538); reset on: S0 is complete. -/
  supply : Supply
  /-- FCLK cycle in which the current control tick began (20 R446); reset 0. -/
  tickAt : Nat
  /-- Estimates formed in the current tick: their count, and the sums of input power, protected and fill power (20 R443); reset 0. -/
  count : Nat
  sumIn : Rat
  sumProt : Rat
  sumFill : Rat
  /-- Sums of the rail estimates of the current tick, by rail (20 R443, Table PW-8); reset 0. -/
  sumRail : List (Nat × Rat)
  /-- Average estimated input power of the last ticks, newest first, as many as CAP_WIN takes (20 R450, R452); reset empty. -/
  history : List Rat
  /-- Measured power of each rail in the current tick: the sum of the reports, in mW, and their number (20 R442); reset empty. -/
  measSum : List (Nat × Rat)
  measNum : List (Nat × Nat)
  /-- The activity counts since the last estimate, by 8 × kind + PART (20 R443): kind 0 issued engine cycles, 1 vector lanes,
  2 iterations of IMUL_HI performed (R96), 3 transfer units, 4 DDR4 lines, 5 port bytes; reset empty. -/
  activity : List (Nat × Nat)
  /-- Learned PROT and FILL by phase (20 R452); reset 0. -/
  learnedProt : List (Nat × Rat)
  learnedFill : List (Nat × Rat)
  /-- Ticks learned by phase (20 Table PW-10); reset 0. -/
  ticks : List (Nat × Nat)
  /-- trim of the cap controller (20 R452); reset 0. -/
  trim : Rat
  /-- Duty that reason THERMAL calls for, 0–10 (20 Table PW-2); reset 0. -/
  thermal : Nat
  /-- A regulator has reported its current limit in the current tick (20 Table PW-2); reset 0. -/
  limit : Bool
  /-- FCLK cycle of the last hold request of a droop that lasts (20 Table PW-2); reset none. -/
  droop : Option Nat
  /-- FCLK cycles of the hold requests of the current tick not yet made (20 R446); reset empty. -/
  holds : List Nat
  /-- Ticks in a row with the window average above the cap at *d* = 10 (20 R452); reset 0. -/
  unmet : Nat
  /-- A cap accepted by PW_SET_CAP that takes effect at the next tick, 0.1 W (20 R451); reset none. -/
  capNext : Option Nat
  /-- Energy measured and estimated on each rail since the last calibration (20 R444); reset 0. -/
  measured : List (Nat × Rat)
  estimated : List (Nat × Rat)
  /-- FCLK cycle of the last calibration (20 R444); reset 0. -/
  calAt : Nat
  /-- Valid save slots of the MRAM store (20 R458); reset DESIGN CHOICE none. -/
  slots : List (Nat × SaveRec)
  /-- The save in progress: its slot and its record (20 R455); reset none. -/
  saving : Option (Nat × SaveRec)
deriving DecidableEq, Repr

/-- A BU_RESTART that waits for the fill stream or for demand transfers (19 R436). -/
structure Restart where
  part : Nat
  ring : Nat
  desc : Desc
deriving DecidableEq, Repr

/-- Bring-up (19), beside BC_STEP_STATUS. -/
structure Bring where
  /-- A sag has ended bring-up: every request is refused until a cold start (20 R454); reset 0. -/
  ended : Bool
  /-- FCLK cycle in which the active step started (19 Table BU-2 TIME); reset 0. -/
  stepAt : Nat
  /-- SAVED and HOST_RD_ERR of the active request (19 Table BU-1); reset 0. -/
  saved : Nat
  rdErr : Nat
  /-- Channels whose saved record passes its MPR read test (06 R160); reset 0. -/
  mpr : Nat
  /-- Failure that the active step has met: FAIL_CODE, FAIL_UNIT (19 Table BU-4); reset none. -/
  fail : Option (Nat × Nat)
  /-- Error counts of the links at the start of S4 (19 R427); reset 0. -/
  base : List (Nat × Nat)
  /-- Configuration block of the loaded plan image, and the committed one (19 R433, 21 R472); reset empty. -/
  planConfig : List Byte
  config : List Byte
  /-- M at the S6 commit (22 Table FB-2 COMMIT); reset 0. -/
  commitM : Nat
  /-- Repair overlay in the MRAM store: logical engine and the physical engine that serves it (19 R431); reset DESIGN CHOICE empty. -/
  overlay : List (Nat × Nat)
  /-- Substitutions pending under R432: engine site, and the partitions restarted since it was declared lasting (19 R432); reset
  empty. -/
  subs : List (Nat × Nat)
  /-- BU_RESTART commands in progress (19 R436); reset empty. -/
  restarts : List Restart
  /-- The DDR4 start test has run: DDR4 holds its pattern where nothing has been written since (19 R429); reset 0. -/
  tested : Bool
deriving DecidableEq, Repr

/-- An instruction of the test access port (25 R532). -/
inductive JtagOp where
  | bypass
  | samplePreload
  | extest
  | idcode
  | highz
  | clamp
deriving DecidableEq, Repr

/-- Control pins, straps and the test access port (25). -/
structure Pins where
  /-- VIN has risen above its turn-on threshold and not fallen below its turn-off threshold (25 Table EM-10); reset 1. -/
  vin : Bool
  /-- NRESET is held low (25 R529); reset 0. -/
  nreset : Bool
  /-- MOD_PG is asserted (25 R530); reset 1: S0 is complete. -/
  modPg : Bool
  /-- STRAP_JTAG and FLASH_WP_N as sampled when S0 completed (25 R531); reset their defaults, low and high. -/
  strapJtag : Bool
  flashWpN : Bool
  /-- The instruction in force (25 R532); reset IDCODE, as the standard lays down for Test-Logic-Reset (PRESUMED). -/
  ir : JtagOp
  /-- Bits that the last scan shifted out, first bit first (25 R532); reset empty. -/
  tdo : List Bool
  /-- Update latches of the boundary cells, cell nearest TDO first (25 R532); reset DESIGN CHOICE empty, all 0. -/
  cells : List Bool
deriving DecidableEq, Repr

/-- The double-buffered hand-offs whose flips a latch may meet (01 R20): a stream's slot, a feature slot or a cost buffer (16 + group), the
fused-state record, an output record and a linearisation record of a Traverse problem, and Stadia's records. -/
inductive Handoff where
  | stream (n : Nat)
  | feature (k : Nat)
  | fused
  | out (j : Nat)
  | lin (j : Nat)
  | trajectory
deriving DecidableEq, Repr

/-- The last flip of a hand-off (01 R20): the cycles of FCLK, TCLK, GCLK and SCLK in which it became visible, and the buffer that was
published before it, plus 1. -/
structure Flip where
  fclk : Nat
  tclk : Nat
  gclk : Nat
  sclk : Nat
  old  : Nat
deriving DecidableEq, Repr

/-- The module. -/
structure State where
  /-- Commands that wait, first in, first out (the model's own queue); reset empty. -/
  pending : List Instr
  clk : Clocks
  /-- The registers of every unit block and of the boot page, by `RegArr.key`, each as the exclusive or of its value and its
  value after S0 (00 R5, R10); reset empty. -/
  regs : List (Nat × BitVec 64)
  /-- The 48-bit internal address space: DDR4, core stores, operand buffers, window SRAM, Stadia stores, Traverse scratch and
  Datum store, by byte address (05 R117, 09 R216); an unlisted byte reads 0; reset empty. -/
  mem : List Host.Cell
  /-- Poison marks, by 32-byte unit of the same space (03 R73, 04 R110, 06 R152); reset empty. -/
  poison : List (Nat × Bool)
  /-- Which of the eight 32-bit words of a marked unit of the Traverse scratch or the Stadia stores carry the mark, as 8 bits, by unit
  (13 R293, 15 R341); no entry: all of them; reset empty. -/
  wordMarks : List (Nat × Nat)
  /-- Last flips of the hand-off buffers (01 R20); reset none. -/
  flips : List (Handoff × Flip)
  ridge : Ridge
  /-- The 128 engines, by logical index (03 R53); an unlisted engine is as after S0. -/
  engines : List (Nat × Engine)
  /-- The 16 vector units, by core (04 R90); an unlisted unit is as after S0. -/
  vecs : List (Nat × VecUnit)
  stow : Stow
  /-- The eight DDR4 channels (06 R143); an unlisted channel is as after S0. -/
  ddr : List (Nat × DdrChan)
  sched : Sched
  /-- The sequence units, by partition 2–7 (07 R165). -/
  seq : List (Nat × SeqPart)
  rings : Rings
  plumb : Plumb
  sensors : Sensors
  datum : Datum
  traverse : Traverse
  guyline : Guyline
  stadia : Stadia
  /-- The tether ports, by port 0–2 (23); an unlisted port is as after S0. -/
  tether : List (Nat × TlPort)
  trail : Trail
  book : Book
  ident : Ident
  power : Power
  bring : Bring
  pins : Pins
  /-- Fault counters of Table FB-3, by site (22 R491); an unlisted site has counted nothing. -/
  sites : List (Nat × FaultSite)
  /-- The model's own counter of free values taken (DESIGN CHOICE, entry 3); reset 0. -/
  free : Nat
deriving DecidableEq, Repr

def StreamState.reset : StreamState := ⟨0, 0, 0, false, [], none, false⟩
def Ridge.reset : Ridge :=
  { frame := StreamState.reset, fill := StreamState.reset, lc := [], starts := [], released := none, runFrom := 0, stopFrom := 0, windows := [],
    hold := none, holdLog := [], holdLost := false, goArmed := false, goAt := none, fillStopReq := false,
    frameStopReq := false, faulted := false, markers := [], phase := 0, condPend := [], condOld := [], heldSlots := [], regWaiting := false, regChans := 0, overrunFor := none, frameIssued := false,
    planLoaded := false, imageFillBase := 0, goldenOverrun := false, stepGrant := 0 }
def Drain.none : Drain := ⟨0, 0, 0, 0⟩
def Engine.reset : Engine :=
  { acc := [], ckpt := [], out := [], live := false, pass := 0, drain := Drain.none, eop := 0, wbits := 0, abits := 0,
    sat := false, poison := false, outPoison := false, drainPart := 0, mismatch := false, elemA := [], elemW := [], savedPass := 0,
    savedLive := false, savedDrain := Drain.none, savedPoison := false }
def VecUnit.reset : VecUnit := ⟨[], [], [], [], false, [], 0, false⟩
def Lot.reset : Lot := ⟨0, 0, false, false, false, false, 0, 0⟩
def Stow.reset : Stow := ⟨[], [], [], [], 0⟩
def DdrChan.reset : DdrChan :=
  { debt := 0, debtAt := 0, slots := [], refAt := 0, wbuf := [], sent := [], openq := [], errLog := [], errLost := false, bad := [], quota := 0,
    quotaAt := 0, stepWait := none, trainAt := 0, fails := [], saved := none, markAt := 0, zqAt := 0, ready := false }
def Sched.reset : Sched := ⟨none, false, [], [], [], [], none⟩
def SeqRow.reset : SeqRow := ⟨0, false, 0, 0, 0, 0, [], 0, 0, false, 0, [], [], []⟩
def SeqPart.reset : SeqPart := ⟨[], 0, none, none, ⟨[], []⟩, [], [], [], 0⟩
def Ring.reset : Ring := ⟨false, 0, 0, 0, false, 0, 0, 0, 0, 0, 0, 0, 0, false⟩
def Rings.reset : Rings := ⟨[], [], [], [], [], []⟩
def WStream.reset : WStream := ⟨0, 0, 0, none, []⟩
def HostLane.reset : HostLane :=
  { rows := [], modes := [], fifo := [], synced := false, trained := false, cbt := false, idle := false, asleep := false,
    scratch := [], soakWr := [], soakRd := [], dq := [] }
def Trail.reset : Trail := ⟨false, false, [], [], []⟩
def FaultSite.reset : FaultSite := ⟨0, false, 0, 0, 0⟩
def Clocks.reset : Clocks := ⟨0, 0, 0, 0, 0, 0, 0, [], 0, []⟩

def Thread.reset : Thread := ⟨none, 0, [], 0, none, 0, false⟩
def Plumb.reset : Plumb :=
  { inbox := [], threads := [], rules := none, loaded := false, data := [], golden := [], goldenOpen := false, goldenClose := none, lineA := false,
    lineB := false, rbDue := [], rbBad := false, clockBad := false, windowAt := 0, supplyBad := false, wdi := none, evRead := [], changed := false,
    eventAt := 0, frameDue := [], watchAt := 0, snap := [], releasedAt := none, pulses := [], dm2At := none, passed5 := false, passed6 := false,
    planSince := false, ruleMode := 0, watchDue := [] }

def StreamUnit.reset : StreamUnit := ⟨0, none, [], 0⟩
def Sequencer.reset : Sequencer := ⟨false, 0, 0, false, [], [], none, none, [], false, 0, none, 0⟩
def Sensors.reset : Sensors := ⟨[], [], [], [], [], [], [], [], [], []⟩

def Comp.reset : Comp := ⟨false, 0, 0, 0x7F800000, 0, 0⟩
def Track.reset : Track := ⟨0, [], 0, 0, 0, 0, 0⟩
def DatumMasks.reset : DatumMasks := ⟨0, 0, 0, 0, 0, 0, 0⟩
def Datum.reset : Datum :=
  { snaps := [], seen := 0, stage := 0, frame := 0, latchAt := 0, costAt := 0, publishAt := 0, next := none, recs := [], taken := [],
    comps := [], history := [], tracks := [], dets := [], runs := [], releases := [], sides := [], out := 0, gens := [],
    masks := DatumMasks.reset, badComps := [], badTracks := [] }

def Traverse.reset : Traverse := ⟨[], [], [], [], [], [], none, none, [], [], [], [], [], []⟩
def GlChan.reset : GlChan := ⟨[], [], [], [], none, none, 0, [], 0, 0, none, none, 0, [], [], false, false⟩
def Guyline.reset : Guyline := ⟨[], none, []⟩
def Stadia.reset : Stadia :=
  { model := none, dir := [], upd := 0, updWaits := false, updAt := 0, updDefer := 0, prop := 0, propDefer := 0, stage := 0,
    latchAt := 0, endAt := 0, gateAt := 0, next := false, frame := 0, unsynced := false, seq := 0, count := 0, wp := 0, age := 0, stale := false,
    bad := false, lastSeq := 0, queue := [], verdicts := [], freeAt := 0, checked := 0, rechecked := 0, selected := 0,
    noPath := false, timeout := false, out := 0, invalidated := false, holdBlocked := false, epoch := 0, hold := [], side := 0 }
def TlPort.reset : TlPort :=
  { next := 0, last := 4095, lost := 0, sent := [], resent := [], queue := [], markers := [], ack := none, held := [], landing := [], downAt := none, good := 0, bad := 0 }
def Ident.reset : Ident :=
  { measure := 0, count := 0, log := [], manifest := [], bootDigest := 0, ownerDigest := 0, confDigest := 0, planFrame := 0,
    planFill := 0, ruleDigest := 0, fwVersion := 0, vendor := 0, slotSeq := 0, seed := none, pub := 0, owner := 0, flash := [], program := [] }
def Book.reset : Book := ⟨[], [], [], [], 0, 0, 0, none, false⟩
def Power.reset : Power :=
  { supply := .on, tickAt := 0, count := 0, sumIn := 0, sumProt := 0, sumFill := 0, sumRail := [], measSum := [], measNum := [], activity := [], history := [], learnedProt := [],
    learnedFill := [], ticks := [], trim := 0, thermal := 0, limit := false, droop := none, holds := [], unmet := 0, capNext := none,
    measured := [], estimated := [], calAt := 0, slots := [], saving := none }
def Bring.reset : Bring :=
  { ended := false, stepAt := 0, saved := 0, rdErr := 0, mpr := 0, fail := none, base := [], planConfig := [], config := [],
    commitM := 0, overlay := [], subs := [], restarts := [], tested := false }
def Pins.reset : Pins := ⟨true, false, true, false, true, .idcode, [], []⟩

/-- The module after S0, power good. -/
def State.reset : State :=
  { pending := [], clk := Clocks.reset, regs := [], mem := [], poison := [], wordMarks := [], flips := [], ridge := Ridge.reset, engines := [],
    vecs := [], stow := Stow.reset, ddr := [], sched := Sched.reset, seq := [], rings := Rings.reset, plumb := Plumb.reset, sensors := Sensors.reset, datum := Datum.reset, trail := Trail.reset, tether := [], traverse := Traverse.reset, guyline := Guyline.reset, stadia := Stadia.reset,
    book := Book.reset, ident := Ident.reset, power := Power.reset, bring := Bring.reset, pins := Pins.reset,
    sites := [], free := 0 }

end Sys2Proof.Machine
end

