-- ==== Sys2Proof/Machine/Ops.lean ====
section
/-! DEFINITION. The named operations over registers, memory, clocks, events and records that the meanings share. -/

namespace Sys2Proof.Machine

/-! ## Registers -/

/-- The value of entry `i` of a register array. -/
def State.reg (s : State) (r : RegArr) (i : Nat := 0) : BitVec 64 := spGet 0 s.regs (r.key i) ^^^ r.reset

/-- `s` with entry `i` of a register array at `v`. -/
def State.setReg (s : State) (r : RegArr) (i : Nat) (v : BitVec 64) : State :=
  { s with regs := spSet 0 s.regs (r.key i) (v ^^^ r.reset) }

/-- A field of a 64-bit word. -/
def RegField.get (f : RegField) (v : BitVec 64) : Nat := (v.extractLsb' f.lo f.w).toNat

/-- A 64-bit word with one field replaced. -/
def RegField.put (f : RegField) (v : BitVec 64) (x : Nat) : BitVec 64 :=
  let m : BitVec 64 := BitVec.ofNat 64 (2 ^ f.w - 1) <<< f.lo
  (v &&& ~~~m) ||| ((BitVec.ofNat 64 x <<< f.lo) &&& m)

/-- A field of entry `i` of a register. -/
def State.fld (s : State) (f : RegField) (i : Nat := 0) : Nat := f.get (s.reg f.reg i)

/-- A one-bit field as a Bool. -/
def State.flag (s : State) (f : RegField) (i : Nat := 0) : Bool := s.fld f i != 0

/-- `s` with a field of entry `i` of a register at `x`. -/
def State.setFld (s : State) (f : RegField) (i x : Nat) : State := s.setReg f.reg i (f.put (s.reg f.reg i) x)

/-- A counter field that saturates, raised by `n`. -/
def State.bump (s : State) (f : RegField) (i : Nat := 0) (n : Nat := 1) : State :=
  s.setFld f i (min (2 ^ f.w - 1) (s.fld f i + n))

/-- A counter field that wraps, raised by `n`. -/
def State.count (s : State) (f : RegField) (i : Nat := 0) (n : Nat := 1) : State := s.setFld f i (s.fld f i + n)

/-- A flag field set. -/
def State.setFlag (s : State) (f : RegField) (i : Nat := 0) : State := s.setFld f i 1

/-- R6: what a read of a register answers and leaves: write-only fields read zero, RC fields are cleared. -/
def State.readReg (s : State) (r : RegArr) (i : Nat) : BitVec 64 × State :=
  let v := s.reg r i
  (v &&& ~~~r.wo, if r.rc = 0 then s else s.setReg r i (v &&& ~~~r.rc))

/-- R6, R7: what a write leaves in a register: RW fields take the value, a 1 clears a W1C bit, all else stands. Write-only
fields hold nothing; what they trigger is the writing command's. -/
def RegArr.written (r : RegArr) (old v : BitVec 64) : BitVec 64 :=
  (old &&& ~~~r.rw &&& ~~~(r.w1c &&& v)) ||| (v &&& r.rw)

def State.writeReg (s : State) (r : RegArr) (i : Nat) (v : BitVec 64) : State := s.setReg r i (r.written (s.reg r i) v)

/-! ## Memory -/

/-- Bytes of DDR4 (R145). -/
def ddrSize : Nat := 0x0020_0000_0000

/-- What an unlisted address reads as: 0, and in DDR4 once the start test has run the test's pattern, which depends on the address
in a way that the spec leaves open (R429). Memory lists each byte as its difference from this. -/
def State.blank (s : State) (a : Nat) : Byte :=
  if s.bring.tested && decide (a < ddrSize) then BitVec.ofNat 8 (Config.freeFn 71 [a]) else 0

/-- The bytes from address `a`, each as its difference from what an unlisted address reads as, or back. -/
def State.shade (s : State) (a : Nat) (bs : List Byte) : List Byte :=
  if s.bring.tested && decide (a < ddrSize) then bs.mapIdx fun k b => b ^^^ s.blank (a + k) else bs

def State.rdByte (s : State) (a : Nat) : Byte := spGet 0 s.mem a ^^^ s.blank a
def State.wrByte (s : State) (a : Nat) (b : Byte) : State := { s with mem := spSet 0 s.mem a (b ^^^ s.blank a) }

/-- The `n` bytes from address `a`. -/
def State.rdBytes (s : State) (a n : Nat) : List Byte := s.shade a (spRange 0 s.mem a n)
def State.wrBytes (s : State) (a : Nat) (bs : List Byte) : State := { s with mem := spWrite 0 s.mem a (s.shade a bs) }

/-- The little-endian number in `n` bytes from address `a` (R4). -/
def State.rdLe (s : State) (a n : Nat) : Nat := leNat (s.rdBytes a n)
def State.wrLe (s : State) (a n v : Nat) : State := s.wrBytes a (leBytes n v)

/-- Memory in its canonical form. -/
abbrev Memory.wf (m : List Host.Cell) : Prop := spWf (0 : Byte) m = true

/-- The poison mark of the 32-byte unit that holds address `a`. -/
def State.poisonAt (s : State) (a : Nat) : Bool := spGet false s.poison (a / 32)
/-- Marks of single words in the units of `n` bytes from `a` end: the units are written. -/
def State.wholeUnits (s : State) (a n : Nat) : State :=
  { s with wordMarks := spKeep (fun k => !(decide (a / 32 ≤ k) && decide (32 * k < a + n))) s.wordMarks }

def State.setPoisonAt (s : State) (a : Nat) (p : Bool) : State :=
  { s.wholeUnits a 1 with poison := spSet false s.poison (a / 32) p }

/-- Some unit of the `n` bytes from `a` carries a poison mark. -/
def State.poisonIn (s : State) (a n : Nat) : Bool :=
  (List.range ((a % 32 + n + 31) / 32)).any fun k => s.poisonAt (a + 32 * k)

/-- Marks every unit of the `n` bytes from `a`, poisoned or not. -/
def State.markRange (s : State) (a n : Nat) (p : Bool) : State :=
  { s.wholeUnits a n with poison := (List.range ((a % 32 + n + 31) / 32)).foldl (fun t k => spSet false t (a / 32 + k) p) s.poison }

/-- R293: the 32-bit word at `a` carries a poison mark. -/
def State.poisonWord (s : State) (a : Nat) : Bool :=
  s.poisonAt a && (match spGet 0 s.wordMarks (a / 32) with | 0 => true | m => hasBit m (a % 32 / 4))

/-- Some 32-bit word of the `n` bytes from `a` carries a poison mark. -/
def State.poisonWords (s : State) (a n : Nat) : Bool := s.poisonIn a n && (List.range ((n + 3) / 4)).any fun k => s.poisonWord (a + 4 * k)

/-- R293: marks the 32-bit word at `a`. -/
def State.markWord (s : State) (a : Nat) : State :=
  let m := if s.poisonAt a then spGet 0 s.wordMarks (a / 32) else 0
  if s.poisonAt a && m == 0 then s
  else { s with
    poison := spSet false s.poison (a / 32) true
    wordMarks := spSet 0 s.wordMarks (a / 32) (putBit m (a % 32 / 4) true) }

/-- Writes bytes and their poison mark together. -/
def State.wrMarked (s : State) (a : Nat) (bs : List Byte) (p : Bool) : State :=
  (s.wrBytes a bs).markRange a bs.length p

/-- Drops the entries of `n` bytes from `a`, so that they read as unlisted addresses do, and their marks. -/
def State.dropRange (s : State) (a n : Nat) : State :=
  { s with mem := spKeep (fun k => !(decide (a ≤ k) && decide (k < a + n))) s.mem
           poison := spKeep (fun k => !(decide (a ≤ 32 * k) && decide (32 * k < a + n))) s.poison
           wordMarks := spKeep (fun k => !(decide (a ≤ 32 * k) && decide (32 * k < a + n))) s.wordMarks }

/-- Clears `n` bytes from `a` and their marks. -/
def State.clearRange (s : State) (a n : Nat) : State :=
  let t := s.dropRange a n
  if s.bring.tested && decide (a < ddrSize) then t.wrBytes a (List.replicate n 0) else t

/-- Copies `n` bytes and their marks; addresses and length are multiples of 32. -/
def State.copyRange (s : State) (src dst n : Nat) : State :=
  let t := { s with
    poison := spCopy s.poison (src / 32) (dst / 32) (n / 32)
    wordMarks := spCopy s.wordMarks (src / 32) (dst / 32) (n / 32) }
  if s.bring.tested && (decide (src < ddrSize) || decide (dst < ddrSize)) then t.wrBytes dst (s.rdBytes src n)
  else { t with mem := spCopy s.mem src dst n }

/-! ## Writes of one ACLK cycle (R71, R72, R125) -/

/-- A write of `bs` at `a` in ACLK cycle `t` that `who` makes: the entry says what it replaces. -/
def State.noteEdge (s : State) (t : Nat) (who : Writer) (a n : Nat) : State :=
  let e : EdgeWrite := ⟨t, who, a, s.rdBytes a n, (List.range ((a % 32 + n + 31) / 32)).map fun k => s.poisonAt (a + 32 * k)⟩
  { s with stow := { s.stow with edge := (s.stow.edge.filter fun x => decide (t ≤ x.cyc)) ++ [e] } }

/-- Some writer that `p` names has written in cycle `t` to the `n` bytes from `a`. -/
def State.clashes (s : State) (t a n : Nat) (p : Writer → Bool) : Bool :=
  s.stow.edge.any fun x => x.cyc == t && p x.who && decide (a < x.addr + x.old.length) && decide (x.addr < a + n)

/-- The byte at `a` as a read of cycle `t` sees it: writes of that cycle or later have not yet been made. -/
def State.byteAt (s : State) (t a : Nat) : Byte :=
  match s.stow.edge.find? fun x => decide (t ≤ x.cyc) && decide (x.addr ≤ a) && decide (a < x.addr + x.old.length) with
  | some x => x.old.getD (a - x.addr) 0
  | none => s.rdByte a

/-- The `n` bytes from `a` as a read of cycle `t` sees them. -/
def State.bytesAt (s : State) (t a n : Nat) : List Byte :=
  if s.stow.edge.any fun x => decide (t ≤ x.cyc) && decide (a < x.addr + x.old.length) && decide (x.addr < a + n)
  then (List.range n).map fun k => s.byteAt t (a + k) else s.rdBytes a n

/-- The poison mark of the unit that holds `a`, as a read of cycle `t` sees it. -/
def State.markAt (s : State) (t a : Nat) : Bool :=
  match s.stow.edge.find? fun x => decide (t ≤ x.cyc) && decide (x.addr / 32 ≤ a / 32) &&
      decide (a / 32 < x.addr / 32 + x.marks.length) with
  | some x => x.marks.getD (a / 32 - x.addr / 32) false
  | none => s.poisonAt a

/-- Some unit of the `n` bytes from `a` carries a mark as a read of cycle `t` sees it. -/
def State.marksAt (s : State) (t a n : Nat) : Bool := (List.range ((a % 32 + n + 31) / 32)).any fun k => s.markAt t (a + 32 * k)

/-! ## Where the stores lie -/

def coreBase (c : Nat) : Nat := 0x4000_0000_0000 + c * 0x0200_0000
def coreSize : Nat := 0x0180_0000
def opbBase (n : Nat) : Nat := 0x4100_0000_0000 + (n / 8) * 0x0040_0000 + (n % 8) * 0x0008_0000
def opbRow (n r : Nat) : Nat := opbBase n + 64 * r
def sramBase : Nat := 0x4200_0000_0000
def sramSize : Nat := 0x0200_0000
def brickBase : Nat := 0x4300_0000_0000
def brickSize : Nat := 0x0200_0000
def auxBase : Nat := 0x4300_0200_0000
def auxSize : Nat := 0x0040_0000
def scratchBase : Nat := 0x4400_0000_0000
def scratchSize : Nat := 0x0080_0000
def datumBase : Nat := 0x4500_0000_0000
def datumSize : Nat := 0x0100_0000

/-- R145: the channel of a DDR4 address. -/
def ddrChan (a : Nat) : Nat := (a / 0x10000) % 8

/-- R145: the channel-local address of a DDR4 address. -/
def ddrLocal (a : Nat) : Nat := a % 0x10000 + (a / 0x80000) * 0x10000

/-- R145: the DDR4 address of a channel-local address. -/
def ddrGlobal (ch l : Nat) : Nat := l % 0x10000 + ch * 0x10000 + (l / 0x10000) * 0x80000

/-! ## Free values -/

/-- A fresh free value: what the spec leaves open and the machine goes on from. -/
def State.fresh (s : State) : BitVec 64 × State := (Config.freeValue s.free, { s with free := s.free + 1 })

/-! ## Supply -/

/-- R529, R537: no rail is up. -/
def State.isOff (s : State) : Bool := s.power.supply == .off
/-- R419, R538: the module does not run: it has no power, or S0 is not complete. -/
def State.dark (s : State) : Bool := s.power.supply == .off || s.power.supply == .starting
/-- R449, R455: the rails of the cores, the DDR4 channels, and the sensor and tether ports are not all up. -/
def State.coreDark (s : State) : Bool := s.power.supply != .on

/-! ## Parts of the state -/

def State.engine (s : State) (n : Nat) : Engine := spGet Engine.reset s.engines n
def State.setEngine (s : State) (n : Nat) (e : Engine) : State :=
  { s with engines := spSet Engine.reset s.engines n e }
def State.vec (s : State) (c : Nat) : VecUnit := spGet VecUnit.reset s.vecs c
def State.setVec (s : State) (c : Nat) (v : VecUnit) : State := { s with vecs := spSet VecUnit.reset s.vecs c v }
def State.chan (s : State) (ch : Nat) : DdrChan := spGet DdrChan.reset s.ddr ch
def State.setChan (s : State) (ch : Nat) (d : DdrChan) : State := { s with ddr := spSet DdrChan.reset s.ddr ch d }
def State.lot (s : State) (l : Nat) : Lot := spGet Lot.reset s.stow.lots l
def State.setLot (s : State) (l : Nat) (e : Lot) : State :=
  { s with stow := { s.stow with lots := spSet Lot.reset s.stow.lots l e } }
def State.queue (s : State) (c : Nat) : List Transfer := spGet [] s.stow.queues c
def State.setQueue (s : State) (c : Nat) (q : List Transfer) : State :=
  { s with stow := { s.stow with queues := spSet [] s.stow.queues c q } }
def State.site (s : State) (i : Nat) : FaultSite := spGet FaultSite.reset s.sites i
def State.setSite (s : State) (i : Nat) (f : FaultSite) : State := { s with sites := spSet FaultSite.reset s.sites i f }
def State.lcVal (s : State) (i : Nat) : Nat := spGet 0 s.ridge.lc i
def State.setLc (s : State) (i v : Nat) : State := { s with ridge := { s.ridge with lc := spSet 0 s.ridge.lc i v } }
def State.stream (s : State) : Stream → StreamState
  | .frame => s.ridge.frame
  | .fill => s.ridge.fill
def State.setStream (s : State) (t : Stream) (x : StreamState) : State :=
  match t with
  | .frame => { s with ridge := { s.ridge with frame := x } }
  | .fill => { s with ridge := { s.ridge with fill := x } }
/-- FRAME_STATE or FILL_STATE: 0 stopped, 1 running, 2 faulted, 3 waiting under R37 (Table PL-13). -/
def State.streamState (s : State) : Stream → Nat
  | .frame => s.fld F.PL_STATUS_FRAME_STATE
  | .fill => s.fld F.PL_STATUS_FILL_STATE
def State.setStreamState (s : State) (t : Stream) (v : Nat) : State :=
  match t with
  | .frame => s.setFld F.PL_STATUS_FRAME_STATE 0 v
  | .fill => s.setFld F.PL_STATUS_FILL_STATE 0 v

/-! ## Time -/

/-- R208: the 48-bit frame number. -/
def State.frameNum (s : State) : Nat := s.fld F.SP_FRAME_NUM_NUM

/-- R207: the current frame is unsynced. -/
def State.unsynced (s : State) : Bool := s.flag F.SP_FRAME_STATUS_UNSYNCED

/-- R478: ACLK cycles since FRAME_GO, 0 before it. -/
def State.acyc (s : State) : Nat := match s.ridge.goAt with | none => 0 | some t => s.clk.aclk - t

/-- R488: a bench's ACYC advances, from where its plan starts, in the cycles in which no bench hold is in effect; a reproduced hold
is none. -/
def State.passReplay (s : State) (dt : Nat) : State :=
  match s.book.replay with
  | some r =>
    if s.ridge.goAt.isSome && (s.ridge.hold.isNone || r.reproduced) then
      { s with book := { s.book with replay := some { r with acyc := r.acyc + dt } } }
    else s
  | none => s

/-- `dt` cycles of ACLK pass. PL_STEP counts those since FRAME_GO in which no hold is in effect, PL_HOLD_CYC_k those in which cause k
is. -/
def State.passA (s : State) (dt : Nat) : State :=
  let s := { s with clk := { s.clk with aclk := s.clk.aclk + dt } }
  let s := s.passReplay dt
  let s := if s.ridge.goAt.isSome && s.ridge.hold.isNone then s.count F.PL_STEP_STEP 0 dt else s
  let s := match s.ridge.hold with
    | some h => h.causes.foldl (fun (s : State) (c : HoldCause) => s.count F.PL_HOLD_CYC_CYCLES (c.code - 1) dt) s
    | none => s
  if s.ridge.regWaiting then s.count F.SP_REG_WAIT_CYCLES 0 dt else s

def State.stream' (s : State) (n : Nat) : StreamUnit := spGet StreamUnit.reset s.sensors.streams n
def State.setStream' (s : State) (n : Nat) (u : StreamUnit) : State :=
  { s with sensors := { s.sensors with streams := spSet StreamUnit.reset s.sensors.streams n u } }

/-! ## Hand-offs (R20) -/

/-- The published buffer of a hand-off plus 1, 0 for none. -/
def State.sideAt (s : State) : Handoff → Nat
  | .stream n => (s.stream' n).side
  | .feature k => spGet 0 s.datum.sides k
  | .fused => s.datum.out
  | .out j => spGet 0 s.traverse.out j
  | .lin j => spGet 0 s.traverse.lin j
  | .trajectory => s.stadia.side

def State.setSideAt (s : State) (h : Handoff) (x : Nat) : State :=
  match h with
  | .stream n => s.setStream' n { s.stream' n with side := x }
  | .feature k => { s with datum := { s.datum with sides := spSet 0 s.datum.sides k x } }
  | .fused => { s with datum := { s.datum with out := x } }
  | .out j => { s with traverse := { s.traverse with out := spSet 0 s.traverse.out j x } }
  | .lin j => { s with traverse := { s.traverse with lin := spSet 0 s.traverse.lin j x } }
  | .trajectory => { s with stadia := { s.stadia with side := x } }

/-- The back buffer of a hand-off. -/
def State.backOf (s : State) (h : Handoff) : Nat := if s.sideAt h = 1 then 1 else 0

/-- R20: the back buffer of a hand-off becomes the published one, visible to each consumer in the present cycle of its clock (entry 59). -/
def State.flip (s : State) (h : Handoff) : State :=
  let x : Flip := ⟨s.clk.fclk, s.clk.tclk, s.clk.gclk, s.clk.sclk, s.sideAt h⟩
  ({ s with flips := s.flips.filter (fun y => decide (y.1 ≠ h)) ++ [(h, x)] } : State).setSideAt h (s.backOf h + 1)

/-- R20: the module as a latch sees it: where a hand-off flipped in the latch's own cycle, which `now` tells, the earlier record. -/
def State.asLatched (s : State) (now : Flip → Bool) : State :=
  s.flips.foldl (fun t x => if now x.2 then t.setSideAt x.1 x.2.old else t) s

/-- The module as a latch in FCLK, in TCLK, in GCLK or in SCLK sees it. -/
def State.latchedF (s : State) : State := s.asLatched fun x => x.fclk == s.clk.fclk
def State.latchedT (s : State) : State := s.asLatched fun x => x.tclk == s.clk.tclk
def State.latchedG (s : State) : State := s.asLatched fun x => x.gclk == s.clk.gclk
def State.latchedS (s : State) : State := s.asLatched fun x => x.sclk == s.clk.sclk
def State.inline (s : State) (i : Nat) : Bool := s.fld F.SN_STREAM_B_BUF_UNITS i == 0

/-- R236: bytes of a port's ingest buffer. -/
def ingestSize (n : Nat) : Nat := if n < 8 then 262144 else if n < 12 then 131072 else 8192

/-- R236: bytes in the ingest buffer of port `n` on their way to DDR4: those of ring samples that have not moved. -/
def State.ringWaiting (s : State) (n : Nat) : Nat :=
  s.sensors.streams.foldl (fun b x =>
    if !(s.inline x.1) && s.fld F.SN_STREAM_A_PORT x.1 == n then
      let asm := match x.2.asm with | some g => g.bytes.length | none => 0
      x.2.ready.foldl (fun b g => b + g.bytes.length) (b + asm)
    else b) 0

/-- R236: bytes in the ingest buffer of port `n`. -/
def State.portFill (s : State) (n : Nat) : Nat := spGet 0 s.sensors.fill n + s.ringWaiting n

/-- R236: the port drives its urgency level from the fill of its buffer. -/
def State.setUrgency (s : State) (n : Nat) : State :=
  let x := 16 * s.portFill n / ingestSize n
  s.setFld F.SN_PORT_STATUS_URGENCY n (if s.fld F.SN_PORT_CFG_T3 n ≤ x then 3 else if s.fld F.SN_PORT_CFG_T2 n ≤ x then 2
    else if s.fld F.SN_PORT_CFG_T1 n ≤ x then 1 else 0)

/-- R236: in `dt` cycles of FCLK each ingest buffer drains to the Datum store at 64 bytes a cycle. -/
def State.drainDatum (s : State) (dt : Nat) : State :=
  s.sensors.fill.foldl (fun (s : State) x =>
    ({ s with sensors := { s.sensors with fill := spSet 0 s.sensors.fill x.1 (x.2 - 64 * dt) } } : State).setUrgency x.1) s

def State.tickF (s : State) (dt : Nat) : State := ({ s with clk := { s.clk with fclk := s.clk.fclk + dt } } : State).drainDatum dt
def State.tickM (s : State) (dt : Nat) : State := { s with clk := { s.clk with mclk := s.clk.mclk + dt } }
def State.tickT (s : State) (dt : Nat) : State := { s with clk := { s.clk with tclk := s.clk.tclk + dt } }
def State.tickG (s : State) (dt : Nat) : State := { s with clk := { s.clk with gclk := s.clk.gclk + dt } }
def State.tickS (s : State) (dt : Nat) : State := { s with clk := { s.clk with sclk := s.clk.sclk + dt } }
def State.tickB (s : State) (dt : Nat) : State := { s with clk := { s.clk with bclk := s.clk.bclk + dt } }
def State.portTime (s : State) (n : Nat) : Nat := spGet 0 s.clk.port n
def State.tickP (s : State) (n dt : Nat) : State :=
  { s with clk := { s.clk with port := spSet 0 s.clk.port n (s.portTime n + dt) } }

/-! ## Records, events, faults and the interrupt -/

/-- R478–R481: gives a record to Field Book's merge, while it records. Records leave the merge by rising ACYC, then kind,
then source index, so the merge is kept in that order. -/
def bookBefore (x y : BookRec) : Bool :=
  decide (x.acyc < y.acyc) || (decide (x.acyc = y.acyc) &&
    (decide (x.kind < y.kind) || (decide (x.kind = y.kind) && decide (x.source ≤ y.source))))

def bookInsert (r : BookRec) : List BookRec → List BookRec
  | [] => [r]
  | x :: xs => if bookBefore x r then x :: bookInsert r xs else r :: x :: xs

/-- A record of position `acyc`. In replay the bench also keeps its publications for the comparison of R489. -/
def State.recordAt (s : State) (acyc kind source : Nat) (payload : List Byte) (domain : Nat) : State :=
  let s := match s.book.replay with
    | some r => if kind = 0x11 then { s with book := { s.book with replay := some { r with pubs := r.pubs ++ [payload] } } } else s
    | none => s
  if s.flag F.FB_STATUS_RECORDING then
    { s with book := { s.book with
        merge := bookInsert ⟨acyc, kind, source, s.frameNum, domain, payload⟩ s.book.merge } }
  else s

def State.record (s : State) (kind source : Nat) (payload : List Byte) (domain : Nat := 1) : State :=
  s.recordAt s.acyc kind source payload domain

/-- Payload words of a record, each of eight bytes (the spec names the parts of a payload, not their places: entry 5). -/
def words (xs : List Nat) : List Byte := xs.flatMap fun x => leBytes 8 x

/-- R358: raises a Plumb event. It is counted when it has crossed into SCLK. -/
def State.raise (s : State) (code detail : Nat) : State :=
  ({ s with plumb := { s.plumb with inbox := s.plumb.inbox ++ [(code, detail % 2 ^ 32, false)] } }).record 0x0E 0
    (words [code, detail, 0])

/-- R392: HOST_ATTN follows the enabled causes. Once it has fallen, it stays low until its minimum time has passed. -/
def State.updateAttn (s : State) : State :=
  let v := (s.reg R.TH_ATTN).toNat
  let on := (v % 256) &&& (v / 256 % 256) != 0
  let pin := s.flag F.TH_ATTN_PIN
  if on && !pin && !s.trail.attnHold then s.setFld F.TH_ATTN_PIN 0 1
  else if !on && pin then ({ s with trail := { s.trail with attnHold := true } }).setFld F.TH_ATTN_PIN 0 0
  else s

/-- Sets a cause of TH_ATTN (Table TH-9). -/
def State.attn (s : State) (f : RegField) : State := (s.setFlag f).updateAttn

/-- R491: the sites of Table FB-3 that exist. -/
def siteValid (i : Nat) : Bool :=
  decide (i < 0x50) || (decide (0x50 ≤ i) && decide (i < 0x50 + 88)) || (decide (0xB0 ≤ i) && decide (i < 0xB2)) ||
  (decide (0xB8 ≤ i) && decide (i < 0xB8 + 27)) || (decide (0xE0 ≤ i) && decide (i < 0xE0 + 24)) ||
  (decide (0x100 ≤ i) && decide (i < 0x100 + 144)) || (decide (0x200 ≤ i) && decide (i < 0x200 + 288)) ||
  (decide (0x320 ≤ i) && decide (i ≤ 0x335))

def siteDevice (ch d : Nat) : Nat := 10 * ch + d
def siteLane (ch l : Nat) : Nat := 0x50 + 11 * ch + l
def siteHost (ch : Nat) : Nat := 0xB0 + ch
def siteSensor (n : Nat) : Nat := 0xB8 + n
def siteTether (port lane : Nat) : Nat := 0xE0 + 8 * port + lane
def siteEngine (c p : Nat) : Nat := 0x100 + 9 * c + p
def siteOpb (c p u : Nat) : Nat := 0x200 + 2 * (9 * c + p) + u
def siteCore (c : Nat) : Nat := 0x320 + c

/-- R493: a fault site is declared lasting: the host is told, and the site's chapter acts. -/
def State.declareLasting (s : State) (i : Nat) : State :=
  let s := (s.setSite i { s.site i with lasting := true }).attn F.TH_ATTN_FAULT
  if 0x100 ≤ i ∧ i < 0x100 + 144 then
    -- R80: the event names the logical engine that the physical engine serves, or 128 + core for an idle spare.
    let c := (i - 0x100) / 9
    let e := (List.range 8).find? fun e => s.fld F.PL_ENG_STATUS_PHYS (8 * c + e) == (i - 0x100) % 9
    let s := { s with bring := { s.bring with subs := s.bring.subs ++ [(i, 0)] } }
    s.raise 0x0B (match e with | some e => 8 * c + e | none => 128 + c)
  else if 0xE0 ≤ i ∧ i < 0xE0 + 24 then
    let p := (i - 0xE0) / 8
    s.setFld F.TL_PORT_STAT_LASTING p (putBit (s.fld F.TL_PORT_STAT_LASTING p) ((i - 0xE0) % 8) true)
  else s

/-- R492: a site's count after every leak that has come due by the present cycle of BCLK. -/
def State.leaked (s : State) (f : FaultSite) : FaultSite :=
  let w := s.fld F.FB_FAULT_CFG_WINDOW * 100000000
  let n := min f.count ((s.clk.bclk - f.changed) / w)
  { f with count := f.count - n, changed := f.changed + n * w }

/-- R492: one fault at a site. Leaks that are due in its cycle apply first. -/
def State.faultAt (s : State) (i : Nat) : State :=
  if siteValid i then
    let f := s.leaked (s.site i)
    let c := min 255 (f.count + 1)
    let s := s.setSite i { f with count := c, total := min 65535 (f.total + 1), last := s.frameNum % 2 ^ 32, changed := s.clk.bclk }
    let lasting := !f.lasting && decide (s.fld F.FB_FAULT_CFG_THRESHOLD ≤ c)
    let s := s.record 0x17 i (words [i, c, bit (lasting || f.lasting)]) 7
    if lasting then s.declareLasting i else s
  else s

/-! ## Plan holds -/

/-- R36: the open windows claim core `c`. -/
def State.coreClaimed (s : State) (c : Nat) : Bool := s.ridge.windows.any fun w => hasBit w.cores c
def State.chanClaimed (s : State) (ch : Nat) : Bool := s.ridge.windows.any fun w => hasBit w.chans ch

/-- R39: a plan hold stops issue here. -/
def State.held (s : State) : Bool := s.ridge.hold.isSome

/-- R27: the stream that a core follows. -/
def State.follows (s : State) (c : Nat) : Stream := if s.coreClaimed c then .frame else .fill

/-- R488: in replay a hold of the bench's own is in effect. It stops every core and channel, windows included. -/
def State.benchHold (s : State) : Bool :=
  match s.book.replay with
  | some r => s.held && !r.reproduced
  | none => false

/-- R39, R488: a hold stops core `c`. -/
def State.coreHeld (s : State) (c : Nat) : Bool := s.held && (s.benchHold || !(s.coreClaimed c))

/-- Table MT-2, R190: ACLK cycles from one unit of a transfer within a core to the next: four from an image descriptor in CROP mode. -/
def Transfer.pace (x : Transfer) : Nat :=
  match x.idesc with
  | some d => if B.IDESC_MODE.get d = 2 then 4 else 1
  | none => 1

/-- R122: the units of a transfer within a core whose cycle lies before `t` have come, unless the transfer is paused. `upto` is the cycle of
the next unit. -/
def Transfer.pass (x : Transfer) (paused : Bool) (t : Nat) : Transfer :=
  if paused then { x with upto := if x.due = x.len then x.upto else max x.upto t }
  else
    let n := min (x.len - x.due) ((t - x.upto + x.pace - 1) / x.pace)
    { x with due := x.due + n, upto := x.upto + n * x.pace }

/-- R39: a plan hold pauses transfers; a hold that waits for a SEGMENT_LOAD alone does not pause the load it waits for. -/
def State.pausesMoves (s : State) : Bool :=
  match s.ridge.hold with
  | some h => h.causes.any fun c => c.code != 7
  | none => false

/-- R124: the fabric ports that a transfer needs: the read port of one core store as its number, the write port as 16 and its number. -/
def Transfer.ports (x : Transfer) : List Nat :=
  match x.route with
  | .fabric src dst => src.toList ++ dst.toList.map (16 + ·)
  | _ => []

/-- R124: one FCLK cycle of the fabric: the transfers of `order` in turn, each moving a unit where its ports are still free. -/
def fabricCycle (xs : List Transfer) (order : List Nat) : List Transfer × Option Nat :=
  let step (acc : List Transfer × List Nat × Option Nat) (c : Nat) : List Transfer × List Nat × Option Nat :=
    match acc.1.find? (fun x => x.core == c) with
    | some x =>
      if x.due < x.len ∧ (x.ports.all fun p => !(acc.2.1.contains p)) = true then
        (acc.1.map fun y => if y.core = c then { y with due := y.due + 1 } else y, x.ports ++ acc.2.1, some c)
      else acc
    | none => acc
  let r := order.foldl step (xs, [], none)
  (r.1, r.2.2)

/-- R124: up to `n` FCLK cycles of the fabric; a core after the one served last comes first. -/
def fabricRun : Nat → List Transfer → Nat → List Transfer × Nat
  | 0, xs, served => (xs, served)
  | n + 1, xs, served =>
    match fabricCycle xs ((List.range 16).map fun i => (served + 1 + i) % 16) with
    | (xs, some c) => fabricRun n xs c
    | (xs, none) => (xs, served)

/-- R122, R124: counts the units of the running transfers whose cycles have come, up to ACLK cycle `t` and the present FCLK cycle. -/
def State.countMoves (s : State) (t : Nat) : State :=
  let paused (c : Nat) : Bool := s.pausesMoves && s.coreHeld c
  let heads := s.stow.queues.filterMap fun q => q.2.head?
  let fab := heads.filter fun x => (match x.route with | .fabric _ _ => true | _ => false) && !(paused x.core)
  let since := fab.foldl (fun m x => min m x.upto) s.clk.fclk
  let left := fab.foldl (fun m x => m + (x.len - x.due)) 0
  let (fab, served) := fabricRun (min left (s.clk.fclk - since)) fab s.stow.served
  let fix (x : Transfer) : Transfer :=
    match x.route with
    | .inCore => x.pass (paused x.core) t
    | .fabric _ _ => { (fab.find? fun y => y.core == x.core).getD x with upto := s.clk.fclk }
    | .ddr => x
  { s with stow := { s.stow with
      served := served
      queues := s.stow.queues.map fun q => (q.1, match q.2 with | [] => [] | x :: rest => fix x :: rest) } }

/-- One REF, or as many as `n`, is issued on a channel (R35). -/
def State.refresh (s : State) (ch n : Nat) : State :=
  let d := s.chan ch
  s.setChan ch { d with debt := d.debt - n }

/-- R35: the REF commands that a controller issues in the hold in effect by cycle `t`, on a channel that no window claims: one at
once, and each further one tRFC, 687.5 ACLK cycles, after the last. -/
def State.holdRef (s : State) (ch t : Nat) : State :=
  match s.ridge.hold with
  | none => s
  | some h =>
    let d := s.chan ch
    let start := max d.refAt (2 * h.start)
    let n := if s.chanClaimed ch then 0 else min d.debt ((2 * t - start + 1374) / 1375)
    if n = 0 then s else s.setChan ch { d with debt := d.debt - n, refAt := start + 1375 * n }

def State.holdRefs (s : State) (t : Nat) : State := (List.range 8).foldl (fun s ch => s.holdRef ch t) s

/-- R34: a slot word joins its channel's queue. -/
def State.queueSlot (s : State) (ch word : Nat) : State :=
  if B.SLOT_DOP.get word = 0 then s
  else
    let d := s.chan ch
    let w : SlotRun := ⟨B.SLOT_DOP.get word, B.SLOT_CORE.get word, B.SLOT_CLASS.get word, B.SLOT_PART.get word,
      B.SLOT_MCYC.get word, if d.slots.isEmpty then some s.clk.mclk else none, s.chanClaimed ch⟩
    s.setChan ch { d with slots := d.slots ++ [w] }

/-- R34, R36, R39: slot words that issued in a hold take their places once it is over, as places come free. -/
def State.placeHeld (s : State) : State :=
  if s.held then s
  else
    let (s, rest) := s.ridge.heldSlots.foldl (fun (acc : State × List (Nat × Nat)) x =>
      if (acc.1.chan x.1).slots.length < 4 && !(acc.2.any fun y => y.1 == x.1) then (acc.1.queueSlot x.1 x.2, acc.2)
      else (acc.1, acc.2 ++ [x])) (s, [])
    { s with ridge := { s.ridge with heldSlots := rest } }

/-- R42: raises a cause of a plan hold. The first cause of an event is the one its log entry names. -/
def State.raiseHold (s : State) (code : Nat) (due : Option Nat) : State :=
  let now := s.clk.aclk
  let c : HoldCause := ⟨code, now, due⟩
  let s := s.countMoves now
  match s.ridge.hold with
  | none =>
    let h : Hold := ⟨code, 2 ^ (code - 1), now, s.fld F.PL_STEP_STEP % 2 ^ 32, [c]⟩
    let s := { s with ridge := { s.ridge with hold := some h } }
    (s.setFld F.PL_STATUS_HOLDING 0 1).setFld F.PL_STATUS_HOLD_CAUSE 0 code
  | some h =>
    let merged := if h.causes.any (·.code == code)
      then h.causes.map (fun x => if x.code == code then ⟨x.code, x.start, due⟩ else x)
      else h.causes ++ [c]
    { s with ridge := { s.ridge with hold := some { h with mask := putBit h.mask (code - 1) true, causes := merged } } }

/-- R42: a cause clears, and the last cause ends the hold, which is logged and recorded. -/
def State.clearHold (s : State) (code : Nat) : State :=
  match s.ridge.hold with
  | none => s
  | some h =>
    let now := s.clk.aclk
    if h.causes.any (·.code == code) then
      let rest := h.causes.filter (·.code != code)
      let s := (s.countMoves now).holdRefs now
      if rest.isEmpty then
        let len := min 262143 (now - h.start)
        let e : Nat := h.first + h.mask * 16 + 2 ^ 12 + len * 2 ^ 14 + h.startStep * 2 ^ 32
        let full := decide (64 ≤ s.ridge.holdLog.length)
        let s := { s with ridge := { s.ridge with
          hold := none
          holdLog := if full then s.ridge.holdLog else s.ridge.holdLog ++ [BitVec.ofNat 64 e]
          holdLost := s.ridge.holdLost || full } }
        -- The streams issue again from this cycle on.
        let r := s.ridge
        let s := { s with ridge := { r with
          frame := { r.frame with freeAt := max r.frame.freeAt now }
          fill := { r.fill with freeAt := max r.fill.freeAt now } } }
        let s := (s.setFld F.PL_STATUS_HOLDING 0 0).setFld F.PL_STATUS_HOLD_CAUSE 0 0
        let s := match s.book.replay with
          | some r => { s with book := { s.book with replay := some { r with reproduced := false } } }
          | none => s
        -- R478: the position of a hold is that of its start.
        let a := match s.ridge.goAt with | some g => h.start - g | none => 0
        (s.recordAt a 0x0A 0 (words [e, now - h.start, a]) 1).placeHeld
      else { s with ridge := { s.ridge with hold := some { h with causes := rest } } }
    else s

/-! ## Partitions of memory -/

/-- First lot of the plan region in every core (R118). -/
def State.planLot (s : State) : Nat := 384 - s.fld F.PL_CONFIG_PLAN_SIZE

/-- R118: the pool lot or plan lot of a core-store address. -/
def lotOf (a : Nat) : Nat := 384 * ((a - coreBase 0) / 0x0200_0000) + (a - coreBase 0) % 0x0200_0000 / 0x10000
def lotAddr (l : Nat) : Nat := coreBase (l / 384) + (l % 384) * 0x10000
def inCoreStore (a : Nat) : Bool :=
  decide (coreBase 0 ≤ a) && decide (a < coreBase 16) && decide ((a - coreBase 0) % 0x0200_0000 < coreSize)
def inOpb (a : Nat) : Bool := decide (opbBase 0 ≤ a) && decide (a < opbBase 0 + 0x0400_0000)

/-- The engine and row of an operand-buffer address. -/
def opbEngine (a : Nat) : Nat := (a - opbBase 0) / 0x0008_0000
def opbRowOf (a : Nat) : Nat := (a - opbBase 0) % 0x0008_0000 / 64

/-- R119: the partition whose share holds lot `k` of core `c`. -/
def State.shareOf (s : State) (c k : Nat) : Option Nat :=
  (List.range 8).find? fun p =>
    let b := s.fld F.MT_SHARE_BASE (8 * c + p)
    decide (b ≤ k) && decide (k < b + s.fld F.MT_SHARE_COUNT (8 * c + p))

/-- R217: the region in force that holds a DDR4 address: its owner and its read mask. -/
def State.regionOf (s : State) (a : Nat) : Option (Nat × Nat) :=
  (List.range 32).findSome? fun i =>
    let v := spGet 0 s.sched.regions i
    let base := F.SP_REGION_BASE.get v
    if base ≤ a / 0x0400_0000 ∧ a / 0x0400_0000 < base + F.SP_REGION_COUNT.get v
    then some (i / 4, F.SP_REGION_RD_MASK.get v) else none

/-- R120: the tag of an operand-buffer row. -/
def State.opbTag (s : State) (n r : Nat) : Nat :=
  let h := 2 * (n % 8) + r / 4096
  s.fld F.MT_OPB_TAG_TAG (n / 8) / 2 ^ (3 * h) % 8

/-- What the fabric's tag check finds at an address (Table SP-5). -/
inductive Tag where
  /-- The address belongs to a partition; the mask names further partitions that may read it. -/
  | part (p rd : Nat)
  /-- The address lies in a plan region (R92). -/
  | plan
  /-- The address is unassigned, or no store lies there. -/
  | unassigned
deriving DecidableEq, Repr

/-- R216: the partition tag of an address of a store. Window SRAM blocks carry the partition of the mapping that holds
them; `sramPart` of the host port gives it. -/
def State.sramPart (s : State) (a : Nat) : Option Nat :=
  let b := (a - sramBase) / 0x10000
  let staged := (List.range 128).findSome? fun i =>
    let first := s.fld F.TH_STREAM_STAGE_FIRST i
    let live := s.flag F.TH_STREAM_OPEN i || (spGet WStream.reset s.trail.streams i).closing.isSome
    if live && decide (first ≤ b) && decide (b < first + s.fld F.TH_STREAM_STAGE_BLOCKS i)
    then some (s.fld F.TH_STREAM_PART i) else none
  if staged.isSome then staged else (List.range 2).findSome? fun ch =>
    (spKeep (fun k => decide (R.TH_WMAP.key (16384 * ch) ≤ k) && decide (k < R.TH_WMAP.key (16384 * ch + 16384))) s.regs).findSome?
      fun e => if F.TH_WMAP_VALID.get e.2 = 1 ∧ F.TH_WMAP_BLOCK.get e.2 = b then some (F.TH_WMAP_PART.get e.2) else none

def State.tagOf (s : State) (a : Nat) : Tag :=
  if a < ddrSize then
    match s.regionOf a with
    | some (p, rd) => .part p rd
    | none => .unassigned
  else if inCoreStore a then
    let l := lotOf a
    if s.planLot ≤ l % 384 then .plan
    else match s.shareOf (l / 384) (l % 384) with
      | some p => if hasBit (s.fld F.MT_CTRL_DEMAND) p then .unassigned else .part p 0 -- R130
      | none => .unassigned
  else if inOpb a then .part (s.opbTag (opbEngine a) (opbRowOf a)) 0
  else if sramBase ≤ a ∧ a < sramBase + sramSize then
    match s.sramPart a with
    | some p => .part p 0
    | none => .unassigned
  else if (brickBase ≤ a ∧ a < auxBase + auxSize) ∨ (scratchBase ≤ a ∧ a < scratchBase + scratchSize) ∨
      (datumBase ≤ a ∧ a < datumBase + datumSize) then .part 1 0
  else .unassigned

/-- R33, R217: partition `p` may read the address. -/
def Tag.reads (t : Tag) (p : Nat) : Bool := match t with | .part q rd => q == p || hasBit rd p | _ => false
/-- R33, R217: partition `p` may write the address. -/
def Tag.writes (t : Tag) (p : Nat) : Bool := match t with | .part q _ => q == p | _ => false

/-- The unit block whose store holds an address, as the detail of an isolation event names it (entry 12). -/
def blockOf (a : Nat) : Nat :=
  if a < ddrSize then 0x03 else if inCoreStore a || inOpb a then 0x02
  else if sramBase ≤ a ∧ a < sramBase + sramSize then 0x0B
  else if brickBase ≤ a ∧ a < auxBase + auxSize then 0x09
  else if scratchBase ≤ a ∧ a < scratchBase + scratchSize then 0x07
  else if datumBase ≤ a ∧ a < datumBase + datumSize then 0x06 else 0

/-- R33, R359: a violation by partition `p` at an address of tag `t` raises ISOLATION, or ISOLATION_PROT for P0 and P1. -/
def State.violationOf (s : State) (p t a : Nat) : State := s.raise (if p < 2 then 0x1C else 0x01) (p + 8 * t + 64 * blockOf a)

/-- R33, R359: a violation by partition `p` at an address of a store. -/
def State.violation (s : State) (p a : Nat) : State := s.violationOf p (match s.tagOf a with | .part q _ => q | _ => 0) a

/-! ## Condition registers -/

/-- R45: the value of a condition register that a branch evaluated in ACLK cycle `t` sees: a write that became visible in that cycle or
later is not seen. -/
def State.condAt (s : State) (n t : Nat) : Nat :=
  match (s.ridge.condOld.filter fun x => x.reg == n && decide (t ≤ x.cyc)).getLast? with
  | some x => x.old
  | none => s.fld F.PL_COND_VALUE n

/-- The first cycle in which a branch may still be evaluated: running streams evaluate none before the cycle they stand at. -/
def State.condFloor (s : State) : Nat :=
  let f := if s.fld F.PL_STATUS_FRAME_STATE % 2 = 1 then min s.clk.aclk s.ridge.frame.freeAt else s.clk.aclk
  if s.fld F.PL_STATUS_FILL_STATE % 2 = 1 then min f s.ridge.fill.freeAt else f

/-- R45: a condition write becomes visible in ACLK cycle `t`: branches of later cycles see it, and Field Book records it. -/
def State.condShow (s : State) (n v t : Nat) : State :=
  let s := { s with ridge := { s.ridge with
    condOld := ⟨n, t, s.fld F.PL_COND_VALUE n⟩ :: s.ridge.condOld.filter fun x => decide (s.condFloor ≤ x.cyc) } }
  (s.setFld F.PL_COND_VALUE n v).record 0x09 n (words [n, v % 2 ^ 32, s.fld F.PL_STEP_STEP])

/-- R45: a condition write made in ACLK cycle `t` itself. In replay the recorded writes stand in its place (R488). -/
def State.condIn (s : State) (n v t : Nat) : State := if s.flag F.FB_STATUS_REPLAYING then s else s.condShow n v t

/-- R45: a condition write made in the present ACLK cycle. -/
def State.condNow (s : State) (n v : Nat) : State := s.condIn n v s.clk.aclk

/-- R45: a condition write from another domain. It becomes visible later; the REG_WRITE that made it completes then. -/
def State.condWrite (s : State) (n v : Nat) (done : Option (Nat × Desc) := none) : State :=
  { s with ridge := { s.ridge with condPend := s.ridge.condPend ++ [⟨n, v % 2 ^ 32, done⟩] } }

/-! ## DDR4 lines and classes -/

/-- R443: `n` more units of activity of a kind (0 issued engine cycles, 1 vector lanes, 2 iterations performed under R96, 3 transfer units,
4 DDR4 lines, 5 port bytes), caused by a slice or slot of `part`. -/
def State.worked (s : State) (kind part n : Nat) : State :=
  let k := 8 * kind + part % 8
  { s with power := { s.power with activity := spSet 0 s.power.activity k (spGet 0 s.power.activity k + n) } }

/-- R219, R443: lines moved in a class, for work of `part`. -/
def State.classLines (s : State) (part k n : Nat) : State :=
  let s := (s.count F.SP_CLASS_LINES_LINES k n).worked 4 part n
  { s with sched := { s.sched with frameLines := spSet 0 s.sched.frameLines k (spGet 0 s.sched.frameLines k + n) } }

/-- The 64-byte lines that `n` bytes from `a` touch. -/
def linesOf (a n : Nat) : Nat := (a % 64 + n + 63) / 64

end Sys2Proof.Machine
end

