-- ==== Sys2Proof/Machine/Flags.lean ====
section
/-! DEFINITION. Flags: the sticky flags of the vector units (Table NF-7), of the engines (Table EA-5) and of Stow (Table MT-9),
and what setting one of them raises and records; and the vector writes, which set one of them at a clash. -/

namespace Sys2Proof.Machine

def flINVALID : Nat := 2 ^ 0
def flDIV_ZERO : Nat := 2 ^ 1
def flOVERFLOW : Nat := 2 ^ 2
def flUNDERFLOW : Nat := 2 ^ 3
def flINEXACT : Nat := 2 ^ 4
def flINT_DIV0 : Nat := 2 ^ 5
def flINT_OVF : Nat := 2 ^ 6
def flSAT : Nat := 2 ^ 7
def flNAN_IN : Nat := 2 ^ 8
def flPLAN_REGION : Nat := 2 ^ 9
def flWRITE_CLASH : Nat := 2 ^ 10

/-- The vector flags whose raising by a slice of P0 or P1 is a Plumb event (R112). -/
def vecEventFlags : List Nat := [0, 5, 6, 7, 9, 10]

/-- R85, R112: sets sticky vector flags of core `c`. `fl` is a mask of Table NF-7 bits 0–10. -/
def State.vecFlags (s : State) (c part slot fl : Nat) : State :=
  if fl = 0 then s
  else
    let old := (s.reg R.PL_VEC_STATUS c).toNat
    let s := s.setReg R.PL_VEC_STATUS c (BitVec.ofNat 64 (old ||| fl))
    let s := (s.setFld F.PL_VEC_STATUS_LAST_PART c part).setFld F.PL_VEC_STATUS_LAST_SLOT c slot
    (bitsOf 11 fl).foldl (fun s b =>
      let s := if part < 2 && vecEventFlags.contains b then s.raise 0x06 (c + 256 * b) else s
      if hasBit old b then s else s.record 0x0C (0x100 + c) (words [1, c, b, part, slot, s.fld F.PL_STEP_STEP])) s

/-- R81: sets a flag of PL_ENG_STATUS, bit 16–22; `event` says that it raises a Plumb event for P0 and P1. -/
def State.engFlag (s : State) (n part slot bit : Nat) (event : Bool) : State :=
  let s := s.setReg R.PL_ENG_STATUS n (s.reg R.PL_ENG_STATUS n ||| (BitVec.ofNat 64 (2 ^ bit)))
  let s := if event && decide (part < 2) then s.raise 0x05 (n + 256 * bit) else s
  s.record 0x0C n (words [0, n, bit, part, slot, s.fld F.PL_STEP_STEP])

/-- R123, R125, R140: sets XQ_FULL or EARLY_READ of MT_STATUS. -/
def State.stowFlag (s : State) (f : RegField) (code c part slot : Nat) : State :=
  let s := ((s.setFlag f).setFld F.MT_STATUS_LAST_CORE 0 c).setFld F.MT_STATUS_LAST_PART 0 part
  let s := if part < 2 then s.raise 0x07 (c + 256 * code) else s
  s.record 0x0C (0x200 + c) (words [2, c, code, part, slot, s.fld F.PL_STEP_STEP])

/-! ## Vector writes -/

/-- R107: a counter of the histogram counts one element; it saturates. -/
def histAdd (h : List (Nat × Nat)) (b : Nat) : List (Nat × Nat) := spSet 0 h b (min (2 ^ 32 - 1) (spGet 0 h b + 1))

/-- R91, R107, R109, R111: a vector result becomes visible. A transfer's write of the same cycle to the same unit stands, and the elements of
the unit are then not written. Elements of an earlier run count into the saved counters too. -/
def State.settleWrite (s : State) (c : Nat) (w : VecWrite) : State :=
  if s.clashes (w.cyc - 1) w.addr 32 (· == .transfer) then s.vecFlags c w.part w.slot flWRITE_CLASH
  else
    let s := (s.noteEdge (w.cyc - 1) (.vector w.part w.slot) w.addr w.bytes.length).wrMarked w.addr w.bytes w.poison
    let v := s.vec c
    s.setVec c { v with
      hist := w.bins.foldl histAdd v.hist
      histSaved := if w.run then v.histSaved else w.bins.foldl histAdd v.histSaved }

/-- Moves vector results that have become visible by cycle `t` into the core store (R91). -/
def State.settleVec (s : State) (c t : Nat) : State :=
  let v := s.vec c
  let due := v.pend.filter fun w => decide (w.cyc ≤ t)
  if due.isEmpty then s
  else due.foldl (fun s w => s.settleWrite c w) (s.setVec c { v with pend := v.pend.filter fun w => decide (t < w.cyc) })

/-- Vector results that are visible by now are in the core stores. -/
def State.settleAll (s : State) : State := (List.range 16).foldl (fun s c => s.settleVec c s.clk.aclk) s

/-- `dt` cycles of ACLK pass, and vector results that have become visible move. -/
def State.tickA (s : State) (dt : Nat) : State := (s.passA dt).settleAll

end Sys2Proof.Machine
end

