-- ==== Sys2Proof/Machine/Operands.lean ====
section
/-! DEFINITION. Operand forms: the number formats of Tables NF-1 and NF-2, their exact values, and the one rounding of R84. -/

namespace Sys2Proof.Machine

/-- A floating-point format: exponent bits, fraction bits, and whether it has infinities (Table NF-2). -/
structure FloatFmt where
  eb   : Nat
  mb   : Nat
  bias : Nat
  inf  : Bool
deriving DecidableEq, Repr

def fp32 : FloatFmt := ⟨8, 23, 127, true⟩
def fp16 : FloatFmt := ⟨5, 10, 15, true⟩
def bf16 : FloatFmt := ⟨8, 7, 127, true⟩
def e4m3 : FloatFmt := ⟨4, 3, 7, false⟩
def e5m2 : FloatFmt := ⟨5, 2, 15, true⟩

def FloatFmt.width (f : FloatFmt) : Nat := 1 + f.eb + f.mb
def FloatFmt.signBit (f : FloatFmt) (neg : Bool) : Nat := if neg then 2 ^ (f.eb + f.mb) else 0
/-- The magnitude of infinity; meaningful in a format that has one. -/
def FloatFmt.infBits (f : FloatFmt) : Nat := (2 ^ f.eb - 1) * 2 ^ f.mb
/-- The magnitude of the largest finite value (Table NF-2). -/
def FloatFmt.maxBits (f : FloatFmt) : Nat := if f.inf then f.infBits - 1 else 2 ^ (f.eb + f.mb) - 2
/-- Default NaN (Table NF-2). -/
def FloatFmt.nanBits (f : FloatFmt) : Nat := if f.inf then f.infBits + 2 ^ (f.mb - 1) else 2 ^ (f.eb + f.mb) - 1
/-- Exponent of the smallest normal value. -/
def FloatFmt.emin (f : FloatFmt) : Int := 1 - (f.bias : Int)

/-- What a floating-point encoding stands for: a NaN with its fraction bits aligned to the top of 23 bits, an infinity, or
an exact value `± m × 2^e`. -/
inductive FVal where
  | nan (neg : Bool) (payload : Nat)
  | inf (neg : Bool)
  | fin (neg : Bool) (m : Nat) (e : Int)
deriving DecidableEq, Repr

/-- R83: the value of an encoding. -/
def FloatFmt.decode (f : FloatFmt) (bits : Nat) : FVal :=
  let x := bits % 2 ^ f.width
  let neg := hasBit x (f.eb + f.mb)
  let mag := x % 2 ^ (f.eb + f.mb)
  let ex := mag / 2 ^ f.mb
  let fr := mag % 2 ^ f.mb
  if f.inf then
    if ex = 2 ^ f.eb - 1 then (if fr = 0 then .inf neg else .nan neg (fr * 2 ^ (23 - f.mb)))
    else if ex = 0 then .fin neg fr (f.emin - f.mb) else .fin neg (2 ^ f.mb + fr) (f.emin - f.mb + ex - 1)
  else if mag = 2 ^ (f.eb + f.mb) - 1 then .nan neg (fr * 2 ^ (23 - f.mb))
  else if ex = 0 then .fin neg fr (f.emin - f.mb) else .fin neg (2 ^ f.mb + fr) (f.emin - f.mb + ex - 1)

def FVal.isNan : FVal → Bool | .nan _ _ => true | _ => false
def FVal.isInf : FVal → Bool | .inf _ => true | _ => false
def FVal.neg : FVal → Bool | .nan n _ => n | .inf n => n | .fin n _ _ => n
def FVal.isZero : FVal → Bool | .fin _ m _ => m == 0 | _ => false
/-- R86: a signalling NaN has the most significant fraction bit clear. -/
def FVal.isSnan : FVal → Bool | .nan _ p => !hasBit p 22 | _ => false
def FVal.negate : FVal → FVal | .nan n p => .nan n p | .inf n => .inf (!n) | .fin n m e => .fin (!n) m e

/-- R86: the quiet NaN of `f` with the sign and payload of a NaN operand: the payload bits that fit, quiet bit set. -/
def FloatFmt.quiet (f : FloatFmt) (neg : Bool) (payload : Nat) : Nat :=
  if f.inf then
    let p := (payload ||| 2 ^ 22) / 2 ^ (23 - f.mb)
    f.signBit neg + f.infBits + p
  else f.signBit neg + f.nanBits

/-- `m / 2^k` rounded to nearest, ties to even. -/
def rneShift (m k : Nat) : Nat :=
  let q := m / 2 ^ k
  let r := m % 2 ^ k
  if 2 * r > 2 ^ k then q + 1 else if 2 * r = 2 ^ k ∧ 0 < k then q + q % 2 else q

/-- `m × 2^e` rounded to a multiple of `2^q`, ties to even, in units of `2^q`. -/
def rneTo (m : Nat) (e q : Int) : Nat :=
  if q ≤ e then m * 2 ^ (e - q).toNat else rneShift m (q - e).toNat

/-- `m × 2^e` is a multiple of `2^q`. -/
def exactTo (m : Nat) (e q : Int) : Bool := q ≤ e || m % 2 ^ (q - e).toNat == 0

/-- How far above and below one a value is: floor of its base-2 logarithm; `m` is not 0. -/
def ilog (m : Nat) (e : Int) : Int := (Nat.log2 m : Int) + e

/-- R84: the exact value `± m × 2^e` rounded once, to nearest with ties to even, with the flags of R85. A value beyond the
format gives the magnitude `top` and the flags `topFlags`. -/
def FloatFmt.roundWith (f : FloatFmt) (top topFlags : Nat) (neg : Bool) (m : Nat) (e : Int) : Nat × Nat :=
  if m = 0 then (f.signBit neg, 0)
  else
    let E := ilog m e
    let q := max (E - f.mb) (f.emin - f.mb)
    let k := rneTo m e q
    let exact := exactTo m e q
    let mag := ((q - (f.emin - f.mb)).toNat) * 2 ^ f.mb + k
    let mag := if k = 0 then 0 else mag
    if f.maxBits < mag then (f.signBit neg + top, topFlags)
    else
      -- Tininess after rounding: the value rounded with an unbounded exponent lies below the smallest normal.
      let k' := rneTo m e (E - f.mb)
      let tiny := decide (E < f.emin) && !(decide (E = f.emin - 1) && decide (k' = 2 ^ (f.mb + 1)))
      (f.signBit neg + mag, if exact then 0 else if tiny then flINEXACT ||| flUNDERFLOW else flINEXACT)

/-- R84, R85: rounding where overflow gives the signed infinity. -/
def FloatFmt.round (f : FloatFmt) (neg : Bool) (m : Nat) (e : Int) : Nat × Nat :=
  f.roundWith f.infBits (flOVERFLOW ||| flINEXACT) neg m e

/-- An exact value as a signed multiple of `2^e`. -/
def signedInt (neg : Bool) (m : Nat) : Int := if neg then -(m : Int) else m

/-- The exact sum of dyadic values, as an integer multiple of the least exponent. -/
def dyadicSum : List (Int × Int) → Int × Int
  | [] => (0, 0)
  | [(m, e)] => (m, e)
  | (m, e) :: rest =>
    let (m', e') := dyadicSum rest
    if e ≤ e' then (m + m' * 2 ^ (e' - e).toNat, e) else (m * 2 ^ (e - e').toNat + m', e')

/-- R84: a signed dyadic value rounded; `zeroNeg` is the sign of an exact zero. -/
def FloatFmt.roundInt (f : FloatFmt) (zeroNeg : Bool) (v : Int × Int) : Nat × Nat :=
  if v.1 = 0 then (f.signBit zeroNeg, 0) else f.round (decide (v.1 < 0)) v.1.natAbs v.2

/-- R86: the flags of the NaN operands of an operation. -/
def nanFlags (xs : List FVal) : Nat :=
  (if xs.any FVal.isNan then flNAN_IN else 0) ||| (if xs.any FVal.isSnan then flINVALID else 0)

/-- R86, R87: the result with `f` when an operand is a NaN, in operand order; otherwise `k`. -/
def FloatFmt.withNans (f : FloatFmt) (xs : List FVal) (k : Nat × Nat) : Nat × Nat :=
  match xs.find? FVal.isNan with
  | some (.nan n p) => (f.quiet n p, nanFlags xs)
  | _ => k

/-- R87: the default NaN and INVALID. -/
def FloatFmt.invalid (f : FloatFmt) : Nat × Nat := (f.nanBits, flINVALID)

/-- The product of two values that are not NaN: none for 0 × ∞. -/
def FVal.mul (a b : FVal) : Option FVal :=
  match a, b with
  | .fin n m e, .fin n' m' e' => some (.fin (n != n') (m * m') (e + e'))
  | .inf n, .inf n' => some (.inf (n != n'))
  | .inf n, .fin n' m _ => if m = 0 then none else some (.inf (n != n'))
  | .fin n m _, .inf n' => if m = 0 then none else some (.inf (n != n'))
  | _, _ => none

/-- R84, R87: the sum of values that are not NaN, rounded once: ∞ − ∞ is invalid, and an exact zero is −0 only when every term
is −0. -/
def FloatFmt.sum (f : FloatFmt) (xs : List FVal) : Nat × Nat :=
  let infs := xs.filter FVal.isInf
  match infs with
  | [] =>
    let terms := xs.map fun x => match x with | .fin n m e => (signedInt n m, e) | _ => (0, 0)
    f.roundInt (xs.all fun x => x.isZero && x.neg) (dyadicSum terms)
  | x :: _ => if infs.all (fun y => y.neg == x.neg) then (f.signBit x.neg + f.infBits, 0) else f.invalid

/-- R84–R87: the fused sum of products and an addend; operand order for NaNs is a₀, b₀, a₁, b₁ …, addend last. -/
def FloatFmt.dot (f : FloatFmt) (ps : List (FVal × FVal)) (d : FVal) : Nat × Nat :=
  let ops := ps.flatMap (fun p => [p.1, p.2]) ++ [d]
  f.withNans ops <|
    let prods := ps.map fun p => p.1.mul p.2
    if prods.any Option.isNone then f.invalid
    else f.sum (prods.filterMap id ++ [d])

/-- Exact comparison of two values that are not NaN: a < b. −0 and +0 are equal. -/
def FVal.lt (a b : FVal) : Bool :=
  match a, b with
  | .inf n, .inf n' => n && !n'
  | .inf n, .fin _ _ _ => n
  | .fin _ _ _, .inf n' => !n'
  | .fin n m e, .fin n' m' e' =>
    let (d, _) := dyadicSum [(signedInt n m, e), (-(signedInt n' m'), e')]
    decide (d < 0)
  | _, _ => false

/-- Exact equality of two values that are not NaN. -/
def FVal.eqv (a b : FVal) : Bool := !a.isNan && !b.isNan && !a.lt b && !b.lt a

/-- A quotient rounded once (R84): `n/d` with both positive, as a dyadic value with a sticky last bit. -/
def quotDyadic (n d : Nat) (bits : Nat) : Nat × Int :=
  let k := bits + Nat.log2 d + 2
  let q := n * 2 ^ k / d
  (2 * q + (if n * 2 ^ k % d = 0 then 0 else 1), -(k : Int) - 1)

/-- R84: a / b rounded once. 0 / 0 and ∞ / ∞ are invalid; a finite nonzero value over 0 is a signed infinity. -/
def FloatFmt.div (f : FloatFmt) (a b : FVal) : Nat × Nat :=
  f.withNans [a, b] <|
    match a, b with
    | .fin n m e, .fin n' m' e' =>
      if m' = 0 then (if m = 0 then f.invalid else (f.signBit (n != n') + f.infBits, flDIV_ZERO))
      else if m = 0 then (f.signBit (n != n'), 0)
      else
        let (q, x) := quotDyadic m m' (f.mb + 40)
        f.round (n != n') q (x + e - e')
    | .inf n, .fin n' _ _ => (f.signBit (n != n') + f.infBits, 0)
    | .fin n _ _, .inf n' => (f.signBit (n != n'), 0)
    | _, _ => f.invalid

/-- Binary32 arithmetic on encodings, without flags: the form in which Datum, Stadia and Plumb use it. -/
def f32 (x : Nat) : FVal := fp32.decode x
def fAdd (a b : Nat) : Nat := (fp32.withNans [f32 a, f32 b] (fp32.sum [f32 a, f32 b])).1
def fSub (a b : Nat) : Nat := (fp32.withNans [f32 a, f32 b] (fp32.sum [f32 a, (f32 b).negate])).1
def fMul (a b : Nat) : Nat := (fp32.withNans [f32 a, f32 b]
  (match (f32 a).mul (f32 b) with | some (.fin n m e) => fp32.round n m e | some (.inf n) => (fp32.signBit n + fp32.infBits, 0) | _ => fp32.invalid)).1
def fDiv (a b : Nat) : Nat := (fp32.div (f32 a) (f32 b)).1
def fFma (a b d : Nat) : Nat := (fp32.dot [(f32 a, f32 b)] (f32 d)).1
def fLt (a b : Nat) : Bool := !(f32 a).isNan && !(f32 b).isNan && (f32 a).lt (f32 b)
def fFinite (a : Nat) : Bool := match f32 a with | .fin _ _ _ => true | _ => false
def fZero (a : Nat) : Bool := (f32 a).isZero
def fNeg (a : Nat) : Nat := if hasBit a 31 then a - 2 ^ 31 else a + 2 ^ 31
def fOfInt (x : Int) : Nat := (fp32.roundInt false (x, 0)).1
/-- An integer times a power of two, rounded once. -/
def fOfScaled (x : Int) (e : Int) : Nat := (fp32.roundInt false (x, e)).1
/-- The square root of a finite value not below zero, rounded once (R84). -/
def fSqrt (a : Nat) : Nat :=
  match f32 a with
  | .fin n m e =>
    if m = 0 then a else if n then fp32.nanBits else
      -- m × 2^e = M × 2^(2h), with M large enough that its integer root carries more than 24 bits.
      let odd := (e % 2).toNat
      let k : Nat := 40
      let M := m * 2 ^ (odd + 2 * k)
      let r := Nat.sqrt M
      (fp32.round false (2 * r + (if r * r = M then 0 else 1)) ((e - odd) / 2 - k - 1)).1
  | .inf n => if n then fp32.nanBits else a
  | .nan n p => fp32.quiet n p

/-! ## Integers rounded from exact values -/

/-- The three roundings of R89. -/
inductive IntRound where
  | nearest
  | zero
  | floor
deriving DecidableEq, Repr

/-- `± m × 2^e` as an integer (R89), and whether it was exact. -/
def roundToInt (r : IntRound) (neg : Bool) (m : Nat) (e : Int) : Int × Bool :=
  if 0 ≤ e then (signedInt neg (m * 2 ^ e.toNat), true)
  else
    let k := (-e).toNat
    let exact := m % 2 ^ k == 0
    let q := match r with
      | .nearest => rneShift m k
      | .zero => m / 2 ^ k
      | .floor => if neg && !exact then m / 2 ^ k + 1 else m / 2 ^ k
    (signedInt neg q, exact)

/-- Clamps an integer to a range; the flag says that it lay outside. -/
def clampInt (lo hi x : Int) : Int × Bool := if x < lo then (lo, true) else if hi < x then (hi, true) else (x, false)

/-! ## Vector formats (Table NF-1) -/

def fmtFloat (v : Nat) : Option FloatFmt :=
  match v with
  | 0 => some fp32 | 1 => some fp16 | 2 => some bf16 | 3 => some e4m3 | 4 => some e5m2 | _ => none

def fmtBits (v : Nat) : Nat :=
  match v with
  | 0 => 32 | 1 => 16 | 2 => 16 | 3 => 8 | 4 => 8 | 5 => 32 | 6 => 16 | 7 => 8 | 8 => 8 | 9 => 4 | _ => 64

/-- Elements per lane of the packed operations, times two (PAIR32 has one half). -/
def fmtPerLane2 (v : Nat) : Nat :=
  match v with
  | 0 => 2 | 1 => 4 | 2 => 4 | 3 => 8 | 4 => 8 | 5 => 2 | 6 => 4 | 7 => 8 | 8 => 8 | 9 => 16 | _ => 1

def fmtIsInt (v : Nat) : Bool := decide (5 ≤ v) && decide (v ≤ 9)

/-- The integer an encoding of an integer format stands for. -/
def fmtInt (v x : Nat) : Int := if v = 8 then ((x % 256 : Nat) : Int) else asSigned (fmtBits v) x

/-- The least and greatest integer of an integer format. -/
def fmtMin (v : Nat) : Int := if v = 8 then 0 else -(2 ^ (fmtBits v - 1) : Int)
def fmtMax (v : Nat) : Int := if v = 8 then 255 else (2 ^ (fmtBits v - 1) : Int) - 1

/-- Element `k` of width `w` in a little-endian stream (R82). -/
def elem (w : Nat) (stream k : Nat) : Nat := (stream >>> (w * k)) % 2 ^ w

/-- A stream of elements of width `w`, element 0 lowest (R82). -/
def packElems (w : Nat) : List Nat → Nat
  | [] => 0
  | x :: xs => x % 2 ^ w + 2 ^ w * packElems w xs

end Sys2Proof.Machine
end

