-- ==== Sys2Proof/Machine/Check.lean ====
section
/-! DEFINITION. Checks over bytes: CRC-32C, SHAKE256, and the verdict on a signature. -/

namespace Sys2Proof.Machine

/-- One bit of the reflected CRC-32C, polynomial 0x1EDC6F41 (entry 6). -/
def crcBit (c : Nat) : Nat := if c % 2 = 1 then (c / 2) ^^^ 0x82F63B78 else c / 2

/-- One byte of CRC-32C. -/
def crcByte (c : Nat) (b : Byte) : Nat :=
  crcBit (crcBit (crcBit (crcBit (crcBit (crcBit (crcBit (crcBit (c ^^^ b.toNat))))))))

/-- CRC-32C of a list of bytes, with the usual initial and final complement (R15, R28, R402 name the code only: entry 6). -/
def crc32c (bs : List Byte) : Nat := (bs.foldl crcByte 0xFFFFFFFF) ^^^ 0xFFFFFFFF

/-! SHAKE256 (R461 names FIPS 202, with 256 bits of output). Lane (x, y) of the state has index x + 5 y. -/

def keccakRot : List Nat :=
  [0, 1, 62, 28, 27, 36, 44, 6, 55, 20, 3, 10, 43, 25, 39, 41, 45, 15, 21, 8, 18, 2, 61, 56, 14]

def keccakRc : List (BitVec 64) :=
  [0x1, 0x8082, 0x800000000000808A, 0x8000000080008000, 0x808B, 0x80000001, 0x8000000080008081, 0x8000000000008009, 0x8A, 0x88, 0x80008009, 0x8000000A, 0x8000808B, 0x800000000000008B, 0x8000000000008089, 0x8000000000008003, 0x8000000000008002, 0x8000000000000080, 0x800A, 0x800000008000000A, 0x8000000080008081, 0x8000000000008080, 0x80000001, 0x8000000080008008]

def lane (a : List (BitVec 64)) (x y : Nat) : BitVec 64 := a.getD (x % 5 + 5 * (y % 5)) 0

/-- One round of the permutation. -/
def keccakRound (a : List (BitVec 64)) (rc : BitVec 64) : List (BitVec 64) :=
  let c := (List.range 5).map fun x => lane a x 0 ^^^ lane a x 1 ^^^ lane a x 2 ^^^ lane a x 3 ^^^ lane a x 4
  let d := (List.range 5).map fun x => c.getD ((x + 4) % 5) 0 ^^^ (c.getD ((x + 1) % 5) 0).rotateLeft 1
  let t := (List.range 25).map fun i => a.getD i 0 ^^^ d.getD (i % 5) 0
  -- Lane (x, y) of the rotated and moved state comes from lane (x + 3 y, x).
  let b := (List.range 25).map fun i =>
    let x := i % 5
    let y := i / 5
    let j := (x + 3 * y) % 5 + 5 * x
    (t.getD j 0).rotateLeft (keccakRot.getD j 0)
  (List.range 25).map fun i =>
    let x := i % 5
    let y := i / 5
    let v := lane b x y ^^^ (~~~(lane b (x + 1) y) &&& lane b (x + 2) y)
    if i = 0 then v ^^^ rc else v

def keccakF (a : List (BitVec 64)) : List (BitVec 64) := keccakRc.foldl keccakRound a

/-- A block of 136 bytes enters the state. -/
def keccakAbsorb (a : List (BitVec 64)) (block : List Byte) : List (BitVec 64) :=
  keccakF ((List.range 25).map fun i => a.getD i 0 ^^^ (if i < 17 then BitVec.ofNat 64 (leNat ((block.drop (8 * i)).take 8)) else 0))

/-- The padded message of SHAKE256. -/
def shakePad (bs : List Byte) : List Byte :=
  let q := 136 - bs.length % 136
  if q = 1 then bs ++ [0x9F] else bs ++ 0x1F :: List.replicate (q - 2) 0 ++ [0x80]

/-- Absorbs `n` blocks of a padded message. -/
def keccakBlocks : Nat → List (BitVec 64) → List Byte → List (BitVec 64)
  | 0, a, _ => a
  | n + 1, a, bs => keccakBlocks n (keccakAbsorb a (bs.take 136)) (bs.drop 136)

/-- The 32-byte SHAKE256 digest, as a little-endian number. -/
def digest (bs : List Byte) : Nat :=
  let p := shakePad bs
  let a := keccakBlocks (p.length / 136) (List.replicate 25 0) p
  leNat ((a.take 4).flatMap fun v => leBytes 8 v.toNat)

/-- Whether an ML-DSA-65 signature verifies over a message (R462): the public key, the message, the context byte, the
signature. The arithmetic of FIPS 204 is not modelled: an open function (entry 7). -/
def verifies (key msg kind sig : Nat) : Bool := Config.freeFn 4 [key, msg, kind, sig] % 2 == 1

end Sys2Proof.Machine
end

