-- ==== Sys2Proof/Machine/Rings.lean ====
section
/-! DEFINITION. Rings, descriptors and completions (18): where a ring lies in window SRAM, the checks of Table BC-3, the
start of a command and its completion record. The units' commands are bodies that this file runs. -/

namespace Sys2Proof.Machine

def State.ring (s : State) (r : Nat) : Ring := spGet Ring.reset s.rings.table r
def State.setRing (s : State) (r : Nat) (g : Ring) : State :=
  { s with rings := { s.rings with table := spSet Ring.reset s.rings.table r g } }
def State.wstream (s : State) (i : Nat) : WStream := spGet WStream.reset s.trail.streams i
def State.setWstream (s : State) (i : Nat) (w : WStream) : State :=
  { s with trail := { s.trail with streams := spSet WStream.reset s.trail.streams i w } }
def State.hostLane (s : State) (ch : Nat) : HostLane := spGet HostLane.reset s.trail.lanes ch
def State.setHostLane (s : State) (ch : Nat) (l : HostLane) : State :=
  { s with trail := { s.trail with lanes := spSet HostLane.reset s.trail.lanes ch l } }
def State.seqPart (s : State) (p : Nat) : SeqPart := spGet SeqPart.reset s.seq p
def State.setSeqPart (s : State) (p : Nat) (q : SeqPart) : State := { s with seq := spSet SeqPart.reset s.seq p q }
def SeqPart.row (q : SeqPart) (r : Nat) : SeqRow := spGet SeqRow.reset q.rows r
def SeqPart.setRow (q : SeqPart) (r : Nat) (x : SeqRow) : SeqPart := { q with rows := spSet SeqRow.reset q.rows r x }

/-! ## The window map -/

/-- R383: the entry of aperture block `k` of channel `ch`. -/
def State.wmap (s : State) (ch k : Nat) : BitVec 64 := s.reg R.TH_WMAP (16384 * ch + k)
def State.setWmap (s : State) (ch k : Nat) (v : BitVec 64) : State := s.setReg R.TH_WMAP (16384 * ch + k) v

/-- R379: the window SRAM address behind an aperture offset, if a block backs it. -/
def State.backed (s : State) (ch off : Nat) : Option Nat :=
  let e := s.wmap ch (off / 65536)
  if off / 65536 < 16384 ∧ F.TH_WMAP_VALID.get e = 1 then some (sramBase + F.TH_WMAP_BLOCK.get e * 65536 + off % 65536) else none

/-- The aperture block, as channel and number, that window SRAM block `b` backs. -/
def State.mappedBy (s : State) (b : Nat) : Option (Nat × Nat) :=
  (List.range 2).findSome? fun ch =>
    let lo := R.TH_WMAP.key (16384 * ch)
    (spKeep (fun k => decide (lo ≤ k) && decide (k < lo + 8 * 16384)) s.regs).findSome? fun e =>
      if F.TH_WMAP_VALID.get e.2 = 1 ∧ F.TH_WMAP_BLOCK.get e.2 = b then some (ch, (e.1 - lo) / 8) else none

/-- Window SRAM blocks that neither an aperture block nor a stream's staging uses, lowest first (R383, R386). -/
def State.freeBlocks (s : State) : List Nat :=
  (List.range 512).filter fun b => (s.sramPart (sramBase + b * 65536)).isNone

/-- R404: a range of window SRAM lies in exchange blocks of the context. -/
def State.exchange (s : State) (ctx addr len : Nat) : Bool :=
  decide (sramBase ≤ addr) && decide (addr + len ≤ sramBase + sramSize) &&
  (List.range ((addr % 65536 + len + 65535) / 65536)).all fun i =>
    match s.mappedBy ((addr - sramBase) / 65536 + i) with
    | some (ch, k) =>
      let e := s.wmap ch k
      F.TH_WMAP_KIND.get e == 1 && F.TH_WMAP_CONTEXT.get e == ctx
    | none => false

/-! ## Ring memory -/

/-- Writes bytes at an aperture offset of a ring's channel, where the window map backs it. -/
def State.ringWrite (s : State) (ch off : Nat) (bs : List Byte) : State :=
  match s.backed ch off with
  | some a => s.wrMarked a bs false
  | none => s

/-- R398, Table BC-1: Basecamp writes a ring's status block. -/
def State.ringStatus (s : State) (r : Nat) : State :=
  let g := s.ring r
  if g.valid then
    s.ringWrite g.chan g.off (leBytes 64 (g.sqHead + g.cqTail * 2 ^ 16 + g.tail * 2 ^ 32 + g.cqHead * 2 ^ 48 +
      r * 2 ^ 64 + g.l * 2 ^ 80 + g.bad * 2 ^ 96))
  else s

/-- R396: aperture offsets of command slot `i` and completion slot `n`. -/
def Ring.size (g : Ring) : Nat := 2 ^ g.l
def Ring.cmdSlot (g : Ring) (i : Nat) : Nat := g.off + 64 + 64 * (i % g.size)
def Ring.cplSlot (g : Ring) (n : Nat) : Nat := g.off + 64 + 64 * g.size + 32 * (n % g.size)
/-- R397: descriptors outstanding. -/
def Ring.outstanding (g : Ring) : Nat := (g.tail + 65536 - g.cqHead) % 65536

/-! ## Descriptors -/

/-- A descriptor in hand, with the partition and context that its checks established. -/
structure Cmd where
  ring : Nat
  d    : Desc
  part : Nat
  ctx  : Nat
deriving DecidableEq, Repr

def descWord (d : Desc) (i : Nat) : Nat := (d.toNat >>> (32 * i)) % 2 ^ 32
def Cmd.w (c : Cmd) (i : Nat) : Nat := descWord c.d i
/-- R402: a 64-bit operand, low word first. -/
def Cmd.w64 (c : Cmd) (i : Nat) : Nat := c.w i + 2 ^ 32 * c.w (i + 1)
def Cmd.len (c : Cmd) : Nat := c.w 3
def Cmd.tag (c : Cmd) : Nat := c.w 2
/-- Flags bit 16. -/
def Cmd.flag16 (c : Cmd) : Bool := hasBit (c.w 0) 16
/-- Table FB-2: the command's descriptor as bytes. -/
def Cmd.bytes (c : Cmd) : List Byte := leBytes 64 c.d.toNat

/-- What a command answers: status, detail, result, and the domain and stamp where the command states another than BCLK. -/
structure Reply where
  status : Nat
  detail : Nat
  result : Nat
  stamp  : Option (Nat × Nat)
deriving DecidableEq, Repr

def Reply.ok : Reply := ⟨0, 0, 0, none⟩
def Reply.detailed (d : Nat) : Reply := ⟨0, d, 0, none⟩
def lenRange (d : Nat) : Reply := ⟨1, d, 0, none⟩
def denied (d : Nat) : Reply := ⟨4, d, 0, none⟩
def conflict (d : Nat) : Reply := ⟨7, d, 0, none⟩
def badSignature (d : Nat) : Reply := ⟨5, d, 0, none⟩
/-- BAD_CRC of an image, detail 0. -/
def badImage : Reply := ⟨6, 0, 0, none⟩

/-- An opcode of Table BC-5: the partitions that hold its right, as a mask, and its legal lengths (Table LC-3). -/
structure OpRow where
  code : Nat
  right : Nat
  lo : Nat
  hi : Nat
  step : Nat
deriving DecidableEq, Repr

/-- Table BC-5 with the opcodes of the chapters that bind the ranges, and Table LC-3. A length that the owning chapter tests
with a detail of its own has only the general test here, as has REG_WRITE, whose right under Table BC-7 is tested before its length. -/
def opTable : List OpRow :=
  [⟨0x0000, 0xFF, 0, 0, 1⟩, ⟨0x0001, 0xFF, 0, 0, 1⟩, ⟨0x0002, 0xFF, 0, 0, 1⟩, ⟨0x0003, 0xFF, 0, 0, 1⟩, ⟨0x0004, 0xFF, 0, 0, 1⟩,
   ⟨0x0010, 0xFF, 8, 4096, 8⟩, ⟨0x0011, 0xFF, 0, 0xFFFFFFFE, 1⟩,
   ⟨0x0101, 0xFF, 1, 512, 1⟩, ⟨0x0102, 0xFF, 64, 16777216, 64⟩, ⟨0x0103, 0xFF, 0, 0, 1⟩, ⟨0x0104, 0xFF, 0, 0, 1⟩,
   ⟨0x0201, 0xFC, 65536, 16777216, 65536⟩, ⟨0x0202, 0xFC, 65536, 16777216, 65536⟩, ⟨0x0203, 0xFC, 65536, 16777216, 65536⟩,
   ⟨0x0204, 0xFC, 65536, 16777216, 65536⟩, ⟨0x0205, 0xFC, 65536, 16777216, 65536⟩,
   ⟨0x0301, 0xFC, 0, 0, 1⟩, ⟨0x0302, 0xFC, 4, 262144, 4⟩, ⟨0x0303, 0xFC, 0, 0, 1⟩, ⟨0x0304, 0xFC, 0, 0, 1⟩, ⟨0x0305, 0xFC, 64, 64, 1⟩] ++
  [⟨0x0401, 0x02, 0, 0, 1⟩, ⟨0x0501, 0x02, 4096, 4194304, 64⟩, ⟨0x0502, 0x02, 4, 65536, 4⟩, ⟨0x0601, 0x02, 1, 0xFFFFFFFE, 1⟩,
   ⟨0x0701, 0x02, 1, 0xFFFFFFFE, 1⟩, ⟨0x0801, 0x01, 1, 0xFFFFFFFE, 1⟩, ⟨0x0802, 0x01, 0, 0, 1⟩, ⟨0x0803, 0x01, 0, 0, 1⟩,
   ⟨0x0901, 0x03, 65536, 67108864, 64⟩, ⟨0x0902, 0xFD, 65536, 67108864, 64⟩, ⟨0x0A01, 0xFD, 0, 0, 1⟩, ⟨0x0A02, 0xFD, 0, 0, 1⟩,
   ⟨0x0A03, 0x03, 0, 0, 1⟩, ⟨0x0B01, 0x03, 0, 0, 1⟩, ⟨0x0B02, 0x01, 0, 0, 1⟩, ⟨0x0B03, 0x01, 0, 0, 1⟩, ⟨0x0C01, 0xFF, 3776, 3776, 1⟩,
   ⟨0x0C02, 0xFF, 8192, 8192, 1⟩, ⟨0x0C03, 0x01, 4096, 67108800, 64⟩, ⟨0x0C04, 0xFF, 64, 262144, 64⟩, ⟨0x0D01, 0x01, 0, 0, 1⟩,
   ⟨0x0D02, 0x01, 0, 0, 1⟩, ⟨0x0E01, 0x03, 0, 0, 1⟩]

def opRow (code : Nat) : Option OpRow := opTable.find? fun r => r.code == code

/-- R406, R407: the partition of an open context. -/
def State.ctxPart (s : State) (ctx : Nat) : Option Nat :=
  match spGet 0 s.rings.contexts ctx with
  | 0 => none
  | p + 1 => some p

/-- Commands of the management family that name an open context. -/
def namesContext (op : Nat) : Bool := decide (2 ≤ op) && decide (op ≤ 4)

/-- R403, Table BC-3: the first test a descriptor of ring `r` fails, as status and detail. -/
def State.descCheck (s : State) (r : Nat) (d : Desc) : Option (Nat × Nat) :=
  let g := s.ring r
  let op := B.DESC_OPCODE.get d.toNat
  let ctx := B.DESC_CONTEXT.get d.toNat
  let part := B.DESC_PART.get d.toNat
  let len := descWord d 3
  let mgmt := decide (r < 2)
  if crc32c (leBytes 60 d.toNat) ≠ B.DESC_CRC.get d.toNat then some (6, 0)
  else if B.DESC_RING.get d.toNat ≠ r then some (3, 0)
  else if !mgmt && (s.ctxPart ctx == none || g.ctx != ctx) then some (2, 0)
  else if mgmt && namesContext op && s.ctxPart ctx == none then some (2, 0)
  else if !mgmt && s.ctxPart ctx != some part then some (4, 0)
  else if mgmt && !(hasBit (s.fld F.BC_RIGHTS_CHANNELS part) g.chan) then some (4, 0)
  else
    match opRow op with
    | none => some (1, 0xFFFE)
    | some row =>
      if !(hasBit row.right part) || (mgmt && namesContext op && s.ctxPart ctx != some part) then some (4, 3)
      else if mgmt != decide (op < 0x100) then some (1, 0xFFFE)
      else if len < row.lo ∨ row.hi < len ∨ len % row.step ≠ 0 then some (1, 0)
      else none

/-! ## Completions -/

/-- R16: the rank of an outcome status; the lowest stands. Rejections have none. -/
def outcomeRank (st : Nat) : Option Nat :=
  [0xF, 0x11, 0xA, 0x10, 0xB, 0xC, 0x9, 0xD, 0xE, 0x12].findIdx? (fun x => x == st)

/-- R16: of two outcomes the one that stands; 0 is OK. -/
def worse (a b : Nat) : Nat :=
  match outcomeRank a, outcomeRank b with
  | some x, some y => if y < x then b else a
  | none, some _ => b
  | _, none => a

/-- R80, R431: the core's ninth physical engine serves no logical engine and is sound. -/
def State.spareFree (s : State) (c : Nat) : Bool :=
  !((List.range 8).any fun e => s.fld F.PL_ENG_STATUS_PHYS (8 * c + e) == 8) && !(s.site (siteEngine c 8)).lasting

/-- R80: a logical engine whose physical engine has failed and cannot be replaced. -/
def State.engineLost (s : State) (n : Nat) : Bool :=
  (s.site (siteEngine (n / 8) (s.fld F.PL_ENG_STATUS_PHYS n))).lasting && !(s.spareFree (n / 8))

/-- R369, R151, R80: the module is degraded: Plumb is above DM0, a channel that carries a mark has a second lasting device, or an
engine has failed beyond its core's spare. -/
def State.degraded (s : State) : Bool :=
  s.fld F.PB_STATUS_MODE != 0 ||
  ((List.range 8).any fun ch => s.flag F.DR_MARK_VALID ch &&
    decide (2 ≤ (List.range 10).countP fun d => (s.site (siteDevice ch d)).lasting)) ||
  ((List.range 128).any fun n => s.engineLost n)

/-- R369, R411: the status of accepted work, with DEGRADED in a degraded mode and UNSYNCED in an unsynced frame. -/
def State.outcome (s : State) (st : Nat) : Nat :=
  if st = 0 ∨ (outcomeRank st).isSome then
    let a := if s.degraded then worse st 0x11 else st
    if s.unsynced then worse a 0x12 else a
  else st

/-- R410, R412: posts a completion record to a ring. -/
def State.post (s : State) (r : Nat) (d : Desc) (p : Reply) : State :=
  let g := s.ring r
  if g.valid then
    let n := g.cqTail
    let (dom, stamp) := p.stamp.getD (7, s.clk.bclk)
    let body : Nat := descWord d 2 + p.status * 2 ^ 32 + (p.detail % 65536) * 2 ^ 48 + s.frameNum * 2 ^ 64 + dom * 2 ^ 112 +
      (n / g.size + 1) % 2 * 2 ^ 120 + stamp % 2 ^ 64 * 2 ^ 128 + p.result % 2 ^ 32 * 2 ^ 192
    let bs := leBytes 28 body
    let s := s.ringWrite g.chan (g.cplSlot n) (bs ++ leBytes 4 (crc32c bs))
    let s := s.setRing r { g with cqTail := (n + 1) % 65536 }
    let s := (s.ringStatus r).bump F.BC_COUNTS_COMPLETED
    if g.attn then s.attn F.TH_ATTN_COMPLETION else s
  else s

/-- R392: TH_STREAM_CLOSE or the close of its context stops a stream's acceptance. -/
def State.streamStop (s : State) (i : Nat) (who : Option (Nat × Desc)) : State :=
  (s.setFld F.TH_STREAM_OPEN i 0).setWstream i { s.wstream i with closing := some who }

/-- B of a stream (TH_DRAINED). -/
def State.drained (s : State) (i : Nat) : Nat := s.fld F.TH_DRAINED_DRAINED i

/-- R390: the DDR4 address of stream position `p`. -/
def State.streamDest (s : State) (i p : Nat) : Nat := (s.wstream i).base + p % (s.fld F.TH_STREAM_DEST_LEN i * 65536)

/-- R485: the digest record of the bytes drained since the last one. -/
def State.digestRecord (s : State) (i : Nat) : State :=
  let w := s.wstream i
  if w.block.isEmpty then s
  else
    let s := s.record 0x08 i (words [s.streamDest i (s.drained i - w.block.length), w.block.length] ++ leBytes 32 (digest w.block)) 2
    s.setWstream i { w with block := [] }

/-- R391, R485: a closed stream with nothing left to drain frees its staging blocks; a partial block is digested. -/
def State.streamFree (s : State) (i : Nat) : State :=
  ((s.digestRecord i).setReg R.TH_STREAM i 0).setWstream i WStream.reset

/-- R391: a stream that is drained up to its commit point. -/
def State.streamDrained (s : State) (i : Nat) : Bool := s.fld F.TH_DRAINED_DRAINED i == s.fld F.TH_COMMIT_COMMIT i

/-- R414: unmaps the ring blocks that no existing ring of the channel uses. -/
def State.unmapRings (s : State) (ch : Nat) : State :=
  (List.range 256).foldl (fun s k =>
    let e := s.wmap ch k
    let used := s.rings.table.any fun x => x.2.valid && x.2.chan == ch && decide (x.2.off / 65536 ≤ k) &&
      decide (k * 65536 < x.2.off + 64 + 96 * x.2.size)
    if F.TH_WMAP_VALID.get e = 1 ∧ F.TH_WMAP_KIND.get e = 0 ∧ used = false then s.setWmap ch k 0 else s) s

/-- Destroys a ring and answers how many descriptors it discards (R408). -/
def State.ringDestroy (s : State) (r : Nat) : Nat × State :=
  let g := s.ring r
  let n := (g.tail + 65536 - g.sqHead) % 65536
  let s := s.setRing r Ring.reset
  let s := s.setFld F.BC_STATUS_RINGS 0 (s.fld F.BC_STATUS_RINGS - 1)
  (n, s.unmapRings g.chan)

/-- The rings that a close concerns. -/
def State.closingRings (s : State) (c : Closing) : List Nat :=
  match c.only with
  | some r => [r]
  | none => (s.rings.table.filter fun x => x.2.valid && x.2.ctx == c.ctx && decide (2 ≤ x.1)).map fun x => x.1

/-- R408, step 4: streams, window blocks and sequence rows of a context, and the context itself. -/
def State.dropContext (s : State) (ctx : Nat) : State :=
  let s : State := (List.range 128).foldl (fun (s : State) i =>
    if s.flag F.TH_STREAM_OPEN i && (s.wstream i).ctx == ctx then
      let s := s.streamStop i none
      if s.streamDrained i then s.streamFree i else s
    else s) s
  let lo := R.TH_WMAP.key 0
  let gone := (spKeep (fun k => decide (lo ≤ k) && decide (k < lo + 8 * 32768)) s.regs).filter fun e =>
    F.TH_WMAP_VALID.get e.2 == 1 && F.TH_WMAP_CONTEXT.get e.2 == ctx && F.TH_WMAP_KIND.get e.2 != 0
  let s := { s with regs := gone.foldl (fun t (e : Nat × BitVec 64) => spSet 0 t e.1 0) s.regs }
  let s := { s with seq := s.seq.map fun (q : Nat × SeqPart) => (q.1, { q.2 with rows := q.2.rows.map fun (x : Nat × SeqRow) =>
    (x.1, if x.2.state ≠ 0 ∧ x.2.ctx = ctx then { x.2 with state := 3 } else x.2) }) }
  let s := { s with rings := { s.rings with contexts := spSet 0 s.rings.contexts ctx 0 } }
  s.setFld F.BC_STATUS_CONTEXTS 0 (s.fld F.BC_STATUS_CONTEXTS - 1)

/-- R408: a close runs once no command started on its rings is outstanding. -/
def State.closeRun (s : State) (c : Closing) : State :=
  let rs := s.closingRings c
  if rs.any (fun r => decide (0 < (s.ring r).flying)) then
    { s with rings := { s.rings with closing := s.rings.closing ++ [c] } }
  else
    let (n, s) := rs.foldl (fun (acc : Nat × State) r => let (m, t) := acc.2.ringDestroy r; (acc.1 + m, t)) (0, s)
    let s := if c.only.isNone then s.dropContext c.ctx else s
    let g := s.ring c.ring
    (s.setRing c.ring { g with flying := g.flying - 1 }).post c.ring c.desc ⟨s.outcome 0, min 0xFFFF n, 0, none⟩

/-- A started command of ring `r` completes: its record is posted, and a close that waited for it goes on. -/
def State.finish (s : State) (r : Nat) (d : Desc) (p : Reply) : State :=
  let g := s.ring r
  let s := s.setRing r { g with flying := g.flying - 1 }
  let s := s.post r d { p with status := s.outcome p.status }
  let waiting := s.rings.closing
  waiting.foldl State.closeRun { s with rings := { s.rings with closing := [] } }

/-! ## Starting a command -/

/-- R405: a descriptor with FENCE waits until every earlier command of its ring has completed. -/
def State.fenced (s : State) (r : Nat) (d : Desc) : Bool :=
  B.DESC_FENCE.get d.toNat == 1 && decide (0 < (s.ring r).flying)

/-- R397: takes the next posted descriptor of a ring. On a ring with nothing posted, the posting doorbell is part of the
command; one that breaks R397 is ignored and counted. -/
def State.takeSlot (s : State) (r : Nat) : Option State :=
  let g := s.ring r
  if g.tail = g.sqHead then
    if g.outstanding < g.size then
      some ((s.setRing r { g with tail := (g.tail + 1) % 65536, sqHead := (g.sqHead + 1) % 65536 }).ringStatus r)
    else none
  else some ((s.setRing r { g with sqHead := (g.sqHead + 1) % 65536 }).ringStatus r)

/-- R397: a doorbell that is ignored. -/
def State.badDoorbell (s : State) (r : Nat) : State :=
  let g := s.ring r
  let s := s.bump F.BC_COUNTS_BAD_DOORBELL
  if g.valid then (s.setRing r { g with bad := min 65535 (g.bad + 1) }).ringStatus r else s

/-- R487: what Basecamp accepts from the host in replay. -/
def replayAllows (op : Nat) : Bool := [0x0010, 0x0C01, 0x0C04, 0x0D02].contains op

/-- R15: the place of a rejection status; other statuses have none. -/
def rejectRank (st : Nat) : Option Nat := [6, 3, 2, 4, 1, 5, 7].findIdx? fun x => x == st

/-- R15: of the rejections that one descriptor meets the one that comes first; of two in one place, the one met first. -/
def firstReject (cs : List Reply) : Option Reply :=
  cs.foldl (fun (best : Option Reply) c =>
    match rejectRank c.status, best.bind fun b => rejectRank b.status with
    | none, _ => best
    | some _, none => some c
    | some x, some y => if x < y then some c else best) none

/-- R15, R403, R487: the rejection of a descriptor that fails a test of Table BC-3, or that replay does not admit: the first of these and of
the command's own. -/
def State.descVerdict (s : State) (r : Nat) (d : Desc) (host : Bool) (body : State → Cmd → State × Option Reply) : Option Reply :=
  let table := (s.descCheck r d).map fun x => (⟨x.1, x.2, 0, none⟩ : Reply)
  let replay := if host && s.flag F.FB_STATUS_REPLAYING && !(replayAllows (B.DESC_OPCODE.get d.toNat)) then some (denied 5) else none
  match table.toList ++ replay.toList with
  | [] => none
  | cs => firstReject (cs ++ (body s ⟨r, d, B.DESC_PART.get d.toNat, B.DESC_CONTEXT.get d.toNat⟩).2.toList)

/-- R15, R403: the checks of Table BC-3, then the command's body. A rejected descriptor changes nothing but the counter of rejections. -/
def State.startDesc (s : State) (r : Nat) (d : Desc) (host : Bool) (body : State → Cmd → State × Option Reply) : State :=
  match s.descVerdict r d host body with
  | some p => (if (s.descCheck r d).isSome then s.bump F.BC_COUNTS_REJECTED else s).post r d ⟨p.status, p.detail, 0, none⟩
  | none =>
    let g := s.ring r
    let s := s.setRing r { g with flying := g.flying + 1 }
    match body s ⟨r, d, B.DESC_PART.get d.toNat, B.DESC_CONTEXT.get d.toNat⟩ with
    | (s, some p) => s.finish r d p
    | (s, none) => s

/-- R401: Basecamp takes descriptor `d` of ring `r`, records it, and rejects it or runs `body`. -/
def State.runDesc (s : State) (r : Nat) (d : Desc) (body : State → Cmd → State × Option Reply) : State :=
  let g := s.ring r
  if !g.valid || g.stopped || spGet false s.rings.stalled g.chan || s.fenced r d then
    s
  else match s.takeSlot r with
    | none => s.badDoorbell r
    | some s => (s.record 0x06 r (leBytes 64 d.toNat ++ words [r]) 7).startDesc r d true body

/-- A command row of opcode `op`: a descriptor of another opcode is not that command. -/
def State.command (s : State) (r : BitVec 14) (d : Desc) (op : Nat) (body : State → Cmd → State × Option Reply) : State :=
  if B.DESC_OPCODE.get d.toNat = op then s.runDesc r.toNat d body else s

end Sys2Proof.Machine
end

