-- ==== Sys2Proof/Machine/Loads.lean ====
section
/-! DEFINITION. What the commands that load images share: the bring-up steps at which they are open (19), the regions of their
DDR4 sources (R435), the measurements (R470), and the ages of records (R21). -/

namespace Sys2Proof.Machine

/-- BC_STEP_STATUS.DONE: the last completed step. -/
def State.done (s : State) : Nat := s.fld F.BC_STEP_STATUS_DONE

/-- The S6 commit has been made: it sets SP_FRAME_CFG.EN (R433). -/
def State.committed (s : State) : Bool := s.flag F.SP_FRAME_CFG_EN

/-- The step S7 has succeeded; in replay the plan comes alive in its place (R486). -/
def State.live (s : State) : Bool := s.done == 7 || (s.book.replay.isSome && s.ridge.goAt.isSome)
/-- After S5 and before the S6 commit (R433). -/
def State.loading (s : State) : Bool := s.done == 5 && !s.committed

/-- BC_STEP_STATUS.ACTIVE: the step in progress. -/
def State.active (s : State) : Nat := s.fld F.BC_STEP_STATUS_ACTIVE

/-- After the S6 commit and before the S7 request (R459, R486). -/
def State.betweenCommitAndReady (s : State) : Bool := s.committed && !s.live && s.active != 7

/-- The 64 MiB units that `n` bytes from DDR4 address `a` touch, as their first addresses. -/
def ddrUnits (a n : Nat) : List Nat :=
  (List.range ((a % 0x0400_0000 + n + 0x03FF_FFFF) / 0x0400_0000)).map fun k => (a / 0x0400_0000 + k) * 0x0400_0000

/-- R217: every unit of a DDR4 range lies in a region that partition `p` may read. -/
def State.ddrReads (s : State) (p a n : Nat) : Bool :=
  decide (a + n ≤ ddrSize) && (ddrUnits a n).all fun u => (s.tagOf u).reads p

/-- Every unit of a DDR4 range lies in a region of partition `p`. -/
def State.ddrWrites (s : State) (p a n : Nat) : Bool :=
  decide (a + n ≤ ddrSize) && (ddrUnits a n).all fun u => (s.tagOf u).writes p

/-- R470: M is extended with an event of kind `k` whose item has digest `d`; the log keeps the last 4,096. -/
def State.extend (s : State) (k d : Nat) : State :=
  let i := s.ident
  let full := decide (4096 ≤ i.log.length)
  let s := { s with ident := { i with
    measure := digest (leBytes 32 i.measure ++ leBytes 1 k ++ leBytes 32 d)
    count := i.count + 1
    log := (if full then i.log.drop 1 else i.log) ++ [(⟨k, s.frameNum, d⟩ : Measured)] } }
  if full then s.bump F.ID_STATUS_LOG_LOST else s

/-- R462: a signed image: the fields of its signature block, the digest of what precedes it, and the signature under `pub`. -/
def signedOk (bs : List Byte) (kind keyId pub : Nat) : Bool :=
  let n := bs.length - 3392
  let blk := bs.drop n
  let h := leNat (blk.take 64)
  let sig := leNat ((blk.drop 64).take 3309)
  decide (3392 ≤ bs.length) && h % 256 == kind && h / 2 ^ 8 % 256 == keyId && h / 2 ^ 16 % 2 ^ 16 == 0 && h >>> 320 == 0 &&
    ((blk.drop 3373).all fun b => b == 0) && h / 2 ^ 64 % 2 ^ 256 == digest (bs.take n) && verifies pub h kind sig

/-- DIGEST of an image's signature block. -/
def blockDigest (bs : List Byte) : Nat := leNat ((bs.drop (bs.length - 3392 + 8)).take 32)

/-- R21: the age in frames of a record of frame `f`, 255 at most. -/
def State.ageOf (s : State) (f : Nat) : Nat := min 255 (s.frameNum - f)

/-- A length rounded up to 64 bytes. -/
def pad64 (n : Nat) : Nat := (n + 63) / 64 * 64

/-- The magnitude of a finite binary32 in units of 2⁻¹⁴⁹. -/
def f32units (x : Nat) : Nat :=
  match f32 x with
  | .fin _ m e => m * 2 ^ (e + 149).toNat
  | _ => 0

/-- The signed value of a finite binary32 in units of 2⁻¹⁴⁹. -/
def f32signed (x : Nat) : Int := if (f32 x).neg then -(f32units x : Int) else f32units x

/-- An exact value m × 2^e rounded to the grid 2^q, to nearest, ties to even. -/
def toGrid (v : FVal) (q : Int) : Int :=
  match v with
  | .fin n m e => signedInt n (rneTo m e q)
  | _ => 0

/-- The integer m × 2^e as a value. -/
def gridVal (m : Int) (e : Int) : FVal := .fin (decide (m < 0)) m.natAbs e

/-- Clamped to a signed field of `w` bits; true where it saturates. -/
def satTo (w : Nat) (x : Int) : Int × Bool := clampInt (-((2 : Int) ^ (w - 1))) ((2 : Int) ^ (w - 1) - 1) x

/-- Division of an integer rounded to nearest, ties to even (R197, R199). -/
def rneDivInt (x : Int) (d : Nat) : Int :=
  let q := x / d
  let r := 2 * (x % d)
  if r < d then q else if r = d then (if q % 2 = 0 then q else q + 1) else q + 1

end Sys2Proof.Machine
end

