-- ==== Sys2Proof/Machine/Identity.lean ====
section
/-! DEFINITION. Identity (21): what the flash holds, the checks of its images, attestation, and the writing of the flash. -/

namespace Sys2Proof.Machine

/-! ## Flash and keys -/

/-- R464: the `n` bytes of the flash from `a`. -/
def State.flashBytes (s : State) (a n : Nat) : List Byte := spRange 0xFF s.ident.flash a n

/-- Table ID-5: base and size of an area that ID_FLASH_WRITE writes, the boot slot being the one that is not running. -/
def State.flashArea (s : State) (area : Nat) : Nat × Nat :=
  match area with
  | 0 => (if s.fld F.ID_STATUS_BOOT_SLOT = 0 then 0x0400_0000 else 0, 0x0400_0000)
  | 1 => (0x0800_0000, 0x1_0000)
  | _ => (0x0801_0000, 0x10_0000)

/-- Digest of the vendor root public key in mask ROM (R463). The spec gives no value. -/
def vendorDigest : Nat := Config.freeFn 64 [] % 2 ^ 256

/-- The vendor root public key, firmware version, factory constants and repair map that a boot image carries (R463). The spec places
none of them in the image, but for the layout of the map. -/
def vendorKeyOf (bs : List Byte) : Nat := Config.freeFn 65 [leNat bs] % 2 ^ 15616
def fwVersionOf (bs : List Byte) : Nat := Config.freeFn 66 [leNat bs] % 2 ^ 32
def repairMapOf (bs : List Byte) : List Byte := leBytes 704 (Config.freeFn 67 [leNat bs])

/-- R465, step 2, R476: a boot image names a key with the mask ROM digest, and verifies under it. -/
def bootOk (bs : List Byte) : Bool :=
  let k := vendorKeyOf bs
  digest (leBytes 1952 k) == vendorDigest && signedOk bs 1 0 k

/-- R468: the device ID. -/
def State.deviceId (s : State) : Nat := if s.flag F.ID_STATUS_IDENTITY_OK then digest (leBytes 1952 s.ident.pub) else 0

/-- R467: the owner key of an owner certificate. -/
def ownerKeyOf (bs : List Byte) : Nat := leNat ((bs.drop 64).take 1952)

/-- R467, Table ID-6 step 4: an owner certificate is well formed, binds this module or every one, and verifies under `vendor`. -/
def State.certOk (s : State) (bs : List Byte) (vendor : Nat) : Bool :=
  let h := leNat (bs.take 64)
  let dev := h / 2 ^ 64 % 2 ^ 256
  bs.length == 5440 && h % 2 ^ 32 == 1 && h / 2 ^ 320 == 0 && ((bs.drop 2016).take 32).all (fun b => b == 0) &&
    (dev == 0 || (s.flag F.ID_STATUS_IDENTITY_OK && dev == s.deviceId)) && signedOk bs 5 0 vendor

/-- The owner certificate in flash (Table ID-5). -/
def State.flashCert (s : State) : List Byte := s.flashBytes 0x0800_0000 5440

/-- R466: the configuration image in flash, as long as its COUNT says. -/
def State.flashConf (s : State) : List Byte :=
  let n := leNat (s.flashBytes 0x0801_0000 2)
  s.flashBytes 0x0801_0000 (64 + 16 * n + 3392)

/-- The signature that the device key of a seed gives (R461, R468): FIPS 204 is not modelled, so it is an open function (entry 7). -/
def deviceSign (seed msg kind : Nat) : Nat := Config.freeFn 68 [seed, msg, kind] % 2 ^ 26472
/-- R468: the public key that ML-DSA-65 generates from a seed. -/
def devicePub (seed : Nat) : Nat := Config.freeFn 69 [seed] % 2 ^ 15616

/-- R462: the signature block that the device puts after `bs`. -/
def deviceBlock (seed : Nat) (bs : List Byte) (kind : Nat) : List Byte :=
  let h := B.SIG_KIND.put kind + B.SIG_KEY.put 2 + B.SIG_LENGTH.put bs.length + B.SIG_DIGEST.put (digest bs)
  leBytes 64 h ++ leBytes 3309 (deviceSign seed h kind) ++ List.replicate 19 0

/-! ## Commands -/

/-- Table ID-8: the report's 384 bytes for a nonce. -/
def State.report (s : State) (nonce : Nat) : List Byte :=
  let i := s.ident
  leBytes 384 (B.ATT_FORMAT.put 1 + B.ATT_STEPPING.put 0xB1 + B.ATT_BOOT_SLOT.put (s.fld F.ID_STATUS_BOOT_SLOT) +
    B.ATT_PB_MODE.put (s.fld F.PB_STATUS_MODE) + B.ATT_DONE.put s.done + B.ATT_RESTORED.put (s.fld F.PW_SAVE_RESTORED) +
    B.ATT_FW_VERSION.put (s.fld F.ID_STATUS_FW_VERSION) + B.ATT_FRAME.put s.frameNum + B.ATT_NONCE.put nonce +
    B.ATT_DEVICE_ID.put s.deviceId + B.ATT_VENDOR_KEY.put vendorDigest + B.ATT_BOOT_DIGEST.put i.bootDigest +
    B.ATT_OWNER_DIGEST.put i.ownerDigest + B.ATT_CONFIG_DIGEST.put i.confDigest + B.ATT_PLAN_FRAME.put i.planFrame +
    B.ATT_PLAN_FILL.put i.planFill + B.ATT_RULE_DIGEST.put i.ruleDigest + B.ATT_MEASURE.put i.measure +
    B.ATT_MEASURE_COUNT.put (i.count % 2 ^ 64))

/-- ID_ATTEST (R473). -/
def idAttestBody (s : State) (c : Cmd) : State × Option Reply :=
  if !(s.exchange c.ctx (c.w64 4) 32) || !(s.exchange c.ctx (c.w64 6) 3776) then (s, some (denied 4))
  else match s.ident.seed with
    | none => (s, some (badSignature 2))
    | some k =>
      let r := s.report (s.rdLe (c.w64 4) 32)
      (s.wrMarked (c.w64 6) (r ++ deviceBlock k r 6) false, some Reply.ok)

def execIdAttest (ring : BitVec 14) (d : Desc) (s : State) : Host.Outcome State Fault Refusal :=
  .next (s.command ring d 0x0C01 idAttestBody)

/-- ID_CERT (R469, R475): the public key, padded to 1,984 bytes, and the device certificate, to 8,192 bytes in all. -/
def idCertBody (s : State) (c : Cmd) : State × Option Reply :=
  if !(s.exchange c.ctx (c.w64 6) 8192) then (s, some (denied 4))
  else if s.ident.seed.isNone then (s, some (badSignature 2))
  else (s.wrMarked (c.w64 6) (leBytes 1984 s.ident.pub ++ s.flashBytes 0x0811_0000 6208) false, some Reply.ok)

def execIdCert (ring : BitVec 14) (d : Desc) (s : State) : Host.Outcome State Fault Refusal :=
  .next (s.command ring d 0x0C02 idCertBody)

/-- R476: the verification that an area's image must pass. -/
def State.areaOk (s : State) (area : Nat) (bs : List Byte) : Bool :=
  match area with
  | 0 => bootOk bs
  | 1 => s.certOk bs s.ident.vendor
  | _ => signedOk bs 2 1 (ownerKeyOf s.flashCert)

/-- ID_FLASH_WRITE (R475, R476, 25 R531): verified before anything is erased, then programmed in its turn. -/
def idFlashWriteBody (s : State) (c : Cmd) : State × Option Reply :=
  let area := c.w 6 % 4
  let src := c.w64 4
  if s.done < 3 then (s, some (denied 1))
  else if !s.pins.flashWpN then (s, some (denied 6))
  else if !(s.ddrReads c.part src c.len) then (s, some (denied 4))
  else if area = 3 ∨ (s.flashArea area).2 - 64 < c.len then (s, some (lenRange 0))
  else
    let bs := s.rdBytes src c.len
    if s.areaOk area bs then
      let s : State := { s with ident := { s.ident with program := s.ident.program ++ [(⟨c.ring, c.d, area, bs⟩ : FlashJob)] } }
      (s.setFld F.ID_STATUS_FLASH_BUSY 0 1, none)
    else (s, some (badSignature 0))

def execIdFlashWrite (ring : BitVec 14) (d : Desc) (s : State) : Host.Outcome State Fault Refusal :=
  .next (s.command ring d 0x0C03 idFlashWriteBody)

/-- R464, R476: an area's bytes once it is erased and programmed; the slot record of a boot slot is written last. -/
def State.flashProgram (s : State) (j : FlashJob) : State :=
  let (base, size) := s.flashArea j.area
  let img := if j.area = 0 then
      leBytes 64 ((s.ident.slotSeq + 1) % 2 ^ 64 + j.bytes.length * 2 ^ 64 + crc32c j.bytes * 2 ^ 96) ++ j.bytes
    else j.bytes
  { s with ident := { s.ident with flash := spSplice s.ident.flash base size (spWrite 0xFF [] base img) } }

/-- FLASH_PROGRAM_COMPLETE (R476): the running ID_FLASH_WRITE has programmed its area. -/
def execFlashProgramComplete (s : State) : Host.Outcome State Fault Refusal :=
  if s.dark then .next s
  else
  match s.ident.program with
  | [] => .next s
  | j :: rest =>
    let s := s.flashProgram j
    let s : State := { s with ident := { s.ident with program := rest } }
    .next ((s.setFld F.ID_STATUS_FLASH_BUSY 0 (bit !rest.isEmpty)).finish j.ring j.desc Reply.ok)

/-- R476: power goes while an area is programmed. Its bytes are open, but for a boot slot, whose record is not yet written. -/
def State.flashCut (s : State) : State :=
  match s.ident.program with
  | [] => s
  | j :: _ =>
    let (base, size) := s.flashArea j.area
    let n := s.free
    let skip := if j.area = 0 then 64 else 0
    let mid := (spTabulate (0xFF : Byte) (size - skip) fun k => BitVec.ofNat 8 (Config.freeFn 70 [n, k])).map fun e => (e.1 + base + skip, e.2)
    let s : State := { s with ident := { s.ident with flash := spSplice s.ident.flash base size mid } }
    s.fresh.2

/-- R470, R475: an entry of ID_LOG. -/
def Measured.bytes (m : Measured) : List Byte := leBytes 64 (m.kind + m.frame * 2 ^ 16 + m.digest * 2 ^ 64)

/-- ID_LOG (R475): the newest entries, oldest first. -/
def idLogBody (s : State) (c : Cmd) : State × Option Reply :=
  if !(s.exchange c.ctx (c.w64 4) c.len) then (s, some (denied 4))
  else
    let log := s.ident.log
    let out := log.drop (log.length - c.len / 64)
    (s.wrMarked (c.w64 4) (out.flatMap Measured.bytes) false, some ⟨0, 0, s.fld F.ID_STATUS_LOG_LOST, none⟩)

def execIdLog (ring : BitVec 14) (d : Desc) (s : State) : Host.Outcome State Fault Refusal :=
  .next (s.command ring d 0x0C04 idLogBody)

end Sys2Proof.Machine
end

