-- ==== Sys2Proof/Machine/Safe.lean ====
section
/-! DEFINITION. What other units ask of Plumb directly (16): the fault classes of Table PB-5, the modes of R369 and the
command of the SAFE_STOP lines. -/

namespace Sys2Proof.Machine

/-- R354, R357: both lines are de-energised and the gate closes, for the records under judgement too (R366). -/
def State.assertStop (s : State) : State :=
  let p := s.plumb
  let s := { s with plumb := { p with
    lineA := false
    lineB := false
    rbDue := if p.lineA || p.lineB then p.rbDue ++ [s.clk.sclk + 4] else p.rbDue
    threads := p.threads.map fun (x : Nat × Thread) => (x.1, { x.2 with closed := x.2.closed || x.2.record.isSome })
    releasedAt := none
    pulses := [] } }
  ((s.setFld F.PB_STATUS_STOP_A 0 1).setFld F.PB_STATUS_STOP_B 0 1).setFld F.PB_STATUS_GATE_OPEN 0 0

/-- R369: enters mode `m`. Modes only rise: a lower mode has no effect. -/
def State.enterMode (s : State) (m : Nat) : State :=
  if m ≤ s.fld F.PB_STATUS_MODE then s
  else
    let was := s.fld F.PB_STATUS_MODE
    let s := ((s.setFld F.PB_STATUS_MODE 0 m).setFld F.PB_STATUS_FRAME 0 s.frameNum).attn F.TH_ATTN_PLUMB
    -- DM1: PL_CTRL.FILL_STOP.
    let s := { s with ridge := { s.ridge with fillStopReq := s.ridge.fillStopReq || s.fld F.PL_STATUS_FILL_STATE % 2 == 1 } }
    let s := if 2 ≤ m ∧ was < 2 ∧ s.flag F.PB_CFG_STOP_EN then s.condWrite (s.fld F.PB_CFG_STOP_COND) 1 else s
    if m = 2 then { s with plumb := { s.plumb with dm2At := some s.clk.sclk } }
    else if m = 3 then (s.bump F.PB_COUNTS_STOPS).assertStop
    else s

/-- R370: latches fault class `k`, which calls for mode `m`. A fault of class 5, 6 or 7 asks for a new clearing. -/
def State.latchClass (s : State) (k m : Nat) : State :=
  let causes := s.fld F.PB_STATUS_CAUSES
  let s := if causes = 0 then s.setFld F.PB_STATUS_CAUSE 0 k else s
  let s := s.setFld F.PB_STATUS_CAUSES 0 (putBit causes (k - 1) true)
  let p := s.plumb
  let s := { s with plumb := { p with
    passed5 := if k = 5 then false else p.passed5
    passed6 := if k = 6 then false else p.passed6
    planSince := if k = 7 then false else p.planSince
    ruleMode := if k = 8 then max m p.ruleMode else p.ruleMode } }
  s.enterMode m

/-- Table PB-9: the mode of a class that PB_DEGRADE sets. -/
def State.degradeMode (s : State) (k : Nat) : Nat :=
  if k = 5 then s.fld F.PB_DEGRADE_GOLDEN_DEFER
  else if k = 6 then s.fld F.PB_DEGRADE_GOLDEN_MISMATCH
  else s.fld F.PB_DEGRADE_FRAME_PLAN

end Sys2Proof.Machine
end

