-- ==== Sys2Proof/Machine/Links.lean ====
section
/-! DEFINITION. The sending side of the tether ports (23): queues, sequence numbers, markers behind transfers, and SYNC flits
at frame starts. -/

namespace Sys2Proof.Machine

def State.tlPort (s : State) (p : Nat) : TlPort := spGet TlPort.reset s.tether p
def State.setTlPort (s : State) (p : Nat) (x : TlPort) : State := { s with tether := spSet TlPort.reset s.tether p x }
/-- Time of a tether port, counted in nanoseconds (DESIGN CHOICE, entry 19). -/
def State.tlTime (s : State) (p : Nat) : Nat := spGet 0 s.clk.tether p
def State.tickTl (s : State) (p dt : Nat) : State :=
  { s with clk := { s.clk with tether := spSet 0 s.clk.tether p (s.tlTime p + dt) } }

/-- TL_CFG.PORT_EN of a port. -/
def State.tlEnabled (s : State) (p : Nat) : Bool := hasBit (s.fld F.TL_CFG_PORT_EN) p
/-- The link of the port is trained. -/
def State.tlUp (s : State) (p : Nat) : Bool := s.tlEnabled p && s.flag F.TL_PORT_STAT_UP p

/-- R499: the tether view, as port and offset. -/
def tetherView (a : Nat) : Option (Nat × Nat) :=
  if 0x0200_0000_0000 ≤ a ∧ a < 0x02C0_0000_0000 then
    some ((a - 0x0200_0000_0000) / 0x0040_0000_0000, (a - 0x0200_0000_0000) % 0x0040_0000_0000)
  else none

/-- R499: an offset of the view selects the peer's DDR4 or its core stores; no other offset is legal. -/
def tetherOffsetOk (o : Nat) : Bool := decide (o < 0x0020_2000_0000)

/-- R499: the address in the receiving module behind an offset. -/
def tetherTarget (o : Nat) : Nat := if o < ddrSize then o else 0x4000_0000_0000 + (o - ddrSize)

/-- R498, Table TL-2: while the link is up and fewer than 256 flits are unacknowledged, queued flits are sent, each with the
next sequence number. `n` bounds the queue. -/
def TlPort.pump : Nat → TlPort → TlPort
  | 0, x => x
  | n + 1, x =>
    match x.queue with
    | [] => x
    | f :: rest =>
      if 256 ≤ x.sent.length then x
      else TlPort.pump n { x with
        next := (x.next + 1) % 4096
        queue := rest
        sent := x.sent ++ [⟨f.hdr + B.FLIT_SEQ.put x.next + B.FLIT_ACK_SEQ.put x.last, f.payload⟩] }

def State.tlPump (s : State) (p : Nat) : State :=
  if s.tlUp p then
    let x := s.tlPort p
    s.setTlPort p (TlPort.pump x.queue.length x)
  else s

/-- A marker flit (Table TL-2). -/
def markerFlitOf (id : Nat) : Flit := ⟨B.FLIT_KIND.put 2 + (id % 65536) * 2 ^ 33, List.replicate 64 0⟩

/-- R503: markers whose transfers have all ended enter the port's queue, oldest first. -/
def TlPort.passMarkers : Nat → TlPort → TlPort
  | 0, x => x
  | n + 1, x =>
    match x.markers with
    | [] => x
    | m :: rest =>
      if m.ahead.isEmpty then TlPort.passMarkers n { x with
        markers := rest
        queue := x.queue ++ [markerFlitOf m.id] }
      else x

def State.tlMarkers (s : State) (p : Nat) : State :=
  let x := s.tlPort p
  (s.setTlPort p (TlPort.passMarkers x.markers.length x)).tlPump p

/-- R503: how many transfers of core `c`'s queue end before the last that goes to port `p`, itself included. -/
def State.tlAhead (s : State) (p c : Nat) : Nat :=
  let q := s.queue c
  q.length - (q.reverse.takeWhile fun t => (tetherView t.dst).map (·.1) != some p).length

/-- R52, R503: a marker enters the queue of each named port. -/
def State.markerSend (s : State) (ports id : Nat) : State :=
  (bitsOf 3 ports).foldl (fun s p =>
    if s.tlEnabled p then
      let x := s.tlPort p
      let ahead := spTabulate 0 16 fun c => s.tlAhead p c
      (s.setTlPort p { x with markers := x.markers ++ [⟨id, ahead⟩] }).tlMarkers p
    else s) s

/-- The running transfer of a core ends: it leaves the queue, and markers that waited behind it go on (R123, R503). -/
def State.popQueue (s : State) (c : Nat) : State :=
  let s := s.setQueue c ((s.queue c).drop 1)
  [0, 1, 2].foldl (fun (s : State) p =>
    let x := s.tlPort p
    if x.markers.isEmpty then s
    else (s.setTlPort p { x with markers := x.markers.map fun (m : MarkerOut) =>
      { m with ahead := spSet 0 m.ahead c (spGet 0 m.ahead c - 1) } }).tlMarkers p) s

/-- R499: one 64-byte unit of a MOVE enters the port's queue as a DATA flit. -/
def State.tlData (s : State) (p part klass off : Nat) (bs : List Byte) : State :=
  let x := s.tlPort p
  (s.setTlPort p { x with queue := x.queue ++
    [⟨B.FLIT_KIND.put 1 + B.FLIT_PART.put part + B.FLIT_CLASS.put klass + B.FLIT_DEST.put off, bs⟩] }).tlPump p

/-- R506: at every frame start a SYNC flit leaves on each port of SYNC_OUT whose link is up, ahead of queued data. -/
def State.tlSync (s : State) : State :=
  (bitsOf 3 (s.fld F.TL_CFG_SYNC_OUT)).foldl (fun s p =>
    if s.tlUp p then
      let x := s.tlPort p
      let f : Flit := ⟨B.FLIT_KIND.put 3 + s.frameNum * 2 ^ 33 + B.FLIT_UNSYNCED.put (bit s.unsynced), List.replicate 64 0⟩
      let isSync := fun (g : Flit) => B.FLIT_KIND.get g.hdr == 3
      (s.setTlPort p { x with queue := x.queue.takeWhile isSync ++ [f] ++ x.queue.dropWhile isSync }).tlPump p
    else s) s

/-- R206: SYNC flits of frame `f` sent in this cycle carry its synced state. -/
def TlPort.resync (x : TlPort) (f : Nat) (unsynced : Bool) : TlPort :=
  let fix (g : Flit) : Flit :=
    if B.FLIT_KIND.get g.hdr = 3 ∧ (g.hdr >>> 33) % 2 ^ 48 = f then
      ⟨g.hdr - B.FLIT_UNSYNCED.put (B.FLIT_UNSYNCED.get g.hdr) + B.FLIT_UNSYNCED.put (bit unsynced), g.payload⟩ else g
  { x with queue := x.queue.map fix, sent := x.sent.map fix }

end Sys2Proof.Machine
end

