-- ==== Sys2Proof/Machine/Stow.lean ====
section
/-! DEFINITION. Stow (05): the lot table, touches, transfer queues and demand commands. What a transfer moves stands in
Transfer.lean, after the views it can name. -/

namespace Sys2Proof.Machine

/-! ## Lots -/

def lotSize : Nat := 65536

/-- R118: the pool lots of a core. -/
def State.isPool (s : State) (l : Nat) : Bool := decide (l < 6144) && decide (l % 384 < s.planLot)

/-- R121: the lots of partition `p`'s shares in core `c`. -/
def State.shareLots (s : State) (c p : Nat) : List Nat :=
  let b := s.fld F.MT_SHARE_BASE (8 * c + p)
  (List.range (s.fld F.MT_SHARE_COUNT (8 * c + p))).map fun k => 384 * c + b + k

def State.partLots (s : State) (p : Nat) : List Nat := (List.range 16).flatMap fun c => s.shareLots c p

/-- R127: the state code of a lot; lots of the plan region read PLAN. -/
def State.lotState (s : State) (l : Nat) : Nat := if s.isPool l then (s.lot l).state else 5

/-- R129: some unit of the lot carries a poison mark. -/
def State.lotPoison (s : State) (l : Nat) : Bool := s.poisonIn (lotAddr l) lotSize

/-- R132: a touch by partition `p`. -/
def State.touch (s : State) (p l : Nat) : State :=
  let q := s.fld F.MT_SEQ_SEQ p
  (s.setLot l { s.lot l with last := q }).setFld F.MT_SEQ_SEQ p (q + 1)

/-- Table MT-4: a whole-lot write from DDR4 address `h`. -/
def State.lotFromDdr (s : State) (l h : Nat) : State :=
  s.setLot l { s.lot l with state := 1, homeValid := true, home := h / lotSize }

/-- Table MT-4: a whole-lot write from another lot. -/
def State.lotFromLot (s : State) (l src : Nat) : State :=
  let e := s.lot src
  s.setLot l { s.lot l with state := e.state, homeValid := e.homeValid, home := e.home }

/-- Table MT-4: a whole-lot write from the lot to its own home. -/
def State.lotHome (s : State) (l : Nat) : State :=
  let e := s.lot l
  if e.state = 2 then s.setLot l { e with state := 1 } else s

/-- Table MT-4: any other write to an address of a core store. -/
def State.lotWritten (s : State) (a : Nat) : State :=
  if inCoreStore a && s.isPool (lotOf a) then
    let l := lotOf a
    let e := s.lot l
    if e.state = 1 ∨ e.state = 2 then s.setLot l { e with state := 2 }
    else if e.state = 0 ∨ e.state = 3 then s.setLot l { e with state := 3, homeValid := false }
    else s
  else s

/-- R138, Table MT-4: DROP or a restart frees a lot, but for one in flight. -/
def State.lotFree (s : State) (l : Nat) : State :=
  let e := s.lot l
  if e.state = 4 then s else s.setLot l { e with state := 0 }

/-! ## Transfer queues -/

/-- Table PL-5: the FCAUSE of an illegal transfer part of a slice, 0 when legal. -/
def moveFault (sl : Nat) : Nat :=
  let x := B.SLICE_XOP.get sl
  if x = 0 then 0
  else if 3 ≤ x then 2
  else if B.SLICE_XLEN.get sl = 0 ∨ 4094 < B.SLICE_XLEN.get sl then 3
  else if B.SLICE_XSRC.get sl % 64 ≠ 0 ∨ B.SLICE_XDST.get sl % 64 ≠ 0 then 3
  else 0

/-- R189: core, mask and row of an engine-broadcast address. -/
def broadcastView (a : Nat) : Option (Nat × Nat × Nat) :=
  if 0x4180_0000_0000 ≤ a ∧ a < 0x4200_0000_0000 then
    let v := a - 0x4180_0000_0000
    some (v / 0x0800_0000, v % 0x0800_0000 / 0x8_0000, v % 0x8_0000 / 64)
  else none

/-- The codec views (Table IM-1): the DDR4 address behind a view address, and whether the elements are signed. -/
def codecView (a : Nat) : Option (Nat × Bool) :=
  if 0x00A0_0000_0000 ≤ a ∧ a < 0x00E0_0000_0000 then some ((a - 0x00A0_0000_0000) / 2, true)
  else if 0x00E0_0000_0000 ≤ a ∧ a < 0x0120_0000_0000 then some ((a - 0x00E0_0000_0000) / 2, false)
  else none

/-- The DDR4 lines that an end of a transfer moves, in rising order: the first byte of each and the first unit it holds. A 64-byte unit of
a codec view is half a line (R198). -/
def endLines (p : Place) (len : Nat) : List (Nat × Nat) :=
  match p with
  | .addr a =>
    if a < ddrSize then (List.range len).map fun k => (a + 64 * k, k)
    else match codecView a with
      | some (b, _) => (List.range ((len + 1) / 2)).map fun k => (b + 64 * k, 2 * k)
      | none => []
  | _ => []

/-- The lines of an end on channel `ch`. -/
def linesOnChan (p : Place) (len ch : Nat) : List (Nat × Nat) := (endLines p len).filter fun x => ddrChan x.1 == ch

/-- What GRANT slots have moved for a transfer: read lines by channel, write lines by 8 + channel. -/
def Transfer.moved (t : Transfer) (k : Nat) : Nat := spGet 0 t.got k

/-- The lines of the source, and of the destination, on a channel that no GRANT slot has moved yet. -/
def Transfer.readsLeft (t : Transfer) (ch : Nat) : List (Nat × Nat) := (linesOnChan t.rsrc t.len ch).drop (t.moved ch)
def Transfer.writesLeft (t : Transfer) (ch : Nat) : List (Nat × Nat) := (linesOnChan t.rdst t.len ch).drop (t.moved (8 + ch))

/-- R33, R122, R156: every DDR4 line of the transfer has had its GRANT time, and no lost read waits to be issued again. -/
def Transfer.granted (t : Transfer) : Bool :=
  t.again.isEmpty && (List.range 8).all fun ch => (t.readsLeft ch).isEmpty && (t.writesLeft ch).isEmpty

/-- An end is a codec view, whose lines hold two units each. -/
def Place.coded (p : Place) : Bool := match p with | .addr a => (codecView a).isSome | _ => false

/-- Unit `k` lies in one of the lines of an end. -/
def unitIn (p : Place) (k : Nat) (xs : List (Nat × Nat)) : Bool := xs.any fun x => if p.coded then x.2 / 2 == k / 2 else x.2 == k

/-- The units that a transfer has still to write: off DDR4 those from the first not moved; to or from DDR4 those whose line no GRANT slot
has moved, or whose read was lost (R122, R125, R156). -/
def Transfer.unitLeft (t : Transfer) (k : Nat) : Bool :=
  match t.route with
  | .ddr =>
    unitIn t.rsrc k ((endLines t.rsrc t.len).filter fun x => t.again.any fun y => y.1 == x.1) ||
      (List.range 8).any fun ch => unitIn t.rsrc k (t.readsLeft ch) || unitIn t.rdst k (t.writesLeft ch)
  | _ => decide (t.done ≤ k)

/-- R125: a transfer has still to write some of the `n` bytes from `a`. -/
def Transfer.willWrite (t : Transfer) (a n : Nat) : Bool :=
  let hits (b : Nat) : Bool :=
    decide (a < b + 64 * t.len) && decide (b < a + n) &&
      ((List.range ((n + 126) / 64 + 1)).any fun i =>
        let k := (a - b) / 64 + i
        decide (k < t.len) && decide (a < b + 64 * k + 64) && decide (b + 64 * k < a + n) && t.unitLeft k)
  match t.rdst with
  | .addr b =>
    match broadcastView b with
    | some (c, mask, row) => (bitsOf 8 mask).any fun e => hits (opbRow (8 * c + e) row)
    | none => hits b
  | _ => false

/-- The core whose store or operand buffers hold an address, if any. -/
def coreOfAddr (a : Nat) : Option Nat :=
  if inCoreStore a then some ((a - coreBase 0) / 0x0200_0000)
  else if inOpb a then some (opbEngine a / 8)
  else match broadcastView a with
    | some (c, _, _) => some c
    | none => if 0x0090_0000_0000 ≤ a ∧ a < 0x00A0_0000_0000 then some ((a - 0x0090_0000_0000) / 0x1_0000_0000) else none

/-- Table MT-2: the path of a transfer of core `c` between its resolved ends. -/
def routeOf (c : Nat) (rsrc rdst : Place) : Route :=
  let ddr (p : Place) : Bool := match p with | .addr a => decide (a < ddrSize) || (codecView a).isSome | _ => false
  let core (p : Place) : Option Nat := match p with | .addr a => coreOfAddr a | _ => some c
  if ddr rsrc || ddr rdst then .ddr
  else if core rsrc = some c ∧ core rdst = some c then .inCore
  else .fabric (core rsrc) (core rdst)

/-- R123: a MOVE or SEGMENT_LOAD of the slice of core `c`, issued in ACLK cycle `t`, enters the core's queue, or is dropped where four are
queued. The first of the queue runs. -/
def State.moveStart (s : State) (c sl t : Nat) (rsrc rdst : Place) : State :=
  let part := B.SLICE_PART.get sl
  let slot := B.SLICE_SLOT_ID.get sl
  if 4 ≤ (s.queue c).length then s.stowFlag F.MT_STATUS_XQ_FULL 0 c part slot
  else
    let route := routeOf c rsrc rdst
    let x : Transfer :=
      { core := c, seg := B.SLICE_XOP.get sl == 2, len := B.SLICE_XLEN.get sl, src := B.SLICE_XSRC.get sl, dst := B.SLICE_XDST.get sl,
        rsrc := rsrc, rdst := rdst, idesc := none, part := part, klass := B.SLICE_CLASS.get sl, slot := slot, got := [], route := route,
        due := 0, done := 0, upto := (match route with | .fabric _ _ => s.clk.fclk | _ => t), carry := [], again := [], tags := none }
    s.setQueue c (s.queue c ++ [x])

/-! ## Demand commands -/

/-- R130: the partition is in demand mode. -/
def State.demandMode (s : State) (p : Nat) : Bool := hasBit (s.fld F.MT_CTRL_DEMAND) p

/-- R133: the 64 KiB pieces of a demand command's range, as DDR4 units of 64 KiB. -/
def demandPieces (c : Cmd) : List Nat := (List.range (c.len / lotSize)).map fun k => c.w64 4 / lotSize + k

/-- R133: the home lies wholly in the requester's region. -/
def State.demandDenied (s : State) (c : Cmd) : Bool :=
  (demandPieces c).any fun u => match s.regionOf (u * lotSize) with | some (q, _) => q != c.part | none => true

/-- The lot among `ls` that holds piece `u`. -/
def State.holding (s : State) (ls : List Nat) (u : Nat) : Option Nat :=
  ls.find? fun l => let e := s.lot l; e.homeValid && e.home == u && (e.state == 1 || e.state == 2)

/-- R135: the victim with the lowest LAST among the evictable lots of the share. -/
def State.oldest (s : State) (ls : List Nat) : Option Nat :=
  let vs := ls.filter fun l => let e := s.lot l; (e.state == 1 || e.state == 2) && !e.pin
  vs.foldl (fun b l => match b with
    | none => some l
    | some x => if (s.lot l).last < (s.lot x).last then some l else some x) none

/-- R135: one piece of a FETCH: the table after it, the moves it adds, and the lots written back. -/
def State.fetchPiece (s : State) (p u : Nat) (ls : List Nat) : State × List DemandMove × Nat :=
  match s.holding ls u with
  | some l => (s.touch p l, [], 0)
  | none =>
    let fill (s : State) (l : Nat) : State := (s.setLot l { s.lot l with state := 1, homeValid := true, home := u }).touch p l
    match ls.find? (fun l => (s.lot l).state == 0) with
    | some l => (fill s l, [⟨l, u, true⟩], 0)
    | none =>
      match s.oldest ls with
      | none => (s, [], 0)
      | some l =>
        let e := s.lot l
        let s := s.bump F.MT_EVICT_EVICTIONS p
        if e.state = 2 then
          let s := s.bump F.MT_EVICT_WRITEBACKS p
          (fill s l, [⟨l, e.home, false⟩, ⟨l, u, true⟩], 1)
        else (fill s l, [⟨l, u, true⟩], 0)

/-- Marks the lots of a list of moves IN_FLIGHT (Table MT-4). -/
def State.inFlight (s : State) (ms : List DemandMove) : State :=
  ms.foldl (fun s m => s.setLot m.lot { s.lot m.lot with state := 4 }) s

/-- R133, R135: what a demand command does when Stow starts it: the state, the transfers it needs and its answer. -/
def State.demandStart (s : State) (c : Cmd) : State × List DemandMove × Reply :=
  let op := B.DESC_OPCODE.get c.d.toNat
  let core := c.w 6 % 16
  let pieces := demandPieces c
  let ls := s.shareLots core c.part
  match op with
  | 0x0201 =>
    let news := pieces.filter fun u => (s.holding ls u).isNone
    let room := (ls.filter fun l => (s.lot l).state == 0).length +
      (ls.filter fun l => let e := s.lot l; (e.state == 1 || e.state == 2) && !e.pin).length
    if room < news.length then (s, [], lenRange 0)
    else
      let (s, ms, n) := pieces.foldl (fun (acc : State × List DemandMove × Nat) u =>
        let (t, m, k) := acc.1.fetchPiece c.part u ls
        (t, acc.2.1 ++ m, acc.2.2 + k)) (s, [], 0)
      (s.inFlight ms, ms, Reply.detailed (min 0xFFFF n))
  | 0x0202 =>
    let dirty := pieces.flatMap fun u => (s.partLots c.part).filter fun l =>
      let e := s.lot l; e.state == 2 && e.homeValid && e.home == u
    let ms : List DemandMove := dirty.map fun l => ⟨l, (s.lot l).home, false⟩
    let s := dirty.foldl (fun s l => (s.touch c.part l).bump F.MT_EVICT_WRITEBACKS c.part) s
    (s.inFlight ms, ms, Reply.detailed (min 0xFFFF ms.length))
  | _ =>
    let found := pieces.filterMap fun u => s.holding ls u
    let changed := found.filter fun l => if op = 0x0203 then !(s.lot l).pin else if op = 0x0204 then (s.lot l).pin else true
    let s := found.foldl (fun s l => s.touch c.part l) s
    let s := found.foldl (fun s l =>
      if op = 0x0203 then s.setLot l { s.lot l with pin := true }
      else if op = 0x0204 then s.setLot l { s.lot l with pin := false }
      else s.lotFree l) s
    (s, [], Reply.detailed changed.length)

def State.demandQueue (s : State) (p : Nat) : List DemandCmd := spGet [] s.stow.demand p
def State.setDemandQueue (s : State) (p : Nat) (q : List DemandCmd) : State :=
  { s with stow := { s.stow with demand := spSet [] s.stow.demand p q } }

/-- R134: starts the waiting commands of a partition until one has transfers to make; `n` is the number of those that wait. DESIGN CHOICE
(entry 35): R130 starts no transfer in service mode, so a command of a partition in service mode waits until its DEMAND bit is set. -/
def State.demandRun : Nat → State → Nat → State
  | 0, s, _ => s
  | n + 1, s, p =>
    match s.demandQueue p with
    | [] => s
    | q :: rest =>
      if q.started then s
      else if s.demandMode p then
        let c : Cmd := ⟨q.ring, q.desc, p, B.DESC_CONTEXT.get q.desc.toNat⟩
        let (s, ms, r) := s.demandStart c
        match ms with
        | [] => State.demandRun n ((s.setDemandQueue p rest).finish q.ring q.desc r) p
        | _ => s.setDemandQueue p (⟨q.ring, q.desc, true, ms, r.status, r.detail⟩ :: rest)
      else s

def State.demandStartAll (s : State) (p : Nat) : State := s.demandRun ((s.demandQueue p).length + 1) p

/-- R133, R134: a demand command of the Stow family, which waits for its turn and for demand mode (R130). -/
def demandBody (s : State) (c : Cmd) : State × Option Reply :=
  if s.demandDenied c then (s, some (denied 0))
  else if c.w64 4 % lotSize ≠ 0 then (s, some (lenRange 0))
  else
    let q := s.demandQueue c.part
    ((s.setDemandQueue c.part (q ++ [⟨c.ring, c.d, false, [], 0, 0⟩])).demandStartAll c.part, none)

/-- R152: DDR4 lines of which half carries a mark are poisoned whole. -/
def State.wholeLines (s : State) (a n : Nat) : State :=
  let marked := spKeep (fun k => decide (a ≤ 32 * k) && decide (32 * k < a + n)) s.poison
  let whole (t : List (Nat × Bool)) (e : Nat × Bool) := spSet false (spSet false t (e.1 / 2 * 2) true) (e.1 / 2 * 2 + 1) true
  { s with poison := marked.foldl whole s.poison }

/-- R157: lines that are overwritten are no longer lost. -/
def State.overwritten (s : State) (a n : Nat) : State :=
  let d := s.chan (ddrChan a)
  s.setChan (ddrChan a) { d with bad := d.bad.filter fun l => !(decide (a ≤ l) && decide (l < a + n)) }

/-- A demand transfer moves one lot between its home and the core store (R128, R129). -/
def State.demandMoveData (s : State) (p : Nat) (m : DemandMove) : State :=
  let h := m.home * lotSize
  let s := s.classLines p 3 1024
  if m.fill then
    let ch := ddrChan h
    let d := s.chan ch
    let hit := d.bad.filter fun a => decide (h ≤ a) && decide (a < h + lotSize)
    let s := s.copyRange h (lotAddr m.lot) lotSize
    let s := hit.foldl (fun s a => s.markRange (lotAddr m.lot + (a - h)) 64 true) s
    let s := s.setChan ch { s.chan ch with bad := d.bad.filter fun a => !(hit.contains a) }
    s.lotFromDdr m.lot h
  else if (s.tagOf h).writes p then ((s.copyRange (lotAddr m.lot) h lotSize).wholeLines h lotSize).overwritten h lotSize
  else s.violation p h

/-- R128, R134: the running demand transfer of partition `p` completes: its lot becomes CLEAN, and with its last transfer the
command completes. -/
def State.demandComplete (s : State) (p : Nat) : State :=
  match s.demandQueue p with
  | [] => s
  | q :: rest =>
    match q.moves with
    | [] => s
    | m :: ms =>
      let s := s.demandMoveData p m
      let more := ms.any fun x => x.lot == m.lot
      let s := if more then s else s.setLot m.lot { s.lot m.lot with state := 1 }
      if ms.isEmpty then ((s.setDemandQueue p rest).finish q.ring q.desc ⟨q.status, q.detail, 0, none⟩).demandStartAll p
      else s.setDemandQueue p ({ q with moves := ms } :: rest)

/-! ## Registers and rows -/

/-- R141, Table MT-10: the entry of a lot as MT_LOT_W0 shows it. -/
def State.lotWord (s : State) (l : Nat) : BitVec 64 :=
  let e := s.lot l
  let owner := (s.shareOf (l / 384) (l % 384)).getD e.part
  BitVec.ofNat 64 (s.lotState l + owner * 2 ^ 4 + bit e.pin * 2 ^ 8 + bit e.save * 2 ^ 9 + bit e.swap * 2 ^ 10 +
    bit (s.lotPoison l) * 2 ^ 11 + bit e.homeValid * 2 ^ 12 + e.home * 2 ^ 32)

/-- Table MT-11: MT_PSTAT of partition `p`, computed from the lot table. -/
def State.pstat (s : State) (p : Nat) : BitVec 64 :=
  let ls := s.partLots p
  BitVec.ofNat 64 ((ls.countP fun l => (s.lot l).state != 0) + (ls.countP fun l => (s.lot l).state == 2) * 2 ^ 16 +
    (ls.countP fun l => (s.lot l).pin) * 2 ^ 32)

/-- MT_LOT_SEL_WRITE (R141): copies a lot's entry into MT_LOT_W0 and MT_LOT_W1. -/
def execMtLotSelWrite (sel : BitVec 13) (s : State) : Host.Outcome State Fault Refusal :=
  if s.dark then .next s
  else
  let l := sel.toNat
  if l < 6144 then
    .next ((s.setReg R.MT_LOT_W0 0 (s.lotWord l)).setReg R.MT_LOT_W1 0 (BitVec.ofNat 64 (s.lot l).last))
  else .next ((s.setReg R.MT_LOT_W0 0 0).setReg R.MT_LOT_W1 0 0)

/-- MT_FETCH (R133, R135). -/
def execMtFetch (ring : BitVec 14) (d : Desc) (s : State) : Host.Outcome State Fault Refusal :=
  .next (s.command ring d 0x0201 demandBody)

/-- MT_FLUSH (R133). -/
def execMtFlush (ring : BitVec 14) (d : Desc) (s : State) : Host.Outcome State Fault Refusal :=
  .next (s.command ring d 0x0202 demandBody)

/-- MT_PIN (R133). -/
def execMtPin (ring : BitVec 14) (d : Desc) (s : State) : Host.Outcome State Fault Refusal :=
  .next (s.command ring d 0x0203 demandBody)

/-- MT_UNPIN (R133). -/
def execMtUnpin (ring : BitVec 14) (d : Desc) (s : State) : Host.Outcome State Fault Refusal :=
  .next (s.command ring d 0x0204 demandBody)

/-- MT_DROP (R133). -/
def execMtDrop (ring : BitVec 14) (d : Desc) (s : State) : Host.Outcome State Fault Refusal :=
  .next (s.command ring d 0x0205 demandBody)

end Sys2Proof.Machine
end

