-- ==== Sys2Proof/Machine/Sequence.lean ====
section
/-! DEFINITION. Sequence rows, steps and walkers (07). -/

namespace Sys2Proof.Machine

/-! ## Configuration of a partition's unit -/

def seqIdx (p : Nat) : Nat := p - 2
def State.seqRows (s : State) (p : Nat) : Nat := s.fld F.PL_SEQ_CFG_ROWS (seqIdx p)
def State.seqMaxTokens (s : State) (p : Nat) : Nat := 128 * s.fld F.PL_SEQ_CFG_MAX_TOK (seqIdx p)
def State.seqTpp (s : State) (p : Nat) : Nat := s.fld F.PL_SEQ_CFG_TPP (seqIdx p)
/-- R167: T_asm. -/
def State.seqTasm (s : State) (p : Nat) : Nat := 64 + 4 * s.seqRows p + s.seqMaxTokens p / 4
/-- R166: the DDR4 address of log entry `n` of a row. -/
def State.seqLogAddr (s : State) (p row n : Nat) : Nat :=
  s.fld F.PL_SEQ_LOG_BASE (seqIdx p) * 0x40_0000 + row * 0x40_0000 + 4 * n
def State.seqListAddr (s : State) (p : Nat) : Nat := lotAddr (s.fld F.PL_SEQ_LOG_LIST_LOT (seqIdx p))

/-- Rows of the partition that exist, in ascending index. -/
def State.seqAll (s : State) (p : Nat) : List Nat := List.range (s.seqRows p)

/-! ## Row entries -/

/-- Table SQ-1: a row entry as a number of 64 bytes. -/
def SeqRow.entry (x : SeqRow) : Nat :=
  B.ROW_STATE.put x.state + B.ROW_AUTO.put (bit x.auto) + B.ROW_RESETS.put x.marks.length + B.ROW_CONTEXT.put x.ctx +
  B.ROW_POS.put x.pos + B.ROW_LOG_LEN.put x.logLen + B.ROW_HIGH.put x.high + B.ROW_COLUMNS.put x.cols.length +
  B.ROW_PAGE_WAIT.put x.pageWait + B.ROW_NEXT_TOKEN.put x.nextToken + B.ROW_NEXT_VALID.put (bit x.nextValid) +
  B.ROW_LAST_STEP.put x.lastStep

/-- Every reset position of a row, marked or processed. -/
def SeqRow.resets (x : SeqRow) : List Nat := x.marks ++ x.past

/-- R170: the RESET bit of a position. -/
def SeqRow.isReset (x : SeqRow) (n : Nat) : Bool := n == 0 || x.resets.contains n

/-- R172: the row's most recent reset at or below a position. -/
def SeqRow.segment (x : SeqRow) (n : Nat) : Nat := (x.resets.filter fun r => decide (r ≤ n)).foldl max 0

/-! ## Assembly -/

/-- What assembly works on: the rows, the free columns in ascending order, the takes by row, and what it counts. -/
structure Asm where
  rows  : SeqPart
  free  : List Nat
  take  : List (Nat × Nat)
  drops : Nat
  waits : Nat
deriving DecidableEq, Repr

/-- R169: the ACTIVE rows in ascending index, rotated to begin at START. -/
def seqOrder (q : SeqPart) (all : List Nat) : List Nat :=
  let act := all.filter fun r => (q.row r).state == 2
  (act.filter fun r => decide (q.start ≤ r)) ++ act.filter fun r => decide (r < q.start)

/-- R169: the first pass, one token for each row with a pending token, and the second, the rest of the budget. -/
def seqTakes (q : SeqPart) (order : List Nat) (budget : Nat) : List (Nat × Nat) :=
  let (b, t) := order.foldl (fun (acc : Nat × List (Nat × Nat)) r =>
    let x := q.row r
    if 0 < acc.1 ∧ x.pos < x.logLen then (acc.1 - 1, spSet 0 acc.2 r 1) else acc) (budget, [])
  (order.foldl (fun (acc : Nat × List (Nat × Nat)) r =>
    let x := q.row r
    let more := min (x.logLen - x.pos - spGet 0 acc.2 r) acc.1
    (acc.1 - more, spSet 0 acc.2 r (spGet 0 acc.2 r + more))) (b, t)).2

/-- R180: the candidate with the lowest LAST_STEP, the lowest index on a tie. -/
def dropVictim (a : Asm) (all : List Nat) : Option Nat :=
  (all.filter fun r => spGet 0 a.take r == 0 && !(a.rows.row r).cols.isEmpty).foldl (fun b r => match b with
    | none => some r
    | some x => if (a.rows.row r).lastStep < (a.rows.row x).lastStep then some r else some x) none

/-- The free columns with some more, kept in ascending order. -/
def addFree (free : List Nat) (cs : List Nat) : List Nat := (free ++ cs).mergeSort (fun x y => decide (x ≤ y))

/-- R180: the victim loses its highest column, or every column where it holds recurrent state. -/
def dropColumn (a : Asm) (v tpp stateBytes : Nat) : Asm :=
  let x := a.rows.row v
  let last := x.cols.getLast?.toList
  let keep := x.cols.dropLast
  if 0 < stateBytes then
    { a with rows := a.rows.setRow v { x with cols := [], pos := 0 }
             free := addFree a.free (last ++ keep)
             drops := a.drops + 1 }
  else
    { a with rows := a.rows.setRow v { x with cols := keep, pos := min x.pos (keep.length * tpp) }
             free := addFree a.free last
             drops := a.drops + 1 }

/-- R169: drops columns of victims until `need` are free or no victim is left; `n` bounds the drops. -/
def dropUntil : Nat → Asm → List Nat → Nat → Nat → Nat → Asm
  | 0, a, _, _, _, _ => a
  | n + 1, a, all, need, tpp, sb =>
    if need ≤ a.free.length then a
    else match dropVictim a all with
      | none => a
      | some v => dropUntil n (dropColumn a v tpp sb) all need tpp sb

/-- R169: the third pass over one row: its columns, its cut where they do not suffice, and LAST_STEP. -/
def asmRow (all : List Nat) (tpp sb step : Nat) (a : Asm) (r : Nat) : Asm :=
  let t := spGet 0 a.take r
  if t = 0 then a
  else
    let x := a.rows.row r
    let need := (x.pos + t + tpp - 1) / tpp - x.cols.length
    let a := dropUntil 16384 a all need tpp sb
    let x := a.rows.row r
    let cut := decide (a.free.length < need)
    let t := if cut then (x.cols.length + a.free.length) * tpp - x.pos else t
    let got := min need a.free.length
    let x := { x with
      cols := x.cols ++ a.free.take got
      pageWait := if cut then min 65535 (x.pageWait + 1) else x.pageWait
      lastStep := step }
    { a with rows := a.rows.setRow r x
             free := a.free.drop got
             take := spSet 0 a.take r t
             waits := a.waits + bit cut }

/-- R169, steps 1 to 3: what the flip does to the rows before the step's tokens are chosen; the AUTO tokens to append to the logs
(row, position, token), the tokens dropped at a full log, and the SEQ_LEAVE commands that complete. -/
def flipRows (q : SeqPart) (all : List Nat) : SeqPart × List (Nat × Nat × Nat) × Nat × List (Nat × Desc) :=
  all.foldl (fun (acc : SeqPart × List (Nat × Nat × Nat) × Nat × List (Nat × Desc)) r =>
    let (q, logs, full, done) := acc
    let x := q.row r
    if x.state = 3 then (q.setRow r SeqRow.reset, logs, full, done ++ x.leave)
    else if x.state = 0 then acc
    else
      let y := if x.state = 1 then { x with state := 2, pos := 0, high := 0, cols := [], nextValid := false } else { x with nextValid := false }
      if x.auto && x.nextValid then
        if x.logLen < 1048576 then (q.setRow r { y with logLen := x.logLen + 1 }, logs ++ [(r, x.logLen, x.nextToken)], full, done)
        else (q.setRow r y, logs, full + 1, done)
      else (q.setRow r y, logs, full, done)) (q, [], 0, [])

/-- R170: the takes of a step in list order. -/
def stepTakes (a : Asm) (order : List Nat) : List SeqTake :=
  (order.foldl (fun (acc : Nat × List SeqTake) r =>
    let t := spGet 0 a.take r
    let x := a.rows.row r
    if t = 0 then acc else (acc.1 + t, acc.2 ++ [⟨r, x.pos, t, x.high, x.segment x.pos, acc.1, x.cols⟩])) (0, [])).2

/-- R170, Table SQ-2: a token-list entry. -/
def State.tokenEntry (s : State) (p : Nat) (q : SeqPart) (t : SeqTake) (n : Nat) : Nat :=
  B.TOK_TOKEN.put (s.rdLe (s.seqLogAddr p t.row n) 4) + B.TOK_POS.put n + B.TOK_ROW.put t.row +
  B.TOK_RESET.put (bit ((q.row t.row).isReset n)) + B.TOK_OUT.put (bit (decide (t.high ≤ n))) +
  B.TOK_RECOMPUTE.put (bit (decide (n < t.high)))

/-- R170: a row after its take: POS, HIGH, and its marks below POS processed. -/
def advanceRow (x : SeqRow) (t : Nat) : SeqRow :=
  let pos := x.pos + t
  { x with
    pos := pos
    high := max x.high pos
    marks := x.marks.filter fun r => decide (pos ≤ r)
    past := x.past ++ x.marks.filter fun r => decide (r < pos) }

/-- R165, R171: the plan may have written NEXT_TOKEN and NEXT_VALID of each row that is bound. By which access it writes them is not in the
spec, so what they hold is a free value (entry 57). -/
def State.planWritesNext (s : State) (p : Nat) : State :=
  (s.seqAll p).foldl (fun (s : State) r =>
    let x := (s.seqPart p).row r
    if x.state = 0 then s
    else
      let (v, s) := s.fresh
      s.setSeqPart p ((s.seqPart p).setRow r { x with
        nextToken := v.toNat % 2 ^ 32
        nextValid := v.getLsbD 32 })) s

/-- Table MT-4: a write of `n` bytes from `a`, which lie in one lot: the lot's state follows. -/
def State.wrLot (s : State) (a : Nat) (bytes : List Byte) : State := (s.wrMarked a bytes false).lotWritten a

/-- R169, R172, R175: the assembled step becomes visible: its token list, the rows' updates and the walkers' lists. -/
def State.seqVisible (s : State) (p : Nat) : State :=
  let q := s.seqPart p
  match q.building with
  | none => s
  | some (built, st) =>
    let a := s.seqListAddr p
    let n := s.seqMaxTokens p
    let bytes := (st.tokens.take n).flatMap (leBytes 8)
    let s := s.wrLot a (bytes ++ List.replicate (8 * n - bytes.length) 0)
    let merge (q : SeqPart) (e : Nat × SeqRow) : SeqPart :=
      let cur := q.row e.1
      q.setRow e.1 { cur with
        pos := e.2.pos
        high := e.2.high
        cols := e.2.cols
        pageWait := e.2.pageWait
        lastStep := e.2.lastStep
        marks := cur.marks.filter fun r => !(e.2.past.contains r)
        past := e.2.past }
    let q := built.foldl merge q
    let live := (List.range 4).filter fun w => s.fld F.PL_SEQ_WALK_KIND (4 * seqIdx p + w) != 0
    s.setSeqPart p { q with building := none, step := st, walk := [], due := live }

/-- R167–R170: a flip of partition `p` at the end `t` of a bundle. One that comes within T_asm of the last is ignored and counted. -/
def State.seqFlip (s : State) (p t : Nat) : State :=
  let early := match (s.seqPart p).lastFlip with
    | some u => decide (t < u + s.seqTasm p)
    | none => false
  if early then s.bump F.PL_SEQ_COUNTS_FLIP_EARLY (seqIdx p)
  else
    let s := (s.seqVisible p).planWritesNext p
    let all := s.seqAll p
    let step := s.fld F.PL_SEQ_STEP_STEP (seqIdx p) + 1
    let s := s.setFld F.PL_SEQ_STEP_STEP (seqIdx p) step
    let s := s.record 0x12 p (words ([p, step, s.fld F.PL_STEP_STEP] ++ (s.seqPart p).tags))
    let (q, logs, full, done) := flipRows (s.seqPart p) all
    let s := logs.foldl (fun (s : State) x => s.wrLe (s.seqLogAddr p x.1 x.2.1) 4 x.2.2) s
    let s := s.bump F.PL_SEQ_COUNTS_LOG_FULL (seqIdx p) full
    let order := seqOrder q all
    let held := all.flatMap fun r => (q.row r).cols
    let free := (List.range (s.fld F.PL_SEQ_CFG_COLUMNS (seqIdx p))).filter fun c => !(held.contains c)
    let a0 : Asm := ⟨q, free, seqTakes q order (s.seqMaxTokens p), 0, 0⟩
    let a := order.foldl (asmRow all (s.seqTpp p) (s.fld F.PL_SEQ_LOG_STATE_BYTES (seqIdx p)) step) a0
    let takes := stepTakes a order
    let tokens := takes.flatMap fun t => (List.range t.take).map fun k => s.tokenEntry p a.rows t (t.first + k)
    let again := takes.foldl (fun n t => n + min t.take (t.high - t.first)) 0
    let built := all.filterMap fun r =>
      let x := a.rows.row r
      if x.state = 0 then none else some (r, advanceRow x (spGet 0 a.take r))
    let s := s.bump F.PL_SEQ_COUNTS_PAGE_DROPS (seqIdx p) a.drops
    let s := s.bump F.PL_SEQ_COUNTS_PAGE_WAIT (seqIdx p) a.waits
    let s := s.setSeqPart p { q with
      start := if s.seqRows p = 0 then 0 else (q.start + 1) % s.seqRows p
      lastFlip := some t
      building := some (built, ⟨takes, tokens⟩)
      again := q.again + again
      tags := [] }
    let n := (s.seqPart p).again
    let s := s.setFld F.PL_SEQ_COUNTS_RECOMPUTE_TOKENS (seqIdx p)
      (min 65535 (s.fld F.PL_SEQ_COUNTS_RECOMPUTE_TOKENS (seqIdx p) + n / 1000))
    let s := s.setSeqPart p { s.seqPart p with again := n % 1000 }
    done.foldl (fun (s : State) x => s.finish x.1 x.2 Reply.ok) s

/-- SEQ_ASSEMBLY_VISIBLE (R167, R169): T_asm ACLK cycles after the flip the step becomes visible. -/
def execSeqAssemblyVisible (p : PartId) (dt : Nat) (s : State) : Host.Outcome State Fault Refusal :=
  if s.coreDark then .next s
  else
  let s := s.tickA dt
  match (s.seqPart p.val).lastFlip with
  | some t => .next (if t + s.seqTasm p.val ≤ s.clk.aclk then s.seqVisible p.val else s)
  | none => .next s

/-! ## Walkers -/

/-- An item of a walker: row, column, first position, count, segment start, list index. -/
structure SeqItem where
  row   : Nat
  col   : Nat
  first : Nat
  count : Nat
  seg   : Nat
  list  : Nat
deriving DecidableEq, Repr

/-- R172, Table SQ-3: the items of a walker of kind `kind`, in order. -/
def seqItems (kind tpp : Nat) (st : SeqStep) : List SeqItem :=
  match kind with
  | 1 =>
    let n := st.tokens.length
    (List.range ((n + 127) / 128)).map fun i => ⟨0, 0, 0, min 128 (n - 128 * i), 0, 0⟩
  | 2 => st.takes.flatMap fun t =>
      let lo := t.seg / tpp
      let hi := (t.first + t.take - 1) / tpp
      (List.range (hi + 1 - lo)).map fun k =>
        ⟨t.row, t.cols.getD (lo + k) 0, (lo + k) * tpp, min tpp (t.first + t.take - (lo + k) * tpp), t.seg, t.list⟩
  | 3 => st.takes.map fun t => ⟨t.row, 0, t.first, t.take, t.seg, t.list⟩
  | _ => []

def State.walkKind (s : State) (p w : Nat) : Nat := s.fld F.PL_SEQ_WALK_KIND (4 * seqIdx p + w)
def State.walkItems (s : State) (p w : Nat) : List SeqItem := seqItems (s.walkKind p w) (s.seqTpp p) (s.seqPart p).step
def State.walkAt (s : State) (p w : Nat) : Nat := spGet 0 (s.seqPart p).walk w

/-- Table SQ-4: the item record of lead `k`. -/
def itemRecord (kind i : Nat) (it : Option SeqItem) : Nat :=
  match it with
  | none => 0
  | some x => B.ITEM_VALID.put 1 + B.ITEM_ROW.put (if kind = 1 then 0 else x.row) + B.ITEM_INDEX.put i +
      B.ITEM_FIRST_POS.put x.first + B.ITEM_COUNT.put x.count + B.ITEM_SEG_START.put x.seg + B.ITEM_LIST_FIRST.put x.list

/-- WALKER_ITEM_WRITE (R175): a walker that has acted writes its four lead records, then count − i to its condition register. -/
def execWalkerItemWrite (p : PartId) (w : Fin 4) (dt : Nat) (s : State) : Host.Outcome State Fault Refusal :=
  if s.coreDark then .next s
  else
  let s := s.tickA dt
  let q := s.seqPart p.val
  if q.due.contains w.val then
    let r := 4 * seqIdx p.val + w.val
    let items := s.walkItems p.val w.val
    let i := s.walkAt p.val w.val
    let a := coreBase (s.fld F.PL_SEQ_WALK_CORE r) + 32 * s.fld F.PL_SEQ_WALK_ITEM_ADDR r
    let bytes := (List.range 4).flatMap fun k => leBytes 64 (itemRecord (s.walkKind p.val w.val) (i + k) items[i + k]?)
    let s := s.wrLot a bytes
    let s := s.setSeqPart p.val { q with due := q.due.filter fun x => x != w.val }
    .next (s.condWrite (s.fld F.PL_SEQ_WALK_COND r) (items.length - i))
  else .next s

/-- R175: ADVANCE and REWIND of a partition's walkers on PUBLISH bit `b`. -/
def State.walkPublish (s : State) (p b : Nat) : State :=
  (List.range 4).foldl (fun (s : State) w =>
    let r := 4 * seqIdx p + w
    let q := s.seqPart p
    if s.walkKind p w = 0 then s
    else if s.fld F.PL_SEQ_WALK_ADV_BIT r = b then
      s.setSeqPart p { q with
        walk := spSet 0 q.walk w (min (s.walkAt p w + 1) (s.walkItems p w).length)
        due := if q.due.contains w then q.due else q.due ++ [w] }
    else if s.fld F.PL_SEQ_WALK_REW_BIT r = b then
      s.setSeqPart p { q with
        walk := spSet 0 q.walk w 0
        due := if q.due.contains w then q.due else q.due ++ [w] }
    else s) s

/-- The sequence side of PUBLISH bit `b` at the end `t` of a bundle (R167, R175). -/
def State.seqPublish (s : State) (b t : Nat) : State :=
  (List.range 6).foldl (fun (s : State) i =>
    let p := i + 2
    if s.seqRows p = 0 then s
    else
      let s := s.walkPublish p b
      if s.fld F.PL_SEQ_CFG_FLIP_BIT i = b then s.seqFlip p t else s) s

/-- R173: a walker view address: partition, walker and the rest. -/
def walkView (a : Nat) : Option (Nat × Nat × Nat) :=
  if 0x0080_0000_0000 ≤ a ∧ a < 0x0088_0000_0000 then
    let v := a - 0x0080_0000_0000
    some (v / 0x1_0000_0000, v % 0x1_0000_0000 / 0x4000_0000, v % 0x4000_0000)
  else none

/-- R173, R174: a transfer of `len` units at view address `a` by a slice of partition `part` resolves its translation. -/
def State.walkPlace (s : State) (part a len : Nat) : Place :=
  match walkView a with
  | none => .addr a
  | some (p, w, v) =>
    let off := v % 65536
    let k := v / 65536 % 4
    let layer := v / 2 ^ 23
    let kind := s.walkKind p w
    if p ≠ part ∨ p < 2 ∨ v / 2 ^ 18 % 32 ≠ 0 ∨ 65536 < off + 64 * len ∨ (kind ≠ 2 ∧ layer ≠ 0) then .violation
    else
      let i := s.walkAt p w + k
      match (s.walkItems p w)[i]? with
      | none => .pastEnd
      | some x =>
        if kind = 1 then .addr (s.seqListAddr p + i * 1024 + off)
        else if kind = 2 then
          let lpad := (s.fld F.PL_SEQ_CFG_LAYERS (seqIdx p) + 7) / 8 * 8
          .addr (s.fld F.PL_SEQ_LOG_KV_BASE (seqIdx p) * 0x40_0000 + (x.col * lpad + layer) * 65536 + off)
        else .addr (s.fld F.PL_SEQ_LOG_STATE_BASE (seqIdx p) * 0x4000_0000 +
          x.row * (s.fld F.PL_SEQ_LOG_STATE_BYTES (seqIdx p) * 65536) + off)

/-! ## Commands -/

/-- The row bound to a context. -/
def State.seqRowOf (s : State) (p ctx : Nat) : Option Nat :=
  (s.seqAll p).find? fun r => let x := (s.seqPart p).row r; x.state != 0 && x.ctx == ctx

/-- R168: a sequence command has been applied to the pending rows. -/
def State.seqApplied (s : State) (c : Cmd) (q : SeqPart) : State := s.setSeqPart c.part { q with tags := q.tags ++ [c.tag] }

/-- R187: SEQ_JOIN. -/
def seqJoin (s : State) (c : Cmd) : State × Option Reply :=
  let q := s.seqPart c.part
  if s.seqRows c.part = 0 then (s, some ⟨2, 2, 0, none⟩)
  else match (s.seqAll c.part).find? fun r => (q.row r).state == 0 with
    | none => (s, some ⟨2, 1, 0, none⟩)
    | some r =>
      if (s.seqRowOf c.part c.ctx).isSome then (s, some (conflict 0))
      else (s.seqApplied c (q.setRow r { SeqRow.reset with state := 1, auto := hasBit (c.w 4) 0, ctx := c.ctx }),
        some (Reply.detailed r))

/-- R187: a command that needs the row of its context; without one it fails with NO_CONTEXT. -/
def withRow (s : State) (c : Cmd) (f : Nat → SeqRow → State × Option Reply) : State × Option Reply :=
  match s.seqRowOf c.part c.ctx with
  | none => (s, some ⟨2, 0, 0, none⟩)
  | some r => f r ((s.seqPart c.part).row r)

/-- R187: SEQ_APPEND. -/
def seqAppend (s : State) (c : Cmd) : State × Option Reply :=
  withRow s c fun r x =>
    let n := c.len / 4
    if !(s.exchange c.ctx (c.w64 4) c.len) then (s, some (denied 4))
    else if 1048576 < x.logLen + n then (s, some (lenRange 0))
    else
      let s := s.wrBytes (s.seqLogAddr c.part r x.logLen) (s.rdBytes (c.w64 4) c.len)
      (s.seqApplied c ((s.seqPart c.part).setRow r { x with logLen := x.logLen + n }), some Reply.ok)

/-- R187: a row as the last flip leaves it: the POS it will have, and the marks still pending. -/
def SeqPart.flipped (q : SeqPart) (r : Nat) : SeqRow :=
  let x := q.row r
  match q.building with
  | some (built, _) =>
    match built.find? fun e => e.1 == r with
    | some e => { x with pos := e.2.pos, marks := x.marks.filter fun n => !(e.2.past.contains n) }
    | none => x
  | none => x

/-- R187: SEQ_RESET. A position that the last flip has taken is processed, though its step is not visible yet. -/
def seqReset (s : State) (c : Cmd) : State × Option Reply :=
  withRow s c fun r x =>
    let n := c.w 4 % 2 ^ 21
    let y := (s.seqPart c.part).flipped r
    if n < y.pos ∨ x.logLen ≤ n ∨ 8 ≤ y.marks.length then (s, some (lenRange 0))
    else
      let marks := if x.marks.contains n then x.marks else x.marks ++ [n]
      (s.seqApplied c ((s.seqPart c.part).setRow r { x with marks := marks }), some Reply.ok)

/-- R187: SEQ_LEAVE completes after the flip that empties the row. -/
def seqLeave (s : State) (c : Cmd) : State × Option Reply :=
  withRow s c fun r x =>
    (s.seqApplied c ((s.seqPart c.part).setRow r { x with state := 3, leave := x.leave ++ [(c.ring, c.d)] }), none)

/-- R187: SEQ_QUERY. R168 lists its tag with those of the other sequence commands. -/
def seqQuery (s : State) (c : Cmd) : State × Option Reply :=
  withRow s c fun r _ =>
    if s.exchange c.ctx (c.w64 4) 64 then
      let s := s.planWritesNext c.part
      let q := s.seqPart c.part
      ((s.wrMarked (c.w64 4) (leBytes 64 (q.row r).entry) false).seqApplied c q, some Reply.ok)
    else (s, some (denied 4))

/-- SEQ_JOIN (R187). -/
def execSeqJoin (ring : BitVec 14) (d : Desc) (s : State) : Host.Outcome State Fault Refusal := .next (s.command ring d 0x0301 seqJoin)
/-- SEQ_APPEND (R187). -/
def execSeqAppend (ring : BitVec 14) (d : Desc) (s : State) : Host.Outcome State Fault Refusal :=
  .next (s.command ring d 0x0302 seqAppend)
/-- SEQ_RESET (R187). -/
def execSeqReset (ring : BitVec 14) (d : Desc) (s : State) : Host.Outcome State Fault Refusal := .next (s.command ring d 0x0303 seqReset)
/-- SEQ_LEAVE (R187). -/
def execSeqLeave (ring : BitVec 14) (d : Desc) (s : State) : Host.Outcome State Fault Refusal := .next (s.command ring d 0x0304 seqLeave)
/-- SEQ_QUERY (R187). -/
def execSeqQuery (ring : BitVec 14) (d : Desc) (s : State) : Host.Outcome State Fault Refusal := .next (s.command ring d 0x0305 seqQuery)

/-- R179: a restart of the partition empties every row and frees every column. -/
def State.seqRestart (s : State) (p : Nat) : State :=
  let q := s.seqPart p
  s.setSeqPart p { q with rows := [], building := none, step := ⟨[], []⟩, walk := [], due := [], tags := [] }

end Sys2Proof.Machine
end

