-- ==== Sys2Proof/Machine/Restart.lean ====
section
/-! DEFINITION. Partition states and the restart of a best-effort partition (19): what BU_RESTART waits for and what it leaves. -/

namespace Sys2Proof.Machine

/-- Table BU-10: the state of a partition; 0 is not configured. -/
def State.partState (s : State) (p : Nat) : Nat := s.fld F.BC_PART_STATE_STATE / 8 ^ p % 8

/-- Table BU-10: partition `p` enters state `v`; R437: the fill stream is held while any is STOPPING, STOPPED or TESTING. -/
def State.setPartState (s : State) (p v : Nat) : State :=
  let x := s.fld F.BC_PART_STATE_STATE
  let s := s.setFld F.BC_PART_STATE_STATE 0 (x - s.partState p * 8 ^ p + v * 8 ^ p)
  s.setFld F.BC_PART_STATE_FILL_HELD 0 (bit ([2, 3, 4, 5, 6, 7].any fun q => decide (2 ≤ s.partState q)))

/-- R437: the fill stream is held. -/
def State.fillHeld (s : State) : Bool := s.flag F.BC_PART_STATE_FILL_HELD

/-- R396: the descriptor that stands in command slot `i` of ring `r`. -/
def State.slotDesc (s : State) (r i : Nat) : Desc :=
  let g := s.ring r
  match s.backed g.chan (g.cmdSlot i) with
  | some a => BitVec.ofNat 512 (s.rdLe a 64)
  | none => 0

/-- R409: the next descriptor of ring `r` is fetched and completes with DEGRADED, detail 2, unless a check of Table BC-3 rejects it. -/
def State.fetchDegraded (s : State) (r : Nat) : State :=
  let d := s.slotDesc r (s.ring r).sqHead
  match s.takeSlot r with
  | none => s
  | some s =>
    let s := s.record 0x06 r (leBytes 64 d.toNat ++ words [r]) 7
    match s.descCheck r d with
    | some (st, det) => (s.bump F.BC_COUNTS_REJECTED).post r d ⟨st, det, 0, none⟩
    | none => s.post r d ⟨s.outcome 0x11, 2, 0, none⟩

/-- R409: every posted descriptor of ring `r` that has not been fetched. -/
def State.drainRing (s : State) (r : Nat) : State :=
  let g := s.ring r
  (List.range ((g.tail + 65536 - g.sqHead) % 65536)).foldl (fun (s : State) _ => s.fetchDegraded r) s

/-- The context rings of partition `p` from which Basecamp still fetches. -/
def State.partRings (s : State) (p : Nat) : List Nat :=
  (s.rings.table.filter fun x => decide (2 ≤ x.1) && x.2.valid && !x.2.stopped && s.ctxPart x.2.ctx == some p).map fun x => x.1

/-- R432: partitions that use core `c`: those with lots in it. -/
def State.coreParts (s : State) (c : Nat) : List Nat :=
  (List.range 8).filter fun p => s.fld F.MT_SHARE_COUNT (8 * c + p) != 0

/-- R436, R437: what the restart waited for has ended. Unstarted commands complete DEGRADED, lots and rows are released, and the
partition is STOPPED. A SEQ_LEAVE that waited for the flip completes, its row being EMPTY. -/
def State.restartEnd (s : State) (x : Restart) : State :=
  let p := x.part
  let waiting := s.demandQueue p
  let s := s.setDemandQueue p []
  let s := waiting.foldl (fun (s : State) q => s.finish q.ring q.desc ⟨0x11, 2, 0, none⟩) s
  let s := (s.partRings p).foldl (fun (s : State) r => s.drainRing r) s
  let s := (s.partLots p).foldl (fun (s : State) l => s.lotFree l) s
  let leaves := (s.seqPart p).rows.flatMap fun r => r.2.leave
  let s := s.seqRestart p
  let s := leaves.foldl (fun (s : State) y => s.finish y.1 y.2 Reply.ok) s
  let s := s.setFld F.MT_CTRL_DEMAND 0 (putBit (s.fld F.MT_CTRL_DEMAND) p true)
  let s := (s.setPartState p 3).bump F.BC_PART_STATE_RESTARTS
  let s : State := { s with bring := { s.bring with
    subs := s.bring.subs.map fun (y : Nat × Nat) => (y.1, putBit y.2 p true) } }
  s.finish x.ring x.desc Reply.ok

/-- R436: the fill stream has stopped and no demand transfer of the partition is in flight. -/
def State.restartReady (s : State) (x : Restart) : Bool :=
  s.fld F.PL_STATUS_FILL_STATE % 2 == 0 && (match s.demandQueue x.part with | q :: _ => !q.started | [] => true)

/-- Restarts whose wait has ended go on. -/
def State.restartsDone (s : State) : State :=
  let ready := s.bring.restarts.filter s.restartReady
  let s : State := { s with bring := { s.bring with restarts := s.bring.restarts.filter fun x => !(ready.contains x) } }
  ready.foldl (fun (s : State) x => s.restartEnd x) s

end Sys2Proof.Machine
end

