-- ==== Sys2Proof/Machine/OpenQueue.lean ====
section
/-! DEFINITION. The OPEN queue of each DDR4 controller (06 R163, 09 R222, R224): what waits for OPEN-slot time, how much of it stands in
the queue's 64 places, and what is served next. -/

namespace Sys2Proof.Machine

/-! ## When a channel is open -/

/-- R542: while the frame stream is not running, a trained controller serves its channel by itself. -/
def State.standalone (s : State) (ch : Nat) : Bool :=
  (s.chan ch).ready && !(s.fld F.PL_STATUS_FRAME_STATE == 1 && s.ridge.frameIssued)

/-- The running slot window of a channel. -/
def State.runningSlot (s : State) (ch : Nat) : Option SlotRun := (s.chan ch).slots.head?

/-- R34, R542: OPEN-slot traffic may move on the channel: a running slot window decides by its DOP; without one the channel is open in
standalone service. -/
def State.openNow (s : State) (ch : Nat) : Bool :=
  match s.runningSlot ch with
  | some w => w.dop == 4
  | none => s.standalone ch

/-! ## Levels and gates -/

/-- R221: the effective level of a channel. -/
def State.level (s : State) (ch : Nat) : Nat := spGet 0 s.sched.level ch
def State.topLevel (s : State) : Nat := (List.range 8).foldl (fun m ch => max m (s.level ch)) 0

/-- R222, Table SP-7: a threshold of 0 never gates. -/
def State.scrubGated (s : State) (ch : Nat) : Bool :=
  s.fld F.SP_REG_CFG_SCRUB_LVL != 0 && decide (s.fld F.SP_REG_CFG_SCRUB_LVL ≤ s.level ch)
def State.hostGated (s : State) : Bool := s.fld F.SP_REG_CFG_HOST_LVL != 0 && decide (s.fld F.SP_REG_CFG_HOST_LVL ≤ s.topLevel)
def State.c2Gated (s : State) (ch : Nat) : Bool :=
  s.fld F.SP_REG_CFG_C2_LVL != 0 && decide (s.fld F.SP_REG_CFG_C2_LVL ≤ s.level ch)

/-! ## What waits -/

/-- R234: the ring buffer of sample `seq` of stream `i`; 0 for an inline stream. -/
def State.ringBuffer (s : State) (i seq : Nat) : Nat :=
  let u := s.fld F.SN_STREAM_B_BUF_UNITS i
  if u = 0 then 0 else (s.fld F.SN_STREAM_B_RING_BASE i + seq % s.fld F.SN_STREAM_A_BUFS i * u) * 65536

/-- R482: Field Book's ring: its first address, and its length in 32-byte units. -/
def State.bookBase (s : State) : Nat := s.fld F.FB_CFG_RING_BASE * 0x0400_0000
def State.bookUnits (s : State) : Nat := s.fld F.FB_CFG_RING_LEN * 0x0020_0000

/-- R482: the two spans of `n` bytes at ring position `pos`: what reaches the end goes on at the start. -/
def State.bookSpans (s : State) (pos n : Nat) : List (Nat × Nat) :=
  let room := 32 * (s.bookUnits - pos)
  [(s.bookBase + 32 * pos, min n room), (s.bookBase, n - room)]

/-- The lines on channel `ch` that `n` bytes from `a` touch. -/
def linesOn (ch a n : Nat) : Nat :=
  (List.range ((a % 65536 + n + 65535) / 65536)).foldl (fun m k =>
    let b := a / 65536 * 65536 + 65536 * k
    let lo := max a b
    if ddrChan b = ch ∧ lo < min (a + n) (b + 65536) then m + linesOf lo (min (a + n) (b + 65536) - lo) else m) 0

/-- A source that waits: the byte ranges of its lines, and whether a gate bars new lines of it (Table SP-7). -/
structure Waiting where
  src   : OpenSource
  spans : List (Nat × Nat)
  gated : Bool
deriving DecidableEq, Repr

/-- R234: the address to which the next byte of a ring payload moves: the payload stands at offset 64, and `left` of its `len` bytes have
still to move. -/
def State.ringNext (s : State) (i seq len left : Nat) : Nat := s.ringBuffer i seq + 64 + (len - left)

/-- R224, group 2: what each sensor port has waiting for DDR4: the whole lines of samples in reception, and the lines of finished samples
with their header copies. -/
def State.ingestWaits (s : State) : List Waiting :=
  let xs := s.sensors.streams.flatMap fun x =>
    if s.inline x.1 then []
    else
      let n := s.fld F.SN_STREAM_A_PORT x.1
      let asm := match x.2.asm with
        | some g => [(n, s.ringNext x.1 g.seq g.len g.bytes.length, g.bytes.length / 64 * 64)]
        | none => []
      x.2.ready.flatMap (fun g => [(n, s.ringNext x.1 g.seq g.len g.bytes.length, g.bytes.length), (n, s.ringBuffer x.1 g.seq, 64)]) ++ asm
  ((List.range 27).filter fun n => xs.any fun x => x.1 == n).map fun n =>
    ⟨.ingest n, (xs.filter fun x => x.1 == n).map fun x => x.2, false⟩

/-- R224, group 4: the lines of each stream that its commit point covers and that have not drained. -/
def State.drainWaits (s : State) : List Waiting :=
  let live := if (spKeep (fun k => decide (R.TH_COMMIT.key 0 ≤ k) && decide (k ≤ R.TH_COMMIT.key 127)) s.regs).isEmpty then []
    else List.range 128
  (live.filter fun i => (s.flag F.TH_STREAM_OPEN i || (s.wstream i).closing.isSome) &&
    decide (s.drained i < s.fld F.TH_COMMIT_COMMIT i)).map fun i =>
    let size := s.fld F.TH_STREAM_DEST_LEN i * 65536
    let o := s.drained i % size
    let n := s.fld F.TH_COMMIT_COMMIT i - s.drained i
    ⟨.drain i, [((s.wstream i).base + o, min n (size - o)), ((s.wstream i).base, n - (size - o))], s.hostGated⟩

/-- R501: a DATA flit of a port's waiting list, as the address that it writes; none for a marker. -/
def Flit.ddrUnit (f : Flit) : Option Nat := if B.FLIT_KIND.get f.hdr = 1 then some (B.FLIT_DEST.get f.hdr / 64 * 64) else none

/-- R501, R224, group 4: the DDR4 units received on each tether port, treated as streaming drains. -/
def State.landingWaits (s : State) : List Waiting :=
  [0, 1, 2].filterMap fun p =>
    let xs := (s.tlPort p).landing.filterMap Flit.ddrUnit
    if xs.isEmpty then none else some ⟨.tether p, xs.map fun a => (a, 64), s.hostGated⟩

/-- R224: the sources that wait for OPEN-slot time on any channel but for retraining steps and scrub reads, in the order of the rule's
list. -/
def State.waits (s : State) : List Waiting :=
  let staged := (s.book.staging.map List.length).foldl (· + ·) 0
  let book := if staged = 0 then [] else [⟨.book, s.bookSpans (s.fld F.FB_POS_NEXT) staged, false⟩]
  let demand := s.stow.demand.filterMap fun q => match q.2 with
    | x :: _ => x.moves.head?.map fun m => ⟨.demand q.1, [(m.home * lotSize, lotSize)], s.hostGated⟩
    | [] => none
  let stage := s.trail.stages.map fun g => ⟨.stage g.ring g.desc, [(g.src, g.len)], s.hostGated⟩
  s.ingestWaits ++ book ++ demand ++ stage ++ s.drainWaits ++ s.landingWaits

/-- What waits on channel `ch`: source, lines, and whether a gate bars new lines. -/
def State.waitsOn (s : State) (ch : Nat) (ws : List Waiting) : List (OpenSource × Nat × Bool) :=
  let d := s.chan ch
  let step := if s.flag F.DR_STATUS_RETRAINING ch then [(OpenSource.step, 0, false)] else []
  let scrub := if d.quota ≠ 0 ∧ s.fld F.DR_SCRUB_RATE ch ≠ 0 then [(OpenSource.scrub, 1, s.scrubGated ch)] else []
  step ++ (ws.filterMap fun w =>
    let n := w.spans.foldl (fun m x => m + linesOn ch x.1 x.2) 0
    if n = 0 then none else some (w.src, n, w.gated)) ++ scrub

/-! ## The queue -/

/-- R224: the group in which a source is served. -/
def OpenSource.group : OpenSource → Nat
  | .step => 1
  | .ingest _ => 2
  | .book => 3
  | .demand _ => 4
  | .stage _ _ => 4
  | .drain _ => 4
  | .tether _ => 4
  | .scrub => 5

/-- R163: gives the places of the queue to its entries in the order of their arrival. A gated source gets no new line. -/
def fillPlaces (ws : List (OpenSource × Nat × Bool)) : Nat → List OpenEntry → List OpenEntry
  | _, [] => []
  | room, e :: es =>
    let n := match ws.find? fun w => w.1 == e.src with
      | some w => min room (if w.2.2 then min e.lines w.2.1 else w.2.1)
      | none => 0
    { e with lines := n } :: fillPlaces ws (room - n) es

/-- R163, R222, R224: brings the OPEN queue of a channel up to date: sources with nothing left go, new ones join in this MCLK cycle in the
order of the rule's list. -/
def State.queueOpen (s : State) (ws : List Waiting) (ch : Nat) : State :=
  let w := s.waitsOn ch ws
  let d := s.chan ch
  let keep := d.openq.filter fun e => w.any fun x => x.1 == e.src && (!x.2.2 || e.lines != 0)
  let new := (w.filter fun x => !x.2.2 && !(keep.any fun e => e.src == x.1)).map fun x => ⟨x.1, s.clk.mclk, 0⟩
  s.setChan ch { d with openq := fillPlaces w 64 (keep ++ new) }

/-- The OPEN queues of all channels brought up to date. -/
def State.queueOpens (s : State) : State :=
  let ws := s.waits
  (List.range 8).foldl (fun s ch => s.queueOpen ws ch) s


/-- R224: the entry that a controller serves next: the oldest of the first group. -/
def State.nextOpenEntry (s : State) (ch : Nat) : Option OpenEntry :=
  let q := (s.chan ch).openq
  (List.range 6).findSome? fun g => q.find? fun e => e.src.group == g

/-- R224: the channel is open and serves the source now. -/
def State.openFor (s : State) (ch : Nat) (x : OpenSource) : Bool :=
  s.openNow ch && (match s.nextOpenEntry ch with | some e => e.src == x | none => false)

/-- R224: every channel on which the source waits serves it now. -/
def State.openForAll (s : State) (x : OpenSource) : Bool :=
  (List.range 8).all fun ch => if (s.chan ch).openq.any fun e => e.src == x then s.openFor ch x else true

/-- The source waits in some controller's queue. -/
def State.inOpenQueue (s : State) (x : OpenSource) : Bool := (List.range 8).any fun ch => (s.chan ch).openq.any fun e => e.src == x

/-- R163: `n` lines of a source leave the queue. -/
def State.tookOpen (s : State) (ch : Nat) (x : OpenSource) (n : Nat) : State :=
  let d := s.chan ch
  s.setChan ch { d with openq := d.openq.map fun e => if e.src = x then { e with lines := e.lines - n } else e }

/-- R163: the entries of the queue in class C1 and in class C3 (R219). -/
def State.occupancy (s : State) (ch : Nat) : Nat × Nat :=
  (s.chan ch).openq.foldl (fun acc e => match e.src with
    | .ingest _ => (acc.1 + e.lines, acc.2)
    | _ => (acc.1, acc.2 + e.lines)) (0, 0)

/-! ## Ingest -/

/-- R236: of `have'` bytes of a ring payload whose next goes to address `a`, those that `k` lines of channel `ch` take, up to the end of the
64 KiB block that the channel holds; of a sample in reception whole lines only. -/
def ringTakes (ch a have' k : Nat) (part : Bool) : Nat :=
  if ddrChan a = ch then
    let n := min have' (min (64 * k) (65536 - a % 65536))
    if part then n / 64 * 64 else n
  else 0

/-- R236, R219: the next `n` bytes of a ring payload move to DDR4 at `a`, in class C1. -/
def State.ringMove (s : State) (a : Nat) (bs : List Byte) : State := (s.wrMarked a bs false).classLines 1 1 (linesOf 0 bs.length)

/-- R236: the ring samples of stream `i`, oldest first, move up to `k` lines on channel `ch`; what is left of `k`. In which order the
streams of a port drain is not in the spec: in ascending index (entry 58). -/
def State.ringDrain (s : State) (ch i k : Nat) : State × Nat :=
  let u := s.stream' i
  let (done, k, s) := u.ready.foldl (fun (acc : List Sample × Nat × State) g =>
    let a := acc.2.2.ringNext i g.seq g.len g.bytes.length
    let n := ringTakes ch a g.bytes.length acc.2.1 false
    if n = 0 then (acc.1 ++ [g], acc.2)
    else (acc.1 ++ [{ g with bytes := g.bytes.drop n }], acc.2.1 - linesOf 0 n, acc.2.2.ringMove a (g.bytes.take n))) ([], k, s)
  match u.asm with
  | none => ({ s with sensors := { s.sensors with streams := spSet StreamUnit.reset s.sensors.streams i { u with ready := done } } }, k)
  | some g =>
    let a := s.ringNext i g.seq g.len g.bytes.length
    let n := ringTakes ch a g.bytes.length k true
    let s := if n = 0 then s else s.ringMove a (g.bytes.take n)
    ({ s with sensors := { s.sensors with streams := spSet StreamUnit.reset s.sensors.streams i { u with
        ready := done
        asm := some { g with bytes := g.bytes.drop n } } } }, k - linesOf 0 n)

/-- R236: the ring streams of port `n` move up to `k` lines on channel `ch`, and the port's level follows. -/
def State.portDrain (s : State) (ch n k : Nat) : State :=
  let is := (List.range 48).filter fun i => !(s.inline i) && s.fld F.SN_STREAM_A_PORT i == n
  (is.foldl (fun (acc : State × Nat) i => if acc.2 = 0 then acc else acc.1.ringDrain ch i acc.2) (s, k)).1.setUrgency n

/-! ## Tether writes -/

/-- A unit written to DDR4 or to a core store from outside the plan: the bytes and their mark land, a lost line of DDR4 is
overwritten (06 R157), and the lot entry follows (Table MT-4). -/
def State.landUnit (s : State) (a : Nat) (bs : List Byte) (poison : Bool) : State :=
  let s := s.wrMarked a bs poison
  if a < ddrSize then
    let d := s.chan (ddrChan a)
    if d.bad.isEmpty then s else s.setChan (ddrChan a) { d with bad := d.bad.filter fun l => l != a / 64 * 64 }
  else s.lotWritten a

/-- R503: the marker of a flit enters the port's queue of sixteen arrived markers. -/
def State.tlQueueMarker (s : State) (p : Nat) (f : Flit) : State :=
  if 16 ≤ s.ridge.markers.countP (fun m => m.1 == p) then s.bump F.TL_COUNTS_MARKER_LOST p
  else { s with ridge := { s.ridge with markers := s.ridge.markers ++ [(p, (f.hdr >>> 33) % 65536)] } }

/-- R503: the markers that no waiting unit precedes arrive. -/
def State.tlArrive (s : State) (p : Nat) : State :=
  let x := s.tlPort p
  let s := (x.landing.takeWhile fun f => f.ddrUnit.isNone).foldl (fun (s : State) f => s.tlQueueMarker p f) s
  s.setTlPort p { s.tlPort p with landing := x.landing.dropWhile fun f => f.ddrUnit.isNone }

/-- R501, R219: one received unit is written to DDR4, in class C3; nothing is written for a partition in restart (24 R517). -/
def State.tlLand (s : State) (f : Flit) : State :=
  let part := B.FLIT_PART.get f.hdr
  match f.ddrUnit with
  | none => s
  | some a => if 2 ≤ s.partState part then s else (s.classLines part 3 1).landUnit a (f.payload.take 64) false

/-- Takes from a port's waiting list the first `k` units that channel `ch` holds: those taken, and the rest. -/
def takeUnits (ch : Nat) : Nat → List Flit → List Flit × List Flit
  | _, [] => ([], [])
  | k, f :: fs =>
    if k ≠ 0 ∧ f.ddrUnit.map ddrChan = some ch then
      let (x, y) := takeUnits ch (k - 1) fs
      (f :: x, y)
    else
      let (x, y) := takeUnits ch k fs
      (x, f :: y)

/-- R501: up to `k` received units of port `p` are written on channel `ch`. -/
def State.tetherDrain (s : State) (ch p k : Nat) : State :=
  let (now, rest) := takeUnits ch k (s.tlPort p).landing
  ((now.foldl (fun (s : State) f => s.tlLand f) s).setTlPort p { s.tlPort p with landing := rest }).tlArrive p

/-- R224, R236, R501: in `dt` cycles of MCLK each open channel that serves a sensor port or a tether port moves its lines, at 2.5 cycles a
line (R154 gives this time for the pins; that ingest and tether writes move at it is the model's choice, entry 58). -/
def State.serveIngest (s : State) (dt : Nat) : State :=
  (List.range 8).foldl (fun (s : State) ch =>
    if s.openNow ch then
      match s.nextOpenEntry ch with
      | some ⟨.ingest n, _, _⟩ => s.portDrain ch n (2 * dt / 5)
      | some ⟨.tether p, _, _⟩ => s.tetherDrain ch p (2 * dt / 5)
      | _ => s
    else s) s

/-- `dt` cycles of MCLK pass; what has come to wait for OPEN-slot time before them has taken its place, and sensor ports are served. -/
def State.passM (s : State) (dt : Nat) : State := (s.queueOpens.serveIngest dt).tickM dt

end Sys2Proof.Machine
end

