-- ==== Sys2Proof/Machine/Ddr.lean ====
section
/-! DEFINITION. The DDR4 controllers (06): the two codes and the decode of a line, refresh, retries, scrubbing, live retraining,
and queue-level feedback. What a slot window moves stands in Slots.lean. -/

namespace Sys2Proof.Machine

/-! ## The inner code -/

def weight (v : Nat) : Nat := (List.range 8).countP fun i => hasBit v i

/-- R147: the columns of data bits 0–63. -/
def innerCols : List Nat :=
  ((List.range 256).filter fun v => weight v == 3) ++ ((List.range 256).filter fun v => weight v == 5).take 8

/-- R147: the inner syndrome of a beat's error in devices 0–8. -/
def innerSyndrome (e : Nat) : Nat :=
  (List.range 64).foldl (fun x i => if hasBit e i then x ^^^ innerCols.getD i 0 else x) (e / 2 ^ 64 % 256)

/-- The bit of a beat that a nonzero inner syndrome points at: a data bit 0–63, a check bit 64–71, or none. -/
def innerBit (syn : Nat) : Option Nat :=
  match (List.range 64).find? (fun i => innerCols.getD i 0 == syn) with
  | some i => some i
  | none => (List.range 8).find? (fun i => 2 ^ i == syn) |>.map fun i => 64 + i

/-- A beat after the inner code's single-bit correction: the error left, the device corrected, and whether it is uncorrectable. -/
def innerFix (e : Nat) : Nat × Option Nat × Bool :=
  let syn := innerSyndrome e
  if syn = 0 then (e, none, false)
  else match innerBit syn with
    | some i => (e ^^^ 2 ^ i, some (i / 8), false)
    | none => (e, none, true)

/-! ## Decoding a line -/

def beats (err : Nat) : List Nat := (List.range 8).map fun b => err / 2 ^ (80 * b) % 2 ^ 80

/-- The devices that a line's error touches. -/
def errDevices (bs : List Nat) : List Nat := (List.range 10).filter fun d => bs.any fun e => e / 2 ^ (8 * d) % 256 != 0

/-- R148: what the outer code finds: no difference, one device that explains all, or neither. Three or more devices are beyond
what R148 promises: an open function of the error (entry 8). -/
inductive Outer where
  | clean
  | device (d : Nat)
  | uncorrectable
deriving DecidableEq, Repr

def outerCheck (bs : List Nat) : Outer :=
  match errDevices bs with
  | [] => .clean
  | [d] => .device d
  | [_, _] => .uncorrectable
  | _ =>
    let v := Config.freeFn 5 bs % 12
    if v = 0 then .clean else if v ≤ 10 then .device (v - 1) else .uncorrectable

/-- A decoded line: the outcome, the devices of the bits that the inner code corrected, and the device that the outer code
corrected. -/
structure Decoded where
  outcome : LineOutcome
  inner   : List Nat
  outer   : Option Nat
deriving DecidableEq, Repr

/-- R149: decodes a line whose error is `err`; `poison` says that it was stored with the poison signature (R152). DESIGN CHOICE
(entry 55): the zero syndromes of the stored_poison arm are those of the line as it was read, before the inner corrections. -/
def decodeLine (mark : Option Nat) (poison : Bool) (err : Nat) : Decoded :=
  let bs := beats err
  match mark with
  | some d =>
    let bs := bs.map fun e => e - e / 2 ^ (8 * d) % 256 * 2 ^ (8 * d)
    let fixed := bs.map innerFix
    let devs := fixed.filterMap fun f => f.2.1
    if poison || fixed.any (fun f => f.1 != 0) then ⟨.uncorrectable, [], none⟩ else ⟨.marked, devs, none⟩
  | none =>
    let synZero := bs.all fun e => innerSyndrome e == 0
    if synZero && !poison && outerCheck bs == .clean then ⟨.clean, [], none⟩
    else
      let fixed := bs.map innerFix
      if !(fixed.any fun f => f.2.2) && !poison && outerCheck (fixed.map fun f => f.1) == .clean then
        ⟨.innerCorrected, fixed.filterMap fun f => f.2.1, none⟩
      else if synZero && poison && outerCheck bs == .clean then ⟨.storedPoison, [], none⟩
      else if poison then ⟨.uncorrectable, [], none⟩
      else match outerCheck bs with
        | .device d => ⟨.outerCorrected, [], some d⟩
        | _ => ⟨.uncorrectable, [], none⟩

/-! ## The error log and the consequences of an outcome -/

/-- Table DR-8: an entry joins the queue of at most 32. -/
def State.errLog (s : State) (ch kind device : Nat) (scrub : Bool) (line : Nat) : State :=
  let d := s.chan ch
  let e := kind + device * 2 ^ 2 + 2 ^ 6 + bit scrub * 2 ^ 8 + line * 2 ^ 9 + s.clk.mclk % 2 ^ 27 * 2 ^ 37
  if 32 ≤ d.errLog.length then s.setChan ch { d with errLost := true }
  else s.setChan ch { d with errLog := d.errLog ++ [BitVec.ofNat 64 e] }

/-- Outcome codes in Field Book's DDR records (entry 5). -/
def outcomeCode : LineOutcome → Nat
  | .clean => 0
  | .innerCorrected => 1
  | .outerCorrected => 2
  | .uncorrectable => 3
  | .storedPoison => 4
  | .marked => 5

/-- R150–R153, Table DR-4: a line of channel `ch` (its L[33:6]) is delivered with the outcome of its decode. `part` is the partition of
the reader, `implicated` the devices that the decoder implicates in an uncorrectable line. -/
def State.lineOutcome (s : State) (ch line part : Nat) (scrub : Bool) (x : Decoded) (implicated : List Nat) : State :=
  let s := x.inner.foldl (fun s d => s.faultAt (siteDevice ch d)) s
  let a := ddrGlobal ch (64 * line)
  let note (s : State) (dev : Nat) : State :=
    s.record 0x0D ch (words [ch, line, dev, outcomeCode x.outcome, s.fld F.PL_STEP_STEP]) 3
  let event (s : State) : State := if !scrub && decide (part < 2) then s.raise 0x09 ch else s
  match x.outcome with
  | .clean => s
  | .marked => s
  | .innerCorrected =>
    (s.bump F.DR_ECC_COUNT_INNER ch).errLog ch 1 (x.inner.headD 0xF) scrub line
  | .outerCorrected =>
    let d := x.outer.getD 0xF
    note (((s.bump F.DR_ECC_COUNT_OUTER ch).errLog ch 2 d scrub line).faultAt (siteDevice ch d)) d
  | .storedPoison => event (note (s.bump F.DR_ECC_COUNT_POISON ch) 0xF)
  | .uncorrectable =>
    let dev := match implicated with | [d] => d | _ => implicated.headD 0xF
    let s := ((s.bump F.DR_ECC_COUNT_UNCORR ch).setFlag F.DR_STATUS_UNCORR ch).errLog ch 3 dev scrub line
    let s := implicated.foldl (fun s d => s.faultAt (siteDevice ch d)) s
    let s := if scrub then s else s.setChan ch { s.chan ch with bad := (s.chan ch).bad ++ [a] }
    event (note s dev)

/-- R151: the device marked on a channel for a line whose read burst ends now: the mark takes effect 8 MCLK cycles after its write. -/
def State.markOf (s : State) (ch : Nat) : Option Nat :=
  if s.flag F.DR_MARK_VALID ch && decide ((s.chan ch).markAt + 8 ≤ s.clk.mclk) then some (s.fld F.DR_MARK_DEVICE ch) else none

/-- DDR_LINE_DECODE (R149, R150): a read of line `line` meets the error `err`. `waits` says that a bundle reaches the line
before an outer correction delivers it; inside a window the 40-cycle margin takes it up (R41), and with a mark every line decodes at the
clean latency (R151). -/
def execDdrLineDecode (ch : ChanId) (line : BitVec 28) (err : LineError) (core : CoreId) (part : PartId) (implicated : BitVec 10)
    (waits : Bool) (s : State) : Host.Outcome State Fault Refusal :=
  if s.coreDark then .next s
  else
  let a := ddrGlobal ch.val (64 * line.toNat)
  let x := decodeLine (s.markOf ch.val) (s.poisonIn a 64) err.toNat
  let s := s.lineOutcome ch.val line.toNat part.val false x (bitsOf 10 implicated.toNat)
  let slow := (x.outcome == .outerCorrected || x.outcome == .uncorrectable) && (s.markOf ch.val).isNone
  .next (if slow && waits && !(s.coreClaimed core.val) then s.raiseHold 1 (some (s.clk.aclk + 40)) else s)

/-! ## Queue-level feedback -/

/-- Table SP-6: the highest urgency level of any source. -/
def State.urgency (s : State) : Nat :=
  max (s.fld F.FB_STATUS_URGENCY) ((List.range 27).foldl (fun m n => max m (s.fld F.SN_PORT_STATUS_URGENCY n)) 0)

/-- R163: the level of a queue that holds `n` entries. -/
def State.queueLevel (s : State) (ch n : Nat) : Nat :=
  if s.fld F.DR_QCFG_T3 ch ≤ n then 3 else if s.fld F.DR_QCFG_T2 ch ≤ n then 2 else if s.fld F.DR_QCFG_T1 ch ≤ n then 1 else 0

/-- SP_REG_STATUS shows the regulator's state (Table SP-17). -/
def State.regStatus (s : State) : State :=
  s.setReg R.SP_REG_STATUS 0 (BitVec.ofNat 64 (s.topLevel +
    ((List.range 8).foldl (fun m ch => m + bit (s.c2Gated ch) * 2 ^ ch) 0) * 2 ^ 2 + bit s.hostGated * 2 ^ 10 +
    bit ((List.range 8).any fun ch => s.scrubGated ch) * 2 ^ 11 + s.urgency * 2 ^ 12))

/-- R223: a fill stream that waits for a gate goes on when every channel it waits for is free of its gate. -/
def State.gatesLifted (s : State) : State :=
  if s.ridge.regWaiting && (bitsOf 8 s.ridge.regChans).all (fun ch => !(s.c2Gated ch)) then
    { s with ridge := { s.ridge with
      regWaiting := false
      regChans := 0
      fill := { s.ridge.fill with freeAt := max s.ridge.fill.freeAt s.clk.aclk } } }
  else s

/-- EFFECTIVE_LEVEL_UPDATE (R163, R221, R222): the occupancy and the level of the controller's OPEN queue reach the regulator, and the
gates follow. The occupancies that the row carries are not read: the controller counts its own queue (entry 28). -/
def execEffectiveLevelUpdate (ch : ChanId) (_occ1 _occ3 : BitVec 7) (s : State) : Host.Outcome State Fault Refusal :=
  if s.coreDark then .next s
  else
  let s := s.queueOpens
  let o := s.occupancy ch.val
  let s := s.setReg R.DR_QLEVEL ch.val (BitVec.ofNat 64 (s.queueLevel ch.val (o.1 + o.2) + o.1 * 2 ^ 2 + o.2 * 2 ^ 9))
  let lv := (List.range 8).foldl (fun t c => spSet 0 t c (max (s.fld F.DR_QLEVEL_LEVEL c) s.urgency)) s.sched.level
  .next ({ s with sched := { s.sched with level := lv } }).regStatus.gatesLifted

/-! ## Refresh -/

/-- REFRESH_DEBT_TICK (R35, R542): the debt rises by one every 3,120 MCLK cycles. In standalone service REF commands bring it back to 0
between slot windows; in a hold on an unclaimed channel the controller issues what the hold has time for. A debt of 8 raises a hold,
also inside another, unless a window claims the channel. -/
def execRefreshDebtTick (ch : ChanId) (dt : Nat) (s : State) : Host.Outcome State Fault Refusal :=
  if s.coreDark then .next s
  else
  let s := s.passM dt
  let d := s.chan ch.val
  if d.ready && decide (d.debtAt + 3120 ≤ s.clk.mclk) then
    let s := s.holdRef ch.val s.clk.aclk
    let d := s.chan ch.val
    let s := s.setChan ch.val { d with
      debt := min 8 (d.debt + 1)
      debtAt := d.debtAt + 3120
      refAt := if d.debt = 0 then max d.refAt (2 * s.clk.aclk) else d.refAt }
    if s.standalone ch.val then .next (if d.slots.isEmpty then s.refresh ch.val 8 else s)
    else
      let s := if (s.chan ch.val).debt = 8 ∧ s.chanClaimed ch.val = false then s.raiseHold 3 (some (s.clk.aclk + 5500)) else s
      .next (s.holdRef ch.val s.clk.aclk)
  else .next s

/-! ## Retraining -/

/-- R161: a full live retraining of 30 steps starts. -/
def State.retrainStart (s : State) (ch : Nat) : State :=
  if s.flag F.DR_STATUS_RETRAINING ch then s
  else
    let s := (s.setFlag F.DR_STATUS_RETRAINING ch).setFld F.DR_RETRAIN_STEPS_LEFT ch 30
    s.setChan ch { s.chan ch with stepWait := some s.clk.mclk }

/-! ## Scrubbing and marks -/

/-- SCRUB_READ (R158, R159, R224): the next line of the channel is read when the OPEN queue serves scrubbing: lines of its quota are left,
DR_SCRUB.RATE is not 0, no gate bars it, and nothing else waits. -/
def execScrubRead (ch : ChanId) (err : LineError) (implicated : BitVec 10) (dt : Nat) (s : State) :
    Host.Outcome State Fault Refusal :=
  if s.coreDark then .next s
  else
  let s := s.passM dt
  let d := s.chan ch.val
  if s.openFor ch.val .scrub && !(s.scrubGated ch.val) then
    let line := s.fld F.DR_SCRUB_POS ch.val
    let a := ddrGlobal ch.val (64 * line)
    let x := decodeLine (s.markOf ch.val) (s.poisonIn a 64) err.toNat
    let s := ((s.setChan ch.val { d with quota := d.quota - 1 }).tookOpen ch.val .scrub 1).classLines 0 3 1
    let s := s.lineOutcome ch.val line 2 true x (bitsOf 10 implicated.toNat)
    let last := decide (line + 1 = 2 ^ 28)
    let s := s.setFld F.DR_SCRUB_POS ch.val (if last then 0 else line + 1)
    .next (if last then s.bump F.DR_SCRUB_PASSES ch.val else s)
  else .next s

/-- SCRUB_QUOTA_TICK (R158): a ms of 800,000 MCLK cycles ends; unread quota carries over. -/
def execScrubQuotaTick (ch : ChanId) (dt : Nat) (s : State) : Host.Outcome State Fault Refusal :=
  if s.coreDark then .next s
  else
  let s := s.passM dt
  let d := s.chan ch.val
  if d.quotaAt + 800000 ≤ s.clk.mclk then
    let s := if 0 < d.quota then s.setFlag F.DR_STATUS_SCRUB_LAG ch.val else s
    .next (s.setChan ch.val { d with quota := d.quota + s.fld F.DR_SCRUB_RATE ch.val, quotaAt := d.quotaAt + 800000 })
  else .next s

/-- DR_MARK_WRITE (R151): Maluo marks a device whose fault has been declared lasting. A channel carries one mark. -/
def execDrMarkWrite (ch : ChanId) (device : Fin 10) (s : State) : Host.Outcome State Fault Refusal :=
  if s.coreDark then .next s
  else
  if (s.site (siteDevice ch.val device.val)).lasting && !(s.flag F.DR_MARK_VALID ch.val) then
    let s := (s.setFld F.DR_MARK_DEVICE ch.val device.val).setFlag F.DR_MARK_VALID ch.val
    let s := s.setChan ch.val { s.chan ch.val with markAt := s.clk.mclk }
    .next ((s.raise 0x0A (ch.val + 16 * device.val)).record 0x0D ch.val (words [ch.val, 0, device.val, 6, s.fld F.PL_STEP_STEP]) 3)
  else .next s

/-! ## Live retraining -/

/-- DR_RETRAIN_REQ (R161). -/
def execDrRetrainReq (ch : ChanId) (s : State) : Host.Outcome State Fault Refusal :=
  if s.coreDark then .next s else .next (s.retrainStart ch.val)

/-- RETRAIN_PERIOD_EXPIRY (R161): PERIOD ms, each of 800,000 MCLK cycles, since the last training; 0 for none. -/
def execRetrainPeriodExpiry (ch : ChanId) (dt : Nat) (s : State) : Host.Outcome State Fault Refusal :=
  if s.coreDark then .next s
  else
  let s := s.passM dt
  let p := s.fld F.DR_RETRAIN_PERIOD ch.val
  .next (if p ≠ 0 ∧ (s.chan ch.val).trainAt + 800000 * p ≤ s.clk.mclk then s.retrainStart ch.val else s)

/-- RETRAIN_TEMP_DRIFT (R161): the devices' temperature is now `temp`. -/
def execRetrainTempDrift (ch : ChanId) (temp : BitVec 8) (s : State) : Host.Outcome State Fault Refusal :=
  if s.coreDark then .next s
  else
  let s := s.setFld F.DR_STATUS_TEMP ch.val temp.toNat
  let drift := (temp.toInt - asSigned 8 (s.fld F.DR_TRAIN_STATUS_TRAIN_TEMP ch.val)).natAbs
  .next (if s.fld F.DR_RETRAIN_DTEMP ch.val ≤ drift then s.retrainStart ch.val else s)

/-- BU_RETRAIN commands whose channels have no step left complete (19 Table BU-7). -/
def State.retrainsDone (s : State) : State :=
  let ready (m : Nat) : Bool := (bitsOf 8 m).all fun ch => s.fld F.DR_RETRAIN_STEPS_LEFT ch == 0
  let done := s.rings.retrains.filter fun x => ready x.2.2
  let s := { s with rings := { s.rings with retrains := s.rings.retrains.filter fun x => !(ready x.2.2) } }
  done.foldl (fun (s : State) x => s.finish x.1 x.2.1 Reply.ok) s

/-- A step of the live retraining is done (R161, R162). -/
def State.retrainStepDone (s : State) (ch : Nat) : State :=
  let n := s.fld F.DR_RETRAIN_STEPS_LEFT ch - 1
  let s := s.setFld F.DR_RETRAIN_STEPS_LEFT ch n
  if n = 0 then
    let s := (s.setFld F.DR_STATUS_RETRAINING ch 0).setFld F.DR_TRAIN_STATUS_TRAIN_TEMP ch (s.fld F.DR_STATUS_TEMP ch)
    (s.setChan ch { s.chan ch with stepWait := none, trainAt := s.clk.mclk }).retrainsDone
  else s.setChan ch { s.chan ch with stepWait := some s.clk.mclk }

/-- R162, R41: the step has its slot: an OPEN window of at least 1,600 MCLK cycles, the controller's own service, or a RETRAIN
hold on an unclaimed channel. -/
def State.stepSlot (s : State) (ch : Nat) : Bool :=
  (match s.runningSlot ch with | some w => w.dop == 4 && decide (1600 ≤ w.mcyc) | none => s.standalone ch) ||
  ((match s.ridge.hold with | some h => h.causes.any fun x => x.code == 5 | none => false) && !(s.chanClaimed ch))

/-- RETRAIN_STEP (R162). -/
def execRetrainStep (ch : ChanId) (dt : Nat) (s : State) : Host.Outcome State Fault Refusal :=
  if s.coreDark then .next s
  else
  let s := s.passM dt
  .next (if s.flag F.DR_STATUS_RETRAINING ch.val && s.stepSlot ch.val then s.retrainStepDone ch.val else s)

/-- RETRAIN_WAIT_EXPIRY (R162): no slot came within WAIT, so the controller raises a RETRAIN hold; on a claimed channel it waits
for the window to close (R41), and in standalone service there is none (R542). -/
def execRetrainWaitExpiry (ch : ChanId) (dt : Nat) (s : State) : Host.Outcome State Fault Refusal :=
  if s.coreDark then .next s
  else
  let s := s.passM dt
  match (s.chan ch.val).stepWait with
  | some t =>
    if s.flag F.DR_STATUS_RETRAINING ch.val && decide (t + s.fld F.DR_RETRAIN_WAIT ch.val ≤ s.clk.mclk) &&
        !(s.chanClaimed ch.val) && !(s.standalone ch.val)
    then .next (s.raiseHold 5 (some (s.clk.aclk + 2500)))
    else .next s
  | none => .next s

/-- DEMAND_TRANSFER_COMPLETE (R134): the running demand transfer of a partition completes when the OPEN queue of the channel of its home
serves it (R224); gated traffic that is not in the queue waits (R222). -/
def execDemandTransferComplete (p : PartId) (dt : Nat) (s : State) : Host.Outcome State Fault Refusal :=
  if s.coreDark then .next s
  else
  let s := s.passM dt
  match s.demandQueue p.val with
  | [] => .next s
  | q :: _ =>
    match q.moves with
    | [] => .next (s.demandStartAll p.val)
    | _ => if s.openForAll (.demand p.val) && s.inOpenQueue (.demand p.val) then .next (s.demandComplete p.val).restartsDone else .next s

end Sys2Proof.Machine
end

