-- ==== Sys2Proof/Machine/Sensors.lean ====
section
/-! DEFINITION. The sensor ports (10): reception and matching, samples and their publication, micro-sequencers, GPIO pins, and
the drive role with the frames of chapter 14. -/

namespace Sys2Proof.Machine

def State.sequencer (s : State) (q : Nat) : Sequencer := spGet Sequencer.reset s.sensors.seqs q
def State.setSequencer (s : State) (q : Nat) (x : Sequencer) : State :=
  { s with sensors := { s.sensors with seqs := spSet Sequencer.reset s.sensors.seqs q x } }
def State.driveQueue (s : State) (n : Nat) : List DriveRec := spGet [] s.sensors.drive n
def State.setDriveQueue (s : State) (n : Nat) (q : List DriveRec) : State :=
  { s with sensors := { s.sensors with drive := spSet [] s.sensors.drive n q } }
def State.setPin (s : State) (g : Nat) (v : Bool) : State :=
  { s with sensors := { s.sensors with gpio := spSet false s.sensors.gpio g v } }

/-! ## Matching -/

/-- R231: the enabled streams of a port, in ascending index. -/
def State.portStreams (s : State) (n : Nat) : List Nat :=
  (List.range 48).filter fun i => s.flag F.SN_STREAM_A_EN i && s.fld F.SN_STREAM_A_PORT i == n

def State.sel (s : State) (i : Nat) : Nat := s.fld F.SN_STREAM_A_SEL i

/-- R231: the lowest-indexed enabled stream of a port that matches. -/
def State.matching (s : State) (n : Nat) (p : Nat → Bool) : Option Nat := (s.portStreams n).find? fun i => p (s.sel i)

/-- R231: a packet, frame, EMIT, block or edge that matches no stream is counted. -/
def State.unmatched (s : State) (n : Nat) : State := s.bump F.SN_PORT_STATUS_UNMATCHED n

def State.portOn (s : State) (n : Nat) : Bool := s.flag F.SN_PORT_CFG_EN n

/-- Table SN-11: the link of a port is up. SPI, I3C and GPIO links are up while the port is enabled; no link of a port that is off is. -/
def State.linkUp (s : State) (n : Nat) : Bool :=
  s.portOn n && ((decide (18 ≤ n) && decide (n < 24)) || n == 26 || s.flag F.SN_PORT_STATUS_LINK_UP n)

/-- Table SN-11: SN_PORT_STATUS as a read finds it. -/
def State.portStatus (s : State) (n : Nat) : BitVec 64 := (s.setFld F.SN_PORT_STATUS_LINK_UP n (bit (s.linkUp n))).reg R.SN_PORT_STATUS n

/-! ## Samples -/

/-- Table SN-6: `b` bytes fit in the ingest buffer of port `n`. -/
def State.ingestFits (s : State) (n b : Nat) : Bool := decide (s.portFill n + b ≤ ingestSize n)

/-- Table SN-6: the largest payload of a stream. -/
def State.maxPayload (s : State) (i : Nat) : Nat :=
  if s.inline i then 192 else s.fld F.SN_STREAM_B_BUF_UNITS i * 65536 - 64

/-- Table SN-6, Table FB-2: drop causes, in the table's order. -/
def State.dropSample (s : State) (i seq cause : Nat) : State :=
  let s := if cause = 0 then s.bump F.SN_STREAM_CNT_LINK_DROP i
    else if cause = 1 then s.bump F.SN_STREAM_CNT_BUF_DROP i else s.bump F.SN_STREAM_CNT_OVERSIZE i
  let n := s.fld F.SN_STREAM_A_PORT i
  s.record 0x05 i (words [i, seq, cause]) (0x20 + n)

/-- A sample begins on stream `i` with first stamp `t`. -/
def State.beginSample (s : State) (i t : Nat) : State :=
  let u := s.stream' i
  s.setStream' i { u with
    begun := u.begun + 1
    asm := some ⟨u.begun, t, t, 0, [], 0, false⟩ }

/-- R235: the sample in reception is dropped for `cause`; what follows of it is passed over. -/
def State.killSample (s : State) (i cause : Nat) : State :=
  let u := s.stream' i
  match u.asm with
  | some g =>
    if g.dead then s
    else
      let s := s.setStream' i { u with asm := some { g with
        bytes := []
        dead := true } }
      (s.setUrgency (s.fld F.SN_STREAM_A_PORT i)).dropSample i g.seq cause
  | none => s

/-- R236: payload bytes of stream `i` enter the ingest buffer of its port: those of an inline payload leave it for the Datum store with FCLK,
those of a ring payload in OPEN slots. -/
def State.enterBuffer (s : State) (i b : Nat) : State :=
  let n := s.fld F.SN_STREAM_A_PORT i
  let s := if s.inline i then { s with sensors := { s.sensors with fill := spSet 0 s.sensors.fill n (spGet 0 s.sensors.fill n + b) } } else s
  s.setUrgency n

/-- Payload bytes join the sample in reception (R234, R236): it is dropped where its payload grows too large, or where they do not fit in the
ingest buffer. -/
def State.feedSample (s : State) (i : Nat) (bs : List Byte) : State :=
  let u := s.stream' i
  match u.asm with
  | none => s
  | some g =>
    if g.dead then s
    else if s.maxPayload i < g.len + bs.length then s.killSample i 2
    else if !(s.ingestFits (s.fld F.SN_STREAM_A_PORT i) bs.length) then s.killSample i 1
    else
      ((s.setStream' i { u with asm := some { g with
        len := g.len + bs.length
        bytes := g.bytes ++ bs } }).enterBuffer i bs.length).worked 5 1 bs.length

/-- The sample in reception ends with last stamp `t` and waits for its publication. -/
def State.endSample (s : State) (i t : Nat) : State :=
  let u := s.stream' i
  match u.asm with
  | none => s
  | some g =>
    if g.dead then s.setStream' i { u with asm := none }
    else s.setStream' i { u with
      asm := none
      ready := u.ready ++ [⟨g.seq, g.first, t, g.len, g.bytes⟩] }

/-- A sample that arrives whole. -/
def State.wholeSample (s : State) (i first last : Nat) (bs : List Byte) : State :=
  ((s.beginSample i first).feedSample i bs).endSample i last

/-- R233: the slot of stream `i` in the Datum store, and its buffers. -/
def slotBuffer (i b : Nat) : Nat := datumBase + 512 * i + 256 * b

/-- R233: the published buffer of a stream. -/
def State.published (s : State) (i : Nat) : Option Nat :=
  match (s.stream' i).side with
  | 0 => none
  | b + 1 => some (slotBuffer i b)

/-- Table SN-5: the header of a sample published now. -/
def State.sampleHeader (s : State) (i : Nat) (x : Sample) : Nat :=
  let n := s.fld F.SN_STREAM_A_PORT i
  B.SHDR_STREAM.put i + B.SHDR_DOMAIN.put (0x20 + n) + B.SHDR_INLINE.put (bit (s.inline i)) + B.SHDR_LEN.put x.len +
    B.SHDR_SEQ.put x.seq + B.SHDR_STAMP_FIRST.put x.first + B.SHDR_STAMP_LAST.put x.last + B.SHDR_FRAME.put s.frameNum +
    B.SHDR_ADDR.put (s.ringBuffer i x.seq)

/-- R20, R233–R235: a finished sample is published: the header copy of a ring buffer is written after its payload, then the slot
flips. In replay the ports publish nothing (R487). -/
def State.publishSample (s : State) (i : Nat) : State :=
  let u := s.stream' i
  match u.ready with
  | [] => s
  | x :: rest =>
    let n := s.fld F.SN_STREAM_A_PORT i
    let s := (s.setStream' i { u with ready := rest }).setUrgency n
    if s.flag F.FB_STATUS_REPLAYING then s
    else
      let h := leBytes 64 (s.sampleHeader i x)
      let buf := s.ringBuffer i x.seq
      let s := if s.inline i then s else (s.ringMove (s.ringNext i x.seq x.len x.bytes.length) x.bytes).ringMove buf h
      let s := s.wrMarked (slotBuffer i (s.backOf (.stream i))) (if s.inline i then h ++ x.bytes else h) false
      let s := s.flip (.stream i)
      let s := s.bump F.SN_STREAM_CNT_PUBLISHED i
      let data := if s.inline i then x.bytes else s.rdBytes (buf + 64) x.len
      -- R219: Field Book reads a ring payload in C3.
      let s := if s.flag F.FB_STATUS_RECORDING && !s.inline i then s.classLines 0 3 (linesOf 0 x.len) else s
      s.record 0x04 i (h ++ data) (0x20 + n)

/-- SAMPLE_PUBLISH (R233): the oldest finished sample of a stream has reached the Datum store, or the DDR4 write buffer: a ring sample when the
OPEN queues of its channels serve the port (R224). -/
def execSamplePublish (i : Fin 48) (s : State) : Host.Outcome State Fault Refusal :=
  if s.coreDark then .next s
  else
  let s := s.queueOpens
  .next (if s.inline i.val || s.openForAll (.ingest (s.fld F.SN_STREAM_A_PORT i.val)) then s.publishSample i.val else s)

/-! ## Reception -/

/-- R491: a link error is a fault at the port's site. -/
def State.linkError (s : State) (n : Nat) : State := s.faultAt (siteSensor n)

/-- A CSI-2 packet reaches port `n`, whose counter reads `t` at its end. -/
def State.csiPacket (s : State) (n : Nat) (x : CsiPacket) : State :=
  let t := s.portTime n
  let ofVc (vc : Nat) : List Nat := (s.portStreams n).filter fun i => s.sel i % 16 == vc
  match x with
  | .frameStart vc =>
    -- FE missing before the next FS.
    (ofVc vc.toNat).foldl (fun s i =>
      let s := match (s.stream' i).asm with | some _ => s.killSample i 0 | none => s
      s.beginSample i t) s
  | .frameEnd vc => (ofVc vc.toNat).foldl (fun s i => s.endSample i t) s
  | .lineStart => s
  | .lineEnd => s
  | .badHeader => (s.portStreams n).foldl (fun s i => s.killSample i 0) (s.linkError n)
  | .long vc dt data ok =>
    match s.matching n (fun x => x % 16 == vc.toNat && x / 16 % 64 == dt.toNat) with
    | none => s.unmatched n
    | some i =>
      if ok then s.feedSample i data else (s.linkError n).killSample i 0

/-- CSI2_PACKET (R230, R235): after `dt` port cycles a packet ends at CSI-2 port `n`; `corrected` says that its header was corrected. -/
def execCsi2Packet (n : Fin 8) (x : CsiPacket) (corrected : Bool) (_drained dt : Nat) (s : State) :
    Host.Outcome State Fault Refusal :=
  if s.coreDark then .next s
  else
  let s := s.tickP n.val dt
  if s.portOn n.val then
    let s := if corrected then s.bump F.SN_PORT_STATUS_CORRECTED n.val else s
    .next (s.csiPacket n.val x)
  else .next s

/-- Two bytes of a frame in network order (PRESUMED, IEEE 802.3: entry 9). -/
def be16 (bs : List Byte) (k : Nat) : Nat := (bs.getD k 0).toNat * 256 + (bs.getD (k + 1) 0).toNat

/-- R543, Table SN-4: the EtherType that SEL matches, and the VLAN ID of a tagged frame. -/
def etherType (bs : List Byte) : Nat × Option Nat :=
  if be16 bs 12 = 0x8100 then (be16 bs 16, some (be16 bs 14 % 4096)) else (be16 bs 12, none)

def etherMatch (bs : List Byte) (sel : Nat) : Bool :=
  let (ty, vid) := etherType bs
  sel % 65536 == ty && (!(hasBit sel 28) || vid == some (sel / 65536 % 4096))

/-- ETH_FRAME_RX (R543): a frame whose start-of-frame delimiter passes after `dt` port cycles and whose last FCS byte passes `dtLast`
cycles later. `data` runs from the destination address to the last byte before the FCS. -/
def execEthFrameRx (k : Fin 4) (data : List Byte) (fcsOk : Bool) (_drained dt dtLast : Nat) (s : State) :
    Host.Outcome State Fault Refusal :=
  if s.coreDark then .next s
  else
  let n := 8 + k.val
  let first := s.portTime n + dt
  let s := s.tickP n (dt + dtLast)
  if s.portOn n then
    match s.matching n (etherMatch data) with
    | none => .next (s.unmatched n)
    | some i =>
      if fcsOk then .next (s.wholeSample i first (s.portTime n) data)
      else .next ((((s.linkError n).beginSample i first).killSample i 0).endSample i first)
  else .next s

/-- Table SN-4: the identifier of a CAN frame matches SEL under MASK. -/
def State.canMatch (s : State) (x : CanFrame) (i : Nat) : Bool :=
  let d := (x.id.toNat ^^^ (s.sel i % 2 ^ 29)) &&& s.fld F.SN_STREAM_B_MASK i
  d == 0 && hasBit (s.sel i) 29 == x.ext

/-- R229, Table SN-2: a classical CAN node answers an FD frame with an error frame on its bus. -/
def State.canAnswer (s : State) (n : Nat) (x : CanFrame) : State :=
  if x.fd && !(hasBit (s.fld F.SN_PORT_CFG_IFCFG n) 23) then
    { s with sensors := { s.sensors with canErrors := spSet 0 s.sensors.canErrors n (spGet 0 s.sensors.canErrors n + 1) } }
  else s

/-- CAN_FRAME_RX (R230, Table SN-2): a frame whose SOF edge falls after `dt` port cycles and whose ACK delimiter ends `dtLast` later. -/
def execCanFrameRx (k : Fin 6) (x : CanFrame) (_drained dt dtLast : Nat) (s : State) : Host.Outcome State Fault Refusal :=
  if s.coreDark then .next s
  else
  let n := 12 + k.val
  let first := s.portTime n + dt
  let s := s.tickP n (dt + dtLast)
  if s.portOn n then
    let s := s.canAnswer n x
    match (s.portStreams n).find? (s.canMatch x) with
    | none => .next (s.unmatched n)
    | some i =>
      let classical := !(hasBit (s.fld F.SN_PORT_CFG_IFCFG n) 23)
      if x.remote then .next (s.unmatched n)
      else if x.error || (x.fd && classical) then
        let s := if x.error then s.linkError n else s
        .next (((s.beginSample i first).killSample i 0).endSample i first)
      else .next (s.wholeSample i first (s.portTime n) x.data)
  else .next s

/-- The selected slots of a TDM frame, in slot order (Table SN-4). Slots are 2 or 4 bytes wide. -/
def State.tdmSlots (s : State) (n i : Nat) (slots : List Word) : List Byte :=
  let w := if hasBit (s.fld F.SN_PORT_CFG_IFCFG n) 4 then 4 else 2
  let first := s.sel i % 16
  ((slots.drop first).take (s.sel i / 16 % 16 + 1)).flatMap fun v => leBytes w v.toNat

/-- R230: one TDM frame joins the block of a stream, which FRAMES frames end. -/
def State.tdmFeed (s : State) (n i : Nat) (slots : List Word) : State :=
  let t := s.portTime n
  let s := match (s.stream' i).asm with | some _ => s | none => s.beginSample i t
  let s := s.feedSample i (s.tdmSlots n i slots)
  let u := s.stream' i
  match u.asm with
  | none => s
  | some g =>
    let s := s.setStream' i { u with asm := some { g with frames := g.frames + 1 } }
    if s.sel i / 256 % 256 < g.frames + 1 then s.endSample i t else s

/-- TDM_FRAME_RX (R230): a TDM frame whose frame-sync edge falls after `dt` port cycles. -/
def execTdmFrameRx (k : Fin 2) (slots : List Word) (_drained dt : Nat) (s : State) : Host.Outcome State Fault Refusal :=
  if s.coreDark then .next s
  else
  let n := 24 + k.val
  let s := s.tickP n dt
  if s.portOn n then
    -- R231: a block that more than one stream selects goes to the lowest-indexed one.
    match s.portStreams n with
    | [] => .next (s.unmatched n)
    | i :: _ => .next (s.tdmFeed n i slots)
  else .next s

/-- LINK_STATE_CHANGE (R229, Table SN-11): the link of a CSI-2, Ethernet, CAN or TDM port comes up or goes down. -/
def execLinkStateChange (n : SensorPort) (up : Bool) (s : State) : Host.Outcome State Fault Refusal :=
  if s.coreDark then .next s
  else
  let linked := decide (n.val < 18) || decide (n.val = 24) || decide (n.val = 25)
  .next (if s.portOn n.val && linked then s.setFld F.SN_PORT_STATUS_LINK_UP n.val (bit up) else s)

/-! ## Micro-sequencers -/

/-- The port of sequencer `q`. -/
def seqPort (q : Nat) : Nat := 18 + q

/-- Instruction `i` of sequencer `q`. -/
def State.seqInstr (s : State) (q i : Nat) : Nat :=
  if i % 2 = 0 then s.fld F.SN_INSTR_I0 (32 * q + i / 2) else s.fld F.SN_INSTR_I1 (32 * q + i / 2)

def seqOp (w : Nat) : Nat := w / 2 ^ 28 % 16

/-- Some WAIT_TRIG of the program names the source. -/
def State.seqNames (s : State) (q src : Nat) : Bool :=
  (List.range 64).any fun i => let w := s.seqInstr q i; seqOp w == 1 && w % 64 == src

/-- R237: sequencer `q` executes its next instruction if that has code `op`: `body` gets the instruction and the port cycle of
its execution, and answers the cycles it takes. Every instruction but JUMP continues at the next. -/
def State.seqStep (s : State) (q op : Nat) (body : State → Nat → Nat → State × Nat) : State :=
  let x := s.sequencer q
  let w := s.seqInstr q x.pc
  if x.run && !x.waiting && seqOp w == op && decide (x.freeAt ≤ s.portTime (seqPort q)) then
    let s := s.setSequencer q { x with pc := (x.pc + 1) % 64 }
    let (s, n) := body s w x.freeAt
    s.setSequencer q { s.sequencer q with freeAt := x.freeAt + n }
  else s

/-- HALT (Table SN-7): stops the sequencer until the next commit. -/
def execHalt (q : Fin 6) (dt : Nat) (s : State) : Host.Outcome State Fault Refusal :=
  if s.coreDark then .next s else .next ((s.tickP (seqPort q.val) dt).seqStep q.val 0 fun s _ _ =>
    (s.setSequencer q.val { s.sequencer q.val with run := false }, 0))

/-- WAIT_TRIG (Table SN-7, R238): a pending trigger lets it go on at once. -/
def execWaitTrig (q : Fin 6) (dt : Nat) (s : State) : Host.Outcome State Fault Refusal :=
  if s.coreDark then .next s else .next ((s.tickP (seqPort q.val) dt).seqStep q.val 1 fun s w _ =>
    let x := s.sequencer q.val
    if x.pend.contains (w % 64) then (s.setSequencer q.val { x with pend := x.pend.filter fun k => k != w % 64 }, 1)
    else (s.setSequencer q.val { x with
      waiting := true
      pc := (x.pc + 63) % 64 }, 0))

/-- STAMP (Table SN-7). -/
def execStamp (q : Fin 6) (dt : Nat) (s : State) : Host.Outcome State Fault Refusal :=
  if s.coreDark then .next s else .next ((s.tickP (seqPort q.val) dt).seqStep q.val 2 fun s _ t =>
    let x := s.sequencer q.val
    (s.setSequencer q.val { x with
      first := some (x.first.getD t)
      last := some t }, 1))

/-- Byte `k` of sequencer `q`'s transmit table. -/
def State.txByte (s : State) (q k : Nat) : Byte :=
  BitVec.ofNat 8 (s.fld F.SN_TX_BYTES (8 * q + k % 64 / 8) / 2 ^ (8 * (k % 8)))

/-- Port cycles that a byte takes on the bus: SPI clocks 8 bits at SCLK, I3C 9 bits at SCL (entry 10). -/
def State.byteCycles (s : State) (q : Nat) : Nat :=
  let c := s.fld F.SN_PORT_CFG_IFCFG (seqPort q)
  if q < 4 then 16 * (c % 64 + 1) else 9 * 400 / max 1 (c % 32)

/-- XFER (Table SN-7): clocks LEN bytes; `rx` are the bytes received. -/
def execXfer (q : Fin 6) (rx : List Byte) (dt : Nat) (s : State) : Host.Outcome State Fault Refusal :=
  if s.coreDark then .next s else .next ((s.tickP (seqPort q.val) dt).seqStep q.val 3 fun s w _ =>
    let x := s.sequencer q.val
    let len := w % 256
    let off := w / 2 ^ 8 % 64
    let txLen := min len (w / 2 ^ 14 % 64)
    let out := (List.range txLen).map (fun k => s.txByte q.val (off + k)) ++ List.replicate (len - txLen) 0
    let got := (List.range len).map fun k => rx.getD k 0
    -- R231: a port that is off receives nothing.
    let buf := if hasBit w 20 && s.portOn (seqPort q.val) then x.buf ++ got.drop txLen else x.buf
    (s.setSequencer q.val { x with
      buf := buf.take 192
      excess := x.excess || decide (192 < buf.length)
      sent := some (w / 2 ^ 21 % 128, out) }, 8 + len * s.byteCycles q.val))

/-- DELAY (Table SN-7). -/
def execDelay (q : Fin 6) (dt : Nat) (s : State) : Host.Outcome State Fault Refusal :=
  if s.coreDark then .next s else .next ((s.tickP (seqPort q.val) dt).seqStep q.val 4 fun s w _ => (s, w % 2 ^ 24))

/-- A stamp that no STAMP has given since the last EMIT has no stated value: a free value (entry 3). -/
def State.stampOr (s : State) (o : Option Nat) : Nat × State :=
  match o with
  | some t => (t, s)
  | none => let (v, s) := s.fresh; (v.toNat, s)

/-- EMIT (Table SN-7, R238): ends the sample and hands it to the stream whose tag matches. What a port that is off emits is not matched
(R231). -/
def State.emit (s : State) (n tag : Nat) (first last : Nat) (bs : List Byte) (long : Bool) : State :=
  if !(s.portOn n) then s
  else match s.matching n (fun x => x % 64 == tag) with
  | none => s.unmatched n
  | some i =>
    if long then ((s.beginSample i first).killSample i 2).endSample i last
    else s.wholeSample i first last bs

def execEmit (q : Fin 6) (dt : Nat) (s : State) : Host.Outcome State Fault Refusal :=
  if s.coreDark then .next s else .next ((s.tickP (seqPort q.val) dt).seqStep q.val 5 fun s w _ =>
    let x := s.sequencer q.val
    let (first, s) := s.stampOr x.first
    let (last, s) := s.stampOr x.last
    let s := s.setSequencer q.val { x with
      first := none
      last := none
      buf := []
      excess := false }
    (s.emit (seqPort q.val) (w % 64) first last x.buf x.excess, 1))

/-- JUMP (Table SN-7). -/
def execJump (q : Fin 6) (dt : Nat) (s : State) : Host.Outcome State Fault Refusal :=
  if s.coreDark then .next s else .next ((s.tickP (seqPort q.val) dt).seqStep q.val 6 fun s w _ =>
    (s.setSequencer q.val { s.sequencer q.val with pc := w % 64 }, 1))

/-- GPIO_OUT (Table SN-7): drives a pin of mode 3 that this sequencer owns. -/
def execGpioOut (q : Fin 6) (dt : Nat) (s : State) : Host.Outcome State Fault Refusal :=
  if s.coreDark then .next s else .next ((s.tickP (seqPort q.val) dt).seqStep q.val 7 fun s w _ =>
    let g := w % 32
    (if s.fld F.SN_GPIO_MODE g = 3 ∧ s.fld F.SN_GPIO_OWNER g = q.val then s.setPin g (hasBit w 5) else s, 1))

/-- R238: a trigger of a source reaches sequencer `q` in port cycle `t`. -/
def State.trigger (s : State) (q src : Nat) : State :=
  let x := s.sequencer q
  let n := seqPort q
  let w := s.seqInstr q x.pc
  if x.run && x.waiting && w % 64 == src then
    s.setSequencer q { x with
      waiting := false
      pc := (x.pc + 1) % 64
      freeAt := max x.freeAt (s.portTime n) + 1 }
  else if x.run && s.seqNames q src then
    if x.pend.contains src then s.bump F.SN_PORT_STATUS_TRIG_MISS n else s.setSequencer q { x with pend := x.pend ++ [src] }
  else s

/-- SEQUENCER_TRIGGER (R238): after `dt` port cycles a captured edge, an I3C in-band interrupt or a frame start reaches sequencer `q`. -/
def execSequencerTrigger (q : Fin 6) (src : BitVec 6) (dt : Nat) (s : State) : Host.Outcome State Fault Refusal :=
  if s.coreDark then .next s
  else
  let s := s.tickP (seqPort q.val) dt
  let x := s.sequencer q.val
  let k := src.toNat
  if k < 32 then
    if x.arriving.contains k then .next ((s.setSequencer q.val { x with arriving := x.arriving.erase k }).trigger q.val k)
    else .next s
  else if k = 33 then .next (if 4 ≤ q.val ∧ s.portOn (seqPort q.val) = true then s.trigger q.val k else s)
  else if k = 34 then
    if x.frame < s.frameNum then .next ((s.setSequencer q.val { x with frame := s.frameNum }).trigger q.val k) else .next s
  else .next s

/-- SEQUENCER_TIMER_EXPIRY (Table SN-7 source 32): after `dt` port cycles the timer period elapses. -/
def execSequencerTimerExpiry (q : Fin 6) (dt : Nat) (s : State) : Host.Outcome State Fault Refusal :=
  if s.coreDark then .next s
  else
  let s := s.tickP (seqPort q.val) dt
  let p := s.fld F.SN_SEQ_CFG_PERIOD q.val
  let x := s.sequencer q.val
  if x.run && p != 0 && decide (x.timerAt + p ≤ s.portTime (seqPort q.val)) then
    .next ((s.setSequencer q.val { x with timerAt := x.timerAt + p }).trigger q.val 32)
  else .next s

/-! ## GPIO pins -/

/-- Bits [6:5] of SEL, or EDGE, name a rising or a falling edge. -/
def edgeIn (mask : Nat) (rising : Bool) : Bool := hasBit mask (if rising then 0 else 1)

/-- GPIO_EDGE_CAPTURE (R231, R239): after `dt` GPIO cycles a captured edge forms a sample of its stream and leaves for the
sequencers whose programs name the pin. -/
def execGpioEdgeCapture (g : BitVec 5) (rising : Bool) (dt : Nat) (s : State) : Host.Outcome State Fault Refusal :=
  if s.coreDark then .next s
  else
  let s := s.tickP 26 dt
  let pin := g.toNat
  if s.portOn 26 && s.fld F.SN_GPIO_MODE pin == 1 && edgeIn (s.fld F.SN_GPIO_EDGE pin) rising then
    let t := s.portTime 26
    let s := match s.matching 26 (fun x => x % 32 == pin && edgeIn (x / 32 % 4) rising) with
      | some i => s.wholeSample i t t []
      | none => s.unmatched 26
    .next ((List.range 6).foldl (fun s q =>
      let x := s.sequencer q
      if x.run && s.seqNames q pin then s.setSequencer q { x with arriving := x.arriving ++ [pin] } else s) s)
  else .next s

/-- R239: the GPIO cycle in which a frame-trigger pin that counts OFFSET begins its pulse: no earlier than the end of the last. -/
def State.pulseDue (s : State) (pin : Nat) : Option Nat :=
  match spGet 0 s.sensors.offset pin with
  | 0 => none
  | c + 1 => some (max (c + s.fld F.SN_GPIO_OFFSET pin) (spGet 0 s.sensors.pulseEnd pin))

/-- GPIO_FRAME_TRIGGER (R239): after `dt` GPIO cycles a frame-trigger pin whose OFFSET has run out begins its pulse of WIDTH cycles. -/
def execGpioFrameTrigger (g : BitVec 5) (_since dt : Nat) (s : State) : Host.Outcome State Fault Refusal :=
  if s.coreDark then .next s
  else
  let s := s.tickP 26 dt
  let pin := g.toNat
  match s.pulseDue pin with
  | some t =>
    if s.portOn 26 && s.fld F.SN_GPIO_MODE pin == 2 && decide (t ≤ s.portTime 26) then
      let e := t + s.fld F.SN_GPIO_WIDTH pin
      let s := { s with sensors := { s.sensors with
        pulse := spSet 0 s.sensors.pulse pin (e + 1)
        pulseEnd := spSet 0 s.sensors.pulseEnd pin e
        offset := spSet 0 s.sensors.offset pin 0 } }
      .next (s.setPin pin (s.flag F.SN_GPIO_POL pin))
    else .next s
  | none => .next s

/-- GPIO_PULSE_END (R239): after `dt` GPIO cycles a pulse ends, WIDTH cycles after it began. -/
def execGpioPulseEnd (g : BitVec 5) (dt : Nat) (s : State) : Host.Outcome State Fault Refusal :=
  if s.coreDark then .next s
  else
  let s := s.tickP 26 dt
  let pin := g.toNat
  match spGet 0 s.sensors.pulse pin with
  | 0 => .next s
  | e + 1 =>
    if e ≤ s.portTime 26 then
      let s := { s with sensors := { s.sensors with pulse := spSet 0 s.sensors.pulse pin 0 } }
      .next (s.setPin pin (!(s.flag F.SN_GPIO_POL pin)))
    else .next s

/-! ## The drive role -/

/-- Bytes of one output in the drive format (Table GL-8 DFMT). -/
def driveWidth (fmt : Nat) : Nat := if fmt = 0 then 2 else 4

/-- R322: the transmitted payload of a gate record. -/
def State.drivePayload (s : State) (r : Nat) : List Byte :=
  let k := B.GREC_CHANNEL.get r
  let flags := B.GREC_FLAGS.get r
  let hdr : Nat := B.GREC_SAMPLE.get r % 2 ^ 16 + k * 2 ^ 16 + flags % 2 * 2 ^ 22 + bit (2 ≤ flags) * 2 ^ 23 +
    B.GREC_FRAME.get r % 2 ^ 32 * 2 ^ 32
  let out := leBytes (s.fld F.GL_CH_A_NY k * driveWidth (s.fld F.GL_CH_C_DFMT k)) (B.GREC_PAYLOAD.get r)
  let body := (if s.flag F.GL_CH_C_HDR k then leBytes 8 hdr else []) ++ out
  if s.flag F.GL_CH_C_CRC k then body ++ leBytes 4 (crc32c body) else body

/-- Table GL-5: the smallest CAN FD data length that holds `n` bytes. -/
def canLength (n : Nat) : Nat := ([0, 1, 2, 3, 4, 5, 6, 7, 8, 12, 16, 20, 24, 32, 48, 64].find? fun k => decide (n ≤ k)).getD 64

def padTo (n : Nat) (bs : List Byte) : List Byte := bs ++ List.replicate (n - bs.length) 0

/-- A 48-bit address or a 16-bit field of an Ethernet frame, most significant byte first (entry 9). -/
def beBytes (n v : Nat) : List Byte := (leBytes n v).reverse

/-- Table GL-5: the bytes of the drive frame: for CAN the identifier, IDE, FD and BRS in eight bytes and the padded data; for Ethernet
the frame before its FCS; for SPI the chip select and the transfer's bytes. -/
def State.driveFrame (s : State) (n r : Nat) : List Byte :=
  let k := B.GREC_CHANNEL.get r
  let addr := s.fld F.GL_CH_C_ADDR k
  let p := s.drivePayload r
  if 12 ≤ n ∧ n < 18 then
    leBytes 8 (addr % 2 ^ 30 + s.fld F.GL_CH_C_FD k * 2 ^ 32 + s.fld F.GL_CH_C_BRS k * 2 ^ 33) ++ padTo (canLength p.length) p
  else if 8 ≤ n ∧ n < 12 then
    let tag := if hasBit addr 28 then beBytes 2 0x8100 ++ beBytes 2 (addr / 65536 % 4096) else []
    beBytes 6 (s.fld F.GL_CH_D_DA k) ++ beBytes 6 (s.fld F.GL_ETH_SA_SA (n - 8)) ++ tag ++ beBytes 2 (addr % 65536) ++ padTo 46 p
  else BitVec.ofNat 8 (addr % 4) :: p

/-- R322, R365: a released record joins its port's queue of 16, or is dropped. -/
def State.driveRelease (s : State) (r : Nat) : State :=
  let k := B.GREC_CHANNEL.get r
  let n := s.fld F.GL_CH_C_PORT k
  let q := s.driveQueue n
  if 16 ≤ q.length then (s.bump F.GL_CH_CNT_DRIVE_DROP k).raise 0x16 k else s.setDriveQueue n (q ++ [⟨r, none⟩])

/-- DRIVE_TRANSMIT (R240): after `dt` port cycles a DRIVE port begins to transmit the oldest record of its queue. In replay no DRIVE
port transmits (R487). -/
def execDriveTransmit (n : SensorPort) (dt : Nat) (s : State) : Host.Outcome State Fault Refusal :=
  if s.coreDark then .next s
  else
  let s := s.tickP n.val dt
  match s.driveQueue n.val with
  | [] => .next s
  | x :: rest =>
    if x.started.isNone && s.flag F.SN_PORT_CFG_ROLE n.val && !(s.flag F.FB_STATUS_REPLAYING) then
      let s := s.setDriveQueue n.val ({ x with started := some (s.portTime n.val) } :: rest)
      .next { s with sensors := { s.sensors with wire := spSet [] s.sensors.wire n.val (s.driveFrame n.val x.record) } }
    else .next s

/-- DRIVE_TRANSMIT_END (R240, R322): after `dt` port cycles the transmission ends and frees its place. A SPI port publishes the bytes
received under EMIT tag 63. -/
def execDriveTransmitEnd (n : SensorPort) (rx : List Byte) (dt : Nat) (s : State) : Host.Outcome State Fault Refusal :=
  if s.coreDark then .next s
  else
  let s := s.tickP n.val dt
  match s.driveQueue n.val with
  | [] => .next s
  | x :: rest =>
    match x.started with
    | none => .next s
    | some t =>
      let s := s.setDriveQueue n.val rest
      if 18 ≤ n.val ∧ n.val < 22 ∧ s.portOn n.val then
        let len := (s.drivePayload x.record).length
        .next (s.emit n.val 63 t (s.portTime n.val) ((List.range len).map fun k => rx.getD k 0) false)
      else .next s

end Sys2Proof.Machine
end

