-- ==== Sys2Proof/Machine/Datum.lean ====
section
/-! DEFINITION. Datum (11): snapshots and instants, the latch, components, gates and quarantine, retrodiction, tracks and the
auction, and the fused-state record. -/

namespace Sys2Proof.Machine

/-! ## Registers and tables -/

def State.dtOffset (s : State) (f : RegField) : Nat := datumBase + s.fld f * 4096

/-- R242: the enabled sources. -/
def State.sourceOn (s : State) (n : Nat) : Bool :=
  if n < 48 then s.flag F.SN_STREAM_A_EN n else hasBit (s.fld F.DT_CFG_FEAT_EN) (n - 48)

def State.sourceTrust (s : State) (n : Nat) : Nat :=
  if n < 48 then s.fld F.SN_STREAM_A_TRUST n else s.fld F.DT_SRC_CFG_TRUST n

def State.quarantined (s : State) (n : Nat) : Bool := hasBit (s.fld F.DT_QUAR_SOURCES) n

/-- R250: the group of a component. -/
def State.groupOf (s : State) (c : Nat) : Option Nat :=
  (List.range 64).find? fun g =>
    let b := s.fld F.DT_GROUP_A_BASE g
    decide (b ≤ c) && decide (c < b + s.fld F.DT_GROUP_A_COUNT g)

def State.comp (s : State) (c : Nat) : Comp := spGet Comp.reset s.datum.comps c
def State.setComp (s : State) (c : Nat) (x : Comp) : State :=
  { s with datum := { s.datum with comps := spSet Comp.reset s.datum.comps c x } }
def State.track (s : State) (a j : Nat) : Track := spGet Track.reset s.datum.tracks (256 * a + j)
def State.setTrack (s : State) (a j : Nat) (x : Track) : State :=
  { s with datum := { s.datum with tracks := spSet Track.reset s.datum.tracks (256 * a + j) x } }
def State.datumRec (s : State) (n : Nat) : DatumRec := spGet ⟨0, none, 0, 0, 0, [], []⟩ s.datum.recs n
def State.setMasks (s : State) (m : DatumMasks) : State := { s with datum := { s.datum with masks := m } }
def withBit (v n : Nat) : Nat := putBit v n true
def State.markUsed (s : State) (n : Nat) : State := s.setMasks { s.datum.masks with used := withBit s.datum.masks.used n }
def State.markReject (s : State) (n : Nat) : State :=
  (s.setMasks { s.datum.masks with reject := withBit s.datum.masks.reject n }).bump F.DT_COUNTS2_REJECT

/-- R260, R263: the published buffer of a feature source, or of a group's cost matrix (16 + a). -/
def State.sideOf (s : State) (k : Nat) : Option Nat :=
  match spGet 0 s.datum.sides k with
  | 0 => none
  | b + 1 => some b

/-! ## Snapshots -/

/-- R248: the stages of Datum frame `m` whose LATCH falls at cycle `t`. -/
def State.datumFrame (s : State) (m t : Nat) : State :=
  let l := s.fld F.DT_TIME_LATCH
  { s with datum := { s.datum with
    stage := 1
    frame := m
    latchAt := t
    costAt := t + s.fld F.DT_TIME_COST - l
    publishAt := t + s.fld F.DT_TIME_PUBLISH - l
    next := none } }

/-- R341–R344: the phases of a Stadia frame whose LATCH falls at cycle `t`. -/
def State.stadiaFrame (s : State) (t : Nat) : State :=
  let l := s.fld F.ST_TIME_A_LATCH
  { s with stadia := { s.stadia with
    stage := 1
    latchAt := t
    endAt := t + s.fld F.ST_TIME_A_CHECK_END - l
    gateAt := t + s.fld F.ST_TIME_B_GATE - l
    next := false } }

/-- R344: a frame start reaches FCLK, where Stadia counts its phases from it. One before the publication delays the next LATCH. -/
def State.stadiaStart (s : State) : State :=
  if s.flag F.ST_CFG_EN then
    if s.stadia.stage = 0 then s.stadiaFrame (s.clk.fclk + s.fld F.ST_TIME_A_LATCH)
    else { s with stadia := { s.stadia with next := true } }.bump F.ST_COUNTS_LATCH_LATE
  else s

/-- DATUM_SNAPSHOT (R243, R248): after `dt` FCLK cycles a frame start reaches FCLK, and Datum reads the stamp counter of every enabled
port; bit n of `lag` says that port n's read lags by 3 cycles and not by 2. In replay recorded latches stand in place of those that
follow from it (R246, R349). -/
def execDatumSnapshot (lag : BitVec 27) (dt : Nat) (s : State) : Host.Outcome State Fault Refusal :=
  if s.dark then .next s
  else
  let s := s.tickF dt
  let m := s.frameNum
  if s.datum.seen < m && !(s.flag F.FB_STATUS_REPLAYING) then
    let ports := (List.range 27).filter fun n => s.portOn n
    let snaps := ports.foldl (fun t n =>
      spSet [] t n (((m, s.portTime n - (2 + bit (hasBit lag.toNat n))) :: spGet [] t n).take 18)) s.datum.snaps
    let s := { s with datum := { s.datum with
      snaps := snaps
      seen := m } }
    let s := s.stadiaStart
    if s.flag F.DT_CFG_EN then
      if s.datum.stage = 0 then .next (s.datumFrame m (s.clk.fclk + s.fld F.DT_TIME_LATCH))
      else .next ({ s with datum := { s.datum with next := some m } }.bump F.DT_COUNTS_LATCH_LATE)
    else .next s
  else .next s

/-! ## The latch -/

/-- R244: the instant stamp of a stream sample. -/
def State.instantStamp (s : State) (n first last : Nat) : Int :=
  let base : Nat := match s.fld F.DT_SRC_CFG_INSTANT n with | 0 => first | 2 => (first + last) / 2 | _ => last
  (base : Int) + asSigned 32 (s.fld F.DT_SRC_CFG_OFS n)

/-- R244: the newest frame whose snapshot is at or below the stamp. -/
def instantFrame (snaps : List (Nat × Nat)) (stamp : Int) : Option Nat :=
  (snaps.find? fun e => decide ((e.2 : Int) ≤ stamp)).map fun e => e.1

/-- R245: AGE_FRAMES; an instant older than every snapshot lies outside the window. -/
def ageFrames (m : Nat) : Option Nat → Nat
  | some f => min 255 (m - 1 - f)
  | none => 255

/-- Table DT-1: the class of a record. -/
def State.latchClassOf (s : State) (n seq age : Nat) : Nat :=
  if s.quarantined n then 4
  else if (spGet [] s.datum.taken n).contains seq then 0
  else if age = 0 then 1 else if age ≤ 16 then 2 else 3

/-- The 32-byte units of `n` bytes from `a` that carry poison. -/
def State.badUnits (s : State) (a n : Nat) : List Nat :=
  (List.range ((n + 31) / 32)).filter fun k => s.poisonAt (a + 32 * k)

/-- R245: what the latch of frame `m` takes from source `n`. -/
def State.takeSource (s : State) (m n : Nat) : Option DatumRec :=
  if n < 48 then
    (s.published n).map fun a =>
      let h := s.rdLe a 64
      let stamp := s.instantStamp n (B.SHDR_STAMP_FIRST.get h) (B.SHDR_STAMP_LAST.get h)
      let snaps := spGet [] s.datum.snaps (s.fld F.SN_STREAM_A_PORT n)
      let f := instantFrame snaps stamp
      let here := ((snaps.find? fun e => e.1 == m).map fun e => e.2).getD 0
      let age := ageFrames m f
      let len := if B.SHDR_INLINE.get h = 1 then B.SHDR_LEN.get h else 0
      let seq := B.SHDR_SEQ.get h
      ⟨seq, f, age, ofSigned 56 ((here : Int) - stamp), s.latchClassOf n seq age, s.rdBytes (a + 64) len, s.badUnits (a + 64) len⟩
  else
    match s.sideOf (n - 48) with
    | none => none
    | some b =>
      let a := s.dtOffset F.DT_BASE_FEAT_BASE + (n - 48) * 16384 + b * 8192
      let h := s.rdLe a 64
      let f := B.FHDR_INSTANT.get h
      let age := ageFrames m (some f)
      let seq := B.FHDR_SEQ.get h
      let len := 64 + 32 * B.FHDR_COUNT.get h
      some ⟨seq, some f, age, 0, s.latchClassOf n seq age, s.rdBytes a len, s.badUnits a len⟩

/-- R260: COUNT of a latched feature record. -/
def DatumRec.count (r : DatumRec) : Nat := B.FHDR_COUNT.get (leNat (r.bytes.take 64))
/-- Table DT-4: entry `i` of a latched feature record. -/
def DatumRec.entry (r : DatumRec) (i : Nat) : Nat := leNat ((r.bytes.drop (64 + 32 * i)).take 32)
/-- Entry `i` carries poison. -/
def DatumRec.badEntry (r : DatumRec) (i : Nat) : Bool := r.bad.contains (2 + i)

/-- R261: the KIND 2 entries of a latched feature record, by index. -/
def DatumRec.detections (r : DatumRec) : List Nat := (List.range r.count).filter fun i => B.FENT_KIND.get (r.entry i) == 2

/-- R245, R259, R260, R268: what the latch takes from source `n` is latched. A record with too many entries is classified and counted as any
other, its entries discarded. One whose header carries poison is not used: its SEQ is none that could be compared. -/
def State.latchSource (s : State) (n : Nat) (taken : Option DatumRec) : State :=
  match taken with
  | none => s.setReg R.DT_SRC_STAT n ((s.reg R.DT_SRC_STAT n) &&& 0xFFFFFFFFFFFF0000)
  | some r =>
    let header := n ≥ 48 && (r.bad.contains 0 || r.bad.contains 1)
    let r := if header && r.cls != 4 then { r with cls := 0 } else r
    let fresh := r.cls == 1 || r.cls == 2 || r.cls == 3
    let tooMany := n ≥ 48 && decide (64 < r.count)
    let s := if tooMany && fresh then s.bump F.DT_COUNTS2_REC_BAD else s
    let s := if header then s.markReject n else s
    let r := if tooMany then { r with bytes := [] } else r
    let s := { s with datum := { s.datum with
      recs := spSet ⟨0, none, 0, 0, 0, [], []⟩ s.datum.recs n r
      taken := if fresh then spSet [] s.datum.taken n (spGet [] s.datum.taken n ++ [r.seq]) else s.datum.taken } }
    let s := (s.setFld F.DT_SRC_STAT_AGE n r.age).setFld F.DT_SRC_STAT_CLASS n r.cls
    let s := if r.cls = 1 ∨ r.cls = 2 then s.setFld F.DT_SRC_STAT_LAST_SEQ n r.seq else s
    -- R259: dropped records, and detections in LATE or DROPPED feature records.
    let dets := if n ≥ 48 then (r.detections.length) else 0
    if r.cls = 3 then
      (s.setMasks { s.datum.masks with lateDrop := withBit s.datum.masks.lateDrop n }).bump F.DT_COUNTS_LATE_DROP 0 (1 + dets)
    else if r.cls = 2 ∧ 0 < dets then s.bump F.DT_COUNTS_LATE_DROP 0 dets
    else s

/-! ## Prediction -/

def f32half : Nat := 0x3F000000
def f32quarter : Nat := 0x3E800000
def f32two : Nat := 0x40000000

/-- R250: prediction by one frame, with model order 1 or 2 and process noise `q`. -/
def Comp.predict (c : Comp) (order2 : Bool) (q : Nat) : Comp :=
  if !c.init then c
  else if order2 then
    { c with
      x := fAdd c.x c.v
      p00 := fAdd (fAdd (fAdd c.p00 (fMul f32two c.p01)) c.p11) (fMul q f32quarter)
      p01 := fAdd (fAdd c.p01 c.p11) (fMul q f32half)
      p11 := fAdd c.p11 q }
  else { c with p00 := fAdd c.p00 q }

def fMaxVal (a b : Nat) : Nat := if fLt a b then b else a

/-- R251: a scalar measurement `z` with variance `r`. -/
def Comp.update (c : Comp) (order2 : Bool) (q varMin z r : Nat) : Comp :=
  if !c.init then ⟨true, z, 0, r, 0, q⟩
  else
    let sv := fAdd c.p00 r
    let y := fSub z c.x
    let k0 := fDiv c.p00 sv
    let k1 := if order2 then fDiv c.p01 sv else 0
    let x := fAdd c.x (fMul k0 y)
    let v := if order2 then fAdd c.v (fMul k1 y) else c.v
    let p11 := if order2 then fSub c.p11 (fMul k1 c.p01) else c.p11
    let p01 := fSub c.p01 (fMul k0 c.p01)
    let p00 := fSub c.p00 (fMul k0 c.p00)
    ⟨true, x, v, fMaxVal p00 varMin, p01, fMaxVal p11 varMin⟩

/-- R258: a late measurement against the history entry `h` of age `k`. -/
def Comp.retrodict (c h : Comp) (order2 : Bool) (varMin k z r : Nat) : Comp :=
  let c0 := fAdd h.p00 (if order2 then fMul (fOfInt k) h.p01 else 0)
  let c1 := if order2 then h.p01 else 0
  let sv := fAdd h.p00 r
  let y := fSub z h.x
  { c with
    x := fAdd c.x (fMul (fDiv c0 sv) y)
    v := fAdd c.v (fMul (fDiv c1 sv) y)
    p00 := fMaxVal (fSub c.p00 (fDiv (fMul c0 c0) sv)) varMin
    p01 := fSub c.p01 (fDiv (fMul c0 c1) sv)
    p11 := fMaxVal (fSub c.p11 (fDiv (fMul c1 c1) sv)) varMin }

/-- R250: components that lie in a group are predicted; those in none have no model. -/
def State.predictAll (s : State) : State :=
  let s := (List.range (s.fld F.DT_CFG_COMPONENTS)).foldl (fun s c =>
    match s.groupOf c with
    | some g => s.setComp c ((s.comp c).predict (s.flag F.DT_GROUP_A_ORDER g) (s.fld F.DT_GROUP_B_Q g))
    | none => s) s
  (List.range 4).foldl (fun s a => (List.range (s.fld F.DT_ASSOC_A_TRACK_MAX a)).foldl (fun s j =>
    let t := s.track a j
    if t.state = 0 then s
    else s.setTrack a j { t with axes := t.axes.map fun x => x.predict true (s.fld F.DT_ASSOC_B_Q a) }) s) s

/-! ## Association tables -/

/-- Three binary32 words of a 96-bit field. -/
def three (v : Nat) : List Nat := [v % 2 ^ 32, v / 2 ^ 32 % 2 ^ 32, v / 2 ^ 64 % 2 ^ 32]
def unthree (l : List Nat) : Nat := packElems 32 (l.take 3)

/-- R261: the feature sources whose detections group `a` takes. -/
def State.detectors (s : State) (a : Nat) : List Nat :=
  ((bitsOf 16 (s.fld F.DT_ASSOC_A_FEAT_MASK a)).map fun k => 48 + k).filter fun n => (s.datumRec n).cls == 1 && s.sourceOn n

/-- R261: the detections of group `a`, and how many lie beyond 256; poisoned entries are passed over (R268). -/
def State.detections (s : State) (a : Nat) : List Detection × Nat :=
  let all := (s.detectors a).flatMap fun n =>
    let r := s.datumRec n
    (r.detections.filter fun i => !(r.badEntry i)).map fun i =>
      let e := r.entry i
      (⟨three (B.FENT_VAL.get e), three (B.FENT_VAR.get e), B.FENT_CLASS.get e, n⟩ : Detection)
  (all.take 256, all.length - 256)

/-- R268: the poisoned detections that group `a` passes over mark their source REJECT. -/
def State.rejectDetections (s : State) (a : Nat) : State :=
  (s.detectors a).foldl (fun (s : State) n =>
    ((s.datumRec n).detections.filter (s.datumRec n).badEntry).foldl (fun (s : State) _ => s.markReject n) s) s

/-- Table DT-5. SOURCE is the feature source, 0–15. -/
def Detection.entry (d : Detection) : Nat :=
  B.DET_POS.put (unthree d.pos) + B.DET_VAR.put (unthree d.var) + B.DET_CLASS.put d.cls + B.DET_SOURCE.put (d.source - 48) +
    B.DET_VALID.put 1

/-- Table DT-6. -/
def Track.entry (t : Track) (a : Nat) : Nat :=
  if t.state = 0 then 0
  else B.TRK_POS.put (unthree (t.axes.map fun x => x.x)) + B.TRK_VEL.put (unthree (t.axes.map fun x => x.v)) +
    B.TRK_VAR.put (unthree (t.axes.map fun x => x.p00)) + B.TRK_ID.put t.id + B.TRK_GEN.put t.gen + B.TRK_STATE.put t.state +
    B.TRK_GROUP.put a + B.TRK_HITS.put t.hits + B.TRK_MISSES.put t.misses + B.TRK_CLASS.put t.cls

/-- R262: the region of group `a`. -/
def State.assocRegion (s : State) (a : Nat) : Nat := s.dtOffset F.DT_BASE_ASSOC_BASE + a * 544 * 1024

/-- R261, R262: the detection and track tables of group `a`. -/
def State.writeAssoc (s : State) (a : Nat) : State :=
  let (ds, over') := s.detections a
  let s := s.rejectDetections a
  let s := if over' = 0 then s else s.bump F.DT_COUNTS2_DET_OVER 0 over'
  let s := { s with datum := { s.datum with dets := spSet [] s.datum.dets a ds } }
  let r := s.assocRegion a
  let s := s.clearRange r (8192 + 256 * 64)
  let s := (ds.zipIdx).foldl (fun s x => s.wrLe (r + 32 * x.2) 32 x.1.entry) s
  (List.range (s.fld F.DT_ASSOC_A_TRACK_MAX a)).foldl (fun s j =>
    let t := s.track a j
    if t.state = 0 then s else s.wrLe (r + 8192 + 64 * j) 64 (t.entry a)) s

/-- Releases take effect at a latch (R269). -/
def State.applyReleases (s : State) : State :=
  let rs := s.datum.releases
  let s := rs.foldl (fun s n =>
    let s := s.setFld F.DT_QUAR_SOURCES 0 (putBit (s.fld F.DT_QUAR_SOURCES) n false)
    let s := { s with datum := { s.datum with
      runs := spKeep (fun k => k / 64 % 64 != n && k % 64 != n) s.datum.runs } }
    s.record 0x13 6 (words [1, n]) 2) s
  { s with datum := { s.datum with releases := [] } }

/-- R246: the latch record. -/
def State.datumLatchRecord (s : State) (m : Nat) : State :=
  let rows := ((List.range 64).filter s.sourceOn).flatMap fun n =>
    let r := s.datumRec n
    [n, r.seq, r.instant.getD (2 ^ 48 - 1), r.cls, r.ticks]
  s.record 0x10 6 (words (6 :: m :: rows)) 2

/-- The latch of Datum frame `m` (R245, R250, R262), from what `take` finds at each source. -/
def State.datumLatch (s : State) (m : Nat) (take : State → Nat → Option DatumRec) : State :=
  let s := s.applyReleases
  let s := { s with datum := { s.datum with
    recs := []
    dets := []
    masks := DatumMasks.reset
    stage := 2 } }
  let s := (List.range 64).foldl (fun (s : State) n => s.latchSource n (if s.sourceOn n then take s n else none)) s
  let s := s.datumLatchRecord m
  (List.range 4).foldl (fun s a => s.writeAssoc a) s.predictAll

/-- DATUM_LATCH (R245): after `dt` FCLK cycles, at LATCH of the current Datum frame. In replay the recorded latches stand in its place (R246). -/
def execDatumLatch (dt : Nat) (s : State) : Host.Outcome State Fault Refusal :=
  if s.dark then .next s
  else
  let s := s.tickF dt
  let m := s.datum.frame
  let v := s.latchedF
  if s.datum.stage = 1 ∧ s.datum.latchAt ≤ s.clk.fclk ∧ s.flag F.FB_STATUS_REPLAYING = false then
    .next (s.datumLatch m fun t n => { t with
      sensors := v.sensors
      datum := { t.datum with sides := v.datum.sides } }.takeSource m n)
  else .next s

/-! ## Measurements -/

/-- A measurement of a component. -/
structure Meas where
  comp : Nat
  z    : Nat
  r    : Nat
deriving DecidableEq, Repr

/-- The value of a field in one of the formats of Tables DT-2 and GL-3. -/
def fieldValue (fmt raw : Nat) : FVal :=
  match fmt with
  | 0 => let x := asSigned 16 raw; .fin (decide (x < 0)) x.natAbs 0
  | 1 => .fin false (raw % 65536) 0
  | 2 => let x := asSigned 32 raw; .fin (decide (x < 0)) x.natAbs 0
  | 3 => fp16.decode raw
  | _ => fp32.decode raw

def fieldBytes (fmt : Nat) : Nat := if fmt = 2 ∨ fmt = 4 then 4 else 2

/-- A measurement counts only if it is finite with a variance above zero (R252). -/
def measOk (z r : Nat) : Bool := fFinite z && fFinite r && fLt 0 r

/-- R252: entry `i` of the tap table. -/
def State.tap (s : State) (i : Nat) : Nat := s.rdLe (s.dtOffset F.DT_BASE_TAP_BASE + 32 * i) 32

/-- R252: what one tap makes of a latched sample: a measurement, or a skipped input. -/
def tapMeas (e : Nat) (r : DatumRec) : Option Meas :=
  let off := B.TAP_OFFSET.get e
  let fmt := B.TAP_FORMAT.get e
  let n := fieldBytes fmt
  if r.bytes.length < off + n then none
  else if r.bad.contains (off / 32) || r.bad.contains ((off + n - 1) / 32) then none
  else
    let raw := leNat ((r.bytes.drop off).take n)
    let z := (fp32.dot [(fieldValue fmt raw, f32 (B.TAP_SCALE.get e))] (f32 (B.TAP_BIAS.get e))).1
    let v := B.TAP_VAR.get e
    if measOk z v then some ⟨B.TAP_COMPONENT.get e, z, v⟩ else none

/-- R260: what one component entry of a feature record makes; the group must name the source. -/
def State.entryMeas (s : State) (n e : Nat) (bad : Bool) : Option Meas :=
  let c := B.FENT_COMPONENT.get e
  let z := B.FENT_VAL.get e % 2 ^ 32
  let v := B.FENT_VAR.get e % 2 ^ 32
  match s.groupOf c with
  | some g => if hasBit (s.fld F.DT_GROUP_M_SRC_MASK g) n && !bad && measOk z v then some ⟨c, z, v⟩ else none
  | none => none

/-- The inputs of a source, in tap or entry order: a measurement each, or none where the input is skipped. -/
def State.inputs (s : State) (n : Nat) : List (Option Meas) :=
  let r := s.datumRec n
  if n < 48 then
    ((List.range (s.fld F.DT_CFG_TAPS)).map s.tap).filterMap fun e =>
      if B.TAP_SOURCE.get e = n then some (tapMeas e r) else none
  else (List.range r.count).filterMap fun i =>
    let e := r.entry i
    if B.FENT_KIND.get e = 1 then some (s.entryMeas n e (r.badEntry i)) else none

def State.measures (s : State) (n : Nat) : List Meas := (s.inputs n).filterMap id

/-- The sources of a class that are not quarantined, ascending. -/
def State.sourcesOf (s : State) (cls : Nat) : List Nat :=
  (List.range 64).filter fun n => s.sourceOn n && (s.datumRec n).cls == cls && !(s.quarantined n)

/-! ## The auction -/

/-- An auction in progress (R264). -/
structure Auction where
  price    : List (Nat × Nat)
  owner    : List (Nat × Nat)
  assigned : List (Nat × Nat)
  queue    : List Nat
deriving DecidableEq, Repr

/-- R264: the best slot of detection `i`, its value and the second value. `benefit` answers none for a forbidden pair. -/
def Auction.best (x : Auction) (slots : Nat) (benefit : Nat → Option Int) : Option Nat × Int × Int :=
  (List.range slots).foldl (fun (b : Option Nat × Int × Int) j =>
    match benefit j with
    | none => b
    | some w =>
      let v := w - ((spGet 0 x.price j : Nat) : Int)
      if b.2.1 < v then (some j, v, b.2.1) else if b.2.2 < v then (b.1, b.2.1, v) else b) (none, 0, 0)

/-- R264: at most `cap` steps. Owners are held as detection plus 1, assignments as slot plus 2, and 1 for the dummy. -/
def Auction.run (slots : Nat) (benefit : Nat → Nat → Option Int) : Nat → Auction → Auction
  | 0, x => x
  | k + 1, x =>
    match x.queue with
    | [] => x
    | i :: rest =>
      match x.best slots (benefit i) with
      | (none, _, _) => Auction.run slots benefit k { x with queue := rest, assigned := spSet 0 x.assigned i 1 }
      | (some j, v1, v2) =>
        let p := (((spGet 0 x.price j : Nat) : Int) + v1 - v2 + 1).toNat
        let old := spGet 0 x.owner j
        let asg := if old = 0 then x.assigned else spSet 0 x.assigned (old - 1) 0
        Auction.run slots benefit k ⟨spSet 0 x.price j p, spSet 0 x.owner j (i + 1), spSet 0 asg i (j + 2),
          if old = 0 then rest else rest ++ [old - 1]⟩

/-- R263: the address of the latched cost buffer of group `a`. -/
def State.costBuffer (s : State) (a : Nat) : Option Nat :=
  (s.sideOf (16 + a)).map fun b => s.assocRegion a + (if b = 0 then 24 else 281) * 1024

/-- R263: the cost of a pair: none where its entry carries poison. -/
def State.costOf (s : State) (base i j : Nat) : Option Int :=
  let a := base + 1024 * (i + 1) + 4 * j
  if s.poisonAt a then none else some (asSigned 32 (s.rdLe a 4))

/-- The assignments of group `a` in Datum frame `m`, or none with a stale matrix. The second value counts negative costs, the third
says that the cap ended the auction. -/
def State.auction (s : State) (a m : Nat) : Option (Auction × Nat × Bool) :=
  let ds := spGet [] s.datum.dets a
  let slots := s.fld F.DT_ASSOC_A_TRACK_MAX a
  match s.costBuffer a with
  | none => none
  | some base =>
    if s.rdLe base 6 ≠ m ∨ s.poisonAt base then none
    else
      let n := ds.length
      let gate : Int := s.fld F.DT_ASSOC_B_GATE_COST a
      let benefit (i j : Nat) : Option Int :=
        if (s.track a j).state = 0 then none
        else match s.costOf base i j with
          | none => none
          | some c => if c < 0 ∨ gate ≤ c then none else some ((gate - c) * (n + 1))
      let neg := ((List.range n).flatMap fun i => (List.range slots).filter fun j =>
        match s.costOf base i j with | some c => decide (c < 0) | none => false).length
      let x := Auction.run slots benefit (s.fld F.DT_ASSOC_A_CAP a) ⟨[], [], [], List.range n⟩
      some (x, neg, !x.queue.isEmpty)

/-! ## Consistency gates -/

/-- R254: d² of two sources over the components of group `g` that both measure; none where there is no such component. -/
def pairDistance (xs ys : List Meas) (lo n : Nat) : Option Nat :=
  let common := (List.range n).filterMap fun k =>
    match xs.find? (fun m => m.comp == lo + k), ys.find? (fun m => m.comp == lo + k) with
    | some x, some y =>
      let d := fSub x.z y.z
      some (fDiv (fMul d d) (fAdd x.r y.r))
    | _, _ => none
  if common.isEmpty then none else some (common.foldl fAdd 0)

/-- The sources that conflict in each group, as 64 g + source. -/
abbrev Conflicts := List Nat

/-- R256: quarantines a source. -/
def State.quarantine (s : State) (n : Nat) : State :=
  let s := (s.setFld F.DT_QUAR_SOURCES 0 (withBit (s.fld F.DT_QUAR_SOURCES) n)).bump F.DT_COUNTS_QUARANTINES
  (s.raise 0x0D n).record 0x13 6 (words [0, n]) 2

/-- R254–R257: the test of the pair (a, b), a < b, of group `g`. -/
def State.testPair (s : State) (g a b : Nat) (cs : Conflicts) : State × Conflicts :=
  if s.quarantined a || s.quarantined b then (s, cs)
  else
    match pairDistance (s.measures a) (s.measures b) (s.fld F.DT_GROUP_A_BASE g) (s.fld F.DT_GROUP_A_COUNT g) with
    | none => (s, cs)
    | some d =>
      let key := 4096 * g + 64 * a + b
      let setRun (s : State) (n : Nat) : State := { s with datum := { s.datum with runs := spSet 0 s.datum.runs key n } }
      if fLt (s.fld F.DT_GROUP_A_GATE g) d then
        let m := s.datum.masks
        let s := (s.setMasks { m with conflict := withBit (withBit m.conflict a) b }).bump F.DT_COUNTS_CONFLICTS
        let cs := cs ++ [64 * g + a, 64 * g + b]
        if s.flag F.DT_GROUP_A_SAFETY g then
          ((s.raise 0x0E (g + a * 2 ^ 8 + b * 2 ^ 16)).record 0x13 6 (words [2, g, a, b]) 2, cs)
        else
          let run := spGet 0 s.datum.runs key + 1
          if s.fld F.DT_GROUP_A_CONFLICT_MAX g ≤ run then
            ((setRun s 0).quarantine (if s.sourceTrust a < s.sourceTrust b then a else b), cs)
          else (setRun s run, cs)
      else (setRun s 0, cs)

/-- R253: gates by ascending group, pairs by ascending (a, b). -/
def State.gates (s : State) : State × Conflicts :=
  (List.range 64).foldl (fun (acc : State × Conflicts) g =>
    let s := acc.1
    if s.fld F.DT_GROUP_A_COUNT g = 0 then acc
    else
      let ns := bitsOf 64 (s.fld F.DT_GROUP_M_SRC_MASK g)
      let ns := ns.filter fun n => s.sourceOn n && (s.datumRec n).cls == 1
      ns.foldl (fun acc a => (ns.filter fun b => decide (a < b)).foldl (fun acc b => acc.1.testPair g a b acc.2) acc) acc) (s, [])

/-! ## Updates -/

/-- Skipped inputs of a source set its REJECT bit (R252, R260, R268). -/
def State.rejects (s : State) (n : Nat) : State :=
  (s.inputs n).foldl (fun s m => match m with | none => s.markReject n | some _ => s) s

/-- R251, R255: the ON_TIME measurements of a source. -/
def State.updateSource (s : State) (cs : Conflicts) (n : Nat) : State :=
  (s.measures n).foldl (fun s m =>
    match s.groupOf m.comp with
    | none => s
    | some g =>
      if cs.contains (64 * g + n) then s
      else (s.setComp m.comp ((s.comp m.comp).update (s.flag F.DT_GROUP_A_ORDER g) (s.fld F.DT_GROUP_B_Q g)
        (s.fld F.DT_NUM_VAR_MIN) m.z m.r)).markUsed n) s

/-- R258: the LATE measurements of a source, whose instant is `f`, in Datum frame `d`. -/
def State.retroSource (s : State) (d n f : Nat) : State :=
  let k := d - 1 - f
  let h := spGet [] (s.datum.history) f
  let (s, hit) := (s.measures n).foldl (fun (acc : State × Bool) m =>
    let s := acc.1
    match s.groupOf m.comp with
    | none => acc
    | some g =>
      let old := spGet Comp.reset h m.comp
      if old.init then
        ((s.setComp m.comp ((s.comp m.comp).retrodict old (s.flag F.DT_GROUP_A_ORDER g) (s.fld F.DT_NUM_VAR_MIN) k m.z m.r)).markUsed n,
          true)
      else
        ((s.setMasks { s.datum.masks with lateDrop := withBit s.datum.masks.lateDrop n }).bump F.DT_COUNTS_LATE_DROP, acc.2)) (s, false)
  if hit then (s.setMasks { s.datum.masks with late := withBit s.datum.masks.late n }).bump F.DT_COUNTS_RETRO else s

/-- R253: retrodictions, oldest instant first, then ascending source. -/
def State.retrodictions (s : State) (d : Nat) : State :=
  let ns := s.sourcesOf 2
  (List.range 16).foldl (fun s i =>
    let f := d + i - 17
    ns.foldl (fun s n => if (s.datumRec n).instant = some f ∧ 17 ≤ d + i then s.retroSource d n f else s) s) s

/-! ## Track upkeep -/

/-- R266: the next ID that no live track holds, after at most `n` live tracks. -/
def freeId (live : List Nat) : Nat → Nat → Nat × Nat
  | 0, id => (id, 1)
  | n + 1, id =>
    if live.contains id then
      let (x, k) := freeId live n ((id + 1) % 65536)
      (x, k + 1)
    else (id, 1)

def State.liveIds (s : State) : List Nat := (s.datum.tracks.filter fun t => t.2.state != 0).map fun t => t.2.id

/-- R265, R266: a birth from a detection, in the lowest empty slot of group `a`. -/
def State.birth (s : State) (a : Nat) (d : Detection) : State :=
  match (List.range (s.fld F.DT_ASSOC_A_TRACK_MAX a)).find? fun j => (s.track a j).state == 0 with
  | none => s.bump F.DT_COUNTS2_TRACK_FULL
  | some j =>
    let live := s.liveIds
    let (id, adv) := freeId live live.length (s.fld F.DT_TRACK_ID_NEXT_ID)
    let g := spGet 0 s.datum.gens id
    let v0 := s.fld F.DT_ASSOC_C_V0 a
    let axes := (List.range 3).map fun k => (⟨true, d.pos.getD k 0, 0, d.var.getD k 0, 0, v0⟩ : Comp)
    let s := s.setTrack a j ⟨1, axes, id, g % 256, 0, 0, d.cls⟩
    let s := { s with datum := { s.datum with gens := spSet 0 s.datum.gens id (g + 1) } }
    ((s.count F.DT_TRACK_ID_NEXT_ID 0 adv).count F.DT_TRACK_ID_BIRTHS).markUsed d.source

/-- R265: an assigned track takes its detection. -/
def State.trackHit (s : State) (a j : Nat) (d : Detection) : State :=
  let t := s.track a j
  let axes := (t.axes.zipIdx).map fun x =>
    x.1.update true (s.fld F.DT_ASSOC_B_Q a) (s.fld F.DT_NUM_VAR_MIN) (d.pos.getD x.2 0) (d.var.getD x.2 0)
  let hits := min 255 (t.hits + 1)
  let st := if t.state = 1 then (if s.fld F.DT_ASSOC_A_CONFIRM a ≤ hits then 2 else 1) else 2
  (s.setTrack a j { t with
    state := st
    axes := axes
    hits := hits
    misses := 0 }).markUsed d.source

/-- R265: an unassigned track. -/
def State.trackMiss (s : State) (a j : Nat) : State :=
  let t := s.track a j
  let misses := min 255 (t.misses + 1)
  if t.state = 1 ∨ (t.state = 3 ∧ s.fld F.DT_ASSOC_A_MISS_MAX a ≤ misses) then s.setTrack a j Track.reset
  else s.setTrack a j { t with
    state := 3
    hits := 0
    misses := misses }

/-- R265: upkeep of group `a`. A detection of a source quarantined in this frame takes no part (R256). -/
def State.upkeep (s : State) (a : Nat) (x : Option (Auction × Nat × Bool)) : State :=
  let ds := spGet [] s.datum.dets a
  let part (i : Nat) : Option Detection := (ds[i]?).bind fun d => if s.quarantined d.source then none else some d
  let asg (i : Nat) : Nat := match x with | some (u, _, _) => spGet 0 u.assigned i | none => 0
  let s := (List.range (s.fld F.DT_ASSOC_A_TRACK_MAX a)).foldl (fun s j =>
    if (s.track a j).state = 0 then s
    else match ((List.range ds.length).find? fun i => asg i == j + 2).bind part with
      | some d => s.trackHit a j d
      | none => s.trackMiss a j) s
  (List.range ds.length).foldl (fun s i =>
    if asg i = 1 then (match part i with | some d => s.birth a d | none => s) else s) s

/-- Stage B of Datum frame `m` (R253). -/
def State.datumCost (s : State) (m : Nat) : State :=
  let live := (List.range 4).filter fun a => 0 < s.fld F.DT_ASSOC_A_TRACK_MAX a
  let xs := live.map fun a => (a, s.latchedF.auction a m)
  let s := xs.foldl (fun s x =>
    match x.2 with
    | none => (s.setMasks { s.datum.masks with assocStale := withBit s.datum.masks.assocStale x.1 }).bump F.DT_COUNTS2_ASSOC_STALE
    | some (_, neg, capped) =>
      let s := if neg = 0 then s else s.bump F.DT_COUNTS2_COST_BAD 0 neg
      if capped then
        (s.setMasks { s.datum.masks with auctionCap := withBit s.datum.masks.auctionCap x.1 }).bump F.DT_COUNTS2_AUCTION_CAP
      else s) s
  let s := ((s.sourcesOf 1) ++ (s.sourcesOf 2)).foldl (fun s n => s.rejects n) s
  let (s, cs) := s.gates
  let s := (s.sourcesOf 1).foldl (fun s n => s.updateSource cs n) s
  let s := s.retrodictions m
  let s := xs.foldl (fun s x => s.upkeep x.1 x.2) s
  { s with datum := { s.datum with stage := 3 } }

/-- DATUM_COST_STAGE (R253): after `dt` FCLK cycles, at COST of the current Datum frame. -/
def execDatumCostStage (dt : Nat) (s : State) : Host.Outcome State Fault Refusal :=
  if s.dark then .next s
  else
  let s := s.tickF dt
  if s.datum.stage = 2 ∧ s.datum.costAt ≤ s.clk.fclk then .next (s.datumCost s.datum.frame) else .next s

/-! ## The fused-state record -/

/-- R267, R268: components and track slots of the record whose stored state reads uncorrectable. -/
def State.fusedBad (s : State) : List Nat × List Nat :=
  (s.datum.badComps.filter fun c => decide (c < s.fld F.DT_CFG_COMPONENTS),
    s.datum.badTracks.filter fun k => decide (k % 256 < s.fld F.DT_ASSOC_A_TRACK_MAX (k / 256)) && (s.track (k / 256) (k % 256)).state != 0)

/-- R267: STATUS, the first of POISON, CONFLICT, LATE_DROP and UNSYNCED that applies. -/
def State.fusedStatus (s : State) : Nat :=
  let m := s.datum.masks
  if s.fusedBad != ([], []) then 0xF
  else if m.conflict ≠ 0 then 0xD else if m.lateDrop ≠ 0 then 0xE else if s.unsynced then 0x12 else 0

def sourceMask (p : Nat → Bool) : Nat := (List.range 64).foldl (fun m n => m + bit (p n) * 2 ^ n) 0

/-- Table DT-7: the header of the record. -/
def State.fusedHeader (s : State) : Nat :=
  let m := s.datum.masks
  let stale := sourceMask fun n => s.sourceOn n && (s.datumRec n).cls == 0
  let ages := packElems 64 ((List.range 64).map fun n => let r := s.datumRec n; r.age + r.ticks * 256)
  let tracks := ((List.range 4).map fun a => s.fld F.DT_ASSOC_A_TRACK_MAX a).foldl (· + ·) 0
  B.FUSED_FRAME.put s.frameNum + B.FUSED_STATUS.put s.fusedStatus + B.FUSED_STAMP.put s.clk.fclk + B.FUSED_DOMAIN.put 2 +
    B.FUSED_UNSYNCED.put (bit s.unsynced) + B.FUSED_ASSOC_STALE.put m.assocStale + B.FUSED_AUCTION_CAP.put m.auctionCap +
    B.FUSED_COMPONENTS.put (s.fld F.DT_CFG_COMPONENTS) + B.FUSED_TRACKS.put tracks + B.FUSED_USED.put m.used +
    B.FUSED_STALE.put stale + B.FUSED_LATE.put m.late + B.FUSED_LATE_DROP.put m.lateDrop + B.FUSED_CONFLICT.put m.conflict +
    B.FUSED_QUAR.put (s.fld F.DT_QUAR_SOURCES) + B.FUSED_REJECT.put m.reject + B.FUSED_AGES.put ages

/-- R251, R267: the 32 bytes of a component; an uninitialised one has x = 0 and P00 = +∞. -/
def Comp.entry (c : Comp) : Nat :=
  if c.init then packElems 32 [c.x, c.v, c.p00, c.p01, c.p11] else packElems 32 [0, 0, 0x7F800000]

/-- The bytes of the record. -/
def State.fusedBytes (s : State) : List Byte :=
  leBytes 640 s.fusedHeader ++
    (List.range (s.fld F.DT_CFG_COMPONENTS)).flatMap (fun c => leBytes 32 (s.comp c).entry) ++
    (List.range 4).flatMap (fun a => (List.range (s.fld F.DT_ASSOC_A_TRACK_MAX a)).flatMap fun j => leBytes 64 ((s.track a j).entry a))

/-- R267: the published fused-state buffer. -/
def State.fused (s : State) : Option Nat :=
  match s.datum.out with
  | 0 => none
  | b + 1 => some (s.dtOffset F.DT_BASE_OUT_BASE + b * 128 * 1024)

/-- R267: where track slot 256 a + j lies in the record. -/
def State.fusedTrackAt (s : State) (k : Nat) : Nat :=
  640 + 32 * s.fld F.DT_CFG_COMPONENTS + 64 * (((List.range (k / 256)).map fun a => s.fld F.DT_ASSOC_A_TRACK_MAX a).sum + k % 256)

/-- R268: the components and tracks that read uncorrectable are marked in the record at `a`, each with an event that names it (Table PB-2);
each component becomes uninitialised and each track retires. -/
def State.fusedPoison (s : State) (a : Nat) : State :=
  let (cs, ts) := s.fusedBad
  let s := cs.foldl (fun (s : State) c => ((s.markRange (a + 640 + 32 * c) 32 true).setComp c Comp.reset).raise 0x0F c) s
  let s := ts.foldl (fun (s : State) k =>
    ((s.markRange (a + s.fusedTrackAt k) 64 true).setTrack (k / 256) (k % 256) Track.reset).raise 0x0F k) s
  { s with datum := { s.datum with
    badComps := []
    badTracks := [] } }

/-- R258, R267, R268: the record is written to the back buffer and flips; the posteriors enter the history as instant m − 1. -/
def State.datumPublish (s : State) (m : Nat) : State :=
  let b := s.backOf .fused
  let a := s.dtOffset F.DT_BASE_OUT_BASE + b * 128 * 1024
  let bs := s.fusedBytes
  let s := ((s.wrMarked a bs false).fusedPoison a).flip .fused
  let s := { s with datum := { s.datum with
    history := spSet [] (spKeep (fun f => decide (m ≤ f + 16)) s.datum.history) (m - 1) s.datum.comps
    stage := 0 } }
  let s := (s.setFld F.DT_STATUS_UNSYNCED 0 (bit s.unsynced)).setFld F.DT_STATUS_LAST_FRAME 0 s.frameNum
  let s := s.record 0x11 6 (words [6, b, s.frameNum, crc32c bs]) 2
  match s.datum.next with
  | some f => s.datumFrame f (s.datum.publishAt + 1)
  | none => s

/-- DATUM_PUBLISH (R248, R267): after `dt` FCLK cycles, at PUBLISH of the current Datum frame. -/
def execDatumPublish (dt : Nat) (s : State) : Host.Outcome State Fault Refusal :=
  if s.dark then .next s
  else
  let s := s.tickF dt
  if s.datum.stage = 3 ∧ s.datum.publishAt ≤ s.clk.fclk then .next (s.datumPublish s.datum.frame) else .next s

/-- R269: the source's quarantine ends at the next latch. -/
def dtReleaseBody (s : State) (c : Cmd) : State × Option Reply :=
  let n := c.w 4 % 64
  if s.quarantined n then
    ({ s with datum := { s.datum with releases := s.datum.releases ++ [n] } }, some Reply.ok)
  else (s, some (Reply.detailed 1))

/-- DT_RELEASE (R269). -/
def execDtRelease (ring : BitVec 14) (d : Desc) (s : State) : Host.Outcome State Fault Refusal :=
  .next (s.command ring d 0x0401 dtReleaseBody)

end Sys2Proof.Machine
end

