-- ==== Sys2Proof/Machine/Solve.lean ====
section
/-! DEFINITION. The arithmetic of Traverse (13 R292–R301): fixed-point numbers and their rescaling, the factorisation under the pivot rule,
the iteration of an MPC run, its residuals, and the step of an estimator. The formats of intermediate values, and the sums that a schedule
rounds, are Keadal's: the formats are open, and each named value of the rules' formulas is rounded once (entry 13). -/

namespace Sys2Proof.Machine

/-! ## Fixed point (R292) -/

/-- The number n × 2^(−f). -/
structure Fx where
  n : Int
  f : Int
deriving DecidableEq, Repr

def Fx.mul (a b : Fx) : Fx := ⟨a.n * b.n, a.f + b.f⟩
def Fx.neg (a : Fx) : Fx := ⟨-a.n, a.f⟩
def Fx.add (a b : Fx) : Fx :=
  let f := max a.f b.f
  ⟨a.n * 2 ^ (f - a.f).toNat + b.n * 2 ^ (f - b.f).toNat, f⟩
def fxSum (xs : List Fx) : Fx := xs.foldl Fx.add ⟨0, 0⟩
/-- An exact sum of products. -/
def fxDot (xs : List (Fx × Fx)) : Fx := fxSum (xs.map fun x => x.1.mul x.2)

/-- The integer nearest to a number in the format F, ties to even, before saturation. -/
def Fx.grid (a : Fx) (f : Int) : Int :=
  if a.f ≤ f then a.n * 2 ^ (f - a.f).toNat else rneDivInt a.n (2 ^ (a.f - f).toNat)

/-- R292: rescaled to the format F, and whether it saturates. -/
def Fx.to (a : Fx) (f : Int) : Fx × Bool := (⟨(satTo 32 (a.grid f)).1, f⟩, (satTo 32 (a.grid f)).2)

/-- R292: the reciprocal of a pivot to 32 bits in the format F. -/
def Fx.recip (a : Fx) (f : Int) : Fx × Bool :=
  let e := a.f + f
  let q := if 0 ≤ e then rneDivInt (2 ^ e.toNat) a.n.natAbs else rneDivInt 1 (a.n.natAbs * 2 ^ (-e).toNat)
  let v := satTo 32 (if a.n < 0 then -q else q)
  (⟨v.1, f⟩, v.2)

/-- Numbers rescaled each to its own format, and whether one saturates. -/
def fxAll (xs : List (Fx × Int)) : List Fx × Bool := (xs.map fun x => (x.1.to x.2).1, xs.any fun x => (x.1.to x.2).2)

def fxAt (v : List Fx) (i : Nat) : Fx := v.getD i ⟨0, 0⟩

/-- A matrix by rows. -/
abbrev FxMat := List (List Fx)
def FxMat.at (m : FxMat) (i j : Nat) : Fx := fxAt (m.getD i []) j

/-- The `r` by `c` matrix of the exact values `v`, each element rescaled to the format `f` gives it. -/
def fxMat (r c : Nat) (v : Nat → Nat → Fx) (f : Nat → Nat → Int) : FxMat × Bool :=
  let rows := (List.range r).map fun i => fxAll ((List.range c).map fun j => (v i j, f i j))
  (rows.map fun x => x.1, rows.any fun x => x.2)

/-- R292: the format that the schedule of an image names for value (i, j) of a kind: open. -/
def midFormat (dig kind i j : Nat) : Int :=
  let x := Config.freeFn 81 [dig, kind, i, j]
  if x % 2 = 0 then x / 2 else -(x / 2 : Int)

/-! ## Factorisation (R294, R295) -/

/-- What a pivot is judged by: the expected sign, and PIVOT_MIN and DELTA in the pivot's format. -/
structure PivotRule where
  positive : Bool
  least    : Int
  delta    : Int
  format   : Int
deriving DecidableEq, Repr

/-- R295: a pivot, and whether it was replaced. A zero pivot has the wrong sign. -/
def PivotRule.judge (p : PivotRule) (d : Int) : Int × Bool :=
  if (if p.positive then d ≤ 0 else 0 ≤ d) ∨ (d.natAbs : Int) < p.least then (if p.positive then p.delta else -p.delta, true) else (d, false)

/-- A factor L D Lᵀ: the rows of L below its unit diagonal, the pivots and their reciprocals, the pivots replaced, and SAT. -/
structure Factor where
  l      : FxMat
  d      : List Fx
  r      : List Fx
  pivots : Nat
  sat    : Bool
deriving DecidableEq, Repr

/-- R294, R295: row `k` of the factor of a matrix given by its lower triangle; `fm` gives the formats of the schedule. -/
def Factor.row (a : Nat → Nat → Fx) (rule : Nat → PivotRule) (fm : Nat → Nat → Nat → Int) (x : Factor) (k : Nat) : Factor :=
  let (us, s1) := (List.range k).foldl (fun (acc : List Fx × Bool) j =>
    let (u, s) := (fxSum (a k j :: (List.range j).map fun i => ((fxAt acc.1 i).mul (x.l.at j i)).neg)).to (fm 0 k j)
    (acc.1 ++ [u], acc.2 || s)) ([], false)
  let (ls, s2) := fxAll ((List.range k).map fun j => ((fxAt us j).mul (fxAt x.r j), fm 1 k j))
  let p := rule k
  let (d, s3) := (fxSum (a k k :: (List.range k).map fun j => ((fxAt us j).mul (fxAt ls j)).neg)).to p.format
  let (v, replaced) := p.judge d.n
  let d : Fx := ⟨v, p.format⟩
  let (r, s4) := d.recip (fm 2 k k)
  ⟨x.l ++ [ls], x.d ++ [d], x.r ++ [r], x.pivots + bit replaced, x.sat || s1 || s2 || s3 || s4⟩

/-- R294, R295: the factor of an `n` by `n` matrix. -/
def factorise (n : Nat) (a : Nat → Nat → Fx) (rule : Nat → PivotRule) (fm : Nat → Nat → Nat → Int) : Factor :=
  (List.range n).foldl (Factor.row a rule fm) ⟨[], [], [], 0, false⟩

/-- The solution of L D Lᵀ x = b: forward, by the pivots, and backward. -/
def Factor.solve (x : Factor) (n : Nat) (b : Nat → Fx) (fm : Nat → Nat → Nat → Int) : List Fx × Bool :=
  let (w, s1) := (List.range n).foldl (fun (acc : List Fx × Bool) k =>
    let (v, s) := (fxSum (b k :: (List.range k).map fun j => ((x.l.at k j).mul (fxAt acc.1 j)).neg)).to (fm 3 k k)
    (acc.1 ++ [v], acc.2 || s)) ([], false)
  let (v, s2) := fxAll ((List.range n).map fun k => ((fxAt w k).mul (fxAt x.r k), fm 4 k k))
  let (y, s3) := (List.range n).foldl (fun (acc : List Fx × Bool) i =>
    let k := n - 1 - i
    -- `acc.1` holds the elements after k.
    let (u, s) := (fxSum (fxAt v k :: (List.range i).map fun j => ((x.l.at (k + 1 + j) k).mul (fxAt acc.1 j)).neg)).to (fm 5 k k)
    (u :: acc.1, acc.2 || s)) ([], false)
  (y, s1 || s2 || s3)

/-! ## MPC (R294–R298) -/

/-- An assembled MPC problem: the image's permutation, its values, the formats of variables and constraints, and the converted constants. -/
structure Mpc where
  dig   : Nat
  n     : Nat
  m     : Nat
  perm  : List Nat
  p     : Nat → Nat → Fx
  a     : Nat → Nat → Fx
  q     : Nat → Fx
  l     : Nat → Fx
  u     : Nat → Fx
  sigma : Nat → Fx
  rinv  : Nat → Fx
  rho   : Fx
  rule  : Nat → PivotRule
  fv    : Nat → Int
  fc    : Nat → Int

/-- R294: the KKT matrix by KKT index. -/
def Mpc.kkt (g : Mpc) (x y : Nat) : Fx :=
  if x < g.n ∧ y < g.n then (if x = y then (g.p x x).add (g.sigma x) else g.p x y)
  else if x < g.n then g.a (y - g.n) x
  else if y < g.n then g.a (x - g.n) y
  else if x = y then (g.rinv (x - g.n)).neg else ⟨0, 0⟩

def Mpc.at (g : Mpc) (k : Nat) : Nat := g.perm.getD k 0

def Mpc.factor (g : Mpc) : Factor :=
  factorise (g.n + g.m) (fun k j => g.kkt (g.at k) (g.at j)) (fun k => g.rule (g.at k)) (midFormat g.dig)

/-- An iterate: x, z and y. -/
structure Iterate where
  x : List Fx
  z : List Fx
  y : List Fx
deriving DecidableEq, Repr

def clampTo (lo hi v : Int) : Int := if v < lo then lo else if hi < v then hi else v

/-- R297: a cold start. -/
def Mpc.cold (g : Mpc) : Iterate :=
  ⟨(List.range g.n).map fun j => ⟨0, g.fv j⟩, (List.range g.m).map fun i => ⟨clampTo (g.l i).n (g.u i).n 0, g.fc i⟩,
    (List.range g.m).map fun i => ⟨0, g.fc i⟩⟩

/-- 13/8 and −5/8: α and 1 − α. -/
def fxAlpha : Fx := ⟨13, 3⟩
def fxBeta : Fx := ⟨-5, 3⟩

/-- R296: one iteration, and whether it saturates. -/
def Mpc.iterate (g : Mpc) (w : Factor) (s : Iterate) : Iterate × Bool :=
  let fm := midFormat g.dig
  let vs := List.range g.n
  let cs := List.range g.m
  let (rv, s1) := fxAll (vs.map fun j => (((g.sigma j).mul (fxAt s.x j)).add (g.q j).neg, fm 6 j 0))
  let (rc, s2) := fxAll (cs.map fun i => ((fxAt s.z i).add ((fxAt s.y i).mul (g.rinv i)).neg, fm 7 i 0))
  let rhs (k : Nat) : Fx := if k < g.n then fxAt rv k else fxAt rc (k - g.n)
  let (sol, s3) := w.solve (g.n + g.m) (fun k => rhs (g.at k)) fm
  let sol (x : Nat) : Fx := fxAt sol ((g.perm.findIdx? fun y => y == x).getD 0)
  let (zt, s4) := fxAll (cs.map fun i =>
    (fxSum [fxAt s.z i, (sol (g.n + i)).mul (g.rinv i), ((fxAt s.y i).mul (g.rinv i)).neg], fm 8 i 0))
  let (x, s5) := fxAll (vs.map fun j => (fxDot [(fxAlpha, sol j), (fxBeta, fxAt s.x j)], g.fv j))
  let (zr, s6) := fxAll (cs.map fun i => (fxDot [(fxAlpha, fxAt zt i), (fxBeta, fxAt s.z i)], fm 9 i 0))
  let z := cs.map fun i =>
    (⟨clampTo (g.l i).n (g.u i).n (((fxAt zr i).add ((fxAt s.y i).mul (g.rinv i))).grid (g.fc i)), g.fc i⟩ : Fx)
  let (y, s7) := fxAll (cs.map fun i => ((fxAt s.y i).add (g.rho.mul ((fxAt zr i).add (fxAt z i).neg)), g.fc i))
  (⟨x, z, y⟩, s1 || s2 || s3 || s4 || s5 || s6 || s7)

/-- R298: a residual: the largest magnitude of its elements as binary32, each rounded from its integer and format, and SAT. -/
def residualOf (xs : List (Fx × Int)) : Nat × Bool :=
  let (v, s) := fxAll xs
  (v.foldl (fun m e => max m (fOfScaled e.n.natAbs (-e.f))) 0, s)

/-- R298: r_prim and r_dual of the unperturbed problem. -/
def Mpc.residuals (g : Mpc) (s : Iterate) : (Nat × Nat) × Bool :=
  let fm := midFormat g.dig
  let prim := (List.range g.m).map fun i =>
    ((fxDot ((List.range g.n).map fun j => (g.a i j, fxAt s.x j))).add (fxAt s.z i).neg, fm 10 i 0)
  let dual := (List.range g.n).map fun j =>
    (fxSum [fxDot ((List.range g.n).map fun k => (g.p j k, fxAt s.x k)), g.q j, fxDot ((List.range g.m).map fun i => (g.a i j, fxAt s.y i))],
      fm 11 j 0)
  let (rp, s1) := residualOf prim
  let (rd, s2) := residualOf dual
  ((rp, rd), s1 || s2)

/-! ## The fill of a pattern (R277) -/

/-- Nonzeros of L below its diagonal for a symmetric pattern of `n` columns in elimination order: each eliminated column joins the rows that
it meets. -/
def fillCount (n : Nat) (nz : Nat → Nat → Bool) : Nat :=
  let rows := (List.range n).map fun k => (List.range n).map fun j => nz k j
  ((List.range n).foldl (fun (acc : List (List Bool) × Nat) k =>
    let below := (List.range n).filter fun i => decide (k < i) && (acc.1.getD i []).getD k false
    (acc.1.zipIdx.map fun row =>
      if below.contains row.2 then row.1.zipIdx.map fun c => c.1 || below.contains c.2 else row.1, acc.2 + below.length)) (rows, 0)).2

/-! ## Estimators (R301) -/

/-- An assembled estimator: its sizes, matrices, the formats of states and measurements, and the pivot rules of both factorisations. -/
structure Est where
  dig   : Nat
  nx    : Nat
  ny    : Nat
  f     : Nat → Nat → Fx
  q     : Nat → Nat → Fx
  h     : Nat → Nat → Fx
  r     : Nat → Nat → Fx
  y     : Nat → Fx
  b     : Nat → Fx
  fs    : Nat → Int
  ruleS : Nat → PivotRule
  ruleP : Nat → PivotRule

/-- x, P, the pivots replaced and SAT of an estimator. -/
structure EstState where
  x      : List Fx
  p      : FxMat
  pivots : Nat
  sat    : Bool
deriving DecidableEq, Repr

/-- R301: the first run starts from x = 0 and P equal to its own Q. -/
def Est.start (e : Est) : EstState :=
  ⟨(List.range e.nx).map fun i => ⟨0, e.fs i⟩, (List.range e.nx).map fun i => (List.range e.nx).map fun j => e.q i j, 0, false⟩

/-- R301: p[i][j] and p[j][i] become half their sum, ties to even. -/
def Est.symmetric (e : Est) (p : FxMat) : FxMat :=
  (List.range e.nx).map fun i => (List.range e.nx).map fun j =>
    if i = j then p.at i j else ⟨rneDivInt ((p.at i j).n + (p.at j i).n) 2, e.fs i⟩

/-- R301: P refactorised and formed again. -/
def Est.refactor (e : Est) (s : EstState) : EstState :=
  let fm := midFormat e.dig
  let w := factorise e.nx (fun k j => s.p.at k j) e.ruleP (fun t => fm (20 + t))
  let lower (i j : Nat) : Fx := if i = j then ⟨1, 0⟩ else if j < i then w.l.at i j else ⟨0, 0⟩
  let (u, s1) := fxMat e.nx e.nx (fun i j => (lower i j).mul (fxAt w.d j)) (fm 30)
  let (p, s2) := fxMat e.nx e.nx (fun i j => fxDot ((List.range e.nx).map fun k => (u.at i k, lower j k))) (fun i _ => e.fs i)
  { s with
    p := p
    pivots := s.pivots + w.pivots
    sat := s.sat || w.sat || s1 || s2 }

/-- R301: one step of the estimator. -/
def Est.step (e : Est) (s : EstState) (refactor : Bool) : EstState :=
  let fm := midFormat e.dig
  let xs := List.range e.nx
  let ys := List.range e.ny
  let mul (n : Nat) (a b : Nat → Nat → Fx) (i j : Nat) : Fx := fxDot ((List.range n).map fun k => (a i k, b k j))
  let (x, s1) := fxAll (xs.map fun i => ((fxDot (xs.map fun j => (e.f i j, fxAt s.x j))).add (e.b i), e.fs i))
  let (t1, s2) := fxMat e.nx e.nx (mul e.nx e.f s.p.at) (fm 31)
  let (p, s3) := fxMat e.nx e.nx (fun i j => (mul e.nx t1.at (fun k j => e.f j k) i j).add (e.q i j)) (fun i _ => e.fs i)
  let (t2, s4) := fxMat e.ny e.nx (mul e.nx e.h p.at) (fm 32)
  let (sm, s5) := fxMat e.ny e.ny (fun i j => (mul e.nx t2.at (fun k j => e.h j k) i j).add (e.r i j)) (fm 33)
  let w := factorise e.ny (fun k j => sm.at k j) e.ruleS fm
  let (g, s6) := fxMat e.nx e.ny (mul e.nx p.at (fun k j => e.h j k)) (fm 34)
  let ks := xs.map fun i => w.solve e.ny (fun j => g.at i j) fm
  let k : FxMat := ks.map fun r => r.1
  let (inn, s7) := fxAll (ys.map fun i => ((e.y i).add (fxDot (xs.map fun j => (e.h i j, fxAt x j))).neg, fm 35 i 0))
  let (x, s8) := fxAll (xs.map fun i => ((fxAt x i).add (fxDot (ys.map fun j => (k.at i j, fxAt inn j))), e.fs i))
  let (m, s9) := fxMat e.nx e.nx (fun i j => (⟨if i = j then 1 else 0, 0⟩ : Fx).add (mul e.ny k.at e.h i j).neg) (fm 36)
  let (t3, s10) := fxMat e.nx e.nx (mul e.nx m.at p.at) (fm 37)
  let (t4, s11) := fxMat e.nx e.ny (mul e.ny k.at e.r) (fm 38)
  let (p, s12) := fxMat e.nx e.nx (fun i j => (mul e.nx t3.at (fun k j => m.at j k) i j).add (mul e.ny t4.at (fun c j => k.at j c) i j))
    (fun i _ => e.fs i)
  let s : EstState := ⟨x, e.symmetric p, w.pivots,
    [s1, s2, s3, s4, s5, s6, s7, s8, s9, s10, s11, s12].any id || w.sat || ks.any fun r => r.2⟩
  if refactor then e.refactor s else s

end Sys2Proof.Machine
end

