-- ==== Sys2Proof/Machine/Traverse.lean ====
section
/-! DEFINITION. Traverse (12, 13): registration, parameters, latches and assembly, the phases of a run, and its record. The arithmetic of a
run stands in Solve.lean. The schedule's encoding is Keadal's: the cycles it fixes and the formats it names are open (entry 13). -/

namespace Sys2Proof.Machine

/-! ## Problem images -/

/-- The header of a problem image (Table TV-2). -/
structure TvHead where
  mpc : Bool
  n : Nat
  m : Nat
  nnzP : Nat
  nnzA : Nat
  lnz : Nat
  entries : Nat
  ranges : Nat
  params : Nat
  lin : Nat
  sched : Nat
  cap : Nat
deriving DecidableEq, Repr

def tvHead (h : Nat) : TvHead :=
  { mpc := B.TVH_KIND.get h == 0
    n := B.TVH_N.get h
    m := B.TVH_M.get h
    nnzP := B.TVH_NNZ_P.get h
    nnzA := B.TVH_NNZ_A.get h
    lnz := B.TVH_LNZ.get h
    entries := B.TVH_ENTRIES.get h
    ranges := B.TVH_RANGES.get h
    params := B.TVH_PARAMS.get h
    lin := B.TVH_LIN_WORDS.get h
    sched := B.TVH_SCHED_LEN.get h
    cap := B.TVH_ITER_CAP.get h }

/-- K = N + M; for EST, NX + NY. -/
def TvHead.k (h : TvHead) : Nat := h.n + h.m
/-- Destinations of each target, in target order (Table TV-6). -/
def TvHead.dests (h : TvHead) : List Nat :=
  if h.mpc then [h.nnzP, h.nnzA, h.n, h.m, h.m] else [h.n * h.n, h.n * h.n, h.m * h.n, h.m * h.m, h.m, h.n]
/-- The value count V. -/
def TvHead.v (h : TvHead) : Nat := h.dests.sum
/-- Index of the first destination of target `t`. -/
def TvHead.first (h : TvHead) (t : Nat) : Nat := (h.dests.take t).sum
/-- Table TV-3: the sections before padding. -/
def TvHead.parts (h : TvHead) : List Nat :=
  [if h.mpc then 2 * h.k else 0, if h.mpc then 4 * (h.n + 1) + 2 * h.nnzP else 0, if h.mpc then 4 * (h.n + 1) + 2 * h.nnzA else 0,
   4 * h.v, h.k, 1024, 8 * h.ranges, 16 * h.entries, h.sched]
/-- Offset of section `i` in the image. -/
def TvHead.ofs (h : TvHead) (i : Nat) : Nat := 256 + ((h.parts.take i).map pad64).sum
def TvHead.len (h : TvHead) : Nat := h.ofs 9 + 64
/-- R286: T_asm. -/
def TvHead.tAsm (h : TvHead) : Nat := 128 + (h.v + 63) / 64 + (h.entries + 15) / 16
/-- R303: the size B of the output record. -/
def TvHead.outLen (h : TvHead) : Nat := if h.mpc then 256 + 4 * (h.n + h.m) else 256 + 4 * (h.n + h.n * h.n)
/-- R290: T_out. -/
def TvHead.tOut (h : TvHead) : Nat := 64 + (h.outLen + 63) / 64
/-- R279: the persistent state. -/
def TvHead.persist (h : TvHead) : Nat := if h.mpc then 8 * h.k else 4 * (h.n + h.n * h.n)
def TvHead.linLen (h : TvHead) : Nat := pad64 (64 + 4 * h.lin)
def TvHead.bankLen (h : TvHead) : Nat := pad64 (4 * h.params)
/-- R279: offsets within the area of the linearisation buffers, the banks and the persistent state, and the area's size. -/
def TvHead.linOfs (h : TvHead) (b : Nat) : Nat := pad64 h.len + b * h.linLen
def TvHead.bankOfs (h : TvHead) (b : Nat) : Nat := h.linOfs 2 + b * h.bankLen
def TvHead.stateOfs (h : TvHead) : Nat := h.bankOfs 2
def TvHead.area (h : TvHead) : Nat := h.stateOfs + pad64 h.persist

/-- Where an image is read: at an address of the module's memory. -/
structure TvImg where
  base : Nat
  h : TvHead
deriving DecidableEq, Repr

def State.tvAt (s : State) (base : Nat) : TvImg := ⟨base, tvHead (s.rdLe base 256)⟩
def State.tvArea (s : State) (j : Nat) : Nat := scratchBase + s.fld F.TV_PROB_B_BASE j * 4096
/-- The image of a registered problem in its scratch area. -/
def State.tvImg (s : State) (j : Nat) : TvImg := s.tvAt (s.tvArea j)

def TvImg.sec (i : TvImg) (k : Nat) : Nat := i.base + i.h.ofs k
/-- Column pointer `c` and row of stored element `e` of the pattern in section `k`. -/
def State.tvPtr (s : State) (i : TvImg) (k c : Nat) : Nat := s.rdLe (i.sec k + 4 * c) 4
def State.tvRow (s : State) (i : TvImg) (k e : Nat) : Nat := s.rdLe (i.sec k + 4 * (i.h.n + 1) + 2 * e) 2
/-- Default of destination `d`, counted in target order. -/
def State.tvDefault (s : State) (i : TvImg) (d : Nat) : Int := asSigned 32 (s.rdLe (i.sec 3 + 4 * d) 4)
/-- F of format group `g`. -/
def State.tvF (s : State) (i : TvImg) (g : Nat) : Nat := s.rdLe (i.sec 5 + 4 * g) 4 % 32
def State.tvEntry (s : State) (i : TvImg) (e : Nat) : Nat := s.rdLe (i.sec 7 + 16 * e) 16
def State.tvLo (s : State) (i : TvImg) (r : Nat) : Nat := s.rdLe (i.sec 6 + 8 * r) 4
def State.tvHi (s : State) (i : TvImg) (r : Nat) : Nat := s.rdLe (i.sec 6 + 8 * r + 4) 4

/-- F of variable, constraint, state or measurement `c`, counted over K (R276). -/
def State.tvGroupF (s : State) (i : TvImg) (c : Nat) : Nat := s.tvF i (s.rdLe (i.sec 4 + c) 1)

/-- R276: the variable or constraint, counted over K, whose group a destination takes. -/
def State.tvOwner (s : State) (i : TvImg) (t d : Nat) : Nat :=
  let h := i.h
  if h.mpc then
    match t with
    | 0 => ((List.range h.n).find? fun c => decide (d < s.tvPtr i 1 (c + 1))).getD 0
    | 1 => h.n + s.tvRow i 2 d
    | 2 => d
    | _ => h.n + d
  else
    match t with
    | 0 | 1 => d / h.n
    | 2 => h.n + d / h.n
    | 3 => h.n + d / h.m
    | 4 => h.n + d
    | _ => d

/-- F of a destination. -/
def State.tvDestF (s : State) (i : TvImg) (t d : Nat) : Nat := s.tvGroupF i (s.tvOwner i t d)

/-- The KKT index that the elimination takes at place `k`. -/
def State.tvPerm (s : State) (i : TvImg) (k : Nat) : Nat := s.rdLe (i.sec 0 + 2 * k) 2

/-- The stored element of row `r` and column `c` in the pattern of section `k`. -/
def State.tvStored (s : State) (i : TvImg) (k r c : Nat) : Option Nat :=
  let a := s.tvPtr i k c
  ((List.range (s.tvPtr i k (c + 1) - a)).find? fun e => s.tvRow i k (a + e) == r).map fun e => a + e

/-- The KKT indices `x` and `y` meet in a stored value of P or A (R272, R294). -/
def State.tvMeet (s : State) (i : TvImg) (x y : Nat) : Bool :=
  let lo := min x y
  let hi := max x y
  if hi < i.h.n then (s.tvStored i 1 lo hi).isSome
  else if lo < i.h.n then (s.tvStored i 2 (hi - i.h.n) lo).isSome
  else false

/-! ## Registration checks -/

/-- Detail 0x0002: the header within Table TV-1, its reserved fields zero. -/
def tvHeadOk (raw : Nat) : Bool :=
  let h := tvHead raw
  let fields := [B.TVH_KIND, B.TVH_LENGTH, B.TVH_N, B.TVH_M, B.TVH_NNZ_P, B.TVH_NNZ_A, B.TVH_LNZ, B.TVH_ENTRIES, B.TVH_RANGES,
    B.TVH_PARAMS, B.TVH_LIN_WORDS, B.TVH_SCHED_LEN, B.TVH_ITER_CAP]
  let clean := (fields.map fun b => b.put (b.get raw)).sum == raw
  let common := decide (h.entries ≤ 131072) && decide (1 ≤ h.ranges) && decide (h.ranges ≤ 4096) && decide (h.params ≤ 16384) &&
    decide (h.lin ≤ 131072) && decide (64 ≤ h.sched) && decide (h.sched ≤ 2097152) && decide (1 ≤ h.cap)
  let sizes := if B.TVH_KIND.get raw = 0 then
      decide (1 ≤ h.n) && decide (1 ≤ h.m) && decide (h.k ≤ 8192) && decide (h.nnzP ≤ 65536) && decide (1 ≤ h.nnzA) &&
        decide (h.nnzA ≤ 262144) && decide (1 ≤ h.lnz) && decide (h.lnz ≤ 1048576)
    else B.TVH_KIND.get raw == 1 && decide (1 ≤ h.n) && decide (h.n ≤ 64) && decide (1 ≤ h.m) && decide (h.m ≤ 64) &&
      h.nnzP == 0 && h.nnzA == 0 && h.lnz == 0
  clean && common && sizes

/-- A pattern, compressed by column. -/
def State.tvPattern (s : State) (i : TvImg) (k nnz : Nat) (ok : Nat → Nat → Bool) : Bool :=
  s.tvPtr i k 0 == 0 && s.tvPtr i k i.h.n == nnz && (List.range i.h.n).all fun c =>
    let a := s.tvPtr i k c
    let b := s.tvPtr i k (c + 1)
    decide (a ≤ b) && (List.range (b - a)).all fun e =>
      ok c (s.tvRow i k (a + e)) && (decide (b ≤ a + e + 1) || decide (s.tvRow i k (a + e) < s.tvRow i k (a + e + 1)))

/-- Detail 0x0003. -/
def State.tvPatternsOk (s : State) (i : TvImg) : Bool :=
  if i.h.mpc then
    let perm := (List.range i.h.k).map fun x => s.rdLe (i.sec 0 + 2 * x) 2
    perm.all (fun x => decide (x < i.h.k)) && decide perm.Nodup &&
      s.tvPattern i 1 i.h.nnzP (fun c r => decide (r ≤ c)) && s.tvPattern i 2 i.h.nnzA (fun _ r => decide (r < i.h.m))
  else true

/-- Detail 0x0004: F is at most 30, the other bits of the format table zero. -/
def State.tvFormatsOk (s : State) (i : TvImg) : Bool :=
  (List.range 256).all fun g => decide (s.rdLe (i.sec 5 + 4 * g) 4 ≤ 30)

/-- Detail 0x0005. -/
def State.tvRangesOk (s : State) (i : TvImg) : Bool :=
  (List.range i.h.ranges).all fun r => fFinite (s.tvLo i r) && fFinite (s.tvHi i r) && !(fLt (s.tvHi i r) (s.tvLo i r))

/-- Detail 0x0006: an entry within Tables TV-5 and TV-6. -/
def tvEntryOk (h : TvHead) (e : Nat) : Bool :=
  let fields := [B.ASM_TARGET, B.ASM_ACCUM, B.ASM_SRC, B.ASM_DEST, B.ASM_SRC_INDEX, B.ASM_SCALE, B.ASM_OFFSET, B.ASM_RANGE]
  let clean := (fields.map fun b => b.put (b.get e)).sum == e
  let idx := B.ASM_SRC_INDEX.get e
  let param (x : Nat) : Bool := x == 0xFFFF || decide (x < h.params)
  clean && decide (B.ASM_DEST.get e < (h.dests[B.ASM_TARGET.get e]?).getD 0) && param (B.ASM_SCALE.get e) &&
    param (B.ASM_OFFSET.get e) && decide (B.ASM_RANGE.get e < h.ranges) &&
    (match B.ASM_SRC.get e with
     | 0 => idx == 0
     | 1 => decide (idx < h.params)
     | 2 => decide (idx < h.lin)
     | 3 | 4 | 5 => true
     | _ => false)

/-- The largest magnitude of an entry's range. -/
def State.tvReach (s : State) (i : TvImg) (e : Nat) : Nat :=
  max (f32units (s.tvLo i (B.ASM_RANGE.get e))) (f32units (s.tvHi i (B.ASM_RANGE.get e)))

/-- R278: `b`, in units of 2⁻¹⁴⁹, lies below the largest magnitude of a format. -/
def tvFits (f b : Nat) : Bool := decide (b < (2 ^ 31 - 1) * 2 ^ (149 - f))

/-- Detail 0x0007: the walk of R278 over every destination. -/
def State.tvBoundOk (s : State) (i : TvImg) : Bool :=
  let start (t d : Nat) : Nat := (s.tvDefault i (i.h.first t + d)).natAbs * 2 ^ (149 - s.tvDestF i t d)
  let defaults := (List.range i.h.dests.length).all fun t => (List.range (i.h.dests.getD t 0)).all fun d =>
    tvFits (s.tvDestF i t d) (start t d)
  let walk := (List.range i.h.entries).foldl (fun (acc : Bool × List (Nat × Nat)) n =>
    let e := s.tvEntry i n
    let t := B.ASM_TARGET.get e
    let d := B.ASM_DEST.get e
    let key := i.h.first t + d
    let old := match spGet 0 acc.2 key with | 0 => start t d | b + 1 => b
    let b := if B.ASM_ACCUM.get e = 1 then old + s.tvReach i e else s.tvReach i e
    (acc.1 && tvFits (s.tvDestF i t d) b, spSet 0 acc.2 key (b + 1))) (true, [])
  defaults && walk.1

/-- Detail 0x0008, its LNZ: the nonzeros of L below its diagonal that the patterns and the permutation give (entry 13). -/
def State.tvFillOk (s : State) (i : TvImg) : Bool :=
  !i.h.mpc || fillCount i.h.k (fun k j => s.tvMeet i (s.tvPerm i k) (s.tvPerm i j)) == i.h.lnz

/-! What the schedule fixes (R277, R290; entry 13). -/

def schedOk (img : Nat) : Bool := Config.freeFn 20 [img] % 2 == 1
def schedFact (img : Nat) : Nat := Config.freeFn 21 [img] % 2 ^ 21
def schedIter (h : TvHead) (img : Nat) : Nat := if h.mpc then Config.freeFn 22 [img] % 2 ^ 16 else 0
def schedTest (h : TvHead) (img : Nat) : Nat := if h.mpc then Config.freeFn 23 [img] % 2 ^ 16 else 0
def schedCheck (h : TvHead) (img : Nat) : Nat := if h.mpc then 1 + Config.freeFn 24 [img] % 63 else 0

/-- R291: WCET. -/
def tvWcet (h : TvHead) (fact iter test check : Nat) : Nat :=
  if h.mpc then h.tAsm + fact + h.cap * iter + (h.cap + check - 1) / check * test + h.tOut
  else h.tAsm + fact + h.tOut

/-- Table TV-4: the detail of the first failing check. -/
def State.tvCheck (s : State) (base img : Nat) : Option Nat :=
  let i := s.tvAt base
  let w := tvWcet i.h (schedFact img) (schedIter i.h img) (schedTest i.h img) (schedCheck i.h img)
  if !(tvHeadOk (s.rdLe base 256)) then some 2
  else if !(s.tvPatternsOk i) then some 3
  else if !(s.tvFormatsOk i) then some 4
  else if !(s.tvRangesOk i) then some 5
  else if !((List.range i.h.entries).all fun e => tvEntryOk i.h (s.tvEntry i e)) then some 6
  else if !(s.tvBoundOk i) then some 7
  else if !(schedOk img) || !(s.tvFillOk i) then some 8
  else if i.h.mpc ∧ 200000 < w then some 9
  else if i.h.mpc = false ∧ 12500 < w then some 10
  else none

/-- R277, R279: the registers of an accepted image. -/
def State.tvAccept (s : State) (j base img : Nat) (bytes : List Byte) (dig : Nat) : State :=
  let h := (s.tvAt base).h
  let w := tvWcet h (schedFact img) (schedIter h img) (schedTest h img) (schedCheck h img)
  let s := { s with traverse := { s.traverse with
    images := spSet [] s.traverse.images j bytes
    digests := spSet 0 s.traverse.digests j (dig + 1) } }
  let s := ((s.setFld F.TV_PROB_STAT_REGISTERED j 1).setFld F.TV_PROB_STAT_WCET j (min (2 ^ 21 - 1) w)).setFld
    F.TV_PROB_STAT_LIN_OFS j (h.linOfs 0 / 64)
  let s := s.setFld F.TV_PROB_STAT_AREA j ((h.area + 4095) / 4096)
  let s := (s.setFld F.TV_TIME_FACT j (schedFact img)).setFld F.TV_TIME_ITER j (schedIter h img)
  (s.setFld F.TV_TIME_TEST j (schedTest h img)).setFld F.TV_TIME_CHECK j (schedCheck h img)

/-- TV_REGISTER (R274, R275, R277). Conditions are taken in the order of R15, those of the image after those of its place. -/
def tvRegisterBody (s : State) (c : Cmd) : State × Option Reply :=
  let a := c.w64 4
  let n := c.len
  let j := c.w 6 % 64
  let bs := s.rdBytes a n
  let img := leNat bs
  let dig := digest bs
  if leNat ((bs.drop (n - 64)).take 4) ≠ crc32c (bs.take (n - 64)) then (s, some ⟨6, 1, 0, none⟩)
  else if !s.loading then (s, some (denied 1))
  else if !(s.ddrWrites 1 a n) then (s, some (denied 4))
  else if a % 64 ≠ 0 then (s, some (lenRange 0))
  else if B.TVH_LENGTH.get (s.rdLe a 256) ≠ n ∨ (s.tvAt a).h.len ≠ n then (s, some (lenRange 0))
  else match s.tvCheck a img with
    | some d => (s, some (lenRange d))
    | none =>
      if !(s.ident.manifest.contains dig) then (s, some (badSignature 0))
      else if s.flag F.TV_PROB_STAT_REGISTERED j then (s, some (conflict 0))
      else ((s.tvAccept j a img bs dig).extend 8 dig, some Reply.ok)

def execTvRegister (ring : BitVec 14) (d : Desc) (s : State) : Host.Outcome State Fault Refusal :=
  .next (s.command ring d 0x0501 tvRegisterBody)

/-- R279: S6 places an accepted image in its scratch area, and the parameters written before it in its back bank. -/
def State.tvPlaceOne (s : State) (j : Nat) (bs : List Byte) : State :=
  let h := tvHead (leNat (bs.take 256))
  let s := s.wrMarked (s.tvArea j) bs false
  (s.traverse.early.filter fun x => x.1 / 16384 == j).foldl (fun (s : State) x =>
    s.wrMarked (s.tvArea j + h.bankOfs (1 - s.fld F.TV_PROB_STAT_BANK j) + 4 * (x.1 % 16384)) (leBytes 4 (x.2 - 1)) false) s

def State.tvPlace (s : State) : State :=
  let s := s.traverse.images.foldl (fun (s : State) x => s.tvPlaceOne x.1 x.2) s
  { s with traverse := { s.traverse with
    images := []
    early := [] } }

/-! ## Parameters -/

/-- The header of a registered problem, before and after S6 places its image. -/
def State.tvHeadOf (s : State) (j : Nat) : TvHead :=
  if s.flag F.TV_PROB_STAT_REGISTERED j then
    match spGet [] s.traverse.images j with
    | [] => (s.tvImg j).h
    | bs => tvHead (leNat (bs.take 256))
  else tvHead 0

/-- The image of problem `j` has not been placed yet. -/
def State.tvWaits (s : State) (j : Nat) : Bool := !(spGet [] s.traverse.images j).isEmpty

/-- The module with the waiting image of problem `j` in its area. -/
def State.tvHolding (s : State) (j : Nat) : State := if s.tvWaits j then s.tvPlaceOne j (spGet [] s.traverse.images j) else s

/-- Word `k` of bank `b` of a problem. -/
def State.tvBankAt (s : State) (j b k : Nat) : Nat := s.tvArea j + (s.tvImg j).h.bankOfs b + 4 * k

/-- The value of entry `e` for source word `w` under scale `sc` and offset `of` lies in the entry's range (R286). -/
def State.tvInRange (s : State) (i : TvImg) (e w sc of : Nat) : Bool :=
  let v := fFma w sc of
  !(fLt v (s.tvLo i (B.ASM_RANGE.get e))) && !(fLt (s.tvHi i (B.ASM_RANGE.get e)) v)

/-- R284: with the back bank's words given by `param`, index `k` takes no entry that scales or offsets with it outside that entry's range for
a source at the bounds of its own range. ONE is its own range; no rule gives another source's, so its verdict is open (entry 13). -/
def State.tvParamFits (s : State) (j k : Nat) (param : Nat → Nat) : Bool :=
  let i := s.tvImg j
  (List.range i.h.entries).all fun n =>
    let e := s.tvEntry i n
    let scale := B.ASM_SCALE.get e
    let ofs := B.ASM_OFFSET.get e
    let sc := if scale = 0xFFFF then 0x3F800000 else param scale
    let of := if ofs = 0xFFFF then 0 else param ofs
    if scale ≠ k ∧ ofs ≠ k then true
    else if B.ASM_SRC.get e = 0 then s.tvInRange i e 0x3F800000 sc of
    else Config.freeFn 25 [spGet 0 s.traverse.digests j, n, sc, of] % 2 == 1

/-- R284, R285: one word of the back bank. Before S6 places the image it is kept for its bank; after, the words of the present TCLK cycle are
remembered. -/
def State.tvParamWord (s : State) (j k w : Nat) : State :=
  if s.tvWaits j then { s with traverse := { s.traverse with early := spSet 0 s.traverse.early (16384 * j + k) (w + 1) } }
  else
    let a := s.tvBankAt j (1 - s.fld F.TV_PROB_STAT_BANK j) k
    let x : TvParam := ⟨j, s.clk.tclk, k, w, s.rdLe a 4, s.flag F.TV_PROB_STAT_PENDING j⟩
    { s.wrMarked a (leBytes 4 w) false with traverse := { s.traverse with
      recent := (s.traverse.recent.filter fun y => y.cycle == s.clk.tclk) ++ [x] } }

/-- R284: writes the back bank and sets PENDING, or fails whole. -/
def State.tvParamRun (s : State) (c : Cmd) : State × Reply :=
  let j := c.w 6 % 64
  let first := c.w 6 / 2 ^ 16 % 2 ^ 14
  let n := c.len / 4
  let a := c.w64 4
  let u := s.tvHolding j
  let value (i : Nat) : Nat := s.rdLe (a + 4 * i) 4
  let param (k : Nat) : Nat :=
    if first ≤ k ∧ k < first + n then value (k - first) else u.rdLe (u.tvBankAt j (1 - s.fld F.TV_PROB_STAT_BANK j) k) 4
  if (s.tvHeadOf j).params < first + n then (s, lenRange 0)
  else match (List.range n).find? (fun i => !(fFinite (value i)) || !(u.tvParamFits j (first + i) param)) with
    | some i => (s, lenRange i)
    | none =>
      let t := (List.range n).foldl (fun (t : State) i => t.tvParamWord j (first + i) (value i)) s
      (t.setFld F.TV_PROB_STAT_PENDING j 1, Reply.ok)

/-- TV_PARAM (R284, R285). -/
def tvParamBody (s : State) (c : Cmd) : State × Option Reply :=
  if !(s.exchange c.ctx (c.w64 4) c.len) then (s, some (denied 4))
  else if s.traverse.copies.any fun x => x.1 == c.w 6 % 64 then
    ({ s with traverse := { s.traverse with held := s.traverse.held ++ [(c.ring, c.d)] } }, none)
  else
    let (s, r) := s.tvParamRun c
    (s, some r)

def execTvParam (ring : BitVec 14) (d : Desc) (s : State) : Host.Outcome State Fault Refusal :=
  .next (s.command ring d 0x0502 tvParamBody)

/-- R285: a copy of the active bank of problem `j` ends: the words that waited for it enter the back bank. -/
def State.tvCopied (s : State) (j : Nat) : State :=
  let h := (s.tvImg j).h
  let b := s.fld F.TV_PROB_STAT_BANK j
  let s := s.copyRange (s.tvArea j + h.bankOfs b) (s.tvArea j + h.bankOfs (1 - b)) h.bankLen
  let s := (s.traverse.after.filter fun x => x.prob == j).foldl (fun (s : State) x =>
    s.wrMarked (s.tvBankAt j (1 - b) x.index) (leBytes 4 x.word) false) s
  { s with traverse := { s.traverse with after := s.traverse.after.filter fun x => x.prob != j } }

/-- R285: copies that have ended by now fill the back bank, and the TV_PARAM commands held for them complete. -/
def State.tvCopies (s : State) : State :=
  let now := s.clk.tclk
  let done := s.traverse.copies.filter fun x => x.2 ≤ now
  let s := { s with traverse := { s.traverse with copies := s.traverse.copies.filter fun x => now < x.2 } }
  let s := done.foldl (fun (s : State) x => s.tvCopied x.1) s
  let go := s.traverse.held.filter fun x => done.any fun y => y.1 == descWord x.2 6 % 64
  let s := { s with traverse := { s.traverse with held := s.traverse.held.filter fun x => !(go.contains x) } }
  go.foldl (fun (s : State) x =>
    let (s, r) := s.tvParamRun ⟨x.1, x.2, B.DESC_PART.get x.2.toNat, B.DESC_CONTEXT.get x.2.toNat⟩
    s.finish x.1 x.2 r) s

/-- PARAM_COPY_END (R285): after `dt` TCLK cycles. -/
def execParamCopyEnd (dt : Nat) (s : State) : Host.Outcome State Fault Refusal :=
  if s.dark then .next s else .next (s.tickT dt).tvCopies

/-- R285: at a latch of problem `j` in the cycle in which a TV_PARAM completed, its words stand for the following latch: PENDING is as it was
before them, and where the banks exchange, the back bank is given back what they replaced. -/
def State.tvRecent (s : State) (j : Nat) : List TvParam := s.traverse.recent.filter fun x => x.prob == j && x.cycle == s.clk.tclk
def State.tvPending (s : State) (j : Nat) : Bool :=
  match s.tvRecent j with
  | [] => s.flag F.TV_PROB_STAT_PENDING j
  | x :: _ => x.pend
def State.tvExchange (s : State) (j : Nat) : State :=
  let ws := s.tvRecent j
  let b := 1 - s.fld F.TV_PROB_STAT_BANK j
  let s := ws.reverse.foldl (fun (s : State) x => s.wrMarked (s.tvBankAt j b x.index) (leBytes 4 x.old) false) s
  let s := (s.setFld F.TV_PROB_STAT_BANK j b).setFld F.TV_PROB_STAT_PENDING j (bit (!ws.isEmpty))
  { s with traverse := { s.traverse with
    after := s.traverse.after ++ ws
    recent := s.traverse.recent.filter fun x => x.prob != j
    copies := s.traverse.copies ++ [(j, s.clk.tclk + ((s.tvImg j).h.params + 15) / 16)] } }

/-! ## Records -/

/-- R303: output buffer `b` of a problem, and its published buffer. -/
def State.tvOutAt (s : State) (j b : Nat) : Nat := scratchBase + s.fld F.TV_PROB_C_OUT_BASE j * 4096 + b * pad64 (s.tvImg j).h.outLen
def State.tvPublished (s : State) (j : Nat) : Option Nat :=
  match spGet 0 s.traverse.out j with
  | 0 => none
  | b + 1 => some (s.tvOutAt j b)

/-- R283: the published linearisation record of a problem. -/
def State.tvLin (s : State) (j : Nat) : Option Nat :=
  match spGet 0 s.traverse.lin j with
  | 0 => none
  | b + 1 => some (s.tvArea j + (s.tvImg j).h.linOfs b)

/-- R348: the published trajectory record, and the diagnosis record beside it. -/
def State.trajectory (s : State) : Option Nat :=
  match s.stadia.side with
  | 0 => none
  | b + 1 => some (auxBase + 0x2C_0000 + b * 40960)
def State.diagnosis (s : State) : Option Nat :=
  match s.stadia.side with
  | 0 => none
  | b + 1 => some (auxBase + 0x2E_0000 + b * 40960)

/-- R283: PUBLISH bit `b` flips the linearisation buffers of the enabled problems that name it, or defers the flip to the end of an
assembly that reads them. -/
def State.tvPublishBit (s : State) (b : Nat) : State :=
  (List.range 64).foldl (fun (s : State) j =>
    if s.flag F.TV_PROB_STAT_REGISTERED j && s.flag F.TV_PROB_A_EN j && s.fld F.TV_PROB_A_LIN_BIT j == b && 0 < (s.tvImg j).h.lin then
      match s.traverse.run with
      | some r =>
        if r.prob = j ∧ r.phase = 1 ∧ (r.taken.any fun t => t.1 == 2) then
          ({ s with traverse := { s.traverse with run := some { r with defer := r.defer + 1 } } }).bump F.TV_COUNTS_LIN_DEFER
        else s.flip (.lin j)
      | none => s.flip (.lin j)
    else s) s

/-! ## Sources -/

/-- The key of an entry's source: its kind, and for OUT its problem. -/
def tvSource (e : Nat) : Nat :=
  let k := B.ASM_SRC.get e
  if k = 5 then 5 + 16 * (B.ASM_SRC_INDEX.get e / 2 ^ 26) else k

/-- R282: where the record of a source lies when the run latches, as the address of the word that SRC_INDEX 0 names. -/
def State.tvSourceAt (s : State) (j key : Nat) : Option Nat :=
  match key % 16 with
  | 2 => (s.tvLin j).map fun a => a + 64
  | 3 => s.fused
  | 4 => s.trajectory
  | 5 => s.tvPublished (key / 16)
  | _ => none

/-- The frame of a latched record. -/
def State.tvFrameOf (s : State) (key a : Nat) : Nat :=
  if key = 2 then B.FHDR_FRAME.get (s.rdLe (a - 64) 64) else s.rdLe a 6

/-- SEQ of a latched record, where its layout has one. -/
def State.tvSeqOf (s : State) (key a : Nat) : Nat :=
  match key % 16 with
  | 2 => B.FHDR_SEQ.get (s.rdLe (a - 64) 64)
  | 5 => B.TVO_STEP.get (s.rdLe a 256)
  | _ => 0

/-- The records that a run of problem `j` takes. -/
def State.tvTake (s : State) (j : Nat) : List (Nat × Nat) :=
  let i := s.tvImg j
  let keys := ((List.range i.h.entries).map fun e => tvSource (s.tvEntry i e)).eraseDups
  keys.filterMap fun k => (s.tvSourceAt j k).map fun a => (k, a)

/-- Table TV-14: the ages of the records taken. -/
def State.tvAges (s : State) (t : List (Nat × Nat)) : List Nat :=
  let one (k : Nat) : Nat := match t.find? fun x => x.1 == k with | some x => s.ageOf (s.tvFrameOf k x.2) | none => 255
  let outs := (t.filter fun x => x.1 % 16 == 5).map fun x => s.ageOf (s.tvFrameOf x.1 x.2)
  [one 3, one 4, one 2, outs.foldl max 0]

/-! ## Assembly -/

/-- What assembly works on: values by destination, poisoned destinations, the two flags. -/
structure TvAsm where
  vals : List (Nat × Int)
  bad : List Nat
  clamp : Bool
  noInput : Bool
deriving DecidableEq, Repr

/-- The address of the word that entry `e` of a run reads, where it reads memory. -/
def State.tvWordAt (s : State) (r : TvRun) (e : Nat) : Option Nat :=
  let idx := if B.ASM_SRC.get e = 5 then B.ASM_SRC_INDEX.get e % 2 ^ 26 else B.ASM_SRC_INDEX.get e
  if B.ASM_SRC.get e = 1 then some (s.tvBankAt r.prob (s.fld F.TV_PROB_STAT_BANK r.prob) idx)
  else (r.taken.find? fun y => y.1 == tvSource e).map fun y => y.2 + 4 * idx

/-- A parameter of the active bank and whether its word is poisoned; 0xFFFF stands for `one`. -/
def State.tvParam (s : State) (j k one : Nat) : Nat × Bool :=
  let a := s.tvBankAt j (s.fld F.TV_PROB_STAT_BANK j) k
  if k = 0xFFFF then (one, false) else (s.rdLe a 4, s.poisonWord a)

/-- Entry `n` of R286. -/
def State.tvApply (s : State) (i : TvImg) (r : TvRun) (x : TvAsm) (n : Nat) : TvAsm :=
  let e := s.tvEntry i n
  let t := B.ASM_TARGET.get e
  let d := i.h.first t + B.ASM_DEST.get e
  let word : Option (Nat × Bool) :=
    if B.ASM_SRC.get e = 0 then some (0x3F800000, false) else (s.tvWordAt r e).map fun a => (s.rdLe a 4, s.poisonWord a)
  match word with
  | none => { x with noInput := true }
  | some (w, p) =>
    let (sc, psc) := s.tvParam r.prob (B.ASM_SCALE.get e) 0x3F800000
    let (of, pof) := s.tvParam r.prob (B.ASM_OFFSET.get e) 0
    -- R293: the words of the entry and of its range lie in the scratch too.
    let own := s.poisonWords (i.sec 7 + 16 * n) 16 || s.poisonWords (i.sec 6 + 8 * B.ASM_RANGE.get e) 8
    let x := if psc || pof || own then { x with bad := x.bad ++ [d] } else x
    if p || !(fFinite w) then { x with bad := x.bad ++ [d] }
    else
      let v := fFma w sc of
      let lo := s.tvLo i (B.ASM_RANGE.get e)
      let hi := s.tvHi i (B.ASM_RANGE.get e)
      let out := fLt v lo || fLt hi v
      let v := if fLt v lo then lo else if fLt hi v then hi else v
      let m := toGrid (f32 v) (-(s.tvDestF i t (B.ASM_DEST.get e) : Int))
      let base := if B.ASM_ACCUM.get e = 1 then spGet 0 x.vals d else 0
      { x with
        vals := spSet 0 x.vals d (base + m)
        clamp := x.clamp || out }

/-- R293: the destinations whose default is poisoned, or all of them where a word of the image that every value is computed from is. -/
def State.tvStartBad (s : State) (i : TvImg) : List Nat :=
  let fixed := s.poisonWords i.base 256 || ([0, 1, 2, 4, 5, 8].any fun k => s.poisonWords (i.sec k) (i.h.parts.getD k 0))
  (List.range i.h.v).filter fun d => fixed || s.poisonWord (i.sec 3 + 4 * d)

/-- R286: the assembled values. -/
def State.tvAssemble (s : State) (r : TvRun) : TvAsm :=
  let i := s.tvImg r.prob
  (List.range i.h.entries).foldl (fun x n => s.tvApply i r x n) ⟨spTabulate 0 i.h.v (s.tvDefault i), s.tvStartBad i, false, false⟩

/-- R279: the shared workspace as a problem uses it. -/
def State.tvWorkAt (s : State) : Nat := scratchBase + s.fld F.TV_CFG_WORK_BASE * 4096
def TvHead.work (h : TvHead) : Nat := 4 * h.lnz + 32 * h.k

/-- R283, R286, R287: the end of the assembly. The workspace is written from here on. -/
def State.tvAssembled (s : State) (r : TvRun) : State :=
  let x := s.tvAssemble r
  let h := (s.tvImg r.prob).h
  let vals := spTabulate 0 h.v fun d => ofSigned 32 (spGet 0 x.vals d)
  let s := if x.clamp then s.bump F.TV_COUNTS_CLAMPS else s
  let s := if x.noInput then s.bump F.TV_COUNTS_NO_INPUT else s
  let s := (List.range r.defer).foldl (fun (s : State) _ => s.flip (.lin r.prob)) s
  let s := s.markRange s.tvWorkAt h.work false
  { s with traverse := { s.traverse with run := some { r with
      phase := 2
      due := r.due + s.fld F.TV_TIME_FACT r.prob
      defer := 0
      values := vals
      bad := x.bad.eraseDups
      clamp := x.clamp
      noInput := x.noInput } } }

/-! ## The problem of a run -/

/-- Assembled destination `d` of target `t`, in its format. -/
def State.tvValue (s : State) (r : TvRun) (t d : Nat) : Fx :=
  let i := s.tvImg r.prob
  ⟨asSigned 32 (spGet 0 r.values (i.h.first t + d)), s.tvDestF i t d⟩

/-- The stored element of row `x` and column `y` in the pattern of section `k`, of target `t`; 0 elsewhere. -/
def State.tvElement (s : State) (r : TvRun) (k t x y : Nat) : Fx :=
  match s.tvStored (s.tvImg r.prob) k x y with
  | some e => s.tvValue r t e
  | none => ⟨0, 0⟩

/-- A binary32 register converted into the format F, to nearest, ties to even (R294). -/
def fxOf (x f : Nat) : Fx := ⟨toGrid (f32 x) (-(f : Int)), f⟩

/-- 1 / x in units of 2 to the minus `f`, to nearest, ties to even, for a finite x above zero (R294). -/
def recipGrid (x f : Nat) : Int :=
  match f32 x with
  | .fin _ m e => if 0 ≤ e then rneDivInt (2 ^ f) (m * 2 ^ e.toNat) else rneDivInt (2 ^ (f + (-e).toNat)) m
  | _ => 0

/-- R294, R295: how a pivot of variable, constraint, state or measurement `c` is judged. -/
def State.tvRule (s : State) (j : Nat) (positive : Bool) (c : Nat) : PivotRule :=
  let f := s.tvGroupF (s.tvImg j) c
  ⟨positive, (fxOf (s.fld F.TV_SOLVE_C_PIVOT_MIN j) f).n, (fxOf (s.fld F.TV_SOLVE_C_DELTA j) f).n, f⟩

/-- R294–R298: the MPC problem of a run. -/
def State.tvMpc (s : State) (r : TvRun) : Mpc :=
  let i := s.tvImg r.prob
  let n := i.h.n
  { dig := spGet 0 s.traverse.digests r.prob
    n := n
    m := i.h.m
    perm := (List.range i.h.k).map (s.tvPerm i)
    p := fun x y => s.tvElement r 1 0 (min x y) (max x y)
    a := fun x y => s.tvElement r 2 1 x y
    q := s.tvValue r 2
    l := s.tvValue r 3
    u := s.tvValue r 4
    sigma := fun x => fxOf (s.fld F.TV_SOLVE_B_SIGMA r.prob) (s.tvGroupF i x)
    rinv := fun y =>
      let f := s.tvGroupF i (n + y)
      ⟨recipGrid (s.fld F.TV_SOLVE_B_RHO r.prob) f, f⟩
    rho := ⟨f32units (s.fld F.TV_SOLVE_B_RHO r.prob), 149⟩
    rule := fun c => s.tvRule r.prob (decide (c < n)) c
    fv := fun x => s.tvGroupF i x
    fc := fun y => s.tvGroupF i (n + y) }

/-- R301: the estimator of a run. -/
def State.tvEst (s : State) (r : TvRun) : Est :=
  let i := s.tvImg r.prob
  let n := i.h.n
  { dig := spGet 0 s.traverse.digests r.prob
    nx := n
    ny := i.h.m
    f := fun x y => s.tvValue r 0 (x * n + y)
    q := fun x y => s.tvValue r 1 (x * n + y)
    h := fun x y => s.tvValue r 2 (x * n + y)
    r := fun x y => s.tvValue r 3 (x * i.h.m + y)
    y := s.tvValue r 4
    b := s.tvValue r 5
    fs := fun x => s.tvGroupF i x
    ruleS := fun c => s.tvRule r.prob true (n + c)
    ruleP := fun c => s.tvRule r.prob true c }

/-! ## The persistent state -/

/-- Word `k` of a problem's persistent state. -/
def State.tvKept (s : State) (j k : Nat) : Int := asSigned 32 (s.rdLe (s.tvArea j + (s.tvImg j).h.stateOfs + 4 * k) 4)

/-- R297: iteration 1 starts from the persistent state. -/
def State.tvWarm (s : State) (r : TvRun) : Bool :=
  let h := (s.tvImg r.prob).h
  s.flag F.TV_PROB_C_WARM r.prob && spGet 0 s.traverse.prev r.prob == 2 &&
    !(s.poisonWords (s.tvArea r.prob + h.stateOfs) h.persist)

/-- R297: x, z and y as iteration 1 finds them. -/
def State.tvStart (s : State) (r : TvRun) (warm : Bool) : Iterate :=
  let g := s.tvMpc r
  if warm then
    ⟨(List.range g.n).map fun k => ⟨s.tvKept r.prob k, g.fv k⟩, (List.range g.m).map fun k => ⟨s.tvKept r.prob (g.n + k), g.fc k⟩,
      (List.range g.m).map fun k => ⟨s.tvKept r.prob (g.n + g.m + k), g.fc k⟩⟩
  else g.cold

/-- R301: the estimator's state before a run. -/
def State.tvEstStart (s : State) (r : TvRun) : EstState :=
  let e := s.tvEst r
  if spGet 0 s.traverse.steps r.prob = 0 then e.start
  else
    ⟨(List.range e.nx).map fun k => ⟨s.tvKept r.prob k, e.fs k⟩,
      (List.range e.nx).map fun k => (List.range e.nx).map fun c => ⟨s.tvKept r.prob (e.nx + k * e.nx + c), e.fs k⟩, 0, false⟩

/-- The iterates of a run. -/
def State.tvIterate (s : State) (r : TvRun) : Iterate :=
  let g := s.tvMpc r
  ⟨r.x.zipIdx.map fun v => ⟨v.1, g.fv v.2⟩, r.z.zipIdx.map fun v => ⟨v.1, g.fc v.2⟩, r.y.zipIdx.map fun v => ⟨v.1, g.fc v.2⟩⟩

/-- A run with the iterates `w`. -/
def TvRun.withIterate (r : TvRun) (w : Iterate) : TvRun :=
  { r with
    x := w.x.map fun v => v.n
    z := w.z.map fun v => v.n
    y := w.y.map fun v => v.n }

/-- R301: the refactorisation falls in this run. -/
def State.tvRefactor (s : State) (r : TvRun) : Bool := (spGet 0 s.traverse.steps r.prob + 1) % 4096 == 0

/-- What a run leaves in the persistent state: an MPC run x, z, y and zeros (R297), an EST run x and P (R301), each with its format. -/
def State.tvResult (s : State) (r : TvRun) : List Fx :=
  if (s.tvImg r.prob).h.mpc then
    let w := s.tvIterate r
    w.x ++ w.z ++ w.y ++ List.replicate (s.tvImg r.prob).h.n ⟨0, 0⟩
  else
    let w := (s.tvEst r).step (s.tvEstStart r) (s.tvRefactor r)
    w.x ++ w.p.flatten

/-! ## The output record -/

/-- R303: the words of the payload: x and y of an MPC run, x and P of an EST run. -/
def TvHead.payload (h : TvHead) (ws : List Fx) : List Fx := if h.mpc then ws.take h.n ++ (ws.drop (h.n + h.m)).take h.m else ws

/-- R287, R293: whether word `k` of the payload is poisoned. The misclosure test decides on every element, so every output of an MPC run is
computed from every input; in an EST run the covariance is not computed from y, b or x (entry 13). -/
def State.tvBadWord (s : State) (r : TvRun) (k : Nat) : Bool :=
  let h := (s.tvImg r.prob).h
  let st := s.tvArea r.prob + h.stateOfs
  let work := s.poisonWords s.tvWorkAt h.work
  if h.mpc then work || !r.bad.isEmpty
  else
    let first := spGet 0 s.traverse.steps r.prob == 0
    let cov := work || (r.bad.any fun d => decide (d < h.first 4)) || (!first && s.poisonWords (st + 4 * h.n) (4 * h.n * h.n))
    if k < h.n then cov || !r.bad.isEmpty || (!first && s.poisonWords st (4 * h.n)) else cov

/-- Table TV-14: what the header says of a run beside its status and its end. -/
def State.tvHeader (s : State) (r : TvRun) : Nat :=
  r.frame + B.TVO_DOMAIN.put 4 + B.TVO_PROBLEM.put r.prob + B.TVO_RUN.put r.run + B.TVO_UNSYNCED.put (bit r.unsynced) +
    B.TVO_CLAMP.put (bit r.clamp) + B.TVO_NO_INPUT.put (bit r.noInput) + B.TVO_SAT.put (bit r.sat) +
    B.TVO_PIVOT.put (bit (0 < r.pivots)) + B.TVO_WARM.put (bit r.warm) + B.TVO_ITERS.put r.iters +
    B.TVO_PIVOTS.put (min 65535 r.pivots) + B.TVO_R_PRIM.put r.rPrim + B.TVO_R_DUAL.put r.rDual +
    B.TVO_STEP.put (spGet 0 s.traverse.steps r.prob) + B.TVO_AGE_DATUM.put (r.ages.getD 0 255) +
    B.TVO_AGE_STADIA.put (r.ages.getD 1 255) + B.TVO_AGE_LIN.put (r.ages.getD 2 255) + B.TVO_AGE_OUT.put (r.ages.getD 3 0)

/-- The back output buffer of a problem. -/
def State.tvBack (s : State) (j : Nat) : Nat := s.tvOutAt j (s.backOf (.out j))

/-- R287, R292, R293, R305: the events and counts of a run that ends, `poison` saying that its record holds a poisoned value. -/
def State.tvTally (s : State) (r : TvRun) (poison : Bool) : State :=
  let s := if poison then s.raise 0x11 r.prob else s
  let s := if r.sat then (s.bump F.TV_COUNTS2_SAT_RUNS).raise 0x10 r.prob else s
  let s := if 0 < r.pivots then s.bump F.TV_COUNTS2_PIVOT_RUNS else s
  (s.setFld F.TV_LAST_ITERS r.prob r.iters).setFld F.TV_LAST_PIVOTS r.prob (min 65535 r.pivots)

/-- R287, R292, R293, R303: the record and the persistent state of a run are written; the answer is the record's status. -/
def State.tvWrite (s : State) (r : TvRun) : Nat × State :=
  let h := (s.tvImg r.prob).h
  let a := s.tvBack r.prob
  let st := s.tvArea r.prob + h.stateOfs
  let ws := s.tvResult r
  let out := h.payload ws
  let bads := (List.range out.length).map (s.tvBadWord r)
  let poison := bads.any id
  let refac := !h.mpc && s.tvRefactor r
  let steps := spGet 0 s.traverse.steps r.prob + 1
  let status := s.outcome (if poison then 0xF else if r.capped then 9 else 0)
  let s := { s with traverse := { s.traverse with steps := spSet 0 s.traverse.steps r.prob steps } }
  let head := s.tvHeader r + B.TVO_STATUS.put status + B.TVO_CONVERGED.put (bit r.converged) + B.TVO_CAPPED.put (bit r.capped) +
    B.TVO_REFACTOR.put (bit refac)
  let s := s.wrMarked a (leBytes 256 head ++ out.flatMap fun v => leBytes 4 (fOfScaled v.n (-v.f))) false
  let s := s.wrMarked st (ws.flatMap fun v => leBytes 4 (ofSigned 32 v.n)) (h.mpc && poison)
  let s := bads.zipIdx.foldl (fun (s : State) x => if x.1 then
    (let s := s.markWord (a + 256 + 4 * x.2); if h.mpc then s else s.markWord (st + 4 * x.2)) else s) s
  let good := (status == 0 || status == 9) && !r.sat && !poison
  let s := { s with traverse := { s.traverse with prev := spSet 0 s.traverse.prev r.prob (if good then 2 else 1) } }
  let s := s.tvTally r poison
  (status, if r.capped then s.bump F.TV_COUNTS2_CAPPED else s)

/-- R299, R300, R303: the back output buffer is stamped and published. -/
def State.tvPublish (s : State) (r : TvRun) (status : Nat) : State :=
  let b := s.backOf (.out r.prob)
  let a := s.tvBack r.prob
  let s := (s.wrLe (a + 6) 2 status).wrLe (a + 8) 8 s.clk.tclk
  let s := (s.flip (.out r.prob)).setFld F.TV_LAST_STATUS r.prob status
  s.record 0x11 7 (words [7, 2 * r.prob + b, s.fld F.TV_STATUS_FRAME, crc32c (s.rdBytes a (s.tvImg r.prob).h.outLen)]) 4

def State.setRun (s : State) (r : TvRun) : State := { s with traverse := { s.traverse with run := some r } }
def State.isMpc (s : State) (r : TvRun) : Bool := (s.tvImg r.prob).h.mpc

/-- R299, R303: an MPC run writes its output; a converged run publishes it. -/
def State.tvOutputEnd (s : State) (r : TvRun) : State :=
  let (status, s) := s.tvWrite r
  let s := if r.capped then s else s.tvPublish r status
  s.setRun { r with phase := if r.capped then 6 else 7 }

/-- R301, R302: an EST run has factored, writes and publishes. -/
def State.tvEstEnd (s : State) (r : TvRun) : State :=
  let w := (s.tvEst r).step (s.tvEstStart r) (s.tvRefactor r)
  let r := { r with
    sat := w.sat
    pivots := w.pivots }
  let (status, s) := s.tvWrite r
  (s.tvPublish r status).setRun { r with phase := 7 }

/-! ## The end of a window -/

/-- The window of the open run lasts until this TCLK cycle. -/
def State.tvWindowDue (s : State) (r : TvRun) : Nat := r.latch + s.fld F.TV_PROB_B_BUDGET r.prob

/-- R300: a run that has not written its output is stopped; the payload of the previous output is published with TIMEOUT, or with POISON
where it carries marks (R16). -/
def State.tvTimeout (s : State) (r : TvRun) : State :=
  let h := (s.tvImg r.prob).h
  let a := s.tvBack r.prob
  let s := match s.tvPublished r.prob with | some p => s.copyRange p a (pad64 h.outLen) | none => s
  let s := s.wrMarked a (leBytes 256 (s.tvHeader r)) false
  let poison := s.poisonWords (a + 256) (h.outLen - 256)
  let s := ((s.tvTally r poison).bump F.TV_COUNTS2_TIMEOUTS).raise 0x12 r.prob
  let s := { s with traverse := { s.traverse with prev := spSet 0 s.traverse.prev r.prob 1 } }
  s.tvPublish r (s.outcome (if poison then 0xF else 0xC))

/-- The open run writes its output in the window's last cycle, if that is where its phases end (R291, R299). -/
def State.tvLastWrite (s : State) (r : TvRun) : State :=
  let due := s.tvWindowDue r
  if s.isMpc r then (if r.phase = 5 ∧ r.due ≤ due then s.tvOutputEnd r else s)
  else if r.phase = 2 ∧ r.due + (s.tvImg r.prob).h.tOut ≤ due then s.tvEstEnd r else s

/-- R299, R300: at latch + BUDGET. -/
def State.tvWindowEnd (s : State) : State :=
  match s.traverse.run with
  | none => s
  | some r0 =>
    let s := s.tvLastWrite r0
    let r := s.traverse.run.getD r0
    let s := if r.phase = 6 then s.tvPublish r (B.TVO_STATUS.get (s.rdLe (s.tvBack r.prob) 8))
      else if r.phase < 6 then s.tvTimeout r else s
    let s := if r.phase < 2 then (List.range r.defer).foldl (fun (s : State) _ => s.flip (.lin r.prob)) s else s
    { s with traverse := { s.traverse with run := none } }.setFld F.TV_STATUS_RUNNING 0 0

/-! ## The latch -/

/-- R282, R285, R288: run `k` of problem `j` latches the records that `take` finds; `pend` says that the parameter banks exchange. -/
def State.tvLatch (s : State) (j k : Nat) (pend : Bool) (take : State → List (Nat × Nat)) : State :=
  let now := s.clk.tclk
  let taken := take s
  let ages := s.tvAges taken
  let s := s.tvWindowEnd
  let s := if pend then s.tvExchange j else s
  let bank := s.fld F.TV_PROB_STAT_BANK j
  let s := s.record 0x10 7 (words (7 :: j :: k :: s.frameNum :: bank :: taken.flatMap fun t => [t.1, s.tvSeqOf t.1 t.2, s.tvFrameOf t.1 t.2])) 4
  let s := s.setRun { prob := j
                      run := k
                      frame := s.frameNum
                      unsynced := s.unsynced
                      latch := now
                      phase := 1
                      due := now + (s.tvImg j).h.tAsm
                      taken := taken
                      ages := ages
                      defer := 0
                      values := []
                      bad := []
                      clamp := false
                      noInput := false
                      warm := false
                      sat := false
                      pivots := 0
                      x := []
                      z := []
                      y := []
                      iters := 0
                      rPrim := 0
                      rDual := 0
                      converged := false
                      capped := false }
  ((s.setFld F.TV_STATUS_RUNNING 0 1).setFld F.TV_STATUS_PROBLEM 0 j).setFld F.TV_STATUS_FRAME 0 s.frameNum

/-- R280: the frame start that the runs of the running frame count from. The first latch of a frame tells when it reached TCLK. -/
def State.tvOrigin (s : State) (ofs : Nat) : State :=
  match s.traverse.origin with
  | some (f, _) =>
    if f = s.frameNum then s
    else { s with traverse := { s.traverse with
      origin := some (s.frameNum, s.clk.tclk - ofs)
      latched := [] } }
  | none => { s with traverse := { s.traverse with
      origin := some (s.frameNum, s.clk.tclk - ofs)
      latched := [] } }

/-- TRAVERSE_LATCH (R280–R282): after `dt` TCLK cycles run `k` of problem `j` falls due. It is skipped while another window is open.
In replay the recorded latches stand in its place (R288). -/
def execTraverseLatch (j : Fin 64) (k : Fin 15) (dt : Nat) (s : State) : Host.Outcome State Fault Refusal :=
  if s.dark then .next s
  else
  let s := (s.tickT dt).tvCopies
  let ofs := s.fld F.TV_PROB_A_LATCH j + k * s.fld F.TV_PROB_B_PERIOD j
  let on := s.flag F.TV_CFG_EN && s.flag F.TV_PROB_A_EN j && s.flag F.TV_PROB_STAT_REGISTERED j &&
    decide (k.val < s.fld F.TV_PROB_A_RUNS j) && decide (0 < s.frameNum)
  if !on || s.flag F.FB_STATUS_REPLAYING || decide (s.clk.tclk < ofs) then .next s
  else
    let s := s.tvOrigin ofs
    let start := match s.traverse.origin with | some (_, t) => t | none => 0
    if s.clk.tclk < start + ofs ∨ s.traverse.latched.contains (16 * j + k) then .next s
    else
      let s := { s with traverse := { s.traverse with latched := s.traverse.latched ++ [16 * j.val + k.val] } }
      let busy := match s.traverse.run with | some r => decide (s.clk.tclk < s.tvWindowDue r) | none => false
      if busy then .next ((s.bump F.TV_COUNTS_SKIPPED).raise 0x13 j) else .next (s.tvLatch j k (s.tvPending j) fun t => t.latchedT.tvTake j)

/-! ## The phases of a run -/

/-- The open run, if it is in phase `p`, its due cycle has come, and its window is open. -/
def State.tvDue (s : State) (p : Nat) : Option TvRun :=
  match s.traverse.run with
  | some r => if r.phase = p ∧ r.due ≤ s.clk.tclk ∧ s.clk.tclk ≤ s.tvWindowDue r then some r else none
  | none => none

/-- TRAVERSE_ASSEMBLY_END (R286): after `dt` TCLK cycles. -/
def execTraverseAssemblyEnd (dt : Nat) (s : State) : Host.Outcome State Fault Refusal :=
  if s.dark then .next s
  else
  let s := s.tickT dt
  match s.tvDue 1 with
  | some r => .next (s.tvAssembled r)
  | none => .next s

/-- TRAVERSE_FACTOR_END (R294, R295, R297): after `dt` TCLK cycles. -/
def execTraverseFactorEnd (dt : Nat) (s : State) : Host.Outcome State Fault Refusal :=
  if s.dark then .next s
  else
  let s := s.tickT dt
  match s.tvDue 2 with
  | none => .next s
  | some r =>
    if !(s.isMpc r) then .next s
    else
      let warm := s.tvWarm r
      let w := (s.tvMpc r).factor
      let s := if !warm && s.flag F.TV_PROB_C_WARM r.prob && spGet 0 s.traverse.prev r.prob != 0 then s.bump F.TV_COUNTS2_COLD else s
      .next (s.setRun ({ r with
        phase := 3
        due := r.due + s.fld F.TV_TIME_ITER r.prob
        warm := warm
        sat := w.sat
        pivots := w.pivots }.withIterate (s.tvStart r warm)))

/-- TRAVERSE_ITERATION_END (R296, Table TV-13): after `dt` TCLK cycles. -/
def execTraverseIterationEnd (dt : Nat) (s : State) : Host.Outcome State Fault Refusal :=
  if s.dark then .next s
  else
  let s := s.tickT dt
  match s.tvDue 3 with
  | none => .next s
  | some r =>
    let k := r.iters + 1
    let test := k % s.fld F.TV_TIME_CHECK r.prob == 0 || k == (s.tvImg r.prob).h.cap
    let g := s.tvMpc r
    let (w, sat) := g.iterate g.factor (s.tvIterate r)
    .next (s.setRun ({ r with
      phase := if test then 4 else 3
      due := r.due + (if test then s.fld F.TV_TIME_TEST r.prob else s.fld F.TV_TIME_ITER r.prob)
      iters := k
      sat := r.sat || sat }.withIterate w))

/-- MISCLOSURE_TEST (R298): after `dt` TCLK cycles. -/
def execMisclosureTest (dt : Nat) (s : State) : Host.Outcome State Fault Refusal :=
  if s.dark then .next s
  else
  let s := s.tickT dt
  match s.tvDue 4 with
  | none => .next s
  | some r =>
    let ((p, d), sat) := (s.tvMpc r).residuals (s.tvIterate r)
    let pass := !(fLt (s.fld F.TV_SOLVE_A_EPS_PRIM r.prob) p) && !(fLt (s.fld F.TV_SOLVE_A_EPS_DUAL r.prob) d) && !r.sat && !sat
    let capped := !pass && decide ((s.tvImg r.prob).h.cap ≤ r.iters)
    .next (s.setRun { r with
      phase := if pass || capped then 5 else 3
      due := r.due + (if pass || capped then (s.tvImg r.prob).h.tOut else s.fld F.TV_TIME_ITER r.prob)
      sat := r.sat || sat
      rPrim := p
      rDual := d
      converged := pass
      capped := capped })

/-- TRAVERSE_OUTPUT_END (R299, R303): after `dt` TCLK cycles the output is written; a converged run publishes. -/
def execTraverseOutputEnd (dt : Nat) (s : State) : Host.Outcome State Fault Refusal :=
  if s.dark then .next s
  else
  let s := s.tickT dt
  match s.tvDue 5 with
  | none => .next s
  | some r => .next (s.tvOutputEnd r)

/-- EST_RUN_END (R301, R302): after `dt` TCLK cycles, at latch + WCET, an EST run has factored, written and published. -/
def execEstRunEnd (dt : Nat) (s : State) : Host.Outcome State Fault Refusal :=
  if s.dark then .next s
  else
  let s := s.tickT dt
  match s.tvDue 2 with
  | none => .next s
  | some r =>
    if s.isMpc r || decide (s.clk.tclk < r.due + (s.tvImg r.prob).h.tOut) then .next s else .next (s.tvEstEnd r)

/-- TRAVERSE_WINDOW_END (R299, R300): after `dt` TCLK cycles, at latch + BUDGET. -/
def execTraverseWindowEnd (dt : Nat) (s : State) : Host.Outcome State Fault Refusal :=
  if s.dark then .next s
  else
  let s := s.tickT dt
  match s.traverse.run with
  | some r => if s.tvWindowDue r ≤ s.clk.tclk then .next s.tvWindowEnd else .next s
  | none => .next s

end Sys2Proof.Machine
end

