-- ==== Sys2Proof/Machine/Guyline.lean ====
section
/-! DEFINITION. Guyline (14): channels, bank images, triggers and input latches, the law, and the gate records. -/

namespace Sys2Proof.Machine

def State.glChan (s : State) (k : Nat) : GlChan := spGet GlChan.reset s.guyline.chans k
def State.setGlChan (s : State) (k : Nat) (c : GlChan) : State :=
  { s with guyline := { s.guyline with chans := spSet GlChan.reset s.guyline.chans k c } }

/-! ## Bank images -/

/-- The header of a bank image (Table GL-2). -/
structure GlHead where
  ns : Nat
  nu : Nat
  ny : Nat
  init : Bool
  exps : List Int
deriving DecidableEq, Repr

/-- The little-endian number in `n` bytes from offset `o` of an image. -/
def imgLe (bs : List Byte) (o n : Nat) : Nat := leNat ((bs.drop o).take n)

def glHead (bs : List Byte) : GlHead :=
  let h := imgLe bs 0 64
  ⟨B.BANK_NS.get h, B.BANK_NU.get h, B.BANK_NY.get h, B.BANK_INIT.get h == 1, (List.range 7).map fun i => asSigned 8 (h >>> (32 + 8 * i))⟩

def GlHead.exp (h : GlHead) (i : Nat) : Int := h.exps.getD i 0
def GlHead.ec (h : GlHead) (i : Nat) : Int := h.exp i
def GlHead.eu (h : GlHead) : Int := h.exp 4
def GlHead.ex (h : GlHead) : Int := h.exp 5
def GlHead.ey (h : GlHead) : Int := h.exp 6

/-- R319: offsets of the sections and the length of the image. -/
def GlHead.coefs (h : GlHead) : Nat := h.ns * h.ns + h.ns * h.nu + h.ny * h.ns + h.ny * h.nu
def GlHead.inputs (_ : GlHead) : Nat := 64
def GlHead.coefAt (h : GlHead) : Nat := 64 + pad64 (16 * h.nu)
def GlHead.stateAt (h : GlHead) : Nat := h.coefAt + pad64 (4 * h.coefs)
def GlHead.outAt (h : GlHead) : Nat := h.stateAt + pad64 (16 * h.ns)
def GlHead.initAt (h : GlHead) : Nat := h.outAt + pad64 (8 * h.ny)
def GlHead.len (h : GlHead) : Nat := h.initAt + pad64 (4 * h.ns) + 64

def GlHead.ok (h : GlHead) : Bool :=
  decide (1 ≤ h.ns) && decide (h.ns ≤ 32) && decide (1 ≤ h.nu) && decide (h.nu ≤ 32) && decide (1 ≤ h.ny) && decide (h.ny ≤ 8)

/-- Coefficient `i` of the dense matrices A, B, C and D, in that order. -/
def glCoef (bs : List Byte) (i : Nat) : Int := asSigned 32 (imgLe bs ((glHead bs).coefAt + 4 * i) 4)
def glInput (bs : List Byte) (j : Nat) : Nat := imgLe bs (64 + 16 * j) 16
def glLo (bs : List Byte) (i : Nat) : Int := asSigned 32 (imgLe bs ((glHead bs).stateAt + 16 * i) 4)
def glHi (bs : List Byte) (i : Nat) : Int := asSigned 32 (imgLe bs ((glHead bs).stateAt + 16 * i + 4) 4)
def glMode (bs : List Byte) (i : Nat) : Nat := imgLe bs ((glHead bs).stateAt + 16 * i + 8) 1 % 4
def glLink (bs : List Byte) (i : Nat) : Nat := imgLe bs ((glHead bs).stateAt + 16 * i + 8) 1 / 4 % 8
def glYLo (bs : List Byte) (i : Nat) : Int := asSigned 32 (imgLe bs ((glHead bs).outAt + 8 * i) 4)
def glYHi (bs : List Byte) (i : Nat) : Int := asSigned 32 (imgLe bs ((glHead bs).outAt + 8 * i + 4) 4)
/-- R319: the initial state. -/
def glInit (bs : List Byte) : List Int :=
  (List.range (glHead bs).ns).map fun i => asSigned 32 (imgLe bs ((glHead bs).initAt + 4 * i) 4)

def in24 (x : Int) : Bool := decide (-8388608 ≤ x) && decide (x ≤ 8388607)

/-- Every byte of a range of an image is zero. -/
def zeros (bs : List Byte) (a n : Nat) : Bool := ((bs.drop a).take n).all fun b => b == 0

/-- R317, check 3: every field and mantissa in range, with R7's reserved bits and the zeros of R319 (entry 15); the padding of a section is no
field and is ignored. -/
def glFieldsOk (bs : List Byte) : Bool :=
  let h := glHead bs
  let raw := imgLe bs 0 64
  let head := raw >>> 88 == 0 && (raw >>> 17) % 2 ^ 15 == 0
  let ins := (List.range h.nu).all fun j =>
    let e := glInput bs j
    let fields := [B.GIN_SRC, B.GIN_INDEX, B.GIN_WORD, B.GIN_FORMAT, B.GIN_FRAC]
    let src := B.GIN_SRC.get e
    (fields.map fun b => b.put (b.get e)).sum == e && decide (src ≤ 4) && (src == 4 || decide (B.GIN_FORMAT.get e ≤ 4)) &&
      (src != 0 || B.GIN_INDEX.get e == 0) && (src != 1 || (decide (B.GIN_INDEX.get e < 48) && decide (B.GIN_WORD.get e < 192))) &&
      (src != 4 || decide (B.GIN_WORD.get e < 8)) && (src != 3 || B.GIN_INDEX.get e == 0)
  let coefs := (List.range h.coefs).all fun i => in24 (glCoef bs i)
  let states := (List.range h.ns).all fun i =>
    decide (glLo bs i ≤ glHi bs i) && decide (glMode bs i ≤ 2) && decide (glLink bs i < h.ny) &&
      imgLe bs (h.stateAt + 16 * i + 8) 8 < 32
  let outs := (List.range h.ny).all fun i => in24 (glYLo bs i) && in24 (glYHi bs i) && decide (glYLo bs i ≤ glYHi bs i)
  head && ins && coefs && states && outs && zeros bs (h.len - 60) 60

/-- R267: the size of the fused-state record. -/
def State.dtRecordSize (s : State) : Nat :=
  640 + 32 * s.fld F.DT_CFG_COMPONENTS + 64 * ((List.range 4).map fun a => s.fld F.DT_ASSOC_A_TRACK_MAX a).sum

/-- R317, check 4: an input source is valid in the committed configuration. -/
def State.glSourceOk (s : State) (e : Nat) : Bool :=
  let n := B.GIN_INDEX.get e
  match B.GIN_SRC.get e with
  | 1 => s.flag F.SN_STREAM_A_EN n && s.fld F.SN_STREAM_B_BUF_UNITS n == 0
  | 2 => s.flag F.TV_PROB_STAT_REGISTERED n && s.flag F.TV_PROB_A_EN n &&
      decide (4 * B.GIN_WORD.get e + 4 ≤ (s.tvHeadOf n).outLen)
  | 3 => s.flag F.DT_CFG_EN && decide (4 * B.GIN_WORD.get e + 4 ≤ s.dtRecordSize)
  | 4 => s.flag F.GL_CH_A_EN n && decide (B.GIN_WORD.get e < s.fld F.GL_CH_A_NY n)
  | _ => true

/-- R316: the dimensions of an image equal the channel's. -/
def State.glDims (s : State) (k : Nat) (h : GlHead) : Bool :=
  h.ns == s.fld F.GL_CH_A_NS k && h.nu == s.fld F.GL_CH_A_NU k && h.ny == s.fld F.GL_CH_A_NY k

/-- R317, check 1: the CRC of an image does not match. -/
def glCrcBad (bs : List Byte) : Bool :=
  let n := bs.length
  decide (n < 64) || leNat ((bs.drop (n - 64)).take 4) != crc32c (bs.take (n - 64))

/-- R317: the first check that an image of channel `k` fails. Before the commit the channel has no dimensions and no source is
committed: S6 makes those two tests (entry 15). -/
def State.glCheck (s : State) (k : Nat) (bs : List Byte) : Option Reply :=
  let h := glHead bs
  let n := bs.length
  if glCrcBad bs then some badImage
  else if !h.ok || h.len != n || (s.committed && !(s.glDims k h)) then some (lenRange 1)
  else if !(glFieldsOk bs) then some (lenRange 2)
  else if s.committed && !((List.range h.nu).all fun j => s.glSourceOk (glInput bs j)) then some (lenRange 3)
  else none

def GlChan.bank (c : GlChan) (b : Nat) : List Byte := if b = 0 then c.bank0 else c.bank1
def GlChan.setBank (c : GlChan) (b : Nat) (bs : List Byte) : GlChan :=
  if b = 0 then { c with
    bank0 := bs
    bad0 := false }
  else { c with
    bank1 := bs
    bad1 := false }
/-- R323: a word of bank `b` reads uncorrectable. -/
def GlChan.badBank (c : GlChan) (b : Nat) : Bool := if b = 0 then c.bad0 else c.bad1

/-- R316–R318: a GL_LOAD that is not held. -/
def State.glLoadRun (s : State) (c : Cmd) : State × Option Reply :=
  let k := c.w 6 % 64
  let bs := s.rdBytes (c.w64 4) c.len
  match s.glCheck k bs with
  | some r => (s, some r)
  | none =>
    let ch := s.glChan k
    let active := s.fld F.GL_CH_STAT_BANK k
    if s.committed then
      let s := s.setGlChan k { ch.setBank (1 - active) bs with
        swap := if c.flag16 then some (c.ring, c.d) else none
        pendAt := s.clk.gclk }
      if c.flag16 then (s.setFld F.GL_CH_STAT_PENDING k 1, none) else (s.extend 9 (digest bs), some Reply.ok)
    else
      let s := s.setGlChan k { ch.setBank active bs with
        x := glInit bs
        badX := [] }
      ((s.setFld F.GL_CH_STAT_LOADED k 1).extend 9 (digest bs), some Reply.ok)

/-- GL_LOAD (R316, R317). -/
def glLoadBody (s : State) (c : Cmd) : State × Option Reply :=
  let k := c.w 6 % 64
  if !(s.exchange c.ctx (c.w64 4) c.len) then
    (s, some (if glCrcBad (s.rdBytes (c.w64 4) c.len) then badImage else denied 4))
  else if (s.glChan k).swap.isSome then
    (s.setGlChan k { s.glChan k with held := (s.glChan k).held ++ [(c.ring, c.d)] }, none)
  else s.glLoadRun c

def execGlLoad (ring : BitVec 14) (d : Desc) (s : State) : Host.Outcome State Fault Refusal :=
  .next (s.command ring d 0x0601 glLoadBody)

/-- R318: the completion of a swap, and the loads that were held for it. -/
def State.glSwapped (s : State) (k : Nat) : State :=
  let ch := s.glChan k
  match ch.swap with
  | none => s
  | some (r, d) =>
    let s := s.setGlChan k { ch with
      swap := none
      held := [] }
    let s := s.extend 9 (digest (ch.bank (s.fld F.GL_CH_STAT_BANK k)))
    let s := s.finish r d (Reply.detailed (ch.samples % 65536))
    ch.held.foldl (fun (s : State) x =>
      let c : Cmd := ⟨x.1, x.2, B.DESC_PART.get x.2.toNat, B.DESC_CONTEXT.get x.2.toNat⟩
      if (s.glChan k).swap.isSome then s.setGlChan k { s.glChan k with held := (s.glChan k).held ++ [x] }
      else match s.glLoadRun c with
        | (s, some r) => s.finish x.1 x.2 r
        | (s, none) => s) s

/-! ## Triggers -/

def flIN_SAT : Nat := 2
def flINPUT_BAD : Nat := 4
def flNO_INPUT : Nat := 8
def flSTALE : Nat := 16
def flOUT_SAT : Nat := 32
def flSTATE_SAT : Nat := 64
def flDRIVE_SAT : Nat := 128

/-- What a channel's latch gathers: inputs, flags, poison, SEQs taken, ages, and the latch record. -/
structure GlLatch where
  u : List Int
  flags : Nat
  poison : Bool
  seqs : List (Nat × Nat)
  ages : List Nat
  log : List Nat
deriving DecidableEq, Repr

/-- What a source holds for an input: never published, a value with its poison mark, or a field that is not there. -/
inductive GlRead where
  | never
  | bad
  | value (v : FVal) (poison : Bool)
deriving DecidableEq, Repr

/-- A field of `fmt` at address `a`, integers on the grid 2^−frac (R314). -/
def State.glField (s : State) (a fmt frac : Nat) : GlRead :=
  let n := fieldBytes fmt
  let v := match fieldValue fmt (s.rdLe a n) with
    | .fin neg m e => .fin neg m (if fmt ≤ 2 then e - frac else e)
    | x => x
  .value v (s.poisonWord a || s.poisonWord (a + n - 1))

/-- R313, R314: what input entry `e` reads. -/
def State.glRead (s : State) (e : Nat) : GlRead :=
  let n := B.GIN_INDEX.get e
  let w := B.GIN_WORD.get e
  let fmt := B.GIN_FORMAT.get e
  let frac := B.GIN_FRAC.get e
  match B.GIN_SRC.get e with
  | 1 => match s.published n with
    | none => .never
    | some a =>
      if B.SHDR_LEN.get (s.rdLe a 64) < w + fieldBytes fmt then .bad else s.glField (a + 64 + w) fmt frac
  | 2 => match s.tvPublished n with | none => .never | some a => s.glField (a + 4 * w) fmt frac
  | 3 => match s.fused with | none => .never | some a => s.glField (a + 4 * w) fmt frac
  | 4 => match (s.glChan n).y with | none => .never | some o => .value (gridVal (o.ys.getD w 0) o.exp) false
  | _ => .value (.fin false 0 0) false

/-- R20, R313: the module as a trigger sees it: in the trigger's own cycle, the records and the outputs before those published or written. -/
def State.glSeen (s : State) : State :=
  let v := s.latchedG
  { v with guyline := { v.guyline with chans := v.guyline.chans.map fun c =>
    if c.2.yAt = s.clk.gclk then (c.1, { c.2 with y := c.2.yOld }) else c } }

/-- R314: input `j` of channel `k`, whose previous value is `old`, on the grid 2^eu. -/
def State.glLatchInput (s : State) (seqs : List (Nat × Nat)) (eu : Int) (x : GlLatch) (e : Nat) (old : Int) : GlLatch :=
  let n := B.GIN_INDEX.get e
  let src := B.GIN_SRC.get e
  let at' : Option Nat := match src with | 1 => s.published n | 2 => s.tvPublished n | 3 => s.fused | _ => none
  let x : GlLatch := match src, at' with
    | 1, some a =>
      let q := B.SHDR_SEQ.get (s.rdLe a 64)
      { x with
        flags := if spGet 0 seqs n = q + 1 then x.flags ||| flSTALE else x.flags
        seqs := spSet 0 x.seqs n (q + 1)
        log := x.log ++ [n, q] }
    | 2, some a => { x with
        ages := x.ages ++ [s.ageOf (s.rdLe a 6)]
        log := x.log ++ [n, B.TVO_STEP.get (s.rdLe a 256), s.rdLe a 6] }
    | 3, some a => { x with
        ages := x.ages ++ [s.ageOf (s.rdLe a 6)]
        log := x.log ++ [s.rdLe a 6] }
    | 4, _ => match (s.glChan n).y with
      | some o => { x with log := x.log ++ [n, o.sample] }
      | none => x
    | _, _ => x
  match s.glRead e with
  | .never => { x with
      u := x.u ++ [0]
      flags := x.flags ||| flNO_INPUT }
  | .bad => { x with
      u := x.u ++ [old]
      flags := x.flags ||| flINPUT_BAD }
  | .value v p =>
    if p then { x with
      u := x.u ++ [old]
      flags := x.flags ||| flINPUT_BAD
      poison := true }
    else if v.isNan || v.isInf then { x with
      u := x.u ++ [old]
      flags := x.flags ||| flINPUT_BAD }
    else
      let (m, sat) := satTo 24 (toGrid v eu)
      { x with
        u := x.u ++ [m]
        flags := if sat then x.flags ||| flIN_SAT else x.flags }

/-- R318: the exchange of banks at a trigger: the channel after it, and whether rounding the state saturated. -/
def GlChan.swapIn (c : GlChan) (old new : Nat) : GlChan × Bool :=
  let a := c.bank old
  let b := c.bank new
  let ha := glHead a
  let hb := glHead b
  -- R314: the previous sample's value of an unchanged entry, on the new input grid.
  let keep := (List.range hb.nu).map fun j =>
    if glInput a j = glInput b j then (satTo 24 (toGrid (gridVal (c.u.getD j 0) ha.eu) hb.eu)).1 else 0
  -- R323: a word that reads uncorrectable is 0.
  let r := c.x.zipIdx.map fun x => satTo 32 (toGrid (gridVal (if c.badX.contains x.2 then 0 else x.1) (ha.ex - 8)) (hb.ex - 8))
  if hb.init then ({ c with
    x := glInit b
    badX := []
    u := keep }, false)
  else if ha.ex = hb.ex then ({ c with u := keep }, false)
  else ({ c with
    x := r.map fun y => y.1
    u := keep }, r.any fun y => y.2)

/-- R318: channel `k` exchanges its banks if a swap is pending and became so in an earlier cycle of GCLK. -/
def State.glSwap (s : State) (k : Nat) : State × Bool × Bool :=
  if s.flag F.GL_CH_STAT_PENDING k && decide ((s.glChan k).pendAt < s.clk.gclk) then
    let old := s.fld F.GL_CH_STAT_BANK k
    let (c, sat) := (s.glChan k).swapIn old (1 - old)
    let s := ((s.setGlChan k c).setFld F.GL_CH_STAT_BANK k (1 - old)).setFld F.GL_CH_STAT_PENDING k 0
    let s := (s.setFlag F.GL_CH_STAT_LOADED k).record 0x13 8 (words [3, k, c.samples]) 5
    (s, true, sat)
  else (s, false, false)

/-- R307, R313, R314: the trigger of channel `k`, which reads its sources as `v` has them; the answer is its part of the latch record. -/
def State.glTrigger (s v : State) (k : Nat) : State × List Nat :=
  let (s, swapped, sat) := s.glSwap k
  let ch := s.glChan k
  let b := s.fld F.GL_CH_STAT_BANK k
  let bs := ch.bank b
  let h := glHead bs
  let x0 : GlLatch := ⟨[], bit s.unsynced ||| (if sat then flSTATE_SAT else 0), false, [], [], []⟩
  let x := (List.range h.nu).foldl (fun x j => v.glLatchInput ch.seqs h.eu x (glInput bs j) (ch.u.getD j 0)) x0
  let smp : GlSample :=
    { trig := s.clk.gclk
      frame := s.frameNum
      unsynced := s.unsynced
      u := x.u
      flags := x.flags
      swapped := swapped
      bank := b
      ageRef := if x.ages.isEmpty then 255 else x.ages.foldl max 0
      poison := x.poison
      y := none }
  let s := s.setGlChan k { ch with
    u := x.u
    seqs := x.seqs
    cur := some smp }
  let s := if swapped then s.glSwapped k else s
  -- The sample counts from its trigger on (Table GL-4 SAMPLE).
  let n := (s.glChan k).samples + 1
  ((s.setGlChan k { s.glChan k with samples := n }).setFld F.GL_CH_STAT_SAMPLE k n, k :: x.log)

/-- The GCLK cycle of the next trigger of channel `k` (R306). -/
def State.glDue (s : State) (k : Nat) : Option Nat :=
  match s.guyline.origin with
  | some t =>
    let i := (s.glChan k).fired
    if s.flag F.GL_CFG_EN && s.flag F.GL_CH_A_EN k && decide (i < s.fld F.GL_CH_B_SAMPLES k)
    then some (t + s.fld F.GL_CH_A_PHASE0 k + i * s.fld F.GL_CH_B_PERIOD k) else none
  | none => none

/-- GUYLINE_FRAME_START (R308): after `dt` GCLK cycles a frame start reaches GCLK; triggers not yet due are abandoned. In replay the
recorded latches stand in place of the triggers (R315). -/
def execGuylineFrameStart (dt : Nat) (s : State) : Host.Outcome State Fault Refusal :=
  if s.dark then .next s
  else
  let s := s.tickG dt
  if s.flag F.FB_STATUS_REPLAYING then .next s
  else
  let s := (List.range 64).foldl (fun (s : State) k =>
    let c := s.glChan k
    let left := s.fld F.GL_CH_B_SAMPLES k - c.fired
    let s := if (s.glDue k).isSome then s.bump F.GL_CH_CNT_MISSED k left else s
    s.setGlChan k { c with fired := 0 }) s
  .next { s with guyline := { s.guyline with origin := some s.clk.gclk } }

/-- R306, R315: channels trigger together on the sources of `v`, and Guyline hands Field Book its latch record. -/
def State.glTriggers (s v : State) (ks : List Nat) : State :=
  let (s, logs) := ks.foldl (fun (acc : State × List Nat) k => let (s, l) := acc.1.glTrigger v k; (s, acc.2 ++ l)) (s, [])
  s.record 0x10 8 (words (8 :: s.frameNum :: (ks.foldl (fun m k => putBit m k true) 0) :: logs)) 5

/-- CHANNEL_TRIGGER (R306–R308, R315): after `dt` GCLK cycles the channels of `mask` whose trigger is due trigger together. -/
def execChannelTrigger (mask : BitVec 64) (dt : Nat) (s : State) : Host.Outcome State Fault Refusal :=
  if s.dark then .next s
  else
  let s := s.tickG dt
  let due := (bitsOf 64 mask.toNat).filter fun k => match s.glDue k with | some t => decide (t ≤ s.clk.gclk) | none => false
  let due := if s.flag F.FB_STATUS_REPLAYING then [] else due
  let s := due.foldl (fun (s : State) k => s.setGlChan k { s.glChan k with fired := (s.glChan k).fired + 1 }) s
  let busy := due.filter fun k => (s.glChan k).cur.isSome
  let free := due.filter fun k => (s.glChan k).cur.isNone
  let s := busy.foldl (fun (s : State) k => (s.bump F.GL_CH_CNT_SKIPPED k).raise 0x14 k) s
  .next (if free.isEmpty then s else s.glTriggers s.glSeen free)

/-! ## The law -/

/-- A sum of products of mantissas, as (exact sum, exponent) terms with the exponents of Table GL-1. -/
def glSum (terms : List (Int × Int)) : FVal :=
  let (m, e) := dyadicSum terms
  gridVal m e

/-- R309–R312: outputs, next state and flags of one sample. -/
def glLaw (bs : List Byte) (x u : List Int) : List Int × List Int × Nat :=
  let h := glHead bs
  let row (base n : Nat) (ec ev : Int) (v : List Int) (i : Nat) : List (Int × Int) :=
    (List.range n).map fun j => (glCoef bs (base + i * n + j) * v.getD j 0, ec + ev)
  let bA := 0
  let bB := h.ns * h.ns
  let bC := bB + h.ns * h.nu
  let bD := bC + h.ny * h.ns
  let gx := h.ex - 8
  let ys := (List.range h.ny).map fun i =>
    satTo 24 (toGrid (glSum (row bC h.ns (h.ec 2) gx x i ++ row bD h.nu (h.ec 3) h.eu u i)) h.ey)
  let lim : List (Int × Bool × Nat) := (ys.zipIdx).map fun (y : (Int × Bool) × Nat) =>
    let (v, i) := y
    if v.1 < glYLo bs i then (glYLo bs i, true, 1) else if glYHi bs i < v.1 then (glYHi bs i, true, 2) else (v.1, v.2, 0)
  let xs := (List.range h.ns).map fun i =>
    satTo 32 (toGrid (glSum (row bA h.ns (h.ec 0) gx x i ++ row bB h.nu (h.ec 1) h.eu u i)) gx)
  let nx := (xs.zipIdx).map fun y =>
    let (v, i) := y
    let old := x.getD i 0
    let lo := glLo bs i
    let hi := glHi bs i
    let c := if v.1 < lo then lo else if hi < v.1 then hi else v.1
    let side := (lim.getD (glLink bs i) (0, false, 0)).2.2
    match glMode bs i with
    | 0 => v.1
    | 1 => c
    | _ => if (side = 2 ∧ old < c) ∨ (side = 1 ∧ c < old) then old else c
  let out := lim.any fun y => y.2.1
  let st := xs.any fun y => y.2
  (lim.map fun y => y.1, nx, (if out then flOUT_SAT else 0) ||| (if st then flSTATE_SAT else 0))

/-- The result of channel `k`'s sample (R307). State words that read uncorrectable are 0, and poison the record with an event (R323). -/
def State.glResult (s : State) (k : Nat) : State :=
  let c := s.glChan k
  match c.cur with
  | some q =>
    if q.y.isNone && decide (q.trig + 2000 ≤ s.clk.gclk) then
      let x := c.x.zipIdx.map fun v => if c.badX.contains v.2 then 0 else v.1
      let (y, x, f) := glLaw (c.bank q.bank) x q.u
      let s := s.setGlChan k { c with
        x := x
        badX := []
        cur := some { q with
          y := some y
          poison := q.poison || !c.badX.isEmpty
          flags := q.flags ||| f } }
      if c.badX.isEmpty then s else s.raise 0x17 k
    else s
  | none => s

/-- GUYLINE_RESULT_READY (R307): after `dt` GCLK cycles, 2,000 after their triggers. -/
def execGuylineResultReady (mask : BitVec 64) (dt : Nat) (s : State) : Host.Outcome State Fault Refusal :=
  if s.dark then .next s else .next ((bitsOf 64 mask.toNat).foldl (fun s k => s.glResult k) (s.tickG dt))

/-! ## The output path -/

/-- R321: an output in the drive format, and whether it saturated. -/
def glDrive (fmt frac : Nat) (y ey : Int) : List Byte × Bool :=
  match fmt with
  | 2 => (leBytes 4 (fOfScaled y ey), false)
  | f =>
    let w := if f = 0 then 16 else 32
    let (m, sat) := satTo w (toGrid (gridVal y ey) (-(frac : Int)))
    (leBytes (w / 8) (ofSigned w m), sat)

/-- R320, R323: the gate record of channel `k`'s sample `q` with outputs `y`, and DRIVE_SAT. -/
def State.glRecord (s : State) (k : Nat) (q : GlSample) (y : List Int) : Nat × Bool :=
  let c := s.glChan k
  let ey := (glHead (c.bank q.bank)).ey
  let ds := y.map fun v => glDrive (s.fld F.GL_CH_C_DFMT k) (s.fld F.GL_CH_C_DFRAC k) v ey
  let sat := ds.any fun d => d.2
  let flags := q.flags ||| (if sat then flDRIVE_SAT else 0)
  let status := if q.poison || c.badBank q.bank then 0xF else if q.unsynced then 0x12 else 0
  (B.GREC_CHANNEL.put k + B.GREC_DOMAIN.put 5 + B.GREC_STATUS.put status + B.GREC_FLAGS.put flags + B.GREC_SWAPPED.put (bit q.swapped) +
    B.GREC_BANK.put q.bank + B.GREC_AGE_REF.put q.ageRef + B.GREC_SAMPLE.put c.samples + B.GREC_FRAME.put q.frame +
    B.GREC_STAMP.put s.clk.gclk + B.GREC_PAYLOAD.put (leNat (ds.flatMap fun d => d.1)), sat)

/-- R320: channel `k` writes its output at its output phase. -/
def State.glOutput (s : State) (k : Nat) : State :=
  let c := s.glChan k
  match c.cur with
  | some q =>
    match q.y with
    | some y =>
      if q.trig + s.fld F.GL_CH_B_OUT_PHASE k ≤ s.clk.gclk then
        let (r, sat) := s.glRecord k q y
        let flags := B.GREC_FLAGS.get r
        let s := s.setGlChan k { c with
          y := some ⟨y, (glHead (c.bank q.bank)).ey, c.samples⟩
          yOld := c.y
          yAt := s.clk.gclk
          cur := none }
        let s := if flags &&& (flOUT_SAT ||| flSTATE_SAT) != 0 || sat then s.bump F.GL_CH_CNT_SAT k else s
        let s := if flags &&& flSTALE != 0 then s.bump F.GL_CH_CNT_STALE k else s
        if s.guyline.gate.length < 128 then
          { s with guyline := { s.guyline with gate := s.guyline.gate ++ [BitVec.ofNat 512 r] } }
        else (s.bump F.GL_CH_CNT_GATE_DROP k).raise 0x15 k
      else s
    | none => s
  | none => s

/-- GUYLINE_OUTPUT_WRITE (R307, R320): after `dt` GCLK cycles the channels of `mask` at their output phase write their records, in
ascending order. -/
def execGuylineOutputWrite (mask : BitVec 64) (dt : Nat) (s : State) : Host.Outcome State Fault Refusal :=
  if s.dark then .next s else .next ((bitsOf 64 mask.toNat).foldl (fun s k => s.glOutput k) (s.tickG dt))

end Sys2Proof.Machine
end

