-- ==== Sys2Proof/Machine/Stadia.lean ====
section
/-! DEFINITION. Stadia (15): the robot model, the brick directory and its updates, candidate checks, the output gate, the hold, and
the two records. -/

namespace Sys2Proof.Machine

/-! ## The robot model -/

structure StHead where
  links : Nat
  spheres : Nat
  dof : Nat
deriving DecidableEq, Repr

/-- R332: the header of a model image. -/
def stHead (bs : List Byte) : StHead :=
  let h := imgLe bs 0 64
  ⟨h % 128, h / 2 ^ 8 % 1024, h / 2 ^ 24 % 128⟩

def StHead.len (h : StHead) : Nat := 128 + 96 * h.links + 32 * h.spheres

/-- R332: the header's limits, its reserved bits zero. -/
def stHeadOk (bs : List Byte) : Bool :=
  let raw := imgLe bs 0 64
  let h := stHead bs
  raw == h.links + h.spheres * 2 ^ 8 + h.dof * 2 ^ 24 && decide (1 ≤ h.links) && decide (h.links ≤ 64) && decide (1 ≤ h.spheres) &&
    decide (h.spheres ≤ 512) && decide (h.dof ≤ 64)

def stLink (bs : List Byte) (l : Nat) : Nat := imgLe bs (64 + 96 * l) 96
def stSphere (bs : List Byte) (k : Nat) : Nat := imgLe bs (64 + 96 * (stHead bs).links + 32 * k) 32

/-- The binary32 words of a field. -/
def words32 (n v : Nat) : List Nat := (List.range n).map fun i => (v >>> (32 * i)) % 2 ^ 32

/-- A sum of binary32 values in index order (R338). -/
def fSum : List Nat → Nat
  | [] => 0
  | x :: xs => xs.foldl fAdd x

/-- A scalar product in index order, no fused operation (R338). -/
def fDot (xs ys : List Nat) : Nat := fSum ((xs.zip ys).map fun p => fMul p.1 p.2)

/-- 1 − 2⁻¹⁰ ≤ norm ≤ 1 + 2⁻¹⁰, exactly, for three values in units of 2⁻¹⁴⁹. -/
def unitAxis (v : List Nat) : Bool :=
  let q := (v.map fun x => f32units x ^ 2).sum
  decide (((2 ^ 10 - 1) * 2 ^ 139) ^ 2 ≤ q) && decide (q ≤ ((2 ^ 10 + 1) * 2 ^ 139) ^ 2)

/-- R332, check 3, of link `l`. The check names no reserved field, so these are ignored (R7). -/
def stLinkOk (bs : List Byte) (l : Nat) : Bool :=
  let e := stLink bs l
  let t := B.LINK_TYPE.get e
  let parent := B.LINK_PARENT.get e
  let axis := words32 3 (B.LINK_AXIS.get e)
  let vals := words32 9 (B.LINK_RF.get e) ++ words32 3 (B.LINK_PF.get e) ++ axis ++ [B.LINK_LO.get e, B.LINK_HI.get e]
  (parent == 0xFF || decide (parent < l)) && decide (t ≤ 2) && (t == 0 || decide (B.LINK_JOINT.get e < (stHead bs).dof)) &&
    vals.all fFinite && (t == 0 || unitAxis axis) && !(fLt (B.LINK_HI.get e) (B.LINK_LO.get e))

/-- R332, check 3, of sphere `k`. -/
def stSphereOk (bs : List Byte) (k : Nat) : Bool :=
  let e := stSphere bs k
  let vals := words32 4 (e >>> 32)
  decide (e % 256 < (stHead bs).links) && vals.all fFinite && fLt 0 (vals.getD 3 0)

/-- R332, check 1: the CRC of an image does not match. -/
def stCrcBad (bs : List Byte) : Bool :=
  let n := bs.length
  decide (n < 64) || leNat ((bs.drop (n - 64)).take 4) != crc32c (bs.take (n - 64))

/-- R332: the first check that a model image fails. -/
def stCheck (bs : List Byte) : Option Reply :=
  let n := bs.length
  let h := stHead bs
  if stCrcBad bs then some badImage
  else if !(stHeadOk bs) || h.len != n then some (lenRange 1)
  else if !((List.range h.links).all (stLinkOk bs)) || !((List.range h.spheres).all (stSphereOk bs)) then some (lenRange 2)
  else none

/-- ST_MODEL (R331, R332). -/
def stModelBody (s : State) (c : Cmd) : State × Option Reply :=
  let bs := s.rdBytes (c.w64 4) c.len
  if stCrcBad bs then (s, some badImage)
  else if !s.loading then (s, some (denied 1))
  else if !(s.exchange c.ctx (c.w64 4) c.len) then (s, some (denied 4))
  else
    match stCheck bs with
    | some r => (s, some r)
    | none =>
      if s.stadia.model.isSome then (s, some (conflict 0))
      else
        let h := stHead bs
        let s := { s with stadia := { s.stadia with model := some bs } }
        let s := ((s.setFld F.ST_STATUS_SPHERES 0 h.spheres).setFld F.ST_STATUS_LINKS 0 h.links).setFld F.ST_STATUS_DOF 0 h.dof
        (s.extend 0xA (digest bs), some Reply.ok)

def execStModel (ring : BitVec 14) (d : Desc) (s : State) : Host.Outcome State Fault Refusal :=
  .next (s.command ring d 0x0701 stModelBody)

def State.model (s : State) : List Byte := s.stadia.model.getD []
def State.stDof (s : State) : Nat := (stHead s.model).dof
/-- R333: words of a waypoint. -/
def State.stWords (s : State) : Nat := 8 + s.stDof
/-- R340: the cost of a waypoint. -/
def State.stP (s : State) : Nat := max (stHead s.model).links (((stHead s.model).spheres + 3) / 4)

/-! ## The directory -/

/-- R327: the bucket of a key, three 16-bit patterns. -/
def stBucket (key : Nat) : Nat :=
  ((key % 2 ^ 16 * 40503) ^^^ (key / 2 ^ 16 % 2 ^ 16 * 34283) ^^^ (key / 2 ^ 32 % 2 ^ 16 * 49843)) % 2 ^ 14

def State.stWay (s : State) (i : Nat) : Nat := spGet 0 s.stadia.dir i
/-- The way that holds a key. -/
def State.stFind (s : State) (key : Nat) : Option Nat :=
  (List.range 4).findSome? fun w =>
    let i := 4 * stBucket key + w
    let v := s.stWay i
    if v ≠ 0 ∧ (v - 1) / 65536 = key then some i else none
/-- The slot of a key. -/
def State.stSlot (s : State) (key : Nat) : Option Nat := (s.stFind key).map fun i => (s.stWay i - 1) % 65536
/-- R327: a slot is live while the directory names it. -/
def State.stLive (s : State) (slot : Nat) : Bool := s.stadia.dir.any fun e => (e.2 - 1) % 65536 == slot
def State.setDir (s : State) (i v : Nat) : State := { s with stadia := { s.stadia with dir := spSet 0 s.stadia.dir i v } }

/-- R329: one update entry. -/
def State.stEntry (s : State) (e : Nat) : State :=
  let key := e % 2 ^ 48
  let slot := B.UPD_SLOT.get e
  if B.UPD_OP.get e = 0 then
    if s.stLive slot then s.bump F.ST_COUNTS_UPD_BAD
    else match s.stFind key with
      | some i => s.setDir i (key * 65536 + slot + 1)
      | none =>
        match (List.range 4).find? fun w => s.stWay (4 * stBucket key + w) == 0 with
        | some w => s.setDir (4 * stBucket key + w) (key * 65536 + slot + 1)
        | none => s.bump F.ST_COUNTS_UPD_FULL
  else match s.stFind key with
    | some i => s.setDir i 0
    | none => s.bump F.ST_COUNTS_UPD_BAD

/-- The published update buffer. -/
def State.stUpdAt (s : State) : Nat := auxBase + 0x28_0000 + (s.stadia.upd - 1) * 81920
def State.stUpdCount (s : State) : Nat := s.rdLe s.stUpdAt 64 / 2 ^ 64 % 2 ^ 13
/-- R329: the cost of an application. -/
def State.stUpdCost (s : State) : Nat := 32 + 2 * s.stUpdCount

/-- R329: the record is whole: no reserved field, COUNT at most 4,096. -/
def State.stUpdOk (s : State) : Bool :=
  let h := s.rdLe s.stUpdAt 64
  let n := s.stUpdCount
  h >>> 77 == 0 && decide (n ≤ 4096) && (List.range n).all fun k =>
    let e := s.rdLe (s.stUpdAt + 64 + 16 * k) 16
    (e >>> 49) % 2 ^ 15 == 0 && e >>> 79 == 0

/-- The flip of the update buffers (R328). -/
def State.stUpdFlip (s : State) (t : Nat) : State :=
  { s with stadia := { s.stadia with
    upd := if s.stadia.upd = 1 then 2 else 1
    updWaits := true
    updAt := t } }

/-- R330: UPD_BIT is published. A flip while the front record is not applied is deferred. -/
def State.stUpdPublish (s : State) : State :=
  if s.stadia.updWaits then
    { s with stadia := { s.stadia with updDefer := s.stadia.updDefer + 1 } }.bump F.ST_COUNTS_UPD_DEFER
  else s.stUpdFlip s.clk.fclk

/-- R328–R330: the application of the published record, which ends in cycle `t`. -/
def State.stApply (s : State) (t : Nat) : State :=
  let n := s.stUpdCount
  let seq := s.rdLe s.stUpdAt 8
  let s := if s.stUpdOk then
      let es := (List.range n).map fun k => s.rdLe (s.stUpdAt + 64 + 16 * k) 16
      let s := es.foldl (fun s e => s.stEntry e) s
      if n = 0 then s else s.count F.ST_EPOCH_EPOCH
    else s.bump F.ST_COUNTS_UPD_BAD
  let s := s.setFld F.ST_LAST_LIVE 0 (min 65535 s.stadia.dir.length)
  let s := s.record 0x13 9 (words [4, seq, s.fld F.ST_EPOCH_EPOCH, s.stadia.checked + s.stadia.rechecked]) 2
  let s : State := { s with stadia := { s.stadia with
    updWaits := false
    freeAt := t } }
  if s.stadia.updDefer = 0 then s
  else { s with stadia := { s.stadia with updDefer := s.stadia.updDefer - 1 } }.stUpdFlip t

/-! ## Proposals -/

/-- R334: the front proposal buffer in DDR4. -/
def State.stPropAt (s : State) : Nat :=
  (s.fld F.ST_PROP_BASE + (if s.stadia.prop = 1 then 0 else s.fld F.ST_PROP_SIZE)) * 65536

/-- R335: an address of the proposal view. -/
def isProposal (a : Nat) : Bool := decide (0x0120_0000_0000 ≤ a) && decide (a < 0x0140_0000_0000)

/-- R335: a MOVE through the proposal view is queued or running. -/
def State.stProposalBusy (s : State) : Bool :=
  (List.range 16).any fun c => (s.queue c).any fun t => isProposal t.src && !t.seg

def State.stPropFlip (s : State) : State := { s with stadia := { s.stadia with prop := if s.stadia.prop = 1 then 2 else 1 } }

/-- R335: PROP_BIT is published. -/
def State.stPropPublish (s : State) : State :=
  if s.stProposalBusy then
    { s with stadia := { s.stadia with propDefer := s.stadia.propDefer + 1 } }.bump F.ST_COUNTS_FLIP_DEFER
  else s.stPropFlip

/-- PROPOSAL_FLIP (R335): after `dt` ACLK cycles deferred flips take effect once no MOVE through the view remains. -/
def execProposalFlip (dt : Nat) (s : State) : Host.Outcome State Fault Refusal :=
  if s.dark then .next s
  else
  let s := s.tickA dt
  if s.stProposalBusy then .next s
  else
    let n := s.stadia.propDefer
    let s := (List.range n).foldl (fun (s : State) _ => s.stPropFlip) s
    .next { s with stadia := { s.stadia with propDefer := 0 } }

/-- What a write of the auxiliary store and the brick store meets (Table ST-1, R327, R336). -/
inductive StWrite where
  | allowed
  | violation
  | staged
deriving DecidableEq, Repr

/-- R325, R327, R336: a write to address `a` of Stadia's stores. -/
def State.stWriteAt (s : State) (a : Nat) : StWrite :=
  if brickBase ≤ a ∧ a < brickBase + brickSize then (if s.stLive ((a - brickBase) / 1024) then .violation else .allowed)
  else
    let o := a - auxBase
    if o < 0x28_0000 then (if 2 ≤ s.stadia.stage then .staged else .allowed)
    else if o < 0x2A_8000 then .allowed else .violation

/-- R336: a write to the closed staging area is dropped. -/
def State.stStageWrite (s : State) : State := (s.setFlag F.ST_STATUS_STAGE_WRITE).raise 0x18 0

/-! ## Checks -/

/-- A pose: a rotation of nine words, row-major, and a position of three. -/
structure Pose where
  rot : List Nat
  pos : List Nat
deriving DecidableEq, Repr

def Pose.row (p : Pose) (i : Nat) : List Nat := (p.rot.drop (3 * i)).take 3
/-- rot · v + pos (R338). -/
def Pose.apply (p : Pose) (v : List Nat) : List Nat := (List.range 3).map fun i => fAdd (fDot (p.row i) v) (p.pos.getD i 0)
def Pose.comp (p q : Pose) : Pose :=
  ⟨(List.range 9).map fun k => fDot (p.row (k / 3)) ((List.range 3).map fun j => q.rot.getD (3 * j + k % 3) 0), p.apply q.pos⟩

/-- The rotation of a quaternion: the spec names the words, not the operations in their order (entry 16). -/
def quatRot (q : List Nat) : List Nat := (List.range 9).map fun i => Config.freeFn 41 (i :: q) % 2 ^ 32
/-- R338: the Rodrigues rotation by a joint value; its sine and cosine are fixed functions within 2⁻²³ (entry 16). -/
def rodrigues (axis : List Nat) (x : Nat) : List Nat := (List.range 9).map fun i => Config.freeFn 42 (i :: x :: axis) % 2 ^ 32

/-- A waypoint: its words, each with its poison mark. -/
abbrev Waypoint := List (Nat × Bool)

def wpWord (w : Waypoint) (j : Nat) : Nat := (w.getD j (0, false)).1

/-- R338: the base pose, from words 1 to 7. -/
def basePose (w : Waypoint) : Pose :=
  ⟨quatRot ((List.range 4).map fun j => wpWord w (4 + j)), (List.range 3).map fun j => wpWord w (1 + j)⟩

/-- The pose of link `l` from the poses of the links below it. -/
def linkPose (bs : List Byte) (w : Waypoint) (poses : List Pose) (l : Nat) : Pose :=
  let e := stLink bs l
  let parent := if B.LINK_PARENT.get e = 0xFF then basePose w else poses.getD (B.LINK_PARENT.get e) (basePose w)
  let fixed := parent.comp ⟨words32 9 (B.LINK_RF.get e), words32 3 (B.LINK_PF.get e)⟩
  let axis := words32 3 (B.LINK_AXIS.get e)
  let x := wpWord w (8 + B.LINK_JOINT.get e)
  match B.LINK_TYPE.get e with
  | 1 => fixed.comp ⟨rodrigues axis x, [0, 0, 0]⟩
  | 2 => fixed.comp ⟨[0x3F800000, 0, 0, 0, 0x3F800000, 0, 0, 0, 0x3F800000], axis.map fun a => fMul x a⟩
  | _ => fixed

def poses (bs : List Byte) (w : Waypoint) : List Pose :=
  (List.range (stHead bs).links).foldl (fun ps l => ps ++ [linkPose bs w ps l]) []

/-- The centres of all spheres at a waypoint. -/
def centres (bs : List Byte) (w : Waypoint) : List (List Nat) :=
  let ps := poses bs w
  (List.range (stHead bs).spheres).map fun k =>
    let e := stSphere bs k
    (ps.getD (e % 256) (basePose w)).apply (words32 3 (e >>> 32))

/-- The distance of two points. -/
def distance (a b : List Nat) : Nat :=
  let d := (a.zip b).map fun p => fSub p.1 p.2
  fSqrt (fDot d d)

/-- The integer part below a finite binary32. -/
def fFloor (x : Nat) : Int := match f32 x with | .fin n m e => (roundToInt .floor n m e).1 | _ => 0

/-- What a voxel query finds. -/
inductive Voxel where
  | value (v : Int)
  | unknown
  | poisoned
deriving DecidableEq, Repr

/-- R326, R339: the voxel of a point. -/
def State.voxel (s : State) (c : List Nat) : Voxel :=
  let vox := s.fld F.ST_GEOM_VOX
  let q := c.map fun x => fDiv x vox
  let i := q.map fFloor
  if q.any (fun x => !(fFinite x)) || i.any (fun x => decide (x < -262144) || decide (262143 < x)) then .unknown
  else
    let key := (i.zipIdx.map fun x => ofSigned 16 (x.1 / 8) * 2 ^ (16 * x.2)).sum
    let idx := (i.zipIdx.map fun x => (x.1 % 8).toNat * 8 ^ x.2).sum
    match s.stSlot key with
    | none => .unknown
    | some slot =>
      let a := brickBase + slot * 1024 + 2 * idx
      if s.poisonWord a then .poisoned
      else
        let v := s.rdLe a 2
        if v = 0x8000 then .unknown else .value (asSigned 16 v)

def fInf : Nat := 0x7F800000
def fNegInf : Nat := 0xFF800000
def fAbs (x : Nat) : Nat := x % 2 ^ 31

/-- R338: the test of sphere `k` with centre `c` and step `st`; the cause and the difference of the two sides, where it fails. -/
def State.sphereTest (s : State) (bs : List Byte) (k : Nat) (c : List Nat) (st : Nat) : Option (Nat × Nat) :=
  let stepMax := s.fld F.ST_STEP_STEP_MAX
  let vox := s.fld F.ST_GEOM_VOX
  if fLt stepMax st then some (2, fSub st stepMax)
  else
    let free := s.flag F.ST_CFG_UNKNOWN
    let (d, cause) := match s.voxel c with
      | .value v => (fDiv (fMul (fOfInt v) vox) 0x43800000, 1)
      | .unknown => (if free then fInf else fNegInf, 1)
      | .poisoned => (if free then fInf else fNegInf, 5)
    let left := fSub d (fMul vox 0x3F5DB3D7)
    let right := fAdd (fAdd (words32 4 (stSphere bs k >>> 32) |>.getD 3 0) (s.fld F.ST_GEOM_MARGIN)) (fDiv st 0x40000000)
    if fLt left right then some (cause, fSub left right) else none

/-- Where a waypoint fails: sphere, cause, clearance. No rule states CLEARANCE for BAD and LIMIT: an open value (entry 16). -/
def State.waypointFail (s : State) (bs : List Byte) (wps : List Waypoint) (k : Nat) : Option (Nat × Nat × Nat) :=
  let w := wps.getD k []
  let open' (cause : Nat) : Nat := Config.freeFn 43 (cause :: k :: w.map fun x => x.1) % 2 ^ 32
  let q := (List.range 4).map fun j => wpWord w (4 + j)
  let limits := (List.range (stHead bs).links).any fun l =>
    let e := stLink bs l
    let x := wpWord w (8 + B.LINK_JOINT.get e)
    B.LINK_TYPE.get e != 0 && (fLt x (B.LINK_LO.get e) || fLt (B.LINK_HI.get e) x)
  if w.any fun x => x.2 then some (0, 5, open' 5)
  else if w.any (fun x => !(fFinite x.1)) then some (0, 4, open' 4)
  else if 0 < k ∧ fLt (wpWord w 0) (wpWord (wps.getD (k - 1) []) 0) then some (0, 4, open' 4)
  else if fLt 0x3A800000 (fAbs (fSub (fDot q q) 0x3F800000)) then some (0, 4, open' 4)
  else if limits then some (0, 3, open' 3)
  else
    let here := centres bs w
    let prev := if 0 < k then some (centres bs (wps.getD (k - 1) [])) else none
    let succ := if k + 1 < wps.length then some (centres bs (wps.getD (k + 1) [])) else none
    (List.range (stHead bs).spheres).findSome? fun i =>
      let c := here.getD i []
      let a := match prev with | some p => distance c (p.getD i []) | none => 0
      let b := match succ with | some p => distance (p.getD i []) c | none => 0
      (s.sphereTest bs i c (if fLt a b then b else a)).map fun f => (i, f.1, f.2)

/-- R338: the check of a trajectory against the field as it stands. -/
def State.checkTraj (s : State) (wps : List Waypoint) : Verdict :=
  let bs := s.model
  match (List.range wps.length).findSome? fun k => (s.waypointFail bs wps k).map fun f => (k, f) with
  | some (k, i, cause, clear) => ⟨false, s.fld F.ST_EPOCH_EPOCH, k, i, cause, clear⟩
  | none => ⟨true, s.fld F.ST_EPOCH_EPOCH, 0, 0, 0, 0⟩

/-- R340: the cost of a check. -/
def State.checkCost (s : State) (v : Verdict) (n : Nat) : Nat := 32 + (if v.pass then n else v.wp + 1) * s.stP
def State.fullCost (s : State) : Nat := 32 + s.stadia.wp * s.stP

/-! ## The staged set -/

def State.stBlock (s : State) (i : Nat) : Nat := auxBase + 64 + i * (64 + pad64 (4 * s.stadia.wp * s.stWords))
def State.stScore (s : State) (i : Nat) : Nat := s.rdLe (s.stBlock i) 4
/-- R333: the waypoints of candidate `i`. -/
def State.stCandidate (s : State) (i : Nat) : List Waypoint :=
  (List.range s.stadia.wp).map fun k => (List.range s.stWords).map fun j =>
    let a := s.stBlock i + 64 + 4 * (k * s.stWords + j)
    (s.rdLe a 4, s.poisonWord a)

/-- Descending SCORE, the lower index first on a tie. -/
def State.stInsert (s : State) (i : Nat) : List Nat → List Nat
  | [] => [i]
  | x :: xs => if fLt (s.stScore x) (s.stScore i) then i :: x :: xs else x :: s.stInsert i xs
def State.stOrder (s : State) (l : List Nat) : List Nat := l.foldl (fun acc i => s.stInsert i acc) []

def State.verdict (s : State) (i : Nat) : Option Verdict := (s.stadia.verdicts.find? fun e => e.1 == i).map fun e => e.2
def State.setVerdict (s : State) (i : Nat) (v : Verdict) : State :=
  { s with stadia := { s.stadia with verdicts := (s.stadia.verdicts.filter fun e => e.1 != i) ++ [(i, v)] } }

/-- R337, R341, R349: LATCH. -/
def State.stLatch (s : State) : State :=
  let h := s.rdLe auxBase 64
  let seq := h % 2 ^ 64
  let count := h / 2 ^ 128 % 128
  let wp := h / 2 ^ 136 % 256
  let dof := h / 2 ^ 144 % 128
  let clean := h == seq + h / 2 ^ 64 % 2 ^ 48 * 2 ^ 64 + count * 2 ^ 128 + wp * 2 ^ 136 + dof * 2 ^ 144
  let blocks := (List.range (min count 64)).all fun i =>
    (s.rdLe (auxBase + 64 + i * (64 + pad64 (4 * wp * (8 + dof)))) 64) >>> 32 == 0
  let stale := s.stadia.lastSeq == seq + 1
  let bad := !clean || decide (64 < count) || wp == 0 || decide (s.fld F.ST_CFG_WP_MAX < wp) || dof != s.stDof || !blocks ||
    s.poisonWords auxBase 64
  let n := if stale || bad then 0 else count
  let s := { s with stadia := { s.stadia with
    stage := 2
    frame := s.frameNum
    unsynced := s.unsynced
    seq := seq
    count := n
    wp := wp
    age := if bad then 255 else s.ageOf (h / 2 ^ 64 % 2 ^ 48)
    stale := stale
    bad := bad
    lastSeq := seq + 1
    verdicts := []
    checked := 0
    rechecked := 0
    selected := 0
    noPath := false
    timeout := false
    out := 0
    invalidated := false
    holdBlocked := false } }
  let s := (List.range n).foldl (fun (s : State) i =>
    if fFinite (s.stScore i) then s
    else s.setVerdict i ⟨false, s.fld F.ST_EPOCH_EPOCH, 0, 0, 4, Config.freeFn 43 [4, i] % 2 ^ 32⟩) s
  let s := { s with stadia := { s.stadia with queue := s.stOrder ((List.range n).filter fun i => fFinite (s.stScore i)) } }
  (s.setFld F.ST_STATUS_PHASE 0 1).record 0x10 9 (words [9, s.frameNum, seq, s.fld F.ST_EPOCH_EPOCH]) 2

/-! ## What runs when -/

/-- R330: the cycle at which the waiting application could begin, with no check before it. -/
def State.stApplyAt (s : State) : Option Nat :=
  if s.stadia.updWaits then some (max s.stadia.freeAt s.stadia.updAt) else none

/-- R341: the next candidate to check and the cycle its check begins, if its full cost ends by CHECK_END. -/
def State.stNextCheck (s : State) : Option (Nat × Nat) :=
  match s.stadia.queue with
  | [] => none
  | i :: _ =>
    let t := max s.stadia.freeAt s.stadia.latchAt
    if s.stadia.stage = 2 ∧ t + s.fullCost ≤ s.stadia.endAt then some (i, t) else none

/-- R342: the candidate to re-check next and the cycle its re-check begins, if it ends by GATE. -/
def State.stNextRecheck (s : State) : Option (Nat × Nat) :=
  let due := (s.stOrder ((List.range s.stadia.count).filter fun i => fFinite (s.stScore i))).find? fun i =>
    match s.verdict i with | some v => v.pass && decide (v.epoch < s.fld F.ST_EPOCH_EPOCH) | none => false
  match due with
  | none => none
  | some i =>
    let t := max s.stadia.freeAt s.stadia.endAt
    if s.stadia.stage = 3 ∧ t + s.fullCost ≤ s.stadia.gateAt then some (i, t) else none

/-- R330: the waiting application runs from this cycle: no check holds the field, and between CHECK_END and GATE it ends by GATE. -/
def State.stApplyGoes (s : State) : Option Nat :=
  if s.flag F.FB_STATUS_REPLAYING then none
  else match s.stApplyAt with
  | none => none
  | some t =>
    let before (c : Option (Nat × Nat)) : Bool := match c with | some (_, u) => decide (u < t) | none => false
    match s.stadia.stage with
    | 0 => some t
    | 1 => if t < s.stadia.latchAt then some t else none
    | 2 => if before s.stNextCheck || decide (s.stadia.endAt ≤ t) then none else some t
    | 3 => if before s.stNextRecheck || decide (s.stadia.gateAt < t + s.stUpdCost) then none else some t
    | _ => none

/-- R341, R342: the check or re-check of candidate `i`, begun in cycle `t`, where it has ended by now. -/
def State.stChecked (s : State) (i t : Nat) : Option State :=
  let v := s.checkTraj (s.stCandidate i)
  let e := t + s.checkCost v s.stadia.wp
  if s.clk.fclk < e then none
  else if s.stadia.stage = 2 then
    some ({ s with stadia := { s.stadia with
      queue := s.stadia.queue.drop 1
      freeAt := e
      checked := s.stadia.checked + 1 } }.setVerdict i v)
  else
    some ({ s with stadia := { s.stadia with
      freeAt := e
      rechecked := s.stadia.rechecked + 1 } }.setVerdict i v)

/-- R330: the application whose turn it is, where it has ended by now. -/
def State.stApplied (s : State) (t : Nat) : Option State :=
  if s.clk.fclk < t + s.stUpdCost then none else some (s.stApply (t + s.stUpdCost))

/-- The next application, check or re-check, where it has ended by now. -/
def State.stEvent (s : State) : Option State :=
  match s.stApplyGoes with
  | some t => s.stApplied t
  | none =>
    match s.stNextCheck <|> s.stNextRecheck with
    | some (i, t) => s.stChecked i t
    | none => none

/-- Up to `n` of the applications, checks and re-checks that have ended by now. -/
def State.stEvents : Nat → State → State
  | 0, s => s
  | n + 1, s => match s.stEvent with | some s' => State.stEvents n s' | none => s

/-- What has ended by now has had its effect, before a phase of the frame begins; in replay the recording gives the order (R349). A set
has at most 64 candidates, each checked once in an epoch. -/
def State.stSettle (s : State) : State := if s.flag F.FB_STATUS_REPLAYING then s else State.stEvents 256 s

/-- STADIA_LATCH (R337): after `dt` FCLK cycles, at LATCH. -/
def execStadiaLatch (dt : Nat) (s : State) : Host.Outcome State Fault Refusal :=
  if s.dark then .next s
  else
  let s := (s.tickF dt).stSettle
  if s.stadia.stage = 1 ∧ s.stadia.latchAt ≤ s.clk.fclk ∧ s.flag F.FB_STATUS_REPLAYING = false then .next s.stLatch else .next s

/-- STADIA_UPDATE_APPLY (R329, R330): after `dt` FCLK cycles an application has ended. In replay updates are applied
where the recording has them (R349). -/
def execStadiaUpdateApply (dt : Nat) (s : State) : Host.Outcome State Fault Refusal :=
  if s.dark then .next s
  else
  let s := s.tickF dt
  match s.stApplyGoes with
  | some t => .next ((s.stApplied t).getD s)
  | none => .next s

/-- CANDIDATE_CHECK (R338, R341): after `dt` FCLK cycles the check of the next candidate has ended. -/
def execCandidateCheck (dt : Nat) (s : State) : Host.Outcome State Fault Refusal :=
  if s.dark then .next s
  else
  let s := s.tickF dt
  match s.stNextCheck, s.stApplyGoes with
  | some (i, t), none => .next ((s.stChecked i t).getD s)
  | _, _ => .next s

/-- R342: the best passing candidate of a list in order. -/
def State.stBest (s : State) (ok : Verdict → Bool) : Option Nat :=
  (s.stOrder ((List.range s.stadia.count).filter fun i => fFinite (s.stScore i))).find? fun i =>
    match s.verdict i with | some v => v.pass && ok v | none => false

/-- STADIA_CHECK_END (R342): after `dt` FCLK cycles, at CHECK_END. -/
def execStadiaCheckEnd (dt : Nat) (s : State) : Host.Outcome State Fault Refusal :=
  if s.dark then .next s
  else
  let s := (s.tickF dt).stSettle
  if s.stadia.stage = 2 ∧ s.stadia.endAt ≤ s.clk.fclk then
    let sel := s.stBest fun _ => true
    let unchecked := !s.stadia.queue.isEmpty
    .next ({ s with stadia := { s.stadia with
      stage := 3
      queue := []
      selected := match sel with | some i => i + 1 | none => 0
      timeout := sel.isNone && unchecked
      noPath := sel.isNone && !unchecked } }.setFld F.ST_STATUS_PHASE 0 2)
  else .next s

/-- STADIA_RECHECK (R342): after `dt` FCLK cycles a re-check has ended. -/
def execStadiaRecheck (dt : Nat) (s : State) : Host.Outcome State Fault Refusal :=
  if s.dark then .next s
  else
  let s := s.tickF dt
  match s.stNextRecheck, s.stApplyGoes with
  | some (i, t), none => .next ((s.stChecked i t).getD s)
  | _, _ => .next s

/-! ## The gate -/

def clean (w : List Nat) : Waypoint := w.map fun x => (x, false)

/-- R343, R346. -/
def State.stGate (s : State) : State :=
  let e := s.fld F.ST_EPOCH_EPOCH
  let s := { s with stadia := { s.stadia with epoch := e } }
  let s := match s.stadia.selected with
    | 0 => s
    | i + 1 =>
      let old := match s.verdict i with | some v => decide (v.epoch ≠ e) | none => true
      if old then
        { s with stadia := { s.stadia with rechecked := s.stadia.rechecked + 1 } }.setVerdict i (s.checkTraj (s.stCandidate i))
      else s
  let s := match s.stadia.selected with
    | 0 => s
    | i + 1 =>
      if (match s.verdict i with | some v => v.pass | none => false) then { s with stadia := { s.stadia with out := i + 1 } }
      else { s with stadia := { s.stadia with
        invalidated := true
        out := match s.stBest fun v => v.epoch == e with | some j => j + 1 | none => 0 } }
  let hold := s.checkTraj (s.stadia.hold.map clean)
  let s := { s with stadia := { s.stadia with
    stage := 4
    holdBlocked := !hold.pass } }
  let s := if hold.pass then s
    else (s.setFlag F.ST_STATUS_HOLD_BLOCKED).raise 0x19 (if s.stadia.out = 0 then 127 else s.stadia.out - 1)
  s.setFld F.ST_STATUS_PHASE 0 3

/-- STADIA_GATE (R343): after `dt` FCLK cycles, at GATE. -/
def execStadiaGate (dt : Nat) (s : State) : Host.Outcome State Fault Refusal :=
  if s.dark then .next s
  else
  let s := (s.tickF dt).stSettle
  if s.stadia.stage = 3 ∧ s.stadia.gateAt ≤ s.clk.fclk then .next s.stGate else .next s

/-! ## The publication -/

/-- The words of the trajectory put out. -/
def State.stOut (s : State) : List (List Nat) :=
  match s.stadia.out with
  | 0 => s.stadia.hold
  | i + 1 => (s.stCandidate i).map fun w => w.map fun x => x.1

/-- R347: the hold built from a published trajectory. -/
def buildHold (pub : List (List Nat)) (holdWp shift : Nat) : List (List Nat) :=
  if pub.length ≤ shift then (pub.drop (pub.length - 1)).map fun w => 0 :: w.drop 1
  else
    let h := max 1 (min holdWp (pub.length - shift))
    let at' (k : Nat) : List Nat := pub.getD (shift + k) []
    let times := (List.range (h - 1)).foldl (fun (ts : List Nat) i =>
      let k := i + 1
      let dt := fSub ((at' k).headD 0) ((at' (k - 1)).headD 0)
      ts ++ [fAdd (ts.getLastD 0) (fDiv (fMul dt (fOfInt h)) (fOfInt ((h - k : Nat) : Int)))]) [0]
    (List.range h).map fun k => times.getD k 0 :: (at' k).drop 1

/-- R345: the best partial candidate: the failed candidate with the highest failing waypoint, then the higher score. -/
def State.stPartial (s : State) : Option (Nat × Verdict) :=
  let fails := (s.stOrder ((List.range s.stadia.count).filter fun i => fFinite (s.stScore i))) ++
    ((List.range s.stadia.count).filter fun i => !(fFinite (s.stScore i)))
  fails.foldl (fun (b : Option (Nat × Verdict)) i =>
    match s.verdict i with
    | some v => if v.pass then b else match b with
      | none => some (i, v)
      | some (_, u) => if u.wp < v.wp then some (i, v) else b
    | none => b) none

/-- Table ST-4: what both records share, published in cycle `t`. -/
def State.stHeader (s : State) (t status cand wp : Nat) : Nat :=
  let u := s.stadia
  let passed := (List.range u.count).countP fun i => match s.verdict i with | some v => v.pass && v.epoch == u.epoch | none => false
  B.TRAJ_FRAME.put u.frame + B.TRAJ_STATUS.put status + B.TRAJ_STAMP.put t + B.TRAJ_DOMAIN.put 2 +
    B.TRAJ_UNSYNCED.put (bit u.unsynced) + B.TRAJ_HOLD.put (bit (u.out = 0)) +
    B.TRAJ_SUBSTITUTE.put (bit (decide (u.out ≠ 0) && u.out != u.selected)) + B.TRAJ_NO_PATH.put (bit u.noPath) +
    B.TRAJ_TIMEOUT.put (bit u.timeout) + B.TRAJ_HOLD_BLOCKED.put (bit u.holdBlocked) +
    B.TRAJ_HOLD_EMPTY.put (bit (decide (u.out = 0) && u.hold.isEmpty)) + B.TRAJ_PROP_STALE.put (bit u.stale) +
    B.TRAJ_PROP_BAD.put (bit u.bad) + B.TRAJ_INVALIDATED.put (bit u.invalidated) + B.TRAJ_CANDIDATE.put cand + B.TRAJ_WP.put wp +
    B.TRAJ_DOF.put s.stDof + B.TRAJ_AGE_PROP.put u.age + B.TRAJ_CHECKED.put u.checked + B.TRAJ_EPOCH.put u.epoch +
    B.TRAJ_PROP_SEQ.put u.seq + B.TRAJ_PASSED.put passed

def wpBytes (ws : List (List Nat)) : List Byte := ws.flatMap fun w => w.flatMap fun x => leBytes 4 x

/-- The poison marks of the words that a record takes from a candidate: the waypoints `ws` stand from address `a` on. -/
def State.wpMarks (s : State) (a : Nat) (ws : List Waypoint) : State :=
  (ws.flatten.zipIdx.filter fun x => x.1.2).foldl (fun s x => s.markWord (a + 4 * x.2)) s

/-- The trajectory put out, with the poison marks of its words; a hold has none. -/
def State.stOutMarked (s : State) : List Waypoint := match s.stadia.out with | 0 => [] | i + 1 => s.stCandidate i

/-- R344, R345, R347–R349: the publication, in cycle `t`. -/
def State.stPublish (s : State) (t : Nat) : State :=
  let u := s.stadia
  let b := s.backOf .trajectory
  let out := s.stOut
  let status := if s.stOutMarked.any fun w => w.any fun x => x.2 then 0xF else if u.invalidated then 0xA else if u.out = 0 then 0x10 else if u.unsynced then 0x12 else 0
  let cand := if u.out = 0 then 127 else u.out - 1
  let traj := leBytes 128 (s.stHeader t status cand out.length) ++ wpBytes out
  let failed := u.noPath || u.timeout
  let part := if failed then s.stPartial else none
  let taken : List Waypoint × List Waypoint :=
    (s.stOutMarked, match part with | some (i, v) => (s.stCandidate i).take (v.wp + 1) | none => [])
  let dstat := if u.noPath then 0xB else if u.timeout then 0xC else 0
  let diag := match part with
    | none => leBytes 128 (s.stHeader t dstat 127 0)
    | some (i, v) =>
      leBytes 128 (s.stHeader t dstat i (v.wp + 1) + B.TRAJ_FAIL_WP.put v.wp + B.TRAJ_FAIL_SPHERE.put v.sphere +
        B.TRAJ_FAIL_CAUSE.put v.cause + B.TRAJ_CLEARANCE.put v.clear) ++
      wpBytes (((s.stCandidate i).take (v.wp + 1)).map fun w => w.map fun x => x.1)
  let passed := (List.range u.count).countP fun i => match s.verdict i with | some v => v.pass && v.epoch == u.epoch | none => false
  let bump (s : State) (f : RegField) (c : Bool) : State := if c then s.bump f else s
  let log := (List.range u.count).flatMap fun i => match s.verdict i with
    | some v => [i, bit v.pass, v.epoch, v.wp, v.sphere, v.cause]
    | none => [i]
  let s := (s.wrMarked (auxBase + 0x2C_0000 + b * 40960) traj false).wrMarked (auxBase + 0x2E_0000 + b * 40960) diag false
  let s := (s.wpMarks (auxBase + 0x2C_0000 + b * 40960 + 128) taken.1).wpMarks (auxBase + 0x2E_0000 + b * 40960 + 128) taken.2
  let s := bump (bump (bump (bump s F.ST_COUNTS_NO_PATH u.noPath) F.ST_COUNTS_TIMEOUT u.timeout) F.ST_COUNTS_INVALIDATED u.invalidated)
    F.ST_COUNTS_HOLD_OUT (u.out == 0)
  let s := ((s.setFld F.ST_LAST_SELECTED 0 (if u.selected = 0 then 127 else u.selected - 1)).setFld F.ST_LAST_CHECKED 0 u.checked).setFld
    F.ST_LAST_PASSED 0 passed
  let s := (s.setFld F.ST_LAST_RECHECKED 0 (min 255 u.rechecked)).setFld F.ST_LAST_STATUS 0 status
  let s := s.setFld F.ST_STATUS_PHASE 0 0
  let s := s.record 0x11 9 (words ([9, b, u.frame, crc32c traj, crc32c diag, u.selected, status] ++ log)) 2
  let s : State := { s with stadia := { u with
    stage := 0
    freeAt := max u.freeAt t
    hold := buildHold out (s.fld F.ST_CFG_HOLD_WP) (s.fld F.ST_CFG_HOLD_SHIFT) } }
  let s := s.flip .trajectory
  if u.next then s.stadiaFrame (t + 1) else s

/-- R344: T_gate. -/
def State.stTgate (s : State) : Nat := 64 + 2 * (32 + s.fld F.ST_CFG_WP_MAX * s.stP)

/-- STADIA_PUBLISH (R344): after `dt` FCLK cycles, at GATE + T_gate. -/
def execStadiaPublish (dt : Nat) (s : State) : Host.Outcome State Fault Refusal :=
  if s.dark then .next s
  else
  let s := s.tickF dt
  let t := s.stadia.gateAt + s.stTgate
  if s.stadia.stage = 4 ∧ t ≤ s.clk.fclk then .next (s.stPublish t) else .next s

end Sys2Proof.Machine
end

