-- ==== Sys2Proof/Machine/Plumb.lean ====
section
/-! DEFINITION. Plumb (16): the monitors, the watchdog and the lines, events, rule images and their instructions, the gate, the golden
judgement, and the commands of the Plumb family. -/

namespace Sys2Proof.Machine

/-! ## Threads and instructions -/

def State.thread (s : State) (t : Nat) : Thread := spGet Thread.reset s.plumb.threads t
def State.setThread (s : State) (t : Nat) (x : Thread) : State :=
  { s with plumb := { s.plumb with threads := spSet Thread.reset s.plumb.threads t x } }

/-- The instructions of entry `e` of the rule image. -/
def State.entryCode (s : State) (e : Nat) : List (BitVec 64) :=
  match s.plumb.rules with
  | some r => (match e with | 0 => r.gate | 1 => r.event | _ => r.frame)
  | none => []

/-- The instruction that thread `t` issues next, if it runs. -/
def State.nextRule (s : State) (t : Nat) : Option (BitVec 64) :=
  match (s.thread t).entry with
  | some e => (s.entryCode e)[(s.thread t).pc]?
  | none => none

/-- R362: W0 reads zero and keeps nothing. -/
def Thread.get (x : Thread) (r : Nat) : Nat := if r = 0 then 0 else spGet 0 x.w r
def Thread.set (x : Thread) (r v : Nat) : Thread := if r = 0 then x else { x with w := spSet 0 x.w r (v % 2 ^ 32) }

/-- R361: the rank of a verdict encoding: 0 PASS, 1 BLOCK, 1 + m DEGRADE to mode m, 5 STOP. -/
def verdictRank (imm : Nat) : Nat :=
  match imm % 4 with
  | 0 => 0
  | 1 => 1
  | 2 => 5
  | _ => 1 + imm / 4 % 4

def State.dataWord (s : State) (i : Nat) : Nat := spGet 0 s.plumb.data (i % 4096)
def State.setDataWord (s : State) (i v : Nat) : State :=
  { s with plumb := { s.plumb with data := spSet 0 s.plumb.data (i % 4096) (v % 2 ^ 32) } }

/-- Words of the header of an LDHDR source (R360): Datum 160, the Stadia records 32, a Traverse record 64. -/
def snapWords (src : Nat) : Nat := if src = 0 then 160 else if src < 3 then 32 else 64

/-- Table PB-4: a snapshot word; a word past the header, or of a source that has published nothing, has no stated value (entry 17). -/
def State.snapWord (s : State) (src k : Nat) : Nat :=
  match spGet 0 s.plumb.snap (256 * src + k) with
  | 0 => Config.freeFn 50 [src, k] % 2 ^ 32
  | v + 1 => v

/-- Table PB-4, LDEV: the increase of a counter since the entry last read it. -/
def State.evDelta (s : State) (e n : Nat) : Nat × State :=
  let c := s.fld F.PB_EV_COUNT n
  (c - spGet 0 s.plumb.evRead (64 * e + n),
   { s with plumb := { s.plumb with evRead := spSet 0 s.plumb.evRead (64 * e + n) c } })

def sgn (x : Nat) : Int := asSigned 32 x

/-- Table PB-4: what an instruction of thread `t`, running entry `e`, does: the state, and the thread with its next index. -/
def State.ruleOp (s : State) (e : Nat) (x : Thread) (i : Nat) : State × Thread :=
  let rd := B.RINS_RD.get i
  let a := x.get (B.RINS_RA.get i)
  let b := x.get (B.RINS_RB.get i)
  let imm := B.RINS_IMM.get i
  let x := { x with pc := x.pc + 1 }
  let sh := imm % 32
  match B.RINS_OP.get i with
  | 0x00 => (s, { x with entry := none })
  | 0x01 => (s, x.set rd imm)
  | 0x02 => (s, x.set rd ((x.record.getD 0) >>> (32 * (imm % 16))))
  | 0x03 => (s, x.set rd (s.snapWord (imm / 256 % 256) (imm % 256)))
  | 0x04 => (s, x.set rd (s.dataWord (a + imm)))
  | 0x05 => (s.setDataWord (a + imm) (x.get rd), x)
  | 0x06 => let (v, s) := s.evDelta e (imm % 64); (s, x.set rd v)
  | 0x07 => (s, x.set rd (a + b))
  | 0x08 => (s, x.set rd (a + 2 ^ 32 - b))
  | 0x09 => (s, x.set rd (a &&& b))
  | 0x0A => (s, x.set rd (a ||| b))
  | 0x0B => (s, x.set rd (a ^^^ b))
  | 0x0C => (s, x.set rd (ofSigned 32 (sgn a / (2 : Int) ^ sh)))
  | 0x0D => (s, x.set rd (a * 2 ^ sh))
  | 0x0E => (s, x.set rd (if sgn b < sgn a then b else a))
  | 0x0F => (s, x.set rd (if sgn a < sgn b then b else a))
  | 0x10 => (s, x.set rd (min 0x7FFFFFFF (sgn a).natAbs))
  | 0x11 => (s, x.set rd (bit (decide (sgn a < sgn b))))
  | 0x12 => (s, x.set rd (bit (decide (sgn a < sgn imm))))
  | 0x13 => (s, x.set rd (bit (fLt a b)))
  | 0x14 => (s, x.set rd (bit (!(fFinite a))))
  | 0x15 => (s, x.set rd (fSub a b))
  | 0x16 => (s, x.set rd (a % 2 ^ 31))
  | 0x17 => (s, x.set rd (ofSigned 32 (asSigned 16 a)))
  | 0x18 => (s, if a = 0 then { x with pc := x.pc + imm % 1024 } else x)
  | 0x19 => (s, if a = 0 then x else { x with pc := x.pc + imm % 1024 })
  | 0x1A => (s, { x with verdict := max x.verdict (verdictRank imm) })
  | 0x1B => ((s.setReg R.PB_USER 0 (s.reg R.PB_USER ||| (1 <<< sh))).record 0x0E 1 (words [sh]) 6, x)
  | 0x1C => (s, x.set rd (s.fld F.PB_EV_LAST_DETAIL (imm % 64)))
  | 0x1D => (s, x.set rd (s.frameNum % 2 ^ 32))
  | _ => (s, x)

/-! ## Watch runs -/

/-- R20, R360: the header words of the most recently published records. -/
def State.takeSnapshot (s : State) : State :=
  let v := s.latchedS
  let src : List (Nat × Option Nat) := [(0, v.fused), (1, v.trajectory), (2, v.diagnosis)] ++
    (List.range 64).map fun j => (0x40 + j, v.tvPublished j)
  let ws := src.foldl (fun (t : List (Nat × Nat)) x => match x.2 with
    | some a => (List.range (snapWords x.1)).foldl (fun t k => spSet 0 t (256 * x.1 + k) (s.rdLe (a + 4 * k) 4 + 1)) t
    | none => t) []
  { s with plumb := { s.plumb with snap := ws } }

/-- R360: the watch thread begins entry `e`. -/
def State.startWatch (s : State) (e : Nat) : State :=
  let s := if e = 1 then { s with plumb := { s.plumb with changed := false } } else s
  let s := s.takeSnapshot
  ({ s with plumb := { s.plumb with watchAt := s.clk.sclk } }).setThread 4 { Thread.reset with entry := some e }

/-- An entry waits for the watch thread: the event entry once, the frame entry for each frame. -/
def State.watchWaits (s : State) (e : Nat) : State :=
  if e = 1 ∧ s.plumb.watchDue.contains 1 then s else { s with plumb := { s.plumb with watchDue := s.plumb.watchDue ++ [e] } }

/-- R360: an entry falls due: it runs, or waits for the end of the other. A frame entry takes the place of an event entry that fell due in
the same cycle. -/
def State.watchDue (s : State) (e : Nat) : State :=
  match (s.thread 4).entry with
  | none => s.startWatch e
  | some r => if e = 2 ∧ r = 1 ∧ s.plumb.watchAt = s.clk.sclk then (s.watchWaits 1).startWatch 2 else s.watchWaits e

/-- Table PB-5, class 8: the mode that a verdict of rank `v` calls for, 0 where it calls for none. -/
def verdictMode (v : Nat) : Nat := if v = 5 then 3 else if v < 2 then 0 else v - 1

/-- R370: a DEGRADE or STOP verdict latches class 8. -/
def State.verdictEffect (s : State) (v : Nat) : State :=
  if verdictMode v = 0 then s else s.latchClass 8 (verdictMode v)

/-- The end of a watch run: its verdict, and the entry that waits, the frame entry first. -/
def State.watchEnd (s : State) : State :=
  let s := s.verdictEffect (s.thread 4).verdict
  let q := s.plumb.watchDue
  let s := s.setThread 4 Thread.reset
  if q.contains 2 then ({ s with plumb := { s.plumb with watchDue := q.erase 2 } }).startWatch 2
  else match q with
    | e :: rest => ({ s with plumb := { s.plumb with watchDue := rest } }).startWatch e
    | [] => s

/-! ## The barrel -/

/-- R360, R362: thread `t` issues its next instruction; an entry ends at END or after its last instruction. -/
def State.issueRule (s : State) (t : Nat) : State :=
  let x := s.thread t
  match x.entry with
  | none => s
  | some e =>
    let (s, x) := match (s.entryCode e)[x.pc]? with
      | some i => s.ruleOp e x i.toNat
      | none => (s, { x with entry := none })
    let x := if (s.entryCode e).length ≤ x.pc then { x with entry := none } else x
    let s := s.setThread t x
    if x.entry.isNone && t == 4 then s.watchEnd else s

/-- One SCLK cycle: the thread whose turn it is issues. -/
def State.barrelCycle (s : State) : State :=
  let s := s.tickS 1
  s.issueRule (s.clk.sclk % 5)

/-- R360: `n` SCLK cycles pass. While no thread runs only the clock advances. -/
def State.barrelN : Nat → State → State
  | 0, s => s
  | n + 1, s =>
    if s.plumb.threads.any fun x => x.2.entry.isSome then State.barrelN n s.barrelCycle else s.tickS (n + 1)

def State.barrel (s : State) (dt : Nat) : State := State.barrelN dt s

/-- Cycles to the next issue of thread `t`. -/
def State.slotOf (s : State) (t : Nat) : Nat := 1 + (t + 4 - s.clk.sclk % 5) % 5

/-- An instruction row: thread `t` issues, if its next instruction has opcode `op`. -/
def State.ruleRow (s : State) (t op : Nat) : State :=
  match s.nextRule t with
  | some i => if B.RINS_OP.get i.toNat = op then s.barrel (s.slotOf t) else s
  | none => s

/-- RULE_END, END of Table PB-4 (R362). -/
def execRuleEnd (t : Fin 5) (s : State) : Host.Outcome State Fault Refusal :=
  if s.isOff then .next s else .next (s.ruleRow t 0x00)
/-- LDI (R362). -/
def execLdi (t : Fin 5) (s : State) : Host.Outcome State Fault Refusal :=
  if s.isOff then .next s else .next (s.ruleRow t 0x01)
/-- LDREC (R362). -/
def execLdrec (t : Fin 5) (s : State) : Host.Outcome State Fault Refusal :=
  if s.isOff then .next s else .next (s.ruleRow t 0x02)
/-- LDHDR (R362). -/
def execLdhdr (t : Fin 5) (s : State) : Host.Outcome State Fault Refusal :=
  if s.isOff then .next s else .next (s.ruleRow t 0x03)
/-- LDMEM (R362). -/
def execLdmem (t : Fin 5) (s : State) : Host.Outcome State Fault Refusal :=
  if s.isOff then .next s else .next (s.ruleRow t 0x04)
/-- STMEM (R362). -/
def execStmem (t : Fin 5) (s : State) : Host.Outcome State Fault Refusal :=
  if s.isOff then .next s else .next (s.ruleRow t 0x05)
/-- LDEV (R362). -/
def execLdev (t : Fin 5) (s : State) : Host.Outcome State Fault Refusal :=
  if s.isOff then .next s else .next (s.ruleRow t 0x06)
/-- ADD (R362). -/
def execRuleAdd (t : Fin 5) (s : State) : Host.Outcome State Fault Refusal :=
  if s.isOff then .next s else .next (s.ruleRow t 0x07)
/-- SUB (R362). -/
def execRuleSub (t : Fin 5) (s : State) : Host.Outcome State Fault Refusal :=
  if s.isOff then .next s else .next (s.ruleRow t 0x08)
/-- RULE_AND, AND of Table PB-4 (R362). -/
def execRuleAnd (t : Fin 5) (s : State) : Host.Outcome State Fault Refusal :=
  if s.isOff then .next s else .next (s.ruleRow t 0x09)
/-- RULE_OR, OR of Table PB-4 (R362). -/
def execRuleOr (t : Fin 5) (s : State) : Host.Outcome State Fault Refusal :=
  if s.isOff then .next s else .next (s.ruleRow t 0x0A)
/-- RULE_XOR, XOR of Table PB-4 (R362). -/
def execRuleXor (t : Fin 5) (s : State) : Host.Outcome State Fault Refusal :=
  if s.isOff then .next s else .next (s.ruleRow t 0x0B)
/-- SHR (R362). -/
def execRuleShr (t : Fin 5) (s : State) : Host.Outcome State Fault Refusal :=
  if s.isOff then .next s else .next (s.ruleRow t 0x0C)
/-- SHL (R362). -/
def execRuleShl (t : Fin 5) (s : State) : Host.Outcome State Fault Refusal :=
  if s.isOff then .next s else .next (s.ruleRow t 0x0D)
/-- MIN (R362). -/
def execRuleMin (t : Fin 5) (s : State) : Host.Outcome State Fault Refusal :=
  if s.isOff then .next s else .next (s.ruleRow t 0x0E)
/-- MAX (R362). -/
def execRuleMax (t : Fin 5) (s : State) : Host.Outcome State Fault Refusal :=
  if s.isOff then .next s else .next (s.ruleRow t 0x0F)
/-- ABS (R362). -/
def execRuleAbs (t : Fin 5) (s : State) : Host.Outcome State Fault Refusal :=
  if s.isOff then .next s else .next (s.ruleRow t 0x10)
/-- SLT (R362). -/
def execSlt (t : Fin 5) (s : State) : Host.Outcome State Fault Refusal :=
  if s.isOff then .next s else .next (s.ruleRow t 0x11)
/-- SLTI (R362). -/
def execSlti (t : Fin 5) (s : State) : Host.Outcome State Fault Refusal :=
  if s.isOff then .next s else .next (s.ruleRow t 0x12)
/-- FLT (R362). -/
def execFlt (t : Fin 5) (s : State) : Host.Outcome State Fault Refusal :=
  if s.isOff then .next s else .next (s.ruleRow t 0x13)
/-- FNAN (R362). -/
def execFnan (t : Fin 5) (s : State) : Host.Outcome State Fault Refusal :=
  if s.isOff then .next s else .next (s.ruleRow t 0x14)
/-- RULE_FSUB, FSUB of Table PB-4 (R362). -/
def execRuleFsub (t : Fin 5) (s : State) : Host.Outcome State Fault Refusal :=
  if s.isOff then .next s else .next (s.ruleRow t 0x15)
/-- FABS (R362). -/
def execFabs (t : Fin 5) (s : State) : Host.Outcome State Fault Refusal :=
  if s.isOff then .next s else .next (s.ruleRow t 0x16)
/-- SEXT16 (R362). -/
def execSext16 (t : Fin 5) (s : State) : Host.Outcome State Fault Refusal :=
  if s.isOff then .next s else .next (s.ruleRow t 0x17)
/-- SKIPZ (R362). -/
def execSkipz (t : Fin 5) (s : State) : Host.Outcome State Fault Refusal :=
  if s.isOff then .next s else .next (s.ruleRow t 0x18)
/-- SKIPNZ (R362). -/
def execSkipnz (t : Fin 5) (s : State) : Host.Outcome State Fault Refusal :=
  if s.isOff then .next s else .next (s.ruleRow t 0x19)
/-- VERDICT (R361, R362). -/
def execVerdict (t : Fin 5) (s : State) : Host.Outcome State Fault Refusal :=
  if s.isOff then .next s else .next (s.ruleRow t 0x1A)
/-- RAISE (R362). -/
def execRuleRaise (t : Fin 5) (s : State) : Host.Outcome State Fault Refusal :=
  if s.isOff then .next s else .next (s.ruleRow t 0x1B)
/-- LDEVD (R362). -/
def execLdevd (t : Fin 5) (s : State) : Host.Outcome State Fault Refusal :=
  if s.isOff then .next s else .next (s.ruleRow t 0x1C)
/-- LDFRM (R362). -/
def execLdfrm (t : Fin 5) (s : State) : Host.Outcome State Fault Refusal :=
  if s.isOff then .next s else .next (s.ruleRow t 0x1D)

/-! ## Monitors, lines, watchdog -/

/-- LOCKSTEP_MISMATCH (R351, Table PB-5): after `dt` SCLK cycles. -/
def execLockstepMismatch (dt : Nat) (s : State) : Host.Outcome State Fault Refusal :=
  if s.isOff then .next s else .next ((s.barrel dt).latchClass 1 3)

/-- CLOCK_MONITOR_WINDOW (R352): after `dt` SCLK cycles a window of 65,536 has ended, in which `edges` FCLK edges
were counted. -/
def execClockMonitorWindow (edges dt : Nat) (s : State) : Host.Outcome State Fault Refusal :=
  if s.isOff then .next s
  else
  let s := s.barrel dt
  if s.plumb.windowAt + 65536 ≤ s.clk.sclk then
    let off := if edges < 163840 then 163840 - edges else edges - 163840
    let bad := decide (163840 < 50 * off)
    let s := { s with plumb := { s.plumb with
      clockBad := bad
      windowAt := s.clk.sclk - (s.clk.sclk - s.plumb.windowAt) % 65536 } }
    .next (if bad then s.latchClass 2 3 else s)
  else .next s

/-- READBACK_CHECK (R355): after `dt` SCLK cycles the lines read back as `a` and `b`. The check that falls due, 4 cycles after a change of a
command, judges them; a readback that agrees again ends the cause of a mismatch (entry 17). -/
def execReadbackCheck (a b : Bool) (dt : Nat) (s : State) : Host.Outcome State Fault Refusal :=
  if s.isOff then .next s
  else
  let s := s.barrel dt
  let bad := a != s.plumb.lineA || b != s.plumb.lineB
  let s := (s.setFld F.PB_STATUS_RB_A 0 (bit a)).setFld F.PB_STATUS_RB_B 0 (bit b)
  match s.plumb.rbDue with
  | t :: rest =>
    if t ≤ s.clk.sclk then
      let s := { s with plumb := { s.plumb with
        rbDue := rest
        rbBad := bad } }
      .next (if bad then s.latchClass 2 3 else s)
    else .next s
  | [] => .next { s with plumb := { s.plumb with rbBad := s.plumb.rbBad && bad } }

/-- R355: the SCLK cycle at which the next test pulse of a line begins: 100 ms after the release and every 100 ms, B's 50 ms later. -/
def State.pulseAt (s : State) (line : Nat) : Option Nat :=
  match s.plumb.releasedAt with
  | some t =>
    if s.flag F.PB_CFG_PULSE_EN && s.plumb.lineA && s.plumb.lineB
    then some (t + 40000000 * (spGet 0 s.plumb.pulses line + 1) + 20000000 * line) else none
  | none => none

/-- TEST_PULSE (R355): after `dt` SCLK cycles a line has dropped for 200 µs on its schedule; `shown` says that its readback showed the
drop. -/
def execTestPulse (lineB shown : Bool) (dt : Nat) (s : State) : Host.Outcome State Fault Refusal :=
  if s.isOff then .next s
  else
  let s := s.barrel dt
  let l := bit lineB
  match s.pulseAt l with
  | some t =>
    if t + 80000 ≤ s.clk.sclk then
      let s := { s with plumb := { s.plumb with pulses := spSet 0 s.plumb.pulses l (spGet 0 s.plumb.pulses l + 1) } }
      .next (if shown then s else s.latchClass 2 3)
    else .next s
  | none => .next s

/-- PB_CFG.WD_TIMEOUT in SCLK cycles. -/
def State.wdTimeout (s : State) : Nat := s.fld F.PB_CFG_WD_TIMEOUT * 400000

/-- WDI_EDGE (R356): after `dt` SCLK cycles an accepted edge is seen. -/
def execWdiEdge (dt : Nat) (s : State) : Host.Outcome State Fault Refusal :=
  if s.isOff then .next s
  else
  let s := s.barrel dt
  .next ({ s with plumb := { s.plumb with wdi := some s.clk.sclk } }.setFld F.PB_STATUS_WDI_OK 0 1)

/-- A WDI edge has arrived within WD_TIMEOUT. -/
def State.wdiOk (s : State) : Bool := match s.plumb.wdi with | some t => decide (s.clk.sclk < t + s.wdTimeout) | none => false

/-- WATCHDOG_TIMEOUT (R356): after `dt` SCLK cycles, WD_TIMEOUT after the last accepted edge. -/
def execWatchdogTimeout (dt : Nat) (s : State) : Host.Outcome State Fault Refusal :=
  if s.isOff then .next s
  else
  let s := s.barrel dt
  match s.plumb.wdi with
  | some t =>
    if s.flag F.PB_STATUS_WDI_OK && decide (t + s.wdTimeout ≤ s.clk.sclk) then
      .next ((s.setFld F.PB_STATUS_WDI_OK 0 0).latchClass 3 3)
    else .next s
  | none => .next s

/-- SUPPLY_MONITOR_FAULT (R357, Table PB-5): after `dt` SCLK cycles Plumb's supply leaves its band. -/
def execSupplyMonitorFault (dt : Nat) (s : State) : Host.Outcome State Fault Refusal :=
  if s.isOff then .next s
  else
  let s := s.barrel dt
  let s := { s with plumb := { s.plumb with supplyBad := true } }
  .next (s.assertStop.latchClass 2 3)

/-- SAFE_STOP_DELAY_EXPIRY (R369): after `dt` SCLK cycles, STOP_DELAY after the entry into DM2. -/
def execSafeStopDelayExpiry (dt : Nat) (s : State) : Host.Outcome State Fault Refusal :=
  if s.isOff then .next s
  else
  let s := s.barrel dt
  match s.plumb.dm2At with
  | some t =>
    if t + s.fld F.PB_CFG_STOP_DELAY * 400000 ≤ s.clk.sclk then
      .next ({ s with plumb := { s.plumb with dm2At := none } }).assertStop
    else .next s
  | none => .next s

/-! ## Events and entries -/

/-- PLUMB_EVENT (R358): after `dt` SCLK cycles the oldest event in crossing is counted. -/
def execPlumbEvent (dt : Nat) (s : State) : Host.Outcome State Fault Refusal :=
  if s.isOff then .next s
  else
  let s := s.barrel dt
  match s.plumb.inbox with
  | [] => .next s
  | (code, detail, _) :: rest =>
    let s := { s with plumb := { s.plumb with
      inbox := rest
      changed := true } }
    .next ((s.bump F.PB_EV_COUNT code).setFld F.PB_EV_LAST_DETAIL code detail)

/-- EVENT_ENTRY_RUN (R360): after `dt` SCLK cycles, at a 4,000-cycle mark, the event entry falls due if a counter has changed. -/
def execEventEntryRun (dt : Nat) (s : State) : Host.Outcome State Fault Refusal :=
  if s.isOff then .next s
  else
  let s := s.barrel dt
  if s.plumb.eventAt + 4000 ≤ s.clk.sclk then
    let mark := s.clk.sclk - (s.clk.sclk - s.plumb.eventAt) % 4000
    let s := { s with plumb := { s.plumb with eventAt := mark } }
    .next (if s.plumb.changed then s.watchDue 1 else s)
  else .next s

/-- FRAME_ENTRY_RUN (R360): after `dt` SCLK cycles, FRAME_OFS after a frame start reached SCLK, the frame entry falls due. `_since` is not
read: the module keeps the cycle of the frame start (entry 28). -/
def execFrameEntryRun (_since dt : Nat) (s : State) : Host.Outcome State Fault Refusal :=
  if s.isOff then .next s
  else
  let s := s.barrel dt
  match s.plumb.frameDue with
  | t :: rest => if t ≤ s.clk.sclk then .next ({ s with plumb := { s.plumb with frameDue := rest } }.watchDue 2) else .next s
  | [] => .next s

/-! ## The gate -/

/-- GATE_RECORD_DEQUEUE (R365): after `dt` SCLK cycles the lowest-numbered free gate thread takes the oldest record. -/
def execGateRecordDequeue (dt : Nat) (s : State) : Host.Outcome State Fault Refusal :=
  if s.isOff then .next s
  else
  let s := s.barrel dt
  match s.guyline.gate, [0, 1, 2, 3].find? (fun t => (s.thread t).record.isNone) with
  | r :: rest, some t =>
    let s := { s with guyline := { s.guyline with gate := rest } }
    .next (s.setThread t { Thread.reset with
      entry := some 0
      record := some r.toNat
      due := s.clk.sclk + 400
      closed := !(s.flag F.PB_STATUS_GATE_OPEN) })
  | _, _ => .next s

/-- R365, R366: the verdict of thread `t` takes effect. -/
def State.gateVerdict (s : State) (t : Nat) (x : Thread) (r : Nat) : State :=
  let s := s.setThread t Thread.reset
  let shut := x.closed || !(s.flag F.PB_STATUS_GATE_OPEN)
  let s := if shut then s.bump F.PB_COUNTS_GATE_CLOSED
    else if x.verdict = 1 then s.bump F.PB_COUNTS_BLOCKED
    else if x.verdict = 5 then s
    else s.driveRelease r
  s.verdictEffect x.verdict

/-- GATE_VERDICT (R365): after `dt` SCLK cycles the verdict that falls due first takes effect, 400 cycles after its record was
dequeued. -/
def execGateVerdict (dt : Nat) (s : State) : Host.Outcome State Fault Refusal :=
  if s.isOff then .next s
  else
  let s := s.barrel dt
  let due := [0, 1, 2, 3].filter fun t => (s.thread t).record.isSome && decide ((s.thread t).due ≤ s.clk.sclk)
  let first := due.foldl (fun (b : Option Nat) t => match b with
    | none => some t
    | some u => if (s.thread t).due < (s.thread u).due then some t else b) none
  match first with
  | some t => .next (s.gateVerdict t (s.thread t) ((s.thread t).record.getD 0))
  | none => .next s

/-! ## The golden judgement -/

/-- GOLDEN_STORE_CLEAR (R367): after `dt` SCLK cycles the golden OPEN reaches SCLK. -/
def execGoldenStoreClear (dt : Nat) (s : State) : Host.Outcome State Fault Refusal :=
  if s.isOff then .next s
  else
  let s := s.barrel dt
  if s.plumb.goldenOpen then
    .next { s with plumb := { s.plumb with
      goldenOpen := false
      golden := [] } }
  else .next s

def State.goldenByte (s : State) (o : Nat) : Byte := spGet 0 s.plumb.golden o

/-- R368: what a judgement finds: the set byte, whether it names a set, whether the masks differ, the failing segments, and those
whose digest differed. -/
def State.goldenJudge (s : State) : Nat × Bool × Bool × Nat × List Nat :=
  let set := (s.goldenByte 122880).toNat
  let mask := (s.goldenByte 122882).toNat + 256 * (s.goldenByte 122883).toNat
  let sets := match s.plumb.rules with | some r => r.sets | none => []
  match sets[set]? with
  | none => (set, false, false, 0xFFFF, [])
  | some g =>
    let seg (i : Nat) : Nat := digest ((List.range 7680).map fun k => s.goldenByte (7680 * i + k))
    let differ := (List.range 16).filter fun i => hasBit g.mask i && hasBit mask i && seg i != spGet 0 g.digests i
    let fail := (List.range 16).foldl (fun m i => if hasBit g.mask i != hasBit mask i || differ.contains i then putBit m i true else m) 0
    (set, true, mask != g.mask, fail, differ)

/-- GOLDEN_COMPARE (R368): after `dt` SCLK cycles, 8,000 after the golden CLOSE reached SCLK. -/
def execGoldenCompare (dt : Nat) (s : State) : Host.Outcome State Fault Refusal :=
  if s.isOff then .next s
  else
  let s := s.barrel dt
  match s.plumb.goldenClose with
  | none => .next s
  | some t =>
    if t + 8000 ≤ s.clk.sclk then
      let (set, valid, other, fail, differ) := s.goldenJudge
      let ok := valid && !other && fail == 0
      let s := { s with plumb := { s.plumb with goldenClose := none } }
      let s := ((s.setFld F.PB_GOLDEN_LAST_SET 0 set).setFld F.PB_GOLDEN_LAST_OK 0 (bit ok)).bump F.PB_GOLDEN_JUDGED
      if ok then
        .next { s with plumb := { s.plumb with
          passed5 := true
          passed6 := true } }
      else
        let s := (s.bump F.PB_GOLDEN_MISMATCHES).raise 0x1A (set % 16 + bit (!valid) * 16 + bit other * 32 + fail * 2 ^ 16)
        let s := differ.foldl (fun (s : State) i =>
          let e := (s.goldenByte (122896 + i)).toNat
          if e < 128 then s.faultAt (siteEngine (e / 8) (s.fld F.PL_ENG_STATUS_PHYS e)) else s) s
        .next (s.latchClass 6 (s.degradeMode 6))
    else .next s

/-! ## Rule images -/

/-- The fields an opcode uses: RD, RA, RB, and the bits of IMM; none for a reserved opcode (Tables PB-3, PB-4). -/
def ruleFields (op : Nat) : Option (Bool × Bool × Bool × Nat) :=
  match op with
  | 0x00 => some (false, false, false, 0)
  | 0x01 => some (true, false, false, 32)
  | 0x02 => some (true, false, false, 4)
  | 0x03 => some (true, false, false, 16)
  | 0x04 | 0x05 | 0x12 => some (true, true, false, 32)
  | 0x06 | 0x1C => some (true, false, false, 6)
  | 0x07 | 0x08 | 0x09 | 0x0A | 0x0B | 0x0E | 0x0F | 0x11 | 0x13 | 0x15 => some (true, true, true, 0)
  | 0x0C | 0x0D => some (true, true, false, 5)
  | 0x10 | 0x14 | 0x16 | 0x17 => some (true, true, false, 0)
  | 0x18 | 0x19 => some (false, true, false, 10)
  | 0x1A => some (false, false, false, 4)
  | 0x1B => some (false, false, false, 5)
  | 0x1D => some (true, false, false, 0)
  | _ => none

/-- R364, check 3: instruction `i` of an entry of `len` instructions. -/
def ruleOk (gate : Bool) (len : Nat) (k : Nat) (i : Nat) : Bool :=
  let op := B.RINS_OP.get i
  let imm := B.RINS_IMM.get i
  match ruleFields op with
  | none => false
  | some (rd, ra, rb, w) =>
    (rd || B.RINS_RD.get i == 0) && (ra || B.RINS_RA.get i == 0) && (rb || B.RINS_RB.get i == 0) && (i >>> 24) % 256 == 0 &&
      decide (imm < 2 ^ w) &&
      (match op with
       | 0x02 => gate
       | 0x03 => decide (imm / 256 < 3) || (decide (0x40 ≤ imm / 256) && decide (imm / 256 < 0x80))
       | 0x18 | 0x19 => decide (1 ≤ imm) && decide (k + 1 + imm ≤ len)
       | 0x1A => if imm % 4 = 3 then decide (1 ≤ imm / 4) else imm / 4 == 0
       | _ => true)

/-- The first instruction of an entry that fails check 3. -/
def ruleBad (gate : Bool) (code : List (BitVec 64)) : Option Nat :=
  (List.range code.length).find? fun k => !(ruleOk gate code.length k ((code.getD k 0).toNat))

/-- Instructions from offset `o` of an image. -/
def ruleCode (bs : List Byte) (o n : Nat) : List (BitVec 64) := (List.range n).map fun k => BitVec.ofNat 64 (imgLe bs (o + 8 * k) 8)

/-- R363: the golden sets from offset `o`: the sets, the offset after them, and whether every padding byte is zero. -/
def ruleSets (bs : List Byte) : Nat → Nat → List GoldenSet × Nat × Bool
  | 0, o => ([], o, true)
  | n + 1, o =>
    let mask := imgLe bs o 2
    let segs := bitsOf 16 mask
    let len := 32 * segs.length
    let ds := (segs.zipIdx).foldl (fun t x => spSet 0 t x.1 (imgLe bs (o + 64 + 32 * x.2) 32)) []
    let (rest, e, ok) := ruleSets bs n (o + 64 + pad64 len)
    (⟨mask, ds⟩ :: rest, e, ok && zeros bs (o + 2) 62 && zeros bs (o + 64 + len) (pad64 len - len))

/-- R363, R364, check 2: the parts of an image body, its data words, or none where lengths or zero bytes are wrong. -/
def ruleParse (bs : List Byte) : Option (RuleImage × List (Nat × Nat)) :=
  let h := imgLe bs 0 64
  let g := h % 128
  let e := h / 2 ^ 16 % 128
  let f := h / 2 ^ 32 % 2048
  let n := h / 2 ^ 48 % 32
  let w := h / 2 ^ 64 % 8192
  let clean := h == g + e * 2 ^ 16 + f * 2 ^ 32 + n * 2 ^ 48 + w * 2 ^ 64
  let range := decide (1 ≤ g) && decide (g ≤ 80) && decide (1 ≤ e) && decide (e ≤ 80) && decide (1 ≤ f) && decide (f ≤ 1024) &&
    decide (n ≤ 16) && decide (w ≤ 4096)
  let oe := 64 + pad64 (8 * g)
  let of := oe + pad64 (8 * e)
  let od := of + pad64 (8 * f)
  let os := od + pad64 (4 * w)
  let pads := zeros bs (64 + 8 * g) (pad64 (8 * g) - 8 * g) && zeros bs (oe + 8 * e) (pad64 (8 * e) - 8 * e) &&
    zeros bs (of + 8 * f) (pad64 (8 * f) - 8 * f) && zeros bs (od + 4 * w) (pad64 (4 * w) - 4 * w)
  if clean && range && decide (64 ≤ bs.length) then
    let (sets, fin, ok) := ruleSets bs n os
    if fin = bs.length ∧ ok = true ∧ pads = true then
      some (⟨ruleCode bs 64 g, ruleCode bs oe e, ruleCode bs of f, sets⟩, spTabulate 0 w fun k => imgLe bs (od + 4 * k) 4)
    else none
  else none

/-- R364, check 3: the RESULT of the first failing instruction. -/
def ruleFault (r : RuleImage) : Option Nat :=
  match ruleBad true r.gate, ruleBad false r.event, ruleBad false r.frame with
  | some k, _, _ => some (k * 2 ^ 16)
  | none, some k, _ => some (1 + k * 2 ^ 16)
  | none, none, some k => some (2 + k * 2 ^ 16)
  | none, none, none => none

/-- PB_LOAD (R364). -/
def pbLoadBody (s : State) (c : Cmd) : State × Option Reply :=
  if !s.loading then (s, some (denied 1))
  else if !(s.exchange c.ctx (c.w64 4) c.len) then (s, some (denied 4))
  else
    let bs := s.rdBytes (c.w64 4) c.len
    if !(signedOk bs 4 1 s.ident.owner) then (s, some (badSignature 0))
    else match ruleParse (bs.take (bs.length - 3392)) with
      | none => (s, some (lenRange 1))
      | some (r, data) =>
        match ruleFault r with
        | some x => (s, some ⟨1, 2, x, none⟩)
        | none =>
          if s.plumb.loaded then (s, some (conflict 0))
          else
            let s := { s with plumb := { s.plumb with
              rules := some r
              loaded := true
              data := data } }
            let s := { s with ident := { s.ident with ruleDigest := blockDigest bs } }
            (s.extend 4 (blockDigest bs), some Reply.ok)

def execPbLoad (ring : BitVec 14) (d : Desc) (s : State) : Host.Outcome State Fault Refusal :=
  .next (s.command ring d 0x0801 pbLoadBody)

/-- An instruction word of a rule. -/
def rins (op rd ra rb imm : Nat) : BitVec 64 :=
  BitVec.ofNat 64 (B.RINS_OP.put op + B.RINS_RD.put rd + B.RINS_RA.put ra + B.RINS_RB.put rb + B.RINS_IMM.put imm)

/-- R359: the default rule image. The verdicts are those of Table PB-2; the instructions that give them are this model's (entry 18). -/
def defaultRules : RuleImage :=
  let sum (codes : List Nat) : List (BitVec 64) := codes.flatMap fun k => [rins 0x06 1 0 0 k, rins 0x0A 2 2 1 0]
  { gate := [rins 0x02 1 0 0 0, rins 0x0C 1 1 0 16, rins 0x01 2 0 0 0xFFFF, rins 0x09 1 1 2 0, rins 0x01 2 0 0 0xF, rins 0x0B 1 1 2 0,
      rins 0x19 0 1 0 1, rins 0x1A 0 0 0 1, rins 0 0 0 0 0]
    event := sum [0x05, 0x06, 0x07, 0x08, 0x09, 0x0F, 0x11, 0x12, 0x14, 0x15, 0x16, 0x18, 0x1C] ++ [rins 0x18 0 2 0 1, rins 0x1A 0 0 0 0xB] ++
      [rins 0x01 2 0 0 0] ++ sum [0x0E, 0x19] ++ [rins 0x18 0 2 0 1, rins 0x1A 0 0 0 2, rins 0 0 0 0 0]
    frame := [rins 0 0 0 0 0]
    sets := [] }

/-! ## Clearing and release -/

/-- Table PB-5: whether a latched class blocks PB_RELEASE. -/
def State.classBlocks (s : State) (k : Nat) : Bool :=
  let p := s.plumb
  match k with
  | 1 | 4 => true
  | 2 => p.clockBad || p.rbBad || p.supplyBad
  | 5 => !p.passed5
  | 6 => !p.passed6
  | 7 => !p.planSince
  | _ => false

def State.latched (s : State) : List Nat := (bitsOf 9 (s.fld F.PB_STATUS_CAUSES)).map fun i => i + 1

/-- R371: the reason a command is refused: not in S7, a class that blocks it, no WDI edge. -/
def State.refusedReply (s : State) (blocking : List Nat) : Reply :=
  ⟨0x11, if s.done ≠ 7 then 0x10 else blocking.headD 0x11, 0, none⟩

/-- R371: the module returns to DM0 with nothing latched. -/
def State.toDm0 (s : State) : State :=
  let s := if s.fld F.PB_STATUS_MODE = 0 then s else (s.setFld F.PB_STATUS_FRAME 0 s.frameNum).attn F.TH_ATTN_PLUMB
  let s := ((s.setFld F.PB_STATUS_MODE 0 0).setFld F.PB_STATUS_CAUSE 0 0).setFld F.PB_STATUS_CAUSES 0 0
  { s with plumb := { s.plumb with
    ruleMode := 0
    dm2At := none } }

/-- PB_CLEAR (R371). -/
def pbClearBody (s : State) (_ : Cmd) : State × Option Reply :=
  if s.fld F.PB_STATUS_MODE = 0 then (s, some Reply.ok)
  else
    let blocking := s.latched.filter fun k => k != 8 || s.plumb.ruleMode != 1
    if s.fld F.PB_STATUS_MODE = 1 ∧ blocking.isEmpty then (s.toDm0, some Reply.ok)
    else (s, some (s.refusedReply blocking))

def execPbClear (ring : BitVec 14) (d : Desc) (s : State) : Host.Outcome State Fault Refusal :=
  .next (s.command ring d 0x0802 pbClearBody)

/-- PB_RELEASE (R371). -/
def pbReleaseBody (s : State) (_ : Cmd) : State × Option Reply :=
  let blocking := s.latched.filter s.classBlocks
  if s.done = 7 ∧ blocking.isEmpty ∧ s.wdiOk = true then
    let s := { s with plumb := { s.plumb with
      lineA := true
      lineB := true
      rbDue := if s.plumb.lineA && s.plumb.lineB then s.plumb.rbDue else s.plumb.rbDue ++ [s.clk.sclk + 4]
      releasedAt := some s.clk.sclk
      pulses := [] } }
    let s := ((s.toDm0.setFld F.PB_STATUS_STOP_A 0 0).setFld F.PB_STATUS_STOP_B 0 0).setFld F.PB_STATUS_GATE_OPEN 0 1
    (s.bump F.PB_COUNTS_RELEASES, some Reply.ok)
  else (s, some (s.refusedReply blocking))

def execPbRelease (ring : BitVec 14) (d : Desc) (s : State) : Host.Outcome State Fault Refusal :=
  .next (s.command ring d 0x0803 pbReleaseBody)

end Sys2Proof.Machine
end

