-- ==== Sys2Proof/Machine/Image.lean ====
section
/-! DEFINITION. The line buffer, the engine broadcast and the feature-map codec (08): what a unit of an image view holds and
what a codec block codes. -/

namespace Sys2Proof.Machine

/-! ## Views -/

/-- R189: core, descriptor, tile and generated row of an image-view address. -/
def imageView (a : Nat) : Option (Nat × Nat × Nat × Nat) :=
  if 0x0090_0000_0000 ≤ a ∧ a < 0x00A0_0000_0000 then
    let v := a - 0x0090_0000_0000
    some (v / 0x1_0000_0000, v % 0x1_0000_0000 / 0x1000_0000, v % 0x1000_0000 / 0x10_0000, v % 0x10_0000 / 64)
  else none

/-- R202: a flag of Table IM-6 is set by a transfer of core `c`. -/
def State.imgFlag (s : State) (c desc part b : Nat) : State :=
  let s := s.setReg R.PL_IMG_STATUS c (s.reg R.PL_IMG_STATUS c ||| BitVec.ofNat 64 (2 ^ b))
  let s := (s.setFld F.PL_IMG_STATUS_LAST_DESC c desc).setFld F.PL_IMG_STATUS_LAST_PART c part
  let s := if part < 2 then s.raise 0x08 (c + 256 * b) else s
  s.record 0x0C (0x300 + c) (words [3, c, b, part, desc, s.fld F.PL_STEP_STEP])

/-! ## Image descriptors -/

/-- Bits of an element: INT4, INT8, UINT8, INT16, FP16. -/
def imgBits (efmt : Nat) : Nat := [4, 8, 8, 16, 16].getD efmt 8

def idx (d : Nat) (b : Bits) : Nat := b.get d

/-- R191, R194, R197: the descriptor is bad for tile `t`. -/
def imgBad (d t : Nat) : Bool :=
  let g := idx d
  let mode := g B.IDESC_MODE
  let efmt := g B.IDESC_EFMT
  let range (b : Bits) (lo hi : Nat) : Bool := decide (lo ≤ g b) && decide (g b ≤ hi)
  let fields := decide (g B.IDESC_LB_BASE ≤ 786431) && decide (1 ≤ g B.IDESC_ROW_PITCH) && decide (1 ≤ g B.IDESC_LB_ROWS) &&
    range B.IDESC_IN_W 1 4096 && range B.IDESC_IN_H 1 4096 && range B.IDESC_OUT_W 1 4096 && range B.IDESC_STRIPE_ROWS 1 256 &&
    range B.IDESC_IN_C 1 4096 && range B.IDESC_C_TOT 1 4096 && decide (g B.IDESC_CH_OFF + g B.IDESC_IN_C ≤ g B.IDESC_C_TOT) &&
    range B.IDESC_KH 1 15 && range B.IDESC_KW 1 15
  let perMode :=
    if mode = 0 then
      let q := [1, 2, 2, 4].getD efmt 0
      let k := g B.IDESC_IN_C * g B.IDESC_KH * g B.IDESC_KW
      let area := g B.IDESC_STRIPE_ROWS * g B.IDESC_OUT_W
      decide (efmt < 4) && decide (q * k ≤ 16384) && decide (g B.IDESC_POS_OFF < area) &&
        decide (area - g B.IDESC_POS_OFF ≤ 32768)
    else if mode = 1 then decide (t = 0)
    else decide (1 ≤ efmt) && decide (efmt ≤ 3)
  decide (mode = 3) || decide (4 < efmt) || !fields || !perMode

/-! ## The ring -/

/-- An element read: its bits, whether its unit was poisoned or refused, a halo miss, and the address of a violation. -/
structure ImgElem where
  val    : Nat
  poison : Bool
  halo   : Bool
  viol   : Option Nat
deriving DecidableEq, Repr

def ImgElem.zero : ImgElem := ⟨0, false, false, none⟩

/-- R192, R193: element `ci` of pixel (iy, ix) of the map held in the ring of core `c`, read for partition `part`. -/
def State.imgElem (s : State) (c part d : Nat) (iy ix : Int) (ci : Nat) : ImgElem :=
  let g := idx d
  let w := imgBits (g B.IDESC_EFMT)
  if iy < 0 ∨ (g B.IDESC_IN_H : Int) ≤ iy ∨ ix < 0 ∨ (g B.IDESC_IN_W : Int) ≤ ix then ⟨g B.IDESC_PAD_VAL % 2 ^ w, false, false, none⟩
  else
    let y := iy.toNat
    if y < g B.IDESC_ROW_LO ∨ g B.IDESC_ROW_LO + g B.IDESC_LB_ROWS ≤ y then ⟨0, true, true, none⟩
    else
      let slot := y % g B.IDESC_LB_ROWS
      let bitOff := (ix.toNat * g B.IDESC_C_TOT + ci) * w
      let a := coreBase c + 32 * (g B.IDESC_LB_BASE + slot * g B.IDESC_ROW_PITCH) + bitOff / 8
      if (s.tagOf a).reads part then ⟨s.rdLe a ((w + 7) / 8) / 2 ^ (bitOff % 8) % 2 ^ w, s.poisonAt a, false, none⟩
      else ⟨0, true, false, some a⟩

/-- A generated unit: its 512 bits, its poison, and what its elements met. -/
structure ImgUnit where
  val    : Nat
  poison : Bool
  halo   : Bool
  box    : Bool
  viol   : Option Nat
deriving DecidableEq, Repr

def ImgUnit.zero : ImgUnit := ⟨0, false, false, false, none⟩

/-- Puts element `e` at bit position `p` of a unit. -/
def ImgUnit.add (u : ImgUnit) (p : Nat) (e : ImgElem) : ImgUnit :=
  { u with val := u.val + e.val * 2 ^ p
           poison := u.poison || e.poison
           halo := u.halo || e.halo
           viol := u.viol.or e.viol }

/-! ## The modes -/

/-- R194: nibble `i` of generated row `g` of tile `t` in IM2COL mode. -/
def State.im2colElem (s : State) (c part d t g i : Nat) : ImgElem :=
  let f := idx d
  let k := f B.IDESC_IN_C * f B.IDESC_KH * f B.IDESC_KW
  let p := f B.IDESC_POS_OFF + 128 * t + i
  if f B.IDESC_STRIPE_ROWS * f B.IDESC_OUT_W ≤ p then ImgElem.zero
  else
    let q := g / k
    let r := g % k
    let tap := r / f B.IDESC_IN_C
    let ci := f B.IDESC_CH_OFF + r % f B.IDESC_IN_C
    let ky := tap / f B.IDESC_KW
    let kx := tap % f B.IDESC_KW
    let oy := f B.IDESC_Y0 + p / f B.IDESC_OUT_W
    let ox := p % f B.IDESC_OUT_W
    let iy : Int := (oy * (f B.IDESC_SH + 1) : Nat) - (f B.IDESC_PAD_T : Nat) + (ky * (f B.IDESC_DH + 1) : Nat)
    let ix : Int := (ox * (f B.IDESC_SW + 1) : Nat) - (f B.IDESC_PAD_L : Nat) + (kx * (f B.IDESC_DW + 1) : Nat)
    let e := s.imgElem c part d iy ix ci
    { e with val := e.val / 2 ^ (4 * q) % 16 }

/-- R194: a generated row in IM2COL mode. -/
def State.im2colUnit (s : State) (c part d t g : Nat) : ImgUnit :=
  let f := idx d
  let q := [1, 2, 2, 4].getD (f B.IDESC_EFMT) 0
  if q * (f B.IDESC_IN_C * f B.IDESC_KH * f B.IDESC_KW) ≤ g then ImgUnit.zero
  else (List.range 128).foldl (fun u i => u.add (4 * i) (s.im2colElem c part d t g i)) ImgUnit.zero

/-- R196: a generated row in PAD mode. -/
def State.padUnit (s : State) (c part d g : Nat) : ImgUnit :=
  let f := idx d
  let w := imgBits (f B.IDESC_EFMT)
  let n := (f B.IDESC_IN_W + 2 * f B.IDESC_PAD_L) * f B.IDESC_C_TOT
  let upr := (n * w + 511) / 512
  let row := g / upr
  if f B.IDESC_STRIPE_ROWS ≤ row then ImgUnit.zero
  else
    let iy : Int := (f B.IDESC_Y0 : Nat) - (f B.IDESC_PAD_T : Nat) + (row : Nat)
    (List.range (512 / w)).foldl (fun u i =>
      let j := g % upr * (512 / w) + i
      if n ≤ j then u
      else u.add (w * i) (s.imgElem c part d iy ((j / f B.IDESC_C_TOT : Nat) - (f B.IDESC_PAD_L : Nat)) (j % f B.IDESC_C_TOT)))
      ImgUnit.zero

/-- An element as the signed or unsigned number of its format. -/
def imgVal (efmt v : Nat) : Int := if efmt = 2 then v else asSigned (imgBits efmt) v

/-- R197: output element `j`, in the order u, v, ci, of a box in CROP mode. -/
def State.cropElem (s : State) (c part d : Nat) (y0 x0 y1 x1 : Int) (j : Nat) : ImgElem :=
  let f := idx d
  let efmt := f B.IDESC_EFMT
  let w := imgBits efmt
  let oh := f B.IDESC_OH + 1
  let ow := f B.IDESC_OW + 1
  let ci := f B.IDESC_CH_OFF + j % f B.IDESC_IN_C
  let v := j / f B.IDESC_IN_C % ow
  let u := j / f B.IDESC_IN_C / ow
  let dy := (y1 - y0) / (oh : Int)
  let dx := (x1 - x0) / (ow : Int)
  let y := y0 + u * dy + dy / 2 - 32768
  let x := x0 + v * dx + dx / 2 - 32768
  let iy := y / 65536
  let fy := y / 256 % 256
  let ix := x / 65536
  let fx := x / 256 % 256
  let e (a b : Int) := s.imgElem c part d (iy + a) (ix + b) ci
  let e00 := e 0 0
  let e01 := e 0 1
  let e10 := e 1 0
  let e11 := e 1 1
  let sum := (256 - fy) * (256 - fx) * imgVal efmt e00.val + (256 - fy) * fx * imgVal efmt e01.val +
    fy * (256 - fx) * imgVal efmt e10.val + fy * fx * imgVal efmt e11.val
  let lo : Int := if efmt = 2 then 0 else -(2 ^ (w - 1))
  let hi : Int := if efmt = 2 then 2 ^ w - 1 else 2 ^ (w - 1) - 1
  ⟨ofSigned w (min hi (max lo (rneDivInt sum 65536))), e00.poison || e01.poison || e10.poison || e11.poison,
    e00.halo || e01.halo || e10.halo || e11.halo, ((e00.viol.or e01.viol).or e10.viol).or e11.viol⟩

/-- R197: a generated row in CROP mode. -/
def State.cropUnit (s : State) (c part d t g : Nat) : ImgUnit :=
  let f := idx d
  let w := imgBits (f B.IDESC_EFMT)
  let b := f B.IDESC_BOX_FIRST + t
  if f B.IDESC_BOX_COUNT ≤ b then ImgUnit.zero
  else
    let a := coreBase c + 32 * f B.IDESC_BOX_ADDR + 16 * b
    if !((s.tagOf a).reads part) then { ImgUnit.zero with poison := true, viol := some a }
    else
      let co (k : Nat) : Int := asSigned 32 (s.rdLe (a + 4 * k) 4)
      let total := (f B.IDESC_OH + 1) * (f B.IDESC_OW + 1) * f B.IDESC_IN_C
      if co 2 ≤ co 0 ∨ co 3 ≤ co 1 then { ImgUnit.zero with box := true }
      else
        let u := (List.range (512 / w)).foldl (fun u i =>
          let j := g * (512 / w) + i
          if total ≤ j then u else u.add (w * i) (s.cropElem c part d (co 0) (co 1) (co 2) (co 3) j)) ImgUnit.zero
        { u with poison := u.poison || s.poisonAt a }

/-- R190–R197: unit `g` of tile `t` through the descriptor `d`, not bad, of core `c`. -/
def State.imgUnit (s : State) (c part d t g : Nat) : ImgUnit :=
  match idx d B.IDESC_MODE with
  | 0 => s.im2colUnit c part d t g
  | 1 => s.padUnit c part d g
  | _ => s.cropUnit c part d t g

/-! ## The codec -/

/-- R199: the smallest shift 0–6 that holds a range. -/
def codecShift (r : Nat) : Nat := ((List.range 7).find? fun s => decide (r ≤ 7 * 2 ^ s)).getD 6

/-- R199, Table IM-3: a sub-block of 16 elements coded into eight bytes. -/
def codecEncodeSub (signed : Bool) (xs : List Nat) : Nat :=
  let val (v : Nat) : Int := if signed then asSigned 8 v else v
  let vs := xs.map val
  let lo := vs.foldl min (vs.headD 0)
  let hi := vs.foldl max (vs.headD 0)
  let sh := codecShift (hi - lo).toNat
  let q := vs.mapIdx fun n v => (rneDivInt (v - lo) (2 ^ sh)).toNat * 2 ^ (3 * n + 16)
  ofSigned 8 lo + sh * 2 ^ 8 + q.foldl (· + ·) 0

/-- R199: the 16 elements that a sub-block codes. -/
def codecDecodeSub (signed : Bool) (v : Nat) : List Nat :=
  let base : Int := if signed then asSigned 8 (v % 256) else (v % 256 : Nat)
  let sh := v / 256 % 8
  let lo : Int := if signed then -128 else 0
  let hi : Int := if signed then 127 else 255
  (List.range 16).map fun n => ofSigned 8 (min hi (max lo (base + ((v / 2 ^ (3 * n + 16) % 8 * 2 ^ sh : Nat) : Int))))

/-- R198: 64 elements to a 32-byte block. -/
def codecEncode (signed : Bool) (bs : List Byte) : List Byte :=
  (List.range 4).flatMap fun j => leBytes 8 (codecEncodeSub signed (((bs.drop (16 * j)).take 16).map BitVec.toNat))

/-- R198: a 32-byte block to 64 elements. -/
def codecDecode (signed : Bool) (bs : List Byte) : List Byte :=
  (List.range 4).flatMap fun j => (codecDecodeSub signed (leNat ((bs.drop (8 * j)).take 8))).map (BitVec.ofNat 8)

end Sys2Proof.Machine
end

