-- ==== Sys2Proof/Machine/Sched.lean ====
section
/-! DEFINITION. Frames, the cyclic schedule and golden slots (09): frame starts, the condition writes of a start and of a
release, and the golden judgement. -/

namespace Sys2Proof.Machine

/-! ## The cyclic schedule -/

/-- R210: the schedule entry of partition `p` for frame `f`, if it has a table. -/
def State.schedEntry (s : State) (p f : Nat) : Option (BitVec 64) :=
  let n := s.fld F.SP_SCHED_CFG_LEN p
  if n = 0 then none else some (s.reg R.SP_SCHED_ENT (256 * p + f % n))

/-- R210: writes the FLAGS of partition `p`'s entry for frame `f` to its schedule register, in ACLK cycle `t`. -/
def State.schedWrite (s : State) (f p t : Nat) : State :=
  match s.schedEntry p f with
  | some e => s.condIn (s.fld F.SP_SCHED_CFG_COND p) (F.SP_SCHED_ENT_FLAGS.get e) t
  | none => s

/-- R214: the P0 entry of frame `f` has GOLDEN set. -/
def State.goldenFrame (s : State) (f : Nat) : Bool :=
  match s.schedEntry 0 f with
  | some e => F.SP_SCHED_ENT_GOLDEN.get e == 1
  | none => false

/-- Table SP-15: DUE and RAN speak of the frame whose judgement is next. -/
def State.goldenStatus (s : State) : State :=
  match s.sched.golden with
  | [] => (s.setFld F.SP_GOLDEN_STATUS_DUE 0 0).setFld F.SP_GOLDEN_STATUS_RAN 0 0
  | g :: _ =>
    if !(s.flag F.SP_GOLDEN_CFG_EN) then (s.setFld F.SP_GOLDEN_STATUS_DUE 0 0).setFld F.SP_GOLDEN_STATUS_RAN 0 0 else (s.setFld F.SP_GOLDEN_STATUS_DUE 0 1).setFld F.SP_GOLDEN_STATUS_RAN 0 (bit g.ran)

/-! ## Frame starts -/

/-- Table PL-10: FRAME_GO starts the frame stream at FRAME_ENTRY with the frame start of ACLK cycle `t`. -/
def State.goNow (s : State) (t : Nat) : State :=
  if s.ridge.goArmed then
    let s := { s with ridge := { s.ridge with
      goArmed := false
      starts := []
      released := none
      runFrom := t
      frame := { StreamState.reset with ptr := s.fld F.PL_ENTRY_FRAME_ENTRY, freeAt := t } } }
    s.setStreamState .frame 1
  else s

/-- R217: the regions as the registers give them come into force; transfers that have started keep those they started under. -/
def State.newRegions (s : State) : State :=
  let old := s.sched.regions
  let new := spTabulate 0 32 fun i => s.reg R.SP_REGION i
  let s := { s with sched := { s.sched with regions := new } }
  if new = old then s
  else { s with stow := { s.stow with
    queues := s.stow.queues.map fun q => (q.1, q.2.map fun x => { x with tags := some (x.tags.getD old) }) } }

/-- R239: frame `f` starts: it passes the synchroniser into the GPIO domain in 2 or 3 cycles (R238; which is open), and each frame-trigger pin
whose turn it is counts its OFFSET from there, again where it was counting. -/
def State.pinFrame (s : State) (f : Nat) : State :=
  let t := s.portTime 26 + 2 + Config.freeFn 80 [f] % 2
  (List.range 32).foldl (fun (s : State) g =>
    if s.fld F.SN_GPIO_MODE g = 2 ∧ f % (s.fld F.SN_GPIO_EVERY g + 1) = 0 then
      { s with sensors := { s.sensors with offset := spSet 0 s.sensors.offset g (t + 1) } }
    else s) s

/-- R360: the start of frame `f` reaches SCLK after a crossing whose length is open (entry 17), and the frame entry falls due FRAME_OFS later. -/
def State.plumbFrame (s : State) (f : Nat) : State :=
  { s with plumb := { s.plumb with frameDue := s.plumb.frameDue ++ [s.clk.sclk + Config.freeFn 84 [f] + s.fld F.PB_CFG_FRAME_OFS] } }

/-- R206–R208, R210, R217, R219: a frame starts in ACLK cycle `t`, in free-run or on an accepted edge; an edge may itself carry
the unsynced state of the module that sent it (R506). -/
def State.frameStart (s : State) (free unsynced : Bool) (t : Nat) : State :=
  let synced := !unsynced
  -- LAST_INTERVAL lies between two frame starts.
  let s := match s.sched.lastStart with
    | some u => if s.frameNum = 0 then s else s.setFld F.SP_FRAME_STATUS_LAST_INTERVAL 0 (min (2 ^ 27 - 1) (t - u))
    | none => s
  let s := s.count F.SP_FRAME_NUM_NUM
  let f := s.frameNum
  let s := (s.setFld F.SP_FRAME_STATUS_UNSYNCED 0 (bit !synced)).setFld F.PL_STATUS_UNSYNCED 0 (bit !synced)
  let s := if unsynced then s.bump F.SP_SYNC_COUNTS_FREE_FRAMES else s
  let s := (List.range 4).foldl (fun s k => s.setFld F.SP_CLASS_FRAME_LINES k (min (2 ^ 32 - 1) (spGet 0 s.sched.frameLines k))) s
  let s := { s with sched := { s.sched with
    lastStart := some t
    freeRun := free
    frameLines := []
    free := none } }
  let s := (s.newRegions.record 0x02 0 (words [bit synced])).pinFrame f |>.plumbFrame f
  let s := [2, 3, 4, 5, 6, 7].foldl (fun (s : State) p => s.schedWrite f p t) s
  let s := s.tlSync
  let s := s.goNow t
  let s := if s.fld F.PL_STATUS_FRAME_STATE = 1 then { s with ridge := { s.ridge with starts := s.ridge.starts ++ [⟨f, t⟩] } } else s
  if s.goldenFrame f then
    let s : State := { s with sched := { s.sched with
      golden := s.sched.golden ++ [(⟨f, t, none, false, false, false, none, none⟩ : GoldenDue)] } }
    s.goldenStatus
  else s

/-- R206: the ACLK cycle in which a frame starts unless an edge is accepted by then. -/
def State.freeDue (s : State) : Option Nat :=
  s.sched.lastStart.map fun t => t + s.fld F.SP_FRAME_CFG_LEN + (if s.sched.freeRun then 0 else s.fld F.SP_SYNC_CFG_LOSS)

/-- R206: the free-run start of ACLK cycle `t`, which may be the entry into free-run. -/
def State.freeStart (s : State) (t : Nat) : State :=
  let x : FreeStart := ⟨t, s.reg R.SP_SYNC_COUNTS, s.reg R.SP_FRAME_STATUS, s.reg R.TH_ATTN⟩
  let s := if s.sched.freeRun then s
    else ((s.bump F.SP_SYNC_COUNTS_LOSSES).setFlag F.SP_FRAME_STATUS_LOST).attn F.TH_ATTN_SYNC_LOST
  let s := s.frameStart true true t
  { s with sched := { s.sched with free := some x } }

/-- R206: the free-run starts that fell due before the present cycle, at most `n`. -/
def State.catchFree : Nat → State → State
  | 0, s => s
  | n + 1, s =>
    match s.freeDue with
    | some t => if t < s.clk.aclk then State.catchFree n (s.freeStart t) else s
    | none => s

/-- The starts that can have fallen due since the last one. -/
def State.freeMissed (s : State) : Nat :=
  match s.sched.lastStart with
  | some t => (s.clk.aclk - t) / max 1 (s.fld F.SP_FRAME_CFG_LEN)
  | none => 0

/-- R206: an edge accepted in the cycle of a free-run start makes that one frame synced: what the start counted is taken back. -/
def State.tieStart (s : State) (x : FreeStart) (unsynced : Bool) : State :=
  let n := F.SP_SYNC_COUNTS_LOSSES.get x.counts
  let s := s.setFld F.SP_SYNC_COUNTS_LOSSES 0 n
  let s := s.setFld F.SP_FRAME_STATUS_LOST 0 (F.SP_FRAME_STATUS_LOST.get x.status)
  let s := s.setFld F.TH_ATTN_SYNC_LOST 0 (F.TH_ATTN_SYNC_LOST.get x.attn)
  let s := s.setFld F.TH_ATTN_PIN 0 (if (s.reg R.TH_ATTN).toNat % 256 &&& (s.reg R.TH_ATTN).toNat / 256 % 256 != 0
    then s.fld F.TH_ATTN_PIN else F.TH_ATTN_PIN.get x.attn)
  let s := if unsynced then s
    else (((s.setFld F.SP_SYNC_COUNTS_FREE_FRAMES 0 (F.SP_SYNC_COUNTS_FREE_FRAMES.get x.counts)).setFld
      F.SP_FRAME_STATUS_UNSYNCED 0 0).setFld F.PL_STATUS_UNSYNCED 0 0)
  let old := words [0]
  { s with
    sched := { s.sched with freeRun := false, free := none }
    book := { s.book with merge := s.book.merge.map fun (r : BookRec) =>
      if r.kind = 0x02 ∧ r.frame = s.frameNum ∧ r.payload = old then { r with payload := words [bit !unsynced] } else r }
    tether := s.tether.map fun q => (q.1, q.2.resync s.frameNum unsynced) }

/-- R205, R206, R506: an edge of the selected source leaves the synchroniser. Frames start only once the S6 commit has set EN, and in
replay only from FRAME records (R487). -/
def State.syncEdge (s : State) (unsynced : Bool := false) : State :=
  if s.flag F.SP_FRAME_CFG_EN && !(s.flag F.FB_STATUS_REPLAYING) then
    let s := s.catchFree s.freeMissed
    let now := s.clk.aclk
    match s.sched.lastStart, s.sched.free with
    | some t, some x =>
      if t = now ∧ x.cyc = now then s.tieStart x unsynced
      else if t + s.fld F.SP_SYNC_CFG_MIN_GAP ≤ now then s.frameStart false unsynced now
      else (s.bump F.SP_SYNC_COUNTS_EARLY).record 0x03 0 []
    | some t, none =>
      if t + s.fld F.SP_SYNC_CFG_MIN_GAP ≤ now then s.frameStart false unsynced now
      else (s.bump F.SP_SYNC_COUNTS_EARLY).record 0x03 0 []
    | none, _ => s.frameStart false unsynced now
  else s

/-- SYNC_EDGE (R204, R205): after `dt` ACLK cycles an edge of the SYNC pin leaves the synchroniser. -/
def execSyncEdge (dt : Nat) (s : State) : Host.Outcome State Fault Refusal :=
  if s.coreDark then .next s
  else
  let s := s.tickA dt
  .next (if s.fld F.SP_FRAME_CFG_SRC = 0 then s.syncEdge else s)

/-- FREE_RUN_FRAME_START (R206): after `dt` ACLK cycles, no edge having been accepted in time, a frame starts unsynced in the cycle in
which it fell due. -/
def execFreeRunFrameStart (dt : Nat) (s : State) : Host.Outcome State Fault Refusal :=
  if s.coreDark then .next s
  else
  let s := s.tickA dt
  if s.flag F.SP_FRAME_CFG_EN && !(s.flag F.FB_STATUS_REPLAYING) then
    match s.freeDue with
    | some t =>
      if t ≤ s.clk.aclk then .next (s.freeStart t) else .next s
    | none => .next s
  else .next s

/-! ## Releases -/

/-- R210, R214: the condition writes in the cycle `t` in which FRAME_WAIT releases frame `f`. -/
def State.releaseWrites (s : State) (f t : Nat) : State :=
  let s := (s.schedWrite f 0 t).schedWrite f 1 t
  if s.fld F.SP_GOLDEN_CFG_WINDOW = 0 then s
  else s.condIn (s.fld F.SP_GOLDEN_CFG_COND) (bit !(s.goldenFrame f)) t

/-- R48: FRAME_WAIT releases, in cycle `cyc`, the newest start that waits by then, and counts those it skips. -/
def State.releaseFrame (s : State) (cyc : Nat) : State :=
  let waits := s.ridge.starts.filter fun x => decide (x.cyc ≤ cyc)
  match waits.getLast? with
  | none => s
  | some x =>
    let n := waits.length - 1
    let s := { s with ridge := { s.ridge with
      starts := s.ridge.starts.filter fun x => decide (cyc < x.cyc)
      released := some x } }
    let s := if n = 0 then s else (s.bump F.PL_COUNTS_FRAME_LATE 0 n).raise 0x04 n
    let s := { s with sched := { s.sched with
      golden := s.sched.golden.map fun (g : GoldenDue) =>
        if g.num = x.num then { g with released := some cyc }
        else if g.num < x.num ∧ g.passed = none then { g with passed := some cyc } else g } }
    s.releaseWrites x.num cyc

/-! ## The golden slot -/

/-- R214: ACLK cycle OFFSET + SLACK, counted from a frame's start. -/
def State.skipAt (s : State) (g : GoldenDue) : Nat := g.cyc + s.fld F.SP_GOLDEN_CFG_OFFSET + s.fld F.SP_GOLDEN_CFG_SLACK

/-- R214, R215: the golden OPEN of the released frame issues in ACLK cycle `t`; the window has run if that is by the cycle of the
judgement. A window that opens after its judgement leaves the cause LATE. -/
def State.goldenOpened (s : State) (f t : Nat) : State :=
  if s.sched.golden.any fun g => g.num == f then
    let s : State := { s with sched := { s.sched with
      golden := s.sched.golden.map fun (g : GoldenDue) =>
        if g.num = f then { g with ran := decide (t ≤ s.skipAt g + 1), opened := some t } else g } }
    s.goldenStatus
  else if s.goldenFrame f && s.flag F.SP_GOLDEN_CFG_EN && s.fld F.SP_GOLDEN_STATUS_DEFER_RUN != 0 then
    s.setFld F.SP_GOLDEN_STATUS_LAST_CAUSE 0 4
  else s

/-- R215, Table SP-4: a golden OPEN came due while a window that claims its resources was open. -/
def State.goldenOverrun (s : State) (f : Nat) : State :=
  { s with sched := { s.sched with
    golden := s.sched.golden.map fun (g : GoldenDue) => if g.num = f then { g with overrun := true } else g } }

/-- R214: the write of 1 is due for this frame. It is not made if the OPEN has issued, or a later frame been released, by that
cycle. -/
def State.skipDue (s : State) (g : GoldenDue) : Bool :=
  decide (s.skipAt g ≤ s.clk.aclk) && !g.skip && !(g.opened.any fun t => decide (t ≤ s.skipAt g)) &&
    !(g.passed.any fun t => decide (t ≤ s.skipAt g))

/-- GOLDEN_SKIP_DEADLINE (R214): after `dt` ACLK cycles, at OFFSET + SLACK of a golden frame whose OPEN has not issued,
Ridgepole writes 1 to the skip register. -/
def execGoldenSkipDeadline (dt : Nat) (s : State) : Host.Outcome State Fault Refusal :=
  if s.coreDark then .next s
  else
  let s := s.tickA dt
  match s.sched.golden.find? s.skipDue with
  | none => .next s
  | some x =>
    let s := { s with sched := { s.sched with
      golden := s.sched.golden.map fun (g : GoldenDue) => if g.num = x.num then { g with skip := true } else g } }
    .next (if s.fld F.SP_GOLDEN_CFG_WINDOW = 0 then s else s.condIn (s.fld F.SP_GOLDEN_CFG_COND) 1 (s.skipAt x))

/-- Table SP-4: the frame stream was running at the end of ACLK cycle `t`. -/
def State.ranAt (s : State) (t : Nat) : Bool :=
  if s.fld F.PL_STATUS_FRAME_STATE = 1 then decide (s.ridge.runFrom ≤ t)
  else decide (s.ridge.runFrom ≤ t) && decide (t < s.ridge.stopFrom)

/-- Table SP-4: the cause of a deferral, the first of STOPPED, FRAME_LATE, OVERRUN and LATE. -/
def State.deferCause (s : State) (g : GoldenDue) : Nat :=
  if s.ranAt (s.skipAt g + 1) = false then 3
  else match g.released with
    | none => 2
    | some t => if s.skipAt g < t then 2 else if g.overrun then 1 else 4

/-- R215: the judgement of one golden frame. -/
def State.judgeGolden (s : State) (g : GoldenDue) : State :=
  if g.ran then s.setFld F.SP_GOLDEN_STATUS_DEFER_RUN 0 0
  else
    let cause := s.deferCause g
    let n := min 4 (s.fld F.SP_GOLDEN_STATUS_DEFER_RUN + 1)
    let was := s.fld F.SP_GOLDEN_STATUS_DEFER_RUN
    let s := (s.setFld F.SP_GOLDEN_STATUS_DEFER_RUN 0 n).bump F.SP_GOLDEN_STATUS_DEFER_TOTAL
    let s := s.setFld F.SP_GOLDEN_STATUS_LAST_CAUSE 0 cause
    let s := if cause = 1 then s else s.raise 0x0C cause
    if n = 4 ∧ was < 4 then s.latchClass 5 (s.degradeMode 5) else s

/-- GOLDEN_JUDGEMENT (R215): after `dt` ACLK cycles, at OFFSET + SLACK + 1 of the oldest golden frame; EN lets it be judged. -/
def execGoldenJudgement (dt : Nat) (s : State) : Host.Outcome State Fault Refusal :=
  if s.coreDark then .next s
  else
  let s := s.tickA dt
  match s.sched.golden with
  | [] => .next s
  | g :: rest =>
    if s.skipAt g + 1 ≤ s.clk.aclk then
      let s : State := { s with sched := { s.sched with golden := rest } }
      .next (if s.flag F.SP_GOLDEN_CFG_EN then s.judgeGolden g else s).goldenStatus
    else .next s

end Sys2Proof.Machine
end

