-- ==== Sys2Proof/Machine/Tether.lean ====
section
/-! DEFINITION. The tether ports (23): received flits, retries, writes from a peer, markers, SYNC, lane faults and training. -/

namespace Sys2Proof.Machine

/-! ## What a flit does -/

/-- R500, R501: a DATA flit writes one unit, checked with its PART as requester. A unit of DDR4 then waits for OPEN-slot time, as a
streaming drain does. -/
def State.tlWrite (s : State) (p : Nat) (f : Flit) : State :=
  let part := B.FLIT_PART.get f.hdr
  let off := B.FLIT_DEST.get f.hdr / 64 * 64
  let a := tetherTarget off
  -- R517, note 16: nothing is written for a partition in restart.
  if 2 ≤ s.partState part then (s.violation part a).bump F.TL_COUNTS_ISOL p
  else if off < ddrSize ∧ B.FLIT_CLASS.get f.hdr ≠ 3 then s.bump F.TL_COUNTS_ISOL p
  else if tetherOffsetOk off && (s.tagOf a).writes part then
    if off < ddrSize then s.setTlPort p { s.tlPort p with landing := (s.tlPort p).landing ++ [f] }
    else s.landUnit a (f.payload.take 64) false
  else (s.violation part a).bump F.TL_COUNTS_ISOL p

/-- R503, R504: a marker arrives after all the data before it: behind DDR4 units that still wait, it waits with them (DEDUCED, entry 19). -/
def State.tlMarker (s : State) (p : Nat) (f : Flit) : State :=
  (s.setTlPort p { s.tlPort p with landing := (s.tlPort p).landing ++ [f] }).tlArrive p

/-- R506: a SYNC flit is reported, and is an edge where SP_FRAME_CFG.SRC names the port. -/
def State.tlSyncIn (s : State) (p : Nat) (f : Flit) : State :=
  let u := B.FLIT_UNSYNCED.get f.hdr
  let s := (s.setFld F.TL_STATUS_FRAME 0 ((f.hdr >>> 33) % 2 ^ 48)).setFld F.TL_STATUS_UNSYNCED 0 u
  if s.fld F.SP_FRAME_CFG_SRC = p + 1 then s.syncEdge (u == 1) else s

/-- A flit is released to the module. -/
def State.tlRelease (s : State) (p : Nat) (f : Flit) : State :=
  match B.FLIT_KIND.get f.hdr with
  | 1 => s.tlWrite p f
  | 2 => s.tlMarker p f
  | 3 => s.tlSyncIn p f
  | _ => s

/-! ## Reception -/

/-- R498: every unacknowledged flit up to ACK_SEQ has arrived. -/
def State.tlAcked (s : State) (p a : Nat) : State :=
  let x := s.tlPort p
  if x.sent.any fun f => B.FLIT_SEQ.get f.hdr == a then
    (s.setTlPort p { x with sent := (x.sent.dropWhile fun f => B.FLIT_SEQ.get f.hdr != a).drop 1 }).tlPump p
  else s

/-- R498: the receiver returns ACK, with RETRY to ask for the flits after ACK_SEQ again. -/
def State.tlAnswer (s : State) (p : Nat) (retry : Bool) : State :=
  let x := s.tlPort p
  s.setTlPort p { x with ack := some (B.FLIT_KIND.put 4 + B.FLIT_RETRY.put (bit retry) + B.FLIT_ACK_SEQ.put x.last) }

/-- R498: one fault at the site of each lane whose check fails, or at lane 0 where only the CRC-32C fails. -/
def State.tlFaults (s : State) (p bad : Nat) (crcOk : Bool) : State :=
  let s := (bitsOf 8 bad).foldl (fun (s : State) l => s.faultAt (siteTether p l)) s
  if !crcOk && bad % 256 == 0 then s.faultAt (siteTether p 0) else s

/-- R497: the flit's CRC-32C over header and payload. -/
def flitCrcOk (hdr : BitVec 128) (payload : BitVec 512) (crc : BitVec 32) : Bool :=
  crc32c (leBytes 16 hdr.toNat ++ leBytes 64 payload.toNat) == crc.toNat

/-- R505: a flit received in order is released at once, or held until FIX_NS after it left the sender; a retried one is released
on arrival and counted LATE. -/
def State.tlAccept (s : State) (p : Nat) (f : Flit) : State :=
  let x := s.tlPort p
  let retried := decide (0 < x.lost)
  let s := s.setTlPort p { x with
    last := B.FLIT_SEQ.get f.hdr
    lost := x.lost - 1 }
  let s := s.tlAnswer p false
  if s.flag F.TL_CFG_FIXED then
    let s := if retried then s.bump F.TL_COUNTS_LATE p else s
    let due := if retried then s.tlTime p else s.tlTime p + (s.fld F.TL_CFG_FIX_NS - s.fld F.TL_PORT_STAT_MEAS_NS p)
    let x := s.tlPort p
    if retried && x.held.isEmpty then s.tlRelease p f
    else s.setTlPort p { x with held := x.held ++ [⟨due, f⟩] }
  else s.tlRelease p f

/-- R498: a flit of kind `kind` arrives. A failed one, and every later one until the resent flit arrives, is dropped and a retry
asked for; one in order is taken. -/
def State.tlReceive (s : State) (p kind : Nat) (hdr : BitVec 128) (payload : BitVec 512) (crc : BitVec 32) (bad : BitVec 8) : State :=
  if s.tlUp p then
    let ok := flitCrcOk hdr payload crc
    let s := s.tlFaults p bad.toNat ok
    let x := s.tlPort p
    if !ok then (s.setTlPort p { x with lost := x.lost + 1 }).tlAnswer p true
    else if B.FLIT_KIND.get hdr.toNat ≠ kind then s
    else
      let s := s.tlAcked p (B.FLIT_ACK_SEQ.get hdr.toNat)
      let x := s.tlPort p
      if B.FLIT_SEQ.get hdr.toNat = (x.last + 1) % 4096 then s.tlAccept p ⟨hdr.toNat, leBytes 64 payload.toNat⟩
      else (s.setTlPort p { x with lost := x.lost + 1 }).tlAnswer p true
  else s

/-- DATA_FLIT (R498, R500): a DATA flit arrives `dt` ns later, with the lanes whose check fails. -/
def execDataFlit (p : TetherPort) (hdr : BitVec 128) (payload : BitVec 512) (crc : BitVec 32) (bad : BitVec 8) (dt : Nat)
    (s : State) : Host.Outcome State Fault Refusal :=
  if s.coreDark then .next s else .next ((s.tickTl p.val dt).tlReceive p.val 1 hdr payload crc bad)

/-- MARKER_FLIT (R498, R503). -/
def execMarkerFlit (p : TetherPort) (hdr : BitVec 128) (payload : BitVec 512) (crc : BitVec 32) (bad : BitVec 8) (dt : Nat)
    (s : State) : Host.Outcome State Fault Refusal :=
  if s.coreDark then .next s else .next ((s.tickTl p.val dt).tlReceive p.val 2 hdr payload crc bad)

/-- SYNC_FLIT (R498, R506). -/
def execSyncFlit (p : TetherPort) (hdr : BitVec 128) (payload : BitVec 512) (crc : BitVec 32) (bad : BitVec 8) (dt : Nat)
    (s : State) : Host.Outcome State Fault Refusal :=
  if s.coreDark then .next s else .next ((s.tickTl p.val dt).tlReceive p.val 3 hdr payload crc bad)

/-- R498: the sender resends from ACK_SEQ + 1. The flits stay unacknowledged. -/
def State.tlResend (s : State) (p : Nat) : State :=
  (s.setTlPort p { s.tlPort p with resent := (s.tlPort p).sent }).bump F.TL_COUNTS_RETRY p

/-- ACK_FLIT (R498): acknowledges flits, and with RETRY asks for the later ones again. A failed one has no SEQ, so no numbered flit is
missing after it (DEDUCED, entry 19). -/
def execAckFlit (p : TetherPort) (hdr : BitVec 128) (payload : BitVec 512) (crc : BitVec 32) (bad : BitVec 8) (dt : Nat)
    (s : State) : Host.Outcome State Fault Refusal :=
  if s.coreDark then .next s
  else
  let s := s.tickTl p.val dt
  if s.tlUp p.val then
    let ok := flitCrcOk hdr payload crc
    let s := s.tlFaults p.val bad.toNat ok
    if !ok then .next (s.tlAnswer p.val true)
    else if B.FLIT_KIND.get hdr.toNat ≠ 4 then .next s
    else
      let s := s.tlAcked p.val (B.FLIT_ACK_SEQ.get hdr.toNat)
      .next (if B.FLIT_RETRY.get hdr.toNat = 1 then s.tlResend p.val else s)
  else .next s

/-- TEST_FLIT (R507): `clean` TEST flits pass, and one more arrives with this CRC and these failing lanes. -/
def execTestFlit (p : TetherPort) (clean : Nat) (hdr : BitVec 128) (payload : BitVec 512) (crc : BitVec 32) (bad : BitVec 8) (dt : Nat)
    (s : State) : Host.Outcome State Fault Refusal :=
  if s.coreDark then .next s
  else
  let s := s.tickTl p.val dt
  if s.tlEnabled p.val then
    let ok := flitCrcOk hdr payload crc
    let pass := ok && bad == 0
    let x := s.tlPort p.val
    let s := s.setTlPort p.val { x with
      good := x.good + clean + bit pass
      bad := x.bad + bit (!pass) }
    .next (s.tlFaults p.val bad.toNat ok)
  else .next s

/-- FLIT_RELEASE (R505): the oldest held flit of the port whose time has come is released. -/
def execFlitRelease (p : TetherPort) (dt : Nat) (s : State) : Host.Outcome State Fault Refusal :=
  if s.coreDark then .next s
  else
  let s := s.tickTl p.val dt
  match (s.tlPort p.val).held with
  | [] => .next s
  | h :: rest =>
    if h.due ≤ s.tlTime p.val then .next ((s.setTlPort p.val { s.tlPort p.val with held := rest }).tlRelease p.val h.flit)
    else .next s

/-! ## Links -/

/-- The link of a port trains: both ports have exchanged MODULE_ID and device ID, and the latency is measured (R496, R507). -/
def State.tlTrain (s : State) (p id dev meas : Nat) : State :=
  let s := ((s.setFld F.TL_PORT_STAT_PEER_ID p id).setFld F.TL_PORT_STAT_PEER_DEV p dev).setFld F.TL_PORT_STAT_MEAS_NS p meas
  let s := s.setFlag F.TL_PORT_STAT_UP p
  (s.setTlPort p { s.tlPort p with downAt := none }).tlPump p

/-- The link of a port goes down (R502). -/
def State.tlDown (s : State) (p : Nat) : State :=
  let s := s.setFld F.TL_PORT_STAT_UP p 0
  let x := s.tlPort p
  if x.downAt.isSome then s else s.setTlPort p { x with downAt := some (s.tlTime p) }

/-- TETHER_LINK_DOWN (R502, R506): after `dt` ns the link of the port is lost. -/
def execTetherLinkDown (p : TetherPort) (dt : Nat) (s : State) : Host.Outcome State Fault Refusal :=
  if s.coreDark then .next s
  else
  let s := s.tickTl p.val dt
  .next (if s.tlUp p.val then s.tlDown p.val else s)

/-- R502: units of a core's running transfer that go to port `p`. -/
def State.tlWaiting (s : State) (p c : Nat) : Nat :=
  match s.queue c with
  | t :: _ => if (tetherView t.dst).map (·.1) = some p then t.len - t.done else 0
  | [] => 0

/-- R507: the lasting lanes of a port, one bit each. -/
def State.tlLasting (s : State) (p : Nat) : Nat :=
  (List.range 8).foldl (fun m l => if (s.site (siteTether p l)).lasting then m + 2 ^ l else m) 0

/-- LANE_RETRAIN (R507): the port, with a lasting lane, retrains to the half without one, and measures its latency. -/
def execLaneRetrain (p : TetherPort) (meas : BitVec 11) (dt : Nat) (s : State) : Host.Outcome State Fault Refusal :=
  if s.coreDark then .next s
  else
  let s := s.tickTl p.val dt
  let l := s.tlLasting p.val
  if s.tlEnabled p.val ∧ l ≠ 0 then
    if l % 16 ≠ 0 ∧ l / 16 ≠ 0 then .next (s.tlDown p.val)
    else
      let s := ((s.setFlag F.TL_PORT_STAT_HALF p.val).setFld F.TL_PORT_STAT_UPPER p.val (bit (l / 16 == 0))).setFld
        F.TL_PORT_STAT_MEAS_NS p.val meas.toNat
      if s.fld F.TL_CFG_FIX_NS < meas.toNat + 20 then .next (s.tlDown p.val)
      else .next (s.tlTrain p.val (s.fld F.TL_PORT_STAT_PEER_ID p.val) (s.fld F.TL_PORT_STAT_PEER_DEV p.val) meas.toNat)
  else .next s

/-- R507: the effect of TL_RETRAIN; `meas` is the latency that the training measures. -/
def tlRetrainBody (meas : Nat) (s : State) (c : Cmd) : State × Option Reply :=
  let p := c.w 4 % 4
  if 3 ≤ p ∨ s.tlEnabled p = false ∨ s.tlLasting p ≠ 0 then (s, some (lenRange 0))
  else
    let s := (s.setFld F.TL_PORT_STAT_HALF p 0).setFld F.TL_PORT_STAT_UPPER p 0
    let s := s.setFld F.TL_PORT_STAT_LASTING p 0
    (s.tlTrain p (s.fld F.TL_PORT_STAT_PEER_ID p) (s.fld F.TL_PORT_STAT_PEER_DEV p) meas, some Reply.ok)

/-- TL_RETRAIN (R507). -/
def execTlRetrain (ring : BitVec 14) (d : Desc) (meas : BitVec 11) (s : State) : Host.Outcome State Fault Refusal :=
  .next (s.command ring d 0x0E01 (tlRetrainBody meas.toNat))

end Sys2Proof.Machine
end

