-- ==== Sys2Proof/Machine/Transfer.lean ====
section
/-! DEFINITION. MOVE and SEGMENT_LOAD (02 R33, 05 R122–R128): the issue of a transfer, and what its units move through the views of 07,
08, 15, 16 and 23. Off DDR4 a unit moves in its cycle; to and from DDR4 its line moves in a GRANT slot (Slots.lean). -/

namespace Sys2Proof.Machine

/-! ## Issue -/

/-- R367: a slice of core `c` runs inside the golden window. -/
def State.inGolden (s : State) (c : Nat) : Bool :=
  s.fld F.SP_GOLDEN_CFG_WINDOW != 0 &&
    s.ridge.windows.any fun w => w.id == s.fld F.SP_GOLDEN_CFG_WINDOW && w.part == 0 && hasBit w.cores c

/-- R367: an address of the golden view. -/
def isGoldenView (a : Nat) : Bool := decide (0x0140_0000_0000 ≤ a) && decide (a < 0x0180_0000_0000)
def goldenSize : Nat := 122944

/-- R173, R174, R335: the source of a transfer, resolved in its first cycle. -/
def State.srcPlace (s : State) (seg : Bool) (part a len : Nat) : Place :=
  if isProposal a then
    let o := a - 0x0120_0000_0000
    if !seg && part == 1 && decide (o + 64 * len ≤ s.fld F.ST_PROP_SIZE * 65536) then .addr (s.stPropAt + o) else .violation
  else s.walkPlace part a len

/-- R173, R174, R367: the destination of a transfer, resolved in its first cycle. -/
def State.dstPlace (s : State) (seg : Bool) (c part a len : Nat) : Place :=
  if isProposal a then .violation
  else if isGoldenView a then
    if !seg && part == 0 && s.inGolden c && decide (a - 0x0140_0000_0000 + 64 * len ≤ goldenSize) then .addr a else .violation
  else s.walkPlace part a len

/-- R190, R191: the first transfer of a core's queue starts to run in ACLK cycle `t`. From an image view it reads its descriptor once, then,
and its first unit comes 8 cycles later. -/
def State.runHead (s : State) (c t : Nat) : State :=
  match s.queue c with
  | [] => s
  | x :: rest =>
    let x := { x with upto := match x.route with | .fabric _ _ => s.clk.fclk | _ => t }
    match imageView x.src with
    | some (_, d, _, _) =>
      let a := coreBase c + 32 * s.fld F.PL_IMG_CFG_DESC_ADDR c + 64 * d
      s.setQueue c ({ x with
        idesc := some (leNat (s.bytesAt t a 64))
        upto := match x.route with | .inCore => t + 8 | _ => x.upto } :: rest)
    | none => s.setQueue c (x :: rest)

/-- R122, R123: the transfer part of a slice of core `c` starts in ACLK cycle `t`. -/
def State.moveIssue (s : State) (c sl t : Nat) : State :=
  let x := B.SLICE_XOP.get sl
  if x = 0 then s
  else
    let part := B.SLICE_PART.get sl
    let len := B.SLICE_XLEN.get sl
    let first := (s.queue c).isEmpty
    let s := s.moveStart c sl t (s.srcPlace (x == 2) part (B.SLICE_XSRC.get sl) len)
      (s.dstPlace (x == 2) c part (B.SLICE_XDST.get sl) len)
    if first then s.runHead c t else s

/-! ## Reading units -/

/-- What a violating read returns (R33). -/
def MoveUnit.poisoned : MoveUnit := ⟨List.replicate 64 0, true, true⟩
def MoveUnit.zeros : MoveUnit := ⟨List.replicate 64 0, false, false⟩

/-- R157: a line that was lost is delivered with poison once. -/
def State.takeLost (s : State) (a : Nat) : Bool × State :=
  let l := a / 64 * 64
  let d := s.chan (ddrChan a)
  if d.bad.contains l then (true, s.setChan (ddrChan a) { d with bad := d.bad.filter fun x => x != l }) else (false, s)

/-- R268: Datum's private area, which no access from outside reaches. -/
def datumPrivate (a : Nat) : Bool := decide (datumBase + 0xE0_0000 ≤ a) && decide (a < datumBase + datumSize)

/-- A unit at a plain address, checked against the tag of its store, as a read of ACLK cycle `t` sees it. -/
def State.readPlain (s : State) (part a t : Nat) : MoveUnit × State :=
  if (s.tagOf a).reads part && !datumPrivate a then
    let (lost, s) := if a < ddrSize then s.takeLost a else (false, s)
    (⟨s.bytesAt t a 64, lost || s.markAt t a, lost || s.markAt t (a + 32)⟩, s)
  else (MoveUnit.poisoned, s.violation part a)

/-- R198, R200: the two units of the codec line at `l`, decoded from its blocks. A line delivered with poison poisons both. -/
def State.readCodecLine (s : State) (part l : Nat) (signed : Bool) : MoveUnit × MoveUnit × State :=
  if (s.tagOf l).reads part then
    let (lost, s) := s.takeLost l
    let p := lost || s.poisonIn l 64
    (⟨codecDecode signed (s.rdBytes l 32), p, p⟩, ⟨codecDecode signed (s.rdBytes (l + 32) 32), p, p⟩, s)
  else (MoveUnit.poisoned, MoveUnit.poisoned, s.violation part l)

/-- R189: an access through the image view of core `vc` by the transfer meets Table IM-1. -/
def State.imageOk (s : State) (t : Transfer) (vc g : Nat) : Bool :=
  !t.seg && vc == t.core && s.flag F.PL_IMG_CFG_EN vc && s.fld F.PL_IMG_CFG_PART vc == t.part && decide (g + t.len ≤ 16384)

/-- R191–R197: unit `g` of the image view, generated from the descriptor read at the start. -/
def State.readImage (s : State) (t : Transfer) (d tile g : Nat) : MoveUnit × State :=
  let desc := t.idesc.getD 0
  if imgBad desc tile then (MoveUnit.poisoned, s)
  else
    let u := s.imgUnit t.core t.part desc tile g
    let s := if u.halo then s.imgFlag t.core d t.part 0 else s
    let s := if u.box then s.imgFlag t.core d t.part 2 else s
    let s := match u.viol with | some a => s.violation t.part a | none => s
    (⟨leBytes 64 u.val, u.poison, u.poison⟩, s)

/-- A codec end that breaks the 128-byte condition of Table IM-1. -/
def codecMisaligned (p : Place) (len : Nat) : Bool :=
  match p with
  | .addr a => (codecView a).isSome && (a % 128 != 0 || len % 2 != 0)
  | _ => false

/-- Unit `k` of a transfer's source, read in ACLK cycle `t`, for every source but a codec view that may be read. -/
def State.readUnit (s : State) (x : Transfer) (k t : Nat) : MoveUnit × State :=
  match x.rsrc with
  | .pastEnd => (MoveUnit.zeros, s)
  | .violation => (MoveUnit.poisoned, s)
  | .addr a =>
    match imageView a with
    | some (vc, d, tile, g) => if s.imageOk x vc g then s.readImage x d tile (g + k) else (MoveUnit.poisoned, s)
    | none => if (codecView a).isSome then (MoveUnit.poisoned, s) else s.readPlain x.part (a + 64 * k) t

/-- The source units that the line with first unit `k` brings, with their numbers: two from a codec line, else one. -/
def State.readLine (s : State) (x : Transfer) (k t : Nat) : List (Nat × MoveUnit) × State :=
  let code := match x.rsrc with | .addr a => codecView a | _ => none
  match code with
  | some (b, signed) =>
    if x.seg || codecMisaligned x.rsrc x.len then
      ([(k, MoveUnit.poisoned), (k + 1, MoveUnit.poisoned)].filter fun u => decide (u.1 < x.len), s)
    else
      let (u, v, s) := s.readCodecLine x.part (b + 32 * k) signed
      ([(k, u), (k + 1, v)], s)
  | none =>
    let (u, s) := s.readUnit x k t
    ([(k, u)], s)

/-! ## Writing a unit -/

/-- R72, R111: a unit written in ACLK cycle `t` to a core store or an operand buffer. A drain row or a vector result of the same cycle is
lost to it. -/
def State.storeEdge (s : State) (a t : Nat) : State :=
  if inOpb a then
    let n := opbEngine a
    let lost := s.clashes t a 64 (· == .drain)
    let s := s.noteEdge t .transfer a 64
    if lost then s.engFlag n (s.engine n).drainPart 0 19 true else s
  else if inCoreStore a then
    let hits := s.stow.edge.filterMap fun x =>
      match x.who with
      | .vector p sl => if x.cyc = t ∧ a ≤ x.addr ∧ x.addr < a + 64 then some (p, sl) else none
      | _ => none
    let s := s.noteEdge t .transfer a 64
    hits.foldl (fun (s : State) h => s.vecFlags ((a - coreBase 0) / 0x0200_0000) h.1 h.2 flWRITE_CLASH) s
  else s

/-- A unit written to a store that holds it as it is. R152: a DDR4 line with any poison mark is stored whole with the signature. -/
def State.storeUnit (s : State) (a : Nat) (u : MoveUnit) (t : Nat) : State :=
  if a < ddrSize then s.landUnit a u.bytes (u.lo || u.hi)
  else (((s.storeEdge a t).wrBytes a u.bytes).setPoisonAt a u.lo).setPoisonAt (a + 32) u.hi

/-- A unit at a plain address, checked against the tag of its store and the rules of Stadia's stores. -/
def State.writePlain (s : State) (part a : Nat) (u : MoveUnit) (t : Nat) : State :=
  if (s.tagOf a).writes part then
    if brickBase ≤ a ∧ a < auxBase + auxSize then
      match s.stWriteAt a with
      | .allowed => s.storeUnit a u t
      | .violation => s.violation part a
      | .staged => s.stStageWrite
    else if datumPrivate a then s.violation part a
    else s.storeUnit a u t
  else s.violation part a

/-- R33, SEGMENT_LOAD: the destination lies in the fill part of the issuing core's plan region. -/
def State.fillPart (s : State) (c a : Nat) : Bool :=
  decide (coreBase c + s.planLot * 65536 + 64 * s.ridge.imageFillBase ≤ a) && decide (a + 64 ≤ coreBase c + coreSize)

/-- R189, R120: a broadcast unit goes to the same row of every engine of the mask. -/
def State.writeBroadcast (s : State) (x : Transfer) (vc mask row : Nat) (u : MoveUnit) (t : Nat) : State :=
  let fromImage := match imageView x.src with | some (c, _, _, _) => c == vc | none => false
  if !x.seg && fromImage && mask != 0 && mask < 256 then
    (bitsOf 8 mask).foldl (fun (s : State) e => s.writePlain x.part (opbRow (8 * vc + e) row) u t) s
  else s.violation x.part (opbRow (8 * vc) row)

/-- R367: a unit of the golden view goes to Plumb's golden store. -/
def State.writeGolden (s : State) (o : Nat) (u : MoveUnit) : State :=
  { s with plumb := { s.plumb with golden := spWrite 0 s.plumb.golden o u.bytes } }

/-- Unit `k` of a transfer's destination, written in ACLK cycle `t`, for every destination but a codec view. -/
def State.writeUnit (s : State) (x : Transfer) (k : Nat) (u : MoveUnit) (t : Nat) : State :=
  match x.rdst with
  | .pastEnd => s
  | .violation => s
  | .addr a0 =>
    let a := a0 + 64 * k
    if x.seg then (if s.fillPart x.core a then (s.storeEdge a t).wrBytes a u.bytes else s.violation x.part a)
    else if (imageView a0).isSome then s.violation x.part a
    else match broadcastView a with
      | some (vc, mask, row) => s.writeBroadcast x vc mask row u t
      | none =>
        match tetherView a with
        | some (p, o) => if tetherOffsetOk o then s.tlData p x.part x.klass o u.bytes else s.violation x.part a
        | none => if isGoldenView a then s.writeGolden (a - 0x0140_0000_0000) u else s.writePlain x.part a u t

/-- R198–R200: two units of a codec view make one stored line. -/
def State.writeCodecLine (s : State) (part b : Nat) (signed : Bool) (u v : MoveUnit) : State :=
  if (s.tagOf b).writes part then
    s.landUnit b (codecEncode signed u.bytes ++ codecEncode signed v.bytes) (u.lo || u.hi || v.lo || v.hi)
  else s.violation part b

/-- The codec destination of a transfer: its DDR4 address and element format. -/
def Transfer.codecDst (x : Transfer) : Option (Nat × Bool) :=
  match x.rdst with | .addr a => if x.seg then none else codecView a | _ => none

/-- The units of one line of the destination, from unit `k` on: a codec line takes two, and nothing where it is misaligned. -/
def State.writeLine (s : State) (x : Transfer) (k : Nat) (us : List MoveUnit) (t : Nat) : State :=
  match x.codecDst with
  | some (b, signed) =>
    match us with
    | [u, v] => if codecMisaligned x.rdst x.len then s else s.writeCodecLine x.part (b + 32 * k) signed u v
    | _ => s
  | none => us.zipIdx.foldl (fun (s : State) y => s.writeUnit x (k + y.2) y.1 t) s

/-! ## Moving -/

/-- R217: a transfer that started before a change of regions goes on under the old tags. -/
def State.underTags (s : State) (x : Transfer) (f : State → State) : State :=
  match x.tags with
  | none => f s
  | some r =>
    let now := s.sched.regions
    let s := f { s with sched := { s.sched with regions := r } }
    { s with sched := { s.sched with regions := now } }

/-- Units `k` to `k + n − 1` of a transfer off DDR4, moved in ACLK cycle `t`. -/
def State.moveSpan (s : State) (x : Transfer) (k n t : Nat) : State :=
  (s.worked 3 x.part n).underTags x fun s => (List.range n).foldl (fun (s : State) i =>
    let (u, s) := s.readUnit x (k + i) t
    s.writeUnit x (k + i) u t) s

/-- A transfer to a port whose link is down waits (R502). -/
def State.tetherWaits (s : State) (t : Transfer) : Bool :=
  match tetherView t.dst with
  | some (p, _) => !t.seg && !s.tlUp p
  | none => false

/-- R122: the units of core `c`'s running transfer whose cycles have come move, in ACLK cycle `t`. -/
def State.moveDue (s : State) (c t : Nat) : State :=
  match s.queue c with
  | [] => s
  | x :: rest =>
    if x.route = .ddr ∨ x.due ≤ x.done ∨ s.tetherWaits x = true then s
    else (s.moveSpan x x.done (x.due - x.done) t).setQueue c ({ x with done := x.due } :: rest)

/-- R71, R122, R125: before core `c` acts in ACLK cycle `t`, the units of earlier cycles have moved, over the fabric from and to every
core. -/
def State.movesBefore (s : State) (c t : Nat) : State :=
  if s.stow.queues.isEmpty then s
  else
    let s := s.countMoves t
    (List.range 16).foldl (fun (s : State) d =>
      match (s.queue d).head? with
      | some x => if d = c ∨ x.route ≠ .inCore then s.moveDue d (t - 1) else s
      | none => s) s

/-- R71: the unit that core `c`'s transfer moves within its core in cycle `t` itself, whose source it reads as the cycle began. -/
def State.movesIn (s : State) (c t : Nat) : State :=
  match (s.queue c).head? with
  | some x => if x.route = .inCore then (s.countMoves (t + 1)).moveDue c t else s
  | none => s

/-! ## Completion -/

/-- What a transfer meets once as a whole: an unresolved end, an image view out of its conditions, a bad descriptor, a misaligned
codec end, an item past the end of its list. -/
def State.moveWhole (s : State) (t : Transfer) : State :=
  let s := if t.rsrc = .violation then s.violation t.part t.src else s
  let s := if t.rdst = .violation then s.violation t.part t.dst else s
  let s := match imageView t.src with
    | some (vc, d, tile, g) =>
      if s.imageOk t vc g then (if imgBad (t.idesc.getD 0) tile then s.imgFlag t.core d t.part 1 else s)
      else s.violationOf t.part (s.fld F.PL_IMG_CFG_PART vc) t.src
    | none => s
  let s := if t.seg && (codecView t.src).isSome then s.violation t.part t.src else s
  let bad (s : State) (p : Place) : State :=
    match p with
    | .addr a => if !t.seg && codecMisaligned p t.len then s.violation t.part (((codecView a).getD (0, false)).1) else s
    | _ => s
  let s := bad (bad s t.rsrc) t.rdst
  let s := if !t.seg && (codecMisaligned t.rsrc t.len || codecMisaligned t.rdst t.len) then s.imgFlag t.core 0 t.part 3 else s
  if t.rdst = .pastEnd then
    match walkView t.dst with
    | some (p, _, _) => s.bump F.PL_SEQ_COUNTS_WALK_DROP (seqIdx p)
    | none => s
  else s

/-- The pool lots of a core-store range, in rising order. -/
def State.lotsIn (s : State) (p : Place) (len : Nat) : List Nat :=
  match p with
  | .addr a =>
    if inCoreStore a then
      ((List.range ((a % lotSize + 64 * len + lotSize - 1) / lotSize)).map fun k => lotOf a + k).filter s.isPool
    else []
  | _ => []

/-- Table MT-4: what the transfer does to the entry of destination lot `l`. -/
def State.lotMoved (s : State) (t : Transfer) (l : Nat) : State :=
  match t.rsrc, t.rdst with
  | .addr a, .addr b =>
    let src := a + (lotAddr l - b)
    let whole := decide (b ≤ lotAddr l) && decide (lotAddr l + lotSize ≤ b + 64 * t.len) && src % lotSize == 0
    if (s.tagOf (lotAddr l)).writes t.part then
      if whole && decide (src < ddrSize) then s.lotFromDdr l src
      else if whole && inCoreStore src && s.isPool (lotOf src) then s.lotFromLot l (lotOf src)
      else s.lotWritten (lotAddr l)
    else s
  | _, .addr _ => if (s.tagOf (lotAddr l)).writes t.part then s.lotWritten (lotAddr l) else s
  | _, _ => s

/-- Table MT-4: source lots that the transfer wrote whole to their own home. -/
def State.lotHomed (s : State) (t : Transfer) (l : Nat) : State :=
  match t.rsrc, t.rdst with
  | .addr a, .addr b =>
    if b < ddrSize ∧ a ≤ lotAddr l ∧ lotAddr l + lotSize ≤ a + 64 * t.len ∧ (s.lot l).homeValid = true ∧
        b + (lotAddr l - a) = (s.lot l).home * lotSize ∧ (s.tagOf (lotAddr l)).reads t.part = true ∧
        (s.tagOf (b + (lotAddr l - a))).writes t.part = true then s.lotHome l
    else s
  | _, _ => s

/-- R132, R190: the pool lots that a transfer from an image view reads: those of the descriptor, the ring and the boxes. -/
def State.imageLots (s : State) (t : Transfer) : List Nat :=
  match imageView t.src, t.idesc with
  | some (vc, d, tile, g), some desc =>
    if s.imageOk t vc g && !(imgBad desc tile) then
      let f := idx desc
      let own (a n : Nat) : List Nat := s.lotsIn (.addr a) ((a % 64 + n + 63) / 64)
      own (coreBase vc + 32 * s.fld F.PL_IMG_CFG_DESC_ADDR vc + 64 * d) 64 ++
        own (coreBase vc + 32 * f B.IDESC_LB_BASE) (32 * f B.IDESC_ROW_PITCH * f B.IDESC_LB_ROWS) ++
        (if f B.IDESC_MODE = 2 then own (coreBase vc + 32 * f B.IDESC_BOX_ADDR) (16 * f B.IDESC_BOX_COUNT) else [])
    else []
  | _, _ => []

/-- R128, R132: the lot entries and touches of a transfer. -/
def State.moveLots (s : State) (t : Transfer) : State :=
  let outOf := s.lotsIn t.rsrc t.len ++ s.imageLots t
  let into := s.lotsIn t.rdst t.len
  let s := into.foldl (fun (s : State) l => s.lotMoved t l) s
  let s := outOf.foldl (fun (s : State) l => s.lotHomed t l) s
  ((List.range 6144).filter fun l => outOf.contains l || into.contains l).foldl (fun (s : State) l =>
    if (s.tagOf (lotAddr l)).reads t.part then s.touch t.part l else s) s

/-- R122–R128: the running transfer of core `c` moves what is left of it and leaves the queue; the next starts. -/
def State.moveComplete (s : State) (c : Nat) (x : Transfer) : State :=
  let now := s.clk.aclk
  let s := s.moveWhole x
  let s := if x.route = .ddr then s
    else (s.moveSpan x x.done (x.due - x.done) (now - 1)).moveSpan x (max x.done x.due) (x.len - max x.done x.due) now
  let s := s.underTags x fun s => s.moveLots x
  (s.popQueue c).runHead c (if x.due = x.len then min x.upto now else now)

/-- TRANSFER_COMPLETE (R122, R125): after `dt` ACLK cycles the running transfer of the core has moved its last unit: off DDR4 those left
move in this cycle. A plan hold pauses it, DDR4 lines wait for their GRANT windows, and a tether port waits for its link. -/
def execTransferComplete (c : CoreId) (dt : Nat) (s : State) : Host.Outcome State Fault Refusal :=
  if s.coreDark then .next s
  else
  let s := (s.tickA dt).countMoves (s.clk.aclk + dt)
  match s.queue c.val with
  | [] => .next s
  | t :: _ =>
    if (s.pausesMoves && s.coreHeld c.val) || (t.route == .ddr && !t.granted) || s.tetherWaits t then .next s
    else .next (s.moveComplete c.val t)

/-- LINK_TIMEOUT_EXPIRY (R502): the link has been down for LINK_TIMEOUT. The units that wait for the port are dropped and
counted, and the transfers to it that run complete. -/
def execLinkTimeoutExpiry (p : TetherPort) (dt : Nat) (s : State) : Host.Outcome State Fault Refusal :=
  if s.coreDark then .next s
  else
  let s := s.tickTl p.val dt
  let x := s.tlPort p.val
  if s.tlUp p.val then .next s
  else
    let t := x.downAt.getD 0
    if t + 1000 * s.fld F.TL_CFG_LINK_TIMEOUT ≤ s.tlTime p.val then
      let isData := fun (f : Flit) => B.FLIT_KIND.get f.hdr == 1
      let s := s.bump F.TL_COUNTS_DROP p.val (x.queue.countP isData)
      let s := s.setTlPort p.val { x with queue := x.queue.filter fun f => !(isData f) }
      .next ((List.range 16).foldl (fun (s : State) c =>
        let n := s.tlWaiting p.val c
        if n = 0 then s else ((s.bump F.TL_COUNTS_DROP p.val n).popQueue c).runHead c s.clk.aclk) s)
    else .next s

end Sys2Proof.Machine
end

