-- ==== Sys2Proof/Machine/Vector.lean ====
section
/-! DEFINITION. The vector units (04): what each vector operation computes, its shape, and the run of a vector operation on a
core. -/

namespace Sys2Proof.Machine

/-! ## Element results: the bits and the flags -/

/-- FMIN and FMAX (R86, Table NF-5): −0 lies below +0, and a NaN operand is never passed over. -/
def vecMinMax (f : FloatFmt) (max : Bool) (a b : Nat) : Nat × Nat :=
  let x := f.decode a
  let y := f.decode b
  f.withNans [x, y] <|
    let less := x.lt y || (!y.lt x && x.neg && !y.neg)
    ((if less != max then a else b) % 2 ^ f.width, 0)

/-- FCMP: all ones if true, 0 if false or if an operand is a NaN. -/
def vecCmp (f : FloatFmt) (op a b : Nat) : Nat × Nat :=
  let x := f.decode a
  let y := f.decode b
  let t := !x.isNan && !y.isNan &&
    (if op = 0x08 then x.lt y else if op = 0x09 then !y.lt x else x.eqv y)
  (if t then 2 ^ f.width - 1 else 0, nanFlags [x, y])

/-- `t × 2^x` lies within 2⁻¹⁴ of 1. -/
def nearOne (t : Nat) (x : Int) (tol : Nat) : Bool :=
  let d := (-x).toNat
  let v := t * 2 ^ (x + d).toNat
  decide ((if v < 2 ^ d then 2 ^ d - v else v - 2 ^ d) * 2 ^ 14 ≤ tol * 2 ^ d)

/-- The product of the value of the encoding `r` with itself `n` times and `m × 2^e` is exactly 1. -/
def exactInverse (r n m : Nat) (e : Int) : Bool :=
  match fp32.decode r with
  | .fin _ k x =>
    let ex := (n : Int) * x + e
    if 0 ≤ ex then k ^ n * m * 2 ^ ex.toNat == 1 else k ^ n * m == 2 ^ (-ex).toNat
  | _ => false

/-- R94: FRECIP_EST. Keadal's estimate stands where it meets the bound of R94; a normal result outside it is replaced by the
correctly rounded quotient. -/
def vecRecip (a : Nat) : Nat × Nat :=
  let x := fp32.decode a
  fp32.withNans [x] <|
    match x with
    | .inf n => (fp32.signBit n, 0)
    | .fin n m e =>
      if m = 0 then (fp32.signBit n + fp32.infBits, flDIV_ZERO)
      else
        let one := fp32.div (.fin n 1 0) (.fin false m e)
        if one.1 % 2 ^ 31 = fp32.infBits then (one.1, flOVERFLOW ||| flINEXACT)
        else if one.1 % 2 ^ 31 < 2 ^ 23 then
          let r := fp32.signBit n + Config.recipEst (a % 2 ^ 32) % 2 ^ 23
          (r, if exactInverse r 1 m e then 0 else flINEXACT ||| flUNDERFLOW)
        else
          match fp32.decode (Config.recipEst (a % 2 ^ 32)) with
          | .fin n' m' e' =>
            let r := if n' = n ∧ 2 ^ 23 ≤ m' ∧ nearOne (m * m') (e + e') 1 then Config.recipEst (a % 2 ^ 32) else one.1
            (r, if exactInverse r 1 m e then 0 else flINEXACT)
          | _ => one
    | _ => fp32.invalid

/-- R94: FRSQRT_EST. -/
def vecRsqrt (a : Nat) : Nat × Nat :=
  let x := fp32.decode a
  fp32.withNans [x] <|
    match x with
    | .inf n => if n then fp32.invalid else (0, 0)
    | .fin n m e =>
      if m = 0 then (fp32.signBit n + fp32.infBits, flDIV_ZERO)
      else if n then fp32.invalid
      else
        -- 1 / √(m × 2^e) by an integer root with 40 bits to spare.
        let odd := (e % 2).toNat
        let k := 40 + Nat.log2 m
        let r := Nat.sqrt (2 ^ (2 * k) / (m * 2 ^ odd))
        let one := fp32.round false (2 * r + 1) (-((e - odd) / 2) - k - 1)
        match fp32.decode (Config.rsqrtEst (a % 2 ^ 32)) with
        | .fin n' m' e' =>
          -- (1 − 2⁻¹⁴)² ≤ est² × a ≤ (1 + 2⁻¹⁴)²
          let v := m' * m' * m
          let ex := e' + e' + e
          let d := (-ex).toNat
          let p := v * 2 ^ (ex + d).toNat * 2 ^ 28
          let ok := !n' && decide ((2 ^ 14 - 1) ^ 2 * 2 ^ d ≤ p) && decide (p ≤ (2 ^ 14 + 1) ^ 2 * 2 ^ d)
          let r := if ok then Config.rsqrtEst (a % 2 ^ 32) else one.1
          (r, if exactInverse r 2 m e then 0 else flINEXACT)
        | _ => (one.1, if exactInverse one.1 2 m e then 0 else flINEXACT)
    | _ => fp32.invalid

/-- FSUM_ERR and FPROD_ERR: the exact result less its rounding, rounded once. DESIGN CHOICE (entry 34): where the sum or the product is
infinite, from an infinite operand or by overflow, the difference is ∞ − ∞, or has an infinite term. -/
def vecSumErr (a b : Nat) : Nat × Nat :=
  let x := fp32.decode a
  let y := fp32.decode b
  fp32.withNans [x, y] <|
    let r := fp32.sum [x, y]
    match fp32.decode r.1 with
    | .nan _ _ => r
    | z => fp32.sum [x, y, z.negate]

def vecProdErr (a b : Nat) : Nat × Nat :=
  let x := fp32.decode a
  let y := fp32.decode b
  fp32.withNans [x, y] <|
    match x.mul y with
    | none => fp32.invalid
    | some p =>
      let r := fp32.sum [p]
      fp32.sum [p, (fp32.decode r.1).negate]

/-- R105, R106: a pair for an exact value: Keadal's where it is normalised and within the bound, else the two roundings, whose high word
becomes their rounded sum. The low word is +0 when the high word is no finite value. A pair that is not exact is tiny where its high word is
(R84, R85). -/
def vecPair (key : Nat) (xs : List FVal) (ops : List FVal) : Nat × Nat :=
  let hi := fp32.withNans ops (fp32.sum xs)
  match fp32.decode hi.1 with
  | .fin _ _ _ =>
    let terms := xs.map fun x => match x with | .fin n m e => (signedInt n m, e) | _ => (0, 0)
    let rest (h : Nat) : Nat :=
      match fp32.decode h with
      | .fin n m e => (fp32.roundInt false (dyadicSum (terms ++ [(-(signedInt n m), e)]))).1
      | _ => 0
    let high := fAdd hi.1 (rest hi.1)
    let exact := dyadicSum terms
    let errOf (h l : Nat) : Int × Int :=
      match fp32.decode h, fp32.decode l with
      | .fin n m e, .fin n' m' e' => dyadicSum (terms ++ [(-(signedInt n m), e), (-(signedInt n' m'), e')])
      | _, _ => exact
    -- |error| ≤ max(2⁻⁴⁶ |exact|, 2⁻¹⁴⁹), compared on a common exponent.
    let within (d : Int × Int) : Bool :=
      let a := dyadicSum [(d.1.natAbs * 2 ^ 46, d.2), (-(exact.1.natAbs : Int), exact.2)]
      let b := dyadicSum [((d.1.natAbs : Int), d.2), (-1, -149)]
      decide (a.1 ≤ 0) || decide (b.1 ≤ 0)
    let c := key
    let ch := c % 2 ^ 32
    let cl := c / 2 ^ 32 % 2 ^ 32
    let good := fFinite ch && fFinite cl && (fAdd ch cl == ch) && within (errOf ch cl)
    let (h, l) := if good then (ch, cl) else if fFinite high then (high, rest high) else (hi.1, rest hi.1)
    (h + 2 ^ 32 * l, if (errOf h l).1 = 0 then 0 else if h % 2 ^ 31 < 2 ^ 23 then flINEXACT ||| flUNDERFLOW else flINEXACT)
  | _ => (hi.1, hi.2)

/-- The value of a pair as its two terms; with a NaN or an infinity in hi, hi alone. -/
def pairTerms (p : Nat) : List FVal :=
  match fp32.decode p with
  | .fin n m e => [.fin n m e, fp32.decode (p / 2 ^ 32)]
  | v => [v]

/-- R95–R97: integer operations of a format, on two's-complement or unsigned elements. -/
def vecInt (op fmt a b : Nat) : Nat × Nat :=
  let w := fmtBits fmt
  let x := fmtInt fmt a
  let y := fmtInt fmt b
  let wrap (v : Int) : Nat × Nat := (ofSigned w v, 0)
  let sat (v : Int) : Nat × Nat :=
    let (c, o) := clampInt (fmtMin fmt) (fmtMax fmt) v
    (ofSigned w c, if o then flSAT else 0)
  match op with
  | 0x20 => wrap (x + y)
  | 0x21 => wrap (x - y)
  | 0x22 => sat (x + y)
  | 0x23 => sat (x - y)
  | 0x24 => wrap (x * y)
  | 0x25 => (ofSigned 32 ((asSigned 32 a * asSigned 32 b) / 2 ^ 32), 0)
  | 0x26 => (if x ≤ y then a else b, 0)
  | 0x27 => (if x ≤ y then b else a, 0)
  | 0x28 => (a &&& b, 0)
  | 0x29 => (a ||| b, 0)
  | 0x2A => (a ^^^ b, 0)
  | 0x2B =>
    let k := b % 64
    if k = 0 then (a, 0) else if 32 ≤ k then (0, 0)
    else
      let q := x / 2 ^ k
      let r := x % 2 ^ k
      let up := decide (2 * r > 2 ^ k) || (decide (2 * r = 2 ^ k) && decide (q % 2 = 1))
      (ofSigned 32 (if up then q + 1 else q), 0)
  | 0x30 =>
    if b = 0 then (if 0 < x then 0x7FFFFFFF else if x < 0 then 0x80000000 else 0, flINT_DIV0)
    else if a = 0x80000000 ∧ y = -1 then (0x7FFFFFFF, flINT_OVF)
    else (ofSigned 32 (Int.tdiv x y), 0)
  | 0x31 => if b = 0 then (a, flINT_DIV0) else if a = 0x80000000 ∧ y = -1 then (0, 0) else (ofSigned 32 (Int.tmod x y), 0)
  | 0x32 => if b = 0 then (0xFFFFFFFF, flINT_DIV0) else (a / b, 0)
  | 0x33 => if b = 0 then (a, flINT_DIV0) else (a % b, 0)
  | _ => (0, 0)

/-- R96: iterations of IMUL_HI not performed for an operand `b`: the bytes that are all copies of its sign bit. -/
def imulSkipped (b : Nat) : Nat :=
  let x := asSigned 32 b
  if x = 0 ∨ x = -1 then 4
  else if -(2 ^ 8 : Int) ≤ x ∧ x < 2 ^ 8 then 3
  else if -(2 ^ 16 : Int) ≤ x ∧ x < 2 ^ 16 then 2
  else if -(2 ^ 24 : Int) ≤ x ∧ x < 2 ^ 24 then 1 else 0

/-- Conversion of a value to a floating-point format (R88): NaNs keep sign and payload, infinities stay, and finite values round. -/
def cvtToFloat (f : FloatFmt) (v : FVal) : Nat × Nat :=
  match v with
  | .nan n p => (f.quiet n p, nanFlags [v])
  | .inf n => (f.signBit n + f.infBits, 0)
  | .fin n m e => f.round n m e

/-- Conversion to an 8-bit float (Table NF-3), with saturation or without. -/
def cvtToFloat8 (f : FloatFmt) (saturate : Bool) (v : FVal) : Nat × Nat :=
  -- E5M2 gives 0x7E for every NaN; E4M3 has one NaN of each sign.
  let nan (n : Bool) : Nat := f.signBit n + f.nanBits
  let top := if f.inf then f.infBits else f.nanBits
  match v with
  | .nan n _ => (nan n, nanFlags [v])
  | .inf n => if saturate then (f.signBit n + f.maxBits, flSAT) else (f.signBit n + top, if f.inf then 0 else flOVERFLOW)
  | .fin n m e =>
    if saturate then f.roundWith f.maxBits (flSAT ||| flINEXACT) n m e
    else f.roundWith top (flOVERFLOW ||| flINEXACT) n m e

/-- Conversion to an integer format (R89). -/
def cvtToInt (r : IntRound) (fmt : Nat) (v : FVal) : Nat × Nat :=
  match v with
  | .nan _ _ => (0, flINVALID ||| flNAN_IN)
  | .inf n => (ofSigned (fmtBits fmt) (if n then fmtMin fmt else fmtMax fmt), flSAT)
  | .fin n m e =>
    let (x, exact) := roundToInt r n m e
    let (c, out) := clampInt (fmtMin fmt) (fmtMax fmt) x
    (ofSigned (fmtBits fmt) c, if out then flSAT else if exact then 0 else flINEXACT)

/-- The exact value of an element of any format of Table NF-1. -/
def elemVal (fmt x : Nat) : FVal :=
  match fmtFloat fmt with
  | some f => f.decode x
  | none =>
    if fmt = 0xA then
      match pairTerms x with
      | [.fin n m e, .fin n' m' e'] =>
        let (k, q) := dyadicSum [(signedInt n m, e), (signedInt n' m', e')]
        .fin (if k = 0 then n && n' else decide (k < 0)) k.natAbs q
      | v :: _ => v
      | [] => .fin false 0 0
    else let k := fmtInt fmt x; .fin (decide (k < 0)) k.natAbs 0

/-- The conversions 0x40–0x4D: destination format and result (R88, R89, R105). -/
def vecCvt (op fmt a : Nat) : Nat × Nat :=
  let v := elemVal fmt a
  match op with
  | 0x40 => cvtToFloat fp32 v
  | 0x41 => cvtToFloat fp16 v
  | 0x42 => cvtToFloat bf16 v
  | 0x43 => cvtToFloat8 e4m3 true v
  | 0x44 => cvtToFloat8 e5m2 true v
  | 0x45 => cvtToInt .nearest 5 v
  | 0x46 => cvtToInt .nearest 6 v
  | 0x47 => cvtToInt .nearest 7 v
  | 0x48 => cvtToInt .nearest 8 v
  | 0x49 => cvtToInt .zero 5 v
  | 0x4A => cvtToInt .floor 5 v
  | 0x4B => cvtToFloat8 e4m3 false v
  | 0x4C => cvtToFloat8 e5m2 false v
  | _ => (match v with | .nan n p => fp32.quiet n p | _ => a % 2 ^ 32, nanFlags [v])

/-- Width of the elements that a conversion writes. -/
def cvtBits (op : Nat) : Nat :=
  match op with
  | 0x40 => 32 | 0x41 => 16 | 0x42 => 16 | 0x43 => 8 | 0x44 => 8 | 0x45 => 32 | 0x46 => 16 | 0x47 => 8 | 0x48 => 8
  | 0x49 => 32 | 0x4A => 32 | 0x4B => 8 | 0x4C => 8 | _ => 64

/-- R98: the exponent of an exponent byte; 0x80 counts as −128. -/
def bfExp (x : Nat) : Int := asSigned 8 x

/-- Mantissa width of BF_EXPm and BF_PACKm. -/
def bfBits (op : Nat) : Nat := match op % 4 with | 0 => 4 | 1 => 8 | 2 => 16 | _ => 4

def bfWidth (op : Nat) : Nat := match op with | 0x60 => 4 | 0x63 => 4 | 0x61 => 8 | 0x64 => 8 | _ => 16

/-- R100: BF_PACKm of an element under an exponent byte. DESIGN CHOICE (entry 34): under the byte 0x7F it sets no flag of its own, although Table
NF-7 lists an invalid block under INVALID; a NaN element sets the flags of R86. -/
def bfPack (w fmt a x : Nat) : Nat × Nat :=
  if x = 0x7F ∨ x = 0x80 then (0, nanFlags [elemVal fmt a])
  else
    let top : Int := 2 ^ (w - 1) - 1
    match elemVal fmt a with
    | .nan n p => (0, flINVALID ||| nanFlags [.nan n p])
    | .inf n => (ofSigned w (if n then -top - 1 else top), flSAT)
    | .fin n m e =>
      let (k, exact) := roundToInt .nearest n m (e - bfExp x)
      let (c, out) := clampInt (-top - 1) top k
      (ofSigned w c, if out then flSAT else (if exact then 0 else flINEXACT) ||| (if k = 0 ∧ m ≠ 0 then flUNDERFLOW else 0))

/-- R98, R100: BF_UNPACK of a mantissa under an exponent byte. -/
def bfUnpack (fmt a x : Nat) : Nat × Nat :=
  if x = 0x7F then (fp32.nanBits, flINVALID)
  else
    let k := fmtInt fmt a
    fp32.round (decide (k < 0)) k.natAbs (bfExp x)

/-- R101: TILE_SCALE of element `p` of a tile under the parameter block `blk`. DESIGN CHOICE (entry 34): an exponent of 0x7F comes before a NaN
SCALE and gives the default NaN. -/
def tileScale (acc p blk : Nat) : Nat × Nat :=
  let re := elem 8 blk (p % 16384 / 128)
  let ce := elem 8 blk (128 + p % 128)
  let scale := fp32.decode (B.TSCALE_SCALE.get blk)
  if re = 0x7F ∨ ce = 0x7F then (fp32.nanBits, flINVALID ||| nanFlags [scale])
  else fp32.withNans [scale] <|
    let k := asSigned 32 acc
    match (FVal.fin (decide (k < 0)) k.natAbs (bfExp re + bfExp ce)).mul scale with
    | none => fp32.invalid
    | some (.fin n m e) => fp32.round n m e
    | some v => (fp32.signBit v.neg + fp32.infBits, 0)

/-- R107: the bin of a written element. -/
def histBin (v : FVal) : Nat :=
  match v with
  | .fin _ m e =>
    if m = 0 then 0 else
      let b := ilog m e + 32
      if b < 1 then 1 else if 62 < b then 62 else b.toNat
  | _ => 63

/-! ## Shapes (R90, R93, Table NF-5) -/

/-- The packed operations. -/
def vecPacked (op : Nat) : Bool := decide (op < 0x40) && op != 0x07

/-- Formats that Table NF-5 lists for an operation, as a mask; 0 for a reserved code. -/
def vecFormats (op : Nat) : Nat :=
  let fl3 : Nat := 0x7
  if 0x01 ≤ op ∧ op ≤ 0x06 then fl3
  else if op = 0x07 then 0x1F
  else if 0x08 ≤ op ∧ op ≤ 0x0A then fl3
  else if 0x0B ≤ op ∧ op ≤ 0x0E then 0x1
  else if op = 0x0F ∨ op = 0x10 then 0x400
  else if 0x20 ≤ op ∧ op ≤ 0x23 then 0x1E0
  else if op = 0x24 then 0x0E0
  else if op = 0x25 then 0x020
  else if op = 0x26 ∨ op = 0x27 then 0x1E0
  else if 0x28 ≤ op ∧ op ≤ 0x2A then 0x3E0
  else if op = 0x2B then 0x020
  else if 0x30 ≤ op ∧ op ≤ 0x33 then 0x020
  else if op = 0x40 then 0x5FF
  else if 0x41 ≤ op ∧ op ≤ 0x48 then 0x1FF
  else if 0x49 ≤ op ∧ op ≤ 0x4C then fl3
  else if op = 0x4D then 0x1
  else if 0x60 ≤ op ∧ op ≤ 0x65 then fl3
  else if op = 0x66 then 0x2C0
  else if op = 0x67 then 0x020
  else if op = 0x68 then 0x200
  else if op = 0x6C ∨ op = 0x6D then 0x1C0
  else if op = 0x6E ∨ op = 0x6F then 0x040
  else if op = 0x7F then 0x020
  else 0

/-- Issue interval and latency (Table NF-5). -/
def vecInterval (op : Nat) : Nat := if op = 0x25 then 4 else if 0x30 ≤ op ∧ op ≤ 0x33 then 16 else 1
def vecLatency (op : Nat) : Nat := if op = 0x25 then 12 else if 0x30 ≤ op ∧ op ≤ 0x33 then 20 else 8

/-- R82, R93, R103: the FCAUSE of an illegal vector part of a slice over a run of `n` cycles, 0 when legal. -/
def vecFault (op fmt vlen n : Nat) : Nat :=
  if op = 0 then 0
  else if vecFormats op = 0 ∧ ¬(op = 0x6E ∨ op = 0x6F) then 2
  else if 0xB ≤ fmt then 2
  else if ¬ hasBit (vecFormats op) fmt then 3
  else if n % vecInterval op ≠ 0 then 3
  else if fmt = 0xA ∧ vlen % 2 = 1 then 3
  else if op = 0x7F ∧ vlen ≠ 64 then 3
  else if vlen = 0 ∨ 512 < vlen then 3
  else 0

/-- Bytes of `n` elements of `w` bits. -/
def elemBytes (w n : Nat) : Nat := (w * n + 7) / 8

/-- 32-byte units of a stream per vector (R90). -/
def units (bytes : Nat) : Nat := (bytes + 31) / 32

/-- How one vector of an operation meets its streams: elements, bytes read from VSA and VSB and whether VSB is fixed, bytes of
VD read, elements and width written. -/
structure VecShape where
  n      : Nat
  aW     : Nat
  bBytes : Nat
  bFixed : Bool
  dBytes : Nat
  outN   : Nat
  outW   : Nat
deriving DecidableEq, Repr

def vecShape (op fmt vlen : Nat) : VecShape :=
  let w := fmtBits fmt
  if op = 0x07 then
    let n := vlen * fmtPerLane2 fmt / 2
    ⟨n, w, elemBytes w n, false, 4 * vlen, vlen, 32⟩
  else if op = 0x0F then ⟨vlen / 2, 64, 8 * (vlen / 2), false, 0, vlen / 2, 64⟩
  else if op = 0x10 then ⟨vlen / 2, 32, 4 * (vlen / 2), false, 8 * (vlen / 2), vlen / 2, 64⟩
  else if vecPacked op then
    let n := vlen * fmtPerLane2 fmt / 2
    let unary := decide (op = 0x0B) || decide (op = 0x0C)
    ⟨n, w, if unary then 0 else elemBytes w n, false, if op = 0x04 then elemBytes w n else 0, n, w⟩
  else if op < 0x60 then ⟨vlen, w, 0, false, 0, vlen, cvtBits op⟩
  else if op ≤ 0x62 then ⟨vlen, w, 0, false, 0, 0, 8⟩
  else if op ≤ 0x65 then ⟨vlen, w, vlen, true, 0, vlen, bfWidth op⟩
  else if op = 0x66 then ⟨vlen, w, vlen, true, 0, vlen, 32⟩
  else if op = 0x67 then ⟨vlen, 32, 288, true, 0, vlen, 32⟩
  else if op = 0x68 then ⟨vlen, 4, 32, true, 0, vlen, 8⟩
  else if op = 0x7F then ⟨0, 32, 0, false, 0, 64, 32⟩
  else ⟨vlen, w, 0, false, 0, vlen, 4⟩

/-- The elements that one vector writes, with their flags. `a`, `b`, `d` are the source streams as numbers, `base` the index of
the vector's first element in the run, `hist` the histogram counters. -/
def vecResult (op fmt vlen a b d base : Nat) (hist : List (Nat × Nat)) : List Nat × Nat :=
  let sh := vecShape op fmt vlen
  let w := fmtBits fmt
  let each (k : Nat → Nat × Nat) (n : Nat) : List Nat × Nat :=
    let rs := (List.range n).map k
    (rs.map (·.1), rs.foldl (fun f r => f ||| r.2) 0)
  let f := (fmtFloat fmt).getD fp32
  let ea (k : Nat) : Nat := elem w a k
  let eb (k : Nat) : Nat := elem w b k
  let va (k : Nat) : FVal := f.decode (ea k)
  let vb (k : Nat) : FVal := f.decode (eb k)
  match op with
  | 0x01 => each (fun k => f.withNans [va k, vb k] (f.sum [va k, vb k])) sh.n
  | 0x02 => each (fun k => f.withNans [va k, vb k] (f.sum [va k, (vb k).negate])) sh.n
  | 0x03 => each (fun k => f.withNans [va k, vb k]
      (match (va k).mul (vb k) with
        | none => f.invalid
        | some (.fin n m e) => f.round n m e
        | some v => (f.signBit v.neg + f.infBits, 0))) sh.n
  | 0x04 => each (fun k => f.dot [(va k, vb k)] (f.decode (elem w d k))) sh.n
  | 0x05 => each (fun k => vecMinMax f false (ea k) (eb k)) sh.n
  | 0x06 => each (fun k => vecMinMax f true (ea k) (eb k)) sh.n
  | 0x07 =>
    let q := fmtPerLane2 fmt / 2
    each (fun l => fp32.dot ((List.range q).map fun j => (va (q * l + j), vb (q * l + j))) (fp32.decode (elem 32 d l))) vlen
  | 0x08 => each (fun k => vecCmp f 0x08 (ea k) (eb k)) sh.n
  | 0x09 => each (fun k => vecCmp f 0x09 (ea k) (eb k)) sh.n
  | 0x0A => each (fun k => vecCmp f 0x0A (ea k) (eb k)) sh.n
  | 0x0B => each (fun k => vecRecip (ea k)) sh.n
  | 0x0C => each (fun k => vecRsqrt (ea k)) sh.n
  | 0x0D => each (fun k => vecSumErr (ea k) (eb k)) sh.n
  | 0x0E => each (fun k => vecProdErr (ea k) (eb k)) sh.n
  | 0x0F => each (fun k =>
      let x := pairTerms (elem 64 a k)
      let y := pairTerms (elem 64 b k)
      vecPair (Config.pairSum (elem 64 a k) (elem 64 b k) 0) (x ++ y) (x.take 1 ++ y.take 1)) sh.n
  | 0x10 => each (fun k =>
      let x := fp32.decode (elem 32 a k)
      let y := fp32.decode (elem 32 b k)
      let z := pairTerms (elem 64 d k)
      let ops := [x, y] ++ z.take 1
      if ops.any FVal.isNan then fp32.withNans ops (0, 0)
      else match x.mul y with
        | none => fp32.invalid
        | some p => vecPair (Config.pairSum (elem 32 a k) (elem 32 b k) (elem 64 d k)) (p :: z) ops) sh.n
  | 0x60 => ([], 0)
  | 0x61 => ([], 0)
  | 0x62 => ([], 0)
  | 0x63 => each (fun k => bfPack 4 fmt (ea k) (elem 8 b k)) sh.n
  | 0x64 => each (fun k => bfPack 8 fmt (ea k) (elem 8 b k)) sh.n
  | 0x65 => each (fun k => bfPack 16 fmt (ea k) (elem 8 b k)) sh.n
  | 0x66 => each (fun k => bfUnpack fmt (ea k) (elem 8 b k)) sh.n
  | 0x67 => each (fun k => tileScale (ea k) (base + k) b) sh.n
  | 0x68 => each (fun k => (elem 8 b (elem 4 a k), 0)) sh.n
  | 0x6C => each (fun k => (elem 4 (ea k) 0, 0)) sh.n
  | 0x6D => each (fun k => (elem 4 (ea k) 1, 0)) sh.n
  | 0x6E => each (fun k => (elem 4 (ea k) 2, 0)) sh.n
  | 0x6F => each (fun k => (elem 4 (ea k) 3, 0)) sh.n
  | 0x7F => ((List.range 64).map fun k => spGet 0 hist k, 0)
  | _ => if vecPacked op then each (fun k => vecInt op fmt (ea k) (eb k)) sh.n else each (fun k => vecCvt op fmt (ea k)) sh.n

/-- R107: the exact value of a written element, in the format that the operation writes. DESIGN CHOICE (entry 34): the all-ones result of a
comparison is the integer −1, and the results of UDIV and UREM are numbers of the slice's VFMT, INT32, and so signed. -/
def writtenVal (op fmt x : Nat) : FVal :=
  if 0x08 ≤ op ∧ op ≤ 0x0A then .fin (hasBit x (fmtBits fmt - 1)) (asSigned (fmtBits fmt) x).natAbs 0
  else if op < 0x07 ∨ op = 0x0F ∨ op = 0x10 ∨ (0x0B ≤ op ∧ op ≤ 0x0E) ∨ (0x20 ≤ op ∧ op ≤ 0x33) then
    elemVal (if op = 0x10 then 0xA else fmt) x
  else if op = 0x07 ∨ op = 0x40 ∨ op = 0x66 ∨ op = 0x67 then elemVal 0 x
  else if op = 0x41 then elemVal 1 x
  else if op = 0x42 then elemVal 2 x
  else if op = 0x43 ∨ op = 0x4B then elemVal 3 x
  else if op = 0x44 ∨ op = 0x4C then elemVal 4 x
  else if op = 0x45 ∨ op = 0x49 ∨ op = 0x4A then elemVal 5 x
  else if op = 0x46 ∨ op = 0x65 then elemVal 6 x
  else if op = 0x48 then elemVal 8 x
  else if op = 0x4D then elemVal 0xA x
  else if op = 0x47 ∨ op = 0x64 ∨ op = 0x68 ∨ op ≤ 0x62 then elemVal 7 x
  else elemVal 9 x

/-! ## A run on a core (R90–R92, R99, R107–R111) -/

/-- Core-store address of a 32-byte unit index, wrapping modulo 786,432 units (R90). -/
def vecAddr (c unit : Nat) : Nat := coreBase c + 32 * (unit % 786432)

/-- R125: the units a queued or running transfer has still to write include the range. -/
def State.earlyRead (s : State) (a n : Nat) : Bool :=
  (List.range 16).any fun c => (s.queue c).any fun t => t.willWrite a n

/-- R91, R92: reads `n` bytes at unit `u` of core `c` for a slice in ACLK cycle `t`: the bytes, whether any unit was poisoned, and the state after the
checks. A suppressed read gives zeros and counts as poisoned, and so does a violation. -/
def State.vecRead (s : State) (c part slot u n t : Nat) : Nat × Bool × State :=
  (List.range (units n)).foldl (fun acc k =>
    let (v, p, s) := acc
    let a := vecAddr c (u + k)
    let len := min 32 (n - 32 * k)
    match s.tagOf a with
    | .plan => (v, true, s.vecFlags c part slot flPLAN_REGION)
    | tag =>
      if tag.reads part then
        let s := if s.earlyRead a 32 then s.stowFlag F.MT_STATUS_EARLY_READ 1 c part slot else s
        (v + leNat (s.bytesAt t a len) * 2 ^ (256 * k), p || s.markAt t a, s)
      else (v, true, s.violation part a)) (0, false, s)

/-- R91, R92: starts the write of `bs` at unit `u`; it becomes visible at cycle `at'`. `bins` are the histogram bins of the elements, each
`w` bits wide, that count once they are written (R107). -/
def State.vecStart (s : State) (c part slot u at' : Nat) (bs : List Byte) (p : Bool) (w : Nat) (bins : List Nat) : State :=
  (List.range (units bs.length)).foldl (fun s k =>
    let a := vecAddr c (u + k)
    match s.tagOf a with
    | .plan => s.vecFlags c part slot flPLAN_REGION
    | t =>
      if t.writes part then
        let v := s.vec c
        let per := 256 / w
        (s.setVec c { v with pend := v.pend ++
          [⟨at', a, (bs.drop (32 * k)).take 32, p, part, slot, (bins.drop (per * k)).take per, true⟩] }).lotWritten a
      else s.violation part a) s

/-- R107, R108: the histogram of core `c` counts for this slice, as PL_VEC_HIST stood at the core's last bundle boundary. -/
def State.histCounts (s : State) (c part slot : Nat) : Bool :=
  let v := (s.vec c).cfg
  F.PL_VEC_HIST_EN.get v == 1 && F.PL_VEC_HIST_SLOT.get v == slot && F.PL_VEC_HIST_PART.get v == part

/-- R108: a bundle boundary of core `c`: what has been written to PL_VEC_HIST takes effect. -/
def State.histBoundary (s : State) (c : Nat) : State :=
  let v := s.vec c
  if v.cfg = s.reg R.PL_VEC_HIST c ∧ v.clear = false then s
  else s.setVec c { v with cfg := s.reg R.PL_VEC_HIST c, hist := if v.clear then [] else v.hist, clear := false }

/-- The vector part of a slice. -/
structure VecSlice where
  op   : Nat
  fmt  : Nat
  a    : Nat
  b    : Nat
  d    : Nat
  len  : Nat
  part : Nat
  slot : Nat
deriving DecidableEq, Repr

/-- R109: the first cycle of a vector run saves the histogram counters; a BF_EXP run starts with no magnitude seen. -/
def State.vecBegin (s : State) (c : Nat) : State :=
  let v := s.vec c
  s.setVec c { v with histSaved := v.hist, pend := v.pend.map (fun w => { w with run := false }), bfMax := [], bfBad := [], bfPoison := false }

/-- R99: one vector of a BF_EXP run raises the running maxima of its lanes. -/
def State.bfStep (s : State) (c fmt vlen a : Nat) (p : Bool) : State :=
  let v := s.vec c
  let step (v : VecUnit) (l : Nat) : VecUnit :=
    match elemVal fmt (elem (fmtBits fmt) a l) with
    | .fin _ m e =>
      if m = 0 then v else
        let x := ilog m e + 1024
        { v with bfMax := spSet 0 v.bfMax l (max (spGet 0 v.bfMax l) x) }
    | _ => { v with bfBad := spSet false v.bfBad l true }
  s.setVec c { (List.range vlen).foldl step v with bfPoison := (s.vec c).bfPoison || p }

/-- R99: the exponent byte of a lane at the end of a BF_EXPm run. -/
def bfExpByte (m : Nat) (v : VecUnit) (l : Nat) : Nat × Nat :=
  if spGet false v.bfBad l then (0x7F, flINVALID)
  else
    let x := spGet 0 v.bfMax l
    if x = 0 then (0x80, 0) else (ofSigned 8 (max (-127) (x - 1024 - ((m : Int) - 2))), 0)

/-- Cycle `k` of `n` of a vector run on core `c`, in ACLK cycle `t`. -/
def State.vecCycle (s : State) (c : Nat) (x : VecSlice) (k n t : Nat) : State :=
  if x.op = 0 then s else
  let s := if k = 0 then s.vecBegin c else s
  let i := vecInterval x.op
  if k % i ≠ 0 then s else
  let j := k / i
  let sh := vecShape x.op x.fmt x.len
  let aB := elemBytes sh.aW sh.n
  let outB := elemBytes sh.outW sh.outN
  let (a, pa, s) := s.vecRead c x.part x.slot (x.a + j * units aB) aB t
  let (b, pb, s) := s.vecRead c x.part x.slot (if sh.bFixed then x.b else x.b + j * units sh.bBytes) sh.bBytes t
  let (d, pd, s) := s.vecRead c x.part x.slot (x.d + j * units outB) sh.dBytes t
  let p := pa || pb || pd
  let v := s.vec c
  let (els, fl) := vecResult x.op x.fmt x.len a b d (j * x.len) v.hist
  let s := s.vecFlags c x.part x.slot fl
  let s := s.worked 1 x.part sh.n
  let s := if x.op = 0x25 then
      let skipped := (List.range sh.n).foldl (fun q l => q + imulSkipped (elem 32 b l)) 0
      (s.bump F.PL_VEC_STATUS_ITER_SKIPPED c skipped).worked 2 x.part (4 * sh.n - skipped)
    else s
  if 0x60 ≤ x.op ∧ x.op ≤ 0x62 then
    let s := s.vecFlags c x.part x.slot (nanFlags ((List.range x.len).map fun l => elemVal x.fmt (elem (fmtBits x.fmt) a l)))
    let s := s.bfStep c x.fmt x.len a p
    if k + 1 = n then
      let v := s.vec c
      let rs := (List.range x.len).map (bfExpByte (bfWidth x.op) v)
      let s := s.vecFlags c x.part x.slot (rs.foldl (fun f r => f ||| r.2) 0)
      let bins := if s.histCounts c x.part x.slot && !v.bfPoison then rs.map fun r => histBin (elemVal 7 r.1) else []
      s.vecStart c x.part x.slot x.d (t + 8) (rs.map fun r => BitVec.ofNat 8 r.1) v.bfPoison 8 bins
    else s
  else
    let s := if x.op = 0x7F then s.setVec c { s.vec c with hist := [] } else s
    let bins := if x.op ≠ 0x7F ∧ s.histCounts c x.part x.slot = true ∧ p = false
      then els.map fun e => histBin (writtenVal x.op x.fmt e) else []
    -- The half byte after an odd last nibble is not given by R90 and R103: a free value.
    let (s, bits) :=
      if sh.outW * sh.outN % 8 = 0 then (s, packElems sh.outW els)
      else
        let (fv, s') := s.fresh
        (s', packElems sh.outW els + (fv.toNat % 16) * 2 ^ (sh.outW * sh.outN))
    s.vecStart c x.part x.slot (x.d + j * units outB) (t + vecLatency x.op) (leBytes outB bits) p sh.outW bins

/-- R109: an abandoned bundle restores the histogram counters of its cores. Results of the run that are still to be written complete, and are
counted when the bundle issues again. -/
def State.vecRestore (s : State) (c : Nat) : State :=
  let v := s.vec c
  s.setVec c { v with hist := v.histSaved, pend := v.pend.map fun w => if w.run then { w with bins := [] } else w }

/-- The vector part of a slice's bits (Table PL-5). -/
def vecSlice (sl : Nat) : VecSlice :=
  { op := B.SLICE_VOP.get sl, fmt := B.SLICE_VFMT.get sl, a := B.SLICE_VSA.get sl, b := B.SLICE_VSB.get sl,
    d := B.SLICE_VD.get sl, len := B.SLICE_VLEN.get sl, part := B.SLICE_PART.get sl, slot := B.SLICE_SLOT_ID.get sl }

end Sys2Proof.Machine
end

