-- ==== Sys2Proof/Machine/Array.lean ====
section
/-! DEFINITION. The engine array (03): the arithmetic of a cell, retiring, draining and loading, and the run of an engine
operation on a core. -/

namespace Sys2Proof.Machine

/-- The engine part of a slice (Table PL-5). -/
structure EngSlice where
  eop   : Nat
  en    : Nat
  wbits : Nat
  trans : Bool
  abits : Nat
  clr   : Bool
  aRow  : Nat
  wRow  : Nat
  oRow  : Nat
  aStep : Int
  wStep : Int
  oStep : Int
  part  : Nat
  slot  : Nat
deriving DecidableEq, Repr

def engSlice (sl : Nat) : EngSlice :=
  { eop := B.SLICE_EOP.get sl, en := B.SLICE_ENG_EN.get sl, wbits := B.SLICE_WBITS.get sl + 1,
    trans := B.SLICE_TRANS.get sl == 1, abits := B.SLICE_ABITS.get sl + 1, clr := B.SLICE_ACC_CLR.get sl == 1,
    aRow := B.SLICE_A_ROW.get sl, wRow := B.SLICE_W_ROW.get sl, oRow := B.SLICE_O_ROW.get sl,
    aStep := asSigned 10 (B.SLICE_A_STEP.get sl), wStep := asSigned 10 (B.SLICE_W_STEP.get sl),
    oStep := asSigned 10 (B.SLICE_O_STEP.get sl), part := B.SLICE_PART.get sl, slot := B.SLICE_SLOT_ID.get sl }

/-- Slices of a weight and nibble groups of an activation (R58); cycles of a comparison element (R62). -/
def wSlices (wbits : Nat) : Nat := (wbits + 3) / 4
def aGroups (abits : Nat) : Nat := (abits + 3) / 4
def elemTime (wbits abits : Nat) : Nat := 2 * wSlices wbits * abits

/-- The arithmetic operations (R57). -/
def isArith (eop : Nat) : Bool := decide (1 ≤ eop) && decide (eop ≤ 6)
def isCompare (eop : Nat) : Bool := decide (4 ≤ eop) && decide (eop ≤ 6)

/-- R56, R57, Table EA-1: the FCAUSE of an illegal engine part over a run of `n` cycles, 0 when legal. -/
def engFault (x : EngSlice) (n : Nat) : Nat :=
  if x.eop = 0 then 0
  else if 9 ≤ x.eop then 2
  else if x.en = 0 then 3
  else if x.eop = 3 ∧ (x.wbits ≠ 1 ∨ x.abits ≠ 1) then 3
  else if isCompare x.eop = true ∧ (n % elemTime x.wbits x.abits ≠ 0 ∨ x.trans = true) then 3
  else if x.eop = 7 ∧ x.trans = true then 3
  else if x.eop = 8 ∧ (n ≠ 1024 ∨ x.trans = true) then 3
  else 0

/-- R33: a row pointer in cycle `k` of a run, modulo 8,192. -/
def rowAt (r : Nat) (step : Int) (k : Nat) : Nat := (((r : Int) + step * k) % 8192).toNat

/-- Nibble `j` of a row held as a number (R58). -/
def nibble (row j : Nat) : Nat := elem 4 row j

/-- R55: a sum held within 32 bits, and whether it had to be. -/
def accSat (x : Int) : Word × Bool :=
  let (c, o) := clampInt (-(2 ^ 31)) (2 ^ 31 - 1) x
  (BitVec.ofInt 32 c, o)

/-- R60: the term a cell adds in one cycle of a multiply run: weight nibble, activation nibble, pass index. -/
def mulTerm (eop wbits abits pass aNib wNib : Nat) : Int :=
  let sl := pass / abits
  let b := pass % abits
  let aBit : Int := bit (hasBit aNib (b % 4))
  if eop = 3 then (if hasBit aNib (b % 4) == hasBit wNib 0 then 1 else -1)
  else
    let w : Int := if wbits ≤ 4 then asSigned wbits wNib
      else if sl = 0 then (wNib : Int) else asSigned (wbits - 4) wNib
    let t := w * aBit * 2 ^ (b + 4 * sl)
    if eop = 1 ∧ b + 1 = abits then -t else t

/-- R62, R63: a comparison element applied to ACC. -/
def cmpApply (eop : Nat) (acc : Word) (a w : Int) : Word × Bool :=
  if eop = 4 then accSat (acc.toInt + (a - w).natAbs)
  else if eop = 5 then (BitVec.ofInt 32 (min acc.toInt (a + w)), false)
  else (BitVec.ofInt 32 (max acc.toInt (a + w)), false)

/-- R63: the value ACC takes at a retire or an ACC_CLR. DESIGN CHOICE (entry 56): after a plain RETIRE run, for which R63 gives none, it
is 0. -/
def accInit (eop : Nat) : Word := if eop = 5 then 0x7FFFFFFF else if eop = 6 then 0x80000000 else 0

/-- Every cell at one value. -/
def accFill (v : Word) : List (Nat × Word) := spTabulate 0 16384 fun _ => v

/-- R71, R120, R125: an engine reads a row in ACLK cycle `t`: its 64 bytes as a number and whether the tile is to be poisoned (R73,
R74). -/
def State.engRead (s : State) (n part slot row t : Nat) : Nat × Bool × State :=
  let a := opbRow n row
  if s.opbTag n row = part then
    let s := if s.earlyRead a 64 then s.stowFlag F.MT_STATUS_EARLY_READ 1 (n / 8) part slot else s
    (leNat (s.bytesAt t a 64), s.marksAt t a 64, s)
  else (0, true, s.violation part a)

/-- R64: the nibbles of a transposed read: nibble `col` of each of the block's 128 rows. -/
def State.engReadTrans (s : State) (n part slot block col t : Nat) : Nat × Bool × State :=
  (List.range 128).foldl (fun acc j =>
    let (v, p, s) := acc
    let (r, q, s) := s.engRead n part slot ((128 * block + j) % 8192) t
    (v + nibble r col * 2 ^ (4 * j), p || q, s)) (0, false, s)

/-- R64: block and column of a transposed read in cycle `k`. -/
def transAt (wRow : Nat) (wStep : Int) (k : Nat) : Nat × Nat :=
  let c := wRow % 128 + k
  (((((wRow / 128 : Nat) : Int) + wStep * (c / 128 : Nat)) % 64).toNat, c % 128)

/-- R76: what the first cycle of every run saves. -/
def Engine.checkpoint (e : Engine) : Engine :=
  { e with ckpt := e.acc, savedPass := e.pass, savedLive := e.live, savedDrain := e.drain, savedPoison := e.poison }

/-- R76: what an abandoned bundle restores. OUT is not restored. The poison mark goes with the tile in ACC, so that the tile's rows are marked
when the bundle issues again (R74). -/
def Engine.restore (e : Engine) : Engine :=
  { e with acc := e.ckpt, pass := e.savedPass, live := e.savedLive, drain := e.savedDrain, poison := e.savedPoison }

/-- R65–R68, R61, R55, R74: a retire by a slice in ACLK cycle `t`. With LIVE clear it moves nothing. -/
def State.retire (s : State) (n : Nat) (x : EngSlice) (t : Nat) : State :=
  let e := s.engine n
  if e.live then
    let s := if e.drain.count ≠ 0 then s.engFlag n x.part x.slot 17 true else s
    let s := if e.sat then (s.bump F.PL_ENG_STATUS_SAT_TILES n).engFlag n x.part x.slot 16 true else s
    let s := if e.pass ≠ 0 then s.engFlag n x.part x.slot 20 true else s
    let s := if e.mismatch && decide (x.part < 2) then s.raise 0x05 (n + 256 * 21) else s
    let s := if e.poison then s.engFlag n x.part x.slot 18 false else s
    s.setEngine n { e with
      out := e.acc
      acc := accFill (accInit x.eop)
      live := false
      drain := ⟨x.oRow, x.oStep, 1024, t + 8⟩
      drainPart := x.part
      outPoison := e.poison
      sat := false
      poison := false
      mismatch := false }
  else s

/-- R67: drain row `r` of OUT as a number: 16 words of four bytes. -/
def drainRow (out : List (Nat × Word)) (r : Nat) : Nat :=
  packElems 32 ((List.range 16).map fun x => (spGet 0 out (128 * (r / 8) + 16 * (r % 8) + x)).toNat)

/-- R67, R69, R72: ACLK cycle `t` of an engine's drain, in which its core issues: from the eighth cycle after the retiring one on, a row is
written. A transfer's write of the same cycle to the same row stands. -/
def State.drainCycle (s : State) (n t : Nat) : State :=
  let e := s.engine n
  let d := e.drain
  if d.count = 0 ∨ t < d.start then s
  else
    let a := opbRow n d.ptr
    let lost := s.clashes t a 64 (· == .transfer)
    let s' := s.setEngine n { e with drain := ⟨rowAt d.ptr d.step 1, d.step, d.count - 1, d.start⟩ }
    if lost then s'.engFlag n e.drainPart 0 19 true
    else if s.opbTag n d.ptr = e.drainPart then
      (s'.noteEdge t .drain a 64).wrMarked a (leBytes 64 (drainRow e.out (1024 - d.count))) e.outPoison
    else s'.violation e.drainPart a

/-- R61: the fields that a run of the tile executes with; a run that differs from the latched ones marks the tile. After
LOAD_ACC, and before any tile, the first arithmetic run gives EOP. -/
def Engine.latch (e : Engine) (x : EngSlice) : Engine × Bool :=
  if x.clr || decide (x.eop = 8) then ({ e with eop := x.eop, wbits := x.wbits, abits := x.abits, mismatch := false }, false)
  else if e.eop = 0 then ({ e with eop := x.eop, wbits := x.wbits, abits := x.abits }, false)
  else
    let eop := if e.eop = 8 then x.eop else e.eop
    let bad := decide (eop ≠ x.eop) || decide (e.wbits ≠ x.wbits) || decide (e.abits ≠ x.abits)
    ({ e with eop := eop, mismatch := e.mismatch || bad }, bad)

/-- The first cycle `t` of a run on an engine: checkpoint, retire, clear and latch (R59, R61, R63, R65, R70, R76). DESIGN CHOICE (entry 56): a
RETIRE run latches no fields, even where it carries ACC_CLR, because it brings no tile. -/
def State.engBegin (s : State) (n : Nat) (x : EngSlice) (t : Nat) : State :=
  let s := s.setEngine n (s.engine n).checkpoint
  let s := if x.clr || decide (x.eop = 7) || decide (x.eop = 8) then s.retire n x t else s
  let e := s.engine n
  let e := if x.clr then { e with acc := accFill (accInit x.eop), pass := 0, sat := false, poison := false } else e
  let e := if x.eop = 8 then { e with pass := 0, sat := false, poison := false } else e
  if x.eop = 7 then s.setEngine n e
  else
    let (e, bad) := e.latch x
    let s := s.setEngine n { e with live := true, elemA := [], elemW := [] }
    if bad then s.engFlag n x.part x.slot 21 false else s

/-- Adds a multiply term to every cell (R60). -/
def macAll (e : Engine) (aRow wRow : Nat) : Engine :=
  let cell (k : Nat) : Word × Bool :=
    accSat ((spGet 0 e.acc k).toInt + mulTerm e.eop e.wbits e.abits e.pass (nibble aRow (k / 128)) (nibble wRow (k % 128)))
  { e with acc := spTabulate 0 16384 fun k => (cell k).1, sat := e.sat || (List.range 16384).any fun k => (cell k).2 }

/-- Applies a comparison element to every cell (R62). -/
def cmpAll (e : Engine) : Engine :=
  let cell (k : Nat) : Word × Bool :=
    cmpApply e.eop (spGet 0 e.acc k) (asSigned e.abits (spGet 0 e.elemA (k / 128))) (asSigned e.wbits (spGet 0 e.elemW (k % 128)))
  { e with acc := spTabulate 0 16384 fun k => (cell k).1, sat := e.sat || (List.range 16384).any fun k => (cell k).2 }

/-- Gathers nibble group `q` of a row into the element's operands, by array row or column (R62). -/
def gather (m : List (Nat × Nat)) (row q : Nat) : List (Nat × Nat) :=
  spTabulate 0 128 fun i => (if q = 0 then 0 else spGet 0 m i) + nibble row i * 2 ^ (4 * q)

/-- Cycle `k` of a run of `len` cycles on engine `n`, in ACLK cycle `t`: operands, arithmetic, and the pass index at the end. -/
def State.engCycle (s : State) (n : Nat) (x : EngSlice) (k len t : Nat) : State :=
  let s := (if k = 0 then s.engBegin n x t else s).worked 0 x.part 1
  let e := s.engine n
  let poisoned (e : Engine) (p : Bool) : Engine := { e with poison := e.poison || p }
  let s :=
    if x.eop = 8 then
      let (row, p, s) := s.engRead n x.part x.slot (rowAt x.aRow x.aStep k) t
      let acc := (List.range 16).foldl (fun m j =>
        spSet 0 m (128 * (k / 8) + 16 * (k % 8) + j) (BitVec.ofNat 32 (elem 32 row j))) e.acc
      s.setEngine n (poisoned { e with acc := acc } p)
    else if x.eop = 7 ∨ x.eop = 0 then s
    else if isCompare e.eop then
      let E := elemTime e.wbits e.abits
      let ph := k % E
      let (e, s) := if ph < aGroups e.abits then
          let (row, p, s) := s.engRead n x.part x.slot (rowAt x.aRow x.aStep k) t
          (poisoned { e with elemA := gather e.elemA row ph } p, s)
        else (e, s)
      let (e, s) := if ph < wSlices e.wbits then
          let (row, p, s) := s.engRead n x.part x.slot (rowAt x.wRow x.wStep k) t
          (poisoned { e with elemW := gather e.elemW row ph } p, s)
        else (e, s)
      s.setEngine n (if ph + 1 = E then cmpAll e else e)
    else
      let (aRow, p, s) := s.engRead n x.part x.slot (rowAt x.aRow x.aStep k) t
      let (wRow, q, s) :=
        if x.trans then
          let (blk, col) := transAt x.wRow x.wStep k
          s.engReadTrans n x.part x.slot blk col t
        else s.engRead n x.part x.slot (rowAt x.wRow x.wStep k) t
      s.setEngine n (macAll (poisoned e (p || q)) aRow wRow)
  if k + 1 = len ∧ isArith x.eop = true then
    let e := s.engine n
    s.setEngine n { e with pass := (e.pass + 1) % (wSlices e.wbits * e.abits) }
  else s

/-- The engines of core `c` that a slice enables (R57). -/
def engsOf (c : Nat) (x : EngSlice) : List Nat := if x.eop = 0 then [] else (bitsOf 8 x.en).map fun e => 8 * c + e

/-- One issuing cycle of a core: reads before writes (R71), then the drains of all its engines (R69), then the unit that its transfer moves in
this cycle. -/
def State.coreCycle (s : State) (c : Nat) (sl k len t : Nat) : State :=
  let x := engSlice sl
  let s := (s.movesBefore c t).settleVec c t
  let s := if k = 0 then s.histBoundary c else s
  let s := (engsOf c x).foldl (fun s n => s.engCycle n x k len t) s
  let s := s.vecCycle c (vecSlice sl) k len t
  let s := (List.range 8).foldl (fun s e => s.drainCycle (8 * c + e) t) s
  s.movesIn c t

/-- R81, Table EA-5: a read of PL_ENG_STATUS shows the engine's LIVE flag and pass index. -/
def State.engStatus (s : State) (n : Nat) : BitVec 64 × State :=
  let (v, s) := s.readReg R.PL_ENG_STATUS n
  (F.PL_ENG_STATUS_PASS.put (F.PL_ENG_STATUS_LIVE.put v (bit (s.engine n).live)) (s.engine n).pass, s)

/-- Cycles `k0` to `k0 + n − 1` of a run of `len` cycles on one core, the first in ACLK cycle `t`. -/
def State.coreRun (s : State) (c sl k0 n len t : Nat) : State :=
  (List.range n).foldl (fun s k => s.coreCycle c sl (k0 + k) len (t + k)) s

end Sys2Proof.Machine
end

