-- ==== Sys2Proof/Machine/Plan.lean ====
section
/-! DEFINITION. Ridgepole (02): bundles and their fetch checks, the next pending OPEN, the issue of each kind, windows, holds, plan
faults, and the writes of PL_CTRL. -/

namespace Sys2Proof.Machine

/-! ## Bundles -/

/-- R28: a bundle as its sixteen lanes of 64 bytes. -/
structure Bundle where
  idx   : Nat
  lanes : List Nat
deriving DecidableEq, Repr

def Bundle.lane (b : Bundle) (c : Nat) : Nat := b.lanes.getD c 0
/-- Bits 447–0 of a lane: the core slice. -/
def Bundle.slice (b : Bundle) (c : Nat) : Nat := b.lane c % 2 ^ 448
/-- Chip word `i`. -/
def Bundle.word (b : Bundle) (i : Nat) : Nat := b.lane i / 2 ^ 448
def Bundle.slot (b : Bundle) (ch : Nat) : Nat := b.word (2 + ch)
def Bundle.kind (b : Bundle) : Nat := B.CW0_KIND.get (b.word 0)
def Bundle.count (b : Bundle) : Nat := B.CW0_COUNT.get (b.word 0)
def Bundle.window (b : Bundle) : Nat := B.CW1_WINDOW_ID.get (b.word 1)
def Bundle.coreMask (b : Bundle) : Nat := B.CW1_CORE_MASK.get (b.word 1)
def Bundle.chanMask (b : Bundle) : Nat := B.CW1_CHAN_MASK.get (b.word 1)

/-- R25: bundle `b` lies at the same offset of the plan region of every core. -/
def State.fetch (s : State) (b : Nat) : Bundle :=
  ⟨b, (List.range 16).map fun c => s.rdLe (coreBase c + s.planLot * 65536 + 64 * b) 64⟩

/-- R32: a slice whose EOP, VOP and XOP are all 0 is idle. -/
def sliceIdle (sl : Nat) : Bool := B.SLICE_EOP.get sl == 0 && B.SLICE_VOP.get sl == 0 && B.SLICE_XOP.get sl == 0

/-- R30: the run length of a bundle. -/
def Bundle.len (b : Bundle) : Nat := if b.kind = 2 ∨ b.kind = 3 then 1 else b.count

def Bundle.cores (b : Bundle) : List Nat := (List.range 16).filter fun c => !(sliceIdle (b.slice c))
def Bundle.chans (b : Bundle) : List Nat := (List.range 8).filter fun ch => B.SLOT_DOP.get (b.slot ch) != 0

/-! ## Fetch checks (R46) -/

/-- R218: the class and the partition of a slice or of a GRANT agree. -/
def classOk (klass part : Nat) : Bool := if klass = 0 then decide (part < 2) else klass != 1 && decide (2 ≤ part)

/-- A reserved code or a nonzero reserved field. -/
def Bundle.reserved (b : Bundle) (n : Nat) : Bool :=
  let w := b.word
  let wordBits := w 0 / 2 ^ 28 % 16 != 0 || w 0 / 2 ^ 56 != 0 || w 1 / 2 ^ 48 != 0 || w 10 / 2 ^ 16 % 2 ^ 16 != 0 || w 10 / 2 ^ 41 != 0 ||
    w 11 / 2 ^ 20 != 0 || w 12 / 2 ^ 5 % 8 != 0 || w 12 / 2 ^ 32 != 0 || w 13 != 0 || w 14 != 0 || w 15 % 2 ^ 32 != 0
  let slots := (List.range 8).any fun ch =>
    let x := b.slot ch
    decide (4 < B.SLOT_DOP.get x) || x / 2 ^ 12 % 16 != 0 || x / 2 ^ 32 != 0
  let slices := (List.range 16).any fun c =>
    let x := b.slice c
    x / 2 ^ 21 % 2 != 0 || x / 2 ^ 61 % 8 != 0 || x / 2 ^ 94 % 2 ^ 34 != 0 || x / 2 ^ 210 % 2 ^ 46 != 0 ||
      x / 2 ^ 368 % 2 ^ 16 != 0 || x / 2 ^ 397 != 0 || decide (0xA < B.SLICE_VFMT.get x) ||
      engFault (engSlice x) n == 2 || vecFault (B.SLICE_VOP.get x) (B.SLICE_VFMT.get x) (B.SLICE_VLEN.get x) n == 2 || moveFault x == 2
  decide (6 < b.kind) || wordBits || slots || slices

/-- A field of the bundle lies outside its range; `golden` is the golden window and its offset (R214). -/
def Bundle.outOfRange (b : Bundle) (st : Stream) (n : Nat) (golden : Nat × Nat) : Bool :=
  let k := b.kind
  let top := 16777214
  let counts :=
    if k = 1 ∨ k = 6 then b.count != 0 || !b.cores.isEmpty || !b.chans.isEmpty
    else decide (top < b.count) || ((k == 0 || k == 4 || k == 5) && b.count == 0)
  let w12 := b.word 12
  let lc := B.CW0_BMODE.get (b.word 0) == 3 && decide (16 ≤ B.CW0_COND.get (b.word 0)) ||
    hasBit w12 4 && (w12 / 2 ^ 8 % 2 ^ 24 == 0 || decide (top < w12 / 2 ^ 8 % 2 ^ 24))
  let claim :=
    if k = 3 then b.coreMask == 0 || b.window == 0 || golden.1 != 0 && b.window == golden.1 && b.count != golden.2
    else b.coreMask != 0 || b.chanMask != 0 || (if k = 4 then b.window == 0 else b.window != 0)
  let alt := B.CW1_ALT_EN.get (b.word 1) == 1 && !(k == 0 && st == Stream.fill)
  let slots := (List.range 8).any fun ch =>
    let x := b.slot ch
    let d := B.SLOT_DOP.get x
    let m := B.SLOT_MCYC.get x
    d != 0 && (m == 0 || decide (4096 < m)) ||
      (if d = 1 then !(classOk (B.SLOT_CLASS.get x) (B.SLOT_PART.get x)) else B.SLOT_CLASS.get x != 0 || B.SLOT_PART.get x != 0)
  let slices := (List.range 16).any fun c =>
    let x := b.slice c
    !(classOk (B.SLICE_CLASS.get x) (B.SLICE_PART.get x)) || decide (786431 < B.SLICE_VSA.get x) || decide (786431 < B.SLICE_VSB.get x) ||
      decide (786431 < B.SLICE_VD.get x) || engFault (engSlice x) n == 3 ||
      vecFault (B.SLICE_VOP.get x) (B.SLICE_VFMT.get x) (B.SLICE_VLEN.get x) n == 3 || moveFault x == 3
  counts || lc || claim || alt || slots || slices

/-- R26: bundle `b` lies in the stream's part of the plan region. -/
def State.inPart (s : State) (st : Stream) (b : Nat) : Bool :=
  match st with
  | .frame => decide (b < s.fld F.PL_ENTRY_FILL_BASE)
  | .fill => decide (s.fld F.PL_ENTRY_FILL_BASE ≤ b) && decide (b < 1024 * s.fld F.PL_CONFIG_PLAN_SIZE)

/-- R43: a loop counter of the stream. -/
def ownLc (st : Stream) (i : Nat) : Bool := match st with | .frame => decide (i < 8) | .fill => decide (8 ≤ i)

/-- R46: the FCAUSE of a bundle at fetch, 0 when it is legal; of several the lowest. -/
def State.bundleFault (s : State) (st : Stream) (b : Bundle) : Nat :=
  let w0 := b.word 0
  let bm := B.CW0_BMODE.get w0
  let cond := B.CW0_COND.get w0
  let k := b.kind
  let crc := crc32c ((b.lanes.flatMap fun l => leBytes 64 l).take 1020)
  if crc ≠ b.word 15 / 2 ^ 32 then 1
  else if b.reserved b.len then 2
  else if b.outOfRange st b.len (s.fld F.SP_GOLDEN_CFG_WINDOW, s.fld F.SP_GOLDEN_CFG_OFFSET) then 3
  else if !(s.inPart st b.idx) || bm != 0 && !(s.inPart st (B.CW0_TARGET.get w0)) ||
      B.CW1_ALT_EN.get (b.word 1) == 1 && !(s.inPart st (B.CW1_ALT_TARGET.get (b.word 1))) then 4
  else if (match st with
      | .frame => k == 6 || k == 5 && !s.ridge.windows.isEmpty
      | .fill => k == 1 || k == 2 || k == 3 || k == 4) then 5
  else if bm == 3 && !(ownLc st cond) || hasBit (b.word 12) 4 && !(ownLc st (b.word 12 % 16)) ||
      st == Stream.frame && bm == 1 && s.flag F.PL_COND_OWN_VALID cond && decide (2 ≤ s.fld F.PL_COND_OWN_OWNER cond) then 6
  else 0

/-! ## Windows and stops -/

/-- PL_STATUS shows whether a window is open, and the one opened last (Table PL-13). -/
def State.windowStatus (s : State) : State :=
  match s.ridge.windows with
  | [] => (s.setFld F.PL_STATUS_IN_WINDOW 0 0).setFld F.PL_STATUS_WINDOW_ID 0 0
  | w :: _ => (s.setFld F.PL_STATUS_IN_WINDOW 0 1).setFld F.PL_STATUS_WINDOW_ID 0 w.id

/-- R35, R41: with channels no longer claimed, a refresh debt of 8 that waited raises its hold. -/
def State.debtsWaiting (s : State) : State :=
  if (List.range 8).any fun ch => (s.chan ch).debt == 8 && !(s.chanClaimed ch) && !(s.standalone ch) then
    s.raiseHold 3 (some (s.clk.aclk + 5500))
  else s

/-- R35, R122: before the claims of windows change, what a hold lets transfers and REF commands do is counted up to now; a channel that
comes free issues its next REF from now on. -/
def State.claimsChange (s : State) : State :=
  let now := s.clk.aclk
  let s := (s.countMoves now).holdRefs now
  (List.range 8).foldl (fun (s : State) ch =>
    if s.chanClaimed ch then s.setChan ch { s.chan ch with refAt := max (s.chan ch).refAt (2 * now) } else s) s

/-- Closes the window `id`. -/
def State.closeWindow (s : State) (id : Nat) : State :=
  let s := s.claimsChange
  let s := { s with ridge := { s.ridge with windows := s.ridge.windows.filter fun w => w.id != id } }
  let s := if id = s.fld F.SP_GOLDEN_CFG_WINDOW then { s with plumb := { s.plumb with goldenClose := some s.clk.sclk } } else s
  s.windowStatus.debtsWaiting

/-- A stream stops, in state 0 or 2 of Table PL-13. A frame stream that stops leaves its windows and forgets its starts. -/
def State.stopStream (s : State) (st : Stream) (state : Nat) : State :=
  let x := s.stream st
  let s := (s.setStream st { x with issued := 0, started := false, waitFrom := none, viaAlt := false }).setStreamState st state
  let s := if s.ridge.frame.waitFrom.isNone && s.ridge.fill.waitFrom.isNone then s.clearHold 6 else s
  match st with
  | .fill =>
    let s : State := { s with ridge := { s.ridge with
      fillStopReq := false
      regWaiting := false } }
    s.restartsDone
  | .frame =>
    let s := s.claimsChange
    let s := { s with ridge := { s.ridge with
      frameStopReq := false
      stopFrom := s.clk.aclk
      starts := []
      released := none
      windows := []
      overrunFor := none
      frameIssued := false } }
    s.windowStatus

/-- PL_FAULT.STREAM of a stream. -/
def streamBit (st : Stream) : Nat := match st with | .frame => 0 | .fill => 1

/-- R46, R47: a plan fault of a stream at bundle `b`. The event's detail is PL_FAULT[19:0]. -/
def State.planFault (s : State) (st : Stream) (cause b : Nat) : State :=
  let s := (((s.setFld F.PL_FAULT_FCAUSE 0 cause).setFld F.PL_FAULT_STREAM 0 (streamBit st)).setFld F.PL_FAULT_BUNDLE 0 b).setFld
    F.PL_FAULT_FRAME 0 s.frameNum
  let s : State := { s with ridge := { s.ridge with faulted := true } }
  let detail := ((s.reg R.PL_FAULT).extractLsb' 0 20).toNat
  match st with
  | .fill => (s.stopStream .fill 2).raise 0x02 detail
  | .frame =>
    let s := (s.stopStream .frame 2).raise 0x03 detail
    let s := if s.fld F.PL_STATUS_FILL_STATE % 2 = 1 then s.stopStream .fill 0 else s
    s.latchClass 7 (s.degradeMode 7)

/-! ## The next pending OPEN (R37) -/

/-- A place on the path: where it stands, its loop counters, the base of offsets, the FRAME_WAITs passed, and an earlier place with the
steps since it and the steps until it is replaced, by which a path that comes back to itself is found. -/
structure PathPos where
  ptr   : Nat
  lc    : List (Nat × Nat)
  base  : Nat
  waits : Nat
  seen  : Option (Nat × List (Nat × Nat) × Nat)
  gone  : Nat
  span  : Nat
deriving DecidableEq, Repr

/-- An OPEN that is pending: its cycle and its claims. -/
structure PendingOpen where
  cyc   : Nat
  id    : Nat
  cores : Nat
  chans : Nat
deriving DecidableEq, Repr

/-- R43, R45: the loop counters after a bundle, and whether its branch, evaluated in ACLK cycle `t`, is taken. DESIGN CHOICE (entry 33):
a loop counter has the 24 bits of LC_VALUE, and the loop mode takes one that holds 0 to 2^24 − 1; R43 gives neither its width nor the
wrap. -/
def State.branchOf (s : State) (b : Bundle) (lc : List (Nat × Nat)) (t : Nat) : List (Nat × Nat) × Bool :=
  let w0 := b.word 0
  let lc := if hasBit (b.word 12) 4 then spSet 0 lc (b.word 12 % 16) (b.word 12 / 2 ^ 8 % 2 ^ 24) else lc
  match B.CW0_BMODE.get w0 with
  | 0 => (lc, false)
  | 1 => (lc, (s.condAt (B.CW0_COND.get w0) t != 0) == (B.CW0_SENSE.get w0 == 1))
  | 2 => (lc, true)
  | _ =>
    let i := B.CW0_COND.get w0 % 16
    let v := (spGet 0 lc i + 2 ^ 24 - 1) % 2 ^ 24
    (spSet 0 lc i v, v != 0)

/-- R37: the predicted start of the next frame. -/
def State.nextFrameAt (s : State) : Nat := s.sched.lastStart.getD s.clk.aclk + s.fld F.SP_FRAME_CFG_LEN

/-- A place on the path is the earlier one again: the path goes round for ever. -/
def PathPos.again (x : PathPos) : Bool := x.seen == some (x.ptr, x.lc, x.waits)

/-- The place is kept as the earlier one whenever twice as many steps have passed. -/
def PathPos.keep (x : PathPos) : PathPos :=
  if x.gone = x.span then { x with seen := some (x.ptr, x.lc, x.waits), gone := 0, span := 2 * x.span + 1 }
  else { x with gone := x.gone + 1 }

/-- R37: the first OPEN on the path as it would be taken in ACLK cycle `t`, followed through at most one FRAME_WAIT; a path that comes
back to a place has none. `n` bounds the path. -/
def State.pathOpen : Nat → State → Nat → PathPos → Option PendingOpen
  | 0, _, _, _ => none
  | n + 1, s, t, x =>
    if !(s.inPart .frame x.ptr) || x.again then none
    else
      let b := s.fetch x.ptr
      let next (x : PathPos) : PathPos :=
        let (lc, taken) := s.branchOf b x.lc t
        { x.keep with ptr := if taken then B.CW0_TARGET.get (b.word 0) else x.ptr + 1, lc := lc }
      match b.kind with
      | 3 => some ⟨x.base + b.count, b.window, b.coreMask, b.chanMask⟩
      | 1 => if x.waits = 0 then State.pathOpen n s t { next x with base := s.nextFrameAt, waits := 1 } else none
      | 0 => State.pathOpen n s t (next x)
      | 2 => State.pathOpen n s t (next x)
      | 4 => State.pathOpen n s t (next x)
      | 5 => State.pathOpen n s t (next x)
      | _ => none

/-- No path is longer before it comes back to a place twice over: 2^15 bundles, eight loop counters of 24 bits, two stretches. -/
def pathBound : Nat := 2 ^ 212

/-- R37: the next pending OPEN from the frame stream's current bundle, as of ACLK cycle `t`. A start that a FRAME_WAIT in front of it
finds waiting is the frame that it will release. -/
def State.nextOpen (s : State) (t : Nat) : Option PendingOpen :=
  if s.fld F.PL_STATUS_FRAME_STATE ≠ 1 then none
  else
    let b := s.fetch s.ridge.frame.ptr
    let base := match s.ridge.released with | some x => x.cyc | none => 0
    match b.kind, s.ridge.starts.getLast? with
    | 1, some x =>
      let (lc, taken) := s.branchOf b s.ridge.lc t
      State.pathOpen pathBound s t ⟨if taken then B.CW0_TARGET.get (b.word 0) else b.idx + 1, lc, x.cyc, 1, none, 0, 0⟩
    | _, _ => State.pathOpen pathBound s t ⟨b.idx, s.ridge.lc, base, 0, none, 0, 0⟩

/-- The claims of an OPEN meet those of an open window. -/
def State.overlaps (s : State) (cores chans : Nat) : Bool :=
  s.ridge.windows.any fun w => (w.cores &&& cores) != 0 || (w.chans &&& chans) != 0

/-- R48: an OPEN came due while a window that claims its resources was open. It is counted once. -/
def State.noteOverrun (s : State) : State :=
  if s.ridge.windows.isEmpty then s
  else match s.nextOpen s.clk.aclk with
    | none => s
    | some o =>
      if o.cyc ≤ s.clk.aclk ∧ s.overlaps o.cores o.chans = true ∧ s.ridge.overrunFor ≠ some o.cyc then
        let s := { s with ridge := { s.ridge with overrunFor := some o.cyc } }
        let s := s.bump F.PL_COUNTS_OVERRUN
        match s.ridge.released with
        | some x => if o.id = s.fld F.SP_GOLDEN_CFG_WINDOW then s.goldenOverrun x.num else s
        | none => s
      else s

/-! ## Whether a bundle may start -/

/-- R126: the cores whose stores or operand buffers an end of a transfer reaches. -/
def placeCores (p : Place) (len : Nat) : List Nat :=
  match p with
  | .addr a =>
    if inCoreStore a then (List.range 16).filter fun c => decide (a < coreBase c + coreSize) && decide (coreBase c < a + 64 * len)
    else if inOpb a then (List.range 16).filter fun c => decide (a < opbBase (8 * c) + 0x40_0000) && decide (opbBase (8 * c) < a + 64 * len)
    else ((broadcastView a).map fun v => v.1).toList
  | _ => []

/-- R126: the cores whose stores or operand buffers the transfer part of core `c`'s slice reaches, its ends resolved as they stand. -/
def State.moveCores (s : State) (c sl : Nat) : List Nat :=
  let x := B.SLICE_XOP.get sl
  let part := B.SLICE_PART.get sl
  let len := B.SLICE_XLEN.get sl
  if x = 0 then []
  else placeCores (s.srcPlace (x == 2) part (B.SLICE_XSRC.get sl) len) len ++
    placeCores (s.dstPlace (x == 2) c part (B.SLICE_XDST.get sl) len) len

/-- R37, R126: the cores that a fill bundle uses. -/
def State.usedCores (s : State) (b : Bundle) : List Nat :=
  (List.range 16).filter fun c => b.cores.any fun d => d == c || (s.moveCores d (b.slice d)).contains c

/-- R37: a fill bundle may not start in cycle `t`. -/
def State.r37Blocks (s : State) (b : Bundle) (t : Nat) : Bool :=
  let meets (cores chans : Nat) : Bool := (s.usedCores b).any (fun c => hasBit cores c) || b.chans.any (fun ch => hasBit chans ch)
  s.ridge.windows.any (fun w => meets w.cores w.chans) ||
  (match s.nextOpen t with
   | some o => meets o.cores o.chans && decide (o.cyc < t + b.len + s.fld F.PL_CONFIG_HOLD_RESERVE)
   | none => false)

/-- R223: a C2 or C3 GRANT of the bundle lies on a gated channel. -/
def State.r223Blocks (s : State) (b : Bundle) : Bool :=
  (List.range 8).any fun ch => B.SLOT_DOP.get (b.slot ch) == 1 && decide (2 ≤ B.SLOT_CLASS.get (b.slot ch)) && s.c2Gated ch

/-- R34: a slot word of the bundle meets a full queue; a word that waits for the end of a hold has its place. -/
def State.slotsFull (s : State) (b : Bundle) : Bool :=
  b.chans.any fun ch => decide (4 ≤ (s.chan ch).slots.length + s.ridge.heldSlots.countP fun x => x.1 == ch)

/-- R36: an open window, or the one that the bundle itself opens, claims the core, or the channel. -/
def State.claimsCore (s : State) (b : Bundle) (c : Nat) : Bool := s.coreClaimed c || (b.kind == 3 && hasBit b.coreMask c)
def State.claimsChan (s : State) (b : Bundle) (ch : Nat) : Bool := s.chanClaimed ch || (b.kind == 3 && hasBit b.chanMask ch)

/-- The bundle uses only resources that a window claims (R39, R41). -/
def State.onlyClaimed (s : State) (b : Bundle) : Bool :=
  (!s.ridge.windows.isEmpty || b.kind == 3) && b.cores.all (s.claimsCore b) && b.chans.all (s.claimsChan b)

/-- R36: an open window claims some resource that the bundle uses, or the bundle only keeps time inside a window. -/
def State.usesClaimed (s : State) (b : Bundle) : Bool :=
  !s.ridge.windows.isEmpty && ((b.cores.isEmpty && b.chans.isEmpty) || b.cores.any s.coreClaimed || b.chans.any s.chanClaimed)

/-- Table PL-7, SEGMENT: a queued SEGMENT_LOAD has still to write the bundle. -/
def State.segmentWaits (s : State) (b : Nat) : Bool :=
  (List.range 16).any fun c => (s.queue c).any fun t => t.seg && t.willWrite (coreBase c + s.planLot * 65536 + 64 * b) 64

/-- R36, R39: a hold keeps the stream from issuing this bundle. A frame-stream bundle that uses a claimed resource goes on, and its slot
words for unclaimed channels wait for the end of the hold; its slices on unclaimed cores are never taken (R27). DEBUG_STEP lets one bundle
of each stream through a hold whose only cause is DEBUG. -/
def State.holdBlocks (s : State) (st : Stream) (b : Bundle) : Bool :=
  match s.ridge.hold with
  | none => false
  | some h =>
    if s.benchHold then true
    else if h.causes.all (fun c => c.code == 8) && hasBit s.ridge.stepGrant (streamBit st) then false
    else match st with
      | .fill => true
      | .frame => !(b.kind == 1 || b.kind == 3 || s.usesClaimed b)

/-! ## Issue -/

/-- R20, R51: the hand-off buffers of a PUBLISH bit flip at the end `t` of a bundle. -/
def State.publishBit (s : State) (b t : Nat) : State :=
  let s := s.seqPublish b t
  let s := match s.fld F.PL_PUB_MAP_KIND b with
    | 1 => s.flip (.feature (s.fld F.PL_PUB_MAP_INDEX b))
    | 2 => s.flip (.feature (16 + s.fld F.PL_PUB_MAP_INDEX b % 4))
    | _ => s
  let s := s.tvPublishBit b
  if s.flag F.ST_CFG_EN then
    let s := if s.fld F.ST_CFG_PROP_BIT = b then s.stPropPublish else s
    if s.fld F.ST_CFG_UPD_BIT = b then s.stUpdPublish else s
  else s

/-- The first cycle `t` of a bundle: slot words take their places, transfers start, and the power phase changes (R28, R34, R122). -/
def State.beginBundle (s : State) (st : Stream) (b : Bundle) (t : Nat) : State :=
  let x := s.stream st
  let s := s.setStream st { x with started := true, lcSaved := s.ridge.lc, waitFrom := none }
  let s := match st with
    | .frame =>
      -- R30, R542: FRAME_WAIT issues nothing.
      let s := if b.kind = 1 then s else { s with ridge := { s.ridge with frameIssued := true } }
      if hasBit (b.word 10) 40 then
        { s with ridge := { s.ridge with phase := b.word 10 / 2 ^ 32 % 256 } } else s
    | .fill => s
  let waits (ch : Nat) : Bool := s.held && st == Stream.frame && !hasBit s.ridge.stepGrant 0 && !(s.chanClaimed ch)
  let s := b.chans.foldl (fun (s : State) ch =>
    if waits ch then { s with ridge := { s.ridge with heldSlots := s.ridge.heldSlots ++ [(ch, b.slot ch)] } }
    else s.queueSlot ch (b.slot ch)) s
  b.cores.foldl (fun (s : State) c => if s.follows c = st then s.moveIssue c (b.slice c) t else s) s

/-- Cycles `k0` to `k0 + n − 1` of a bundle on every core that follows the stream, the first in ACLK cycle `t`. -/
def State.runBundle (s : State) (st : Stream) (b : Bundle) (k0 n t : Nat) : State :=
  (List.range 16).foldl (fun (s : State) c => if s.follows c = st then s.coreRun c (b.slice c) k0 n b.len t else s) s

/-- R43: after its last repeat a bundle loads its loop counter, evaluates its branch, publishes, sends its marker, closes its window, and
the stream goes on or stops. `t` is the cycle after the last repeat. -/
def State.endBundle (s : State) (st : Stream) (b : Bundle) (t : Nat) : State :=
  let (lc, taken) := s.branchOf b s.ridge.lc (t - 1)
  let s := { s with ridge := { s.ridge with
    lc := lc
    stepGrant := putBit s.ridge.stepGrant (streamBit st) false } }
  let s := (bitsOf 16 (b.word 10 % 2 ^ 16)).foldl (fun (s : State) i => s.publishBit i t) s
  let s := if hasBit (b.word 11) 16 then s.markerSend (b.word 11 / 2 ^ 17 % 8) (b.word 11 % 2 ^ 16) else s
  let s := if b.kind = 4 then s.closeWindow b.window else s
  let next := if taken then B.CW0_TARGET.get (b.word 0) else b.idx + 1
  let x := s.stream st
  let s := s.setStream st { x with
    ptr := next
    freeAt := if taken then t + 2 else t
    issued := 0
    started := false
    viaAlt := false }
  if (match st with | .frame => s.ridge.frameStopReq | .fill => s.ridge.fillStopReq) then s.stopStream st 0
  else if s.inPart st next then s
  else s.planFault st 4 b.idx

/-- Issues up to `n` cycles of the current bundle, as many as the clock has reached. -/
def State.issueCycles (s : State) (st : Stream) (b : Bundle) (n : Nat) : State :=
  let x := s.stream st
  let now := s.clk.aclk
  let m := min n (min (now + 1 - x.freeAt) (b.len - x.issued))
  if m = 0 then s
  else
    let s := if x.issued = 0 then s.beginBundle st b x.freeAt else s
    let s := s.runBundle st b x.issued m x.freeAt
    let y := s.stream st
    let s := s.setStream st { y with
      issued := x.issued + m
      freeAt := x.freeAt + m }
    if x.issued + m = b.len then s.endBundle st b (x.freeAt + m) else s

/-- The stream's time up to now has passed without issue. -/
def State.idleStream (s : State) (st : Stream) : State :=
  let x := s.stream st
  s.setStream st { x with freeAt := max x.freeAt (s.clk.aclk + 1) }

/-- R37, R223: a fill bundle that may not start is replaced under ALT_TARGET, or waits. -/
def State.fillBlocked (s : State) (b : Bundle) (reg : Bool) : State :=
  if B.CW1_ALT_EN.get (b.word 1) = 1 then
    let x := s.ridge.fill
    (s.setStream .fill { x with ptr := B.CW1_ALT_TARGET.get (b.word 1), freeAt := x.freeAt + 2, viaAlt := true }).setStreamState .fill 1
  else
    let gates := (List.range 8).foldl (fun m ch => m + bit (s.c2Gated ch && decide (2 ≤ B.SLOT_CLASS.get (b.slot ch)) &&
      B.SLOT_DOP.get (b.slot ch) == 1) * 2 ^ ch) 0
    let s := { s with ridge := { s.ridge with regWaiting := reg, regChans := if reg then gates else 0 } }
    (s.setStreamState .fill 3).idleStream .fill

/-- R30: the cycle in which an ANCHOR or OPEN of the released frame issues: its offset, or the stream's first free cycle after it. -/
def State.offsetCycle (s : State) (b : Bundle) : Nat :=
  max s.ridge.frame.freeAt ((match s.ridge.released with | some x => x.cyc | none => 0) + b.count)

/-- R52: the bundle's marker has arrived from every named port. -/
def State.markersHere (s : State) (b : Bundle) : Bool :=
  (bitsOf 3 (b.word 11 / 2 ^ 17 % 8)).all fun p => s.ridge.markers.contains (p, b.word 11 % 2 ^ 16)

/-- R30: what the bundle's kind idles for has come: an offset, or its markers. -/
def State.bundleDue (s : State) (b : Bundle) : Bool :=
  if b.kind = 2 ∨ b.kind = 3 then decide (s.offsetCycle b ≤ s.clk.aclk) else if b.kind = 5 then s.markersHere b else true

/-- R28, R37, R40, R42: what happens at a bundle boundary before the bundle may issue: a requested stop, a SEGMENT hold, the fetch checks,
the plan holds, R37 and R223, and the slot queues. True where the bundle of kind `kind` may issue now. -/
def State.startCheck (s : State) (st : Stream) (kind : Nat) : State × Bool :=
  let x := s.stream st
  if x.started then (s, !(s.holdBlocks st (s.fetch x.ptr)))
  else if (match st with | .frame => s.ridge.frameStopReq | .fill => s.ridge.fillStopReq) then (s.stopStream st 0, false)
  else if st = .fill ∧ s.segmentWaits x.ptr = true then ((s.raiseHold 7 none).idleStream st, false)
  else
    let b := s.fetch x.ptr
    let fc := if s.inPart st x.ptr then s.bundleFault st b else 4
    if fc ≠ 0 then (s.planFault st fc x.ptr, false)
    else if b.kind ≠ kind then (s, false)
    else if s.holdBlocks st b then (s, false)
    else if st = .fill ∧ s.r37Blocks b x.freeAt = true then (s.fillBlocked b false, false)
    else if st = .fill ∧ s.r223Blocks b = true then (s.fillBlocked b true, false)
    else
      let s := match st with
        | .fill => { s with ridge := { s.ridge with regWaiting := false } }.setStreamState .fill 1
        | .frame => s
      if s.bundleDue b && s.slotsFull b then
        if s.onlyClaimed b then (s.idleStream st, false)
        else ((s.raiseHold 2 (some (s.clk.aclk + 6400))).idleStream st, false)
      else (s, true)

/-- The stream runs, waiting or not. -/
def State.runs (s : State) (st : Stream) : Bool := s.streamState st % 2 == 1

/-- A row of the issue of bundles of kind `kind`: ACLK advances by `dt`; if the stream's next bundle has that kind and may issue, `act`
issues it. -/
def State.issueRow (s : State) (st : Stream) (kind dt : Nat) (act : State → Bundle → State) : State :=
  let s := s.passA dt
  if s.runs st && decide ((s.stream st).freeAt ≤ s.clk.aclk) then
    let s := s.noteOverrun
    let b := s.fetch (s.stream st).ptr
    if (s.stream st).started && b.kind != kind then s.settleAll
    else
      let (s, go) := s.startCheck st kind
      if go then (act s b).settleAll else s.settleAll
  else s.settleAll

/-- NORMAL (R30): after `dt` ACLK cycles, up to `n` cycles of the stream's NORMAL bundle are issued. -/
def execNormal (st : Stream) (dt n : Nat) (s : State) : Host.Outcome State Fault Refusal :=
  if s.coreDark then .next s else .next (s.issueRow st 0 dt fun s b => s.issueCycles st b n)

/-- FRAME_WAIT (R30, R48): the release takes one cycle, the later of the frame start and the cycle in which the stream is free. -/
def execFrameWait (dt : Nat) (s : State) : Host.Outcome State Fault Refusal :=
  if s.coreDark then .next s else .next (s.issueRow .frame 1 dt fun s b =>
    match s.ridge.starts with
    | [] => s
    | x :: _ =>
      let t := max s.ridge.frame.freeAt x.cyc
      if t ≤ s.clk.aclk then
        let s := (s.beginBundle .frame b t).releaseFrame t
        s.endBundle .frame b (t + 1)
      else s)

/-- The frame stream stands at cycle `t` and issues one cycle of its bundle there. -/
def State.issueAt (s : State) (b : Bundle) (t : Nat) : State :=
  let x := s.ridge.frame
  (s.setStream .frame { x with freeAt := t }).issueCycles .frame b 1

/-- ANCHOR (R30). -/
def execAnchor (dt : Nat) (s : State) : Host.Outcome State Fault Refusal :=
  if s.coreDark then .next s else .next (s.issueRow .frame 2 dt fun s b =>
    let t := s.offsetCycle b
    if t ≤ s.clk.aclk then s.issueAt b t else s)

/-- R38: a fill bundle that occupies a claimed core is abandoned: the fill pointer stays at it with the loop counters it had, its
engines and histogram counters go back, and it issues again after the window. DESIGN CHOICE (entry 33): the markers that an abandoned
MARKER_WAIT has consumed do not come back, and issued again it waits for new ones; no rule says whether they do. -/
def State.abandon (s : State) (cores : Nat) (t : Nat) : State :=
  let x := s.ridge.fill
  let b := s.fetch x.ptr
  if x.started && decide (0 < x.issued) && b.cores.any (fun c => hasBit cores c) then
    let s := b.cores.foldl (fun (s : State) c =>
      let s := (engsOf c (engSlice (b.slice c))).foldl (fun (s : State) n => s.setEngine n (s.engine n).restore) s
      if B.SLICE_VOP.get (b.slice c) = 0 then s else s.vecRestore c) s
    let keep := (List.range 8).map fun i => (i, s.lcVal i)
    let lc := (List.range 16).foldl (fun m i => spSet 0 m i (if i < 8 then (keep.getD i (0, 0)).2 else spGet 0 x.lcSaved i)) s.ridge.lc
    let s := { s with ridge := { s.ridge with
      lc := lc
      fill := { x with
        issued := 0
        started := false
        freeAt := max t (s.clk.aclk + 1) } } }
    (s.bump F.PL_COUNTS_ABANDON).record 0x0B 0 (words [x.ptr, s.fld F.PL_STEP_STEP, b.cores.foldl (fun m c => putBit m c true) 0])
  else s

/-- OPEN (R30, R36, R38): the window opens with the cycle in which its bundle issues. An identifier that is open already is a plan
fault. -/
def execPlanOpen (dt : Nat) (s : State) : Host.Outcome State Fault Refusal :=
  if s.coreDark then .next s else .next (s.issueRow .frame 3 dt fun s b =>
    let t := s.offsetCycle b
    if s.clk.aclk < t then s
    else if s.ridge.windows.any fun w => w.id == b.window then s.planFault .frame 3 b.idx
    -- R48: a due window whose resources another still claims opens at that window's CLOSE.
    else if s.overlaps b.coreMask b.chanMask then s
    else
      let s := s.abandon b.coreMask t
      let s := s.claimsChange
      let golden := b.window == s.fld F.SP_GOLDEN_CFG_WINDOW
      let s := { s with ridge := { s.ridge with
        overrunFor := none
        windows := (⟨b.window, b.coreMask, b.chanMask, if golden then 0 else 1, t⟩ : Window) :: s.ridge.windows } }
      let s := s.windowStatus
      let s := if golden then
          let s := match s.ridge.released with | some x => s.goldenOpened x.num t | none => s
          { s with plumb := { s.plumb with goldenOpen := true } }
        else s
      s.issueAt b t)

/-- CLOSE (R30): up to `n` cycles; the window closes after the last. An identifier that names no open window is a plan fault. -/
def execPlanClose (dt n : Nat) (s : State) : Host.Outcome State Fault Refusal :=
  if s.coreDark then .next s else .next (s.issueRow .frame 4 dt fun s b =>
    if s.ridge.windows.any fun w => w.id == b.window then s.issueCycles .frame b n
    else s.planFault .frame 3 b.idx)

/-- R503: the oldest matching marker of each named port is consumed. -/
def State.consumeMarkers (s : State) (b : Bundle) : State :=
  { s with ridge := { s.ridge with
      markers := (bitsOf 3 (b.word 11 / 2 ^ 17 % 8)).foldl (fun m p => m.erase (p, b.word 11 % 2 ^ 16)) s.ridge.markers } }

/-- R40, R42: a MARKER_WAIT of stream `st` whose markers have come no longer waits. -/
def State.markerCame (s : State) (st : Stream) : State :=
  let x := s.stream st
  if x.waitFrom.isNone then s
  else
    let s := s.setStream st { x with waitFrom := none }
    if s.ridge.frame.waitFrom.isNone && s.ridge.fill.waitFrom.isNone then s.clearHold 6 else s

/-- MARKER_WAIT (R30, R42): it idles, under a TETHER hold, until the marker has arrived from every named port, then issues up to `n`
cycles. -/
def execMarkerWait (st : Stream) (dt n : Nat) (s : State) : Host.Outcome State Fault Refusal :=
  if s.coreDark then .next s
  else
  let b := s.fetch (s.stream st).ptr
  let s := if b.kind = 5 ∧ (s.stream st).started = false ∧ s.markersHere b = true then (s.passA dt).markerCame st else s.passA dt
  .next (s.issueRow st 5 0 fun s b =>
    if (s.stream st).started then s.issueCycles st b n
    else if s.markersHere b then (s.consumeMarkers b).issueCycles st b n
    else
      let x := s.stream st
      (s.setStream st { x with waitFrom := some (x.waitFrom.getD s.clk.aclk) }).raiseHold 6 (some (s.clk.aclk + s.fld F.PL_CONFIG_TETHER_WAIT)))

/-- MARKER_WAIT_EXPIRY (R42, R46): a MARKER_WAIT has waited longer than TETHER_WAIT. -/
def execMarkerWaitExpiry (st : Stream) (dt : Nat) (s : State) : Host.Outcome State Fault Refusal :=
  if s.coreDark then .next s
  else
  let s := s.tickA dt
  match (s.stream st).waitFrom with
  | none => .next s
  | some t =>
    if t + s.fld F.PL_CONFIG_TETHER_WAIT < s.clk.aclk then .next (s.planFault st 7 (s.stream st).ptr) else .next s

/-- END (R30): stops the stream. In the frame stream it is a plan fault, which the fetch finds. -/
def execPlanEnd (st : Stream) (dt : Nat) (s : State) : Host.Outcome State Fault Refusal :=
  if s.coreDark then .next s else .next (s.issueRow st 6 dt fun s _ => s.stopStream st 0)

/-! ## Holds -/

/-- R35: at the end of a REFRESH_DEBT cause the debt of every channel that no window claims is back at 0. -/
def State.debtsPaid (s : State) : State :=
  (List.range 8).foldl (fun (s : State) ch => if s.chanClaimed ch then s else s.refresh ch 8) s

/-- A cause of a hold has come to its end by now; a reproduced one ends after its recorded length (R488). -/
def State.causeDone (s : State) (c : HoldCause) : Bool :=
  if (s.book.replay.any fun r => r.reproduced) && c.due.isSome then c.due.any fun d => decide (d ≤ s.clk.aclk)
  else match c.code with
  | 2 => [Stream.frame, Stream.fill].all fun st =>
      !(s.runs st) || (s.stream st).started || !(s.slotsFull (s.fetch (s.stream st).ptr))
  | 6 => false
  | 7 => !(s.segmentWaits s.ridge.fill.ptr)
  | 8 => false
  | _ => match c.due with | some d => decide (d ≤ s.clk.aclk) | none => false

/-- PLAN_HOLD_END (R42): after `dt` ACLK cycles the causes that have come to their end clear, and with the last of them the hold. -/
def execPlanHoldEnd (dt : Nat) (s : State) : Host.Outcome State Fault Refusal :=
  if s.coreDark then .next s
  else
  let s := s.tickA dt
  match s.ridge.hold with
  | none => .next s
  | some h =>
    let gone := (h.causes.filter fun c => s.causeDone c).map (·.code)
    let s := if gone.contains 3 then s.debtsPaid else s
    .next (gone.foldl (fun (s : State) c => s.clearHold c) s)

/-- COND_WRITE_VISIBLE (R45): after `dt` ACLK cycles the oldest condition write on its way becomes visible. -/
def execCondWriteVisible (dt : Nat) (s : State) : Host.Outcome State Fault Refusal :=
  if s.coreDark then .next s
  else
  let s := s.tickA dt
  match s.ridge.condPend with
  | [] => .next s
  | w :: rest =>
    let s := { s with ridge := { s.ridge with condPend := rest } }.condNow w.reg w.value
    .next (match w.done with
      | some (r, d) => s.finish r d ⟨0, 0, 0, some (1, s.clk.aclk)⟩
      | none => s)

/-! ## PL_CTRL (Table PL-10) -/

/-- FRAME_GO: the frame stream starts at FRAME_ENTRY at the next frame start. PL_STEP and ACYC count from the first one. -/
def State.frameGo (s : State) : State :=
  if s.ridge.planLoaded && s.fld F.PL_STATUS_FRAME_STATE == 0 then
    { s with ridge := { s.ridge with
        goArmed := true
        goAt := some (s.ridge.goAt.getD s.clk.aclk) } }
  else s

/-- FILL_GO: the fill stream starts at FILL_ENTRY, unless a restart holds it (R437), or a plan fault has stopped it and no plan has been
loaded since (R47). -/
def State.fillGo (s : State) : State :=
  if s.ridge.planLoaded && s.fld F.PL_STATUS_FILL_STATE == 0 && !s.fillHeld && !s.ridge.faulted then
    let s := { s with ridge := { s.ridge with
      fillStopReq := false
      fill := { StreamState.reset with ptr := s.fld F.PL_ENTRY_FILL_ENTRY, freeAt := s.clk.aclk + 1 } } }
    s.setStreamState .fill 1
  else s

/-- FILL_STOP: the fill stream stops at its next boundary, at once where it stands at one. -/
def State.fillStop (s : State) : State :=
  if s.runs .fill then
    if s.ridge.fill.started then { s with ridge := { s.ridge with fillStopReq := true } } else s.stopStream .fill 0
  else s

/-- STOP: both streams stop at their next boundaries. -/
def State.stopBoth (s : State) : State :=
  let s := s.fillStop
  let s := { s with ridge := { s.ridge with goArmed := false } }
  if s.runs .frame then
    if s.ridge.frame.started then { s with ridge := { s.ridge with frameStopReq := true } } else s.stopStream .frame 0
  else s

/-- DEBUG_EN: writing 0 ends a DEBUG hold in effect. -/
def State.debugEn (s : State) (v : Bool) : State :=
  let s := s.setFld F.PL_CTRL_DEBUG_EN 0 (bit v)
  if v then s else ({ s with ridge := { s.ridge with stepGrant := 0 } }).clearHold 8

/-- DEBUG_HOLD: raises a DEBUG hold where DEBUG_EN allows it; no effect while one is in effect. -/
def State.debugHold (s : State) : State :=
  let on := match s.ridge.hold with | some h => h.causes.any fun c => c.code == 8 | none => false
  if s.flag F.PL_CTRL_DEBUG_EN && !on then s.raiseHold 8 none else s

/-- DEBUG_STEP: during a DEBUG hold each running stream may issue one bundle. -/
def State.debugStep (s : State) : State :=
  let on := match s.ridge.hold with | some h => h.causes.any fun c => c.code == 8 | none => false
  if on then
    let now := s.clk.aclk
    let r := s.ridge
    { s with ridge := { r with
      stepGrant := bit (s.runs .frame) + 2 * bit (s.runs .fill)
      frame := { r.frame with freeAt := max r.frame.freeAt (now + 1) }
      fill := { r.fill with freeAt := max r.fill.freeAt (now + 1) } } }
  else s

/-- Table BC-7: the partition may write the stream bits of PL_CTRL. -/
def goRight (p : Nat) : Bool := decide (p < 2)
/-- Table BC-7, Table PL-10: the partition may write the debug bits of PL_CTRL; P0 is configured from the S6 commit on, which sets
SP_FRAME_CFG.EN. -/
def State.debugRight (s : State) (p : Nat) : Bool := p == 1 && s.partState 0 == 0 && !(s.flag F.SP_FRAME_CFG_EN)

/-- FRAME_GO (Table PL-10), written by partition `p`. -/
def execFrameGo (p : PartId) (s : State) : Host.Outcome State Fault Refusal :=
  if s.coreDark then .next s else .next (if goRight p.val then s.frameGo else s)
/-- FILL_GO (Table PL-10), written by partition `p`. -/
def execFillGo (p : PartId) (s : State) : Host.Outcome State Fault Refusal :=
  if s.coreDark then .next s else .next (if goRight p.val then s.fillGo else s)
/-- FILL_STOP (Table PL-10), written by partition `p`. -/
def execFillStop (p : PartId) (s : State) : Host.Outcome State Fault Refusal :=
  if s.coreDark then .next s else .next (if goRight p.val then s.fillStop else s)
/-- STOP (Table PL-10), written by partition `p`; the P0 right is required. -/
def execPlanStop (p : PartId) (s : State) : Host.Outcome State Fault Refusal :=
  if s.coreDark then .next s else .next (if p.val = 0 then s.stopBoth else s)
/-- DEBUG_EN (Table PL-10), written by partition `p`. -/
def execDebugEn (p : PartId) (v : Bool) (s : State) : Host.Outcome State Fault Refusal :=
  if s.coreDark then .next s else .next (if s.debugRight p.val then s.debugEn v else s)
/-- DEBUG_HOLD (Table PL-10), written by partition `p`. -/
def execDebugHold (p : PartId) (s : State) : Host.Outcome State Fault Refusal :=
  if s.coreDark then .next s else .next (if s.debugRight p.val then s.debugHold else s)
/-- DEBUG_STEP (Table PL-10), written by partition `p`. -/
def execDebugStep (p : PartId) (s : State) : Host.Outcome State Fault Refusal :=
  if s.coreDark then .next s else .next (if s.debugRight p.val then s.debugStep else s)

/-! ## Registers whose value is computed or whose read pops -/

/-- Pops the oldest entry of PL_HOLD_LOG (Table PL-14). -/
def State.popHoldLog (s : State) : BitVec 64 × State :=
  let lost : BitVec 64 := BitVec.ofNat 64 (bit s.ridge.holdLost * 2 ^ 13)
  match s.ridge.holdLog with
  | [] => (lost, { s with ridge := { s.ridge with holdLost := false } })
  | e :: rest => (e ||| lost, { s with ridge := { s.ridge with
      holdLog := rest
      holdLost := false } })

/-- PL_HOLD_LOG_READ (Table PL-14). -/
def execPlHoldLogRead (s : State) : Host.Outcome State Fault Refusal :=
  if s.coreDark then .next s else .next s.popHoldLog.2

/-- Pops the oldest entry of DR_ERR_LOG of a channel (Table DR-8). -/
def State.popErrLog (s : State) (ch : Nat) : BitVec 64 × State :=
  let d := s.chan ch
  let lost : BitVec 64 := BitVec.ofNat 64 (bit d.errLost * 2 ^ F.DR_ERR_LOG_LOST.lo)
  match d.errLog with
  | [] => (lost, s.setChan ch { d with errLost := false })
  | e :: rest => (e ||| lost, s.setChan ch { d with errLog := rest, errLost := false })

/-! ## Engine and vector rows -/

/-- A slice of core `c` runs for `n` ACLK cycles by itself: an illegal one is a plan fault, and a hold stops it on unclaimed cores. -/
def State.sliceRow (s : State) (c sl n : Nat) : State :=
  let faults := [engFault (engSlice sl) n, vecFault (B.SLICE_VOP.get sl) (B.SLICE_VFMT.get sl) (B.SLICE_VLEN.get sl) n,
    if n = 0 ∨ 16777214 < n then 3 else 0]
  let fc := if faults.contains 2 then 2 else if faults.contains 3 then 3 else 0
  if fc ≠ 0 then s.planFault (s.follows c) fc (s.stream (s.follows c)).ptr
  else if s.coreHeld c then s
  else ((s.coreRun c sl 0 n n s.clk.aclk).passA n).settleAll

/-- The slice with its engine part alone, of operation `op`. -/
def engPart (sl op : Nat) : Nat :=
  sl % 2 ^ 128 / 16 * 16 + op + sl / 2 ^ 384 * 2 ^ 384

/-- The slice with its vector part alone, of operation `op`. -/
def vecPart (sl op : Nat) : Nat :=
  sl % 2 ^ 210 / 2 ^ 136 * 2 ^ 136 + op * 2 ^ 128 + sl / 2 ^ 384 * 2 ^ 384

/-- The slice with its transfer part alone, of operation `op`. -/
def movePart (sl op : Nat) : Nat :=
  sl / 2 ^ 260 * 2 ^ 260 + op * 2 ^ 256

/-- A transfer part of a slice of core `c` issues by itself. -/
def State.moveRow (s : State) (c sl : Nat) : State :=
  let fc := moveFault sl
  if fc ≠ 0 then s.planFault (s.follows c) fc (s.stream (s.follows c)).ptr
  else if s.coreHeld c then s
  else s.moveIssue c sl s.clk.aclk

/-- MOVE (R122, R123): the slice's transfer starts. -/
def execMove (c : CoreId) (sl : SliceBits) (s : State) : Host.Outcome State Fault Refusal :=
  if s.coreDark then .next s else .next (s.moveRow c.val (movePart sl.toNat 1))
/-- SEGMENT_LOAD (R33, R122). -/
def execSegmentLoad (c : CoreId) (sl : SliceBits) (s : State) : Host.Outcome State Fault Refusal :=
  if s.coreDark then .next s else .next (s.moveRow c.val (movePart sl.toNat 2))

/-- R67: core `c` issues: the stream it follows runs, waits for nothing, and no hold stops it. -/
def State.coreIssues (s : State) (c : Nat) : Bool :=
  let st := s.follows c
  !s.coreHeld c && s.streamState st == 1 && (s.stream st).waitFrom.isNone && !(st == Stream.fill && s.ridge.regWaiting)

/-- DRAIN_ROW_WRITE (R67): one ACLK cycle of the engine's drain, in which its core issues. -/
def execDrainRowWrite (n : EngineId) (s : State) : Host.Outcome State Fault Refusal :=
  if s.coreDark then .next s
  else
  if s.coreIssues (n.val / 8) then .next ((s.passA 1).drainCycle n.val s.clk.aclk).settleAll else .next s

/-- VEC_HIST_CLEAR (R108, R113): a write of CLEAR by partition `p`, where PL_VEC_HIST.PART allows it. It takes effect at the core's next
bundle boundary. -/
def execVecHistClear (c : CoreId) (p : PartId) (s : State) : Host.Outcome State Fault Refusal :=
  if s.coreDark then .next s
  else
  if s.fld F.PL_VEC_HIST_PART c.val = p.val then .next (s.setVec c.val { s.vec c.val with clear := true }) else .next s

end Sys2Proof.Machine
end

