-- ==== Sys2Proof/Machine/Power.lean ====
section
/-! DEFINITION. The power manager (20): the estimate and its calibration, the control tick with its throttle reasons and holds, the
cap, the supply sag with its save, and the restore. -/

namespace Sys2Proof.Machine

/-! ## Estimates and measurements -/

/-- A value of a register that shows fewer digits than the manager computes with: the spec names no rounding, so either neighbour
may stand (entry 21). -/
def openRound (x : Rat) : Nat :=
  if x.den = 1 then x.num.toNat else x.floor.toNat + Config.freeFn 61 [x.num.toNat, x.den] % 2

/-- R443, Table PW-9: the gain of a rail, 1.0 = 0x4000. -/
def State.railGain (s : State) (r : Nat) : Rat := (s.fld F.PW_CALIB_GAIN r : Rat) / 16384

/-- R443: the PROT share (P0 and P1) or the FILL share (P2 to P7) of the estimates of rails 1 to 7: the activity counts times their
coefficients, times the rail's gain. The coefficients stand in the boot image: open (entry 21). -/
def State.railEstimates (s : State) (prot : Bool) : List Rat :=
  (List.range 7).map fun i =>
    ((s.power.activity.map fun x =>
      if decide (x.1 % 8 < 2) == prot then Config.freeFn 82 [i + 1, x.1 / 8] * x.2 else 0).sum : Rat) * s.railGain (i + 1)

/-- R443: the leakage terms of rails 1 to 7, of the die temperature, after the rail's gain. -/
def State.railLeakage (s : State) : List Rat :=
  (List.range 7).map fun i => (Config.freeFn 83 [i + 1, s.fld F.PW_STATUS_DIE_TEMP] : Rat) * s.railGain (i + 1)

def addAt (m : List (Nat × Rat)) (r : Nat) (x : Rat) : List (Nat × Rat) := spSet 0 m r (spGet 0 m r + x)

/-- R443: one estimate, formed every 1 µs from the activity since the last one. The leakage is in the total alone: the spec gives it to
neither share (entry 21). -/
def State.estimate (s : State) : State :=
  let ps := s.railEstimates true
  let fs := s.railEstimates false
  let leak := s.railLeakage
  let conv := s.railGain 0
  let rails := (List.range 7).map fun i => ps.getD i 0 + fs.getD i 0 + leak.getD i 0
  let total := rails.sum * conv
  let all := total :: rails
  let p := s.power
  { s with power := { p with
    count := p.count + 1
    activity := []
    sumIn := p.sumIn + total
    sumProt := p.sumProt + ps.sum * conv
    sumFill := p.sumFill + fs.sum * conv
    sumRail := (List.range 8).foldl (fun m r => addAt m r (all.getD r 0)) p.sumRail
    estimated := (List.range 8).foldl (fun m r => addAt m r (all.getD r 0)) p.estimated } }

/-- POWER_ESTIMATE (R443): after `dt` FCLK cycles the manager forms its estimate, in mW, from its own accumulators; the row's lists are not
read (entry 28). -/
def execPowerEstimate (_prot _fill : List Nat) (dt : Nat) (s : State) : Host.Outcome State Fault Refusal :=
  if s.dark then .next s else .next ((s.tickF dt).estimate)

/-- R357: Plumb's supply lies in its band. The spec gives no limits of the band. -/
def plbInBand (mV : Nat) : Bool := Config.freeFn 60 [mV] % 2 == 1

/-- RAIL_MEASUREMENT (R442): the regulator of rail `r` reports voltage, current and whether it is in its current limit. MEAS shows the
average of a tick's reports once the tick has ended. -/
def execRailMeasurement (r : Fin 8) (mV mA : Nat) (limit : Bool) (s : State) : Host.Outcome State Fault Refusal :=
  if s.dark then .next s
  else
  let mw : Rat := ((mV * mA : Nat) : Rat) / 1000
  let s := if r.val = 0 then s.setFld F.PW_STATUS_VIN 0 (min 8191 (openRound ((mV : Rat) / 10))) else s
  let s : State := if r.val = 7 ∧ plbInBand mV = true then { s with plumb := { s.plumb with supplyBad := false } } else s
  .next { s with power := { s.power with
    limit := s.power.limit || limit
    measSum := addAt s.power.measSum r.val mw
    measNum := spSet 0 s.power.measNum r.val (spGet 0 s.power.measNum r.val + 1)
    measured := addAt s.power.measured r.val (mw * 10) } }

/-- R444: the new gain of a rail whose energies were `m` measured and `e` estimated. Nothing is stated for a rail on which neither
flowed. -/
def State.newGain (s : State) (r : Nat) (m e : Rat) : Nat :=
  let g := s.fld F.PW_CALIB_GAIN r
  let ratio : Rat :=
    if e = 0 then (if m = 0 then (98 + (Config.freeFn 62 [r, g] % 5 : Nat)) / 100 else 102 / 100)
    else max (98 / 100) (min (102 / 100) (m / e))
  max 0x2000 (min 0x8000 (openRound ((g : Rat) * ratio)))

/-- R444: the relative error of a rail's estimate, in 0.1 %. -/
def relError (r : Nat) (m e : Rat) : Int :=
  if m = 0 then (if e = 0 then 0 else (Config.freeFn 63 [r] % 32768 : Nat))
  else
    let x := (e - m) / m * 1000
    let v : Int := if x < 0 then -(openRound (-x) : Int) else (openRound x : Int)
    max (-32768) (min 32767 v)

/-- R444: one calibration of every rail. -/
def State.calibrate (s : State) : State :=
  let p := s.power
  let errs := (List.range 8).map fun r => relError r (spGet 0 p.measured r) (spGet 0 p.estimated r)
  let s := (List.range 8).foldl (fun (s : State) r =>
    (s.setFld F.PW_CALIB_GAIN r (s.newGain r (spGet 0 p.measured r) (spGet 0 p.estimated r))).setFld F.PW_CALIB_ERR r
      (ofSigned 16 (errs.getD r 0))) s
  let s := s.setFld F.PW_STATUS_CALIB_OK 0 (bit (errs.all fun e => decide (-50 ≤ e) && decide (e ≤ 50)))
  { s with power := { s.power with
    measured := []
    estimated := []
    calAt := p.calAt + 100000000 } }

/-- CALIBRATION_UPDATE (R444): after `dt` FCLK cycles, 100 ms after the last one. -/
def execCalibrationUpdate (dt : Nat) (s : State) : Host.Outcome State Fault Refusal :=
  if s.dark then .next s
  else
  let s := s.tickF dt
  .next (if s.power.calAt + 100000000 ≤ s.clk.fclk then s.calibrate else s)

/-! ## Throttle holds -/

/-- R445, R446, R448: a hold of 1,250 ACLK cycles is requested under the reasons of the mask; a hold in effect is extended. Each
reason counts the FCLK cycles. -/
def State.throttleHold (s : State) (reasons : Nat) : State :=
  let was := match s.ridge.hold with
    | some h => (h.causes.find? fun (c : HoldCause) => c.code == 4).bind fun c => c.due
    | none => none
  let s := s.raiseHold 4 (some ((was.getD s.clk.aclk) + 1250))
  (bitsOf 5 reasons).foldl (fun (s : State) k => s.count F.PW_THR_TIME_CYCLES k 1000) s

/-- R448: REASONS changes, and Field Book records it. -/
def State.setReasons (s : State) (v : Nat) : State :=
  if s.fld F.PW_STATUS_REASONS = v then s
  else (s.setFld F.PW_STATUS_REASONS 0 v).record 0x0F 0 (words [v, s.fld F.PL_STEP_STEP]) 2

/-- THROTTLE_HOLD_REQUEST (R446): after `dt` FCLK cycles the next hold of the tick's duty falls due. -/
def execThrottleHoldRequest (dt : Nat) (s : State) : Host.Outcome State Fault Refusal :=
  if s.dark then .next s
  else
  let s := s.tickF dt
  match s.power.holds with
  | [] => .next s
  | h :: rest =>
    if h ≤ s.clk.fclk then
      let s : State := { s with power := { s.power with holds := rest } }
      .next (s.throttleHold (s.fld F.PW_STATUS_REASONS))
    else .next s

/-- DROOP (R447, Table PW-2): after `dt` FCLK cycles VDD_CORE at the die reads `mV`. Below 0.70 V a hold is requested at once, and again
each 1.0 µs while the droop lasts. -/
def execDroop (mV dt : Nat) (s : State) : Host.Outcome State Fault Refusal :=
  if s.dark then .next s
  else
  let s := s.tickF dt
  let now := s.clk.fclk
  let reasons := s.fld F.PW_STATUS_REASONS
  if mV < 700 then
    let s := s.setReasons (putBit reasons 2 true)
    let again := match s.power.droop with | some t => decide (t + 1000 ≤ now) | none => true
    if again then
      let s : State := { s with power := { s.power with droop := some now } }
      .next (s.throttleHold (s.fld F.PW_STATUS_REASONS))
    else .next s
  else .next { s with power := { s.power with droop := none } }

/-! ## The control tick -/

/-- Watts as mW from a register field in 0.1 W. -/
def tenths (n : Nat) : Rat := (n : Rat) * 100

/-- R452: what the controller computes at a tick: learned PROT and FILL of the phase, the window average, trim and the duty. -/
structure CapStep where
  prot : Rat
  fill : Rat
  win  : Rat
  trim : Rat
  duty : Nat

/-- R452: the pseudocode of the cap controller, with `dLast` the duty of the last tick. -/
def capStep (p : Power) (phase dLast keep : Nat) (budget : Rat) : CapStep :=
  let n : Rat := if p.count = 0 then 1 else (p.count : Rat)
  let prot := p.sumProt / n
  let fill := p.sumFill / n
  let lp := spGet 0 p.learnedProt phase
  let lf := spGet 0 p.learnedFill phase
  let lp := lp + (prot - lp) / 16
  let lf := if dLast < 10 then lf + (fill / (1 - (dLast : Rat) / 10) - lf) / 16 else lf
  let hist := (p.sumIn / n :: p.history).take keep
  let win := if hist.isEmpty then 0 else hist.sum / (hist.length : Rat)
  let trim := max (-32000) (min 32000 (p.trim + (win - budget) / 8))
  let need := lp + lf + trim - budget
  let duty := if need ≤ 0 ∨ lf = 0 then 0 else min 10 (10 * need / lf).ceil.toNat
  ⟨lp, lf, win, trim, duty⟩

/-- The die temperature and every DDR4 temperature, as signed numbers. -/
def State.dieTemp (s : State) : Int := asSigned 8 (s.fld F.PW_STATUS_DIE_TEMP)
def State.ddrTemps (s : State) : List Int := (List.range 8).map fun ch => asSigned F.DR_STATUS_TEMP.w (s.fld F.DR_STATUS_TEMP ch)

/-- Table PW-2: THERMAL is called for, and it may fall. -/
def State.tooHot (s : State) : Bool :=
  decide ((s.fld F.PW_CFG_T_THROT : Int) < s.dieTemp) || s.ddrTemps.any fun t => decide (90 < t)
def State.coolAgain (s : State) : Bool :=
  decide (s.dieTemp ≤ (s.fld F.PW_CFG_T_THROT : Int) - 2) && s.ddrTemps.all fun t => decide (t < 88)

/-- R446–R452: a control tick begins. -/
def State.controlTick (s : State) : State :=
  let p := s.power
  let n : Rat := if p.count = 0 then 1 else (p.count : Rat)
  let s := (List.range 8).foldl (fun (s : State) r =>
    let m := spGet 0 p.measNum r
    let s := s.setFld F.PW_RAIL_EST r (min (2 ^ 32 - 1) (openRound (spGet 0 p.sumRail r / n)))
    if m = 0 then s else s.setFld F.PW_RAIL_MEAS r (min (2 ^ 32 - 1) (openRound (spGet 0 p.measSum r / (m : Rat))))) s
  let s := match p.capNext with | some c => s.setFld F.PW_CAP_CAP 0 c | none => s
  let cap := tenths (s.fld F.PW_CAP_CAP)
  let budget := cap - tenths (s.fld F.PW_CAP_MARGIN)
  let keep := 100 * s.fld F.PW_CAP_CAP_WIN
  let dLast := s.fld F.PW_STATUS_DUTY
  let phase := s.ridge.phase
  let c := capStep p phase dLast keep budget
  let thermal := if s.tooHot then min 10 (p.thermal + 1) else if s.coolAgain then p.thermal - 1 else p.thermal
  let input := decide (270000 < s.fld F.PW_RAIL_MEAS 0)
  let d := if input || p.limit then 10 else max c.duty thermal
  let reasons := bit (0 < c.duty) + 2 * bit (s.tooHot || 0 < thermal) + 4 * bit p.droop.isSome + 8 * bit input + 16 * bit p.limit
  let unmet := if cap < c.win ∧ dLast = 10 then p.unmet + 1 else 0
  let at' := p.tickAt + 10000
  let s : State := { s with power := { p with
    tickAt := at'
    count := 0
    sumIn := 0
    sumProt := 0
    sumFill := 0
    sumRail := []
    measSum := []
    measNum := []
    history := (p.sumIn / n :: p.history).take keep
    learnedProt := spSet 0 p.learnedProt phase c.prot
    learnedFill := spSet 0 p.learnedFill phase c.fill
    ticks := spSet 0 p.ticks phase (min 65535 (spGet 0 p.ticks phase + 1))
    trim := c.trim
    thermal := thermal
    limit := false
    holds := (List.range d).map fun i => at' + i * 10000 / d
    unmet := unmet
    capNext := none } }
  let s := (s.setFld F.PW_STATUS_DUTY 0 d).setFld F.PW_STATUS_PHASE 0 phase
  let s := if keep ≤ unmet then s.setFlag F.PW_STATUS_CAP_UNMET else s
  s.setReasons reasons

/-- CONTROL_TICK (R446): after `dt` FCLK cycles, 10,000 after the last tick; the hottest sensor of the die reads `temp`, signed °C. -/
def execControlTick (temp : Byte) (dt : Nat) (s : State) : Host.Outcome State Fault Refusal :=
  if s.dark then .next s
  else
  let s := s.tickF dt
  if s.power.tickAt + 10000 ≤ s.clk.fclk then .next ((s.setFld F.PW_STATUS_DIE_TEMP 0 temp.toNat).controlTick) else .next s

/-- PW_LEARN_SEL_WRITE (R460): copies a learned entry into PW_LEARN. -/
def execPwLearnSelWrite (phase : Byte) (s : State) : Host.Outcome State Fault Refusal :=
  if s.dark then .next s
  else
  let k := phase.toNat
  let v (m : List (Nat × Rat)) : Nat := min 65535 (openRound (max 0 (spGet 0 m k / 100)))
  .next (((s.setFld F.PW_LEARN_PROT 0 (v s.power.learnedProt)).setFld F.PW_LEARN_FILL 0 (v s.power.learnedFill)).setFld
    F.PW_LEARN_TICKS 0 (spGet 0 s.power.ticks k))

/-- PW_SET_CAP (R451). -/
def pwSetCapBody (s : State) (c : Cmd) : State × Option Reply :=
  let cap := c.w 4 % 4096
  let floor := s.fld F.PW_CAP_FLOOR
  if cap < 600 ∨ 2700 < cap then (s, some (lenRange 1))
  else if cap < floor then (s, some ⟨1, 2, floor, none⟩)
  else ({ s with power := { s.power with capNext := some cap } }, some Reply.ok)

def execPwSetCap (ring : BitVec 14) (d : Desc) (s : State) : Host.Outcome State Fault Refusal :=
  .next (s.command ring d 0x0B01 pwSetCapBody)

/-! ## Rails that go off -/

/-- The core and DDR4 rails go off: both streams stop, the bundles in progress with them, and DDR4 contents are abandoned (R449, Table
PW-3). -/
def State.coreOff (s : State) : State :=
  let s := (s.stopStream .frame 0).stopStream .fill 0
  let s : State := { s with ridge := { s.ridge with goArmed := false } }
  (List.range 8).foldl (fun (s : State) ch => s.setChan ch { s.chan ch with
    ready := false
    slots := []
    wbuf := [] }) s

/-- THERMAL_SHUTDOWN (R449): the die reads `temp`. At 115 °C the main rails go off, and Plumb takes their loss as a MONITOR fault. -/
def execThermalShutdown (temp : Byte) (s : State) : Host.Outcome State Fault Refusal :=
  let s := s.setFld F.PW_STATUS_DIE_TEMP 0 temp.toNat
  if 115 ≤ asSigned 8 temp.toNat ∧ s.power.supply = .on then
    let s : State := { s with power := { s.power with supply := .hot } }
    .next (s.coreOff.assertStop.latchClass 2 3)
  else .next s

/-- HOLDUP_READY (R441): the hold-up bank reads `vbank`, in 0.1 V. -/
def execHoldupReady (vbank : BitVec 9) (s : State) : Host.Outcome State Fault Refusal :=
  if s.isOff then .next s else .next ((s.setFld F.PW_STATUS_VBANK 0 vbank.toNat).setFld F.PW_STATUS_HOLDUP_READY 0 (bit (decide (400 ≤ vbank.toNat))))

/-! ## The save -/

/-- R458: the slot of the newest valid record. -/
def Power.newest (p : Power) : Option (Nat × SaveRec) :=
  match p.slots.find? (·.1 == 0), p.slots.find? (·.1 == 1) with
  | some a, some b => if a.2.seq < b.2.seq then some b else some a
  | some a, none => some a
  | none, b => b

/-- R455, R456: the slot that a save writes. -/
def Power.target (p : Power) : Nat := match p.newest with | some (0, _) => 1 | _ => 0

/-- R455: the lots to save, those of P0 and P1 first. -/
def State.saveLots (s : State) : List Nat :=
  let ls := (List.range 6144).filter fun l => (s.lot l).save
  let owner (l : Nat) : Nat := (s.shareOf (l / 384) (l % 384)).getD 7
  ((ls.filter fun l => owner l < 2) ++ (ls.filter fun l => 2 ≤ owner l)).take 64

/-- The bytes of a lot, by offset. -/
def State.lotBytes (s : State) (l : Nat) : List (Nat × Byte) :=
  let a := lotAddr l
  (spKeep (fun k => decide (a ≤ k) && decide (k < a + lotSize)) s.mem).map fun e => (e.1 - a, e.2)

/-- R458: the record of a save. -/
def State.saveRecord (s : State) : SaveRec :=
  let other := match s.power.slots.find? (fun x => x.1 != s.power.target) with | some x => x.2.seq | none => 0
  { seq := other + 1
    frame := s.frameNum
    step := s.fld F.PL_STEP_STEP
    digest := digest s.bring.config
    lots := s.saveLots.map fun l => (l, s.lotWord l, s.lotBytes l) }

/-- Table PW-7: PW_SAVE shows the two slots. -/
def State.savePage (s : State) : State :=
  let p := s.power
  let has (k : Nat) : Bool := p.slots.any fun x => x.1 == k
  let (n, lots, frame) := match p.newest with | some (k, r) => (k, r.lots.length, r.frame) | none => (0, 0, 0)
  ((((s.setFld F.PW_SAVE_VALID0 0 (bit (has 0))).setFld F.PW_SAVE_VALID1 0 (bit (has 1))).setFld F.PW_SAVE_NEWEST 0 n).setFld
    F.PW_SAVE_LOTS 0 lots).setFld F.PW_SAVE_FRAME 0 frame

/-- R455, Table PW-3: the save starts. -/
def State.startSave (s : State) : State :=
  let k := s.power.target
  let r := s.saveRecord
  let s : State := { s with
    power := { s.power with
      supply := .save
      slots := s.power.slots.filter fun x => x.1 != k
      saving := some (k, r) }
    pins := { s.pins with modPg := false } }
  ((s.setFld F.PW_STATUS_SAVING 0 1).coreOff).assertStop.latchClass 2 3

/-- VIN_SAG (R454): VIN, `vin` in 10 mV, has stayed low for `us` µs. Before S7 a sag ends bring-up; from S7, with SAVE_EN set, the save
starts, once in a power cycle. -/
def execVinSag (vin : BitVec 13) (us : Nat) (s : State) : Host.Outcome State Fault Refusal :=
  if s.isOff then .next s
  else
  let s := s.setFld F.PW_STATUS_VIN 0 vin.toNat
  if vin.toNat < 10 * s.fld F.PW_CFG_VIN_SAG ∧ s.fld F.PW_CFG_SAG_TIME ≤ us then
    if s.done < 7 then .next { s with bring := { s.bring with ended := true } }
    else if s.flag F.PW_CFG_SAVE_EN && !(s.flag F.PW_STATUS_SAVING) && !(s.flag F.PW_STATUS_SAVED) && s.power.supply == .on then
      .next s.startSave
    else .next s
  else .next s

/-- SAVE_COMPLETE (R455, R456): the trailer is written, the slot becomes valid, and SAVED is set. -/
def execSaveComplete (s : State) : Host.Outcome State Fault Refusal :=
  match s.power.saving with
  | none => .next s
  | some (k, r) =>
    let s : State := { s with power := { s.power with
      slots := s.power.slots ++ [(k, r)]
      saving := none } }
    .next ((s.setFld F.PW_STATUS_SAVING 0 0).setFld F.PW_STATUS_SAVED 0 1).savePage

/-! ## Restoring -/

/-- A lot's bytes in full. -/
def fullLot (bs : List (Nat × Byte)) : List Byte := spRange 0 bs 0 lotSize

/-- R458: the bytes of a record. -/
def SaveRec.bytes (r : SaveRec) : List Byte :=
  let body := leBytes 64 (r.seq + r.frame % 2 ^ 48 * 2 ^ 64 + r.step % 2 ^ 64 * 2 ^ 112 + r.lots.length * 2 ^ 176) ++
    leBytes 64 r.digest ++ (r.lots.flatMap fun x => leBytes 64 (x.1 + x.2.1.toNat * 2 ^ 64)) ++ (r.lots.flatMap fun x => fullLot x.2.2)
  body ++ leBytes 64 (crc32c body)

/-- R459: a lot goes back to its index, with the STATE, HOME, HOME_VALID and POISON it had. -/
def State.restoreLot (s : State) (l : Nat) (w : Nat) (bs : List (Nat × Byte)) : State :=
  let a := lotAddr l
  let s := s.clearRange a lotSize
  let s := bs.foldl (fun (s : State) e => s.wrByte (a + e.1) e.2) s
  let s := if hasBit w 11 then s.markRange a lotSize true else s
  s.setLot l { s.lot l with
    state := w % 16
    homeValid := hasBit w 12
    home := w / 2 ^ 32 }

/-- The payload of a RESTORE record (entry 5). -/
def restorePayload (lots : List (Nat × BitVec 64 × List (Nat × Byte))) : List Byte :=
  lots.flatMap fun x => words [x.1, x.2.1.toNat] ++ fullLot x.2.2

/-- PW_RESTORE (R459). -/
def pwRestoreBody (s : State) (_ : Cmd) : State × Option Reply :=
  if !s.betweenCommitAndReady || s.flag F.PW_SAVE_RESTORED then (s, some (denied 1))
  else match s.power.newest with
    | none => (s, some (lenRange 1))
    | some (_, r) =>
      if r.digest ≠ digest s.bring.config then (s, some (conflict 1))
      else if r.lots.any (fun x => !(s.lot x.1).save) then (s, some (conflict 2))
      else
        let s := r.lots.foldl (fun (s : State) x => s.restoreLot x.1 x.2.1.toNat x.2.2) s
        let s := (s.setFld F.PW_SAVE_RESTORED 0 1).record 0x15 0 (restorePayload r.lots) 2
        (s.extend 0x0B (digest r.bytes), some ⟨0, 0, r.lots.length, none⟩)

def execPwRestore (ring : BitVec 14) (d : Desc) (s : State) : Host.Outcome State Fault Refusal :=
  .next (s.command ring d 0x0B02 pwRestoreBody)

/-- PW_SAVE_CLEAR (R459): both slots become invalid. -/
def pwSaveClearBody (s : State) (_ : Cmd) : State × Option Reply :=
  let s : State := { s with power := { s.power with slots := [] } }
  (s.savePage, some Reply.ok)

def execPwSaveClear (ring : BitVec 14) (d : Desc) (s : State) : Host.Outcome State Fault Refusal :=
  .next (s.command ring d 0x0B03 pwSaveClearBody)

end Sys2Proof.Machine
end

