-- ==== Sys2Proof/Machine/Book.lean ====
section
/-! DEFINITION. Field Book (22): records and their ring, the start and the end of a replay, and the fault counters. What a replay does
with each record stands in Replay.lean. -/

namespace Sys2Proof.Machine

/-! ## Records -/

/-- R479: a payload padded to whole 32-byte units. -/
def padUnit (bs : List Byte) : List Byte := bs ++ List.replicate ((32 - bs.length % 32) % 32) 0

/-- Table FB-1: a record without RECNO and CRC, which it takes when it is written. -/
def rawRecord (r : BookRec) (cont more : Bool) (payload : List Byte) : List Byte :=
  let body := padUnit payload
  leBytes 32 (B.FBR_KIND.put r.kind + B.FBR_CONT.put (bit cont) + B.FBR_MORE.put (bit more) + B.FBR_LEN.put (body.length / 32 + 1) +
    B.FBR_ACYC.put r.acyc + B.FBR_FRAME.put r.frame + B.FBR_DOMAIN.put r.domain) ++ body

/-- R479: the longest payload of one record. -/
def maxPiece : Nat := 2097088

/-- R479: the records of one payload, linked by CONT and MORE. `n` bounds their number. -/
def pieces : Nat → BookRec → Bool → List Byte → List (List Byte)
  | 0, _, _, _ => []
  | n + 1, r, cont, bs =>
    if bs.length ≤ maxPiece then [rawRecord r cont false bs]
    else rawRecord r cont true (bs.take maxPiece) :: pieces n r true (bs.drop maxPiece)

/-- Table FB-1: RECNO and the CRC over the record with its CRC field zero. -/
def sealRecord (recno : Nat) (bs : List Byte) : List Byte :=
  let h := leNat (bs.take 32) + B.FBR_RECNO.put recno
  let c := crc32c (leBytes 32 h ++ bs.drop 32)
  leBytes 32 (h + B.FBR_CRC.put c) ++ bs.drop 32

/-- R483: the bytes of the staging buffer that a record takes. The payload of a sample, and the lots of a RESTORE, are copied from
their own stores when the record is written. -/
def stagedSize (bs : List Byte) : Nat :=
  let k := (bs.getD 0 0).toNat
  if k = 0x04 ∨ k = 0x15 then min 96 bs.length else bs.length

def State.stagedBytes (s : State) : Nat := (s.book.staging.map stagedSize).sum

/-- R220, R483: the urgency level of the staging buffer. -/
def State.bookUrgency (s : State) : State :=
  let x := s.stagedBytes / 32768
  s.setFld F.FB_STATUS_URGENCY 0 (if s.fld F.FB_CFG_T3 ≤ x then 3 else if s.fld F.FB_CFG_T2 ≤ x then 2 else if s.fld F.FB_CFG_T1 ≤ x then 1 else 0)

/-- R483: a record is lost whole. -/
def State.loseRecord (s : State) (acyc : Nat) : State :=
  let b := s.book
  let s : State := { s with book := { b with
    lost := b.lost + 1
    lostFirst := if b.lost = 0 then acyc else b.lostFirst
    lostLast := acyc } }
  (s.bump F.FB_COUNTS_LOST).setFlag F.FB_STATUS_GAP

/-- R480, R483: a record released by the merge enters the staging buffer, or is lost. -/
def State.stageRecord (s : State) (r : BookRec) : State :=
  let ps := pieces (r.payload.length / maxPiece + 1) r false r.payload
  if 524288 < s.stagedBytes + (ps.map stagedSize).sum then s.loseRecord r.acyc
  else { s with book := { s.book with staging := s.book.staging ++ ps } }

/-! ## The ring -/

/-- R482: whole records are given up, oldest first, until `n` units fit. -/
def State.bookRoom : Nat → State → Nat → State
  | 0, s, _ => s
  | k + 1, s, n =>
    match s.book.lens with
    | [] => s
    | l :: rest =>
      if s.book.lens.sum + n ≤ s.bookUnits then s
      else
        let s : State := { s with book := { s.book with lens := rest } }
        let s := (s.count F.FB_OLDEST_RECNO).setFld F.FB_POS_OLDEST 0 ((s.fld F.FB_POS_OLDEST + l) % s.bookUnits)
        State.bookRoom k s n

/-- R482, R146: writes a record, with the next RECNO, at the ring's next position, in whole lines: the half of a line that the record
begins or ends is held until its other half comes. What reaches the end of the ring goes on at the start. -/
def State.writeRecord (s : State) (raw : List Byte) : State :=
  let rec' := sealRecord (s.fld F.FB_HEAD_RECNO) raw
  let n := rec'.length / 32
  let s := s.bookRoom s.book.lens.length n
  let pos := s.fld F.FB_POS_NEXT
  let bs := s.book.half ++ rec'
  let whole := bs.length / 64 * 64
  let start := pos - s.book.half.length / 32
  let room := 32 * (s.bookUnits - start)
  let s := s.wrMarked (s.bookBase + 32 * start) ((bs.take whole).take room) false
  let s := if room < whole then s.wrMarked s.bookBase ((bs.take whole).drop room) false else s
  let s := if s.bookUnits - pos ≤ n then s.count F.FB_WRAPS_WRAPS else s
  let s := (s.count F.FB_HEAD_RECNO).setFld F.FB_POS_NEXT 0 ((pos + n) % s.bookUnits)
  let s := (s.count F.FB_BYTES_BYTES 0 (32 * n)).classLines 0 3 (whole / 64)
  { s with book := { s.book with half := bs.drop whole, lens := s.book.lens ++ [n] } }

/-- R483: the sample of a record has been overwritten in its ring of buffers. -/
def State.sampleGone (s : State) (raw : List Byte) : Bool :=
  let h := leNat (raw.take 32)
  let x := leNat ((raw.drop 32).take 64)
  let i := B.SHDR_STREAM.get x
  B.FBR_KIND.get h == 0x04 && B.FBR_CONT.get h == 0 && B.SHDR_INLINE.get x == 0 &&
    decide (B.SHDR_SEQ.get x + s.fld F.SN_STREAM_A_BUFS i < (s.stream' i).begun)

/-- R483: the next staged record goes to the ring, after a GAP record where records have been lost. The pieces of a lost sample
go with it. -/
def State.flushRecord (s : State) (raw : List Byte) : State :=
  let h := leNat (raw.take 32)
  if s.sampleGone raw then s.loseRecord (B.FBR_ACYC.get h)
  else
    let b := s.book
    let s : State :=
      if b.lost = 0 then s
      else
        let s : State := { s with book := { b with lost := 0 } }
        let gap : BookRec := ⟨B.FBR_ACYC.get h, 0x16, 0, B.FBR_FRAME.get h, 2, []⟩
        (s.writeRecord (rawRecord gap false false (words [b.lost, b.lostFirst, b.lostLast]))).bump F.FB_COUNTS_GAPS
    s.writeRecord raw

/-- R479: drops the pieces at the front of the buffer that continue a record before them. -/
def dropPieces (xs : List (List Byte)) : List (List Byte) := xs.dropWhile fun x => B.FBR_CONT.get (leNat (x.take 32)) == 1

/-- R24, R224: the controllers of all channels on which `n` bytes at the ring's next position lie serve Field Book now. -/
def State.bookOpen (s : State) (n : Nat) : Bool :=
  (List.range 8).all fun ch =>
    (s.bookSpans (s.fld F.FB_POS_NEXT) n).all (fun x => linesOn ch x.1 x.2 == 0) || s.openFor ch .book

/-- R482, R146: staged records are written, each when its channels serve Field Book. `n` bounds their number. -/
def State.flushBook : Nat → State → State
  | 0, s => s
  | n + 1, s =>
    match s.book.staging with
    | [] => s
    | raw :: rest =>
      let gone := s.sampleGone raw
      if !gone && !s.bookOpen (raw.length + (if s.book.lost = 0 then 0 else 64)) then s else
      let s : State := { s with book := { s.book with staging := if gone then dropPieces rest else rest } }
      State.flushBook n (s.flushRecord raw)

/-- FB_RECORD_RELEASE (R480): after `dt` ACLK cycles the merge releases its first record, if 20,000 cycles have passed since its ACYC,
and what stands in the staging buffer is written as its channels serve Field Book in OPEN-slot time (R224). -/
def execFbRecordRelease (dt : Nat) (s : State) : Host.Outcome State Fault Refusal :=
  if s.dark then .next s
  else
  let s := s.tickA dt
  let s := match s.book.merge with
    | [] => s
    | r :: rest =>
      if r.acyc + 20000 ≤ s.acyc then
        let s : State := { s with book := { s.book with merge := rest } }
        s.stageRecord r
      else s
  .next (s.queueOpens.flushBook s.book.staging.length).bookUrgency

/-! ## The plan comes alive -/

/-- A partition is configured: it holds the right of a host channel, a DDR4 region, a schedule or, for P0, the golden window. -/
def State.configured (s : State) (p : Nat) : Bool :=
  s.fld F.BC_RIGHTS_CHANNELS p != 0 || ([0, 1, 2, 3].any fun k => s.fld F.SP_REGION_COUNT (4 * p + k) != 0) ||
    s.fld F.SP_SCHED_CFG_LEN p != 0 || (p == 0 && s.flag F.SP_GOLDEN_CFG_EN)

/-- R434: MT_CTRL.DEMAND is cleared, both streams are started, and every configured partition is RUNNING. -/
def State.goLive (s : State) : State :=
  let s := s.setFld F.MT_CTRL_DEMAND 0 0
  let s := (List.range 8).foldl (fun (s : State) p => if s.configured p then s.setPartState p 1 else s) s
  s.frameGo.fillGo

/-! ## Replay -/

/-- Table FB-1: the header of the record that a replay comes to next. -/
def State.nextHead (s : State) (r : Replay) : Option Nat :=
  if r.pos + 32 ≤ r.len then some (s.rdLe (r.base + r.pos) 32) else none

/-- R478, R486: in replay the plan starts where the recorded ACYC begins to count, once every record of ACYC 0 has been applied. -/
def State.replayGo (s : State) : State :=
  match s.book.replay with
  | none => s
  | some r =>
    if s.ridge.goAt.isSome then s
    else match s.nextHead r with
      | some h => if 0 < B.FBR_ACYC.get h then s.goLive else s
      | none => s

/-- R490: the replay ends for a reason. The hold it raised ends with it. -/
def State.replayEnd (s : State) (why : Nat) : State :=
  match s.book.replay with
  | none => s
  | some r =>
    let s : State := { s with book := { s.book with replay := none } }
    let s := (s.setFld F.FB_STATUS_REPLAYING 0 0).clearHold 8
    s.finish r.ring r.desc ⟨0, why, r.recno % 2 ^ 32, none⟩

/-- FB_REPLAY (R486). -/
def fbReplayBody (s : State) (c : Cmd) : State × Option Reply :=
  let base := c.w64 4
  let len := c.w64 6
  if !s.betweenCommitAndReady then (s, some (denied 1))
  else if !(s.ddrWrites 0 base len) then (s, some (denied 0))
  else if len = 0 ∨ len % 32 ≠ 0 then (s, some (lenRange 1))
  else
    let h := s.rdLe base 32
    if B.FBR_KIND.get h ≠ 1 ∨ B.FBR_RECNO.get h ≠ 0 ∨ B.FBR_LEN.get h ≠ 3 ∨ len < 96 then (s, some (lenRange 2))
    else if s.rdLe (base + 32) 32 ≠ s.bring.commitM ∨ s.rdLe (base + 64) 32 ≠ digest s.bring.config then (s, some (conflict 1))
    else
      let r : Replay := { ring := c.ring, desc := c.d, base := base, len := len, side := c.w64 8, sideLen := c.w64 10,
                          pos := 96, sidePos := 0, recno := 0, acyc := 0, reproduced := false, part := [], pubs := [] }
      -- R246, R349: latches that were due give way to the recorded ones.
      let s : State := { s with
        book := { s.book with
          replay := some r
          replayed := true }
        datum := { s.datum with
          stage := if s.datum.stage = 1 then 0 else s.datum.stage
          next := none }
        stadia := { s.stadia with
          stage := if s.stadia.stage = 1 then 0 else s.stadia.stage
          next := false } }
      ((s.setFld F.FB_STATUS_REPLAYING 0 1).replayGo, none)

def execFbReplay (ring : BitVec 14) (d : Desc) (s : State) : Host.Outcome State Fault Refusal :=
  .next (s.command ring d 0x0D01 fbReplayBody)

/-- FB_STOP (R490): ends the replay in progress. -/
def fbStopBody (s : State) (_ : Cmd) : State × Option Reply := (s.replayEnd 5, some Reply.ok)

def execFbStop (ring : BitVec 14) (d : Desc) (s : State) : Host.Outcome State Fault Refusal :=
  .next (s.command ring d 0x0D02 fbStopBody)

/-! ## Fault counters -/

/-- FAULT_LEAK (R492): after `dt` BCLK cycles the count of a site has lost 1 for each WINDOW that has passed with no other change. -/
def execFaultLeak (site : BitVec 12) (dt : Nat) (s : State) : Host.Outcome State Fault Refusal :=
  if s.dark then .next s
  else
  let s := s.tickB dt
  let i := site.toNat
  .next (if siteValid i then s.setSite i (s.leaked (s.site i)) else s)

/-- FB_FAULT_SEL_WRITE (R494): copies a site into FB_FAULT_INFO. -/
def execFbFaultSelWrite (site : BitVec 12) (s : State) : Host.Outcome State Fault Refusal :=
  if s.dark then .next s
  else
  let i := site.toNat
  let f := s.leaked (s.site i)
  let v : Nat := if siteValid i then f.count + bit f.lasting * 2 ^ 8 + 2 ^ 9 + f.total * 2 ^ 16 + f.last * 2 ^ 32 else 0
  .next (s.setReg R.FB_FAULT_INFO 0 (BitVec.ofNat 64 v))

end Sys2Proof.Machine
end

