-- ==== Sys2Proof/Machine/Trailhead.lean ====
section
/-! DEFINITION. The Trailhead family (17): the window map, staged reads and streaming writes, and the interrupt's hold-off. -/

namespace Sys2Proof.Machine

/-- R44, R519: condition register `n` has a binder: a walker, a schedule table, the golden skip, PB_CFG.STOP_COND or an open stream. -/
def State.condBound (s : State) (n : Nat) : Bool :=
  ((List.range 24).any fun k => s.fld F.PL_SEQ_WALK_KIND k != 0 && s.fld F.PL_SEQ_WALK_COND k == n) ||
  ((List.range 8).any fun p => s.fld F.SP_SCHED_CFG_LEN p != 0 && s.fld F.SP_SCHED_CFG_COND p == n) ||
  (s.fld F.SP_GOLDEN_CFG_WINDOW != 0 && s.fld F.SP_GOLDEN_CFG_COND == n) ||
  (s.flag F.PB_CFG_STOP_EN && s.fld F.PB_CFG_STOP_COND == n) ||
  ((List.range 128).any fun i => (s.flag F.TH_STREAM_OPEN i || (s.wstream i).closing.isSome) && s.fld F.TH_STREAM_COND i == n)

/-- R44: the partition that owns a condition register. -/
def State.condOwner (s : State) (n : Nat) : Option Nat :=
  if s.flag F.PL_COND_OWN_VALID n then some (s.fld F.PL_COND_OWN_OWNER n) else none

/-! ## The window map -/

/-- Table TH-12: aperture block `k` lies in the range of a KIND. -/
def kindRange (kind k : Nat) : Bool :=
  if kind = 1 then decide (256 ≤ k) && decide (k < 768) else decide (768 ≤ k) && decide (k < 16384)

/-- Table TH-11: an entry of the window map. -/
def mapEntry (block kind part ctx : Nat) : BitVec 64 :=
  BitVec.ofNat 64 (block + 2 ^ 9 + kind * 2 ^ 10 + part * 2 ^ 13 + ctx * 2 ^ 16)

/-- R383: aperture block `k` of channel `ch` is backed by SRAM block `b`. No rule clears the block: it keeps its bytes (entry 22). -/
def State.mapBlock (s : State) (ch k b kind part ctx : Nat) : State := s.setWmap ch k (mapEntry b kind part ctx)

/-- TH_MAP (R395): maps free SRAM blocks, lowest first, whole or not at all. -/
def thMapBody (s : State) (c : Cmd) : State × Option Reply :=
  let ch := c.w 4 / 2 ^ 31
  let k := c.w 4 % 2 ^ 14
  let kind := c.w 5 % 4
  let free := s.freeBlocks.take c.len
  if kind ≠ 1 ∧ kind ≠ 2 then (s, some (lenRange 0))
  else if free.length < c.len then (s, some (lenRange 0))
  else if (List.range c.len).any fun i => !(kindRange kind (k + i)) || F.TH_WMAP_VALID.get (s.wmap ch (k + i)) == 1 then
    (s, some (conflict 0))
  else
    let s := free.zipIdx.foldl (fun (s : State) x => s.mapBlock ch (k + x.2) x.1 kind c.part c.ctx) s
    (s, some (Reply.detailed (free.getD 0 0)))

/-- TH_UNMAP (R395): TH_MAP with flags bit 16. Blocks that TH_MAP has not mapped are refused as not this command's. -/
def thUnmapBody (s : State) (c : Cmd) : State × Option Reply :=
  let ch := c.w 4 / 2 ^ 31
  let k := c.w 4 % 2 ^ 14
  let es := (List.range c.len).map fun i => s.wmap ch (k + i)
  if es.any fun e => F.TH_WMAP_VALID.get e == 1 && F.TH_WMAP_CONTEXT.get e != c.ctx then (s, some (denied 0))
  else if 16384 < k + c.len ∨ (es.any fun e => F.TH_WMAP_VALID.get e == 0 || F.TH_WMAP_KIND.get e == 0) = true then
    (s, some (conflict 0))
  else ((List.range c.len).foldl (fun (s : State) i => s.setWmap ch (k + i) 0) s, some Reply.ok)

/-- Opcode 0x0101 in either of its forms. -/
def thMapEither (s : State) (c : Cmd) : State × Option Reply := if c.flag16 then thUnmapBody s c else thMapBody s c

def execThMap (ring : BitVec 14) (d : Desc) (s : State) : Host.Outcome State Fault Refusal :=
  .next (if hasBit (descWord d 0) 16 then s else s.command ring d 0x0101 thMapEither)

def execThUnmap (ring : BitVec 14) (d : Desc) (s : State) : Host.Outcome State Fault Refusal :=
  .next (if hasBit (descWord d 0) 16 then s.command ring d 0x0101 thMapEither else s)

/-! ## Staged reads -/

/-- The aperture blocks that a stage covers. -/
def stageBlocks (off len : Nat) : List Nat := (List.range ((off % 65536 + len + 65535) / 65536)).map fun i => off / 65536 + i

def State.setFilling (s : State) (ch k v : Nat) : State := s.setFld F.TH_WMAP_FILLING (16384 * ch + k) v

/-- TH_STAGE (R385). -/
def thStageBody (s : State) (c : Cmd) : State × Option Reply :=
  let src := c.w64 4
  let ch := c.w 7 / 2 ^ 31
  let off := c.w64 6 % 2 ^ 63
  let staged := (stageBlocks off c.len).all fun k =>
    let e := s.wmap ch k
    decide (k < 16384) && F.TH_WMAP_VALID.get e == 1 && F.TH_WMAP_KIND.get e == 2 && F.TH_WMAP_CONTEXT.get e == c.ctx
  if !(s.ddrReads c.part src c.len) then (s, some (denied 0))
  else if src % 64 ≠ 0 ∨ off % 64 ≠ 0 ∨ staged = false then (s, some (lenRange 0))
  else
    let s := (stageBlocks off c.len).foldl (fun (s : State) k => s.setFilling ch k 1) s
    let s : State := { s with trail := { s.trail with stages := s.trail.stages ++ [⟨c.ring, c.d, src, ch, off, c.len⟩] } }
    (s, none)

def execThStage (ring : BitVec 14) (d : Desc) (s : State) : Host.Outcome State Fault Refusal :=
  .next (s.command ring d 0x0102 thStageBody)

/-- R150, R152: a DDR4 line that a device read delivers with poison. -/
def State.lineBad (s : State) (a : Nat) : Bool := s.poisonAt a || s.poisonAt (a + 32) || (s.chan (ddrChan a)).bad.contains a

/-- R385: a staged line reaches SRAM, a bad one as zeros. -/
def State.stageLine (s : State) (g : Stage) (k : Nat) : State :=
  let a := g.src + 64 * k
  match s.backed g.chan (g.off + 64 * k) with
  | none => s
  | some m => s.wrMarked m (if s.lineBad a then List.replicate 64 0 else s.rdBytes a 64) false

/-- TH_STAGE_FILL_COMPLETE (R385): the last line of the stage is in SRAM. The fill moves when the OPEN queues of its channels serve it (R224);
gated traffic that is not in the queue waits (R222). -/
def execThStageFillComplete (i : Nat) (s : State) : Host.Outcome State Fault Refusal :=
  if s.dark then .next s
  else
  match s.trail.stages[i]? with
  | none => .next s
  | some g =>
    let s := s.queueOpens
    if s.openForAll (.stage g.ring g.desc) && s.inOpenQueue (.stage g.ring g.desc) then
      let bad := (List.range (g.len / 64)).countP fun k => s.lineBad (g.src + 64 * k)
      let s := (List.range (g.len / 64)).foldl (fun (s : State) k => s.stageLine g k) s
      let s := (List.range 8).foldl (fun (s : State) ch => s.setChan ch { s.chan ch with
        bad := (s.chan ch).bad.filter fun l => !(decide (g.src ≤ l) && decide (l < g.src + g.len)) }) s
      let s := s.classLines (B.DESC_PART.get g.desc.toNat) 3 (g.len / 64)
      let rest := s.trail.stages.eraseIdx i
      let s : State := { s with trail := { s.trail with stages := rest } }
      let still (k : Nat) : Bool := rest.any fun x => x.chan == g.chan && (stageBlocks x.off x.len).contains k
      let s := (stageBlocks g.off g.len).foldl (fun (s : State) k => if still k then s else s.setFilling g.chan k 0) s
      .next (s.finish g.ring g.desc (if bad = 0 then Reply.ok else ⟨0xF, min 0xFFFF bad, 0, none⟩))
    else .next s

/-! ## Streaming writes -/

/-- R386: the range lies in one region of the partition. -/
def State.inOneRegion (s : State) (p a n : Nat) : Bool :=
  [0, 1, 2, 3].any fun k =>
    let v := spGet 0 s.sched.regions (4 * p + k)
    decide (F.SP_REGION_BASE.get v * 0x0400_0000 ≤ a) &&
      decide (a + n ≤ (F.SP_REGION_BASE.get v + F.SP_REGION_COUNT.get v) * 0x0400_0000)

/-- S of a stream, in bytes. -/
def State.stageSize (s : State) (i : Nat) : Nat := s.fld F.TH_STREAM_STAGE_BLOCKS i * 65536
/-- TH_STREAM_OPEN (R386). DEST_BASE counts 64 KiB units, as DEST_LEN does (entry 22). -/
def thStreamOpenBody (s : State) (c : Cmd) : State × Option Reply :=
  let i := c.w 4 % 128
  let base := c.w 5 * 65536
  let len := c.w 6
  let first := c.w 7 % 512
  let n := c.w 7 / 2 ^ 16 % 512
  let cond := c.w 8 % 64
  if !(s.inOneRegion c.part base (len * 65536)) then (s, some (denied 0))
  else if len = 0 ∨ 65535 < len ∨ n = 0 ∨ 256 < n ∨ 512 < first + n then (s, some (lenRange 0))
  else
    let free := s.freeBlocks
    let live := s.flag F.TH_STREAM_OPEN i || (s.wstream i).closing.isSome
    if live || !((List.range n).all fun k => free.contains (first + k)) || s.condOwner cond != some c.part || s.condBound cond then
      (s, some (conflict 0))
    else
      let v : Nat := 1 + first * 2 + n * 2 ^ 10 + cond * 2 ^ 19 + c.part * 2 ^ 25 + len * 2 ^ 32 + base / 2 ^ 32 * 2 ^ 48
      let s := s.setReg R.TH_STREAM i (BitVec.ofNat 64 v)
      let s := s.setWstream i { WStream.reset with base := base, ctx := c.ctx }
      let s := ((s.setFld F.TH_COMMIT_COMMIT i 0).setFld F.TH_DRAINED_DRAINED i 0).setFld F.TH_CREDIT_CREDIT i (n * 65536)
      (s.clearRange (sramBase + first * 65536) (n * 65536), some Reply.ok)

def execThStreamOpen (ring : BitVec 14) (d : Desc) (s : State) : Host.Outcome State Fault Refusal :=
  .next (s.command ring d 0x0103 thStreamOpenBody)

/-- R485: bit of FB_DIGEST for a stream. -/
def State.digested (s : State) (i : Nat) : Bool := hasBit (s.fld F.FB_DIGEST_MASK (i / 64)) (i % 64)

/-- R391: a closed stream that is drained frees its staging blocks, and its TH_STREAM_CLOSE completes. -/
def State.streamClosed (s : State) (i : Nat) : State :=
  let w := s.wstream i
  match w.closing with
  | none => s
  | some who =>
    if s.streamDrained i then
      let s := s.streamFree i
      match who with
      | some (r, d) => s.finish r d (if w.overrun = 0 then Reply.ok else ⟨8, min 0xFFFF w.overrun, 0, none⟩)
      | none => s
    else s

/-- TH_STREAM_CLOSE (R391). -/
def thStreamCloseBody (s : State) (c : Cmd) : State × Option Reply :=
  let i := c.w 4 % 128
  if s.flag F.TH_STREAM_OPEN i then
    if (s.wstream i).ctx ≠ c.ctx then (s, some (denied 0)) else ((s.streamStop i (some (c.ring, c.d))).streamClosed i, none)
  else (s, some (conflict 0))

def execThStreamClose (ring : BitVec 14) (d : Desc) (s : State) : Host.Outcome State Fault Refusal :=
  .next (s.command ring d 0x0104 thStreamCloseBody)

/-- R390, R394, R485: one line of stream `i` drains; `bad` says that a staging word reads uncorrectable. -/
def State.streamDrain (s : State) (i : Nat) (bad : Bool) : State :=
  let b := s.drained i
  let a := s.streamDest i b
  let stage := sramBase + s.fld F.TH_STREAM_STAGE_FIRST i * 65536 + b % s.stageSize i
  let bs := s.rdBytes stage 64
  let bad := bad || s.poisonAt stage || s.poisonAt (stage + 32)
  let p := s.fld F.TH_STREAM_PART i
  let s := s.clearRange stage 64
  let s := if (s.tagOf a).writes p then (s.landUnit a bs bad).classLines p 3 1 else s.violation p a
  let s := (s.setFld F.TH_DRAINED_DRAINED i (b + 64)).setFld F.TH_CREDIT_CREDIT i (b + 64 + s.stageSize i)
  let s := s.attn F.TH_ATTN_CREDIT
  let s :=
    if s.digested i then
      let w := s.wstream i
      let s := s.setWstream i { w with block := w.block ++ bs }
      if (b + 64) % 65536 = 0 then s.digestRecord i else s
    else s.record 0x08 i (words [a, s.fld F.PL_STEP_STEP] ++ bs) 2
  let s := if s.streamDrained i then s.condWrite (s.fld F.TH_STREAM_COND i) ((b + 64) % 2 ^ 32) else s
  s.streamClosed i

/-- STREAM_DRAIN_LINE (R390): when the OPEN queue of the line's channel serves the stream (R224); a line that a gate bars is not in the
queue (R222). -/
def execStreamDrainLine (i : BitVec 7) (bad : Bool) (s : State) : Host.Outcome State Fault Refusal :=
  if s.dark then .next s
  else
  let n := i.toNat
  let s := s.queueOpens
  let ch := ddrChan (s.streamDest n (s.drained n))
  .next (if s.openFor ch (.drain n) then (s.tookOpen ch (.drain n) 1).streamDrain n bad else s)

/-! ## HOST_ATTN -/

/-- HOST_ATTN_HOLDOFF_END (R392): the minimum deassertion has passed. -/
def execHostAttnHoldoffEnd (s : State) : Host.Outcome State Fault Refusal :=
  if s.dark then .next s else .next { s with trail := { s.trail with attnHold := false } }.updateAttn

end Sys2Proof.Machine
end

