-- ==== Sys2Proof/Machine/CommitRules.lean ====
section
/-! DEFINITION. The rules of the S6 commit (R433), unit block by unit block. Each judges the configuration as it will stand: a state in
which the proposed values are in force. A register of a unit that stays off keeps the reset value that no record changed, so the range
of a register is tested where its value differs from reset or its unit is on (entry 23). -/

namespace Sys2Proof.Machine

/-- What BC_COMMIT_REPORT says of a failing rule (Table BU-9). -/
structure Bad where
  status : Nat
  unit   : Nat
  offset : Nat
  index  : Nat
deriving DecidableEq, Repr

/-- A rule fails at entry `i` of a register and names element `idx`. -/
def RegArr.bad (r : RegArr) (i status idx : Nat) : Bad := ⟨status, r.unit, r.key i % 0x1000000, idx⟩

/-- Entry `i` of an array is the element that a range names; a single register names none. -/
def RegArr.elem (r : RegArr) (i : Nat) : Nat := if r.count = 1 then 0xFFFF else i

/-- LEN_RANGE at each entry of an array that does not meet `ok`: the first. -/
def RegArr.range (r : RegArr) (ok : Nat → Bool) : Option Bad :=
  (List.range r.count).findSome? fun i => if ok i then none else some (r.bad i 1 (r.elem i))

/-- The value of an entry differs from its reset value. -/
def State.named (s : State) (r : RegArr) (i : Nat) : Bool := spGet 0 s.regs (r.key i) != 0

def within (lo hi x : Nat) : Bool := decide (lo ≤ x) && decide (x ≤ hi)

/-- A binary32 that is finite and above zero. -/
def f32pos (x : Nat) : Bool := fFinite x && fLt 0 x

/-- Three thresholds in rising order (Tables SN-10, DR-12, FB-4). -/
def rising (t1 t2 t3 top : Nat) : Bool := decide (1 ≤ t1) && decide (t1 < t2) && decide (t2 < t3) && decide (t3 ≤ top)

/-- Two ranges of numbers share one. -/
def meet (a n b m : Nat) : Bool := decide (0 < n) && decide (0 < m) && decide (a < b + m) && decide (b < a + n)

/-! ## Claims (R518, R519) -/

/-- A claim of a PUBLISH bit or a condition register: the resource, and the entry that makes it. -/
abbrev Claim := Nat × RegArr × Nat

/-- PUBLISH bits in the order in which their claims are checked (Table LC-7). A walker claims its bits where it has a kind, a sequence
unit where it has rows, a problem where it is enabled and has a linearisation record. -/
def State.bitClaims (t : State) : List Claim :=
  ((List.range 16).filter fun b => t.fld F.PL_PUB_MAP_KIND b != 0).map (fun b => (b, R.PL_PUB_MAP, b)) ++
  ((List.range 6).filter fun i => t.fld F.PL_SEQ_CFG_ROWS i != 0).map (fun i => (t.fld F.PL_SEQ_CFG_FLIP_BIT i, R.PL_SEQ_CFG, i)) ++
  ((List.range 24).filter fun i => t.fld F.PL_SEQ_WALK_KIND i != 0).flatMap (fun i =>
    [(t.fld F.PL_SEQ_WALK_ADV_BIT i, R.PL_SEQ_WALK, i), (t.fld F.PL_SEQ_WALK_REW_BIT i, R.PL_SEQ_WALK, i)]) ++
  ((List.range 64).filter fun j => t.flag F.TV_PROB_A_EN j && (t.tvHeadOf j).lin != 0).map (fun j =>
    (t.fld F.TV_PROB_A_LIN_BIT j, R.TV_PROB_A, j)) ++
  (if t.flag F.ST_CFG_EN then [(t.fld F.ST_CFG_PROP_BIT, R.ST_CFG, 0), (t.fld F.ST_CFG_UPD_BIT, R.ST_CFG, 0)] else [])

/-- Condition registers, with the partition that must own each (R175, R211, R214, R369). -/
def State.condClaims (t : State) : List (Claim × Nat) :=
  ((List.range 24).filter fun i => t.fld F.PL_SEQ_WALK_KIND i != 0).map (fun i => ((t.fld F.PL_SEQ_WALK_COND i, R.PL_SEQ_WALK, i), i / 4 + 2)) ++
  (if t.fld F.SP_GOLDEN_CFG_WINDOW = 0 then [] else [((t.fld F.SP_GOLDEN_CFG_COND, R.SP_GOLDEN_CFG, 0), 0)]) ++
  ((List.range 8).filter fun p => t.fld F.SP_SCHED_CFG_LEN p != 0).map (fun p => ((t.fld F.SP_SCHED_CFG_COND p, R.SP_SCHED_CFG, p), p)) ++
  (if t.flag F.PB_CFG_STOP_EN then [((t.fld F.PB_CFG_STOP_COND, R.PB_CFG, 0), 0)] else [])

/-- The first claim of unit `u` for a resource that an earlier one holds, going through the claims in order. -/
def secondClaim (u : Nat) : List Nat → List Claim → Option Bad
  | _, [] => none
  | seen, (x, r, i) :: rest =>
    if r.unit = u ∧ seen.contains x = true then some (r.bad i 7 x) else secondClaim u (x :: seen) rest

/-- R51, R175, R211, R214, R519: the claims that unit `u` makes. -/
def State.claimsBad (t : State) (u : Nat) : Option Bad :=
  match secondClaim u [] t.bitClaims with
  | some b => some b
  | none =>
    match t.condClaims.find? fun c => c.1.2.1.unit == u && t.condOwner c.1.1 != some c.2 with
    | some c => some (c.1.2.1.bad c.1.2.2 7 c.1.1)
    | none => secondClaim u [] (t.condClaims.map fun c => c.1)

/-! ## 0x01 Ridgepole -/

/-- R170, R175, R203: lot `l` is a pool lot of the partition's share, and pinned. Table MT-4 pins only lots of P0 and P1 at the commit, so a
lot of P2 to P7 has to be pinned from S7 on, at a restart (entry 24). -/
def State.ownLot (t : State) (p l : Nat) : Bool :=
  decide (l < 6144) && t.shareOf (l / 384) (l % 384) == some p && (!t.live || (t.lot l).pin)

/-- R175, R203: `n` bytes from an offset of a core's store lie in one pinned lot of the partition. -/
def State.inLot (t : State) (c p off n : Nat) : Bool :=
  decide (off / 65536 = (off + n - 1) / 65536) && decide (off / 65536 < 384) && t.ownLot p (384 * c + off / 65536)

def State.plEntryOk (t : State) : Bool :=
  let fb := t.fld F.PL_ENTRY_FILL_BASE
  let size := t.fld F.PL_CONFIG_PLAN_SIZE * 1024
  t.ridge.planLoaded && within 1 (size - 1) fb && fb == t.ridge.imageFillBase && decide (t.fld F.PL_ENTRY_FRAME_ENTRY < fb) &&
    decide (fb ≤ t.fld F.PL_ENTRY_FILL_ENTRY) && decide (t.fld F.PL_ENTRY_FILL_ENTRY < size)

def State.seqCfgOk (t : State) (i : Nat) : Bool :=
  !(t.named R.PL_SEQ_CFG i) || (decide (t.fld F.PL_SEQ_CFG_ROWS i ≤ 256) && within 1 64 (t.fld F.PL_SEQ_CFG_MAX_TOK i) &&
    decide (t.fld F.PL_SEQ_CFG_COLUMNS i ≤ 16384) && within 1 128 (t.fld F.PL_SEQ_CFG_LAYERS i) && within 1 1024 (t.fld F.PL_SEQ_CFG_TPP i))

def State.seqLogOk (t : State) (i : Nat) : Bool :=
  decide (t.fld F.PL_SEQ_LOG_LIST_LOT i < 6144) && decide (t.fld F.PL_SEQ_LOG_STATE_BYTES i ≤ 64)

/-- Table SQ-9, R170: logs, pool and state slots of partition `i + 2` lie in its regions, and its token list in a pinned lot of it. -/
def State.seqPlaced (t : State) (i : Nat) : Bool :=
  let p := i + 2
  let rows := t.fld F.PL_SEQ_CFG_ROWS i
  let lpad := (t.fld F.PL_SEQ_CFG_LAYERS i + 7) / 8 * 8
  rows == 0 ||
    (t.ownLot p (t.fld F.PL_SEQ_LOG_LIST_LOT i) && t.ddrWrites p (t.fld F.PL_SEQ_LOG_BASE i * 0x40_0000) (rows * 0x40_0000) &&
     (t.fld F.PL_SEQ_CFG_COLUMNS i == 0 || t.ddrWrites p (t.fld F.PL_SEQ_LOG_KV_BASE i * 0x40_0000) (t.fld F.PL_SEQ_CFG_COLUMNS i * lpad * 65536)) &&
     (t.fld F.PL_SEQ_LOG_STATE_BYTES i == 0 ||
      t.ddrWrites p (t.fld F.PL_SEQ_LOG_STATE_BASE i * 0x4000_0000) (rows * t.fld F.PL_SEQ_LOG_STATE_BYTES i * 65536)))

def State.walkOk (t : State) (i : Nat) : Bool :=
  t.fld F.PL_SEQ_WALK_KIND i == 0 || t.inLot (t.fld F.PL_SEQ_WALK_CORE i) (i / 4 + 2) (32 * t.fld F.PL_SEQ_WALK_ITEM_ADDR i) 256

/-- R165, Table SQ-8: bytes of the sequence store, and columns, that partitions 2 to `i + 2` take. -/
def State.seqStore (t : State) (i : Nat) : Nat :=
  ((List.range (i + 1)).map fun k => 128 * t.fld F.PL_SEQ_CFG_ROWS k + 4 * t.fld F.PL_SEQ_CFG_COLUMNS k).sum
def State.seqColumns (t : State) (i : Nat) : Nat := ((List.range (i + 1)).map fun k => t.fld F.PL_SEQ_CFG_COLUMNS k).sum

def firstSome (xs : List (Option Bad)) : Option Bad := xs.findSome? id

def State.seqRulesBad (t : State) (i : Nat) : Option Bad :=
  firstSome [
    if t.seqCfgOk i && decide (t.seqStore i ≤ 524288) && decide (t.seqColumns i ≤ 16384) then none else some (R.PL_SEQ_CFG.bad i 1 (i + 2)),
    if t.seqLogOk i then none else some (R.PL_SEQ_LOG.bad i 1 (i + 2)),
    if t.seqPlaced i then none else some (R.PL_SEQ_LOG.bad i 4 (i + 2)),
    (List.range 4).findSome? fun w => if t.walkOk (4 * i + w) then none else some (R.PL_SEQ_WALK.bad (4 * i + w) 1 w)]

/-- R203: the image view of core `c`, where a record has named it. -/
def State.imgCfgBad (t : State) (c : Nat) : Option Bad :=
  if t.named R.PL_IMG_CFG c then
    if t.fld F.PL_IMG_CFG_DESC_ADDR c % 2 = 1 then some (R.PL_IMG_CFG.bad c 1 c)
    else if t.inLot c (t.fld F.PL_IMG_CFG_PART c) (32 * t.fld F.PL_IMG_CFG_DESC_ADDR c) 64 then none
    else some (R.PL_IMG_CFG.bad c 4 c)
  else none

def State.bad01 (t : State) : Option Bad :=
  firstSome [
    R.PL_CONFIG.range fun _ => within 1 32 (t.fld F.PL_CONFIG_PLAN_SIZE) && within 1 65534 (t.fld F.PL_CONFIG_TETHER_WAIT),
    R.PL_ENTRY.range fun _ => t.plEntryOk,
    R.PL_PUB_MAP.range fun b => t.fld F.PL_PUB_MAP_KIND b != 3 && (t.fld F.PL_PUB_MAP_KIND b != 2 || decide (t.fld F.PL_PUB_MAP_INDEX b ≤ 3)),
    (List.range 6).findSome? t.seqRulesBad,
    t.claimsBad 0x01,
    (List.range 16).findSome? t.imgCfgBad]

/-! ## 0x02 Stow -/

/-- R119: share `i` = 8c + p against the plan region and the shares before it. -/
def State.shareBad (t : State) (i : Nat) : Option Bad :=
  let b := t.fld F.MT_SHARE_BASE i
  let n := t.fld F.MT_SHARE_COUNT i
  let c := i / 8
  if 384 < b + n ∨ 384 ≤ b then some (R.MT_SHARE.bad i 1 i)
  else if t.planLot < b + n ∧ n ≠ 0 then some (R.MT_SHARE.bad i 7 (384 * c + max b t.planLot))
  else (List.range (i % 8)).findSome? fun q =>
    let b' := t.fld F.MT_SHARE_BASE (8 * c + q)
    if meet b n b' (t.fld F.MT_SHARE_COUNT (8 * c + q)) then some (R.MT_SHARE.bad i 7 (384 * c + max b b')) else none

/-- The lots that MT_LOT_CFG names. -/
def State.lotCfgs (t : State) : List Nat :=
  let lo := R.MT_LOT_CFG.key 0
  (spKeep (fun k => decide (lo ≤ k) && decide (k < lo + 8 * 6144)) t.regs).map fun e => (e.1 - lo) / 8

/-- R139, R142. -/
def State.lotCfgBad (t : State) : Option Bad :=
  match t.lotCfgs.find? fun l => decide (t.planLot ≤ l % 384) || (t.shareOf (l / 384) (l % 384)).isNone with
  | some l => some (R.MT_LOT_CFG.bad l 7 l)
  | none => ((t.lotCfgs.filter fun l => t.flag F.MT_LOT_CFG_SAVE l)[64]?).map fun l => R.MT_LOT_CFG.bad l 1 l

def State.bad02 (t : State) : Option Bad := firstSome [(List.range 128).findSome? t.shareBad, t.lotCfgBad]

/-! ## 0x03 DDR4 -/

def State.bad03 (t : State) : Option Bad :=
  (List.range 8).findSome? fun ch =>
    if !(within 1 100 (t.fld F.DR_RETRAIN_DTEMP ch) && within 1600 65535 (t.fld F.DR_RETRAIN_WAIT ch)) then some (R.DR_RETRAIN.bad ch 1 ch)
    else if !(rising (t.fld F.DR_QCFG_T1 ch) (t.fld F.DR_QCFG_T2 ch) (t.fld F.DR_QCFG_T3 ch) 64) then some (R.DR_QCFG.bad ch 1 ch)
    else none

/-! ## 0x04 Scheduling -/

/-- R217: region `i` = 4p + k against its range and the regions before it. -/
def State.regionBad (t : State) (i : Nat) : Option Bad :=
  let b := t.fld F.SP_REGION_BASE i
  let n := t.fld F.SP_REGION_COUNT i
  if 2048 < b + n then some (R.SP_REGION.bad i 1 i)
  else (List.range i).findSome? fun j =>
    if meet b n (t.fld F.SP_REGION_BASE j) (t.fld F.SP_REGION_COUNT j) then some (R.SP_REGION.bad i 7 i) else none

/-- The frame length in ACLK cycles. -/
def State.frameLen (t : State) : Nat := t.fld F.SP_FRAME_CFG_LEN

def State.bad04 (t : State) : Option Bad :=
  firstSome [
    R.SP_FRAME_CFG.range fun _ => within 12500 125000000 t.frameLen,
    R.SP_SYNC_CFG.range fun _ => within 12500 (min t.frameLen 16777215) (t.fld F.SP_SYNC_CFG_MIN_GAP) && decide (1 ≤ t.fld F.SP_SYNC_CFG_LOSS),
    R.SP_GOLDEN_CFG.range fun _ => decide (t.fld F.SP_GOLDEN_CFG_OFFSET ≤ 16777214),
    R.SP_SCHED_CFG.range fun p => decide (t.fld F.SP_SCHED_CFG_LEN p ≤ 256),
    t.claimsBad 0x04,
    (List.range 32).findSome? t.regionBad,
    (List.range 1792).findSome? fun e => if t.flag F.SP_SCHED_ENT_GOLDEN (256 + e) then some (R.SP_SCHED_ENT.bad (256 + e) 1 (e % 256)) else none]

/-! ## 0x05 Sensor ports -/

/-- R240: ports that may take ROLE DRIVE. -/
def mayDrive (n : Nat) : Bool := within 8 21 n

/-- Table SN-10: IFCFG of a port that is on, by its kind (Table SN-1). -/
def ifcfgOk (n v : Nat) : Bool :=
  if n < 8 then [1, 2, 4].contains (v % 8) && v / 8 % 2 == 0 && within 80 2500 (v / 16 % 4096) && decide (v < 2 ^ 16)
  else if n < 12 then decide (v < 3)
  else if n < 18 then within 10 1000 (v % 1024) && decide (v / 1024 % 8192 ≤ 8000) && decide (v < 2 ^ 24)
  else if n < 22 then within 1 63 (v % 64) && decide (v < 2 ^ 8)
  else if n < 24 then within 1 25 v
  else if n < 26 then decide (v < 2 ^ 5)
  else v == 0

def State.portOk (t : State) (n : Nat) : Bool :=
  rising (t.fld F.SN_PORT_CFG_T1 n) (t.fld F.SN_PORT_CFG_T2 n) (t.fld F.SN_PORT_CFG_T3 n) 15 &&
  (!(t.flag F.SN_PORT_CFG_ROLE n) || mayDrive n) &&
  ((!(t.flag F.SN_PORT_CFG_EN n) && t.fld F.SN_PORT_CFG_IFCFG n == 0) || ifcfgOk n (t.fld F.SN_PORT_CFG_IFCFG n))

/-- Table SN-4: SEL and MASK use no other bit, by the port's kind. -/
def selBits (n sel mask : Nat) : Bool :=
  if n < 8 then decide (sel < 2 ^ 10) && mask == 0
  else if n < 12 then decide (sel < 2 ^ 29) && mask == 0
  else if n < 18 then decide (sel < 2 ^ 30)
  else if n < 24 then decide (sel < 2 ^ 6) && mask == 0
  else if n < 26 then decide (sel < 2 ^ 16) && mask == 0
  else decide (sel < 2 ^ 7) && mask == 0

/-- Table SN-4: the SEL of an enabled stream names a data type, and an edge. -/
def selOk (n sel : Nat) : Bool :=
  if n < 8 then [0x2A, 0x2B, 0x2C, 0x2D, 0x2E, 0x1E, 0x12].contains (sel / 16) else n < 26 || sel / 32 != 0

def State.streamOk (t : State) (i : Nat) : Bool :=
  let n := t.fld F.SN_STREAM_A_PORT i
  let bufs := t.fld F.SN_STREAM_A_BUFS i
  decide (n ≤ 26) && (if t.fld F.SN_STREAM_B_BUF_UNITS i = 0 then bufs == 0 else within 2 63 bufs) &&
    selBits n (t.sel i) (t.fld F.SN_STREAM_B_MASK i) && (!(t.flag F.SN_STREAM_A_EN i) || selOk n (t.sel i))

/-- R234: the ring of stream `i`, in 64 KiB units; none for an inline stream. -/
def State.streamRing (t : State) (i : Nat) : Nat × Nat :=
  (t.fld F.SN_STREAM_B_RING_BASE i, t.fld F.SN_STREAM_A_BUFS i * t.fld F.SN_STREAM_B_BUF_UNITS i)

/-- R232: stream `i` against the P1 regions and the streams before it. -/
def State.streamBad (t : State) (i : Nat) : Option Bad :=
  let (b, n) := t.streamRing i
  if !(t.streamOk i) then some (R.SN_STREAM_A.bad i 1 i)
  else if n ≠ 0 ∧ t.ddrWrites 1 (b * 65536) (n * 65536) = false then some (R.SN_STREAM_B.bad i 4 i)
  else if (List.range i).any fun j =>
      (t.flag F.SN_STREAM_A_EN i && t.flag F.SN_STREAM_A_EN j && t.fld F.SN_STREAM_A_PORT i == t.fld F.SN_STREAM_A_PORT j &&
        t.sel i == t.sel j && t.fld F.SN_STREAM_B_MASK i == t.fld F.SN_STREAM_B_MASK j) || meet b n (t.streamRing j).1 (t.streamRing j).2
    then some (R.SN_STREAM_A.bad i 7 i)
  else none

def State.gpioOk (t : State) (g : Nat) : Bool :=
  match t.fld F.SN_GPIO_MODE g with
  | 1 => t.fld F.SN_GPIO_EDGE g != 0
  | 2 => t.fld F.SN_GPIO_WIDTH g != 0
  | 3 => decide (t.fld F.SN_GPIO_OWNER g ≤ 5)
  | _ => true

/-- R237, Table SN-7: an instruction with a legal opcode and operands, unused fields zero. -/
def seqInstrOk (w : Nat) : Bool :=
  let v := w % 2 ^ 28
  match seqOp w with
  | 0 => v == 0
  | 1 => decide (v ≤ 34)
  | 2 => v == 0
  | 3 => within 1 192 (v % 256) && decide (v / 2 ^ 8 % 64 + v / 2 ^ 14 % 64 ≤ 64)
  | 4 => decide (v < 2 ^ 24)
  | 5 | 6 | 7 => decide (v < 2 ^ 6)
  | _ => false

/-- R239: pin `g` is given an output by a sequencer that does not own it. -/
def State.pinTwice (t : State) (g : Nat) : Bool :=
  let mode := t.fld F.SN_GPIO_MODE g
  decide (2 ≤ mode) && (List.range 6).any fun q => t.flag F.SN_SEQ_CFG_EN q && (mode == 2 || t.fld F.SN_GPIO_OWNER g != q) &&
    (List.range 64).any fun i => seqOp (t.seqInstr q i) == 7 && t.seqInstr q i % 32 == g

def State.bad05 (t : State) : Option Bad :=
  firstSome [
    R.SN_PORT_CFG.range t.portOk,
    (List.range 48).findSome? t.streamBad,
    R.SN_GPIO.range t.gpioOk,
    (List.range 384).findSome? fun k => if seqInstrOk (t.seqInstr (k / 64) (k % 64)) then none else some (R.SN_INSTR.bad (k / 2) 1 (k % 64)),
    ((List.range 32).find? t.pinTwice).map fun g => R.SN_GPIO.bad g 7 g,
    ((List.range 4).find? fun q => t.flag F.SN_SEQ_CFG_EN q && t.flag F.SN_PORT_CFG_ROLE (seqPort q)).map fun q => R.SN_SEQ_CFG.bad q 7 (seqPort q)]

/-! ## 0x06 Datum, where DT_CFG.EN is set -/

/-- R250, R257: a state group against its range, COMPONENTS and the groups before it. -/
def State.groupBad (t : State) (g : Nat) : Option Bad :=
  let b := t.fld F.DT_GROUP_A_BASE g
  let n := t.fld F.DT_GROUP_A_COUNT g
  let mask := (t.reg R.DT_GROUP_M g).toNat
  if 32 < n ∨ t.fld F.DT_GROUP_A_CONFLICT_MAX g = 0 then some (R.DT_GROUP_A.bad g 1 g)
  else if 8 < (bitsOf 64 mask).length then some (R.DT_GROUP_M.bad g 1 g)
  else if n ≠ 0 ∧ t.fld F.DT_CFG_COMPONENTS < b + n then some (R.DT_GROUP_A.bad g 1 g)
  else if (List.range g).any fun h => meet b n (t.fld F.DT_GROUP_A_BASE h) (t.fld F.DT_GROUP_A_COUNT h) then some (R.DT_GROUP_A.bad g 7 g)
  else if t.flag F.DT_GROUP_A_SAFETY g ∧ (bitsOf 64 mask).length ≠ 2 then some (R.DT_GROUP_A.bad g 7 g)
  else none

/-- R250, R252: entry `i` of the tap table. -/
def State.tapOk (t : State) (i : Nat) : Bool :=
  let e := t.tap i
  let n := B.TAP_SOURCE.get e
  let c := B.TAP_COMPONENT.get e
  decide (n < 48) && decide (B.TAP_FORMAT.get e ≤ 4) && decide (B.TAP_OFFSET.get e ≤ 191) && t.fld F.SN_STREAM_B_BUF_UNITS n == 0 &&
  (match t.groupOf c with
   | some g => hasBit (t.reg R.DT_GROUP_M g).toNat n
   | none => false) &&
  !((List.range i).any fun j => B.TAP_SOURCE.get (t.tap j) == n && B.TAP_COMPONENT.get (t.tap j) == c)

/-- R247: the bounds A and B of the two stages. The association groups are those in use, as in the check of the frame of Table FW-4 under R249. -/
def State.dtBoundA (t : State) : Nat :=
  256 + t.fld F.DT_CFG_COMPONENTS / 2 + ((List.range 4).map fun a => t.fld F.DT_ASSOC_A_TRACK_MAX a).sum
def State.dtBoundB (t : State) : Nat :=
  let feat := (bitsOf 16 (t.fld F.DT_CFG_FEAT_EN)).length
  let pairs := ((List.range 64).map fun g => let n := (bitsOf 64 (t.reg R.DT_GROUP_M g).toNat).length; n * (n - 1) / 2).sum
  256 + 12 * (t.fld F.DT_CFG_TAPS + 64 * feat) + 16 * pairs +
    (((List.range 4).filter fun a => decide (0 < t.fld F.DT_ASSOC_A_TRACK_MAX a)).map fun a => 128 + 20 * t.fld F.DT_ASSOC_A_CAP a + 24 * t.fld F.DT_ASSOC_A_TRACK_MAX a).sum

def State.dtTimesOk (t : State) : Bool :=
  decide (t.fld F.DT_TIME_LATCH + t.dtBoundA + 64 ≤ t.fld F.DT_TIME_COST) && decide (t.fld F.DT_TIME_COST + t.dtBoundB ≤ t.fld F.DT_TIME_PUBLISH) &&
    decide (5 * (t.fld F.DT_TIME_PUBLISH + 256) ≤ 4 * t.frameLen)

/-- Table DT-9: the areas in 4 KiB units, in the order of the register's fields. -/
def State.dtAreas (t : State) : List (Nat × Nat) :=
  [(t.fld F.DT_BASE_TAP_BASE, (t.fld F.DT_CFG_TAPS * 32 + 4095) / 4096), (t.fld F.DT_BASE_FEAT_BASE, 64), (t.fld F.DT_BASE_ASSOC_BASE, 544),
   (t.fld F.DT_BASE_OUT_BASE, 64)]

/-- R270: area `k` against its range, the private range and the areas before it. -/
def State.areaBad (t : State) (k : Nat) : Option Bad :=
  let (b, n) := t.dtAreas.getD k (0, 0)
  if !(within 6 3583 b) then some (R.DT_BASE.bad 0 1 k)
  else if 3584 < b + n ∨ ((t.dtAreas.take k).any fun a => meet b n a.1 a.2) = true then some (R.DT_BASE.bad 0 7 k)
  else none

/-- R51: an enabled feature source, or an association group with tracks, that no PUBLISH bit binds. -/
def State.unbound (t : State) : Option Bad :=
  let bound (kind i : Nat) : Bool := (List.range 16).any fun b => t.fld F.PL_PUB_MAP_KIND b == kind && t.fld F.PL_PUB_MAP_INDEX b == i
  match (bitsOf 16 (t.fld F.DT_CFG_FEAT_EN)).find? fun k => !(bound 1 k) with
  | some k => some (R.DT_CFG.bad 0 1 k)
  | none => ((List.range 4).find? fun a => t.fld F.DT_ASSOC_A_TRACK_MAX a != 0 && !(bound 2 a)).map fun a => R.DT_ASSOC_A.bad a 1 a

def State.bad06 (t : State) : Option Bad :=
  if t.flag F.DT_CFG_EN then
    firstSome [
      if decide (t.fld F.DT_CFG_COMPONENTS ≤ 1024) && decide (t.fld F.DT_CFG_TAPS ≤ 1024) then none else some (R.DT_CFG.bad 0 1 0xFFFF),
      R.DT_ASSOC_A.range fun a => decide (t.fld F.DT_ASSOC_A_TRACK_MAX a ≤ 256) && t.fld F.DT_ASSOC_A_CAP a != 0 &&
        t.fld F.DT_ASSOC_A_MISS_MAX a != 0 && t.fld F.DT_ASSOC_A_CONFIRM a != 0,
      R.DT_ASSOC_B.range fun a => within 1 0x7FFFFFFF (t.fld F.DT_ASSOC_B_GATE_COST a),
      R.DT_SRC_CFG.range fun n => t.fld F.DT_SRC_CFG_INSTANT n != 3 && (if n < 48 then t.fld F.DT_SRC_CFG_TRUST n == 0 else t.fld F.DT_SRC_CFG_OFS n == 0),
      (List.range 64).findSome? t.groupBad,
      (List.range 4).findSome? t.areaBad,
      ((List.range (t.fld F.DT_CFG_TAPS)).find? fun i => !(t.tapOk i)).map fun i => R.DT_BASE.bad 0 1 i,
      R.DT_TIME.range fun _ => t.dtTimesOk,
      t.unbound]
  else none

end Sys2Proof.Machine
end

