-- ==== Sys2Proof/Machine/CommitUnits.lean ====
section
/-! DEFINITION. The rules of the S6 commit (R433) for unit blocks 0x07 to 0x10. -/

namespace Sys2Proof.Machine

/-! ## 0x07 Traverse -/

/-- The registered problems. -/
def State.tvProblems (t : State) : List Nat := (List.range 64).filter fun j => t.flag F.TV_PROB_STAT_REGISTERED j

/-- R279: the workspace: for the largest MPC problem, or for the largest EST problem where there is no other. -/
def State.tvWorkLen (t : State) : Nat :=
  let hs := t.tvProblems.map t.tvHeadOf
  (if hs.any TvHead.mpc then hs.map TvHead.work else hs.map fun h => 64 * h.work).foldl max 0
def State.tvWork (t : State) : Nat × Nat := (t.fld F.TV_CFG_WORK_BASE * 4096, t.tvWorkLen)

/-- R279, R303: the area and the output buffers of problem `j`, as start and length in the scratch. -/
def State.tvSpans (t : State) (j : Nat) : List (Nat × Nat) :=
  [(t.fld F.TV_PROB_B_BASE j * 4096, (t.tvHeadOf j).area), (t.fld F.TV_PROB_C_OUT_BASE j * 4096, 2 * pad64 (t.tvHeadOf j).outLen)]

/-- R279, R303: problem `j` against the end of the scratch, the workspace, its own two spans and those of the problems before it. -/
def State.tvSpanBad (t : State) (j : Nat) : Option Bad :=
  let own := t.tvSpans j
  let clash (x y : Nat × Nat) : Bool := meet x.1 x.2 y.1 y.2
  let others := t.tvWork :: (t.tvProblems.filter fun i => decide (i < j)).flatMap t.tvSpans
  if own.any fun x => decide (scratchSize < x.1 + x.2) then some (R.TV_PROB_B.bad j 1 j)
  else if clash (own.getD 0 (0, 0)) (own.getD 1 (0, 0)) || (own.any fun x => others.any fun y => clash x y) then some (R.TV_PROB_B.bad j 7 j)
  else none

/-- R280: the windows of problem `j` in a frame, as starts and ends in TCLK cycles. -/
def State.tvWindows (t : State) (j : Nat) : List (Nat × Nat) :=
  (List.range (t.fld F.TV_PROB_A_RUNS j)).map fun k =>
    let a := t.fld F.TV_PROB_A_LATCH j + k * t.fld F.TV_PROB_B_PERIOD j
    (a, a + t.fld F.TV_PROB_B_BUDGET j)

def disjoint : List (Nat × Nat) → Bool
  | [] => true
  | x :: xs => xs.all (fun y => !(meet x.1 (x.2 - x.1) y.1 (y.2 - y.1))) && disjoint xs

/-- R280: problem `j` against its WCET, the bound of an MPC budget, the frame and the windows of the enabled problems before it. -/
def State.tvTimeBad (t : State) (j : Nat) : Option Bad :=
  let ws := t.tvWindows j
  let budget := t.fld F.TV_PROB_B_BUDGET j
  let before := ((List.range j).filter fun i => t.flag F.TV_PROB_A_EN i).flatMap t.tvWindows
  if !(t.flag F.TV_PROB_STAT_REGISTERED j) || t.fld F.TV_PROB_A_RUNS j == 0 then some (R.TV_PROB_A.bad j 1 j)
  else if budget < t.fld F.TV_PROB_STAT_WCET j ∨ ((t.tvHeadOf j).mpc = true ∧ 200000 < budget) then some (R.TV_PROB_B.bad j 1 j)
  else if ws.any fun w => decide (4 * t.frameLen < 5 * w.2) then some (R.TV_PROB_B.bad j 1 j)
  else if !(disjoint ws) || (ws.any fun w => before.any fun v => meet w.1 budget v.1 (v.2 - v.1)) then some (R.TV_PROB_B.bad j 7 j)
  else none

/-- R282: an entry whose source is checked at commit. -/
def State.tvEntryAtCommit (t : State) (e : Nat) : Bool :=
  let x := B.ASM_SRC_INDEX.get e
  match B.ASM_SRC.get e with
  | 3 => decide (4 * x + 4 ≤ t.dtRecordSize)
  | 4 => decide (4 * x + 4 ≤ 128 + 4 * t.fld F.ST_CFG_WP_MAX * t.stWords)
  | 5 => t.flag F.TV_PROB_STAT_REGISTERED (x / 2 ^ 26) && decide (4 * (x % 2 ^ 26) + 4 ≤ (t.tvHeadOf (x / 2 ^ 26)).outLen)
  | _ => true

/-- R294: a converted value that neither rounds to zero nor saturates. -/
def convertOk (v : Int) : Bool := v != 0 && !(satTo 32 v).2

/-- R294: the conversions of σ and 1/ρ for an MPC problem whose image `t` holds in its area. -/
def State.tvConverts (t : State) (j : Nat) : Bool :=
  let i := t.tvImg j
  (List.range i.h.n).all (fun c => convertOk (fxOf (t.fld F.TV_SOLVE_B_SIGMA j) (t.tvGroupF i c)).n) &&
  (List.range i.h.m).all (fun c => convertOk (recipGrid (t.fld F.TV_SOLVE_B_RHO j) (t.tvGroupF i (i.h.n + c))))

/-- R294: the conversions of PIVOT_MIN and DELTA into the format of each pivot: of the variables and constraints of an MPC problem, of the
states and measurements of an estimator (R295, R301). -/
def State.tvPivotsOk (t : State) (j : Nat) : Bool :=
  (List.range (t.tvImg j).h.k).all fun c => convertOk (t.tvRule j true c).least && convertOk (t.tvRule j true c).delta

/-- R282, R294, R295, R305: the values of registered problem `j`, its image read where S6 places it. -/
def State.tvValueBad (t : State) (j : Nat) : Option Bad :=
  let u := t.tvPlace
  let i := u.tvImg j
  if !((List.range i.h.entries).all fun e => u.tvEntryAtCommit (u.tvEntry i e)) then some (R.TV_PROB_A.bad j 1 j)
  else if i.h.mpc && !(u.tvConverts j) then some (R.TV_SOLVE_B.bad j 1 j)
  else if !(u.tvPivotsOk j) then some (R.TV_SOLVE_C.bad j 1 j)
  else none

def State.bad07 (t : State) : Option Bad :=
  firstSome [
    R.TV_PROB_A.range fun j => !(t.named R.TV_PROB_A j) || within 1 15 (t.fld F.TV_PROB_A_RUNS j),
    R.TV_SOLVE_A.range fun j => f32pos (t.fld F.TV_SOLVE_A_EPS_PRIM j) && f32pos (t.fld F.TV_SOLVE_A_EPS_DUAL j),
    R.TV_SOLVE_B.range fun j => f32pos (t.fld F.TV_SOLVE_B_RHO j) && f32pos (t.fld F.TV_SOLVE_B_SIGMA j),
    R.TV_SOLVE_C.range fun j => f32pos (t.fld F.TV_SOLVE_C_PIVOT_MIN j) && f32pos (t.fld F.TV_SOLVE_C_DELTA j),
    if scratchSize < t.tvWork.1 + t.tvWork.2 then some (R.TV_CFG.bad 0 1 0xFFFF) else none,
    t.tvProblems.findSome? t.tvSpanBad,
    ((List.range 64).filter fun j => t.flag F.TV_PROB_A_EN j).findSome? t.tvTimeBad,
    t.tvProblems.findSome? t.tvValueBad,
    t.claimsBad 0x07]

/-! ## 0x08 Guyline -/

/-- R322: bytes of the transmitted payload of channel `k`. -/
def State.glPayloadLen (t : State) (k : Nat) : Nat :=
  8 * t.fld F.GL_CH_C_HDR k + driveWidth (t.fld F.GL_CH_C_DFMT k) * t.fld F.GL_CH_A_NY k + 4 * t.fld F.GL_CH_C_CRC k

def State.glPayloadFits (t : State) (k : Nat) : Bool :=
  let n := t.fld F.GL_CH_C_PORT k
  if n < 12 then decide (t.glPayloadLen k ≤ 1500)
  else if n < 18 then decide (t.glPayloadLen k ≤ if t.flag F.GL_CH_C_FD k then 64 else 8)
  else true

/-- Table GL-6: the ranges of NS, NU and NY. -/
def State.glDimsOk (t : State) (k : Nat) : Bool :=
  within 1 32 (t.fld F.GL_CH_A_NS k) && within 1 32 (t.fld F.GL_CH_A_NU k) && within 1 8 (t.fld F.GL_CH_A_NY k)

/-- R306, R316, R317, R322: an enabled channel. -/
def State.glChanBad (t : State) (k : Nat) : Option Bad :=
  let bank := (t.glChan k).bank (t.fld F.GL_CH_STAT_BANK k)
  if !(t.glDimsOk k) then some (R.GL_CH_A.bad k 1 k)
  else if 2 * t.frameLen / 5 ≤ t.fld F.GL_CH_A_PHASE0 k + (t.fld F.GL_CH_B_SAMPLES k - 1) * t.fld F.GL_CH_B_PERIOD k + t.fld F.GL_CH_B_OUT_PHASE k
    then some (R.GL_CH_B.bad k 1 k)
  else if !(mayDrive (t.fld F.GL_CH_C_PORT k)) || t.fld F.GL_CH_C_DFMT k == 3 then some (R.GL_CH_C.bad k 1 k)
  else if !(t.flag F.SN_PORT_CFG_ROLE (t.fld F.GL_CH_C_PORT k)) then some (R.GL_CH_C.bad k 7 k)
  else if !(t.glPayloadFits k) then some (R.GL_CH_C.bad k 1 k)
  else if !(t.flag F.GL_CH_STAT_LOADED k) || !(t.glDims k (glHead bank)) ||
      !((List.range (glHead bank).nu).all fun j => t.glSourceOk (glInput bank j)) then some (R.GL_CH_A.bad k 1 k)
  else none

def State.bad08 (t : State) : Option Bad :=
  firstSome [
    R.GL_CH_A.range fun k => decide (t.fld F.GL_CH_A_PHASE0 k ≤ 49999999) && (!(t.named R.GL_CH_A k) || t.glDimsOk k),
    R.GL_CH_B.range fun k => decide (15625 ≤ t.fld F.GL_CH_B_PERIOD k) && within 2000 (t.fld F.GL_CH_B_PERIOD k - 1) (t.fld F.GL_CH_B_OUT_PHASE k) &&
      within 1 3200 (t.fld F.GL_CH_B_SAMPLES k),
    R.GL_CH_C.range fun k => !(t.named R.GL_CH_C k) || (mayDrive (t.fld F.GL_CH_C_PORT k) && t.fld F.GL_CH_C_DFMT k != 3),
    ((List.range 64).filter fun k => t.flag F.GL_CH_A_EN k).findSome? t.glChanBad]

/-! ## 0x09 Stadia -/

/-- R334: the largest proposal set that WP_MAX and the model's DOF allow. -/
def State.stSetMax (t : State) : Nat := 64 + 64 * (64 + pad64 (4 * t.fld F.ST_CFG_WP_MAX * t.stWords))

def State.bad09 (t : State) : Option Bad :=
  let on (r : RegArr) : Bool := t.flag F.ST_CFG_EN || t.named r 0
  let size := t.fld F.ST_PROP_SIZE
  firstSome [
    R.ST_CFG.range fun _ => !(on R.ST_CFG) || (within 1 128 (t.fld F.ST_CFG_WP_MAX) && within 1 128 (t.fld F.ST_CFG_HOLD_WP)),
    R.ST_GEOM.range fun _ => !(on R.ST_GEOM) ||
      (f32pos (t.fld F.ST_GEOM_VOX) && fFinite (t.fld F.ST_GEOM_MARGIN) && !(fLt (t.fld F.ST_GEOM_MARGIN) 0)),
    R.ST_STEP.range fun _ => !(on R.ST_STEP) || f32pos (t.fld F.ST_STEP_STEP_MAX),
    R.ST_PROP.range fun _ => !(on R.ST_PROP) || within 1 40 size,
    if t.flag F.ST_CFG_EN then
      firstSome [
        if t.stadia.model.isNone then some (R.ST_CFG.bad 0 1 0xFFFF) else none,
        -- R17, Table FW-2: the policy is best-effort work. R17 names no status; LEN_RANGE is R350's for a value outside its range (entry 24).
        if within 2 7 (t.fld F.ST_PROP_PART) then none else some (R.ST_PROP.bad 0 1 0xFFFF),
        if t.ddrReads 1 (t.fld F.ST_PROP_BASE * 65536) (2 * size * 65536) && t.ddrWrites (t.fld F.ST_PROP_PART) (t.fld F.ST_PROP_BASE * 65536) (2 * size * 65536)
          then none else some (R.ST_PROP.bad 0 4 0xFFFF),
        if size * 65536 < t.stSetMax then some (R.ST_PROP.bad 0 1 0xFFFF) else none,
        if t.fld F.ST_TIME_A_LATCH < t.fld F.ST_TIME_A_CHECK_END ∧ t.fld F.ST_TIME_A_CHECK_END ≤ t.fld F.ST_TIME_B_GATE ∧
            5 * (t.fld F.ST_TIME_B_GATE + t.stTgate) ≤ 4 * t.frameLen then none else some (R.ST_TIME_A.bad 0 1 0xFFFF),
        t.claimsBad 0x09]
    else none]

/-! ## 0x0A Plumb, 0x0D power, 0x0F Field Book -/

/-- Tables PB-8, PB-9: the ranges of a value of PB_CFG, and of PB_DEGRADE. -/
def pbCfgOk (v : BitVec 64) : Bool := within 1 100 (F.PB_CFG_WD_TIMEOUT.get v) && decide (F.PB_CFG_STOP_DELAY.get v ≤ 1000)
def pbDegradeOk (v : BitVec 64) : Bool :=
  F.PB_DEGRADE_GOLDEN_DEFER.get v != 0 && decide (2 ≤ F.PB_DEGRADE_GOLDEN_MISMATCH.get v) && decide (2 ≤ F.PB_DEGRADE_FRAME_PLAN.get v)

def State.bad0A (t : State) : Option Bad :=
  firstSome [
    R.PB_CFG.range fun _ => pbCfgOk (t.reg R.PB_CFG),
    R.PB_DEGRADE.range fun _ => pbDegradeOk (t.reg R.PB_DEGRADE),
    t.claimsBad 0x0A,
    if t.configured 0 && t.fld F.PB_INJECT_FAIL != 0 then some (R.PB_INJECT.bad 0 0x11 0xFFFF) else none]

def State.bad0D (t : State) : Option Bad :=
  firstSome [
    R.PW_CFG.range fun _ => within 85 105 (t.fld F.PW_CFG_T_THROT) && within 300 350 (t.fld F.PW_CFG_VIN_SAG) && within 5 1000 (t.fld F.PW_CFG_SAG_TIME),
    R.PW_CAP.range fun _ => decide (t.fld F.PW_CAP_MARGIN ≤ 200) && within 1 1000 (t.fld F.PW_CAP_CAP_WIN) && decide (t.fld F.PW_CAP_PROT_W ≤ 2250) &&
      decide (450 + t.fld F.PW_CAP_PROT_W ≤ t.fld F.PW_CAP_CAP)]

def State.bad0F (t : State) : Option Bad :=
  let on := t.flag F.FB_CFG_EN
  firstSome [
    R.FB_CFG.range fun _ => rising (t.fld F.FB_CFG_T1) (t.fld F.FB_CFG_T2) (t.fld F.FB_CFG_T3) 15 && (!on || within 1 2048 (t.fld F.FB_CFG_RING_LEN)),
    if on && !(t.inOneRegion 0 t.bookBase (32 * t.bookUnits)) then some (R.FB_CFG.bad 0 4 0xFFFF) else none,
    R.FB_FAULT_CFG.range fun _ => within 1 6000 (t.fld F.FB_FAULT_CFG_WINDOW) && t.fld F.FB_FAULT_CFG_THRESHOLD != 0]

/-! ## 0x10 Tether links -/

/-- R496, R505, R506. -/
def State.bad10 (t : State) : Option Bad :=
  let ports := (List.range 3).filter fun p => t.tlEnabled p
  let fix := t.fld F.TL_CFG_FIX_NS
  firstSome [
    R.TL_CFG.range fun _ => within 100 2000 fix && t.fld F.TL_CFG_LINK_TIMEOUT != 0,
    (ports.find? fun p => !(t.tlUp p) || t.fld F.TL_PORT_STAT_PEER_ID p != t.fld F.TL_CFG_PEER / 4 ^ p % 4).map fun p => R.TL_CFG.bad 0 7 p,
    if t.flag F.TL_CFG_FIXED then
      (ports.find? fun p => decide (fix < t.fld F.TL_PORT_STAT_MEAS_NS p + 20)).map fun p => R.TL_CFG.bad 0 1 p
    else none,
    if t.fld F.TL_CFG_SYNC_OUT ≠ 0 ∧ t.fld F.SP_FRAME_CFG_SRC ≠ 0 then
      ((List.range 3).find? fun p => hasBit (t.fld F.TL_CFG_SYNC_OUT) p).map fun p => R.TL_CFG.bad 0 7 p
    else none]

/-- The rules of a unit block's chapter. -/
def State.unitBad (t : State) (u : Nat) : Option Bad :=
  match u with
  | 0x01 => t.bad01
  | 0x02 => t.bad02
  | 0x03 => t.bad03
  | 0x04 => t.bad04
  | 0x05 => t.bad05
  | 0x06 => t.bad06
  | 0x07 => t.bad07
  | 0x08 => t.bad08
  | 0x09 => t.bad09
  | 0x0A => t.bad0A
  | 0x0D => t.bad0D
  | 0x0F => t.bad0F
  | 0x10 => t.bad10
  | _ => none

end Sys2Proof.Machine
end

