-- ==== Sys2Proof/Machine/Commit.lean ====
section
/-! DEFINITION. The configuration block of a plan image (R472) and the S6 commit (R433): which registers a record may name, the
configuration as it will stand, its judgement, and what a successful commit does. -/

namespace Sys2Proof.Machine

/-! ## What S6 may write -/

/-- R472: the registers whose RW fields their chapters open to Maluo during S6. -/
def commitRegs0 : List RegArr :=
  [R.PL_CONFIG, R.PL_ENTRY, R.PL_COND_OWN, R.PL_PUB_MAP, R.PL_SEQ_CFG, R.PL_SEQ_LOG, R.PL_SEQ_WALK, R.MT_CTRL, R.MT_SHARE, R.MT_OPB_TAG,
   R.MT_LOT_CFG, R.DR_SCRUB, R.DR_RETRAIN, R.DR_QCFG, R.SP_FRAME_CFG, R.SP_SYNC_CFG, R.SP_GOLDEN_CFG, R.SP_REG_CFG, R.SP_SCHED_CFG,
   R.SP_SCHED_ENT, R.SP_REGION]
def commitRegs1 : List RegArr :=
  [R.SN_PORT_CFG, R.SN_STREAM_A, R.SN_STREAM_B, R.SN_GPIO, R.SN_SEQ_CFG, R.SN_INSTR, R.SN_TX, R.DT_CFG, R.DT_BASE, R.DT_TIME, R.DT_NUM,
   R.DT_ASSOC_A, R.DT_ASSOC_B, R.DT_ASSOC_C, R.DT_SRC_CFG, R.DT_GROUP_A, R.DT_GROUP_B, R.DT_GROUP_M, R.TV_CFG, R.TV_PROB_A, R.TV_PROB_B,
   R.TV_PROB_C, R.TV_SOLVE_A, R.TV_SOLVE_B, R.TV_SOLVE_C]
def commitRegs2 : List RegArr :=
  [R.GL_CFG, R.GL_ETH_SA, R.GL_CH_A, R.GL_CH_B, R.GL_CH_C, R.GL_CH_D, R.ST_CFG, R.ST_TIME_A, R.ST_TIME_B, R.ST_GEOM, R.ST_STEP, R.ST_PROP,
   R.PB_CFG, R.PB_DEGRADE, R.PW_CFG, R.PW_CAP, R.FB_CFG, R.FB_DIGEST, R.FB_FAULT_CFG, R.TL_CFG]

/-- R472: the bits of a register that a record may set: RW fields that S6 opens, and the fields that are set at commit. -/
def commitMask (r : RegArr) : BitVec 64 :=
  if r = R.PL_VEC_HIST then 0x1C00
  else if r = R.PL_IMG_CFG then r.rw ||| 0x700000
  else if (commitRegs0 ++ commitRegs1 ++ commitRegs2).contains r then r.rw
  else 0

/-- R374, R472: PB_CFG and PB_DEGRADE keep what a host wrote unless a record names them. -/
def keepsHost (r : RegArr) : Bool := r == R.PB_CFG || r == R.PB_DEGRADE

/-! ## Records -/

/-- The pieces of `k` bytes of a list; `n` bounds their number. -/
def chunks (k : Nat) : Nat → List Byte → List (List Byte)
  | 0, _ => []
  | n + 1, bs => if bs.isEmpty then [] else bs.take k :: chunks k n (bs.drop k)

/-- R466, R472: the records that follow a 64-byte header, each as a number of 16 bytes. -/
def records (n : Nat) (block : List Byte) : List Nat := (chunks 16 n (block.drop 64)).map leNat

/-- R472: the records of a configuration block. -/
def blockRecords (block : List Byte) : List Nat := records (leNat (block.take 4)) block

def recUnit (r : Nat) : Nat := r % 2 ^ 8
def recOff (r : Nat) : Nat := r / 2 ^ 8 % 2 ^ 24
def recValue (r : Nat) : BitVec 64 := BitVec.ofNat 64 (r / 2 ^ 64)

/-- R472: a configuration block of `n` bytes whose header, padding and length are as they must be. -/
def blockOk (block : List Byte) : Bool :=
  let count := leNat (block.take 4)
  block.length == pad64 (64 + 16 * count) && leNat (block.take 64) / 2 ^ 32 == 0 && (block.drop (64 + 16 * count)).all fun b => b == 0

/-- R472: a record names what it may, and its reserved field is zero. -/
def recOk (r : Nat) : Bool :=
  r / 2 ^ 32 % 2 ^ 32 == 0 &&
    (if recUnit r = 0x86 then recOff r % 8 == 0
     else match regAt (recUnit r) (recOff r) with
       | some (a, _) => commitMask a != 0
       | none => false)

/-- A record's value takes its place in the configuration as it will stand. -/
def State.applyRec (t : State) (r : Nat) : State :=
  if recOk r then
    if recUnit r = 0x86 then t.wrMarked (datumBase + recOff r) (leBytes 8 (recValue r).toNat) false
    else match regAt (recUnit r) (recOff r) with
      | some (a, i) => t.setReg a i ((t.reg a i &&& ~~~(commitMask a)) ||| (recValue r &&& commitMask a))
      | none => t
  else t

/-- R472: a register that no record names takes its reset value. -/
def State.uncommit (s : State) : State :=
  { s with regs := s.regs.filterMap fun e =>
      match regAt (e.1 / 0x1000000) (e.1 % 0x1000000) with
      | some (a, _) =>
        let v := if keepsHost a then e.2 else e.2 &&& ~~~(commitMask a)
        if v = 0 then none else some (e.1, v)
      | none => some e }

/-- The regions that SP_REGION names. -/
def State.namedRegions (t : State) : List (Nat × BitVec 64) := spTabulate 0 32 fun i => t.reg R.SP_REGION i

/-- R433: the configuration as it will stand under the records, its regions in force. -/
def State.proposal (s : State) (recs : List Nat) : State :=
  let t := recs.foldl (fun (t : State) r => t.applyRec r) s.uncommit
  { t with sched := { t.sched with regions := t.namedRegions } }

/-! ## Judgement -/

/-- R211: a record writes the value of a register that a schedule table binds. -/
def State.condRec (t : State) (r : Nat) : Option Nat :=
  match regAt (recUnit r) (recOff r) with
  | some (a, n) =>
    if a = R.PL_COND ∧ ((List.range 8).any fun p => t.fld F.SP_SCHED_CFG_LEN p != 0 && t.fld F.SP_SCHED_CFG_COND p == n) = true then some n else none
  | none => none

/-- R211, R472: the first record of unit `u` that names what it may not. -/
def State.recBad (t : State) (recs : List Nat) (u : Nat) : Option Bad :=
  recs.zipIdx.findSome? fun x =>
    if recUnit x.1 = u ∧ recOk x.1 = false then
      match t.condRec x.1 with
      | some n => some ⟨7, u, recOff x.1, n⟩
      | none => some ⟨1, u, recOff x.1, x.2 % 65536⟩
    else none

/-- R433: the first failing check of a configuration, in ascending unit block, and within a block its records first. -/
def State.commitBad (t : State) (recs : List Nat) : Option Bad :=
  ((List.range 256).filter fun u => within 1 16 u || recs.any fun r => recUnit r == u).findSome? fun u =>
    match t.recBad recs u with
    | some b => some b
    | none => t.unitBad u

/-! ## The commit -/

/-- Table MT-4, R142: the lot table after a commit. -/
def State.commitLots (t : State) : List (Nat × Lot) :=
  spTabulate Lot.reset 6144 fun l =>
    if t.isPool l then
      match t.shareOf (l / 384) (l % 384) with
      | some p => { Lot.reset with
          part := p
          pin := decide (p < 2)
          save := t.flag F.MT_LOT_CFG_SAVE l
          swap := t.flag F.MT_LOT_CFG_SWAP l }
      | none => Lot.reset
    else Lot.reset

/-- R51: a condition register that has no owner holds 0. -/
def State.clearUnowned (t : State) : State :=
  (List.range 64).foldl (fun (t : State) n => if t.flag F.PL_COND_OWN_VALID n then t else t.setFld F.PL_COND_VALUE n 0) t

/-- R237: the micro-sequencers that are enabled start at START. -/
def State.startSequencers (t : State) : State :=
  (List.range 6).foldl (fun (t : State) q =>
    if t.flag F.SN_SEQ_CFG_EN q then
      t.setSequencer q { Sequencer.reset with
        run := true
        pc := t.fld F.SN_SEQ_CFG_START q
        freeAt := t.portTime (seqPort q)
        timerAt := t.portTime (seqPort q) }
    else t) t

/-- R239, Table SN-13: a frame-trigger pin rests at the level opposite to its pulse. -/
def State.restPins (t : State) : State :=
  (List.range 32).foldl (fun (t : State) g => if t.fld F.SN_GPIO_MODE g = 2 then t.setPin g (!(t.flag F.SN_GPIO_POL g)) else t) t

/-- R50: PL_CONFIG and PL_ENTRY are written only while the streams are stopped. -/
def State.keepEntries (s t : State) : State :=
  if s.fld F.PL_STATUS_FRAME_STATE = 1 ∨ s.fld F.PL_STATUS_FILL_STATE % 2 = 1 then
    (t.setReg R.PL_CONFIG 0 (s.reg R.PL_CONFIG 0)).setReg R.PL_ENTRY 0 (s.reg R.PL_ENTRY 0)
  else t

/-- R450, R452: the protected floor, the learned table and the trim at a commit. -/
def State.commitPower (t : State) : State :=
  ({ t with power := { t.power with learnedProt := [], learnedFill := [], ticks := [], trim := 0 } }).setFld F.PW_CAP_FLOOR 0
    (450 + t.fld F.PW_CAP_PROT_W)

/-- Table FB-2 COMMIT, R482: recording starts with the record of the commit. -/
def State.startBook (t : State) : State :=
  if t.flag F.FB_CFG_EN then
    (t.setFld F.FB_STATUS_RECORDING 0 1).record 0x01 0 (leBytes 32 t.bring.commitM ++ leBytes 32 (digest t.bring.config)) 7
  else t

/-- R433: a successful commit. The regions in force change at the frame start that follows (R217). -/
def State.commitApply (s t : State) : State :=
  let t : State := { t with
    sched := { t.sched with
      regions := s.sched.regions
      lastStart := some s.clk.aclk
      freeRun := false }
    stow := { t.stow with lots := t.commitLots }
    bring := { t.bring with
      config := t.bring.planConfig
      commitM := t.ident.measure } }
  let t := (t.setFlag F.SP_FRAME_CFG_EN).setFlag F.PB_CFG_LOCKED
  let t := if t.flag F.DT_CFG_EN then t.setFlag F.DT_STATUS_RUNNING else t
  let t := if t.flag F.ST_CFG_EN then t.setFlag F.ST_STATUS_RUNNING else t
  let t : State := if t.configured 0 && t.plumb.rules.isNone then { t with plumb := { t.plumb with rules := some defaultRules } } else t
  (s.keepEntries t).tvPlace.clearUnowned.startSequencers.restPins.commitPower.startBook

/-- R433: the S6 commit of the loaded plan's configuration block: the first failing check, or the state it leaves. -/
def State.commit (s : State) : Except Bad State :=
  if s.ridge.planLoaded then
    let recs := blockRecords s.bring.planConfig
    let t := s.proposal recs
    match t.commitBad recs with
    | some b => .error b
    | none => .ok (s.commitApply t)
  else .error ⟨1, 0x01, 0x010, 0xFFFF⟩

/-- Table BU-9: BC_COMMIT_REPORT. -/
def State.commitReport (s : State) (b : Bad) : State :=
  s.setReg R.BC_COMMIT_REPORT 0 (BitVec.ofNat 64 (b.status + b.unit * 2 ^ 16 + b.offset * 2 ^ 24 + b.index % 65536 * 2 ^ 48))

end Sys2Proof.Machine
end

