-- ==== Sys2Proof/Machine/Bring.lean ====
section
/-! DEFINITION. Bring-up (19): requests, the actions of the steps S1 to S7, and the end of a step. A step acts in its request; its end, which
comes some time later, writes the result. What only the hardware can find, a failed training or a failed test, is named by the end. -/

namespace Sys2Proof.Machine

/-! ## Requests and ends -/

/-- R421, R454, R487, R532: a request of a step is accepted. -/
def State.stepOk (s : State) (step : Nat) : Bool :=
  decide (1 ≤ step) && decide (step ≤ 7) && step == s.done + 1 && s.active == 0 && s.power.supply == .on && !s.bring.ended && !s.pins.strapJtag &&
    !(step == 7 && s.book.replayed)

/-- R421: a refused request sets RESULT and echoes SEQ, and changes nothing else. -/
def State.stepRefuse (s : State) (seq : Nat) : State :=
  ((s.setFld F.BC_STEP_STATUS_RESULT 0 1).setFld F.BC_STEP_STATUS_SEQ 0 seq).attn F.TH_ATTN_STEP

/-- R421: an accepted request starts its step. -/
def State.stepAccept (s : State) (step seq : Nat) : State :=
  let s : State := { s with bring := { s.bring with
    stepAt := s.clk.fclk
    fail := none } }
  ((s.setFld F.BC_STEP_STATUS_ACTIVE 0 step).setFld F.BC_STEP_STATUS_SEQ 0 seq).attn F.TH_ATTN_STEP

/-- FCLK cycles in a millisecond (R11). -/
def fclkMs : Nat := 1000000

/-- R422: the active step ends, with a failure or without. -/
def State.stepDone (s : State) (fail : Option (Nat × Nat)) : State :=
  let step := s.active
  let s := (s.setFld F.BC_STEP_STATUS_ACTIVE 0 0).setFld F.BC_STEP_STATUS_TIME 0 (min (2 ^ 24 - 1) ((s.clk.fclk - s.bring.stepAt) / fclkMs))
  let s := match fail with
    | none => (s.setFld F.BC_STEP_STATUS_DONE 0 step).setFld F.BC_STEP_STATUS_RESULT 0 0
    | some (code, unit) => ((s.setFld F.BC_STEP_STATUS_RESULT 0 2).setFld F.BC_STEP_STATUS_FAIL_CODE 0 code).setFld F.BC_STEP_STATUS_FAIL_UNIT 0 unit
  s.attn F.TH_ATTN_STEP

/-- A step has met a failure, which its end reports. -/
def State.stepFails (s : State) (code unit : Nat) : State := { s with bring := { s.bring with fail := some (code, unit) } }

/-! ## S1 -/

/-- R424: the channels on which write training is complete are recorded, and S1 completes. -/
def State.doS1 (s : State) : State :=
  (s.setFld F.BC_STEP_STATUS_TRAINED 0 (bit (s.hostLane 0).trained + 2 * bit (s.hostLane 1).trained)).stepDone none

/-! ## S2: boot (R425, R465) -/

/-- Table ID-6: the image of a boot slot, and its SEQ, where the slot is usable. -/
def State.bootSlot (s : State) (k : Nat) : Option (Nat × List Byte) :=
  let h := leNat (s.flashBytes (k * 0x0400_0000) 64)
  let len := h / 2 ^ 64 % 2 ^ 32
  if 0x0400_0000 - 64 < len then none
  else
    let bs := s.flashBytes (k * 0x0400_0000 + 64) len
    if crc32c bs = h / 2 ^ 96 % 2 ^ 32 then some (h % 2 ^ 64, bs) else none

/-- Table ID-6: the running slot: the first that passes, by descending SEQ, slot 0 first on equal SEQ. -/
def State.bootPick (s : State) : Option (Nat × Nat × List Byte) :=
  let xs := [0, 1].filterMap fun k => (s.bootSlot k).map fun x => (k, x.1, x.2)
  let xs := match xs with
    | [a, b] => if a.2.1 < b.2.1 then [b, a] else [a, b]
    | _ => xs
  xs.find? fun x => bootOk x.2.2

/-- R466: the records of a configuration image. -/
def confRecords (conf : List Byte) : List Nat := records (leNat (conf.take 2)) conf

/-- R466: the bits of a register that a record of the configuration image sets, none for a register that it may not name. -/
def confMask (r : RegArr) : BitVec 64 :=
  if r = R.BC_RIGHTS then 0x7FFF
  else if r = R.PW_CAP then 0xFFF
  else if r = R.SP_REGION ∨ r = R.SN_PORT_CFG ∨ r = R.TL_CFG then r.rw
  else 0

/-- R466: a record's value lies in its range. -/
def State.confValueOk (t : State) (r : RegArr) (i : Nat) : Bool :=
  if r = R.BC_RIGHTS then decide (t.fld F.BC_RIGHTS_MAX_CONTEXTS i ≤ 4096)
  else if r = R.PW_CAP then within 600 2700 (t.fld F.PW_CAP_CAP) && decide (t.fld F.PW_CAP_FLOOR ≤ t.fld F.PW_CAP_CAP)
  else if r = R.SP_REGION then decide (t.fld F.SP_REGION_BASE i + t.fld F.SP_REGION_COUNT i ≤ 2048)
  else if r = R.SN_PORT_CFG then t.portOk i
  else within 100 2000 (t.fld F.TL_CFG_FIX_NS) && t.fld F.TL_CFG_LINK_TIMEOUT != 0

/-- R466: a record is applied to `t`, or names the unit block that fails. -/
def State.confRecord (t : State) (x : Nat) : Except Nat State :=
  match regAt (recUnit x) (recOff x) with
  | none => .error (recUnit x)
  | some (r, i) =>
    let m := confMask r
    let u := t.setReg r i ((t.reg r i &&& ~~~m) ||| (recValue x &&& m))
    if m = 0 ∨ u.confValueOk r i = false then .error (recUnit x) else .ok u

/-- R466: the records in order; nothing is applied where one fails. -/
def State.confApply : List Nat → State → Except Nat State
  | [], t => .ok t
  | x :: xs, t => match t.confRecord x with
    | .error u => .error u
    | .ok u => State.confApply xs u

/-- Table BU-6: the physical engines that serve the logical engines of core `c`. -/
def mapPhys (m : List Byte) (c : Nat) : List Nat := (List.range 8).map fun e => leNat ((m.drop (64 + 4 * c)).take 4) / 16 ^ e % 16

/-- Table BU-6: the defective columns of physical engine `p` of core `c`, 0xFF for none. -/
def mapCols (m : List Byte) (c p : Nat) : List Nat := ((m.drop (128 + 4 * (9 * c + p))).take 4).map fun b => b.toNat

/-- R430: columns in ascending order, with 0xFF after them. -/
def colsOk : List Nat → Bool
  | [] => true
  | x :: xs => if x = 0xFF then xs.all (fun y => y == 0xFF) else decide (x ≤ 131) && xs.all (fun y => decide (x < y)) && colsOk xs

/-- R430: the first core whose entries of the repair map are bad. -/
def mapBad (m : List Byte) : Option Nat :=
  (List.range 16).find? fun c =>
    let ps := mapPhys m c
    !(ps.all (fun p => decide (p ≤ 8))) || !(decide ps.Nodup) || !((List.range 9).all fun p => colsOk (mapCols m c p))

/-- R430: the spare columns, 128 to 131, among the 128 lowest columns of an engine that are not defective. -/
def spareCols (cols : List Nat) : Nat :=
  (((List.range 132).filter fun x => !(cols.contains x)).take 128).countP fun x => decide (128 ≤ x)

/-- R430: PHYS and SPARE_COLS of logical engine `n`. -/
def State.setPhys (s : State) (m : List Byte) (n p : Nat) : State :=
  (s.setFld F.PL_ENG_STATUS_PHYS n p).setFld F.PL_ENG_STATUS_SPARE_COLS n (spareCols (mapCols m (n / 8) p))

/-- R430, R431: the signed map, and then the overlay, which only replaces an engine with its core's unused spare. -/
def State.repair (s : State) (m : List Byte) : State :=
  let s := (List.range 128).foldl (fun (s : State) n => s.setPhys m n ((mapPhys m (n / 8)).getD (n % 8) 0)) s
  s.bring.overlay.foldl (fun (s : State) x => if s.spareFree (x.1 / 8) then s.setPhys m x.1 x.2 else s) s

/-- R425: every on-die store holds zeros with valid check bits. DDR4 keeps what it holds. -/
def State.clearStores (s : State) : State :=
  { s with
    mem := spKeep (fun a => decide (a < ddrSize)) s.mem
    poison := spKeep (fun k => decide (32 * k < ddrSize)) s.poison
    wordMarks := []
    datum := { s.datum with badComps := [], badTracks := [] }
    guyline := { s.guyline with chans := s.guyline.chans.map fun (x : Nat × GlChan) =>
      (x.1, { x.2 with badX := [], bad0 := false, bad1 := false }) } }

/-- R431: the bytes of the overlay record, whose layout the spec leaves open. -/
def overlayDigest (xs : List (Nat × Nat)) : Nat := Config.freeFn 72 (xs.flatMap fun x => [x.1, x.2]) % 2 ^ 256

/-- Table ID-6, step 3: the device key and its ID. -/
def State.deriveKey (s : State) : State :=
  match s.ident.seed with
  | none => s
  | some k =>
    let s : State := { s with ident := { s.ident with pub := devicePub k } }
    let s := s.setFld F.ID_STATUS_IDENTITY_OK 0 1
    (List.range 4).foldl (fun (s : State) i => s.setReg R.ID_DEVICE i (BitVec.ofNat 64 (s.deviceId / 2 ^ (64 * i)))) s

/-- R425, R465, R470: S2 with its verified images: the repair map, the stores, the settings of the configuration image, and the events
measured. -/
def State.bootFinish (s t : State) (boot cert conf map : List Byte) : State :=
  let t := { t with sched := { t.sched with regions := t.namedRegions } }
  let t := (t.repair map).clearStores.savePage
  let t := ((t.extend 0x01 (blockDigest boot)).extend 0x05 (blockDigest cert)).extend 0x02 (blockDigest conf)
  let t := if s.bring.overlay.isEmpty then t else t.extend 0x0C (overlayDigest s.bring.overlay)
  { t with ident := { t.ident with
    owner := ownerKeyOf cert
    bootDigest := blockDigest boot
    ownerDigest := blockDigest cert
    confDigest := blockDigest conf } }

/-- R425, R465, R466, R430: S2. -/
def State.doS2 (s : State) : State :=
  match s.bootPick with
  | none => s.stepFails 2 0
  | some (k, seq, boot) =>
    let vendor := vendorKeyOf boot
    let s : State := { s with ident := { s.ident with
      vendor := vendor
      slotSeq := seq
      fwVersion := fwVersionOf boot } }
    let s := ((s.setFld F.ID_STATUS_BOOT_SLOT 0 k).setFld F.ID_STATUS_FW_VERSION 0 (fwVersionOf boot)).deriveKey
    let cert := s.flashCert
    let conf := s.flashConf
    if s.certOk cert vendor = false ∨ 4096 < leNat (conf.take 2) ∨ signedOk conf 2 1 (ownerKeyOf cert) = false then s.stepFails 2 1
    else match s.confApply (confRecords conf) with
      | .error u => s.stepFails 0x0C u
      | .ok t =>
        let map := repairMapOf boot
        match mapBad map with
        | some c => s.stepFails 3 c
        | none => s.bootFinish t boot cert conf map

/-- R396, R425: Maluo creates the management rings at the end of S2. -/
def State.mgmtRing (s : State) (ch : Nat) : State :=
  let s := s.mapBlock ch 1 (s.freeBlocks.getD 0 0) 0 0 0
  let s := s.setRing ch { Ring.reset with
    valid := true
    chan := ch
    off := 0x10000
    l := 6
    attn := true }
  s.ringStatus ch

/-! ## S3: DDR4 training (R426, R160) -/

/-- R160: the CRC-32C of a training record, over its temperature, its die and its module (the order of the fields is a DESIGN CHOICE,
entry 53). -/
def TrainRec.check (r : TrainRec) : Nat := crc32c (leBytes 1 (BitVec.ofInt 8 r.temp).toNat ++ leBytes 1 r.die ++ leBytes 32 r.owner)

/-- R160: the record that a full training at temperature `temp` leaves: this die is a B1 (21 Table ID-10: STEPPING 0xB1). -/
def State.newTrainRec (s : State) (temp : Int) : TrainRec :=
  let r : TrainRec := ⟨temp, 0xB1, s.deviceId, 0⟩
  { r with crc := r.check }

/-- R160: the saved record of a channel may be used: its CRC matches, a B1 die of this module wrote it, it is near the temperature, and
its MPR read test passes. -/
def State.savedOk (s : State) (ch : Nat) : Bool :=
  match (s.chan ch).saved with
  | some r => r.crc == r.check && r.die == 0xB1 && r.owner == s.deviceId &&
      decide ((r.temp - asSigned 8 (s.fld F.DR_STATUS_TEMP ch)).natAbs ≤ 20) && hasBit s.bring.mpr ch
  | none => false

/-- R426: DR_TRAIN_STATUS.MODE of a channel. -/
def State.trainMode (s : State) (ch : Nat) : Nat :=
  if hasBit s.bring.saved ch then (if s.savedOk ch then 2 else 3) else 1

/-- R160, R426: a channel starts to train: MODE is set, and a record that was tried and rejected is discarded. -/
def State.startTraining (s : State) (ch : Nat) : State :=
  let mode := s.trainMode ch
  let d := s.chan ch
  let s := if mode = 3 then s.setChan ch { d with saved := none } else s
  (s.setFld F.DR_TRAIN_STATUS_MODE ch mode).setFld F.DR_TRAIN_STATUS_PASS ch 0

/-- R426: each channel trains as SAVED selects. -/
def State.doS3 (s : State) (saved mpr : Nat) : State :=
  let s : State := { s with bring := { s.bring with
    saved := saved
    mpr := mpr } }
  (List.range 8).foldl (fun (s : State) ch => s.startTraining ch) s

/-- R160, Table DR-14: a channel has trained. A full training leaves a new saved record. How long it took is open. -/
def State.trained (s : State) (ch : Nat) : State :=
  let temp := s.fld F.DR_STATUS_TEMP ch
  let d := s.chan ch
  let s := s.setChan ch { d with
    ready := true
    trainAt := s.clk.mclk
    saved := if s.fld F.DR_TRAIN_STATUS_MODE ch = 2 then d.saved else some (s.newTrainRec (asSigned 8 temp)) }
  let s := (s.setFld F.DR_TRAIN_STATUS_PASS ch 1).setFld F.DR_TRAIN_STATUS_TRAIN_TEMP ch temp
  let (x, s) := s.fresh
  s.setFld F.DR_TRAIN_STATUS_TIME ch x.toNat

/-! ## S4: link qualification (R427, R428) -/

/-- Error counts that Table BU-5 judges: inner of a channel, outer and uncorrectable of a channel, corrected headers of a sensor port,
link errors of a sensor port, CRC errors of a tether lane. -/
def State.qualCount (s : State) (k : Nat) : Nat :=
  if k < 8 then s.fld F.DR_ECC_COUNT_INNER k
  else if k < 16 then s.fld F.DR_ECC_COUNT_OUTER (k - 8) + s.fld F.DR_ECC_COUNT_UNCORR (k - 8)
  else if k < 43 then s.fld F.SN_PORT_STATUS_CORRECTED (k - 16)
  else if k < 70 then (s.site (siteSensor (k - 43))).total
  else (s.site (0xE0 + (k - 70))).total

/-- The number of counts of `qualCount`. -/
def qualCounts : Nat := 94

/-- R427: the counts at the start of S4. -/
def State.qualBase (s : State) : State :=
  { s with bring := { s.bring with base := spTabulate 0 qualCounts s.qualCount } }

/-- R427: errors of count `k` since the start of S4, with those that a read has cleared away. -/
def State.qualErrors (s : State) (k : Nat) : Nat :=
  spGet 0 s.bring.base (1000 + k) + (s.qualCount k - spGet 0 s.bring.base k)

/-- R6, R427: a register whose counts S4 judges is about to be cleared by a read. -/
def State.qualRead (s : State) (r : RegArr) (i : Nat) : State :=
  let ks := if r = R.DR_ECC_COUNT then [i, 8 + i] else if r = R.SN_PORT_STATUS then [16 + i] else []
  if s.active = 4 then
    { s with bring := { s.bring with base := ks.foldl (fun t k => spSet 0 (spSet 0 t (1000 + k) (s.qualErrors k)) k 0) s.bring.base } }
  else s

/-- R507: the ports of `links` that trained come up. -/
def State.trainLinks (s : State) (links : List (Option TetherPeer)) : State :=
  (links.take 3).zipIdx.foldl (fun (s : State) x => match x.1 with
    | some p => if s.tlEnabled x.2 then s.tlTrain x.2 p.id.toNat p.dev.toNat p.meas.toNat else s
    | none => s) s

/-- R427: S4 starts. -/
def State.doS4 (s : State) (rdErr : Nat) (links : List (Option TetherPeer)) : State :=
  let s : State := { s with bring := { s.bring with rdErr := rdErr } }
  let s := (List.range 3).foldl (fun (s : State) p => s.setTlPort p { s.tlPort p with
    good := 0
    bad := 0 }) s
  (s.trainLinks links).qualBase

/-- Ports in the soak list (R466). -/
def State.soakPorts (s : State) : List Nat := (List.range 27).filter fun n => s.flag F.SN_PORT_CFG_EN n

/-- The host channels recorded as trained. -/
def State.trainedHosts (s : State) : List Nat := bitsOf 2 (s.fld F.BC_STEP_STATUS_TRAINED)

/-- Table BU-5: the first failing link, in the order of the table. -/
def State.qualFail (s : State) : Option (Nat × Nat) :=
  let ddr := (List.range 8).find? fun ch => decide (0 < s.qualErrors (8 + ch)) || decide (2 < s.qualErrors ch)
  let host := s.trainedHosts.find? fun ch => s.fld F.BC_SOAK_WR_ERR ch != 0
  let port := s.soakPorts.find? fun n =>
    if n < 12 then decide (0 < s.qualErrors (16 + n)) || decide (0 < s.qualErrors (43 + n)) else !(s.linkUp n)
  let lane := (List.range 24).find? fun k => s.tlEnabled (k / 8) &&
    ((k % 8 == 0 && (!(s.tlUp (k / 8)) || decide (0 < (s.tlPort (k / 8)).bad))) || decide (0 < s.qualErrors (70 + k)))
  match ddr, host, port, lane with
  | some ch, _, _, _ => some (5, ch)
  | _, some ch, _, _ => some (6, ch)
  | _, _, some n, _ => some (7, n)
  | _, _, _, some k => some (8, k)
  | _, _, _, _ => if s.bring.rdErr = 0 then none else some (6, 0xFF)

/-- Table BU-5: the bits that the state counts have been carried: on the host channels and the tether lanes. -/
def State.qualCarried (s : State) : Bool :=
  (s.trainedHosts.all fun ch => decide (19531250 ≤ s.fld F.BC_SOAK_WR_BLOCKS ch) && decide (19531250 ≤ s.fld F.BC_SOAK_RD_BLOCKS ch)) &&
  (List.range 3).all fun p => !(s.tlEnabled p) || decide (10 ^ 12 ≤ 64 * (s.tlPort p).good)

/-! ## S5: start tests (R429) -/

/-- R429: DDR4 holds the test pattern, and no line of it is poisoned. -/
def State.doS5 (s : State) : State :=
  let s := s.dropRange 0 ddrSize
  { s with bring := { s.bring with tested := true } }

/-- R372, Table PB-6: the injections are complete. Each event counter has risen by one, with a detail the spec leaves open; the rules see
no increase. Where Field Book records, it records each (R372). -/
def State.injected (s : State) : State :=
  let s := (List.range 0x1C).foldl (fun (s : State) i =>
    let n := i + 1
    let (x, s) := s.fresh
    let s := (s.bump F.PB_EV_COUNT n).setFld F.PB_EV_LAST_DETAIL n x.toNat
    let c := s.fld F.PB_EV_COUNT n
    let s : State := { s with plumb := { s.plumb with evRead := [0, 1, 2].foldl (fun t e => spSet 0 t (64 * e + n) c) s.plumb.evRead } }
    s.record 0x0E 1 (words [n, x.toNat % 2 ^ 32, 1]) 6) s
  s.setFld F.PB_INJECT_DONE 0 1

/-- The repair map of the running boot image (R430). -/
def State.runningMap (s : State) : List Byte :=
  match s.bootSlot (s.fld F.ID_STATUS_BOOT_SLOT) with
  | some (_, bs) => repairMapOf bs
  | none => []

/-- R80, R429, R431: the core's spare serves logical engine `n`, and the overlay records it. -/
def State.useSpare (s : State) (n : Nat) : State :=
  let s : State := { s with bring := { s.bring with overlay := s.bring.overlay ++ [(n, 8)] } }
  s.setPhys s.runningMap n 8

/-- R429: what S5 found: `code` and `unit` of Table BU-4, where a test failed. A mismatch of one engine is mended by its core's free
spare, and the test runs again. For an injection, `unit` is the checker. -/
def State.endS5 (s : State) (code unit : Nat) : State :=
  if code = 9 ∧ unit < 11 then
    let s := (s.injected.setFld F.PB_INJECT_FAIL 0 (putBit (s.fld F.PB_INJECT_FAIL) unit true)).setFld F.PB_INJECT_PASS 0 0
    s.stepDone (some (9, 0))
  else
    let s := (s.injected.setFld F.PB_INJECT_FAIL 0 0).setFld F.PB_INJECT_PASS 0 1
    if code = 0x0A ∧ (unit < 8 ∨ (16 ≤ unit ∧ unit < 32)) then s.stepDone (some (0x0A, unit))
    else if code = 0x0B ∧ unit < 128 then
      let s := s.faultAt (siteEngine (unit / 8) (s.fld F.PL_ENG_STATUS_PHYS unit))
      if s.spareFree (unit / 8) then (s.useSpare unit).stepDone none else s.stepDone (some (0x0B, unit))
    else s.stepDone none

/-! ## S6, S7, and the ends -/

/-- R433: S6. A failing check fills BC_COMMIT_REPORT. -/
def State.doS6 (s : State) : State :=
  match s.commit with
  | .error b => (s.commitReport b).stepFails 0x0C b.unit
  | .ok t => t

/-- A request of BC_STEP: its step, SEQ, SAVED, HOST_RD_ERR, and what the environment gives it: the channels whose saved record passes the MPR
read test, and the peers of the tether ports. -/
structure StepReq where
  step  : Nat
  seq   : Nat
  saved : Nat
  rdErr : Nat
  mpr   : Nat
  links : List (Option TetherPeer)
deriving DecidableEq, Repr

/-- R421: the port judges a request of BC_STEP and starts the step. -/
def State.stepRequest (s : State) (q : StepReq) : State :=
  if s.stepOk q.step then
    let s := s.stepAccept q.step q.seq
    match q.step with
    | 1 => s.doS1
    | 2 => s.doS2
    | 3 => s.doS3 q.saved q.mpr
    | 4 => s.doS4 q.rdErr q.links
    | 5 => s.doS5
    | 6 => s.doS6
    | _ => s.goLive
  else s.stepRefuse q.seq

def execS1 (seq : Byte) (s : State) : Host.Outcome State Fault Refusal :=
  if s.isOff then .next s else .next (s.stepRequest ⟨1, seq.toNat, 0, 0, 0, []⟩)
def execS2 (seq : Byte) (s : State) : Host.Outcome State Fault Refusal :=
  if s.isOff then .next s else .next (s.stepRequest ⟨2, seq.toNat, 0, 0, 0, []⟩)
def execS3 (seq saved mpr : Byte) (s : State) : Host.Outcome State Fault Refusal :=
  if s.isOff then .next s else .next (s.stepRequest ⟨3, seq.toNat, saved.toNat, 0, mpr.toNat, []⟩)
def execS4 (seq : Byte) (rdErr : Word) (links : List (Option TetherPeer)) (s : State) : Host.Outcome State Fault Refusal :=
  if s.isOff then .next s else .next (s.stepRequest ⟨4, seq.toNat, 0, rdErr.toNat, 0, links⟩)
def execS5 (seq : Byte) (s : State) : Host.Outcome State Fault Refusal :=
  if s.isOff then .next s else .next (s.stepRequest ⟨5, seq.toNat, 0, 0, 0, []⟩)
def execS6 (seq : Byte) (s : State) : Host.Outcome State Fault Refusal :=
  if s.isOff then .next s else .next (s.stepRequest ⟨6, seq.toNat, 0, 0, 0, []⟩)
def execS7 (seq : Byte) (s : State) : Host.Outcome State Fault Refusal :=
  if s.isOff then .next s else .next (s.stepRequest ⟨7, seq.toNat, 0, 0, 0, []⟩)

/-- Table BU-3: the longest time of a step, in ms; S1 has none. -/
def State.stepMax (s : State) (step : Nat) : Option Nat :=
  match step with
  | 2 => some 2000
  | 3 => some 1000
  | 4 => some (if s.fld F.TL_CFG_PORT_EN = 0 then 5000 else 40000)
  | 5 => some 6000
  | 6 => some 500
  | 7 => some 10
  | _ => none

/-- R423: the active step has run past its maximum. -/
def State.stepLate (s : State) : Bool :=
  match s.stepMax s.active with
  | some ms => decide (ms * fclkMs < s.clk.fclk - s.bring.stepAt)
  | none => false

/-- R426: S3 ends: every channel has trained, or channel `unit` has failed full training. -/
def State.endS3 (s : State) (code unit : Nat) : State :=
  let bad := code == 4 && decide (unit < 8)
  let s := ((List.range 8).filter fun ch => !(bad && ch == unit)).foldl (fun (s : State) ch => s.trained ch) s
  s.stepDone (if bad then some (4, unit) else none)

/-- R427: S4 ends at a link that fails, or once every link has carried its bits. -/
def State.endS4 (s : State) : State :=
  match s.qualFail with
  | some f => s.stepDone (some f)
  | none => if s.qualCarried then s.stepDone none else s

/-- R433, R434: the active step has made its change: what is left to it is its report. -/
def State.stepMade (s : State) : Bool := (s.active == 6 && s.committed) || s.active == 7

/-- R422: the active step ends. `code` and `unit` are what the hardware found: a channel that does not train, or a failed start test. -/
def State.stepEnd (s : State) (code unit : Nat) : State :=
  if s.active = 0 then s
  else if s.stepLate && !s.stepMade then s.stepDone (some (1, s.active))
  else match s.bring.fail with
    | some f => s.stepDone (some f)
    | none =>
      match s.active with
      | 2 => ((s.mgmtRing 0).mgmtRing 1).stepDone none
      | 3 => s.endS3 code unit
      | 4 => s.endS4
      | 5 => s.endS5 code unit
      | _ => s.stepDone none

/-- STEP_END (R422): the active step ends after `dt` FCLK cycles. -/
def execStepEnd (code unit : Byte) (dt : Nat) (s : State) : Host.Outcome State Fault Refusal :=
  if s.dark then .next s else .next ((s.tickF dt).stepEnd code.toNat unit.toNat)

/-- STEP_TIMEOUT (R423): after `dt` FCLK cycles the active step has run past its maximum and fails. A commit that has been made, and a start
of the streams, are not undone: the step ends as it came out. -/
def execStepTimeout (dt : Nat) (s : State) : Host.Outcome State Fault Refusal :=
  if s.dark then .next s
  else
  let s := s.tickF dt
  .next (if s.stepLate && !s.stepMade then s.stepDone (some (1, s.active)) else s)

end Sys2Proof.Machine
end

