-- ==== Sys2Proof/Machine/PlanLoad.lean ====
section
/-! DEFINITION. The plan-loading and bring-up commands (19 R435 to R438, 21 R471): PLAN_LOAD, PLAN_LOAD_FILL, BU_RESTART, BU_RESUME and
BU_RETRAIN. -/

namespace Sys2Proof.Machine

/-! ## Plan images -/

/-- A plan image taken apart (R471). -/
structure PlanImage where
  fillBase  : Nat
  fillCount : Nat
  frame     : List Byte
  fill      : List Byte
  config    : List Byte
  manifest  : List Nat
  frameDig  : Nat
  fillDig   : Nat
deriving DecidableEq, Repr

/-- R471: CONFIG_LEN, MANIFEST_COUNT and the reserved bits of a header. -/
def headConfigLen (h : Nat) : Nat := h / 2 ^ 64 % 2 ^ 32
def headManifest (h : Nat) : Nat := h / 2 ^ 48 % 2 ^ 16
def headReserved (h : Nat) : Nat := h / 2 ^ 96 % 2 ^ 32 + h / 2 ^ 640
def headFillBase (h : Nat) : Nat := h / 2 ^ 16 % 2 ^ 16
def headFillCount (h : Nat) : Nat := h / 2 ^ 32 % 2 ^ 16

/-- R471: the parts of an image. -/
def planParts (bs : List Byte) : PlanImage :=
  let h := leNat (bs.take 256)
  let fb := headFillBase h
  let fc := headFillCount h
  let rest := bs.drop 256
  let tail := rest.drop (1024 * (fb + fc))
  { fillBase := fb, fillCount := fc, frame := rest.take (1024 * fb), fill := (rest.drop (1024 * fb)).take (1024 * fc),
    config := tail.take (headConfigLen h), manifest := (chunks 64 (headManifest h) (tail.drop (headConfigLen h))).map leNat,
    frameDig := h / 2 ^ 128 % 2 ^ 256, fillDig := h / 2 ^ 384 % 2 ^ 256 }

/-- R471: the lowest detail of the structural faults of an image, 0 for none. -/
def planStructure (bs : List Byte) : Nat :=
  let h := leNat (bs.take 256)
  let p := planParts bs
  if bs.length ≠ 256 + 1024 * (headFillBase h + headFillCount h) + headConfigLen h + 64 * headManifest h + 3392 then 1
  else if h % 2 ^ 16 ≠ 1 then 2
  else if within 1 32767 (headFillBase h) = false then 3
  else if 256 < headManifest h then 4
  else if headConfigLen h % 64 ≠ 0 ∨ blockOk p.config = false then 5
  else if headReserved h ≠ 0 then 6
  else if p.manifest.all (fun e => e % 2 ^ 8 == 8 && e / 2 ^ 8 % 2 ^ 56 == 0 && e / 2 ^ 320 == 0) then 0
  else 7

/-- R471: digests and signature of an image under the owner key. -/
def planSigned (bs : List Byte) (owner : Nat) : Bool :=
  let p := planParts bs
  p.frameDig == digest p.frame && p.fillDig == digest p.fill && signedOk bs 3 1 owner

/-- PLAN_SIZE as a configuration block gives it. -/
def blockPlanSize (block : List Byte) : Nat :=
  (blockRecords block).foldl (fun x r =>
    if recUnit r = 1 ∧ recOff r = R.PL_CONFIG.off ∧ recOk r = true then F.PL_CONFIG_PLAN_SIZE.get (recValue r) else x)
    (F.PL_CONFIG_PLAN_SIZE.get R.PL_CONFIG.reset)

/-- R25, R28: bundles from `first` on, written into the plan region of `size` × 64 KiB of every core. -/
def State.writePlan (s : State) (size first : Nat) (part : List Byte) : State :=
  let bundles := chunks 1024 (part.length / 1024 + 1) part
  (List.range 16).foldl (fun (s : State) c =>
    s.wrMarked (coreBase c + (384 - size) * 65536 + 64 * first) (bundles.flatMap fun b => (b.drop (64 * c)).take 64) false) s

/-- R80: a bundle of the image enables a logical engine that is lost. -/
def State.enablesLost (s : State) (part : List Byte) : Bool :=
  let lost := (List.range 128).filter fun n => s.engineLost n
  !lost.isEmpty && (chunks 1024 (part.length / 1024 + 1) part).any fun b =>
    lost.any fun n =>
      let sl := leNat ((b.drop (64 * (n / 8))).take 64)
      B.SLICE_EOP.get sl != 0 && hasBit (B.SLICE_ENG_EN.get sl) (n % 8)

/-- R47, R108, Table PL-7, Table PB-5: what every plan load clears: PL_FAULT and the stop of a faulted stream, the DEBUG cause, and the
histograms. -/
def State.planClears (s : State) : State :=
  let s := (s.setReg R.PL_FAULT 0 0).clearHold 8
  let s := if s.streamState .frame = 2 then s.setStreamState .frame 0 else s
  let s := if s.streamState .fill = 2 then s.setStreamState .fill 0 else s
  let s := (List.range 16).foldl (fun (s : State) c => s.setVec c { s.vec c with hist := [] }) s
  { s with
    ridge := { s.ridge with faulted := false }
    plumb := { s.plumb with planSince := true } }

/-- R470, R471: a plan load is complete. -/
def State.planLoadedNow (s : State) (p : PlanImage) (bs : List Byte) : State :=
  let s := s.planClears
  let s : State := { s with
    ridge := { s.ridge with
      planLoaded := true
      imageFillBase := p.fillBase }
    ident := { s.ident with
      manifest := p.manifest.map fun e => e / 2 ^ 64 % 2 ^ 256
      planFrame := p.frameDig
      planFill := p.fillDig }
    bring := { s.bring with planConfig := p.config } }
  s.extend 0x03 (blockDigest bs)

/-- R435: PLAN_LOAD is open: while the module is loaded, and after S7 while neither stream runs. -/
def State.planOpen (s : State) : Bool :=
  s.loading || (s.live && s.streamState .frame % 2 == 0 && s.streamState .fill % 2 == 0)

/-- PLAN_LOAD (R435, R471, R80). An image whose bundles the plan region cannot hold is refused like any other that does not fit (24 R513). -/
def planLoadBody (s : State) (c : Cmd) : State × Option Reply :=
  let bs := s.rdBytes (c.w64 4) c.len
  let p := planParts bs
  let size := blockPlanSize p.config
  if !s.planOpen then (s, some (denied 1))
  else if !(s.ddrReads c.part (c.w64 4) c.len) then (s, some (denied 4))
  else if planStructure bs ≠ 0 then (s, some (lenRange (planStructure bs)))
  else if within 1 32 size = false ∨ 1024 * size < p.fillBase + p.fillCount then (s, some (lenRange 0))
  else if !(planSigned bs s.ident.owner) then (s, some (badSignature 0))
  else if s.live = true ∧ p.config ≠ s.bring.config then (s, some (conflict 1))
  else if s.enablesLost (p.frame ++ p.fill) then (s, some ⟨0x11, 0, 0, none⟩)
  else (((s.writePlan size 0 p.frame).writePlan size p.fillBase p.fill).planLoadedNow p bs, some Reply.ok)

def execPlanLoad (ring : BitVec 14) (d : Desc) (s : State) : Host.Outcome State Fault Refusal :=
  .next (s.command ring d 0x0901 planLoadBody)

/-! ## What a restart may rewrite -/

/-- R141, R188, R203, R226: entry `i` of a register belongs to partition `p`, which a restart of `p` may rewrite. A view of a core's images
belongs to its PART, or to nobody while it is disabled. -/
def State.rewritable (s : State) (p : Nat) (r : RegArr) (i : Nat) : Bool :=
  if r = R.MT_SHARE then i % 8 == p
  else if r = R.PL_SEQ_CFG ∨ r = R.PL_SEQ_LOG then i + 2 == p
  else if r = R.PL_SEQ_WALK then i / 4 + 2 == p
  else if r = R.SP_SCHED_CFG then i == p
  else if r = R.SP_SCHED_ENT then i / 256 == p
  else if r = R.SP_REGION then i / 4 == p
  else if r = R.PL_IMG_CFG then s.fld F.PL_IMG_CFG_PART i == p || !(s.flag F.PL_IMG_CFG_EN i)
  else false

/-- R141: the bits of MT_CTRL and MT_OPB_TAG that belong to partition `p`: its DEMAND bit, and the tags of the halves it holds. -/
def State.ownBits (s : State) (p : Nat) (r : RegArr) (i : Nat) : BitVec 64 :=
  if r = R.MT_CTRL then BitVec.ofNat 64 (2 ^ p)
  else if r = R.MT_OPB_TAG then
    BitVec.ofNat 64 ((List.range 16).foldl (fun m h => if s.fld F.MT_OPB_TAG_TAG i / 2 ^ (3 * h) % 8 = p then m + 7 * 2 ^ (3 * h) else m) 0)
  else if s.rewritable p r i then commitMask r
  else 0

/-- The entries of the registers that a restart of `p` may rewrite, and the bits of each. -/
def State.ownRegs (s : State) (p : Nat) : List (RegArr × Nat × BitVec 64) :=
  [R.MT_CTRL, R.MT_SHARE, R.MT_OPB_TAG, R.PL_SEQ_CFG, R.PL_SEQ_LOG, R.PL_SEQ_WALK, R.PL_IMG_CFG, R.SP_SCHED_CFG, R.SP_SCHED_ENT,
    R.SP_REGION].flatMap fun r => (List.range r.count).filterMap fun i =>
      let m := s.ownBits p r i
      if m = 0 then none else some (r, i, m)

/-- The values that a configuration block gives the registers, alone. -/
def State.blockRegs (s : State) (block : List Byte) : State :=
  let t := (blockRecords block).foldl (fun (t : State) r => t.applyRec r) ({ s with regs := [], mem := [], poison := [] } : State)
  { s with
    regs := t.regs
    mem := t.mem }

/-- R435: two blocks give the same configuration outside the registers that restarts of the partitions `ps` may rewrite. -/
def State.sameOutside (s : State) (ps : List Nat) (a b : List Byte) : Bool :=
  let mask (t : State) : State := ps.foldl (fun (t : State) p => (s.ownRegs p).foldl (fun (t : State) x =>
    t.setReg x.1 x.2.1 (t.reg x.1 x.2.1 &&& ~~~x.2.2)) t) t
  let x := mask (s.blockRegs a)
  let y := mask (s.blockRegs b)
  decide (x.regs = y.regs) && decide (x.mem = y.mem)

/-- The best-effort partitions that are STOPPED, of those a requester may load for (Table BU-7). -/
def State.stoppedFor (s : State) (p : Nat) : List Nat :=
  [2, 3, 4, 5, 6, 7].filter fun q => (p == 0 || q == p) && s.partState q == 3

/-- PLAN_LOAD_FILL (R435, R471, R80). -/
def planLoadFillBody (s : State) (c : Cmd) : State × Option Reply :=
  let bs := s.rdBytes (c.w64 4) c.len
  let p := planParts bs
  let size := s.fld F.PL_CONFIG_PLAN_SIZE
  let ps := s.stoppedFor c.part
  if ps.isEmpty then (s, some (denied 1))
  else if !(s.ddrReads c.part (c.w64 4) c.len) then (s, some (denied 4))
  else if planStructure bs ≠ 0 then (s, some (lenRange (planStructure bs)))
  else if 1024 * size < p.fillBase + p.fillCount then (s, some (lenRange 0))
  else if !(planSigned bs s.ident.owner) then (s, some (badSignature 0))
  else if p.frameDig ≠ s.ident.planFrame then (s, some (conflict 2))
  else if !(s.sameOutside ps s.bring.planConfig p.config) then (s, some (conflict 3))
  else if s.enablesLost p.fill then (s, some ⟨0x11, 0, 0, none⟩)
  else ((s.writePlan size p.fillBase p.fill).planLoadedNow p bs, some Reply.ok)

def execPlanLoadFill (ring : BitVec 14) (d : Desc) (s : State) : Host.Outcome State Fault Refusal :=
  .next (s.command ring d 0x0902 planLoadFillBody)

/-! ## Restart and resume -/

/-- BU_RESTART (R436): the partition enters STOPPING, the fill stream is told to stop, and the command completes once it has and no demand
transfer of the partition is in flight. -/
def buRestartBody (s : State) (c : Cmd) : State × Option Reply :=
  let p := c.w 4 % 8
  if c.part ≠ 0 ∧ c.part ≠ p then (s.bump F.BC_COUNTS_REJECTED, some (denied 3))
  else if s.live = false ∨ (2 ≤ p ∧ s.partState p ≠ 1) then (s, some (denied 1))
  else if p < 2 then (s, some (lenRange 0))
  else
    let s := s.setPartState p 2
    let s : State := { s with bring := { s.bring with restarts := s.bring.restarts ++ [(⟨p, c.ring, c.d⟩ : Restart)] } }
    (s.fillStop.restartsDone, none)

def execBuRestart (ring : BitVec 14) (d : Desc) (s : State) : Host.Outcome State Fault Refusal :=
  .next (s.command ring d 0x0A01 buRestartBody)

/-- R438, step 2: the registers of partition `p` as the loaded configuration block gives them. -/
def State.ownApply (s : State) (p : Nat) : State :=
  let t := s.blockRegs s.bring.planConfig
  (s.ownRegs p).foldl (fun (s : State) x =>
    if x.1 = R.MT_CTRL then s else s.setReg x.1 x.2.1 ((s.reg x.1 x.2.1 &&& ~~~x.2.2) ||| (t.reg x.1 x.2.1 &&& x.2.2))) s

/-- R438, step 2: the first rule that the registers of a resumed partition break, judged as they will stand. -/
def State.ownBad (t : State) (p : Nat) : Option Bad :=
  firstSome [
    t.seqRulesBad (p - 2),
    if decide (t.seqStore 5 ≤ 524288) && decide (t.seqColumns 5 ≤ 16384) then none else some (R.PL_SEQ_CFG.bad (p - 2) 1 p),
    t.claimsBad 0x01,
    ((List.range 16).filter fun c => t.fld F.PL_IMG_CFG_PART c == p).findSome? t.imgCfgBad,
    (List.range 128).findSome? t.shareBad,
    if t.fld F.SP_SCHED_CFG_LEN p ≤ 256 then none else some (R.SP_SCHED_CFG.bad p 1 p),
    t.claimsBad 0x04,
    (List.range 32).findSome? t.regionBad,
    (List.range 256).findSome? fun e =>
      if t.flag F.SP_SCHED_ENT_GOLDEN (256 * p + e) then some (R.SP_SCHED_ENT.bad (256 * p + e) 1 e) else none]

/-- R432: a window of the frame stream's plan claims core `c`. -/
def State.planClaims (s : State) (c : Nat) : Bool :=
  (List.range (s.fld F.PL_ENTRY_FILL_BASE)).any fun b =>
    let x := s.fetch b
    x.kind == 3 && hasBit x.coreMask c

/-- R432: a pending substitution may be made: every partition that uses the core has been restarted since, and no window claims it. -/
def State.subReady (s : State) (x : Nat × Nat) : Bool :=
  let c := (x.1 - 0x100) / 9
  (s.coreParts c).all (fun q => hasBit x.2 q) && !(s.planClaims c) && s.spareFree c

/-- The logical engine that a physical engine's site serves. -/
def State.servedBy (s : State) (site : Nat) : Option Nat :=
  let c := (site - 0x100) / 9
  ((List.range 8).find? fun e => s.fld F.PL_ENG_STATUS_PHYS (8 * c + e) == (site - 0x100) % 9).map fun e => 8 * c + e

/-- R432, R80: the pending substitutions that are ready are made. -/
def State.applySubs (s : State) : State :=
  s.bring.subs.foldl (fun (s : State) x =>
    if s.subReady x then
      let s := match s.servedBy x.1 with
        | some n => s.useSpare n
        | none => s
      { s with bring := { s.bring with subs := s.bring.subs.filter fun y => y.1 != x.1 } }
    else s) s

/-- R438, step 1: with FULL the DDR4 of the partition's regions is tested, and holds the test pattern. -/
def State.testRegions (s : State) (p : Nat) : State :=
  [0, 1, 2, 3].foldl (fun (s : State) k =>
    let v := spGet 0 s.sched.regions (4 * p + k)
    s.dropRange (F.SP_REGION_BASE.get v * 0x0400_0000) (F.SP_REGION_COUNT.get v * 0x0400_0000)) s

/-- R438, steps 3 to 5. -/
def State.resume (s : State) (p : Nat) : State :=
  let s := s.applySubs
  let s := (s.setFld F.MT_CTRL_DEMAND 0 (putBit (s.fld F.MT_CTRL_DEMAND) p false)).setPartState p 1
  if !s.fillHeld && s.fld F.PB_STATUS_MODE == 0 then s.fillGo else s

/-- BU_RESUME (R438). `bad` says that a test of FULL met an uncorrectable line or word. -/
def buResumeBody (bad : Bool) (s : State) (c : Cmd) : State × Option Reply :=
  let p := c.w 4 % 8
  if c.part ≠ 0 ∧ c.part ≠ p then (s.bump F.BC_COUNTS_REJECTED, some (denied 3))
  else if 2 ≤ p ∧ s.partState p ≠ 3 then (s, some (denied 1))
  else if p < 2 then (s, some (lenRange 0))
  else
    let s := if c.flag16 then s.testRegions p else s
    if c.flag16 && bad then (s, some ⟨0xF, 0, 0, none⟩)
    else
      let t := s.ownApply p
      match ({ t with sched := { t.sched with regions := t.namedRegions } } : State).ownBad p with
      | some b => (s, some ⟨b.status, 0, 0, none⟩)
      | none => (t.resume p, some ⟨if t.fld F.PB_STATUS_MODE = 0 then 0 else 0x11, 0, 0, none⟩)

def execBuResume (ring : BitVec 14) (d : Desc) (bad : Bool) (s : State) : Host.Outcome State Fault Refusal :=
  .next (s.command ring d 0x0A02 (buResumeBody bad))

/-- BU_RETRAIN (Table BU-7): completes when no named channel has a step left. -/
def buRetrainBody (s : State) (c : Cmd) : State × Option Reply :=
  let m := c.w 4 % 256
  if s.live = false then (s, some (denied 1))
  else if m = 0 then (s, some (lenRange 0))
  else
    let s := (bitsOf 8 m).foldl (fun (s : State) ch => s.retrainStart ch) s
    let s : State := { s with rings := { s.rings with retrains := s.rings.retrains ++ [(c.ring, c.d, m)] } }
    (s.retrainsDone, none)

def execBuRetrain (ring : BitVec 14) (d : Desc) (s : State) : Host.Outcome State Fault Refusal :=
  .next (s.command ring d 0x0A03 buRetrainBody)

end Sys2Proof.Machine
end

