-- ==== Sys2Proof/Machine/Basecamp.lean ====
section
/-! DEFINITION. Basecamp (18): the fetch of descriptors, the management commands, contexts and rings, and the reading and writing of unit
registers on the host's behalf. -/

namespace Sys2Proof.Machine

/-! ## Registers as a reader sees them -/

/-- The register at an offset of a unit block that R415 names. Aperture block 0 has no entry in the window map (R395). -/
def unitReg (unit off : Nat) : Option (RegArr × Nat) :=
  if unit ≤ 0x10 ∧ off % 8 = 0 then
    match regAt unit off with
    | some (r, i) => if r = R.TH_WMAP ∧ i % 16384 = 0 then none else some (r, i)
    | none => none
  else none

/-- R6, R9: what a reader of a register sees, and what the read leaves: it pops a log, and clears an RC field for every reader. -/
def State.viewReg (s : State) (r : RegArr) (i : Nat) : BitVec 64 × State :=
  if r = R.PL_HOLD_LOG then s.popHoldLog
  else if r = R.DR_ERR_LOG then s.popErrLog i
  else if r = R.MT_PSTAT then (s.pstat i, s)
  else if r = R.PL_ENG_STATUS then s.engStatus i
  else if r = R.PB_STATUS then
    let (v, s') := s.readReg r i
    (F.PB_STATUS_WDI_OK.put v (bit s.wdiOk), s')
  else if r = R.SN_PORT_STATUS then (s.portStatus i, ((s.qualRead r i).readReg r i).2)
  else (s.qualRead r i).readReg r i

/-- RC_FIELD_READ (R6): a register of a unit block is read. -/
def execRcFieldRead (unit : BitVec 8) (off : BitVec 24) (s : State) : Host.Outcome State Fault Refusal :=
  if s.dark then .next s else .next (match unitReg unit.toNat off.toNat with
    | some (r, i) => (s.viewReg r i).2
    | none => s)

/-- The domain code of a register, as the chapter of its unit gives it. -/
def regDomain (unit off : Nat) : Nat :=
  match unit with
  | 0x01 => 1
  | 0x02 => 2
  | 0x03 => 3
  | 0x04 => if (0x038 ≤ off ∧ off < 0x050) ∨ (0x0C0 ≤ off ∧ off < 0x1000) then 2 else 1
  | 0x05 => if off < 0x200 then 0x20 + off % 0x100 / 8 else 2
  | 0x06 => 2
  | 0x07 => 4
  | 0x08 => 5
  | 0x09 => 2
  | 0x0A => 6
  | 0x0B => 2
  | 0x0C => 7
  | 0x0D => 2
  | 0x0E => 7
  | 0x0F => if off < 0x80 then 2 else 7
  | 0x10 => if off < 0x40 then 2 else 0x11 + off % 0x40 / 8
  | _ => 2

/-- The counter of a domain. -/
def State.clockOf (s : State) (dom : Nat) : Nat :=
  match dom with
  | 1 => s.clk.aclk
  | 2 => s.clk.fclk
  | 3 => s.clk.mclk
  | 4 => s.clk.tclk
  | 5 => s.clk.gclk
  | 6 => s.clk.sclk
  | 7 => s.clk.bclk
  | n => if n < 0x20 then s.tlTime (n - 0x11) else s.portTime (n - 0x20)

/-- Registers `n` words from an offset, read one at a time. -/
def State.viewRange (s : State) (unit off n : Nat) : List (BitVec 64) × State :=
  (List.range n).foldl (fun (acc : List (BitVec 64) × State) k =>
    match unitReg unit (off + 8 * k) with
    | some (r, i) => let (v, t) := acc.2.viewReg r i; (acc.1 ++ [v], t)
    | none => acc) ([], s)

/-- REG_READ (R415): the requester's context is the one that the descriptor names. -/
def regReadBody (s : State) (c : Cmd) : State × Option Reply :=
  let unit := c.w 4 % 256
  let off := c.w 5 % 2 ^ 24
  let dest := c.w64 6
  let n := c.len / 8
  if s.ctxPart c.ctx ≠ some c.part ∨ s.exchange c.ctx dest c.len = false then (s, some (denied 4))
  else if (List.range n).any fun k => (unitReg unit (off + 8 * k)).isNone then (s, some (lenRange 1))
  else
    let dom := regDomain unit off
    let stamp := s.clockOf dom
    let (vs, s) := s.viewRange unit off n
    (s.wrMarked dest (vs.flatMap fun v => leBytes 8 v.toNat) false, some ⟨0, 0, 0, some (dom, stamp)⟩)

def execRegRead (ring : BitVec 14) (d : Desc) (s : State) : Host.Outcome State Fault Refusal :=
  .next (s.command ring d 0x0010 regReadBody)

/-! ## REG_WRITE -/

/-- Table BC-7: the write changes a debug field of PL_CTRL or triggers one. -/
def State.debugWrite (s : State) (v : BitVec 64) : Bool :=
  F.PL_CTRL_DEBUG_EN.get v != s.fld F.PL_CTRL_DEBUG_EN || F.PL_CTRL_DEBUG_HOLD.get v == 1 || F.PL_CTRL_DEBUG_STEP.get v == 1

/-- Table BC-7: partition `p` may write `v` to a register. -/
def State.writeRight (s : State) (p : Nat) (r : RegArr) (i : Nat) (v : BitVec 64) : Bool :=
  if r = R.PL_CTRL then
    goRight p && (F.PL_CTRL_STOP.get v == 0 || p == 0) && (!(s.debugWrite v) || s.debugRight p)
  else if r = R.PL_COND then s.condOwner i == some p
  else if r = R.PL_ENG_STATUS ∨ r = R.PL_VEC_STATUS ∨ r = R.PL_IMG_STATUS ∨ r = R.MT_STATUS then decide (p < 2)
  else if r = R.PL_VEC_HIST then s.fld F.PL_VEC_HIST_PART i == p
  else if r = R.DR_STATUS ∨ r = R.SP_FRAME_STATUS then p == 0
  else if r = R.ST_STATUS then p == 1
  else if r = R.PB_CFG ∨ r = R.PB_DEGRADE then p == 0 && !s.committed
  else false

/-- A value of PL_CTRL acts bit by bit, lowest first (Table PL-10). -/
def State.ctrlWrite (s : State) (v : BitVec 64) : State :=
  let s := if F.PL_CTRL_FRAME_GO.get v = 1 then s.frameGo else s
  let s := if F.PL_CTRL_FILL_GO.get v = 1 then s.fillGo else s
  let s := if F.PL_CTRL_FILL_STOP.get v = 1 then s.fillStop else s
  let s := if F.PL_CTRL_STOP.get v = 1 then s.stopBoth else s
  let s := if F.PL_CTRL_DEBUG_EN.get v = s.fld F.PL_CTRL_DEBUG_EN then s else s.debugEn (F.PL_CTRL_DEBUG_EN.get v == 1)
  let s := if F.PL_CTRL_DEBUG_HOLD.get v = 1 then s.debugHold else s
  if F.PL_CTRL_DEBUG_STEP.get v = 1 then s.debugStep else s

/-- R416: an allowed write takes effect. -/
def State.hostWrite (s : State) (r : RegArr) (i : Nat) (v : BitVec 64) : State :=
  if r = R.PL_CTRL then s.ctrlWrite v
  else
    let s := s.writeReg r i v
    if r = R.PL_VEC_HIST ∧ F.PL_VEC_HIST_CLEAR.get v = 1 then s.setVec i { s.vec i with clear := true } else s

/-- R416: the value a write leaves lies in the ranges of its fields. -/
def State.writeInRange (s : State) (r : RegArr) (i : Nat) (v : BitVec 64) : Bool :=
  let x := r.written (s.reg r i) v
  if r = R.PB_CFG then pbCfgOk x else if r = R.PB_DEGRADE then pbDegradeOk x else true

/-- REG_WRITE (R416). R353: after the commit a write to a configuration register of Plumb also raises an event. -/
def regWriteBody (s : State) (c : Cmd) : State × Option Reply :=
  let unit := c.w 4 % 256
  let off := c.w 5 % 2 ^ 24
  let v := BitVec.ofNat 64 (c.w64 6)
  match unitReg unit off with
  | none => (s.bump F.BC_COUNTS_REJECTED, some (denied 3))
  | some (r, i) =>
    if s.writeRight c.part r i v then
      let dom := regDomain unit off
      if c.len ≠ 0 then (s.bump F.BC_COUNTS_REJECTED, some (lenRange 0))
      else if s.writeInRange r i v = false then (s, some (lenRange 2))
      else if r = R.PL_COND then
        if s.condBound i then (s, some (conflict 0)) else (s.condWrite i v.toNat (some (c.ring, c.d)), none)
      else
        let s := s.hostWrite r i v
        (s, some ⟨0, 0, 0, some (dom, s.clockOf dom)⟩)
    else
      let s := if (r = R.PB_CFG ∨ r = R.PB_DEGRADE) ∧ s.committed = true then s.raise 0x1B off else s
      (s.bump F.BC_COUNTS_REJECTED, some (denied 3))

def execRegWrite (ring : BitVec 14) (d : Desc) (s : State) : Host.Outcome State Fault Refusal :=
  .next (s.command ring d 0x0011 regWriteBody)

/-! ## Contexts and rings -/

/-- NOP (R413). -/
def nopBody (s : State) (_ : Cmd) : State × Option Reply := (s, some Reply.ok)

def execNop (ring : BitVec 14) (d : Desc) (s : State) : Host.Outcome State Fault Refusal := .next (s.command ring d 0x0000 nopBody)

/-- CTX_OPEN (R414). -/
def ctxOpenBody (s : State) (c : Cmd) : State × Option Reply :=
  match (List.range 4096).find? fun i => (s.ctxPart i).isNone with
  | none => (s, some ⟨2, 1, 0, none⟩)
  | some i =>
    if s.fld F.BC_RIGHTS_MAX_CONTEXTS c.part ≤ s.rings.contexts.countP fun x => x.2 == c.part + 1 then (s, some ⟨2, 2, 0, none⟩)
    else
      let s : State := { s with rings := { s.rings with contexts := spSet 0 s.rings.contexts i (c.part + 1) } }
      (s.setFld F.BC_STATUS_CONTEXTS 0 (s.fld F.BC_STATUS_CONTEXTS + 1), some ⟨0, 0, i, none⟩)

def execCtxOpen (ring : BitVec 14) (d : Desc) (s : State) : Host.Outcome State Fault Refusal :=
  .next (s.command ring d 0x0001 ctxOpenBody)

/-- R408: a CTX_CLOSE of the context waits for commands in progress. -/
def State.ctxClosing (s : State) (ctx : Nat) : Bool := s.rings.closing.any fun c => c.only.isNone && c.ctx == ctx

/-- CTX_CLOSE (R408). A context that is being closed is no longer there to close. -/
def ctxCloseBody (s : State) (c : Cmd) : State × Option Reply :=
  if s.ctxClosing c.ctx then (s, some ⟨2, 0, 0, none⟩)
  else
    let g : Closing := ⟨c.ring, c.d, c.ctx, none⟩
    let s := (s.closingRings g).foldl (fun (s : State) r => s.setRing r { s.ring r with stopped := true }) s
    (s.closeRun g, none)

def execCtxClose (ring : BitVec 14) (d : Desc) (s : State) : Host.Outcome State Fault Refusal :=
  .next (s.command ring d 0x0002 ctxCloseBody)

/-- R396: the bytes of a ring. -/
def ringBytes (l : Nat) : Nat := 64 + 96 * 2 ^ l

/-- The aperture blocks of a ring's area. -/
def ringBlocks (off l : Nat) : List Nat := (List.range ((off % 65536 + ringBytes l + 65535) / 65536)).map fun i => off / 65536 + i

/-- R414: the area overlaps another ring of the channel, or a block mapped otherwise. -/
def State.ringClash (s : State) (ch off l part : Nat) : Bool :=
  (s.rings.table.any fun x => x.2.valid && x.2.chan == ch && decide (x.2.off < off + ringBytes l) &&
    decide (off < x.2.off + ringBytes x.2.l)) ||
  (ringBlocks off l).any fun k =>
    let e := s.wmap ch k
    F.TH_WMAP_VALID.get e == 1 && (F.TH_WMAP_KIND.get e != 0 || F.TH_WMAP_PART.get e != part)

/-- R414: the blocks of the area that are not mapped take free SRAM blocks, lowest first, as KIND ring. -/
def State.mapRing (s : State) (ch off l part ctx : Nat) : State :=
  let need := (ringBlocks off l).filter fun k => F.TH_WMAP_VALID.get (s.wmap ch k) == 0
  (need.zip s.freeBlocks).foldl (fun (s : State) x => s.mapBlock ch x.1 x.2 0 part ctx) s

/-- R414: a ring's slots start zeroed. -/
def State.clearRing (s : State) (ch off l : Nat) : State :=
  (ringBlocks off l).foldl (fun (s : State) k =>
    let lo := max off (65536 * k)
    match s.backed ch lo with
    | some a => s.clearRange a (min (off + ringBytes l) (65536 * (k + 1)) - lo)
    | none => s) s

/-- RING_CREATE (R414). -/
def ringCreateBody (s : State) (c : Cmd) : State × Option Reply :=
  let ch := (s.ring c.ring).chan
  let off := c.w 4
  let l := c.w 5 % 16
  match (List.range 16384).find? fun r => decide (2 ≤ r) && !(s.ring r).valid with
  | none => (s, some ⟨3, 1, 0, none⟩)
  | some r =>
    if s.freeBlocks.length < (ringBlocks off l).countP fun k => F.TH_WMAP_VALID.get (s.wmap ch k) == 0 then (s, some ⟨3, 2, 0, none⟩)
    else if s.ctxClosing c.ctx then (s, some ⟨2, 0, 0, none⟩)
    else if l < 4 ∨ 10 < l ∨ off % 1024 ≠ 0 ∨ off < 0x10000 ∨ 0x1000000 < off + ringBytes l then (s, some (lenRange 0))
    else if s.ringClash ch off l c.part then (s, some (conflict 0))
    else
      let s := (s.mapRing ch off l c.part c.ctx).clearRing ch off l
      let s := s.setRing r { Ring.reset with valid := true, chan := ch, off := off, l := l, attn := hasBit (c.w 5) 8, part := c.part, ctx := c.ctx }
      let s := s.setFld F.BC_STATUS_RINGS 0 (s.fld F.BC_STATUS_RINGS + 1)
      (s.ringStatus r, some ⟨0, 0, r, none⟩)

def execRingCreate (ring : BitVec 14) (d : Desc) (s : State) : Host.Outcome State Fault Refusal :=
  .next (s.command ring d 0x0003 ringCreateBody)

/-- RING_DESTROY (R414). -/
def ringDestroyBody (s : State) (c : Cmd) : State × Option Reply :=
  let r := c.w 4 % 2 ^ 14
  let g := s.ring r
  if r < 2 then (s, some (denied 0))
  else if g.valid = false ∨ g.ctx ≠ c.ctx ∨ g.stopped = true then (s, some ⟨3, 0, 0, none⟩)
  else ((s.setRing r { g with stopped := true }).closeRun ⟨c.ring, c.d, c.ctx, some r⟩, none)

def execRingDestroy (ring : BitVec 14) (d : Desc) (s : State) : Host.Outcome State Fault Refusal :=
  .next (s.command ring d 0x0004 ringDestroyBody)

/-- Table BC-10: the state of a ring, 0 for a ring that does not exist. -/
def State.ringInfo (s : State) (r : Nat) : BitVec 64 :=
  let g := s.ring r
  if g.valid then
    BitVec.ofNat 64 (1 + g.chan * 2 + bit g.attn * 4 + g.l * 2 ^ 3 + g.part * 2 ^ 7 + g.ctx * 2 ^ 10 + g.off * 2 ^ 22 + g.outstanding * 2 ^ 46)
  else 0

/-- BC_RING_SEL_WRITE (R418). -/
def execBcRingSelWrite (ring : BitVec 14) (s : State) : Host.Outcome State Fault Refusal :=
  if s.dark then .next s else .next (s.setReg R.BC_RING_INFO 0 (s.ringInfo ring.toNat))

/-! ## Fetching -/

/-- Table BC-5: the command of an opcode. `meas` and `bad` are what a training and a memory test find. -/
def opBody (meas : Nat) (bad : Bool) (op : Nat) : State → Cmd → State × Option Reply :=
  match op with
  | 0x0000 => nopBody
  | 0x0001 => ctxOpenBody
  | 0x0002 => ctxCloseBody
  | 0x0003 => ringCreateBody
  | 0x0004 => ringDestroyBody
  | 0x0010 => regReadBody
  | 0x0011 => regWriteBody
  | 0x0101 => thMapEither
  | 0x0102 => thStageBody
  | 0x0103 => thStreamOpenBody
  | 0x0104 => thStreamCloseBody
  | 0x0201 => demandBody
  | 0x0202 => demandBody
  | 0x0203 => demandBody
  | 0x0204 => demandBody
  | 0x0205 => demandBody
  | 0x0301 => seqJoin
  | 0x0302 => seqAppend
  | 0x0303 => seqReset
  | 0x0304 => seqLeave
  | 0x0305 => seqQuery
  | 0x0401 => dtReleaseBody
  | 0x0501 => tvRegisterBody
  | 0x0502 => tvParamBody
  | 0x0601 => glLoadBody
  | 0x0701 => stModelBody
  | 0x0801 => pbLoadBody
  | 0x0802 => pbClearBody
  | 0x0803 => pbReleaseBody
  | 0x0901 => planLoadBody
  | 0x0902 => planLoadFillBody
  | 0x0A01 => buRestartBody
  | 0x0A02 => buResumeBody bad
  | 0x0A03 => buRetrainBody
  | 0x0B01 => pwSetCapBody
  | 0x0B02 => pwRestoreBody
  | 0x0B03 => pwSaveClearBody
  | 0x0C01 => idAttestBody
  | 0x0C02 => idCertBody
  | 0x0C03 => idFlashWriteBody
  | 0x0C04 => idLogBody
  | 0x0D01 => fbReplayBody
  | 0x0D02 => fbStopBody
  | 0x0E01 => tlRetrainBody meas
  | _ => fun s _ => (s, some (lenRange 0xFFFE))

/-- R401, R417: a ring has a descriptor that Basecamp may fetch. -/
def State.ringReady (s : State) (r : Nat) : Bool :=
  let g := s.ring r
  g.valid && !g.stopped && !(spGet false s.rings.stalled g.chan) && g.tail != g.sqHead && !(s.fenced r (s.slotDesc r g.sqHead))

/-- R401: the first band holds the management rings and the rings of P0 and P1 contexts. -/
def State.firstBand (s : State) (r : Nat) : Bool := decide (r < 2) || decide ((s.ring r).part < 2)

/-- R401: the ring that Basecamp serves next in a band: by ascending ID, after the one it served last. -/
def State.nextRing (s : State) (first : Bool) : Option Nat :=
  let rs := (s.rings.table.map fun x => x.1).filter fun r => s.firstBand r == first && s.ringReady r
  let last := spGet 0 s.rings.lastBand (bit (!first))
  (rs.find? fun r => decide (last < r)).orElse fun _ => rs.head?

/-- DESCRIPTOR_FETCH (R401, R403): Basecamp fetches the next descriptor from window SRAM, and rejects it or runs its command. -/
def execDescriptorFetch (meas : BitVec 11) (bad : Bool) (s : State) : Host.Outcome State Fault Refusal :=
  if s.dark then .next s
  else
  let pick := (s.nextRing true).orElse fun _ => s.nextRing false
  .next (match pick with
    | none => s
    | some r =>
      let d := s.slotDesc r (s.ring r).sqHead
      let s : State := { s with rings := { s.rings with lastBand := spSet 0 s.rings.lastBand (bit (!s.firstBand r)) r } }
      match s.takeSlot r with
      | none => s
      | some s =>
        (s.record 0x06 r (leBytes 64 d.toNat ++ words [r]) 7).startDesc r d true (opBody meas.toNat bad (B.DESC_OPCODE.get d.toNat)))

end Sys2Proof.Machine
end

