-- ==== Sys2Proof/Machine/Replay.lean ====
section
/-! DEFINITION. Replay (22 R486–R490): how a bench applies each record of a recording. The start and the end of a replay stand in Book.lean. -/

namespace Sys2Proof.Machine

/-! ## Payloads -/

/-- Word `k` of a payload of words. -/
def payWord (p : List Byte) (k : Nat) : Nat := leNat ((p.drop (8 * k)).take 8)
def payWords (p : List Byte) : List Nat := (List.range (p.length / 8)).map fun k => payWord p k

/-! ## The records that a recorded latch took -/

/-- The other one of two buffers, where any has been published. -/
def otherSide (x : Nat) : Nat := if x = 1 then 2 else if x = 2 then 1 else 0

/-- Stream `n` with the slot buffer that holds SEQ `q` as its published one, if either does. -/
def State.slotSide (s : State) (n q : Nat) : State :=
  let u := s.stream' n
  let has (x : Nat) : Bool := x != 0 && B.SHDR_SEQ.get (s.rdLe (slotBuffer n (x - 1)) 64) == q
  if has u.side then s else if has (otherSide u.side) then s.setSideAt (.stream n) (otherSide u.side) else s

/-- Feature slot `k` with the buffer that holds SEQ `q` as its published one, if either does. -/
def State.featSide (s : State) (k q : Nat) : State :=
  let x := spGet 0 s.datum.sides k
  let has (x : Nat) : Bool :=
    x != 0 && B.FHDR_SEQ.get (s.rdLe (s.dtOffset F.DT_BASE_FEAT_BASE + k * 16384 + (x - 1) * 8192) 64) == q
  if has x then s
  else if has (otherSide x) then s.setSideAt (.feature k) (otherSide x) else s

/-- Problem `j` with the output buffer whose STEP is `q` as its published one, if either is. -/
def State.outSide (s : State) (j q : Nat) : State :=
  let x := spGet 0 s.traverse.out j
  let has (x : Nat) : Bool := x != 0 && B.TVO_STEP.get (s.rdLe (s.tvOutAt j (x - 1)) 256) == q
  if has x then s
  else if has (otherSide x) then s.setSideAt (.out j) (otherSide x) else s

/-- The fused-state buffer of frame `f` as the published one, if either is of that frame. -/
def State.fusedSide (s : State) (f : Nat) : State :=
  let x := s.datum.out
  let has (x : Nat) : Bool := x != 0 && s.rdLe (s.dtOffset F.DT_BASE_OUT_BASE + (x - 1) * 128 * 1024) 6 == f
  if has x then s else if has (otherSide x) then s.setSideAt .fused (otherSide x) else s

/-- Every published buffer exchanged for the one before it. -/
def State.before (s : State) : State :=
  { s with
    datum := { s.datum with out := otherSide s.datum.out }
    traverse := { s.traverse with
      out := s.traverse.out.map fun (e : Nat × Nat) => (e.1, otherSide e.2)
      lin := s.traverse.lin.map fun (e : Nat × Nat) => (e.1, otherSide e.2) }
    stadia := { s.stadia with side := otherSide s.stadia.side } }

/-! ## LATCH records -/

/-- R246: the rows of Datum's latch record: source, SEQ, instant frame, class, and the age in ticks. -/
def datumRows : List Nat → List (Nat × Nat × Option Nat × Nat × Nat)
  | n :: q :: i :: c :: t :: rest => (n, q, if i = 2 ^ 48 - 1 then none else some i, c, t) :: datumRows rest
  | _ => []

/-- R246: what a recorded latch of frame `m` took from source `n`. -/
def State.takeRecorded (s : State) (m : Nat) (rows : List (Nat × Nat × Option Nat × Nat × Nat)) (n : Nat) : Option DatumRec :=
  match rows.find? fun r => r.1 == n with
  | none => none
  | some (_, q, i, c, t) =>
    let v := if n < 48 then s.slotSide n q else s.featSide (n - 48) q
    (v.takeSource m n).map fun r => { r with
      instant := i
      age := ageFrames m i
      cls := c
      ticks := t }

/-- R288: triples of source key, SEQ and FRAME of Traverse's latch record. -/
def tvTriples : List Nat → List (Nat × Nat × Nat)
  | k :: q :: f :: rest => (k, q, f) :: tvTriples rest
  | _ => []

/-- R288: the records that a recorded latch of problem `j` took. -/
def State.tvRecorded (s : State) (j : Nat) (ts : List (Nat × Nat × Nat)) : List (Nat × Nat) :=
  ts.filterMap fun t =>
    let fits (a : Nat) : Bool := s.tvSeqOf t.1 a == t.2.1 && s.tvFrameOf t.1 a == t.2.2
    match s.tvSourceAt j t.1, s.before.tvSourceAt j t.1 with
    | some a, some b => some (t.1, if !(fits a) && fits b then b else a)
    | some a, none => some (t.1, a)
    | none, _ => none

/-- The outputs of a channel with SAMPLE `q`, of those last written and those before them. -/
def GlChan.outputOf (c : GlChan) (q : Nat) : Option GlOut :=
  match c.y with
  | some o => if o.sample = q then some o else c.yOld
  | none => none

/-- R315: one channel's part of Guyline's latch record: the buffers it read as the published ones, and the words after it. -/
def State.glViews (s : State) (k : Nat) (log : List Nat) : State × List Nat :=
  let b := if s.flag F.GL_CH_STAT_PENDING k then 1 - s.fld F.GL_CH_STAT_BANK k else s.fld F.GL_CH_STAT_BANK k
  let bs := (s.glChan k).bank b
  (List.range (glHead bs).nu).foldl (fun (acc : State × List Nat) j =>
    let e := glInput bs j
    let n := B.GIN_INDEX.get e
    match B.GIN_SRC.get e, acc.2 with
    | 1, m :: q :: rest => if m = n ∧ (acc.1.published n).isSome then (acc.1.slotSide n q, rest) else acc
    | 2, m :: q :: _ :: rest => if m = n ∧ (acc.1.tvPublished n).isSome then (acc.1.outSide n q, rest) else acc
    | 3, f :: rest => if acc.1.fused.isSome then (acc.1.fusedSide f, rest) else acc
    | 4, m :: q :: rest =>
      let c := acc.1.glChan n
      if m = n ∧ c.y.isSome then (acc.1.setGlChan n { c with y := c.outputOf q }, rest) else acc
    | _, _ => acc) (s, log.drop 1)

/-- R315: the channels of a recorded latch trigger on the records that it took. -/
def State.glReplay (s : State) (mask : Nat) (log : List Nat) : State :=
  let ks := bitsOf 64 mask
  s.glTriggers (ks.foldl (fun (acc : State × List Nat) k => acc.1.glViews k acc.2) (s, log)).1 ks

/-- R315: the outputs that a recorded latch read have been written on the bench. -/
def State.glWritten (s : State) (ks : List Nat) (log : List Nat) : Bool :=
  (ks.foldl (fun (acc : Bool × List Nat) k =>
    let b := if s.flag F.GL_CH_STAT_PENDING k then 1 - s.fld F.GL_CH_STAT_BANK k else s.fld F.GL_CH_STAT_BANK k
    let bs := (s.glChan k).bank b
    (List.range (glHead bs).nu).foldl (fun (acc : Bool × List Nat) j =>
      let e := glInput bs j
      let n := B.GIN_INDEX.get e
      match B.GIN_SRC.get e, acc.2 with
      | 1, m :: _ :: rest => if m = n then (acc.1, rest) else acc
      | 2, m :: _ :: _ :: rest => if m = n then (acc.1, rest) else acc
      | 3, _ :: rest => if s.fused.isSome then (acc.1, rest) else acc
      | 4, m :: q :: rest =>
        if m = n then (acc.1 && (match (s.glChan n).y with | some o => decide (q ≤ o.sample) | none => false), rest) else acc
      | _, _ => acc) (acc.1, acc.2.drop 1)) (true, log)).1

/-- R288, R315, R349: a recorded latch waits until the bench unit has ended what it did before. -/
def State.latchReady (s : State) (ws : List Nat) : Bool :=
  match ws with
  | 6 :: _ => s.datum.stage == 0
  | 7 :: _ => s.traverse.run.all fun r => decide (6 ≤ r.phase)
  | 8 :: _ :: mask :: log => ((bitsOf 64 mask).all fun k => (s.glChan k).cur.isNone) && s.glWritten (bitsOf 64 mask) log
  | 9 :: _ => s.stadia.stage == 0
  | _ => true

/-- R246, R288, R315, R349, R488: a LATCH record replaces the bench's own latch. -/
def State.latchReplay (s : State) (ws : List Nat) : State :=
  match ws with
  | 6 :: m :: rows => (s.datumFrame m s.clk.fclk).datumLatch m fun t n => t.takeRecorded m (datumRows rows) n
  | 7 :: j :: k :: _ :: bank :: ts =>
    { s with traverse := { s.traverse with recent := [] } }.tvLatch j k (bank != s.fld F.TV_PROB_STAT_BANK j) fun t =>
      t.tvRecorded j (tvTriples ts)
  | 8 :: _ :: mask :: log => s.glReplay mask log
  | 9 :: _ => (s.stadiaFrame s.clk.fclk).stLatch
  | _ => s

/-! ## The other records -/

/-- R488: a recorded sample becomes visible. -/
def State.sampleReplay (s : State) (p : List Byte) : State :=
  let x := leNat (p.take 64)
  let i := B.SHDR_STREAM.get x
  let seq := B.SHDR_SEQ.get x
  let data := (p.drop 64).take (B.SHDR_LEN.get x)
  let buf := s.ringBuffer i seq
  let s := if s.inline i then s
    else ((s.wrMarked buf (p.take 64) false).wrMarked (buf + 64) data false).classLines 1 1 (linesOf 0 (64 + data.length))
  let s := s.wrMarked (slotBuffer i (s.backOf (.stream i))) (p.take 64 ++ (if s.inline i then data else [])) false
  let s := s.flip (.stream i)
  let s := s.setStream' i { s.stream' i with begun := seq + 1 }
  (s.bump F.SN_STREAM_CNT_PUBLISHED i).record 0x04 i (p.take 64 ++ data) (B.SHDR_DOMAIN.get x)

/-- R488: a recorded descriptor runs. On the bench's ring it counts as posted, and the oldest completion as consumed where the ring is
full. What a training or a memory test found on the recording module is not recorded and stays open. -/
def State.commandReplay (s : State) (p : List Byte) : State :=
  let d : Desc := BitVec.ofNat 512 (leNat (p.take 64))
  let r := payWord p 8
  let op := B.DESC_OPCODE.get d.toNat
  let g := s.ring r
  if g.valid then
    let s := s.setRing r { g with
      tail := (g.tail + 1) % 65536
      sqHead := (g.sqHead + 1) % 65536
      cqHead := if g.outstanding < g.size then g.cqHead else (g.cqHead + 1) % 65536 }
    let s := s.ringStatus r
    let (v, s) := if op = 0x0A02 ∨ op = 0x0E01 then s.fresh else (0, s)
    (s.record 0x06 r (leBytes 64 d.toNat ++ words [r]) 7).startDesc r d false (opBody (v.toNat % 2 ^ 11) (hasBit v.toNat 11) op)
  else s

/-- R485, R488: a drained streaming line, or the block that a digest stands for, reaches DDR4. `none`: the side data's digest differs. -/
def State.streamReplay (s : State) (r : Replay) (p : List Byte) : Option State :=
  let a := payWord p 0
  if 80 ≤ p.length then
    let bs := (p.drop 16).take 64
    some ((s.landUnit a bs false).record 0x08 0 (words [a, s.fld F.PL_STEP_STEP] ++ bs) 2)
  else
    let n := payWord p 1
    let bs := s.rdBytes (r.side + r.sidePos) n
    if r.sidePos + n ≤ r.sideLen ∧ digest bs = leNat ((p.drop 16).take 32) then
      let s := (List.range (n / 64)).foldl (fun (s : State) k => s.landUnit (a + 64 * k) ((bs.drop (64 * k)).take 64) false) s
      let s := s.record 0x08 0 (words [a, n] ++ (p.drop 16).take 32) 2
      some { s with book := { s.book with replay := some { r with sidePos := r.sidePos + n } } }
    else none

/-- R488: DDR records inject poison and marks (entry 5 gives their words). -/
def State.ddrReplay (s : State) (ch line dev outcome : Nat) : State :=
  let a := ddrGlobal ch (64 * line)
  match outcome with
  | 3 => s.setChan ch { s.chan ch with bad := (s.chan ch).bad ++ [a] }
  | 4 => s.markRange a 64 true
  | 6 => ((s.setFld F.DR_MARK_DEVICE ch dev).setFlag F.DR_MARK_VALID ch).record 0x0D ch (words [ch, line, dev, 6, s.fld F.PL_STEP_STEP]) 3
  | _ => s

/-- R488: the lots of a RESTORE record. `n` bounds their number. -/
def restoreReplay : Nat → State → List Byte → State
  | 0, s, _ => s
  | n + 1, s, p =>
    if 16 + 65536 ≤ p.length then
      let bs := (p.drop 16).take 65536
      restoreReplay n (s.restoreLot (payWord p 0) (payWord p 1) ((List.range 65536).zip bs)) (p.drop (16 + 65536))
    else s

/-- R488: a recorded hold is reproduced, with its length. -/
def State.holdReplay (s : State) (entry len : Nat) : State :=
  let s := s.raiseHold (entry % 16) (some (s.clk.aclk + len))
  match s.book.replay with
  | some r => { s with book := { s.book with replay := some { r with reproduced := true } } }
  | none => s

/-- What becomes of a record: the bench waits, the replay ends for a reason, or it goes on. -/
inductive Applied where
  | waits (s : State)
  | ends (s : State) (why : Nat)
  | goes (s : State)

/-- R489: a PUBLISH record is compared with the bench's publication of the same buffer, and awaited under a hold where it is missing. -/
def State.publishReplay (s : State) (r : Replay) (p : List Byte) : Applied :=
  match r.pubs.find? fun q => q.take 16 == p.take 16 with
  | none => .waits (if s.held then s else s.raiseHold 8 none)
  | some q =>
    let s : State := { s with book := { s.book with replay := some { r with pubs := r.pubs.erase q } } }
    let s := s.clearHold 8
    if Sys2Proof.Machine.padUnit q = p then .goes s else .ends s 2

/-- R488: record of kind `k` with payload `p`. Kinds that the plan cannot observe change nothing. -/
def State.applyRecord (s : State) (r : Replay) (k : Nat) (p : List Byte) : Applied :=
  let ws := payWords p
  let w (i : Nat) : Nat := ws.getD i 0
  match k with
  | 0x02 => .goes (s.frameStart (w 0 == 0) (w 0 == 0) s.clk.aclk)
  | 0x04 => .goes (s.sampleReplay p)
  | 0x06 => .goes (s.commandReplay p)
  | 0x07 => .goes ((s.wrMarked (w 0) ((p.drop 16).take 32) false).record 0x07 0 (words [w 0, s.fld F.PL_STEP_STEP] ++ (p.drop 16).take 32) 2)
  | 0x08 => match s.streamReplay r p with
    | some s => .goes s
    | none => .ends s 3
  | 0x09 => .goes (s.condShow (w 0 % 64) (w 1) s.clk.aclk)
  | 0x0A => .goes (s.holdReplay (w 0) (w 1))
  | 0x0D => .goes (s.ddrReplay (w 0 % 8) (w 1) (w 2) (w 3))
  | 0x10 => if s.latchReady ws then .goes (s.latchReplay ws) else .waits s
  | 0x11 => s.publishReplay r p
  | 0x13 =>
    if w 0 = 4 then
      if s.stadia.updWaits && decide (w 3 ≤ s.stadia.checked + s.stadia.rechecked) then .goes (s.stApply s.clk.fclk) else .waits s
    else .goes s
  | 0x15 => .goes ((restoreReplay (p.length / 65536) s p).record 0x15 0 p 2)
  | _ => .goes s

/-- The replay's position after a record of `n` bytes, with what it leaves of a payload to be continued. -/
def State.replayMove (s : State) (n recno : Nat) (part : List Byte) : State :=
  match s.book.replay with
  | some r => { s with book := { s.book with replay := some { r with
      pos := r.pos + n
      recno := recno
      part := part } } }
  | none => s

/-- R488–R490: the record at the replay's position, if its ACYC has come. -/
def State.replayNext (s : State) (r : Replay) : State :=
  match s.nextHead r with
  | none => s.replayEnd 0
  | some h =>
    let n := 32 * B.FBR_LEN.get h
    let bs := s.rdBytes (r.base + r.pos) n
    let zeroed := leBytes 32 (h - B.FBR_CRC.put (B.FBR_CRC.get h)) ++ bs.drop 32
    let recno := B.FBR_RECNO.get h
    if r.acyc < B.FBR_ACYC.get h then s
    else if n = 0 ∨ r.len < r.pos + n ∨ crc32c zeroed ≠ B.FBR_CRC.get h then (s.replayMove 0 recno []).replayEnd 4
    else if B.FBR_KIND.get h = 0x16 then (s.replayMove 0 recno []).replayEnd 1
    else
      let p := (if B.FBR_CONT.get h = 1 then r.part else []) ++ bs.drop 32
      if B.FBR_MORE.get h = 1 then s.replayMove n recno p
      else match s.applyRecord r (B.FBR_KIND.get h) p with
        | .waits s => s
        | .ends s why => (s.replayMove n recno []).replayEnd why
        | .goes s => (s.replayMove n recno []).replayGo

/-- REPLAY_RECORD_APPLY (R488): after `dt` ACLK cycles the next record of the recording is applied. -/
def execReplayRecordApply (dt : Nat) (s : State) : Host.Outcome State Fault Refusal :=
  if s.dark then .next s
  else
  let s := s.tickA dt
  .next (match s.book.replay with
    | none => s
    | some r => s.replayNext r)

end Sys2Proof.Machine
end

