-- ==== Sys2Proof/Machine/HostBus.lean ====
section
/-! DEFINITION. The host bus (17 R375–R389, 18 R397–R399, R417, 19 R420, R428, 25 R534): LPDDR5 commands, the channel aperture with its boot page,
ring memory, windows and streaming apertures, and doorbells. -/

namespace Sys2Proof.Machine

/-! ## Counted drops -/

/-- R380: an unbacked access. The first one since UNBACKED was last cleared is latched. -/
def State.unbacked (s : State) (ch off : Nat) (wr : Bool) : State :=
  let s := if s.trail.latched then s
    else ({ s with trail := { s.trail with latched := true } }).setReg R.TH_UNBACKED 0
      (BitVec.ofNat 64 (off % 2 ^ 31 + ch * 2 ^ 31 + bit wr * 2 ^ 32 + s.frameNum % 2 ^ 31 * 2 ^ 33))
  let s := (s.bump F.TH_COUNTS_UNBACKED).setFlag (if wr then F.TH_STATUS_UNBACKED_WR else F.TH_STATUS_UNBACKED)
  s.attn F.TH_ATTN_UNBACKED

/-- R388, R375: a masked burst is dropped. -/
def State.maskDrop (s : State) : State := (s.bump F.TH_COUNTS_MASK_DROP).setFlag F.TH_STATUS_MASK_DROP
/-- R388: a streaming burst beyond credit is dropped. -/
def State.overrunDrop (s : State) (i : Nat) : State :=
  let w := s.wstream i
  let s := s.setWstream i { w with overrun := w.overrun + 1 }
  ((s.bump F.TH_COUNTS_OVERRUN).setFlag F.TH_STATUS_OVERRUN).attn F.TH_ATTN_OVERRUN

/-! ## Doorbells -/

/-- R397: a host count may move to `c`: forwards, with at most SIZE descriptors outstanding. -/
def Ring.tailOk (g : Ring) (c : Nat) : Bool :=
  decide (g.outstanding ≤ (c + 65536 - g.cqHead) % 65536) && decide ((c + 65536 - g.cqHead) % 65536 ≤ g.size)
def Ring.headOk (g : Ring) (c : Nat) : Bool := decide ((g.tail + 65536 - c) % 65536 ≤ g.outstanding)

/-- R417: the first accepted doorbell after the channel has been trained again lets Basecamp fetch. -/
def State.resumeFetch (s : State) (ch : Nat) : State :=
  if spGet false s.rings.stalled ch && (s.hostLane ch).trained then
    ({ s with rings := { s.rings with stalled := spSet false s.rings.stalled ch false } }).setFld F.BC_STATUS_DEPARTED 0
      (putBit (s.fld F.BC_STATUS_DEPARTED) ch false)
  else s

/-- R397, R399: a doorbell of channel `ch`. -/
def State.doorbell (s : State) (ch : Nat) (v : DWord) : State :=
  let r := v.toNat % 2 ^ 14
  let c := v.toNat / 2 ^ 16 % 2 ^ 16
  let g := s.ring r
  if g.valid = false ∨ g.chan ≠ ch then s.bump F.BC_COUNTS_BAD_DOORBELL
  else if hasBit v.toNat 14 then
    if g.headOk c then ((s.setRing r { g with cqHead := c }).ringStatus r).resumeFetch ch else s.badDoorbell r
  else if g.tailOk c then ((s.setRing r { g with tail := c }).ringStatus r).resumeFetch ch
  else s.badDoorbell r

/-- DOORBELL (R399). A masked write is ignored (R384). -/
def execDoorbell (ch : HostChan) (v : DWord) (masked : Bool) (s : State) : Host.Outcome State Fault Refusal :=
  if s.isOff then .next s else .next (if masked then s else s.doorbell ch.val v)

/-! ## The boot page -/

/-- R389: a host write to TH_COMMIT of stream `i`. -/
def State.commitWrite (s : State) (i : Nat) (v : DWord) : State :=
  let c := v.toNat
  if s.flag F.TH_STREAM_OPEN i && c % 64 == 0 && decide (s.fld F.TH_COMMIT_COMMIT i ≤ c) && decide (c ≤ s.drained i + s.stageSize i) then
    s.setFld F.TH_COMMIT_COMMIT i c
  else ((s.bump F.TH_COUNTS_COMMIT_BAD).setFlag F.TH_STATUS_COMMIT_BAD).attn F.TH_ATTN_OVERRUN

/-- TH_COMMIT_WRITE (R389). -/
def execThCommitWrite (ch : HostChan) (a : BitVec 6) (v : DWord) (s : State) : Host.Outcome State Fault Refusal :=
  if s.isOff then .next s else .next (s.commitWrite (64 * ch.val + a.toNat) v)

/-- What training finds at the peers of the tether ports, open to the model. -/
def peersOf (x y z : BitVec 64) : List (Option TetherPeer) :=
  [x, y, z].map fun v => if v.getLsbD 63 then some ⟨v.extractLsb' 0 2, v.extractLsb' 2 40, v.extractLsb' 42 11⟩ else none

/-- R420: a host write of BC_STEP. What S3 and S4 find on the module's side is open. -/
def State.stepWrite (s : State) (v : DWord) : State :=
  let (m, s) := s.fresh
  let (x, s) := s.fresh
  let (y, s) := s.fresh
  let (z, s) := s.fresh
  s.stepRequest ⟨F.BC_STEP_STEP.get v, F.BC_STEP_SEQ.get v, F.BC_STEP_SAVED.get v, F.BC_STEP_HOST_RD_ERR.get v, m.toNat % 256, peersOf x y z⟩

/-- Table TH-4: the register behind a boot-page word of channel `ch`. -/
def bootReg (ch off : Nat) : Option (RegArr × Nat) :=
  if off = 0 ∨ (0x1000 ≤ off ∧ off < 0x4000) then regAt 0x11 (off + 65536 * ch)
  else if off < 0x1000 then regAt 0x11 off
  else none

/-- R428: the parts `m` of a scratch block, of the `full` that make it whole, have been touched; the answer says whether it is whole now. -/
def soakTouch (t : List (Nat × Nat)) (b m full : Nat) : List (Nat × Nat) × Bool :=
  let x := spGet 0 t b ||| m
  if x = full then (spSet 0 t b 0, true) else (spSet 0 t b x, false)

/-- The bytes of a scratch block. -/
def HostLane.block (l : HostLane) (b : Nat) : List Byte := spRange 0 l.scratch (64 * b) 64

/-- R428: from the end of S3 the port checks every fully written block. -/
def State.soakWrite (s : State) (ch o : Nat) : State :=
  if s.done < 3 then s
  else
    let l := s.hostLane ch
    let b := o / 64
    let (t, whole) := soakTouch l.soakWr b (2 ^ (o % 64 / 8)) 0xFF
    let s := s.setHostLane ch { l with soakWr := t }
    if whole then
      let s := s.bump F.BC_SOAK_WR_BLOCKS ch
      let bs := l.block b
      if crc32c (bs.take 60) = leNat (bs.drop 60) then s else (s.bump F.BC_SOAK_WR_ERR ch).faultAt (siteHost ch)
    else s

/-- R428: from the end of S3 the port counts the blocks read in both halves. -/
def State.soakRead (s : State) (ch o : Nat) : State :=
  if s.done < 3 then s
  else
    let l := s.hostLane ch
    let (t, whole) := soakTouch l.soakRd (o / 64) (2 ^ (o % 64 / 32)) 3
    let s := s.setHostLane ch { l with soakRd := t }
    if whole then s.bump F.BC_SOAK_RD_BLOCKS ch else s

/-- R384: a host write of the boot-page word at `off`. -/
def State.bootWrite (s : State) (ch off : Nat) (v : DWord) : State :=
  if 0x8000 ≤ off then s.doorbell ch v
  else if 0x4000 ≤ off then
    let l := s.hostLane ch
    (s.setHostLane ch { l with scratch := spWrite 0 l.scratch (off - 0x4000) (leBytes 8 v.toNat) }).soakWrite ch (off - 0x4000)
  else match bootReg ch off with
    | none => s.unbacked ch off true
    | some (r, i) =>
      if r = R.BC_STEP then s.stepWrite v
      else if r = R.TH_COMMIT then s.commitWrite i v
      else if r = R.TH_ATTN then (s.writeReg r i v).updateAttn
      else if r = R.TH_STATUS then
        let s := s.writeReg r i v
        if v.getLsbD 0 then { s with trail := { s.trail with latched := false } } else s
      else s.unbacked ch off true

/-- BOOT_PAGE_WRITE (R384). -/
def execBootPageWrite (ch : HostChan) (off : BitVec 16) (v : DWord) (masked : Bool) (s : State) : Host.Outcome State Fault Refusal :=
  if s.isOff then .next s else .next (if masked then s else s.bootWrite ch.val (off.toNat / 8 * 8) v)

/-- R380, R384: a host read of the boot-page word at `off`. -/
def State.bootRead (s : State) (ch off : Nat) : List Byte × State :=
  if 0x8000 ≤ off then (leBytes 8 0, s)
  else if 0x4000 ≤ off then (spRange 0 (s.hostLane ch).scratch (off - 0x4000) 8, s)
  else match bootReg ch off with
    | some (r, i) => let (v, s) := s.readReg r i; (leBytes 8 v.toNat, s)
    | none => (leBytes 8 0, s.unbacked ch off false)

/-! ## The aperture -/

/-- R455: the port serves everything, and not the boot page alone. -/
def State.portServes (s : State) : Bool := s.power.supply == .on || s.power.supply == .hot

/-- R377: the aperture offset of a burst. -/
def burstOffset (row bank col : Nat) : Nat := row * 32768 + bank * 2048 + col * 32

/-- R398: a host write to a status block or a completion slot. -/
def State.ringGuard (s : State) (ch off : Nat) : Bool :=
  s.rings.table.any fun x => x.2.valid && x.2.chan == ch &&
    ((decide (x.2.off ≤ off) && decide (off < x.2.off + 64)) ||
     (decide (x.2.off + 64 + 64 * x.2.size ≤ off) && decide (off < x.2.off + 64 + 96 * x.2.size)))

/-- R487: in replay a host write lands only in the channel's management ring. -/
def State.mgmtArea (s : State) (ch off : Nat) : Bool :=
  let g := s.ring ch
  g.valid && decide (g.off ≤ off) && decide (off < g.off + 64 + 96 * g.size)

/-- R379–R381, R385: a host read of the 32-byte unit at an aperture offset. -/
def State.unitRead (s : State) (ch off : Nat) : List Byte × State :=
  if off < 65536 then
    let (bs, s) := [0, 8, 16, 24].foldl (fun (acc : List Byte × State) k =>
      let (b, t) := acc.2.bootRead ch (off + k); (acc.1 ++ b, t)) ([], s)
    (bs, if 0x4000 ≤ off ∧ off < 0x8000 then s.soakRead ch (off - 0x4000) else s)
  else
    match if s.portServes && F.TH_WMAP_FILLING.get (s.wmap ch (off / 65536)) == 0 then s.backed ch off else none with
    | some a => (s.rdBytes a 32, s)
    | none => (List.replicate 32 0, s.unbacked ch off false)

/-- The bytes of a unit after a write of `data`; bit k of `mask` masks byte k. -/
def mergeUnit (old : List Byte) (data : BitVec 256) (mask : Nat) : List Byte :=
  (List.range 32).map fun k => if hasBit mask k then old.getD k 0 else data.extractLsb' (8 * k) 8

/-- R387, R388: a burst at offset `o` of the streaming aperture of stream `i`. -/
def State.streamBurst (s : State) (ch off i : Nat) (data : BitVec 256) (mask : Nat) : State :=
  let o := off % 2 ^ 24
  let b := s.drained i
  let p := b + (o + 2 ^ 24 - b % 2 ^ 24) % 2 ^ 24
  if s.flag F.TH_STREAM_OPEN i = false then s.unbacked ch off true
  else if mask ≠ 0 then s.maskDrop
  else if p < s.fld F.TH_COMMIT_COMMIT i ∨ b + s.stageSize i ≤ p then s.overrunDrop i
  else s.wrMarked (sramBase + s.fld F.TH_STREAM_STAGE_FIRST i * 65536 + p % s.stageSize i) (mergeUnit [] data 0) false

/-- R394: a host write lands in window SRAM, and Field Book records the unit. -/
def State.hostLand (s : State) (a : Nat) (data : BitVec 256) (mask : Nat) : State :=
  let bs := mergeUnit (s.rdBytes a 32) data mask
  (s.wrMarked a bs (mask != 0 && s.poisonAt a)).record 0x07 0 (words [a, s.fld F.PL_STEP_STEP] ++ bs) 2

/-- R375: write DBI is on (MR3 OP[7]), so that masked writes are not supported (PRESUMED place of the bit, JESD209-5B). -/
def HostLane.writeDbi (l : HostLane) : Bool := hasBit (spGet 0 l.modes 3) 7

/-- R379, R380, R382, R384, R398: a host write of a 32-byte unit. -/
def State.unitWrite (s : State) (ch off : Nat) (data : BitVec 256) (mask : Nat) : State :=
  if off < 65536 then
    if mask ≠ 0 ∧ (s.hostLane ch).writeDbi = true then s.maskDrop
    else [0, 8, 16, 24].foldl (fun (s : State) k =>
      if mask / 2 ^ k % 256 = 0 then s.bootWrite ch (off + k) (data.extractLsb' (8 * k) 64) else s) s
  else if s.portServes = false ∨ (s.flag F.FB_STATUS_REPLAYING = true ∧ s.mgmtArea ch off = false) then s.unbacked ch off true
  else if 0x4000_0000 ≤ off then s.streamBurst ch off (64 * ch + (off - 0x4000_0000) / 2 ^ 24) data mask
  else match s.backed ch off with
    | none => s.unbacked ch off true
    | some a =>
      if F.TH_WMAP_KIND.get (s.wmap ch (off / 65536)) = 2 ∨ s.ringGuard ch off = true then s.unbacked ch off true
      else if mask ≠ 0 ∧ (s.hostLane ch).writeDbi = true then s.maskDrop
      else s.hostLand a data mask

/-! ## LPDDR5 commands (Table TH-2) -/

/-- ACT (R376). -/
def execAct (ch : HostChan) (bank : Fin 16) (row : BitVec 16) (s : State) : Host.Outcome State Fault Refusal :=
  if s.isOff then .next s
  else
  let l := s.hostLane ch
  .next (s.setHostLane ch { l with rows := spSet 0 l.rows bank row.toNat })

/-- PRE (R376): no effect. -/
def execPre (_ : HostChan) (s : State) : Host.Outcome State Fault Refusal :=
  if s.isOff then .next s else .next s

/-- R376: the aperture offset at the bank's row register. -/
def State.hostOffset (s : State) (ch bank col : Nat) : Nat := burstOffset (spGet 0 (s.hostLane ch).rows bank) bank col

/-- Data that the host reads. -/
def State.setDq (s : State) (ch : Nat) (bs : List Byte) : State := s.setHostLane ch { s.hostLane ch with dq := bs }

/-- RD (R377, R381). -/
def execRd (ch : HostChan) (bank : Fin 16) (col : BitVec 6) (s : State) : Host.Outcome State Fault Refusal :=
  if s.isOff then .next s
  else
  let (bs, s) := s.unitRead ch (s.hostOffset ch bank col.toNat)
  .next (s.setDq ch bs)

/-- WR (R377, R382). -/
def execWr (ch : HostChan) (bank : Fin 16) (col : BitVec 6) (data : BitVec 256) (s : State) : Host.Outcome State Fault Refusal :=
  if s.isOff then .next s else .next (s.unitWrite ch (s.hostOffset ch bank col.toNat) data 0)

/-- MWR (R377, R375). -/
def execMwr (ch : HostChan) (bank : Fin 16) (col : BitVec 6) (data : BitVec 256) (mask : BitVec 32) (s : State) :
    Host.Outcome State Fault Refusal :=
  if s.isOff then .next s else .next (s.unitWrite ch (s.hostOffset ch bank col.toNat) data mask.toNat)

/-- REF (R376): no effect. -/
def execRef (_ : HostChan) (s : State) : Host.Outcome State Fault Refusal :=
  if s.isOff then .next s else .next s

/-- PDE (R376): power-down entry and exit have no effect. -/
def execPde (_ : HostChan) (s : State) : Host.Outcome State Fault Refusal :=
  if s.isOff then .next s else .next s

/-- R417: TH_STATUS and BC_STATUS show which channels are in self-refresh. -/
def State.showIdle (s : State) (ch : Nat) (v : Bool) : State :=
  let s := s.setHostLane ch { s.hostLane ch with idle := v }
  let m := putBit (s.fld F.BC_STATUS_HOST_IDLE) ch v
  (s.setFld F.BC_STATUS_HOST_IDLE 0 m).setFld F.TH_STATUS_HOST_IDLE 0 (bit (m != 0))

/-- SRE (R376, R417): host idle. -/
def execSre (ch : HostChan) (s : State) : Host.Outcome State Fault Refusal :=
  if s.isOff then .next s else .next ((s.showIdle ch true).record 0x14 ch (words [ch, 1]) 2)

/-- SRX (R376): the end of host idle. -/
def execSrx (ch : HostChan) (s : State) : Host.Outcome State Fault Refusal :=
  if s.isOff then .next s else .next (s.showIdle ch false)

/-- R417: the host departs on a channel. -/
def State.depart (s : State) (ch : Nat) : State :=
  let s := s.setHostLane ch { s.hostLane ch with
    asleep := true
    trained := false }
  let s : State := { s with rings := { s.rings with stalled := spSet false s.rings.stalled ch true } }
  let s := (s.setFld F.BC_STATUS_DEPARTED 0 (putBit (s.fld F.BC_STATUS_DEPARTED) ch true)).setFlag F.TH_STATUS_DEPARTED
  s.record 0x14 ch (words [ch, 2]) 2

/-- R393: the channel leaves deep sleep; the host must train it again. -/
def State.wake (s : State) (ch : Nat) : State := s.setHostLane ch { s.hostLane ch with asleep := false }

/-- DSM_ENTRY (R376, R417). -/
def execDsmEntry (ch : HostChan) (s : State) : Host.Outcome State Fault Refusal :=
  if s.isOff then .next s else .next (s.depart ch)

/-- DSM_EXIT (R393). -/
def execDsmExit (ch : HostChan) (s : State) : Host.Outcome State Fault Refusal :=
  if s.isOff then .next s else .next (s.wake ch)

/-- Table TH-3: the read-only mode registers. -/
def fixedMode (mr : Nat) : Option Nat :=
  match mr with
  | 4 => some 0x03
  | 5 => some 0xFF
  | 6 => some 0x01
  | 7 => some 0x00
  | 8 => some 0x18
  | _ => none

/-- MRW (R378). -/
def execMrw (ch : HostChan) (mr : BitVec 7) (v : Byte) (s : State) : Host.Outcome State Fault Refusal :=
  if s.isOff then .next s
  else
  let l := s.hostLane ch
  .next (if (fixedMode mr.toNat).isSome then s else s.setHostLane ch { l with modes := spSet 0 l.modes mr.toNat v.toNat })

/-- MRR (R378). -/
def execMrr (ch : HostChan) (mr : BitVec 7) (s : State) : Host.Outcome State Fault Refusal :=
  if s.isOff then .next s else .next (s.setDq ch [BitVec.ofNat 8 ((fixedMode mr.toNat).getD (spGet 0 (s.hostLane ch).modes mr.toNat))])

/-- LPDDR5_TRAINING_COMMAND (R376, R424): what a memory device does with it. WFF closes write training. What RDC and an RFF of an empty FIFO
answer is open. -/
def execLpddr5TrainingCommand (ch : HostChan) (t : TrainCmd) (s : State) : Host.Outcome State Fault Refusal :=
  if s.isOff then .next s
  else
  let l := s.hostLane ch
  match t with
  | .cas => .next (s.setHostLane ch { l with synced := true })
  | .zq => .next s
  | .cbt on => .next (s.setHostLane ch { l with cbt := on })
  | .wff data => .next (s.setHostLane ch { l with
      fifo := l.fifo ++ [leBytes 32 data.toNat]
      trained := true })
  | .rdc => .next (s.setDq ch (leBytes 32 (Config.freeFn 73 (l.modes.flatMap fun e => [e.1, e.2]))))
  | .rff =>
    match l.fifo with
    | bs :: rest => .next (s.setHostLane ch { l with
        fifo := rest
        dq := bs })
    | [] =>
      let (x, s) := s.fresh
      .next (s.setDq ch (leBytes 32 (Config.freeFn 74 [x.toNat])))

/-- BAD_CMD (R375): an unsupported command is ignored and counted. -/
def execBadCmd (_ : HostChan) (s : State) : Host.Outcome State Fault Refusal :=
  if s.isOff then .next s else .next ((s.bump F.TH_COUNTS_BAD_CMD).setFlag F.TH_STATUS_BAD_CMD)

/-- HOST_RESET_N (R534): low, the mode and training registers take their reset values and the host departs; high, the channel wakes. -/
def execHostResetN (ch : HostChan) (low : Bool) (s : State) : Host.Outcome State Fault Refusal :=
  if s.isOff then .next s
  else
  if low then
    .next ((s.setHostLane ch { s.hostLane ch with
      modes := []
      fifo := []
      synced := false
      cbt := false }).depart ch)
  else .next (s.wake ch)

end Sys2Proof.Machine
end

