-- ==== Sys2Proof/Machine/Pins.lean ====
section
/-! DEFINITION. Supply, control pins, straps, the test access port and the SAFE_STOP outputs (25): power-up and power-down, the cold start, and
what their rows do. -/

namespace Sys2Proof.Machine

/-! ## Power up and down -/

/-- R431, R432: the repair overlay, with the pending substitutions that a cold start makes: a failed engine and its core's spare. -/
def State.coldOverlay (s : State) : List (Nat × Nat) :=
  s.bring.overlay ++ s.bring.subs.filterMap fun x =>
    match s.servedBy x.1 with
    | some n => if s.spareFree (n / 8) then some (n, 8) else none
    | none => none

/-- R419, R529: without power the module keeps its flash, the MRAM store with its save slots, saved DDR4 settings and repair overlay, and the
levels on its own pins. A save in progress leaves its slot without a valid CRC. -/
def State.powerOff (s : State) : State :=
  let t := if s.ident.program.isEmpty then s else s.flashCut
  let r := State.reset
  { r with
    pending := s.pending
    free := t.free
    ident := { r.ident with flash := t.ident.flash }
    power := { r.power with
      supply := .off
      slots := s.power.slots }
    bring := { r.bring with overlay := s.coldOverlay }
    ddr := s.ddr.filterMap fun (x : Nat × DdrChan) =>
      if x.2.saved.isSome then some (x.1, { DdrChan.reset with saved := x.2.saved }) else none
    pins := { r.pins with
      vin := s.pins.vin
      nreset := s.pins.nreset
      modPg := false } }

/-- R419, R468, R529: with VIN in range and NRESET high, S0 begins; the fingerprint gives the identity seed. -/
def State.powerUp (s : State) (seed : Option (BitVec 256)) : State :=
  if s.power.supply = .off ∧ s.pins.vin = true ∧ s.pins.nreset = false then
    { s with
      power := { s.power with supply := .starting }
      ident := { s.ident with seed := seed.map fun x => x.toNat } }
  else s

/-- POWER_ON (R419): VIN comes into range. -/
def execPowerOn (seed : Option (BitVec 256)) (s : State) : Host.Outcome State Fault Refusal :=
  .next ({ s with pins := { s.pins with vin := true } }.powerUp seed)

/-- S0_COMPLETE (R530, R531): the rails are up, the straps are sampled, and MOD_PG is asserted. -/
def execS0Complete (jtag wpN : Bool) (s : State) : Host.Outcome State Fault Refusal :=
  if s.power.supply = .starting then
    .next { s with
      power := { s.power with supply := .on }
      pins := { s.pins with
        modPg := true
        strapJtag := jtag
        flashWpN := wpN } }
  else .next s

/-- NRESET_ASSERT (R529): every regulator is off. -/
def execNresetAssert (s : State) : Host.Outcome State Fault Refusal :=
  let s : State := { s with pins := { s.pins with nreset := true } }
  .next s.powerOff

/-- NRESET_RELEASE (R529): the module powers up as it does when VIN is applied. -/
def execNresetRelease (seed : Option (BitVec 256)) (s : State) : Host.Outcome State Fault Refusal :=
  .next ({ s with pins := { s.pins with nreset := false } }.powerUp seed)

/-- REGULATOR_FAULT (R530). -/
def execRegulatorFault (s : State) : Host.Outcome State Fault Refusal :=
  .next { s with pins := { s.pins with modPg := false } }

/-- VIN_TURN_OFF (R537): the regulators that VIN feeds turn off. A save in progress goes on from the hold-up bank (R457). -/
def execVinTurnOff (s : State) : Host.Outcome State Fault Refusal :=
  let s : State := { s with pins := { s.pins with vin := false } }
  .next (if s.power.saving.isSome then s else s.powerOff)

/-! ## The test access port (R532) -/

/-- A scan of the register of an instruction: `captured` is what the register captures, cell nearest TDO first; `scan` is shifted in. The
answer is what the register holds at the end. Without STRAP_JTAG the port is held in Test-Logic-Reset. -/
def State.scan (s : State) (op : JtagOp) (captured scan : List Bool) : State × List Bool :=
  let out := (captured ++ scan).take scan.length
  ({ s with pins := { s.pins with
      ir := op
      tdo := out } }, (captured ++ scan).drop scan.length)

/-- R531, R532: the port runs in boundary-scan mode only. -/
def State.jtagOn (s : State) : Bool := s.pins.strapJtag && s.power.supply == .on

/-- An instruction that selects the bypass register, which captures 0. -/
def State.bypassScan (s : State) (op : JtagOp) (scan : List Bool) : State :=
  if s.jtagOn then (s.scan op [false] scan).1 else s

/-- An instruction that selects the boundary register: what it holds at the end goes to the update latches. -/
def State.boundaryScan (s : State) (op : JtagOp) (cells scan : List Bool) : State :=
  if s.jtagOn then
    let (s, held) := s.scan op cells scan
    { s with pins := { s.pins with cells := held } }
  else s

/-- R532: the IDCODE. -/
def idcodeBits : List Bool := (List.range 32).map fun k => hasBit 0x17D08A3B k

/-- BYPASS (R532). -/
def execBypass (scan : List Bool) (s : State) : Host.Outcome State Fault Refusal := .next (s.bypassScan .bypass scan)
/-- SAMPLE_PRELOAD (R532): `cells` are the levels on the contacts. -/
def execSamplePreload (cells scan : List Bool) (s : State) : Host.Outcome State Fault Refusal :=
  .next (s.boundaryScan .samplePreload cells scan)
/-- EXTEST (R532): the update latches drive the contacts. -/
def execExtest (cells scan : List Bool) (s : State) : Host.Outcome State Fault Refusal := .next (s.boundaryScan .extest cells scan)
/-- IDCODE (R532). -/
def execIdcode (scan : List Bool) (s : State) : Host.Outcome State Fault Refusal :=
  .next (if s.jtagOn then (s.scan .idcode idcodeBits scan).1 else s)
/-- HIGHZ (R532): every output is inactive. -/
def execHighz (scan : List Bool) (s : State) : Host.Outcome State Fault Refusal := .next (s.bypassScan .highz scan)
/-- CLAMP (R532): the update latches drive the outputs. -/
def execClamp (scan : List Bool) (s : State) : Host.Outcome State Fault Refusal := .next (s.bypassScan .clamp scan)

/-! ## The SAFE_STOP outputs (R526) -/

/-- R526, R355: an energised line goes off by itself; its readback differs from its command, which is a MONITOR fault. -/
def State.lineDrops (s : State) (lineB : Bool) : State :=
  if (if lineB then s.plumb.lineB else s.plumb.lineA) then
    let s : State := { s with plumb := { s.plumb with rbBad := true } }
    (s.setFld (if lineB then F.PB_STATUS_RB_B else F.PB_STATUS_RB_A) 0 0).latchClass 2 3
  else s

/-- SAFE_VREF_FALL (R526): the supply of a line falls. -/
def execSafeVrefFall (lineB : Bool) (s : State) : Host.Outcome State Fault Refusal := .next (s.lineDrops lineB)
/-- CURRENT_LIMIT_SWITCH_OFF (R526): a line has stayed in current limit for 2 ms. -/
def execCurrentLimitSwitchOff (lineB : Bool) (s : State) : Host.Outcome State Fault Refusal := .next (s.lineDrops lineB)

end Sys2Proof.Machine
end

