-- ==== Sys2Proof/Machine/Slots.lean ====
section
/-! DEFINITION. What the windows of the DDR4 slots move (02 R34, R35, 05 R122, 06 R154–R157): GRANT lines and the write buffer, and the
retries after a device's alert. -/

namespace Sys2Proof.Machine

/-! ## Lines of a running transfer -/

/-- The ACLK cycle in which a unit of a DDR4 transfer is written on the die: the cycle before the next command's, so that the next read sees
it (DESIGN CHOICE, entry 55: no rule relates an MCLK cycle to an ACLK cycle more closely). -/
def State.ddrCycle (s : State) : Nat := s.clk.aclk - 1

/-- R122: a DDR4 line with first unit `k` is read for a transfer: its units go to their destination on the die, or wait for the write GRANT
of a destination in DDR4. -/
def State.grantRead (s : State) (x : Transfer) (k : Nat) : Transfer × State :=
  let (us, s) := s.readLine x k s.ddrCycle
  if (endLines x.rdst x.len).isEmpty then
    (x, us.foldl (fun (s : State) u => s.writeUnit x u.1 u.2 s.ddrCycle) s)
  else ({ x with carry := x.carry ++ us }, s)

/-- The units that a destination line with first unit `k` takes. -/
def Transfer.lineUnits (x : Transfer) (k : Nat) : List Nat := if x.rdst.coded then [k, k + 1] else [k]

/-- The data of a destination line are at hand: its source lies on the die, or its lines have been read. -/
def Transfer.ready (x : Transfer) (k : Nat) : Bool :=
  (endLines x.rsrc x.len).isEmpty || (x.lineUnits k).all fun u => x.carry.any fun y => y.1 == u

/-- R122: a DDR4 line with first unit `k` is written for a transfer. -/
def State.grantWrite (s : State) (x : Transfer) (k : Nat) : Transfer × State :=
  if (endLines x.rsrc x.len).isEmpty then
    let (us, s) := (x.lineUnits k).foldl (fun (acc : List MoveUnit × State) u =>
      let (v, s) := acc.2.readUnit x u acc.2.ddrCycle
      (acc.1 ++ [v], s)) ([], s)
    (x, s.writeLine x k us s.ddrCycle)
  else
    let us := (x.lineUnits k).map fun u => ((x.carry.find? fun y => y.1 == u).map fun y => y.2).getD MoveUnit.poisoned
    ({ x with carry := x.carry.filter fun y => !((x.lineUnits k).contains y.1) }, s.writeLine x k us s.ddrCycle)

/-- A step of the running transfer of core `c`, under the tags it started with. -/
def State.onHead (s : State) (c : Nat) (f : Transfer → State → Transfer × State) : State :=
  match s.queue c with
  | [] => s
  | x :: rest =>
    let now := s.sched.regions
    let s := match x.tags with | some r => { s with sched := { s.sched with regions := r } } | none => s
    let (x, s) := f x s
    { (s.setQueue c (x :: rest)) with sched := { s.sched with regions := now } }

/-! ## The write buffer -/

/-- R156: the line failed and waits to be written again. -/
def DdrChan.failed (d : DdrChan) (l : WLine) : Bool := d.fails.any fun f => f.1 == 2 * (ddrLocal l.addr / 64)

/-- The first `n` lines of a list that `p` names, and the others. -/
def takeWhere (p : WLine → Bool) : Nat → List WLine → List WLine × List WLine
  | _, [] => ([], [])
  | 0, xs => ([], xs)
  | n + 1, x :: xs =>
    if p x then let (a, b) := takeWhere p n xs; (x :: a, b)
    else let (a, b) := takeWhere p (n + 1) xs; (a, x :: b)

/-- R154: up to `n` buffered lines that `p` names leave for the pins. -/
def State.drainWbuf (s : State) (ch n : Nat) (p : WLine → Bool) : State :=
  let d := s.chan ch
  let (out, rest) := takeWhere p n d.wbuf
  (s.setChan ch { d with wbuf := rest, sent := d.sent ++ out }).setFld F.DR_STATUS_WBUF ch rest.length

/-- R154: the places of the buffer that a line of a slice of P0 or P1, or of another partition, may take: 64 of the 256 are kept for the
former. -/
def DdrChan.room (d : DdrChan) (prot : Bool) : Nat :=
  if prot then 256 - d.wbuf.length else min (256 - d.wbuf.length) (192 - d.wbuf.countP fun l => !l.prot)

/-- R156, R157: a window begins: what the last one wrote has been accepted, so its lines leave the buffer and their failures are
forgotten; reads that have been issued again since are no longer failing. -/
def State.windowBegins (s : State) (ch : Nat) : State :=
  let d := s.chan ch
  let waiting := s.stow.queues.flatMap fun q => q.2.flatMap fun x => x.again.map fun y => 2 * (ddrLocal y.1 / 64) + 1
  let kept (f : Nat × Nat) : Bool :=
    if f.1 % 2 = 1 then waiting.contains f.1 else d.wbuf.any fun l => 2 * (ddrLocal l.addr / 64) == f.1
  s.setChan ch { d with sent := [], fails := d.fails.filter kept }

/-- R33, R122, R154–R156: a GRANT window of `w.mcyc` MCLK cycles. Lines that failed are written again first, and lost reads are issued
again; then come the reads of the core's running transfer, at 2 cycles a line. Its writes enter the buffer at 2.5 cycles a line while it has
room, and buffered lines of the core leave for the pins, at 2.5 cycles a line, in the time that the reads leave. Lines count in the slot word's
class (R219). That reads go first is the model's reading (entry 55). -/
def State.grantWindow (s : State) (ch : Nat) (w : SlotRun) : State :=
  let s := s.windowBegins ch
  let mine (l : WLine) : Bool := l.core == some w.core
  let d := s.chan ch
  let redo := min (d.wbuf.countP fun l => mine l && d.failed l) (2 * w.mcyc / 5)
  let s := s.drainWbuf ch redo fun l => mine l && d.failed l
  let left := w.mcyc - (5 * redo + 1) / 2
  -- Reads.
  let x := (s.queue w.core).head?
  let again := ((x.map fun x => (linesOnChan x.rsrc x.len ch).filter fun l => x.again.any fun y => y.1 == l.1).getD []).take (left / 2)
  let s := again.foldl (fun (s : State) l => s.onHead w.core fun x s =>
    s.grantRead { x with again := x.again.filter fun y => y.1 != l.1 } l.2) s
  let left := left - 2 * again.length
  let reads := ((x.map fun x => x.readsLeft ch).getD []).take (left / 2)
  let s := reads.foldl (fun (s : State) l => s.onHead w.core fun x s =>
    let (x, s) := s.grantRead x l.2
    ({ x with got := spSet 0 x.got ch (x.moved ch + 1) }, s)) s
  let left := left - 2 * reads.length
  -- Writes.
  let prot := (x.map fun x => decide (x.part < 2)).getD false
  let d := s.chan ch
  let leaving := min (2 * left / 5) (d.wbuf.countP mine)
  let ready := (((s.queue w.core).head?.map fun x => (x.writesLeft ch).takeWhile fun l => x.ready l.2).getD [])
  let writes := ready.take (min (2 * w.mcyc / 5) (d.room prot + leaving))
  let s := writes.foldl (fun (s : State) l =>
    let s := s.onHead w.core fun x s =>
      let (x, s) := s.grantWrite x l.2
      ({ x with got := spSet 0 x.got (8 + ch) (x.moved (8 + ch) + 1) }, s)
    let d := s.chan ch
    s.setChan ch { d with wbuf := d.wbuf ++ [⟨l.1, prot, some w.core⟩] }) s
  (s.drainWbuf ch (2 * left / 5) mine).classLines w.part w.klass (reads.length + writes.length)

/-- R34, R154: an OPEN window, or the controller's own service: buffered lines leave, those that failed first; and a calibration that is owed is
made (Table PL-8). -/
def State.openWindow (s : State) (ch mcyc : Nat) : State :=
  let s := s.windowBegins ch
  let d := s.chan ch
  let n := 2 * mcyc / 5
  let redo := min n (d.wbuf.countP d.failed)
  let s := (s.drainWbuf ch redo d.failed).drainWbuf ch (n - redo) fun _ => true
  let d := s.chan ch
  if d.zqAt + 102400000 ≤ s.clk.mclk then s.setChan ch { d with zqAt := s.clk.mclk } else s

/-- SLOT_WINDOW_END (R34): after `dt` MCLK cycles the running window of the channel ends, if its length has passed, and frees
its place. In standalone service the controller then refreshes as its debt requires (R542). -/
def execSlotWindowEnd (ch : ChanId) (dt : Nat) (s : State) : Host.Outcome State Fault Refusal :=
  if s.coreDark then .next s
  else
  let s := s.passM dt
  match (s.chan ch.val).slots with
  | [] => .next s
  | w :: rest =>
    if s.clk.mclk < w.start.getD s.clk.mclk + w.mcyc then .next s
    else
      let s :=
        if w.dop = 1 then s.grantWindow ch.val w
        else if w.dop = 2 then (s.windowBegins ch.val).refresh ch.val 1
        else if w.dop = 3 then
          let s := s.windowBegins ch.val
          s.setChan ch.val { s.chan ch.val with zqAt := s.clk.mclk }
        else s.openWindow ch.val w.mcyc
      let next := match rest with
        | [] => []
        | x :: xs => { x with start := some s.clk.mclk } :: xs
      let s := s.setChan ch.val { s.chan ch.val with slots := next }
      let s := if s.standalone ch.val then s.refresh ch.val 8 else s
      .next s.placeHeld

/-- STANDALONE_SERVICE (R542): for `dt` MCLK cycles the controller serves its channel by itself: between slot windows the channel is an
open slot, and the controller refreshes as its debt requires and calibrates once per 128 ms. -/
def execStandaloneService (ch : ChanId) (dt : Nat) (s : State) : Host.Outcome State Fault Refusal :=
  if s.coreDark then .next s
  else
  let s := s.passM dt
  .next (if s.standalone ch.val && (s.chan ch.val).slots.isEmpty then (s.openWindow ch.val dt).refresh ch.val 8 else s)

/-! ## Retries -/

/-- R157: the failures in a row of a command on `line`, with this one. -/
def State.failCount (s : State) (ch key : Nat) : Nat := ((s.chan ch).fails.find? fun f => f.1 == key).elim 1 fun f => f.2 + 1

def State.setFails (s : State) (ch key n : Nat) : State :=
  let d := s.chan ch
  let rest := d.fails.filter fun f => f.1 != key
  s.setChan ch { d with fails := if n = 0 then rest else rest ++ [(key, n)] }

/-- R157: a command is given up: its lane site is lasting at once and the channel is retrained. -/
def State.giveUp (s : State) (ch lane : Nat) : State :=
  let s := s.setFlag F.DR_STATUS_LINK_FAULT ch
  let i := siteLane ch lane
  (if (s.site i).lasting then s else s.declareLasting i).retrainStart ch

/-- R156, R157: the write of a line failed. It goes to the front of the buffer, to be written again in a slot that it may use; the third
failure in a row leaves the line holding poison. -/
def State.writeFails (s : State) (ch line lane : Nat) : State :=
  let a := ddrGlobal ch (64 * line)
  let n := s.failCount ch (2 * line)
  let d := s.chan ch
  let was := (d.sent ++ d.wbuf).find? fun l => l.addr == a
  let others := d.wbuf.filter fun l => l.addr != a
  let sent := d.sent.filter fun l => l.addr != a
  if n < 3 then
    ((s.setChan ch { d with wbuf := was.getD ⟨a, false, none⟩ :: others, sent := sent }).setFld F.DR_STATUS_WBUF ch (others.length + 1)).setFails
      ch (2 * line) n
  else
    (((s.setChan ch { d with wbuf := others, sent := sent }).setFld F.DR_STATUS_WBUF ch others.length).setFails ch (2 * line) 0).markRange a 64
      true |>.giveUp ch lane

/-- The cores whose running transfer has read the line at `a` from DDR4. -/
def State.readersOf (s : State) (ch a : Nat) : List Nat :=
  (List.range 16).filter fun c => match (s.queue c).head? with
    | some x => ((linesOnChan x.rsrc x.len ch).take (x.moved ch)).any fun l => l.1 == a
    | none => false

/-- R156, R157: a read of a line was lost. The transfer that made it reads the line again in its core's next GRANT; the third failure in a row
delivers the line with poison. -/
def State.readFails (s : State) (ch line lane : Nat) : State :=
  let a := ddrGlobal ch (64 * line)
  let key := 2 * line + 1
  let n := s.failCount ch key
  let cs := s.readersOf ch a
  if n < 3 then
    let s := s.setFails ch key n
    cs.foldl (fun (s : State) c => s.onHead c fun x s =>
      ({ x with again := (x.again.filter fun y => y.1 != a) ++ [(a, s.clk.mclk)] }, s)) s
  else
    let s := s.setFails ch key 0
    let s := s.setChan ch { s.chan ch with bad := (s.chan ch).bad ++ [a] }
    let s := cs.foldl (fun (s : State) c => s.onHead c fun x s =>
      match (linesOnChan x.rsrc x.len ch).find? fun l => l.1 == a with
      | some l => s.grantRead { x with again := x.again.filter fun y => y.1 != a } l.2
      | none => (x, s)) s
    s.giveUp ch lane

/-- WRITE_CRC_ALERT (R156, R157): a device reports a write CRC error on byte lane `lane` for the write of `line`. -/
def execWriteCrcAlert (ch : ChanId) (lane : Fin 10) (line : BitVec 28) (s : State) : Host.Outcome State Fault Refusal :=
  if s.coreDark then .next s
  else .next (((s.setFlag F.DR_STATUS_CRC_RETRY ch.val).faultAt (siteLane ch.val lane.val)).writeFails ch.val line.toNat lane.val)

/-- CA_PARITY_ALERT (R156, R157): a device reports a CA parity error; the command on `line` is lost and issued again. -/
def execCaParityAlert (ch : ChanId) (line : BitVec 28) (read : Bool) (s : State) : Host.Outcome State Fault Refusal :=
  if s.coreDark then .next s
  else
    let s := (s.setFlag F.DR_STATUS_CA_RETRY ch.val).faultAt (siteLane ch.val 10)
    .next (if read then s.readFails ch.val line.toNat 10 else s.writeFails ch.val line.toNat 10)

end Sys2Proof.Machine
end

