-- ==== Sys2Proof/Machine/Units.lean ====
section
/-! DEFINITION. The engine operations of Table EA-1 and the vector operations of Table NF-3 as commands: a slice of one core runs for
`n` ACLK cycles with the row's operation. What a cycle does stands in Array.lean and Vector.lean. -/

namespace Sys2Proof.Machine

/-- MAC_SS (R60): A run accumulates signed weight times signed activation products in each cell. -/
def execMacSs (c : CoreId) (sl : SliceBits) (n : Nat) (s : State) : Host.Outcome State Fault Refusal :=
  if s.coreDark then .next s else .next (s.sliceRow c.val (engPart sl.toNat 0x01) n)

/-- MAC_SU (R60): A run accumulates signed weight times unsigned activation products in each cell. -/
def execMacSu (c : CoreId) (sl : SliceBits) (n : Nat) (s : State) : Host.Outcome State Fault Refusal :=
  if s.coreDark then .next s else .next (s.sliceRow c.val (engPart sl.toNat 0x02) n)

/-- MAC_BIN (R60): A run accumulates +1 or -1 per cell as binary operand bits agree or differ. -/
def execMacBin (c : CoreId) (sl : SliceBits) (n : Nat) (s : State) : Host.Outcome State Fault Refusal :=
  if s.coreDark then .next s else .next (s.sliceRow c.val (engPart sl.toNat 0x03) n)

/-- DIST_L1 (R62): A run accumulates the absolute difference of activation and weight elements. -/
def execDistL1 (c : CoreId) (sl : SliceBits) (n : Nat) (s : State) : Host.Outcome State Fault Refusal :=
  if s.coreDark then .next s else .next (s.sliceRow c.val (engPart sl.toNat 0x04) n)

/-- MINPLUS (R63): A run sets ACC to the minimum of ACC and activation plus weight per element. -/
def execMinplus (c : CoreId) (sl : SliceBits) (n : Nat) (s : State) : Host.Outcome State Fault Refusal :=
  if s.coreDark then .next s else .next (s.sliceRow c.val (engPart sl.toNat 0x05) n)

/-- MAXPLUS (R63): A run sets ACC to the maximum of ACC and activation plus weight per element. -/
def execMaxplus (c : CoreId) (sl : SliceBits) (n : Nat) (s : State) : Host.Outcome State Fault Refusal :=
  if s.coreDark then .next s else .next (s.sliceRow c.val (engPart sl.toNat 0x06) n)

/-- RETIRE (R66): A RETIRE run copies a live ACC to OUT, resets ACC and starts the drain. -/
def execRetire (c : CoreId) (sl : SliceBits) (n : Nat) (s : State) : Host.Outcome State Fault Refusal :=
  if s.coreDark then .next s else .next (s.sliceRow c.val (engPart sl.toNat 0x07) n)

/-- LOAD_ACC (R70): LOAD_ACC retires the tile, then loads ACC from 1,024 activation rows. -/
def execLoadAcc (c : CoreId) (sl : SliceBits) (n : Nat) (s : State) : Host.Outcome State Fault Refusal :=
  if s.coreDark then .next s else .next (s.sliceRow c.val (engPart sl.toNat 0x08) n)

/-- FADD (R93): Vector floating-point addition. -/
def execFadd (c : CoreId) (sl : SliceBits) (n : Nat) (s : State) : Host.Outcome State Fault Refusal :=
  if s.coreDark then .next s else .next (s.sliceRow c.val (vecPart sl.toNat 0x01) n)

/-- FSUB (R93): Vector floating-point subtraction. -/
def execFsub (c : CoreId) (sl : SliceBits) (n : Nat) (s : State) : Host.Outcome State Fault Refusal :=
  if s.coreDark then .next s else .next (s.sliceRow c.val (vecPart sl.toNat 0x02) n)

/-- FMUL (R93): Vector floating-point multiplication. -/
def execFmul (c : CoreId) (sl : SliceBits) (n : Nat) (s : State) : Host.Outcome State Fault Refusal :=
  if s.coreDark then .next s else .next (s.sliceRow c.val (vecPart sl.toNat 0x03) n)

/-- FMA (R93): Vector fused multiply-add. -/
def execFma (c : CoreId) (sl : SliceBits) (n : Nat) (s : State) : Host.Outcome State Fault Refusal :=
  if s.coreDark then .next s else .next (s.sliceRow c.val (vecPart sl.toNat 0x04) n)

/-- FMIN (R86): Vector IEEE minimum. -/
def execFmin (c : CoreId) (sl : SliceBits) (n : Nat) (s : State) : Host.Outcome State Fault Refusal :=
  if s.coreDark then .next s else .next (s.sliceRow c.val (vecPart sl.toNat 0x05) n)

/-- FMAX (R86): Vector IEEE maximum. -/
def execFmax (c : CoreId) (sl : SliceBits) (n : Nat) (s : State) : Host.Outcome State Fault Refusal :=
  if s.coreDark then .next s else .next (s.sliceRow c.val (vecPart sl.toNat 0x06) n)

/-- FDOT (R93): Per-lane fused dot product added to an FP32 accumulator. -/
def execFdot (c : CoreId) (sl : SliceBits) (n : Nat) (s : State) : Host.Outcome State Fault Refusal :=
  if s.coreDark then .next s else .next (s.sliceRow c.val (vecPart sl.toNat 0x07) n)

/-- FCMP_LT (R93): Vector floating-point less-than compare. -/
def execFcmpLt (c : CoreId) (sl : SliceBits) (n : Nat) (s : State) : Host.Outcome State Fault Refusal :=
  if s.coreDark then .next s else .next (s.sliceRow c.val (vecPart sl.toNat 0x08) n)

/-- FCMP_LE (R93): Vector floating-point less-or-equal compare. -/
def execFcmpLe (c : CoreId) (sl : SliceBits) (n : Nat) (s : State) : Host.Outcome State Fault Refusal :=
  if s.coreDark then .next s else .next (s.sliceRow c.val (vecPart sl.toNat 0x09) n)

/-- FCMP_EQ (R93): Vector floating-point equality compare. -/
def execFcmpEq (c : CoreId) (sl : SliceBits) (n : Nat) (s : State) : Host.Outcome State Fault Refusal :=
  if s.coreDark then .next s else .next (s.sliceRow c.val (vecPart sl.toNat 0x0A) n)

/-- FRECIP_EST (R94): Vector reciprocal estimate. -/
def execFrecipEst (c : CoreId) (sl : SliceBits) (n : Nat) (s : State) : Host.Outcome State Fault Refusal :=
  if s.coreDark then .next s else .next (s.sliceRow c.val (vecPart sl.toNat 0x0B) n)

/-- FRSQRT_EST (R94): Vector reciprocal square-root estimate. -/
def execFrsqrtEst (c : CoreId) (sl : SliceBits) (n : Nat) (s : State) : Host.Outcome State Fault Refusal :=
  if s.coreDark then .next s else .next (s.sliceRow c.val (vecPart sl.toNat 0x0C) n)

/-- FSUM_ERR (R93): Exact rounding error of a binary32 sum. -/
def execFsumErr (c : CoreId) (sl : SliceBits) (n : Nat) (s : State) : Host.Outcome State Fault Refusal :=
  if s.coreDark then .next s else .next (s.sliceRow c.val (vecPart sl.toNat 0x0D) n)

/-- FPROD_ERR (R93): Rounding error of a binary32 product. -/
def execFprodErr (c : CoreId) (sl : SliceBits) (n : Nat) (s : State) : Host.Outcome State Fault Refusal :=
  if s.coreDark then .next s else .next (s.sliceRow c.val (vecPart sl.toNat 0x0E) n)

/-- PAIR_ADD (R106): Addition of error-compensating pairs. -/
def execPairAdd (c : CoreId) (sl : SliceBits) (n : Nat) (s : State) : Host.Outcome State Fault Refusal :=
  if s.coreDark then .next s else .next (s.sliceRow c.val (vecPart sl.toNat 0x0F) n)

/-- PAIR_MAC (R106): Multiply-accumulate of binary32 operands into an error-compensating pair. -/
def execPairMac (c : CoreId) (sl : SliceBits) (n : Nat) (s : State) : Host.Outcome State Fault Refusal :=
  if s.coreDark then .next s else .next (s.sliceRow c.val (vecPart sl.toNat 0x10) n)

/-- IADD (R95): Wrapping integer addition. -/
def execIadd (c : CoreId) (sl : SliceBits) (n : Nat) (s : State) : Host.Outcome State Fault Refusal :=
  if s.coreDark then .next s else .next (s.sliceRow c.val (vecPart sl.toNat 0x20) n)

/-- ISUB (R95): Wrapping integer subtraction. -/
def execIsub (c : CoreId) (sl : SliceBits) (n : Nat) (s : State) : Host.Outcome State Fault Refusal :=
  if s.coreDark then .next s else .next (s.sliceRow c.val (vecPart sl.toNat 0x21) n)

/-- IADD_SAT (R95): Saturating integer addition. -/
def execIaddSat (c : CoreId) (sl : SliceBits) (n : Nat) (s : State) : Host.Outcome State Fault Refusal :=
  if s.coreDark then .next s else .next (s.sliceRow c.val (vecPart sl.toNat 0x22) n)

/-- ISUB_SAT (R95): Saturating integer subtraction. -/
def execIsubSat (c : CoreId) (sl : SliceBits) (n : Nat) (s : State) : Host.Outcome State Fault Refusal :=
  if s.coreDark then .next s else .next (s.sliceRow c.val (vecPart sl.toNat 0x23) n)

/-- IMUL (R95): Low half of an integer product. -/
def execImul (c : CoreId) (sl : SliceBits) (n : Nat) (s : State) : Host.Outcome State Fault Refusal :=
  if s.coreDark then .next s else .next (s.sliceRow c.val (vecPart sl.toNat 0x24) n)

/-- IMUL_HI (R96): High 32 bits of a signed product by an iterative multiplier. -/
def execImulHi (c : CoreId) (sl : SliceBits) (n : Nat) (s : State) : Host.Outcome State Fault Refusal :=
  if s.coreDark then .next s else .next (s.sliceRow c.val (vecPart sl.toNat 0x25) n)

/-- IMIN (R93): Integer minimum. -/
def execImin (c : CoreId) (sl : SliceBits) (n : Nat) (s : State) : Host.Outcome State Fault Refusal :=
  if s.coreDark then .next s else .next (s.sliceRow c.val (vecPart sl.toNat 0x26) n)

/-- IMAX (R93): Integer maximum. -/
def execImax (c : CoreId) (sl : SliceBits) (n : Nat) (s : State) : Host.Outcome State Fault Refusal :=
  if s.coreDark then .next s else .next (s.sliceRow c.val (vecPart sl.toNat 0x27) n)

/-- AND (R93): Vector bitwise AND. -/
def execVecAnd (c : CoreId) (sl : SliceBits) (n : Nat) (s : State) : Host.Outcome State Fault Refusal :=
  if s.coreDark then .next s else .next (s.sliceRow c.val (vecPart sl.toNat 0x28) n)

/-- OR (R93): Vector bitwise OR. -/
def execVecOr (c : CoreId) (sl : SliceBits) (n : Nat) (s : State) : Host.Outcome State Fault Refusal :=
  if s.coreDark then .next s else .next (s.sliceRow c.val (vecPart sl.toNat 0x29) n)

/-- XOR (R93): Vector bitwise XOR. -/
def execVecXor (c : CoreId) (sl : SliceBits) (n : Nat) (s : State) : Host.Outcome State Fault Refusal :=
  if s.coreDark then .next s else .next (s.sliceRow c.val (vecPart sl.toNat 0x2A) n)

/-- SHIFT_RNE (R95): Integer right shift rounded to nearest, ties to even. -/
def execShiftRne (c : CoreId) (sl : SliceBits) (n : Nat) (s : State) : Host.Outcome State Fault Refusal :=
  if s.coreDark then .next s else .next (s.sliceRow c.val (vecPart sl.toNat 0x2B) n)

/-- IDIV (R97): Signed integer quotient. -/
def execIdiv (c : CoreId) (sl : SliceBits) (n : Nat) (s : State) : Host.Outcome State Fault Refusal :=
  if s.coreDark then .next s else .next (s.sliceRow c.val (vecPart sl.toNat 0x30) n)

/-- IREM (R97): Signed integer remainder. -/
def execIrem (c : CoreId) (sl : SliceBits) (n : Nat) (s : State) : Host.Outcome State Fault Refusal :=
  if s.coreDark then .next s else .next (s.sliceRow c.val (vecPart sl.toNat 0x31) n)

/-- UDIV (R97): Unsigned integer quotient. -/
def execUdiv (c : CoreId) (sl : SliceBits) (n : Nat) (s : State) : Host.Outcome State Fault Refusal :=
  if s.coreDark then .next s else .next (s.sliceRow c.val (vecPart sl.toNat 0x32) n)

/-- UREM (R97): Unsigned integer remainder. -/
def execUrem (c : CoreId) (sl : SliceBits) (n : Nat) (s : State) : Host.Outcome State Fault Refusal :=
  if s.coreDark then .next s else .next (s.sliceRow c.val (vecPart sl.toNat 0x33) n)

/-- CVT_F32 (R88): Conversion to FP32. -/
def execCvtF32 (c : CoreId) (sl : SliceBits) (n : Nat) (s : State) : Host.Outcome State Fault Refusal :=
  if s.coreDark then .next s else .next (s.sliceRow c.val (vecPart sl.toNat 0x40) n)

/-- CVT_F16 (R88): Conversion to FP16. -/
def execCvtF16 (c : CoreId) (sl : SliceBits) (n : Nat) (s : State) : Host.Outcome State Fault Refusal :=
  if s.coreDark then .next s else .next (s.sliceRow c.val (vecPart sl.toNat 0x41) n)

/-- CVT_BF16 (R88): Conversion to BF16. -/
def execCvtBf16 (c : CoreId) (sl : SliceBits) (n : Nat) (s : State) : Host.Outcome State Fault Refusal :=
  if s.coreDark then .next s else .next (s.sliceRow c.val (vecPart sl.toNat 0x42) n)

/-- CVT_E4M3 (R88): Saturating conversion to E4M3. -/
def execCvtE4m3 (c : CoreId) (sl : SliceBits) (n : Nat) (s : State) : Host.Outcome State Fault Refusal :=
  if s.coreDark then .next s else .next (s.sliceRow c.val (vecPart sl.toNat 0x43) n)

/-- CVT_E5M2 (R88): Saturating conversion to E5M2. -/
def execCvtE5m2 (c : CoreId) (sl : SliceBits) (n : Nat) (s : State) : Host.Outcome State Fault Refusal :=
  if s.coreDark then .next s else .next (s.sliceRow c.val (vecPart sl.toNat 0x44) n)

/-- CVT_I32 (R89): Conversion to INT32 rounding to nearest even. -/
def execCvtI32 (c : CoreId) (sl : SliceBits) (n : Nat) (s : State) : Host.Outcome State Fault Refusal :=
  if s.coreDark then .next s else .next (s.sliceRow c.val (vecPart sl.toNat 0x45) n)

/-- CVT_I16 (R89): Conversion to INT16. -/
def execCvtI16 (c : CoreId) (sl : SliceBits) (n : Nat) (s : State) : Host.Outcome State Fault Refusal :=
  if s.coreDark then .next s else .next (s.sliceRow c.val (vecPart sl.toNat 0x46) n)

/-- CVT_I8 (R89): Conversion to INT8. -/
def execCvtI8 (c : CoreId) (sl : SliceBits) (n : Nat) (s : State) : Host.Outcome State Fault Refusal :=
  if s.coreDark then .next s else .next (s.sliceRow c.val (vecPart sl.toNat 0x47) n)

/-- CVT_U8 (R89): Conversion to UINT8. -/
def execCvtU8 (c : CoreId) (sl : SliceBits) (n : Nat) (s : State) : Host.Outcome State Fault Refusal :=
  if s.coreDark then .next s else .next (s.sliceRow c.val (vecPart sl.toNat 0x48) n)

/-- CVT_I32_RTZ (R89): Conversion to INT32 rounding toward zero. -/
def execCvtI32Rtz (c : CoreId) (sl : SliceBits) (n : Nat) (s : State) : Host.Outcome State Fault Refusal :=
  if s.coreDark then .next s else .next (s.sliceRow c.val (vecPart sl.toNat 0x49) n)

/-- CVT_I32_FLOOR (R89): Conversion to INT32 rounding toward minus infinity. -/
def execCvtI32Floor (c : CoreId) (sl : SliceBits) (n : Nat) (s : State) : Host.Outcome State Fault Refusal :=
  if s.coreDark then .next s else .next (s.sliceRow c.val (vecPart sl.toNat 0x4A) n)

/-- CVT_E4M3_NS (R88): Non-saturating conversion to E4M3. -/
def execCvtE4m3Ns (c : CoreId) (sl : SliceBits) (n : Nat) (s : State) : Host.Outcome State Fault Refusal :=
  if s.coreDark then .next s else .next (s.sliceRow c.val (vecPart sl.toNat 0x4B) n)

/-- CVT_E5M2_NS (R88): Non-saturating conversion to E5M2. -/
def execCvtE5m2Ns (c : CoreId) (sl : SliceBits) (n : Nat) (s : State) : Host.Outcome State Fault Refusal :=
  if s.coreDark then .next s else .next (s.sliceRow c.val (vecPart sl.toNat 0x4C) n)

/-- CVT_PAIR (R105): Conversion of FP32 to a pair (a, +0). -/
def execCvtPair (c : CoreId) (sl : SliceBits) (n : Nat) (s : State) : Host.Outcome State Fault Refusal :=
  if s.coreDark then .next s else .next (s.sliceRow c.val (vecPart sl.toNat 0x4D) n)

/-- BF_EXP4 (R99): Block exponent per lane for 4-bit mantissas, written 8 cycles after the run. -/
def execBfExp4 (c : CoreId) (sl : SliceBits) (n : Nat) (s : State) : Host.Outcome State Fault Refusal :=
  if s.coreDark then .next s else .next (s.sliceRow c.val (vecPart sl.toNat 0x60) n)

/-- BF_EXP8 (R99): Block exponent per lane for 8-bit mantissas. -/
def execBfExp8 (c : CoreId) (sl : SliceBits) (n : Nat) (s : State) : Host.Outcome State Fault Refusal :=
  if s.coreDark then .next s else .next (s.sliceRow c.val (vecPart sl.toNat 0x61) n)

/-- BF_EXP16 (R99): Block exponent per lane for 16-bit mantissas. -/
def execBfExp16 (c : CoreId) (sl : SliceBits) (n : Nat) (s : State) : Host.Outcome State Fault Refusal :=
  if s.coreDark then .next s else .next (s.sliceRow c.val (vecPart sl.toNat 0x62) n)

/-- BF_PACK4 (R100): Packs 4-bit block-float mantissas. -/
def execBfPack4 (c : CoreId) (sl : SliceBits) (n : Nat) (s : State) : Host.Outcome State Fault Refusal :=
  if s.coreDark then .next s else .next (s.sliceRow c.val (vecPart sl.toNat 0x63) n)

/-- BF_PACK8 (R100): Packs 8-bit block-float mantissas. -/
def execBfPack8 (c : CoreId) (sl : SliceBits) (n : Nat) (s : State) : Host.Outcome State Fault Refusal :=
  if s.coreDark then .next s else .next (s.sliceRow c.val (vecPart sl.toNat 0x64) n)

/-- BF_PACK16 (R100): Packs 16-bit block-float mantissas. -/
def execBfPack16 (c : CoreId) (sl : SliceBits) (n : Nat) (s : State) : Host.Outcome State Fault Refusal :=
  if s.coreDark then .next s else .next (s.sliceRow c.val (vecPart sl.toNat 0x65) n)

/-- BF_UNPACK (R100): Converts block-float mantissa and exponent to FP32. -/
def execBfUnpack (c : CoreId) (sl : SliceBits) (n : Nat) (s : State) : Host.Outcome State Fault Refusal :=
  if s.coreDark then .next s else .next (s.sliceRow c.val (vecPart sl.toNat 0x66) n)

/-- TILE_SCALE (R101): Scales drained INT32 tile sums to FP32 by row and column exponents and a factor. -/
def execTileScale (c : CoreId) (sl : SliceBits) (n : Nat) (s : State) : Host.Outcome State Fault Refusal :=
  if s.coreDark then .next s else .next (s.sliceRow c.val (vecPart sl.toNat 0x67) n)

/-- LUT_EXPAND (R102): Expands 4-bit indices through a 16-entry table to INT8. -/
def execLutExpand (c : CoreId) (sl : SliceBits) (n : Nat) (s : State) : Host.Outcome State Fault Refusal :=
  if s.coreDark then .next s else .next (s.sliceRow c.val (vecPart sl.toNat 0x68) n)

/-- NIB_G0 (R103): Writes nibble group 0 of each element as a nibble stream. -/
def execNibG0 (c : CoreId) (sl : SliceBits) (n : Nat) (s : State) : Host.Outcome State Fault Refusal :=
  if s.coreDark then .next s else .next (s.sliceRow c.val (vecPart sl.toNat 0x6C) n)

/-- NIB_G1 (R103): Writes nibble group 1 of each element as a nibble stream. -/
def execNibG1 (c : CoreId) (sl : SliceBits) (n : Nat) (s : State) : Host.Outcome State Fault Refusal :=
  if s.coreDark then .next s else .next (s.sliceRow c.val (vecPart sl.toNat 0x6D) n)

/-- NIB_G2 (R103): Writes nibble group 2 of each element as a nibble stream. -/
def execNibG2 (c : CoreId) (sl : SliceBits) (n : Nat) (s : State) : Host.Outcome State Fault Refusal :=
  if s.coreDark then .next s else .next (s.sliceRow c.val (vecPart sl.toNat 0x6E) n)

/-- NIB_G3 (R103): Writes nibble group 3 of each element as a nibble stream. -/
def execNibG3 (c : CoreId) (sl : SliceBits) (n : Nat) (s : State) : Host.Outcome State Fault Refusal :=
  if s.coreDark then .next s else .next (s.sliceRow c.val (vecPart sl.toNat 0x6F) n)

/-- HIST_DUMP (R108): Writes the 64 exponent-histogram counters and clears them. -/
def execHistDump (c : CoreId) (sl : SliceBits) (n : Nat) (s : State) : Host.Outcome State Fault Refusal :=
  if s.coreDark then .next s else .next (s.sliceRow c.val (vecPart sl.toNat 0x7F) n)

end Sys2Proof.Machine
end

