-- ==== Sys2Proof/Machine/Dispatch.lean ====
section
/-! DEFINITION. One arm for each command of the module: a direct call of its meaning. -/

namespace Sys2Proof.Machine

def exec (i : Instr) (s : State) : Host.Outcome State Fault Refusal :=
  match i with
  | .normal st dt n => Sys2Proof.Machine.execNormal st dt n s
  | .frameWait dt => Sys2Proof.Machine.execFrameWait dt s
  | .anchor dt => Sys2Proof.Machine.execAnchor dt s
  | .planOpen dt => Sys2Proof.Machine.execPlanOpen dt s
  | .planClose dt n => Sys2Proof.Machine.execPlanClose dt n s
  | .markerWait st dt n => Sys2Proof.Machine.execMarkerWait st dt n s
  | .planEnd st dt => Sys2Proof.Machine.execPlanEnd st dt s
  | .markerWaitExpiry st dt => Sys2Proof.Machine.execMarkerWaitExpiry st dt s
  | .planHoldEnd dt => Sys2Proof.Machine.execPlanHoldEnd dt s
  | .slotWindowEnd ch dt => Sys2Proof.Machine.execSlotWindowEnd ch dt s
  | .refreshDebtTick ch dt => Sys2Proof.Machine.execRefreshDebtTick ch dt s
  | .frameGo p => Sys2Proof.Machine.execFrameGo p s
  | .fillGo p => Sys2Proof.Machine.execFillGo p s
  | .fillStop p => Sys2Proof.Machine.execFillStop p s
  | .planStop p => Sys2Proof.Machine.execPlanStop p s
  | .debugEn p v => Sys2Proof.Machine.execDebugEn p v s
  | .debugHold p => Sys2Proof.Machine.execDebugHold p s
  | .debugStep p => Sys2Proof.Machine.execDebugStep p s
  | .condWriteVisible dt => Sys2Proof.Machine.execCondWriteVisible dt s
  | .plHoldLogRead => Sys2Proof.Machine.execPlHoldLogRead s
  | .rcFieldRead unit off => Sys2Proof.Machine.execRcFieldRead unit off s
  | .standaloneService ch dt => Sys2Proof.Machine.execStandaloneService ch dt s
  | .macSs c sl n => Sys2Proof.Machine.execMacSs c sl n s
  | .macSu c sl n => Sys2Proof.Machine.execMacSu c sl n s
  | .macBin c sl n => Sys2Proof.Machine.execMacBin c sl n s
  | .distL1 c sl n => Sys2Proof.Machine.execDistL1 c sl n s
  | .minplus c sl n => Sys2Proof.Machine.execMinplus c sl n s
  | .maxplus c sl n => Sys2Proof.Machine.execMaxplus c sl n s
  | .retire c sl n => Sys2Proof.Machine.execRetire c sl n s
  | .loadAcc c sl n => Sys2Proof.Machine.execLoadAcc c sl n s
  | .drainRowWrite n => Sys2Proof.Machine.execDrainRowWrite n s
  | .move c sl => Sys2Proof.Machine.execMove c sl s
  | .segmentLoad c sl => Sys2Proof.Machine.execSegmentLoad c sl s
  | .transferComplete c dt => Sys2Proof.Machine.execTransferComplete c dt s
  | .fadd c sl n => Sys2Proof.Machine.execFadd c sl n s
  | .fsub c sl n => Sys2Proof.Machine.execFsub c sl n s
  | .fmul c sl n => Sys2Proof.Machine.execFmul c sl n s
  | .fma c sl n => Sys2Proof.Machine.execFma c sl n s
  | .fmin c sl n => Sys2Proof.Machine.execFmin c sl n s
  | .fmax c sl n => Sys2Proof.Machine.execFmax c sl n s
  | .fdot c sl n => Sys2Proof.Machine.execFdot c sl n s
  | .fcmpLt c sl n => Sys2Proof.Machine.execFcmpLt c sl n s
  | .fcmpLe c sl n => Sys2Proof.Machine.execFcmpLe c sl n s
  | .fcmpEq c sl n => Sys2Proof.Machine.execFcmpEq c sl n s
  | .frecipEst c sl n => Sys2Proof.Machine.execFrecipEst c sl n s
  | .frsqrtEst c sl n => Sys2Proof.Machine.execFrsqrtEst c sl n s
  | .fsumErr c sl n => Sys2Proof.Machine.execFsumErr c sl n s
  | .fprodErr c sl n => Sys2Proof.Machine.execFprodErr c sl n s
  | .pairAdd c sl n => Sys2Proof.Machine.execPairAdd c sl n s
  | .pairMac c sl n => Sys2Proof.Machine.execPairMac c sl n s
  | .iadd c sl n => Sys2Proof.Machine.execIadd c sl n s
  | .isub c sl n => Sys2Proof.Machine.execIsub c sl n s
  | .iaddSat c sl n => Sys2Proof.Machine.execIaddSat c sl n s
  | .isubSat c sl n => Sys2Proof.Machine.execIsubSat c sl n s
  | .imul c sl n => Sys2Proof.Machine.execImul c sl n s
  | .imulHi c sl n => Sys2Proof.Machine.execImulHi c sl n s
  | .imin c sl n => Sys2Proof.Machine.execImin c sl n s
  | .imax c sl n => Sys2Proof.Machine.execImax c sl n s
  | .vecAnd c sl n => Sys2Proof.Machine.execVecAnd c sl n s
  | .vecOr c sl n => Sys2Proof.Machine.execVecOr c sl n s
  | .vecXor c sl n => Sys2Proof.Machine.execVecXor c sl n s
  | .shiftRne c sl n => Sys2Proof.Machine.execShiftRne c sl n s
  | .idiv c sl n => Sys2Proof.Machine.execIdiv c sl n s
  | .irem c sl n => Sys2Proof.Machine.execIrem c sl n s
  | .udiv c sl n => Sys2Proof.Machine.execUdiv c sl n s
  | .urem c sl n => Sys2Proof.Machine.execUrem c sl n s
  | .cvtF32 c sl n => Sys2Proof.Machine.execCvtF32 c sl n s
  | .cvtF16 c sl n => Sys2Proof.Machine.execCvtF16 c sl n s
  | .cvtBf16 c sl n => Sys2Proof.Machine.execCvtBf16 c sl n s
  | .cvtE4m3 c sl n => Sys2Proof.Machine.execCvtE4m3 c sl n s
  | .cvtE5m2 c sl n => Sys2Proof.Machine.execCvtE5m2 c sl n s
  | .cvtI32 c sl n => Sys2Proof.Machine.execCvtI32 c sl n s
  | .cvtI16 c sl n => Sys2Proof.Machine.execCvtI16 c sl n s
  | .cvtI8 c sl n => Sys2Proof.Machine.execCvtI8 c sl n s
  | .cvtU8 c sl n => Sys2Proof.Machine.execCvtU8 c sl n s
  | .cvtI32Rtz c sl n => Sys2Proof.Machine.execCvtI32Rtz c sl n s
  | .cvtI32Floor c sl n => Sys2Proof.Machine.execCvtI32Floor c sl n s
  | .cvtE4m3Ns c sl n => Sys2Proof.Machine.execCvtE4m3Ns c sl n s
  | .cvtE5m2Ns c sl n => Sys2Proof.Machine.execCvtE5m2Ns c sl n s
  | .cvtPair c sl n => Sys2Proof.Machine.execCvtPair c sl n s
  | .bfExp4 c sl n => Sys2Proof.Machine.execBfExp4 c sl n s
  | .bfExp8 c sl n => Sys2Proof.Machine.execBfExp8 c sl n s
  | .bfExp16 c sl n => Sys2Proof.Machine.execBfExp16 c sl n s
  | .bfPack4 c sl n => Sys2Proof.Machine.execBfPack4 c sl n s
  | .bfPack8 c sl n => Sys2Proof.Machine.execBfPack8 c sl n s
  | .bfPack16 c sl n => Sys2Proof.Machine.execBfPack16 c sl n s
  | .bfUnpack c sl n => Sys2Proof.Machine.execBfUnpack c sl n s
  | .tileScale c sl n => Sys2Proof.Machine.execTileScale c sl n s
  | .lutExpand c sl n => Sys2Proof.Machine.execLutExpand c sl n s
  | .nibG0 c sl n => Sys2Proof.Machine.execNibG0 c sl n s
  | .nibG1 c sl n => Sys2Proof.Machine.execNibG1 c sl n s
  | .nibG2 c sl n => Sys2Proof.Machine.execNibG2 c sl n s
  | .nibG3 c sl n => Sys2Proof.Machine.execNibG3 c sl n s
  | .histDump c sl n => Sys2Proof.Machine.execHistDump c sl n s
  | .vecHistClear c p => Sys2Proof.Machine.execVecHistClear c p s
  | .mtLotSelWrite sel => Sys2Proof.Machine.execMtLotSelWrite sel s
  | .mtFetch ring d => Sys2Proof.Machine.execMtFetch ring d s
  | .mtFlush ring d => Sys2Proof.Machine.execMtFlush ring d s
  | .mtPin ring d => Sys2Proof.Machine.execMtPin ring d s
  | .mtUnpin ring d => Sys2Proof.Machine.execMtUnpin ring d s
  | .mtDrop ring d => Sys2Proof.Machine.execMtDrop ring d s
  | .demandTransferComplete p dt => Sys2Proof.Machine.execDemandTransferComplete p dt s
  | .ddrLineDecode ch line err core part implicated waits => Sys2Proof.Machine.execDdrLineDecode ch line err core part implicated waits s
  | .writeCrcAlert ch lane line => Sys2Proof.Machine.execWriteCrcAlert ch lane line s
  | .caParityAlert ch line read => Sys2Proof.Machine.execCaParityAlert ch line read s
  | .scrubRead ch err implicated dt => Sys2Proof.Machine.execScrubRead ch err implicated dt s
  | .scrubQuotaTick ch dt => Sys2Proof.Machine.execScrubQuotaTick ch dt s
  | .drMarkWrite ch device => Sys2Proof.Machine.execDrMarkWrite ch device s
  | .drRetrainReq ch => Sys2Proof.Machine.execDrRetrainReq ch s
  | .retrainPeriodExpiry ch dt => Sys2Proof.Machine.execRetrainPeriodExpiry ch dt s
  | .retrainTempDrift ch temp => Sys2Proof.Machine.execRetrainTempDrift ch temp s
  | .retrainStep ch dt => Sys2Proof.Machine.execRetrainStep ch dt s
  | .retrainWaitExpiry ch dt => Sys2Proof.Machine.execRetrainWaitExpiry ch dt s
  | .effectiveLevelUpdate ch occ1 occ3 => Sys2Proof.Machine.execEffectiveLevelUpdate ch occ1 occ3 s
  | .seqAssemblyVisible p dt => Sys2Proof.Machine.execSeqAssemblyVisible p dt s
  | .walkerItemWrite p w dt => Sys2Proof.Machine.execWalkerItemWrite p w dt s
  | .seqJoin ring d => Sys2Proof.Machine.execSeqJoin ring d s
  | .seqAppend ring d => Sys2Proof.Machine.execSeqAppend ring d s
  | .seqReset ring d => Sys2Proof.Machine.execSeqReset ring d s
  | .seqLeave ring d => Sys2Proof.Machine.execSeqLeave ring d s
  | .seqQuery ring d => Sys2Proof.Machine.execSeqQuery ring d s
  | .syncEdge dt => Sys2Proof.Machine.execSyncEdge dt s
  | .freeRunFrameStart dt => Sys2Proof.Machine.execFreeRunFrameStart dt s
  | .goldenSkipDeadline dt => Sys2Proof.Machine.execGoldenSkipDeadline dt s
  | .goldenJudgement dt => Sys2Proof.Machine.execGoldenJudgement dt s
  | .csi2Packet n x corrected drained dt => Sys2Proof.Machine.execCsi2Packet n x corrected drained dt s
  | .ethFrameRx k data fcsOk drained dt dtLast => Sys2Proof.Machine.execEthFrameRx k data fcsOk drained dt dtLast s
  | .canFrameRx k x drained dt dtLast => Sys2Proof.Machine.execCanFrameRx k x drained dt dtLast s
  | .tdmFrameRx k slots drained dt => Sys2Proof.Machine.execTdmFrameRx k slots drained dt s
  | .gpioEdgeCapture g rising dt => Sys2Proof.Machine.execGpioEdgeCapture g rising dt s
  | .samplePublish site => Sys2Proof.Machine.execSamplePublish site s
  | .linkStateChange n up => Sys2Proof.Machine.execLinkStateChange n up s
  | .halt q dt => Sys2Proof.Machine.execHalt q dt s
  | .waitTrig q dt => Sys2Proof.Machine.execWaitTrig q dt s
  | .stamp q dt => Sys2Proof.Machine.execStamp q dt s
  | .xfer q rx dt => Sys2Proof.Machine.execXfer q rx dt s
  | .delay q dt => Sys2Proof.Machine.execDelay q dt s
  | .emit q dt => Sys2Proof.Machine.execEmit q dt s
  | .jump q dt => Sys2Proof.Machine.execJump q dt s
  | .gpioOut q dt => Sys2Proof.Machine.execGpioOut q dt s
  | .sequencerTrigger q src dt => Sys2Proof.Machine.execSequencerTrigger q src dt s
  | .sequencerTimerExpiry q dt => Sys2Proof.Machine.execSequencerTimerExpiry q dt s
  | .gpioFrameTrigger g since dt => Sys2Proof.Machine.execGpioFrameTrigger g since dt s
  | .gpioPulseEnd g dt => Sys2Proof.Machine.execGpioPulseEnd g dt s
  | .driveTransmit n dt => Sys2Proof.Machine.execDriveTransmit n dt s
  | .driveTransmitEnd n rx dt => Sys2Proof.Machine.execDriveTransmitEnd n rx dt s
  | .datumSnapshot lag dt => Sys2Proof.Machine.execDatumSnapshot lag dt s
  | .datumLatch dt => Sys2Proof.Machine.execDatumLatch dt s
  | .datumCostStage dt => Sys2Proof.Machine.execDatumCostStage dt s
  | .datumPublish dt => Sys2Proof.Machine.execDatumPublish dt s
  | .dtRelease ring d => Sys2Proof.Machine.execDtRelease ring d s
  | .tvRegister ring d => Sys2Proof.Machine.execTvRegister ring d s
  | .tvParam ring d => Sys2Proof.Machine.execTvParam ring d s
  | .traverseLatch j k dt => Sys2Proof.Machine.execTraverseLatch j k dt s
  | .paramCopyEnd dt => Sys2Proof.Machine.execParamCopyEnd dt s
  | .traverseAssemblyEnd dt => Sys2Proof.Machine.execTraverseAssemblyEnd dt s
  | .traverseFactorEnd dt => Sys2Proof.Machine.execTraverseFactorEnd dt s
  | .traverseIterationEnd dt => Sys2Proof.Machine.execTraverseIterationEnd dt s
  | .misclosureTest dt => Sys2Proof.Machine.execMisclosureTest dt s
  | .traverseOutputEnd dt => Sys2Proof.Machine.execTraverseOutputEnd dt s
  | .estRunEnd dt => Sys2Proof.Machine.execEstRunEnd dt s
  | .traverseWindowEnd dt => Sys2Proof.Machine.execTraverseWindowEnd dt s
  | .guylineFrameStart dt => Sys2Proof.Machine.execGuylineFrameStart dt s
  | .channelTrigger mask dt => Sys2Proof.Machine.execChannelTrigger mask dt s
  | .guylineResultReady mask dt => Sys2Proof.Machine.execGuylineResultReady mask dt s
  | .guylineOutputWrite mask dt => Sys2Proof.Machine.execGuylineOutputWrite mask dt s
  | .glLoad ring d => Sys2Proof.Machine.execGlLoad ring d s
  | .stModel ring d => Sys2Proof.Machine.execStModel ring d s
  | .stadiaUpdateApply dt => Sys2Proof.Machine.execStadiaUpdateApply dt s
  | .proposalFlip dt => Sys2Proof.Machine.execProposalFlip dt s
  | .stadiaLatch dt => Sys2Proof.Machine.execStadiaLatch dt s
  | .candidateCheck dt => Sys2Proof.Machine.execCandidateCheck dt s
  | .stadiaCheckEnd dt => Sys2Proof.Machine.execStadiaCheckEnd dt s
  | .stadiaRecheck dt => Sys2Proof.Machine.execStadiaRecheck dt s
  | .stadiaGate dt => Sys2Proof.Machine.execStadiaGate dt s
  | .stadiaPublish dt => Sys2Proof.Machine.execStadiaPublish dt s
  | .lockstepMismatch dt => Sys2Proof.Machine.execLockstepMismatch dt s
  | .clockMonitorWindow edges dt => Sys2Proof.Machine.execClockMonitorWindow edges dt s
  | .readbackCheck a b dt => Sys2Proof.Machine.execReadbackCheck a b dt s
  | .testPulse lineB shown dt => Sys2Proof.Machine.execTestPulse lineB shown dt s
  | .wdiEdge dt => Sys2Proof.Machine.execWdiEdge dt s
  | .watchdogTimeout dt => Sys2Proof.Machine.execWatchdogTimeout dt s
  | .supplyMonitorFault dt => Sys2Proof.Machine.execSupplyMonitorFault dt s
  | .plumbEvent dt => Sys2Proof.Machine.execPlumbEvent dt s
  | .eventEntryRun dt => Sys2Proof.Machine.execEventEntryRun dt s
  | .frameEntryRun since dt => Sys2Proof.Machine.execFrameEntryRun since dt s
  | .gateRecordDequeue dt => Sys2Proof.Machine.execGateRecordDequeue dt s
  | .gateVerdict dt => Sys2Proof.Machine.execGateVerdict dt s
  | .safeStopDelayExpiry dt => Sys2Proof.Machine.execSafeStopDelayExpiry dt s
  | .goldenStoreClear dt => Sys2Proof.Machine.execGoldenStoreClear dt s
  | .goldenCompare dt => Sys2Proof.Machine.execGoldenCompare dt s
  | .pbLoad ring d => Sys2Proof.Machine.execPbLoad ring d s
  | .pbClear ring d => Sys2Proof.Machine.execPbClear ring d s
  | .pbRelease ring d => Sys2Proof.Machine.execPbRelease ring d s
  | .ruleEnd t => Sys2Proof.Machine.execRuleEnd t s
  | .ldi t => Sys2Proof.Machine.execLdi t s
  | .ldrec t => Sys2Proof.Machine.execLdrec t s
  | .ldhdr t => Sys2Proof.Machine.execLdhdr t s
  | .ldmem t => Sys2Proof.Machine.execLdmem t s
  | .stmem t => Sys2Proof.Machine.execStmem t s
  | .ldev t => Sys2Proof.Machine.execLdev t s
  | .ruleAdd t => Sys2Proof.Machine.execRuleAdd t s
  | .ruleSub t => Sys2Proof.Machine.execRuleSub t s
  | .ruleAnd t => Sys2Proof.Machine.execRuleAnd t s
  | .ruleOr t => Sys2Proof.Machine.execRuleOr t s
  | .ruleXor t => Sys2Proof.Machine.execRuleXor t s
  | .ruleShr t => Sys2Proof.Machine.execRuleShr t s
  | .ruleShl t => Sys2Proof.Machine.execRuleShl t s
  | .ruleMin t => Sys2Proof.Machine.execRuleMin t s
  | .ruleMax t => Sys2Proof.Machine.execRuleMax t s
  | .ruleAbs t => Sys2Proof.Machine.execRuleAbs t s
  | .slt t => Sys2Proof.Machine.execSlt t s
  | .slti t => Sys2Proof.Machine.execSlti t s
  | .flt t => Sys2Proof.Machine.execFlt t s
  | .fnan t => Sys2Proof.Machine.execFnan t s
  | .ruleFsub t => Sys2Proof.Machine.execRuleFsub t s
  | .fabs t => Sys2Proof.Machine.execFabs t s
  | .sext16 t => Sys2Proof.Machine.execSext16 t s
  | .skipz t => Sys2Proof.Machine.execSkipz t s
  | .skipnz t => Sys2Proof.Machine.execSkipnz t s
  | .verdict t => Sys2Proof.Machine.execVerdict t s
  | .ruleRaise t => Sys2Proof.Machine.execRuleRaise t s
  | .ldevd t => Sys2Proof.Machine.execLdevd t s
  | .ldfrm t => Sys2Proof.Machine.execLdfrm t s
  | .act ch bank row => Sys2Proof.Machine.execAct ch bank row s
  | .pre ch => Sys2Proof.Machine.execPre ch s
  | .rd ch bank col => Sys2Proof.Machine.execRd ch bank col s
  | .wr ch bank col data => Sys2Proof.Machine.execWr ch bank col data s
  | .mwr ch bank col data mask => Sys2Proof.Machine.execMwr ch bank col data mask s
  | .ref ch => Sys2Proof.Machine.execRef ch s
  | .sre ch => Sys2Proof.Machine.execSre ch s
  | .srx ch => Sys2Proof.Machine.execSrx ch s
  | .pde ch => Sys2Proof.Machine.execPde ch s
  | .dsmEntry ch => Sys2Proof.Machine.execDsmEntry ch s
  | .dsmExit ch => Sys2Proof.Machine.execDsmExit ch s
  | .mrw ch mr v => Sys2Proof.Machine.execMrw ch mr v s
  | .mrr ch mr => Sys2Proof.Machine.execMrr ch mr s
  | .lpddr5TrainingCommand ch t => Sys2Proof.Machine.execLpddr5TrainingCommand ch t s
  | .badCmd ch => Sys2Proof.Machine.execBadCmd ch s
  | .hostResetN ch low => Sys2Proof.Machine.execHostResetN ch low s
  | .bootPageWrite ch off v masked => Sys2Proof.Machine.execBootPageWrite ch off v masked s
  | .thCommitWrite ch a v => Sys2Proof.Machine.execThCommitWrite ch a v s
  | .streamDrainLine str bad => Sys2Proof.Machine.execStreamDrainLine str bad s
  | .thMap ring d => Sys2Proof.Machine.execThMap ring d s
  | .thUnmap ring d => Sys2Proof.Machine.execThUnmap ring d s
  | .thStage ring d => Sys2Proof.Machine.execThStage ring d s
  | .thStageFillComplete g => Sys2Proof.Machine.execThStageFillComplete g s
  | .thStreamOpen ring d => Sys2Proof.Machine.execThStreamOpen ring d s
  | .thStreamClose ring d => Sys2Proof.Machine.execThStreamClose ring d s
  | .hostAttnHoldoffEnd => Sys2Proof.Machine.execHostAttnHoldoffEnd s
  | .doorbell ch v masked => Sys2Proof.Machine.execDoorbell ch v masked s
  | .descriptorFetch meas bad => Sys2Proof.Machine.execDescriptorFetch meas bad s
  | .nop ring d => Sys2Proof.Machine.execNop ring d s
  | .ctxOpen ring d => Sys2Proof.Machine.execCtxOpen ring d s
  | .ctxClose ring d => Sys2Proof.Machine.execCtxClose ring d s
  | .ringCreate ring d => Sys2Proof.Machine.execRingCreate ring d s
  | .ringDestroy ring d => Sys2Proof.Machine.execRingDestroy ring d s
  | .regRead ring d => Sys2Proof.Machine.execRegRead ring d s
  | .regWrite ring d => Sys2Proof.Machine.execRegWrite ring d s
  | .bcRingSelWrite ring => Sys2Proof.Machine.execBcRingSelWrite ring s
  | .powerOn seed => Sys2Proof.Machine.execPowerOn seed s
  | .s0Complete jtag wpN => Sys2Proof.Machine.execS0Complete jtag wpN s
  | .s1 seq => Sys2Proof.Machine.execS1 seq s
  | .s2 seq => Sys2Proof.Machine.execS2 seq s
  | .s3 seq saved mpr => Sys2Proof.Machine.execS3 seq saved mpr s
  | .s4 seq rdErr links => Sys2Proof.Machine.execS4 seq rdErr links s
  | .s5 seq => Sys2Proof.Machine.execS5 seq s
  | .s6 seq => Sys2Proof.Machine.execS6 seq s
  | .s7 seq => Sys2Proof.Machine.execS7 seq s
  | .stepEnd code unit dt => Sys2Proof.Machine.execStepEnd code unit dt s
  | .stepTimeout dt => Sys2Proof.Machine.execStepTimeout dt s
  | .planLoad ring d => Sys2Proof.Machine.execPlanLoad ring d s
  | .planLoadFill ring d => Sys2Proof.Machine.execPlanLoadFill ring d s
  | .buRestart ring d => Sys2Proof.Machine.execBuRestart ring d s
  | .buResume ring d bad => Sys2Proof.Machine.execBuResume ring d bad s
  | .buRetrain ring d => Sys2Proof.Machine.execBuRetrain ring d s
  | .powerEstimate prot fill dt => Sys2Proof.Machine.execPowerEstimate prot fill dt s
  | .controlTick temp dt => Sys2Proof.Machine.execControlTick temp dt s
  | .throttleHoldRequest dt => Sys2Proof.Machine.execThrottleHoldRequest dt s
  | .droop mV dt => Sys2Proof.Machine.execDroop mV dt s
  | .railMeasurement r mV mA limit => Sys2Proof.Machine.execRailMeasurement r mV mA limit s
  | .calibrationUpdate dt => Sys2Proof.Machine.execCalibrationUpdate dt s
  | .thermalShutdown temp => Sys2Proof.Machine.execThermalShutdown temp s
  | .holdupReady vbank => Sys2Proof.Machine.execHoldupReady vbank s
  | .vinSag vin us => Sys2Proof.Machine.execVinSag vin us s
  | .saveComplete => Sys2Proof.Machine.execSaveComplete s
  | .pwSetCap ring d => Sys2Proof.Machine.execPwSetCap ring d s
  | .pwRestore ring d => Sys2Proof.Machine.execPwRestore ring d s
  | .pwSaveClear ring d => Sys2Proof.Machine.execPwSaveClear ring d s
  | .pwLearnSelWrite phase => Sys2Proof.Machine.execPwLearnSelWrite phase s
  | .idAttest ring d => Sys2Proof.Machine.execIdAttest ring d s
  | .idCert ring d => Sys2Proof.Machine.execIdCert ring d s
  | .idFlashWrite ring d => Sys2Proof.Machine.execIdFlashWrite ring d s
  | .flashProgramComplete => Sys2Proof.Machine.execFlashProgramComplete s
  | .idLog ring d => Sys2Proof.Machine.execIdLog ring d s
  | .fbRecordRelease dt => Sys2Proof.Machine.execFbRecordRelease dt s
  | .fbReplay ring d => Sys2Proof.Machine.execFbReplay ring d s
  | .replayRecordApply dt => Sys2Proof.Machine.execReplayRecordApply dt s
  | .fbStop ring d => Sys2Proof.Machine.execFbStop ring d s
  | .faultLeak site dt => Sys2Proof.Machine.execFaultLeak site dt s
  | .fbFaultSelWrite site => Sys2Proof.Machine.execFbFaultSelWrite site s
  | .dataFlit p hdr payload crc bad dt => Sys2Proof.Machine.execDataFlit p hdr payload crc bad dt s
  | .markerFlit p hdr payload crc bad dt => Sys2Proof.Machine.execMarkerFlit p hdr payload crc bad dt s
  | .syncFlit p hdr payload crc bad dt => Sys2Proof.Machine.execSyncFlit p hdr payload crc bad dt s
  | .ackFlit p hdr payload crc bad dt => Sys2Proof.Machine.execAckFlit p hdr payload crc bad dt s
  | .testFlit p clean hdr payload crc bad dt => Sys2Proof.Machine.execTestFlit p clean hdr payload crc bad dt s
  | .flitRelease p dt => Sys2Proof.Machine.execFlitRelease p dt s
  | .linkTimeoutExpiry p dt => Sys2Proof.Machine.execLinkTimeoutExpiry p dt s
  | .laneRetrain p meas dt => Sys2Proof.Machine.execLaneRetrain p meas dt s
  | .tlRetrain ring d meas => Sys2Proof.Machine.execTlRetrain ring d meas s
  | .nresetAssert => Sys2Proof.Machine.execNresetAssert s
  | .nresetRelease seed => Sys2Proof.Machine.execNresetRelease seed s
  | .regulatorFault => Sys2Proof.Machine.execRegulatorFault s
  | .bypass scan => Sys2Proof.Machine.execBypass scan s
  | .samplePreload cells scan => Sys2Proof.Machine.execSamplePreload cells scan s
  | .extest cells scan => Sys2Proof.Machine.execExtest cells scan s
  | .idcode scan => Sys2Proof.Machine.execIdcode scan s
  | .highz scan => Sys2Proof.Machine.execHighz scan s
  | .clamp scan => Sys2Proof.Machine.execClamp scan s
  | .safeVrefFall lineB => Sys2Proof.Machine.execSafeVrefFall lineB s
  | .currentLimitSwitchOff lineB => Sys2Proof.Machine.execCurrentLimitSwitchOff lineB s
  | .vinTurnOff => Sys2Proof.Machine.execVinTurnOff s
  | .tetherLinkDown p dt => Sys2Proof.Machine.execTetherLinkDown p dt s

end Sys2Proof.Machine
end

