-- ==== Sys2Proof/Machine/Upsets.lean ====
section
/-! DEFINITION. Bit errors in the stores on the die (03 R73, 11 R268, 13 R293, 14 R323, 15, 16 R370, 22 R491). No row of the table stands for one,
so they come where the queue is empty: which error comes, and whether one does, is a free value (entry 32). -/

namespace Sys2Proof.Machine

/-- The stores whose words carry SEC-DED, with the word that an upset hits. -/
inductive Upset where
  /-- Row `r` of engine `n`'s operand buffer (03 R73). -/
  | operand (n r : Nat)
  /-- The core store of core `c`, at address `a`. -/
  | core (c a : Nat)
  | window (a : Nat)
  | scratch (a : Nat)
  /-- The Datum store, at address `a`, or in its own state a component or track slot 256 a + j (11 R268). -/
  | datum (a : Nat)
  | component (c : Nat)
  | track (k : Nat)
  | stadia (a : Nat)
  /-- Guyline's store: state word `i` of channel `k`, or a word of its bank `b` (14 R323). -/
  | law (k i : Nat)
  | bank (k b : Nat)
  | sequence
  | plumb
deriving DecidableEq, Repr

/-- Table FB-3: the site of an upset. A Plumb store has none. -/
def State.upsetSite (s : State) : Upset → Option Nat
  | .operand n r => some (siteOpb (n / 8) (s.fld F.PL_ENG_STATUS_PHYS n) (r / 4096))
  | .core c _ => some (siteCore c)
  | .window _ => some 0x330
  | .scratch _ => some 0x331
  | .datum _ | .component _ | .track _ => some 0x332
  | .stadia _ => some 0x333
  | .law _ _ | .bank _ _ => some 0x334
  | .sequence => some 0x335
  | .plumb => none

/-- What an uncorrectable word does. For a word of the sequence store no rule gives an effect beside its fault. -/
def State.uncorrectable (s : State) : Upset → State
  | .operand n r => s.markRange (opbRow n r) 64 true
  | .core _ a | .window a | .datum a => s.setPoisonAt a true
  | .scratch a | .stadia a => s.markWord a
  | .component c => { s with datum := { s.datum with badComps := s.datum.badComps ++ [c] } }
  | .track k => { s with datum := { s.datum with badTracks := s.datum.badTracks ++ [k] } }
  | .law k i => s.setGlChan k { s.glChan k with badX := (s.glChan k).badX ++ [i] }
  | .bank k b => s.setGlChan k (if b = 0 then { s.glChan k with bad0 := true } else { s.glChan k with bad1 := true })
  | .sequence => s
  | .plumb => s.latchClass 4 3

/-- What a corrected error does beside its fault (R73, R81). -/
def State.corrected (s : State) : Upset → State
  | .operand n r => s.engFlag n (s.opbTag n r) 0 22 false
  | _ => s

/-- An upset counts at its site, corrected or not (R73, R492). -/
def State.upsetAt (s : State) (u : Upset) (hard : Bool) : State :=
  let s := if hard then s.uncorrectable u else s.corrected u
  match s.upsetSite u with
  | some i => s.faultAt i
  | none => s

/-- The upset that a free value names, if any. -/
def upsetOf (v : Nat) : Option Upset :=
  let k := v % 16
  let x := v / 16
  match k with
  | 0 => some (.operand (x % 128) (x / 128 % 8192))
  | 1 => let c := x % 16; some (.core c (coreBase c + x / 16 % coreSize))
  | 2 => some (.window (sramBase + x % sramSize))
  | 3 => some (.scratch (scratchBase + x % scratchSize))
  | 4 => some (.datum (datumBase + x % (datumSize - 0x0020_0000)))
  | 5 => some (.component (x % 1024))
  | 6 => some (.track (x % 1024))
  | 7 => some (.stadia (if x % 2 = 0 then brickBase + x / 2 % brickSize else auxBase + x / 2 % auxSize))
  | 8 => some (.law (x % 64) (x / 64 % 32))
  | 9 => some (.bank (x % 64) (x / 64 % 2))
  | 10 => some .sequence
  | 11 => some .plumb
  | _ => none

/-- What an idle step may meet: an upset, correctable or not, or none. -/
def State.upset (s : State) : State :=
  if s.dark then s
  else
    let (v, s) := s.fresh
    match upsetOf (v.toNat / 2) with
    | some u => s.upsetAt u (hasBit v.toNat 0)
    | none => s

end Sys2Proof.Machine
end

