-- ==== Sys2Proof/WellFormed.lean ====
section
/-! DEFINITION. Which commands can come from the hardware: an operand whose type is wider than what the spec lets it hold is held to the
spec's bound. `exec` gives every command a meaning, well-formed or not. -/

namespace Sys2Proof

/-- R30: a run is of 1 to 16,777,214 ACLK cycles. -/
def runLength (n : Nat) : Bool := decide (1 ≤ n) && decide (n ≤ 16777214)

/-- PRESUMED (CSI-2, entry 25): a long packet counts its data in a 16-bit word. -/
def csiFits (x : CsiPacket) : Bool :=
  match x with
  | .long _ _ data _ => decide (data.length < 65536)
  | .frameStart _ => true
  | .frameEnd _ => true
  | .lineStart => true
  | .lineEnd => true
  | .badHeader => true

/-- Table SN-2: classical frames carry up to 8 bytes, FD frames the lengths of ISO 11898-1 up to 64, and an 11-bit identifier has no
higher bits. -/
def canFits (x : CanFrame) : Bool :=
  (x.ext || decide (x.id.toNat < 2048)) &&
  (if x.fd then decide (x.data.length ≤ 8) || [12, 16, 20, 24, 32, 48, 64].contains x.data.length else decide (x.data.length ≤ 8))

/-- The operands lie within the spec's bounds. -/
def Instr.wellFormed (i : Instr) : Bool :=
  match i with
  | .rcFieldRead _ _ => true
  | .normal _ _ n => runLength n
  | .frameWait _ => true
  | .anchor _ => true
  | .planOpen _ => true
  | .planClose _ n => runLength n
  | .markerWait _ _ n => runLength n
  | .planEnd _ _ => true
  | .markerWaitExpiry _ _ => true
  | .planHoldEnd _ => true
  | .frameGo _ => true
  | .fillGo _ => true
  | .fillStop _ => true
  | .planStop _ => true
  | .debugEn _ _ => true
  | .debugHold _ => true
  | .debugStep _ => true
  | .condWriteVisible _ => true
  | .plHoldLogRead => true
  | .move _ _ => true
  | .segmentLoad _ _ => true
  | .transferComplete _ _ => true
  | .drainRowWrite _ => true
  | .vecHistClear _ _ => true
  | .macSs _ _ n => runLength n
  | .macSu _ _ n => runLength n
  | .macBin _ _ n => runLength n
  | .distL1 _ _ n => runLength n
  | .minplus _ _ n => runLength n
  | .maxplus _ _ n => runLength n
  | .retire _ _ n => runLength n
  | .loadAcc _ _ n => runLength n
  | .fadd _ _ n => runLength n
  | .fsub _ _ n => runLength n
  | .fmul _ _ n => runLength n
  | .fma _ _ n => runLength n
  | .fmin _ _ n => runLength n
  | .fmax _ _ n => runLength n
  | .fdot _ _ n => runLength n
  | .fcmpLt _ _ n => runLength n
  | .fcmpLe _ _ n => runLength n
  | .fcmpEq _ _ n => runLength n
  | .frecipEst _ _ n => runLength n
  | .frsqrtEst _ _ n => runLength n
  | .fsumErr _ _ n => runLength n
  | .fprodErr _ _ n => runLength n
  | .pairAdd _ _ n => runLength n
  | .pairMac _ _ n => runLength n
  | .iadd _ _ n => runLength n
  | .isub _ _ n => runLength n
  | .iaddSat _ _ n => runLength n
  | .isubSat _ _ n => runLength n
  | .imul _ _ n => runLength n
  | .imulHi _ _ n => runLength n
  | .imin _ _ n => runLength n
  | .imax _ _ n => runLength n
  | .vecAnd _ _ n => runLength n
  | .vecOr _ _ n => runLength n
  | .vecXor _ _ n => runLength n
  | .shiftRne _ _ n => runLength n
  | .idiv _ _ n => runLength n
  | .irem _ _ n => runLength n
  | .udiv _ _ n => runLength n
  | .urem _ _ n => runLength n
  | .cvtF32 _ _ n => runLength n
  | .cvtF16 _ _ n => runLength n
  | .cvtBf16 _ _ n => runLength n
  | .cvtE4m3 _ _ n => runLength n
  | .cvtE5m2 _ _ n => runLength n
  | .cvtI32 _ _ n => runLength n
  | .cvtI16 _ _ n => runLength n
  | .cvtI8 _ _ n => runLength n
  | .cvtU8 _ _ n => runLength n
  | .cvtI32Rtz _ _ n => runLength n
  | .cvtI32Floor _ _ n => runLength n
  | .cvtE4m3Ns _ _ n => runLength n
  | .cvtE5m2Ns _ _ n => runLength n
  | .cvtPair _ _ n => runLength n
  | .bfExp4 _ _ n => runLength n
  | .bfExp8 _ _ n => runLength n
  | .bfExp16 _ _ n => runLength n
  | .bfPack4 _ _ n => runLength n
  | .bfPack8 _ _ n => runLength n
  | .bfPack16 _ _ n => runLength n
  | .bfUnpack _ _ n => runLength n
  | .tileScale _ _ n => runLength n
  | .lutExpand _ _ n => runLength n
  | .nibG0 _ _ n => runLength n
  | .nibG1 _ _ n => runLength n
  | .nibG2 _ _ n => runLength n
  | .nibG3 _ _ n => runLength n
  | .histDump _ _ n => runLength n
  | .mtLotSelWrite _ => true
  | .mtFetch _ _ => true
  | .mtFlush _ _ => true
  | .mtPin _ _ => true
  | .mtUnpin _ _ => true
  | .mtDrop _ _ => true
  | .ddrLineDecode _ _ _ _ _ _ _ => true
  | .effectiveLevelUpdate _ _ _ => true
  | .slotWindowEnd _ _ => true
  | .refreshDebtTick _ _ => true
  | .standaloneService _ _ => true
  | .writeCrcAlert _ _ _ => true
  | .caParityAlert _ _ _ => true
  | .scrubRead _ _ _ _ => true
  | .scrubQuotaTick _ _ => true
  | .drMarkWrite _ _ => true
  | .drRetrainReq _ => true
  | .retrainPeriodExpiry _ _ => true
  | .retrainTempDrift _ _ => true
  | .retrainStep _ _ => true
  | .retrainWaitExpiry _ _ => true
  | .demandTransferComplete _ _ => true
  | .seqAssemblyVisible _ _ => true
  | .walkerItemWrite _ _ _ => true
  | .seqJoin _ _ => true
  | .seqAppend _ _ => true
  | .seqReset _ _ => true
  | .seqLeave _ _ => true
  | .seqQuery _ _ => true
  | .syncEdge _ => true
  | .freeRunFrameStart _ => true
  | .goldenSkipDeadline _ => true
  | .goldenJudgement _ => true
  | .csi2Packet _ x _ _ _ => csiFits x
  | .ethFrameRx _ data _ _ _ _ => decide (data.length ≤ 9216)
  | .canFrameRx _ x _ _ _ => canFits x
  | .tdmFrameRx _ slots _ _ => decide (1 ≤ slots.length) && decide (slots.length ≤ 16)
  | .gpioEdgeCapture _ _ _ => true
  | .samplePublish _ => true
  | .linkStateChange _ _ => true
  | .halt _ _ => true
  | .waitTrig _ _ => true
  | .stamp _ _ => true
  | .xfer _ _ _ => true
  | .delay _ _ => true
  | .emit _ _ => true
  | .jump _ _ => true
  | .gpioOut _ _ => true
  | .sequencerTrigger _ _ _ => true
  | .sequencerTimerExpiry _ _ => true
  | .gpioFrameTrigger _ _ _ => true
  | .gpioPulseEnd _ _ => true
  | .driveTransmit _ _ => true
  | .driveTransmitEnd _ _ _ => true
  | .datumSnapshot _ _ => true
  | .datumLatch _ => true
  | .datumCostStage _ => true
  | .datumPublish _ => true
  | .dtRelease _ _ => true
  | .tvRegister _ _ => true
  | .tvParam _ _ => true
  | .traverseLatch _ _ _ => true
  | .paramCopyEnd _ => true
  | .traverseAssemblyEnd _ => true
  | .traverseFactorEnd _ => true
  | .traverseIterationEnd _ => true
  | .misclosureTest _ => true
  | .traverseOutputEnd _ => true
  | .estRunEnd _ => true
  | .traverseWindowEnd _ => true
  | .guylineFrameStart _ => true
  | .channelTrigger _ _ => true
  | .guylineResultReady _ _ => true
  | .guylineOutputWrite _ _ => true
  | .glLoad _ _ => true
  | .stModel _ _ => true
  | .stadiaUpdateApply _ => true
  | .proposalFlip _ => true
  | .stadiaLatch _ => true
  | .candidateCheck _ => true
  | .stadiaCheckEnd _ => true
  | .stadiaRecheck _ => true
  | .stadiaGate _ => true
  | .stadiaPublish _ => true
  | .lockstepMismatch _ => true
  | .clockMonitorWindow _ _ => true
  | .readbackCheck _ _ _ => true
  | .testPulse _ _ _ => true
  | .wdiEdge _ => true
  | .watchdogTimeout _ => true
  | .supplyMonitorFault _ => true
  | .plumbEvent _ => true
  | .eventEntryRun _ => true
  | .frameEntryRun _ _ => true
  | .gateRecordDequeue _ => true
  | .gateVerdict _ => true
  | .safeStopDelayExpiry _ => true
  | .goldenStoreClear _ => true
  | .goldenCompare _ => true
  | .pbLoad _ _ => true
  | .pbClear _ _ => true
  | .pbRelease _ _ => true
  | .ruleEnd _ => true
  | .ldi _ => true
  | .ldrec _ => true
  | .ldhdr _ => true
  | .ldmem _ => true
  | .stmem _ => true
  | .ldev _ => true
  | .ruleAdd _ => true
  | .ruleSub _ => true
  | .ruleAnd _ => true
  | .ruleOr _ => true
  | .ruleXor _ => true
  | .ruleShr _ => true
  | .ruleShl _ => true
  | .ruleMin _ => true
  | .ruleMax _ => true
  | .ruleAbs _ => true
  | .slt _ => true
  | .slti _ => true
  | .flt _ => true
  | .fnan _ => true
  | .ruleFsub _ => true
  | .fabs _ => true
  | .sext16 _ => true
  | .skipz _ => true
  | .skipnz _ => true
  | .verdict _ => true
  | .ruleRaise _ => true
  | .ldevd _ => true
  | .ldfrm _ => true
  | .act _ _ _ => true
  | .pre _ => true
  | .rd _ _ _ => true
  | .wr _ _ _ _ => true
  | .mwr _ _ _ _ _ => true
  | .ref _ => true
  | .sre _ => true
  | .srx _ => true
  | .pde _ => true
  | .dsmEntry _ => true
  | .dsmExit _ => true
  | .mrw _ _ _ => true
  | .mrr _ _ => true
  | .lpddr5TrainingCommand _ _ => true
  | .badCmd _ => true
  | .hostResetN _ _ => true
  | .bootPageWrite _ _ _ _ => true
  | .thCommitWrite _ _ _ => true
  | .streamDrainLine _ _ => true
  | .thMap _ _ => true
  | .thUnmap _ _ => true
  | .thStage _ _ => true
  | .thStageFillComplete _ => true
  | .thStreamOpen _ _ => true
  | .thStreamClose _ _ => true
  | .hostAttnHoldoffEnd => true
  | .doorbell _ _ _ => true
  | .descriptorFetch _ _ => true
  | .nop _ _ => true
  | .ctxOpen _ _ => true
  | .ctxClose _ _ => true
  | .ringCreate _ _ => true
  | .ringDestroy _ _ => true
  | .regRead _ _ => true
  | .regWrite _ _ => true
  | .bcRingSelWrite _ => true
  | .powerOn _ => true
  | .s0Complete _ _ => true
  | .s1 _ => true
  | .s2 _ => true
  | .s3 _ _ _ => true
  | .s4 _ _ links => decide (links.length = 3)
  | .s5 _ => true
  | .s6 _ => true
  | .s7 _ => true
  | .stepEnd _ _ _ => true
  | .stepTimeout _ => true
  | .planLoad _ _ => true
  | .planLoadFill _ _ => true
  | .buRestart _ _ => true
  | .buResume _ _ _ => true
  | .buRetrain _ _ => true
  | .powerEstimate _ _ _ => true
  | .controlTick _ _ => true
  | .throttleHoldRequest _ => true
  | .droop _ _ => true
  | .railMeasurement _ _ _ _ => true
  | .calibrationUpdate _ => true
  | .thermalShutdown _ => true
  | .holdupReady _ => true
  | .vinSag _ _ => true
  | .saveComplete => true
  | .pwSetCap _ _ => true
  | .pwRestore _ _ => true
  | .pwSaveClear _ _ => true
  | .pwLearnSelWrite _ => true
  | .idAttest _ _ => true
  | .idCert _ _ => true
  | .idFlashWrite _ _ => true
  | .flashProgramComplete => true
  | .idLog _ _ => true
  | .fbRecordRelease _ => true
  | .fbReplay _ _ => true
  | .replayRecordApply _ => true
  | .fbStop _ _ => true
  | .faultLeak _ _ => true
  | .fbFaultSelWrite _ => true
  | .dataFlit _ _ _ _ _ _ => true
  | .markerFlit _ _ _ _ _ _ => true
  | .syncFlit _ _ _ _ _ _ => true
  | .ackFlit _ _ _ _ _ _ => true
  | .testFlit _ _ _ _ _ _ _ => true
  | .flitRelease _ _ => true
  | .linkTimeoutExpiry _ _ => true
  | .laneRetrain _ _ _ => true
  | .tlRetrain _ _ _ => true
  | .tetherLinkDown _ _ => true
  | .nresetAssert => true
  | .nresetRelease _ => true
  | .regulatorFault => true
  | .bypass _ => true
  | .samplePreload _ _ => true
  | .extest _ _ => true
  | .idcode _ => true
  | .highz _ => true
  | .clamp _ => true
  | .safeVrefFall _ => true
  | .currentLimitSwitchOff _ => true
  | .vinTurnOff => true

end Sys2Proof
end

