-- ==== Sys2Proof/Safety.lean ====
section
/-! DEFINITION. What counts as a safe step and a safe state, in the terms that claims use. -/

namespace Sys2Proof.Machine

/-- The step answers a next state. -/
def runsOn (s : State) : Prop := ∃ t, step s = .next t

/-- Every sparse store of the module stands in its canonical form: memory, the poison marks, those of single words, the registers, and the tables of engines,
vector units, DDR4 channels, sequence units, tether ports and fault sites, and Stow's transfer queues
and lot table. -/
structure State.canonical (s : State) : Prop where
  mem     : Memory.wf s.mem
  poison  : spWf false s.poison = true
  words   : spWf (0 : Nat) s.wordMarks = true
  regs    : spWf (0 : BitVec 64) s.regs = true
  engines : spWf Engine.reset s.engines = true
  vecs    : spWf VecUnit.reset s.vecs = true
  ddr     : spWf DdrChan.reset s.ddr = true
  seq     : spWf SeqPart.reset s.seq = true
  tether  : spWf TlPort.reset s.tether = true
  sites   : spWf FaultSite.reset s.sites = true
  queues  : spWf ([] : List Transfer) s.stow.queues = true
  lots    : spWf Lot.reset s.stow.lots = true

/-- R357, Table PB-2: both SAFE_STOP lines are off. -/
def State.linesOff (s : State) : Prop := s.plumb.lineA = false ∧ s.plumb.lineB = false

end Sys2Proof.Machine
end

