-- ==== Sys2Proof/Certificates/Slice0/Obligations.lean ====
section
/-! DEFINITION. The statements about the model: what each family of commands does, what it leaves unchanged, and the invariants of every
step. A statement that rests on the model's own choice says so and names the entry of the assumption log. -/

open Sys2Proof Sys2Proof.Machine

/-- A step takes the front command of the queue and is its meaning on the rest of the state (R405).
For every command c, every list of waiting commands rest and every state s, a step of s with c at the front of its queue, followed by
rest, is exec of c on s with the queue rest. The queue is the model's own. -/
def Obligations.StepRunsFrontCommand : Prop :=
  ∀ (c : Instr) (rest : List Instr) (s : State),
    step { s with pending := c :: rest } = exec c { s with pending := rest }

/-- With no command waiting a step meets an upset at most, and no time passes (the model's choice, entries 1 and 32) (R11, R491).
A step of a state whose queue is empty answers that state after State.upset: a bit error in a store on the die, which a free value
names, if any. That the module else idles then, and that upsets come only then, is the model's choice (entries 1 and 32): time passes
only with a command, whose operand says how much. No command joins the queue, no clock moves, and no byte of memory changes; without
power nothing changes at all. -/
def Obligations.EmptyQueueIdles : Prop :=
  ∀ s : State, s.pending = [] →
    step s = .next s.upset ∧ s.upset.pending = [] ∧ s.upset.clk = s.clk ∧ s.upset.mem = s.mem ∧ (s.dark = true → step s = .next s)

/-- No command stops the module: every command answers a next state in every state (R7, R405).
For every command and every state, exec answers a next state: it neither faults nor refuses. The spec reports every error by a flag, a
status, an event or a hold. -/
def Obligations.EveryCommandAnswersAState : Prop :=
  ∀ (i : Instr) (s : State), ∃ t, exec i s = .next t

/-- After reset every sparse store stands in its canonical form (R10).
State.reset meets State.canonical: memory, its poison marks, those of single words, the registers and the units' tables list rising keys
and no value that an unlisted key reads as. -/
def Obligations.ResetIsCanonical : Prop :=
  State.reset.canonical

/-- Every step keeps memory, poison marks, registers and the units' tables in their canonical form (R117, R10).
For every state s that meets State.canonical, if a step of s answers a next state t, then t meets State.canonical. This holds for every
command of the table at the front of the queue, with every operand. -/
def Obligations.StepKeepsCanonical : Prop :=
  ∀ s t : State, s.canonical → step s = .next t → t.canonical

/-- A step takes exactly the front command out of the queue, whatever the command does (R405).
For all states s and t, if a step of s answers t, the commands that wait in t are those that waited in s but for the front one: no
command adds, drops or reorders waiting commands. The queue is the model's own. -/
def Obligations.StepShortensQueueByOne : Prop :=
  ∀ s t : State, step s = .next t → t.pending = s.pending.tail

/-- After reset every register of every register table holds the table's reset value, and both SAFE_STOP lines are off (R10).
In State.reset every entry of every register array of the model's register table reads the reset value of its table; both SAFE_STOP
lines are de-energised, no command waits, no memory byte, poison mark, flip of a hand-off or fault count is listed, and every clock
counter is 0. -/
def Obligations.RegistersResetAsTablesSay : Prop :=
  (∀ r ∈ regTable, ∀ i, State.reset.reg r i = r.reset) ∧ State.reset.linesOff ∧ State.reset.pending = [] ∧
  State.reset.mem = [] ∧ State.reset.poison = [] ∧ State.reset.wordMarks = [] ∧ State.reset.flips = [] ∧ State.reset.sites = [] ∧ State.reset.clk = Clocks.reset

/-- A register write sets RW bits, clears W1C bits written 1, and leaves every other bit and every other register (R6, R7).
For every state with a canonical register file, a write of v to entry i of a register leaves each bit of it: v's bit where the access
code is RW; 0 where it is W1C and v's bit is 1; else as before. Every register at another offset, and memory, stay as they were. A read
answers 0 in WO bits and the value elsewhere; it clears the RC bits and no other, and changes no other register. -/
def Obligations.RegisterWriteFollowsAccessCodes : Prop :=
  ∀ (s : State) (r : RegArr) (i : Nat) (v : BitVec 64), s.canonical →
    (∀ k, k < 64 → ((s.writeReg r i v).reg r i).getLsbD k =
      if r.rw.getLsbD k then v.getLsbD k
      else if r.w1c.getLsbD k && v.getLsbD k then false else (s.reg r i).getLsbD k) ∧
    (∀ (r' : RegArr) (j : Nat), r'.key j ≠ r.key i → (s.writeReg r i v).reg r' j = s.reg r' j) ∧
    (s.writeReg r i v).mem = s.mem ∧
    (∀ k, k < 64 → (s.readReg r i).1.getLsbD k = ((s.reg r i).getLsbD k && !r.wo.getLsbD k)) ∧
    (∀ k, k < 64 → ((s.readReg r i).2.reg r i).getLsbD k = ((s.reg r i).getLsbD k && !r.rc.getLsbD k)) ∧
    (∀ (r' : RegArr) (j : Nat), r'.key j ≠ r.key i → (s.readReg r i).2.reg r' j = s.reg r' j)

/-- The writes of PL_CTRL act for the partitions that hold the right, and do nothing for others (R47).
With every rail up and canonical stores: FRAME_GO by P0 or P1 arms a stopped frame stream of a loaded plan for the next frame start;
FILL_GO starts a stopped fill stream, that no restart holds and no plan fault bars, at FILL_ENTRY from the next cycle; FILL_STOP of a
running fill stream inside a bundle asks for a stop at its boundary; STOP by P0 disarms the frame stream and, inside a bundle, asks both
streams to stop; DEBUG_EN sets the bit; DEBUG_HOLD under DEBUG_EN with no hold in effect raises a hold of cause 8; DEBUG_STEP during a
DEBUG hold grants one bundle to each running stream. A partition from P2 on changes nothing by any of the seven, and P1 nothing by STOP. -/
def Obligations.PlanControlWritesAct : Prop :=
  ∀ s : State, s.canonical → s.coreDark = false →
    (∀ p : PartId, p.val < 2 → s.ridge.planLoaded = true → s.fld F.PL_STATUS_FRAME_STATE = 0 →
      ∃ t, exec (.frameGo p) s = .next t ∧ t.ridge.goArmed = true ∧ t.ridge.goAt = some (s.ridge.goAt.getD s.clk.aclk) ∧
        t.regs = s.regs ∧ t.mem = s.mem) ∧
    (∀ p : PartId, p.val < 2 → s.ridge.planLoaded = true → s.fld F.PL_STATUS_FILL_STATE = 0 → s.fillHeld = false → s.ridge.faulted = false →
      ∃ t, exec (.fillGo p) s = .next t ∧ t.fld F.PL_STATUS_FILL_STATE = 1 ∧ t.ridge.fill.ptr = s.fld F.PL_ENTRY_FILL_ENTRY ∧
        t.ridge.fill.freeAt = s.clk.aclk + 1 ∧ t.ridge.fill.started = false ∧ t.ridge.fillStopReq = false ∧
        t.fld F.PL_STATUS_FRAME_STATE = s.fld F.PL_STATUS_FRAME_STATE ∧ t.mem = s.mem) ∧
    (∀ p : PartId, p.val < 2 → s.runs .fill = true → s.ridge.fill.started = true →
      exec (.fillStop p) s = .next { s with ridge := { s.ridge with fillStopReq := true } }) ∧
    (∀ p : PartId, p.val = 0 → s.runs .fill = true → s.ridge.fill.started = true → s.runs .frame = true →
      s.ridge.frame.started = true →
      exec (.planStop p) s = .next { s with ridge := { s.ridge with fillStopReq := true, frameStopReq := true, goArmed := false } }) ∧
    (∀ p : PartId, s.debugRight p.val = true → ∃ t, exec (.debugEn p true) s = .next t ∧ t.fld F.PL_CTRL_DEBUG_EN = 1 ∧
      t.ridge = s.ridge ∧ t.mem = s.mem) ∧
    (∀ p : PartId, s.debugRight p.val = true → s.ridge.hold = none → s.flag F.PL_CTRL_DEBUG_EN = true →
      ∃ t, exec (.debugHold p) s = .next t ∧ t.held = true ∧ t.fld F.PL_STATUS_HOLDING = 1 ∧ t.fld F.PL_STATUS_HOLD_CAUSE = 8 ∧
        t.ridge.hold.map (fun h => h.causes.map HoldCause.code) = some [8]) ∧
    (∀ (p : PartId) (h : Hold), s.debugRight p.val = true → s.ridge.hold = some h → h.causes.any (fun c => c.code == 8) = true →
      ∃ t, exec (.debugStep p) s = .next t ∧ t.ridge.stepGrant = bit (s.runs .frame) + 2 * bit (s.runs .fill) ∧ t.regs = s.regs) ∧
    (∀ p : PartId, 2 ≤ p.val → ∀ i ∈ [Instr.frameGo p, .fillGo p, .fillStop p, .planStop p, .debugEn p true, .debugEn p false,
      .debugHold p, .debugStep p], exec i s = .next s) ∧
    exec (.planStop 1) s = .next s

/-- A running stream whose bundle may issue issues it as its kind says (R28, R30, R36, R48, R52).
With every rail up, let u be the state after dt ACLK cycles with any overrun noted, b the bundle at the stream's pointer, and let the
boundary check of the row's kind let it issue from w. NORMAL issues up to n cycles; FRAME_WAIT with a frame start reached releases the
frame and ends in the next cycle; ANCHOR issues one cycle at its offset once reached; an OPEN in the cycle of its offset, outside golden
and abandoned bundles, opens its window and issues one cycle where no window is open, and waits where an open window claims one of its
resources; CLOSE of an open window issues up to n cycles; MARKER_WAIT with its markers there consumes them and issues; END stops its
stream. Vector results that have become visible then move. -/
def Obligations.BundlesIssueWhenTheyMay : Prop :=
  ∀ (s u w : State) (st : Stream) (dt n : Nat) (b : Bundle), s.coreDark = false →
    (s.passA dt).runs st = true → ((s.passA dt).stream st).freeAt ≤ (s.passA dt).clk.aclk → u = (s.passA dt).noteOverrun →
    b = u.fetch (u.stream st).ptr →
    (b.kind = 0 → u.startCheck st 0 = (w, true) → exec (.normal st dt n) s = .next (w.issueCycles st b n).settleAll) ∧
    (b.kind = 1 → st = .frame → u.startCheck st 1 = (w, true) → ∀ x rest, w.ridge.starts = x :: rest →
      max w.ridge.frame.freeAt x.cyc ≤ w.clk.aclk →
      exec (.frameWait dt) s = .next ((((w.beginBundle .frame b (max w.ridge.frame.freeAt x.cyc)).releaseFrame (max w.ridge.frame.freeAt x.cyc)).endBundle .frame b
        (max w.ridge.frame.freeAt x.cyc + 1)).settleAll)) ∧
    (b.kind = 2 → st = .frame → u.startCheck st 2 = (w, true) → w.offsetCycle b ≤ w.clk.aclk →
      exec (.anchor dt) s = .next (w.issueAt b (w.offsetCycle b)).settleAll) ∧
    (b.kind = 3 → st = .frame → u.startCheck st 3 = (w, true) → w.offsetCycle b ≤ w.clk.aclk → w.ridge.windows = [] →
      w.abandon b.coreMask (w.offsetCycle b) = w → b.window ≠ w.fld F.SP_GOLDEN_CFG_WINDOW →
      exec (.planOpen dt) s = .next ((({ w.claimsChange with ridge := { w.claimsChange.ridge with
        overrunFor := none
        windows := [⟨b.window, b.coreMask, b.chanMask, 1, w.offsetCycle b⟩] } } : State).windowStatus).issueAt b
          (w.offsetCycle b)).settleAll) ∧
    (b.kind = 3 → st = .frame → u.startCheck st 3 = (w, true) → w.offsetCycle b ≤ w.clk.aclk →
      w.ridge.windows.any (fun x => x.id == b.window) = false → w.overlaps b.coreMask b.chanMask = true →
      exec (.planOpen dt) s = .next w.settleAll) ∧
    (b.kind = 4 → st = .frame → u.startCheck st 4 = (w, true) → w.ridge.windows.any (fun x => x.id == b.window) = true →
      exec (.planClose dt n) s = .next (w.issueCycles .frame b n).settleAll) ∧
    (b.kind = 6 → u.startCheck st 6 = (w, true) → exec (.planEnd st dt) s = .next (w.stopStream st 0).settleAll)

/-- A MARKER_WAIT consumes its markers and issues, or waits under a TETHER hold; a wait past TETHER_WAIT is a plan fault (R30, R42, R46, R52).
With every rail up, for a running stream at the boundary of a MARKER_WAIT that may issue: where every marker is there it is consumed and
up to n cycles issue; where one is missing the stream waits and a hold of cause 6 is raised until TETHER_WAIT cycles from now.
MARKER_WAIT_EXPIRY of a stream that has waited more than TETHER_WAIT cycles is a plan fault of that stream with FCAUSE 7 at its bundle;
of one that has waited less, or waits for no marker, it only passes time. -/
def Obligations.MarkerWaitIssuesOrWaits : Prop :=
  ∀ (s u w : State) (st : Stream) (dt n : Nat) (b : Bundle), s.coreDark = false →
    (((s.fetch (s.stream st).ptr).kind = 5 ∧ (s.stream st).started = false ∧ s.markersHere (s.fetch (s.stream st).ptr) = true →
        u = (s.passA dt).markerCame st) ∧
      (¬((s.fetch (s.stream st).ptr).kind = 5 ∧ (s.stream st).started = false ∧ s.markersHere (s.fetch (s.stream st).ptr) = true) →
        u = s.passA dt) →
      (u.passA 0).runs st = true → ((u.passA 0).stream st).freeAt ≤ (u.passA 0).clk.aclk →
      b = ((u.passA 0).noteOverrun).fetch (((u.passA 0).noteOverrun).stream st).ptr → b.kind = 5 →
      ((u.passA 0).noteOverrun).startCheck st 5 = (w, true) → (w.stream st).started = false →
      (w.markersHere b = true → exec (.markerWait st dt n) s = .next ((w.consumeMarkers b).issueCycles st b n).settleAll) ∧
      (w.markersHere b = false → exec (.markerWait st dt n) s =
        .next ((w.setStream st { w.stream st with waitFrom := some ((w.stream st).waitFrom.getD w.clk.aclk) }).raiseHold 6
          (some (w.clk.aclk + w.fld F.PL_CONFIG_TETHER_WAIT))).settleAll)) ∧
    (∀ x, ((s.tickA dt).stream st).waitFrom = some x → x + (s.tickA dt).fld F.PL_CONFIG_TETHER_WAIT < (s.tickA dt).clk.aclk →
      exec (.markerWaitExpiry st dt) s = .next ((s.tickA dt).planFault st 7 ((s.tickA dt).stream st).ptr)) ∧
    (∀ x, ((s.tickA dt).stream st).waitFrom = some x → (s.tickA dt).clk.aclk ≤ x + (s.tickA dt).fld F.PL_CONFIG_TETHER_WAIT →
      exec (.markerWaitExpiry st dt) s = .next (s.tickA dt)) ∧
    (((s.tickA dt).stream st).waitFrom = none → exec (.markerWaitExpiry st dt) s = .next (s.tickA dt))

/-- A plan fault records its cause, stream and bundle and stops its stream; a frame-stream fault also stops the fill stream (R46, R47).
In a state with canonical stores, a plan fault of a stream with cause c below 16 at bundle b below 32,768 leaves PL_FAULT with that
FCAUSE, the stream's bit and the bundle, the stream in state 2, and further starts barred; a fault of the frame stream leaves a running
fill stream stopped. -/
def Obligations.PlanFaultStopsItsStream : Prop :=
  ∀ (s : State) (c b : Nat), s.canonical → c < 16 → b < 32768 → s.bring.restarts = [] →
    (∀ st : Stream, (s.planFault st c b).fld F.PL_FAULT_FCAUSE = c ∧ (s.planFault st c b).fld F.PL_FAULT_BUNDLE = b ∧
      (s.planFault st c b).fld F.PL_FAULT_STREAM = streamBit st ∧ (s.planFault st c b).streamState st = 2 ∧
      (s.planFault st c b).ridge.faulted = true ∧ (s.planFault st c b).mem = s.mem) ∧
    (s.fld F.PL_STATUS_FILL_STATE = 1 → (s.planFault .frame c b).streamState .fill = 0)

/-- A hold ends with its last cause and is logged; reading PL_HOLD_LOG pops it; condition writes become visible in order (R42, R45, R6).
With every rail up and canonical stores: a hold whose only cause, a throttle cause whose end has passed, clears at PLAN_HOLD_END on an
idle module is over, and one entry joins the log of fewer than 64. PL_HOLD_LOG_READ drops the oldest entry and the lost mark and changes
nothing else. COND_WRITE_VISIBLE outside replay gives the oldest condition write's register its value and takes the write off the list.
RC_FIELD_READ of a register of a unit block with RC fields, that no other rule of reading names, clears those bits alone. -/
def Obligations.HoldsEndAndAreRead : Prop :=
  ∀ s : State, s.canonical → s.coreDark = false →
    (∀ (dt : Nat) (h : Hold) (c : HoldCause) (d : Nat), (s.tickA dt).ridge.hold = some h → h.causes = [c] → c.code = 1 →
      c.due = some d → d ≤ (s.tickA dt).clk.aclk → s.ridge.holdLog.length < 64 →
      ∃ t, exec (.planHoldEnd dt) s = .next t ∧ t.held = false ∧ t.fld F.PL_STATUS_HOLDING = 0 ∧ t.fld F.PL_STATUS_HOLD_CAUSE = 0 ∧
        t.ridge.holdLog.length = s.ridge.holdLog.length + 1) ∧
    (∀ e rest, s.ridge.holdLog = e :: rest → exec .plHoldLogRead s =
      .next { s with ridge := { s.ridge with holdLog := rest, holdLost := false } }) ∧
    (∀ (dt : Nat) (w : CondWrite) (rest : List CondWrite), (s.tickA dt).ridge.condPend = w :: rest → w.done = none → w.reg < 64 →
      (s.tickA dt).flag F.FB_STATUS_REPLAYING = false →
      ∃ t, exec (.condWriteVisible dt) s = .next t ∧ t.fld F.PL_COND_VALUE w.reg = w.value % 2 ^ 32 ∧ t.ridge.condPend = rest ∧
        t.mem = (s.tickA dt).mem) ∧
    (∀ (unit : BitVec 8) (off : BitVec 24) (r : RegArr) (i : Nat), unitReg unit.toNat off.toNat = some (r, i) →
      r ≠ R.PL_HOLD_LOG → r ≠ R.DR_ERR_LOG → r ≠ R.MT_PSTAT → s.active ≠ 4 →
      ∃ t, exec (.rcFieldRead unit off) s = .next t ∧
        (∀ k, k < 64 → (t.reg r i).getLsbD k = ((s.reg r i).getLsbD k && !r.rc.getLsbD k)) ∧
        (∀ (r' : RegArr) (j : Nat), r'.key j ≠ r.key i → t.reg r' j = s.reg r' j) ∧ t = { s with regs := t.regs })

/-- MOVE and SEGMENT_LOAD enter the core's transfer queue of four; the fifth is dropped and XQ_FULL set (R122, R123, R39).
With every rail up, for a legal transfer part of a slice of a core that no hold stops: with fewer than four transfers queued, the core's
queue grows by one transfer of the slice's length, source, destination, PART and class at its end, and memory, registers and clocks
stand. With four queued the queue stands and MT_STATUS.XQ_FULL is set in a state with canonical stores. A hold on an unclaimed core
changes nothing. -/
def Obligations.MovesEnterTheQueue : Prop :=
  ∀ (s : State) (c : CoreId) (sl : SliceBits), s.canonical → s.coreDark = false →
    (∀ q ∈ [(1, Instr.move c sl), (2, .segmentLoad c sl)], moveFault (movePart sl.toNat q.1) = 0 → s.coreHeld c.val = false →
      ((s.queue c.val).length < 4 → ∃ t x, exec q.2 s = .next t ∧ (t.queue c.val).length = (s.queue c.val).length + 1 ∧
        (t.queue c.val).getLast? = some x ∧ x.core = c.val ∧ x.seg = (q.1 == 2) ∧ x.len = B.SLICE_XLEN.get (movePart sl.toNat q.1) ∧
        x.src = B.SLICE_XSRC.get (movePart sl.toNat q.1) ∧ x.dst = B.SLICE_XDST.get (movePart sl.toNat q.1) ∧
        x.part = B.SLICE_PART.get (movePart sl.toNat q.1) ∧ t.mem = s.mem ∧ t.regs = s.regs ∧ t.clk = s.clk) ∧
      (4 ≤ (s.queue c.val).length → ∃ t, exec q.2 s = .next t ∧ t.queue c.val = s.queue c.val ∧
        t.fld F.MT_STATUS_XQ_FULL = 1 ∧ t.mem = s.mem)) ∧
    (∀ q ∈ [(1, Instr.move c sl), (2, .segmentLoad c sl)], moveFault (movePart sl.toNat q.1) = 0 → s.coreHeld c.val = true →
      exec q.2 s = .next s)

/-- A completed transfer between core stores has copied the rest of its source, and no byte outside the rest of its destination changes (R122, R125, R33).
With every rail up and canonical stores, let the running transfer of a core, after dt cycles in which no hold pauses it and in which
nothing else writes the stores, go from one range of core stores to another that does not meet it, off DDR4, its partition holding the
right to read every unit of the source and write every unit of the destination, and no change of regions since its start. Then
TRANSFER_COMPLETE leaves each byte of the units it had not yet moved equal to the source's byte, every other byte as it was, and the
core's queue without that transfer. A transfer that a hold pauses stays. -/
def Obligations.TransferMovesBytes : Prop :=
  ∀ (s u : State) (c : CoreId) (dt a b : Nat) (x : Transfer), s.canonical → s.coreDark = false →
    u = (s.tickA dt).countMoves (s.clk.aclk + dt) → u.queue c.val = [x] →
    (u.pausesMoves = true → u.coreHeld c.val = true → exec (.transferComplete c dt) s = .next u) ∧
    (u.pausesMoves = false → x.route ≠ .ddr → x.seg = false → x.core = c.val → x.tags = none → u.stow.edge = [] →
      x.src = a → x.dst = b → x.rsrc = .addr a → x.rdst = .addr b → x.done ≤ x.due → x.due ≤ x.len →
      coreBase 0 ≤ a → a + 64 * x.len ≤ coreBase 16 → coreBase 0 ≤ b → b + 64 * x.len ≤ coreBase 16 →
      (a + 64 * x.len ≤ b ∨ b + 64 * x.len ≤ a) →
      (∀ k, k < x.len → (u.tagOf (a + 64 * k)).reads x.part = true ∧ (u.tagOf (b + 64 * k)).writes x.part = true) →
      ∃ t, exec (.transferComplete c dt) s = .next t ∧ t.queue c.val = [] ∧
        (∀ j, 64 * x.done ≤ j → j < 64 * x.len → t.rdByte (b + j) = u.rdByte (a + j)) ∧
        ∀ y, (y < b + 64 * x.done ∨ b + 64 * x.len ≤ y) → t.rdByte y = u.rdByte y)

/-- Each engine row runs its slice with the row's operation on its core for n cycles, and no vector operation beside it (R54, R57, R39, R46).
With every rail up, for each engine operation of Table EA-1 and every slice whose engine part with that operation is legal for a run of
n cycles, on a core that no hold stops: the core runs n cycles of the slice from the current ACLK cycle, the engine part has the row's
EOP and the slice's enables, precisions, rows, steps, PART and SLOT_ID, the vector part is idle, ACLK advances by n, and vector results
that have become visible move. On a core that a hold stops nothing changes. A run of a length that R57 does not allow is a plan fault
with FCAUSE 3 of the stream the core follows. -/
def Obligations.EngineRowsRunTheirOperation : Prop :=
  ∀ (s : State) (c : CoreId) (sl : SliceBits) (n : Nat), s.coreDark = false → 1 ≤ n → n ≤ 16777214 →
    ∀ q ∈ ([
      (0x01, Instr.macSs c sl n), (0x02, .macSu c sl n), (0x03, .macBin c sl n), (0x04, .distL1 c sl n), (0x05, .minplus c sl n),
      (0x06, .maxplus c sl n), (0x07, .retire c sl n), (0x08, .loadAcc c sl n)] : List (Nat × Instr)),
      let y := engSlice (engPart sl.toNat q.1)
      (engFault y n = 0 → s.coreHeld c.val = false →
        exec q.2 s = .next (((s.coreRun c.val (engPart sl.toNat q.1) 0 n n s.clk.aclk).passA n).settleAll)) ∧
      (engFault y n = 0 → s.coreHeld c.val = true → exec q.2 s = .next s) ∧
      (engFault y n = 3 → exec q.2 s = .next (s.planFault (s.follows c.val) 3 (s.stream (s.follows c.val)).ptr)) ∧
      y = { engSlice sl.toNat with eop := q.1 } ∧ (vecSlice (engPart sl.toNat q.1)).op = 0

/-- A cycle of a multiply run adds its term to every cell, held within 32 bits (R55, R58, R60, R71, R33).
For an engine in a multiply run after its first cycle, untransposed, whose operand rows carry the tag of the slice's partition with no
transfer still to write them, each cell (i, j) after the cycle holds the cell before it plus the term of R60, held at the limits of 32
bits. The term is the weight nibble's value, times the activation bit b mod 4 of nibble i, times 2 to the b + 4 s, negated for MAC_SS at
the last bit; for MAC_BIN +1 or -1 as the two bits agree. The rows are those of the slice's pointers advanced by their steps, as a read
of that ACLK cycle sees them: no write of the cycle itself is in them. LIVE, OUT, memory and the registers stand. -/
def Obligations.EngineCycleAddsOneTerm : Prop :=
  ∀ (s : State) (n k len at' : Nat) (x : EngSlice), s.canonical → 0 < k → k + 1 < len → x.trans = false → 1 ≤ x.eop → x.eop ≤ 3 →
    (s.engine n).eop = x.eop →
    s.opbTag n (rowAt x.aRow x.aStep k) = x.part → s.opbTag n (rowAt x.wRow x.wStep k) = x.part →
    s.earlyRead (opbRow n (rowAt x.aRow x.aStep k)) 64 = false → s.earlyRead (opbRow n (rowAt x.wRow x.wStep k)) 64 = false →
    let e := s.engine n
    let aRow := leNat (s.bytesAt at' (opbRow n (rowAt x.aRow x.aStep k)) 64)
    let wRow := leNat (s.bytesAt at' (opbRow n (rowAt x.wRow x.wStep k)) 64)
    let b := e.pass % e.abits
    let g := e.pass / e.abits
    (∀ i j, i < 128 → j < 128 →
      (spGet 0 ((s.engCycle n x k len at').engine n).acc (128 * i + j)).toInt =
        max (-(2 ^ 31)) (min (2 ^ 31 - 1) ((spGet 0 e.acc (128 * i + j)).toInt +
          (if x.eop = 3 then (if (nibble aRow i).testBit (b % 4) = (nibble wRow j).testBit 0 then 1 else -1)
           else (if x.eop = 1 ∧ b + 1 = e.abits then -1 else 1) *
             ((if e.wbits ≤ 4 then asSigned e.wbits (nibble wRow j) else if g = 0 then (nibble wRow j : Int)
               else asSigned (e.wbits - 4) (nibble wRow j)) *
              (if (nibble aRow i).testBit (b % 4) then 1 else 0) * 2 ^ (b + 4 * g)))))) ∧
    ((s.engCycle n x k len at').engine n).live = e.live ∧ ((s.engCycle n x k len at').engine n).out = e.out ∧
    (s.engCycle n x k len at').mem = s.mem ∧ (s.engCycle n x k len at').regs = s.regs

/-- A retire of a live engine copies ACC to OUT, sets ACC to the operation's start value, clears LIVE and starts the drain (R63, R65, R66, R67).
In a state with canonical stores, a retire by a slice in ACLK cycle t of an engine with LIVE set leaves OUT with what ACC held, every
cell of ACC at the start value of the slice's operation (0 after a plain RETIRE run, for which R63 gives none: the model's choice, entry
56), LIVE clear, and a drain of 1,024 rows from O_ROW by O_STEP, whose first row comes 8 cycles after t; every other engine and all
memory stand. With LIVE clear nothing changes. -/
def Obligations.RetireMovesTileToOut : Prop :=
  ∀ (s : State) (n t : Nat) (x : EngSlice), s.canonical →
    ((s.engine n).live = true →
      ((s.retire n x t).engine n).out = (s.engine n).acc ∧
      (∀ k, k < 16384 → spGet 0 ((s.retire n x t).engine n).acc k =
        (if x.eop = 5 then (0x7FFFFFFF : Word) else if x.eop = 6 then 0x80000000 else 0)) ∧
      ((s.retire n x t).engine n).live = false ∧ ((s.retire n x t).engine n).drain = ⟨x.oRow, x.oStep, 1024, t + 8⟩ ∧
      ((s.retire n x t).engine n).outPoison = (s.engine n).poison ∧
      (∀ m, m ≠ n → (s.retire n x t).engine m = s.engine m) ∧ (s.retire n x t).mem = s.mem) ∧
    ((s.engine n).live = false → s.retire n x t = s)

/-- A drain cycle writes the next row of OUT at the drain pointer and moves the pointer by its step; a transfer's write stands (R67, R69, R72, R120).
With every rail up, no plan running, no vector result on its way, canonical stores, and the engine's core issuing: DRAIN_ROW_WRITE of an
engine whose drain is due, at a row of its own partition that no transfer writes in that cycle, stores the row's 16 words of OUT as 64
bytes at the drain pointer, advances the pointer by the step modulo 8,192 and counts the row; every byte outside the row stands. Where a
transfer writes the row in that cycle, memory stands, WRITE_CLASH is set and the row counts as written. With no row left, or before the
drain's first cycle, only time passes; a core that does not issue changes nothing. -/
def Obligations.DrainRowIsWritten : Prop :=
  ∀ (s : State) (n : EngineId), s.canonical → s.coreDark = false → s.vecs = [] → s.ridge.goAt = none → s.ridge.regWaiting = false →
    s.book.replay = none →
    let d := (s.engine n.val).drain
    let next : Drain := ⟨rowAt d.ptr d.step 1, d.step, d.count - 1, d.start⟩
    let clash := s.clashes s.clk.aclk (opbRow n.val d.ptr) 64 (fun w => w == .transfer)
    (s.coreIssues (n.val / 8) = false → exec (.drainRowWrite n) s = .next s) ∧
    (s.coreIssues (n.val / 8) = true → d.count = 0 ∨ s.clk.aclk < d.start → exec (.drainRowWrite n) s = .next (s.passA 1)) ∧
    (s.coreIssues (n.val / 8) = true → 0 < d.count → d.count ≤ 1024 → d.start ≤ s.clk.aclk →
      (clash = false → s.opbTag n.val d.ptr = (s.engine n.val).drainPart →
        ∃ t, exec (.drainRowWrite n) s = .next t ∧
          t.rdBytes (opbRow n.val d.ptr) 64 = leBytes 64 (drainRow (s.engine n.val).out (1024 - d.count)) ∧
          (∀ a, (a < opbRow n.val d.ptr ∨ opbRow n.val d.ptr + 64 ≤ a) → t.rdByte a = s.rdByte a) ∧
          (t.engine n.val).drain = next ∧ t.clk.aclk = s.clk.aclk + 1 ∧ (s.ridge.hold = none → t.regs = s.regs)) ∧
      (clash = true → ∃ t, exec (.drainRowWrite n) s = .next t ∧ t.mem = s.mem ∧ (t.engine n.val).drain = next ∧
        (t.reg R.PL_ENG_STATUS n.val).getLsbD 19 = true ∧ t.clk.aclk = s.clk.aclk + 1))

/-- Each vector row runs its slice with the row's operation on its core for n cycles, and no engine operation beside it (R90, R93, R39, R46).
With every rail up, for each vector operation of Table NF-5 and every slice whose vector part with that operation is legal for a run of
n cycles, on a core that no hold stops: the core runs n cycles of the slice from the current ACLK cycle, the vector part has the row's
VOP and the slice's format, streams, length, PART and SLOT_ID, the engine part is idle, ACLK advances by n, and vector results that have
become visible move. On a core that a hold stops nothing changes. An illegal format or length is a plan fault with its FCAUSE of the
stream the core follows. -/
def Obligations.VectorRowsRunTheirOperation : Prop :=
  ∀ (s : State) (c : CoreId) (sl : SliceBits) (n : Nat), s.coreDark = false → 1 ≤ n → n ≤ 16777214 →
    ∀ q ∈ ([
      (0x01, Instr.fadd c sl n), (0x02, .fsub c sl n), (0x03, .fmul c sl n), (0x04, .fma c sl n), (0x05, .fmin c sl n),
      (0x06, .fmax c sl n), (0x07, .fdot c sl n), (0x08, .fcmpLt c sl n), (0x09, .fcmpLe c sl n), (0x0A, .fcmpEq c sl n),
      (0x0B, .frecipEst c sl n), (0x0C, .frsqrtEst c sl n), (0x0D, .fsumErr c sl n), (0x0E, .fprodErr c sl n),
      (0x0F, .pairAdd c sl n), (0x10, .pairMac c sl n), (0x20, .iadd c sl n), (0x21, .isub c sl n), (0x22, .iaddSat c sl n),
      (0x23, .isubSat c sl n), (0x24, .imul c sl n), (0x25, .imulHi c sl n), (0x26, .imin c sl n), (0x27, .imax c sl n),
      (0x28, .vecAnd c sl n), (0x29, .vecOr c sl n), (0x2A, .vecXor c sl n), (0x2B, .shiftRne c sl n), (0x30, .idiv c sl n),
      (0x31, .irem c sl n), (0x32, .udiv c sl n), (0x33, .urem c sl n), (0x40, .cvtF32 c sl n), (0x41, .cvtF16 c sl n),
      (0x42, .cvtBf16 c sl n), (0x43, .cvtE4m3 c sl n), (0x44, .cvtE5m2 c sl n), (0x45, .cvtI32 c sl n), (0x46, .cvtI16 c sl n),
      (0x47, .cvtI8 c sl n), (0x48, .cvtU8 c sl n), (0x49, .cvtI32Rtz c sl n), (0x4A, .cvtI32Floor c sl n),
      (0x4B, .cvtE4m3Ns c sl n), (0x4C, .cvtE5m2Ns c sl n), (0x4D, .cvtPair c sl n), (0x60, .bfExp4 c sl n),
      (0x61, .bfExp8 c sl n), (0x62, .bfExp16 c sl n), (0x63, .bfPack4 c sl n), (0x64, .bfPack8 c sl n), (0x65, .bfPack16 c sl n),
      (0x66, .bfUnpack c sl n), (0x67, .tileScale c sl n), (0x68, .lutExpand c sl n), (0x6C, .nibG0 c sl n), (0x6D, .nibG1 c sl n),
      (0x6E, .nibG2 c sl n), (0x6F, .nibG3 c sl n), (0x7F, .histDump c sl n)] : List (Nat × Instr)),
      let v := vecSlice (vecPart sl.toNat q.1)
      (vecFault q.1 v.fmt v.len n = 0 → s.coreHeld c.val = false →
        exec q.2 s = .next (((s.coreRun c.val (vecPart sl.toNat q.1) 0 n n s.clk.aclk).passA n).settleAll)) ∧
      (vecFault q.1 v.fmt v.len n = 0 → s.coreHeld c.val = true → exec q.2 s = .next s) ∧
      (vecFault q.1 v.fmt v.len n ≠ 0 →
        exec q.2 s = .next (s.planFault (s.follows c.val) (vecFault q.1 v.fmt v.len n) (s.stream (s.follows c.val)).ptr)) ∧
      v = { vecSlice sl.toNat with op := q.1 } ∧ (engSlice (vecPart sl.toNat q.1)).eop = 0

/-- The first `n` bytes of the stream of core `c` from unit `u`, as a read of ACLK cycle `t` sees them, as a little-endian number (R71, R90). -/
def Claims.vecStream (s : State) (c u n t : Nat) : Nat :=
  (List.range (units n)).foldl (fun v k => v + leNat (s.bytesAt t (vecAddr c (u + k)) (min 32 (n - 32 * k))) * 2 ^ (256 * k)) 0

/-- Some unit of those bytes carries a poison mark (R110). -/
def Claims.vecMarked (s : State) (c u n t : Nat) : Bool := (List.range (units n)).any fun k => s.markAt t (vecAddr c (u + k))

/-- A vector of a run reads its streams and starts the write of its elements, visible after the operation's latency (R90, R91, R92, R107, R110).
For a vector part other than BF_EXP in a cycle that starts a vector, with every unit of its streams readable and every unit of its
destination writable by the slice's partition and its result a whole number of bytes: the core's vector unit gains, after the writes
already on their way, one write per 32-byte unit of the result, at the next units of VD, visible the operation's latency after this
cycle, holding the elements that the operation gives for the streams read, poisoned where a unit read is marked, with the histogram bins
of its elements where the histogram counts for the slice. Memory and the other cores' vector units stand. -/
def Obligations.VectorCycleStartsItsWrite : Prop :=
  ∀ (s : State) (c k n t : Nat) (x : VecSlice), s.canonical → x.op ≠ 0 → ¬(0x60 ≤ x.op ∧ x.op ≤ 0x62) → k % vecInterval x.op = 0 →
    0 < x.len → vecFault x.op x.fmt x.len n = 0 →
    let j := k / vecInterval x.op
    let sh := vecShape x.op x.fmt x.len
    let aB := elemBytes sh.aW sh.n
    let outB := elemBytes sh.outW sh.outN
    let bAt := if sh.bFixed then x.b else x.b + j * units sh.bBytes
    sh.outW * sh.outN % 8 = 0 →
    (∀ i, i < units aB → (s.tagOf (vecAddr c (x.a + j * units aB + i))).reads x.part = true) →
    (∀ i, i < units sh.bBytes → (s.tagOf (vecAddr c (bAt + i))).reads x.part = true) →
    (∀ i, i < units sh.dBytes → (s.tagOf (vecAddr c (x.d + j * units outB + i))).reads x.part = true) →
    (∀ i, i < units outB → (s.tagOf (vecAddr c (x.d + j * units outB + i))).writes x.part = true) →
    c < 16 →
    let els := (vecResult x.op x.fmt x.len (Claims.vecStream s c (x.a + j * units aB) aB t) (Claims.vecStream s c bAt sh.bBytes t)
      (Claims.vecStream s c (x.d + j * units outB) sh.dBytes t) (j * x.len) (s.vec c).hist).1
    let p := Claims.vecMarked s c (x.a + j * units aB) aB t || Claims.vecMarked s c bAt sh.bBytes t ||
      Claims.vecMarked s c (x.d + j * units outB) sh.dBytes t
    let bins := if x.op ≠ 0x7F ∧ s.histCounts c x.part x.slot = true ∧ p = false
      then els.map fun e => histBin (writtenVal x.op x.fmt e) else []
    ((s.vecCycle c x k n t).vec c).pend =
      (if k = 0 then (s.vec c).pend.map fun w => { w with run := false } else (s.vec c).pend) ++
      ((List.range (units outB)).map fun i => ⟨t + vecLatency x.op, vecAddr c (x.d + j * units outB + i),
        ((leBytes outB (packElems sh.outW els)).drop (32 * i)).take 32, p, x.part, x.slot,
        (bins.drop (256 / sh.outW * i)).take (256 / sh.outW), true⟩) ∧
    (s.vecCycle c x k n t).mem = s.mem ∧ ∀ c', c' ≠ c → (s.vecCycle c x k n t).vec c' = s.vec c'

/-- A vector result becomes visible in the core store at its cycle and counts then, and a transfer's write of that cycle stands (R91, R107, R110, R111).
In a state with canonical stores whose core has one write on its way: at its cycle or later, where no transfer has written the unit in
the same cycle, the write's bytes stand at its address, every other byte stands, its elements have counted in the histogram and no write
is left on its way; where a transfer has, memory and the histogram stand and WRITE_CLASH is set; before its cycle neither memory nor the
writes on their way change. -/
def Obligations.VectorWriteBecomesVisible : Prop :=
  ∀ (s : State) (c t : Nat) (w : VecWrite), s.canonical → (s.vec c).pend = [w] →
    (w.cyc ≤ t → s.clashes (w.cyc - 1) w.addr 32 (fun x => x == .transfer) = false →
      (∀ k, k < w.bytes.length → (s.settleVec c t).rdByte (w.addr + k) = w.bytes.getD k 0) ∧
      (∀ a, (a < w.addr ∨ w.addr + w.bytes.length ≤ a) → (s.settleVec c t).rdByte a = s.rdByte a) ∧
      ((s.settleVec c t).vec c).hist = w.bins.foldl histAdd (s.vec c).hist ∧ ((s.settleVec c t).vec c).pend = []) ∧
    (w.cyc ≤ t → s.clashes (w.cyc - 1) w.addr 32 (fun x => x == .transfer) = true →
      (s.settleVec c t).mem = s.mem ∧ ((s.settleVec c t).vec c).hist = (s.vec c).hist ∧ ((s.settleVec c t).vec c).pend = [] ∧
      ((s.settleVec c t).reg R.PL_VEC_STATUS c).getLsbD 10 = true) ∧
    (t < w.cyc → (s.settleVec c t).mem = s.mem ∧ (s.settleVec c t).poison = s.poison ∧ ((s.settleVec c t).vec c).pend = [w])

/-- IADD, ISUB and IMUL wrap and set no flag, IADD_SAT and ISUB_SAT saturate and set SAT, SHIFT_RNE has its edges (R95).
For every format of w bits that Table NF-5 gives the operation and all elements a and b below 2 to the w: IADD, ISUB and IMUL give the
sum, difference and product modulo 2 to the w and no flag. IADD_SAT and ISUB_SAT give the exact sum or difference of the elements'
values where it lies within the format's limits, with no flag, and the nearer limit with the flag SAT where it does not. SHIFT_RNE gives
a for a shift of 0 and 0 for a shift of 32 to 63, and no shift sets a flag. -/
def Obligations.IntegerVectorOperations : Prop :=
  ∀ (fmt a b : Nat), a < 2 ^ fmtBits fmt → b < 2 ^ fmtBits fmt →
    (hasBit (vecFormats 0x20) fmt = true → vecInt 0x20 fmt a b = ((a + b) % 2 ^ fmtBits fmt, 0) ∧
      vecInt 0x21 fmt a b = ((a + 2 ^ fmtBits fmt - b) % 2 ^ fmtBits fmt, 0) ∧
      (vecInt 0x22 fmt a b = (ofSigned (fmtBits fmt) (max (fmtMin fmt) (min (fmtMax fmt) (fmtInt fmt a + fmtInt fmt b))),
        if fmtMin fmt ≤ fmtInt fmt a + fmtInt fmt b ∧ fmtInt fmt a + fmtInt fmt b ≤ fmtMax fmt then 0 else flSAT)) ∧
      (vecInt 0x23 fmt a b = (ofSigned (fmtBits fmt) (max (fmtMin fmt) (min (fmtMax fmt) (fmtInt fmt a - fmtInt fmt b))),
        if fmtMin fmt ≤ fmtInt fmt a - fmtInt fmt b ∧ fmtInt fmt a - fmtInt fmt b ≤ fmtMax fmt then 0 else flSAT))) ∧
    (hasBit (vecFormats 0x24) fmt = true → vecInt 0x24 fmt a b = (a * b % 2 ^ fmtBits fmt, 0)) ∧
    (hasBit (vecFormats 0x2B) fmt = true → (b % 64 = 0 → vecInt 0x2B fmt a b = (a, 0)) ∧ (32 ≤ b % 64 → vecInt 0x2B fmt a b = (0, 0)) ∧
      (vecInt 0x2B fmt a b).2 = 0)

/-- Division truncates toward zero, a = q b + r with the dividend's sign on r, and the edges are those of Table NF-4 (R97).
For all 32-bit a and b, read as signed x and y: with b not 0 and not the pair 0x8000_0000 and -1, IDIV gives the quotient truncated
toward zero and IREM the remainder with x = q y + r, r of x's sign or 0 and below y in magnitude, with no flag; UDIV and UREM give the
unsigned quotient and remainder. With b = 0, IDIV gives 0x7FFF_FFFF, 0x8000_0000 or 0 as x is positive, negative or 0, UDIV gives
0xFFFF_FFFF, and IREM and UREM give a, each with INT_DIV0. For 0x8000_0000 by -1, IDIV gives 0x7FFF_FFFF with INT_OVF and IREM 0 with no
flag. -/
def Obligations.IntegerDivision : Prop :=
  ∀ (a b : Nat), a < 2 ^ 32 → b < 2 ^ 32 →
    let x := fmtInt 5 a
    let y := fmtInt 5 b
    (b ≠ 0 → ¬(a = 0x80000000 ∧ y = -1) → ∃ q r : Int, vecInt 0x30 5 a b = (ofSigned 32 q, 0) ∧ vecInt 0x31 5 a b = (ofSigned 32 r, 0) ∧
      fmtInt 5 (ofSigned 32 q) = q ∧ fmtInt 5 (ofSigned 32 r) = r ∧ x = q * y + r ∧ r.natAbs < y.natAbs ∧ (0 < r → 0 < x) ∧ (r < 0 → x < 0)) ∧
    (b ≠ 0 → vecInt 0x32 5 a b = (a / b, 0) ∧ vecInt 0x33 5 a b = (a % b, 0)) ∧
    (b = 0 → vecInt 0x30 5 a b = (if 0 < x then 0x7FFFFFFF else if x < 0 then 0x80000000 else 0, flINT_DIV0) ∧
      vecInt 0x31 5 a b = (a, flINT_DIV0) ∧ vecInt 0x32 5 a b = (0xFFFFFFFF, flINT_DIV0) ∧ vecInt 0x33 5 a b = (a, flINT_DIV0)) ∧
    (a = 0x80000000 → y = -1 → vecInt 0x30 5 a b = (0x7FFFFFFF, flINT_OVF) ∧ vecInt 0x31 5 a b = (0, 0))

/-- LUT_EXPAND writes table entry T[k] for each 4-bit index k, and ignores bytes 16 to 31 of the table (R102).
For every number of indices, every index stream and every 32-byte table, element i that LUT_EXPAND writes is the byte of the table at
the index's value, in order, with no flag; a table that differs only in bytes 16 to 31 gives the same elements. -/
def Obligations.LutExpandReadsTable : Prop :=
  ∀ (len a b d base : Nat) (hist : List (Nat × Nat)),
    vecResult 0x68 9 len a b d base hist = ((List.range len).map fun i => b / 2 ^ (8 * (a / 2 ^ (4 * i) % 16)) % 256, 0) ∧
    vecShape 0x68 9 len = ⟨len, 4, 32, true, 0, len, 8⟩ ∧
    ∀ b', b' % 2 ^ 128 = b % 2 ^ 128 → vecResult 0x68 9 len a b' d base hist = vecResult 0x68 9 len a b d base hist

/-- A write of PL_VEC_HIST.CLEAR by the partition that PART names clears the core's 64 counters at its next bundle boundary (R108, R113).
With every rail up, VEC_HIST_CLEAR of a core by the partition in its PL_VEC_HIST.PART marks the clear and changes nothing else; another
partition's write changes nothing. In a state with canonical stores, the core's next bundle boundary leaves every histogram counter 0
where a clear is marked and as it was where none is, takes over PL_VEC_HIST as it then stands and ends the mark; the writes on their
way, every other core's vector unit, the registers and memory stand. -/
def Obligations.HistogramCleared : Prop :=
  (∀ (s : State) (c : CoreId) (p : PartId), s.coreDark = false →
    (s.fld F.PL_VEC_HIST_PART c.val = p.val → exec (.vecHistClear c p) s = .next (s.setVec c.val { s.vec c.val with clear := true })) ∧
    (s.fld F.PL_VEC_HIST_PART c.val ≠ p.val → exec (.vecHistClear c p) s = .next s)) ∧
  (∀ (s : State) (c : Nat), s.canonical →
    ((s.histBoundary c).vec c).hist = (if (s.vec c).clear then [] else (s.vec c).hist) ∧ ((s.histBoundary c).vec c).clear = false ∧
    ((s.histBoundary c).vec c).cfg = s.reg R.PL_VEC_HIST c ∧ ((s.histBoundary c).vec c).pend = (s.vec c).pend ∧
    (∀ c', c' ≠ c → (s.histBoundary c).vec c' = s.vec c') ∧ (s.histBoundary c).regs = s.regs ∧ (s.histBoundary c).mem = s.mem)

/-- What the demand commands, their transfers and MT_LOT_SEL do (R128, R132, R133, R134, R135, R141, R513).
In a state with canonical stores: MT_LOT_SEL_WRITE completes: it shows the entry of a lot, and 0 past the last lot, and changes no other
register. A demand command whose home is not the partition's is denied (R15 ranks this first), another whose home is not 64 KiB-aligned
answers LEN_RANGE, and any other of a partition in service mode waits in the partition's queue (the model's choice, entry 35). When Stow
starts it: a FETCH that the lots cannot hold answers LEN_RANGE and changes nothing; a FETCH of one piece that a lot holds touches that
lot alone; of one that none holds takes the first free lot, else the oldest evictable one, whose home it first writes where it is dirty.
FLUSH of a piece without dirty lots and PIN, UNPIN and DROP of pieces that no lot holds change nothing; of one piece that a lot holds
they pin, unpin or free that lot. DEMAND_TRANSFER_COMPLETE of a fill copies every byte of the home and leaves the lot CLEAN with that
home; of a write-back copies every byte of the lot home; one that the OPEN queues do not serve only passes time, in which sensor ports
are served. -/
def Obligations.StowCommandsAct : Prop :=
  ∀ s : State, s.canonical →
    (∀ sel : BitVec 13, s.dark = false → ∃ t, exec (.mtLotSelWrite sel) s = .next t ∧
      t.reg R.MT_LOT_W0 = (if sel.toNat < 6144 then s.lotWord sel.toNat else 0) ∧
      t.reg R.MT_LOT_W1 = (if sel.toNat < 6144 then BitVec.ofNat 64 (s.lot sel.toNat).last else 0) ∧ t = { s with regs := t.regs } ∧
      ∀ (r : RegArr) (j : Nat), R.MT_LOT_W0.key 0 ≠ r.key j → R.MT_LOT_W1.key 0 ≠ r.key j → t.reg r j = s.reg r j) ∧
    (∀ c : Cmd, (s.demandDenied c = true → demandBody s c = (s, some (denied 0))) ∧
      (c.w64 4 % 65536 ≠ 0 → s.demandDenied c = false → demandBody s c = (s, some (lenRange 0))) ∧
      (c.w64 4 % 65536 = 0 → s.demandDenied c = false → s.demandMode c.part = false → demandBody s c =
        (s.setDemandQueue c.part (s.demandQueue c.part ++ [⟨c.ring, c.d, false, [], 0, 0⟩]), none))) ∧
    (∀ (c : Cmd) (u : Nat) (ls : List Nat), c.part < 8 → demandPieces c = [u] → ls = s.shareLots (c.w 6 % 16) c.part →
      let q := s.fld F.MT_SEQ_SEQ c.part
      (B.DESC_OPCODE.get c.d.toNat = 0x0201 →
        (∀ l, s.holding ls u = some l → s.demandStart c = (s.touch c.part l, [], Reply.detailed 0)) ∧
        (s.holding ls u = none → (∀ l ∈ ls, (s.lot l).state ≠ 0 ∧ ((s.lot l).state = 1 ∨ (s.lot l).state = 2 → (s.lot l).pin = true)) →
          s.demandStart c = (s, [], lenRange 0)) ∧
        (∀ l, s.holding ls u = none → ls.find? (fun k => (s.lot k).state == 0) = some l → ∃ t, s.demandStart c =
          (t, [⟨l, u, true⟩], Reply.detailed 0) ∧ t.lot l = { s.lot l with state := 4, homeValid := true, home := u, last := q } ∧
          (∀ k, k ≠ l → t.lot k = s.lot k) ∧ t.mem = s.mem ∧ t.fld F.MT_SEQ_SEQ c.part = (q + 1) % 2 ^ F.MT_SEQ_SEQ.w) ∧
        (∀ l, s.holding ls u = none → (∀ k ∈ ls, (s.lot k).state ≠ 0) → s.oldest ls = some l → (s.lot l).state = 2 → ∃ t, s.demandStart c =
          (t, [⟨l, (s.lot l).home, false⟩, ⟨l, u, true⟩], Reply.detailed 1) ∧
          t.lot l = { s.lot l with state := 4, homeValid := true, home := u, last := q } ∧ (∀ k, k ≠ l → t.lot k = s.lot k) ∧ t.mem = s.mem ∧
          t.fld F.MT_EVICT_EVICTIONS c.part = min (2 ^ F.MT_EVICT_EVICTIONS.w - 1) (s.fld F.MT_EVICT_EVICTIONS c.part + 1) ∧
          t.fld F.MT_EVICT_WRITEBACKS c.part = min (2 ^ F.MT_EVICT_WRITEBACKS.w - 1) (s.fld F.MT_EVICT_WRITEBACKS c.part + 1))) ∧
      (B.DESC_OPCODE.get c.d.toNat = 0x0202 → (∀ l ∈ s.partLots c.part, (s.lot l).state ≠ 2) →
        s.demandStart c = (s, [], Reply.detailed 0)) ∧
      (∀ l, s.holding ls u = some l →
        (B.DESC_OPCODE.get c.d.toNat = 0x0203 → s.demandStart c =
          ((s.touch c.part l).setLot l { s.lot l with last := q, pin := true }, [], Reply.detailed (bit (!(s.lot l).pin)))) ∧
        (B.DESC_OPCODE.get c.d.toNat = 0x0204 → s.demandStart c =
          ((s.touch c.part l).setLot l { s.lot l with last := q, pin := false }, [], Reply.detailed (bit (s.lot l).pin))) ∧
        (B.DESC_OPCODE.get c.d.toNat = 0x0205 → s.demandStart c =
          ((s.touch c.part l).setLot l { s.lot l with last := q, state := 0 }, [], Reply.detailed 1))) ∧
      (s.holding ls u = none → B.DESC_OPCODE.get c.d.toNat ∈ [0x0203, 0x0204, 0x0205] → s.demandStart c = (s, [], Reply.detailed 0))) ∧
    (∀ (p : PartId) (dt : Nat) (u : State) (q : DemandCmd) (rest : List DemandCmd) (m : DemandMove) (ms : List DemandMove),
      s.coreDark = false → u = s.passM dt → u.demandQueue p.val = q :: rest → q.moves = m :: ms → u.bring.restarts = [] → m.lot < 6144 →
      m.home < 2 ^ 21 →
      let go := u.openForAll (.demand p.val) && u.inOpenQueue (.demand p.val)
      (go = false → exec (.demandTransferComplete p dt) s = .next u) ∧
      (go = true → exec (.demandTransferComplete p dt) s = .next (u.demandComplete p.val).restartsDone) ∧
      (go = true → ms ≠ [] →
        ∃ t, exec (.demandTransferComplete p dt) s = .next t ∧ t.demandQueue p.val = { q with moves := ms } :: rest ∧
          (m.fill = true → (t.lot m.lot).state = 1 ∧ (t.lot m.lot).homeValid = true ∧ (t.lot m.lot).home = m.home ∧
            (∀ j, j < 65536 → t.rdByte (lotAddr m.lot + j) = u.rdByte (m.home * 65536 + j)) ∧
            ∀ x, (x < lotAddr m.lot ∨ lotAddr m.lot + 65536 ≤ x) → t.rdByte x = u.rdByte x) ∧
          (m.fill = false → (u.tagOf (m.home * 65536)).writes p.val = true →
            (∀ j, j < 65536 → t.rdByte (m.home * 65536 + j) = u.rdByte (lotAddr m.lot + j)) ∧
            (∀ j, j < 2048 → u.poisonAt (lotAddr m.lot + 32 * j) = true → t.poisonAt (m.home * 65536 + 32 * j / 64 * 64) = true ∧
              t.poisonAt (m.home * 65536 + 32 * j / 64 * 64 + 32) = true) ∧
            ∀ x, (x < m.home * 65536 ∨ m.home * 65536 + 65536 ≤ x) → t.rdByte x = u.rdByte x)))

/-- A line decodes by R149 with the consequences of Table DR-4; alerts, scrub reads and marks act (R147, R148, R149, R150, R151, R156, R157, R158).
On an unmarked line without poison, no error decodes clean; one wrong bit of a beat in devices 0 to 8 inner_corrected in that device; an
error of one beat within one device otherwise outer_corrected in that device. With every rail up and canonical stores, DDR_LINE_DECODE
of a clean or marked line whose inner code corrects nothing changes nothing; inner and outer corrections are counted, as is an
uncorrectable line, which also sets UNCORR and is delivered with poison; a slow outcome that a bundle waits for on an unclaimed core
raises a DDR_CORRECT hold, on a channel with a mark none. Memory stands. SCRUB_READ that the OPEN queue serves takes one line of the
quota and moves POS on, else only time passes. WRITE_CRC_ALERT and CA_PARITY_ALERT set their bits and note a first failure of the line,
whose write goes to the front of the buffer; a third one gives the line up: poison, LINK_FAULT, a lasting lane and a retraining.
DR_MARK_WRITE of a lasting device of an unmarked channel marks it for lines that end 8 MCLK cycles later; of any other device, or on a
marked channel, it changes nothing. -/
def Obligations.DdrLinesAreDecoded : Prop :=
  decodeLine none false 0 = ⟨.clean, [], none⟩ ∧
  (∀ b k, b < 8 → k < 72 → decodeLine none false (2 ^ (80 * b + k)) = ⟨.innerCorrected, [k / 8], none⟩) ∧
  (∀ b d v, b < 8 → d < 10 → v < 256 → v ≠ 0 → (d = 9 ∨ ∀ j, v ≠ 2 ^ j) →
    decodeLine none false (v * 2 ^ (80 * b + 8 * d)) = ⟨.outerCorrected, [], some d⟩) ∧
  ∀ (s : State) (ch : ChanId), s.canonical → s.coreDark = false →
    (∀ (line : BitVec 28) (err : LineError) (core : CoreId) (part : PartId) (imp : BitVec 10) (waits : Bool) (a : Nat) (x : Decoded),
      a = ddrGlobal ch.val (64 * line.toNat) → x = decodeLine (s.markOf ch.val) (s.poisonIn a 64) err.toNat →
      ((x.outcome = .clean ∨ x.outcome = .marked) → x.inner = [] → exec (.ddrLineDecode ch line err core part imp waits) s = .next s) ∧
      (∃ t, exec (.ddrLineDecode ch line err core part imp waits) s = .next t ∧ t.mem = s.mem ∧ t.pending = s.pending ∧
        (x.outcome = .innerCorrected → t.fld F.DR_ECC_COUNT_INNER ch.val = min 65535 (s.fld F.DR_ECC_COUNT_INNER ch.val + 1)) ∧
        (x.outcome = .outerCorrected → t.fld F.DR_ECC_COUNT_OUTER ch.val = min 65535 (s.fld F.DR_ECC_COUNT_OUTER ch.val + 1)) ∧
        (x.outcome = .storedPoison → t.fld F.DR_ECC_COUNT_POISON ch.val = min 65535 (s.fld F.DR_ECC_COUNT_POISON ch.val + 1)) ∧
        (x.outcome = .uncorrectable → t.fld F.DR_ECC_COUNT_UNCORR ch.val = min 65535 (s.fld F.DR_ECC_COUNT_UNCORR ch.val + 1) ∧
          t.fld F.DR_STATUS_UNCORR ch.val = 1 ∧ (t.chan ch.val).bad = (s.chan ch.val).bad ++ [a]) ∧
        (x.outcome = .outerCorrected ∨ x.outcome = .uncorrectable → waits = true → s.coreClaimed core.val = false →
          s.markOf ch.val = none → t.held = true) ∧
        (s.markOf ch.val ≠ none → t.ridge = s.ridge))) ∧
    (∀ (err : LineError) (imp : BitVec 10) (dt : Nat) (u : State), u = s.passM dt →
      ((u.openFor ch.val .scrub && !(u.scrubGated ch.val)) = false → exec (.scrubRead ch err imp dt) s = .next u) ∧
      ((u.openFor ch.val .scrub && !(u.scrubGated ch.val)) = true →
        ∃ t, exec (.scrubRead ch err imp dt) s = .next t ∧ t.mem = u.mem ∧ (t.chan ch.val).quota + 1 = (u.chan ch.val).quota ∧
          t.fld F.DR_SCRUB_POS ch.val = (u.fld F.DR_SCRUB_POS ch.val + 1) % 2 ^ 28)) ∧
    (∀ (lane : Fin 10) (line : BitVec 28),
      ((∀ f ∈ (s.chan ch.val).fails, f.1 ≠ 2 * line.toNat) →
        (∃ t, exec (.writeCrcAlert ch lane line) s = .next t ∧ t.fld F.DR_STATUS_CRC_RETRY ch.val = 1 ∧
          (2 * line.toNat, 1) ∈ (t.chan ch.val).fails ∧
          ((t.chan ch.val).wbuf.head?.map WLine.addr) = some (ddrGlobal ch.val (64 * line.toNat)) ∧ t.mem = s.mem ∧ t.poison = s.poison) ∧
        ∃ t, exec (.caParityAlert ch line false) s = .next t ∧ t.fld F.DR_STATUS_CA_RETRY ch.val = 1 ∧
          (2 * line.toNat, 1) ∈ (t.chan ch.val).fails ∧
          ((t.chan ch.val).wbuf.head?.map WLine.addr) = some (ddrGlobal ch.val (64 * line.toNat)) ∧ t.mem = s.mem ∧ t.poison = s.poison) ∧
      ((∀ f ∈ (s.chan ch.val).fails, f.1 ≠ 2 * line.toNat + 1) →
        ∃ t, exec (.caParityAlert ch line true) s = .next t ∧ t.fld F.DR_STATUS_CA_RETRY ch.val = 1 ∧
          (2 * line.toNat + 1, 1) ∈ (t.chan ch.val).fails ∧ t.mem = s.mem ∧ t.poison = s.poison) ∧
      (s.failCount ch.val (2 * line.toNat) = 3 →
        ∃ t, exec (.writeCrcAlert ch lane line) s = .next t ∧ t.fld F.DR_STATUS_LINK_FAULT ch.val = 1 ∧
          (t.site (siteLane ch.val lane.val)).lasting = true ∧ t.fld F.DR_STATUS_RETRAINING ch.val = 1 ∧
          t.poisonAt (ddrGlobal ch.val (64 * line.toNat)) = true) ∧
      (s.failCount ch.val (2 * line.toNat + 1) = 3 →
        ∃ t, exec (.caParityAlert ch line true) s = .next t ∧ t.fld F.DR_STATUS_LINK_FAULT ch.val = 1 ∧
          (t.site (siteLane ch.val 10)).lasting = true ∧ t.fld F.DR_STATUS_RETRAINING ch.val = 1 ∧
          (s.readersOf ch.val (ddrGlobal ch.val (64 * line.toNat)) = [] →
            ddrGlobal ch.val (64 * line.toNat) ∈ (t.chan ch.val).bad))) ∧
    (∀ d : Fin 10, ((s.site (siteDevice ch.val d.val)).lasting = true → s.flag F.DR_MARK_VALID ch.val = false →
        ∃ t, exec (.drMarkWrite ch d) s = .next t ∧ t.markOf ch.val = none ∧ (t.tickM 8).markOf ch.val = some d.val ∧ t.mem = s.mem) ∧
      (((s.site (siteDevice ch.val d.val)).lasting = false ∨ s.flag F.DR_MARK_VALID ch.val = true) →
        exec (.drMarkWrite ch d) s = .next s))

/-- Slot windows end, refresh debt and scrub quota grow and are served, retraining runs step by step, and levels reach the regulator (R34, R35, R542, R158, R161, R162, R163, R221).
With every rail up and canonical stores, for a channel after dt MCLK cycles, in which sensor ports are served: SLOT_WINDOW_END ends the
running slot window when its length has passed, and the next window starts; a REF window takes one from the debt, a ZQCS window
calibrates, an OPEN window lets buffered lines leave and calibrates if that is owed, a GRANT window moves read lines of its core's
transfer at 2 cycles a line; before, only time passes. REFRESH_DEBT_TICK after 3,120 cycles: the debt grows by one to at most 8;
standalone service between slot windows clears it; a debt of 8 on an unclaimed channel raises a REFRESH_DEBT hold, also inside another
hold. STANDALONE_SERVICE between slot windows clears the debt and calibrates. After 800,000 cycles RATE joins the scrub quota, and
unread quota sets SCRUB_LAG. A request, an elapsed PERIOD and a drift of DTEMP start a retraining of 30 steps unless one runs. A step
with its slot takes one; the last ends the retraining. A step that has waited WAIT cycles on an unclaimed channel of a running plan
raises a RETRAIN hold. EFFECTIVE_LEVEL_UPDATE: the level of a queue is that of the thresholds its entries reach, and the effective level
the larger of it and the sources' urgency; a fill stream that waits for gates goes on once they lift. -/
def Obligations.DdrChannelsAreServed : Prop :=
  ∀ (s u : State) (ch : ChanId) (dt : Nat), s.canonical → s.coreDark = false → u = s.passM dt →
    (((u.chan ch.val).slots = [] → exec (.slotWindowEnd ch dt) s = .next u) ∧
      ∀ w rest, (u.chan ch.val).slots = w :: rest →
        (u.clk.mclk < w.start.getD u.clk.mclk + w.mcyc → exec (.slotWindowEnd ch dt) s = .next u) ∧
        (w.start.getD u.clk.mclk + w.mcyc ≤ u.clk.mclk → ∃ t, exec (.slotWindowEnd ch dt) s = .next t ∧
          (u.ridge.heldSlots = [] ∨ u.held = true →
            (t.chan ch.val).slots = (match rest with | [] => [] | x :: xs => { x with start := some u.clk.mclk } :: xs)) ∧
          (w.dop ≠ 1 → t.mem = u.mem ∧ t.stow = u.stow) ∧
          (w.dop = 2 → (t.chan ch.val).debt = (u.chan ch.val).debt - 1 - (if u.standalone ch.val then 8 else 0) ∧ t.regs = u.regs) ∧
          (w.dop = 3 → (t.chan ch.val).zqAt = u.clk.mclk ∧ t.regs = u.regs) ∧
          (w.dop = 4 → (t.chan ch.val).wbuf.length = (u.chan ch.val).wbuf.length - 2 * w.mcyc / 5 ∧
            (t.chan ch.val).zqAt =
              (if (u.chan ch.val).zqAt + 102400000 ≤ u.clk.mclk then u.clk.mclk else (u.chan ch.val).zqAt)) ∧
          (w.dop = 1 → (u.queue w.core = [] → t.mem = u.mem) ∧
            ∀ x xs, u.queue w.core = x :: xs → x.again = [] → (u.chan ch.val).wbuf = [] →
              ∃ y, t.queue w.core = y :: xs ∧ y.moved ch.val = x.moved ch.val + min (x.readsLeft ch.val).length (w.mcyc / 2)))) ∧
    (((u.chan ch.val).ready = false ∨ u.clk.mclk < (u.chan ch.val).debtAt + 3120 → exec (.refreshDebtTick ch dt) s = .next u) ∧
      ((u.chan ch.val).ready = true → (u.chan ch.val).debtAt + 3120 ≤ u.clk.mclk →
        let n := min 8 (((u.holdRef ch.val u.clk.aclk).chan ch.val).debt + 1)
        ∃ t, exec (.refreshDebtTick ch dt) s = .next t ∧ (t.chan ch.val).debtAt = (u.chan ch.val).debtAt + 3120 ∧ t.mem = u.mem ∧
          (u.standalone ch.val = true → (t.chan ch.val).debt = (if (u.chan ch.val).slots = [] then 0 else n) ∧ t.regs = u.regs) ∧
          (u.standalone ch.val = false → u.held = false ∨ u.chanClaimed ch.val = true → (t.chan ch.val).debt = n) ∧
          (u.standalone ch.val = false → u.chanClaimed ch.val = false → n = 8 → ∃ h, t.ridge.hold = some h ∧
            (h.causes.any fun c => c.code == 3) = true ∧
            (u.held = false → t.fld F.PL_STATUS_HOLDING = 1 ∧ t.fld F.PL_STATUS_HOLD_CAUSE = 3)) ∧
          (u.standalone ch.val = false → n ≠ 8 ∨ u.chanClaimed ch.val = true → t.ridge = u.ridge ∧ t.regs = u.regs))) ∧
    ((u.standalone ch.val = true → (u.chan ch.val).slots = [] → ∃ t, exec (.standaloneService ch dt) s = .next t ∧
        (t.chan ch.val).debt = (u.chan ch.val).debt - 8 ∧ u.clk.mclk < (t.chan ch.val).zqAt + 102400000 ∧
        (t.chan ch.val).wbuf.length = (u.chan ch.val).wbuf.length - 2 * dt / 5 ∧ t.mem = u.mem) ∧
      (u.standalone ch.val = false ∨ (u.chan ch.val).slots ≠ [] → exec (.standaloneService ch dt) s = .next u)) ∧
    (((u.chan ch.val).quotaAt + 800000 ≤ u.clk.mclk → ∃ t, exec (.scrubQuotaTick ch dt) s = .next t ∧
        (t.chan ch.val).quota = (u.chan ch.val).quota + u.fld F.DR_SCRUB_RATE ch.val ∧ t.mem = u.mem ∧
        (t.chan ch.val).quotaAt = (u.chan ch.val).quotaAt + 800000 ∧
        (0 < (u.chan ch.val).quota → t.fld F.DR_STATUS_SCRUB_LAG ch.val = 1)) ∧
      (u.clk.mclk < (u.chan ch.val).quotaAt + 800000 → exec (.scrubQuotaTick ch dt) s = .next u)) ∧
    ((s.flag F.DR_STATUS_RETRAINING ch.val = true → exec (.drRetrainReq ch) s = .next s) ∧
      (s.flag F.DR_STATUS_RETRAINING ch.val = false → ∃ t, exec (.drRetrainReq ch) s = .next t ∧ t.mem = s.mem ∧
        t.fld F.DR_STATUS_RETRAINING ch.val = 1 ∧ t.fld F.DR_RETRAIN_STEPS_LEFT ch.val = 30 ∧
        (t.chan ch.val).stepWait = some s.clk.mclk)) ∧
    ((u.fld F.DR_RETRAIN_PERIOD ch.val ≠ 0 → (u.chan ch.val).trainAt + 800000 * u.fld F.DR_RETRAIN_PERIOD ch.val ≤ u.clk.mclk →
        exec (.retrainPeriodExpiry ch dt) s = exec (.drRetrainReq ch) u) ∧
      (u.fld F.DR_RETRAIN_PERIOD ch.val = 0 ∨ u.clk.mclk < (u.chan ch.val).trainAt + 800000 * u.fld F.DR_RETRAIN_PERIOD ch.val →
        exec (.retrainPeriodExpiry ch dt) s = .next u)) ∧
    (∀ v : BitVec 8, ∃ t, exec (.retrainTempDrift ch v) s = .next t ∧ t.fld F.DR_STATUS_TEMP ch.val = v.toNat ∧ t.mem = s.mem ∧
      (s.fld F.DR_RETRAIN_DTEMP ch.val ≤ (v.toInt - asSigned 8 (s.fld F.DR_TRAIN_STATUS_TRAIN_TEMP ch.val)).natAbs →
        t.fld F.DR_STATUS_RETRAINING ch.val = 1)) ∧
    ((u.flag F.DR_STATUS_RETRAINING ch.val = true → u.stepSlot ch.val = true → 1 < u.fld F.DR_RETRAIN_STEPS_LEFT ch.val →
        ∃ t, exec (.retrainStep ch dt) s = .next t ∧ t.fld F.DR_RETRAIN_STEPS_LEFT ch.val + 1 = u.fld F.DR_RETRAIN_STEPS_LEFT ch.val ∧
          t.fld F.DR_STATUS_RETRAINING ch.val = 1 ∧ t.mem = u.mem) ∧
      (u.flag F.DR_STATUS_RETRAINING ch.val = true → u.stepSlot ch.val = true → u.fld F.DR_RETRAIN_STEPS_LEFT ch.val = 1 →
        u.rings.retrains = [] → ∃ t, exec (.retrainStep ch dt) s = .next t ∧ t.fld F.DR_RETRAIN_STEPS_LEFT ch.val = 0 ∧
          t.fld F.DR_STATUS_RETRAINING ch.val = 0 ∧ (t.chan ch.val).trainAt = u.clk.mclk ∧
          t.fld F.DR_TRAIN_STATUS_TRAIN_TEMP ch.val = u.fld F.DR_STATUS_TEMP ch.val ∧ t.mem = u.mem) ∧
      (u.flag F.DR_STATUS_RETRAINING ch.val = false ∨ u.stepSlot ch.val = false → exec (.retrainStep ch dt) s = .next u)) ∧
    (∀ x, (u.chan ch.val).stepWait = some x → u.flag F.DR_STATUS_RETRAINING ch.val = true → u.chanClaimed ch.val = false →
      u.standalone ch.val = false →
      (x + u.fld F.DR_RETRAIN_WAIT ch.val ≤ u.clk.mclk →
        exec (.retrainWaitExpiry ch dt) s = .next (u.raiseHold 5 (some (u.clk.aclk + 2500)))) ∧
      (u.clk.mclk < x + u.fld F.DR_RETRAIN_WAIT ch.val → exec (.retrainWaitExpiry ch dt) s = .next u)) ∧
    (∀ occ1 occ3, ∃ t, exec (.effectiveLevelUpdate ch occ1 occ3) s = .next t ∧ t.mem = s.mem ∧
      t.fld F.DR_QLEVEL_OCC_C1 ch.val = (s.queueOpens.occupancy ch.val).1 ∧
      t.fld F.DR_QLEVEL_OCC_C3 ch.val = (s.queueOpens.occupancy ch.val).2 ∧
      (let n := (s.queueOpens.occupancy ch.val).1 + (s.queueOpens.occupancy ch.val).2
       t.fld F.DR_QLEVEL_LEVEL ch.val = (if s.fld F.DR_QCFG_T3 ch.val ≤ n then 3 else if s.fld F.DR_QCFG_T2 ch.val ≤ n then 2
          else if s.fld F.DR_QCFG_T1 ch.val ≤ n then 1 else 0)) ∧
      (spWf 0 s.sched.level = true → ∀ c, c < 8 → t.level c = max (t.fld F.DR_QLEVEL_LEVEL c) s.urgency) ∧
      (s.ridge.regWaiting = true →
        t.ridge.regWaiting = !((bitsOf 8 s.ridge.regChans).all fun c => !(t.c2Gated c))))

/-- What the sequence commands do once started, and when a step's lists and a walker's records become visible (R167, R168, R169, R170, R175, R187).
In a state with canonical stores: SEQ_JOIN binds the lowest EMPTY row to the context in JOINING and answers its number, or NO_CONTEXT
without rows (2) or without an empty one (1), or CONFIG_CONFLICT where the context holds a row. The others answer NO_CONTEXT without a
row. SEQ_APPEND copies the tokens to the end of the log and counts them, or answers LEN_RANGE past 1,048,576; SEQ_RESET marks a position
from POS, as the last flip leaves it, to below LOG_LEN; SEQ_LEAVE moves the row to LEAVING and waits; SEQ_QUERY writes the row's entry,
in which NEXT_TOKEN and NEXT_VALID are what the plan has written (a free value, entry 57). Each leaves every other row as it is. With
every rail up, SEQ_ASSEMBLY_VISIBLE before T_asm only passes time; after it the step in assembly is visible: its list holds its tokens,
and zeros past them. WALKER_ITEM_WRITE of a walker that is due writes the item records of leads 0 to 3 and then sends count - i to its
condition register; of one that is not due it only passes time. -/
def Obligations.SequenceCommandsAct : Prop :=
  ∀ s : State, s.canonical →
    (∀ (c : Cmd) (q : SeqPart), q = s.seqPart c.part →
      (s.seqRows c.part = 0 → Machine.seqJoin s c = (s, some ⟨2, 2, 0, none⟩)) ∧
      (s.seqRows c.part ≠ 0 → (∀ r, r < s.seqRows c.part → (q.row r).state ≠ 0) → Machine.seqJoin s c = (s, some ⟨2, 1, 0, none⟩)) ∧
      (∀ r, r < s.seqRows c.part → (q.row r).state = 0 → (∀ j, j < r → (q.row j).state ≠ 0) →
        (s.seqRowOf c.part c.ctx ≠ none → Machine.seqJoin s c = (s, some (conflict 0))) ∧
        (s.seqRowOf c.part c.ctx = none → ∃ t, Machine.seqJoin s c = (t, some (Reply.detailed r)) ∧
          (t.seqPart c.part).row r = { SeqRow.reset with state := 1, auto := hasBit (c.w 4) 0, ctx := c.ctx } ∧
          (∀ j, j ≠ r → (t.seqPart c.part).row j = q.row j) ∧ (t.seqPart c.part).tags = q.tags ++ [c.tag] ∧ t.mem = s.mem ∧ t.regs = s.regs)) ∧
      (s.seqRowOf c.part c.ctx = none → ∀ f ∈ [Machine.seqAppend, Machine.seqReset, Machine.seqLeave, Machine.seqQuery],
        f s c = (s, some ⟨2, 0, 0, none⟩)) ∧
      (∀ r x, s.seqRowOf c.part c.ctx = some r → x = q.row r → x.state ≠ 0 →
        (s.exchange c.ctx (c.w64 4) c.len = false → Machine.seqAppend s c = (s, some (denied 4))) ∧
        (s.exchange c.ctx (c.w64 4) c.len = true → 1048576 < x.logLen + c.len / 4 → Machine.seqAppend s c = (s, some (lenRange 0))) ∧
        (s.exchange c.ctx (c.w64 4) c.len = true → x.logLen + c.len / 4 ≤ 1048576 → s.seqLogAddr c.part r x.logLen + c.len ≤ ddrSize →
          ∃ t, Machine.seqAppend s c = (t, some Reply.ok) ∧ (t.seqPart c.part).row r = { x with logLen := x.logLen + c.len / 4 } ∧
            (∀ j, j ≠ r → (t.seqPart c.part).row j = q.row j) ∧
            (∀ j, j < c.len → t.rdByte (s.seqLogAddr c.part r x.logLen + j) = s.rdByte (c.w64 4 + j)) ∧
            ∀ y, (y < s.seqLogAddr c.part r x.logLen ∨ s.seqLogAddr c.part r x.logLen + c.len ≤ y) → t.rdByte y = s.rdByte y) ∧
        ((c.w 4 % 2 ^ 21 < (q.flipped r).pos ∨ x.logLen ≤ c.w 4 % 2 ^ 21 ∨ 8 ≤ (q.flipped r).marks.length) →
          Machine.seqReset s c = (s, some (lenRange 0))) ∧
        ((q.flipped r).pos ≤ c.w 4 % 2 ^ 21 → c.w 4 % 2 ^ 21 < x.logLen → (q.flipped r).marks.length < 8 →
          ∃ t, Machine.seqReset s c = (t, some Reply.ok) ∧ ((t.seqPart c.part).row r).marks.contains (c.w 4 % 2 ^ 21) = true ∧
            ((t.seqPart c.part).row r).isReset (c.w 4 % 2 ^ 21) = true ∧ (∀ j, j ≠ r → (t.seqPart c.part).row j = q.row j) ∧ t.mem = s.mem) ∧
        (∃ t, Machine.seqLeave s c = (t, none) ∧ (t.seqPart c.part).row r = { x with state := 3, leave := x.leave ++ [(c.ring, c.d)] } ∧
          (∀ j, j ≠ r → (t.seqPart c.part).row j = q.row j) ∧ t.mem = s.mem) ∧
        (s.exchange c.ctx (c.w64 4) 64 = false → Machine.seqQuery s c = (s, some (denied 4))) ∧
        (s.exchange c.ctx (c.w64 4) 64 = true →
          ∃ t y, Machine.seqQuery s c = (t, some Reply.ok) ∧ y = (t.seqPart c.part).row r ∧ t.rdLe (c.w64 4) 64 = y.entry % 2 ^ 512 ∧
            y = { x with nextToken := y.nextToken, nextValid := y.nextValid } ∧ (t.seqPart c.part).tags = q.tags ++ [c.tag] ∧
            ∀ y, (y < c.w64 4 ∨ c.w64 4 + 64 ≤ y) → t.rdByte y = s.rdByte y))) ∧
    (s.coreDark = false → ∀ (p : PartId) (dt x : Nat) (u : State), u = s.tickA dt → (u.seqPart p.val).lastFlip = some x →
      (u.clk.aclk < x + u.seqTasm p.val → exec (.seqAssemblyVisible p dt) s = .next u) ∧
      (x + u.seqTasm p.val ≤ u.clk.aclk → (u.seqPart p.val).building = none → exec (.seqAssemblyVisible p dt) s = .next u) ∧
      (∀ built st, x + u.seqTasm p.val ≤ u.clk.aclk → (u.seqPart p.val).building = some (built, st) →
        ∃ t, exec (.seqAssemblyVisible p dt) s = .next t ∧ (t.seqPart p.val).step = st ∧ (t.seqPart p.val).building = none ∧
          (∀ k, k < u.seqMaxTokens p.val → t.rdLe (u.seqListAddr p.val + 8 * k) 8 = st.tokens.getD k 0 % 2 ^ 64) ∧
          ∀ y, (y < u.seqListAddr p.val ∨ u.seqListAddr p.val + 8 * u.seqMaxTokens p.val ≤ y) → t.rdByte y = u.rdByte y)) ∧
    (s.coreDark = false → ∀ (p : PartId) (w : Fin 4) (dt : Nat) (u : State), u = s.tickA dt →
      ((u.seqPart p.val).due.contains w.val = false → exec (.walkerItemWrite p w dt) s = .next u) ∧
      ((u.seqPart p.val).due.contains w.val = true → ∀ r a i, r = 4 * seqIdx p.val + w.val → i = u.walkAt p.val w.val →
        a = coreBase (u.fld F.PL_SEQ_WALK_CORE r) + 32 * u.fld F.PL_SEQ_WALK_ITEM_ADDR r →
        ∃ t, exec (.walkerItemWrite p w dt) s = .next t ∧ (t.seqPart p.val).due.contains w.val = false ∧
          (∀ k, k < 4 → t.rdLe (a + 64 * k) 64 =
            itemRecord (u.walkKind p.val w.val) (i + k) (u.walkItems p.val w.val)[i + k]? % 2 ^ 512) ∧
          t.ridge.condPend = u.ridge.condPend ++
            [⟨u.fld F.PL_SEQ_WALK_COND r, ((u.walkItems p.val w.val).length - i) % 2 ^ 32, none⟩] ∧ t.regs = u.regs))

/-- An accepted edge starts a synced frame, an early one is counted, and a lost source starts unsynced frames (R204, R205, R206, R207, R208, R210, R217).
With every rail up and canonical stores, EN set and no replay, after dt ACLK cycles: SYNC_EDGE with another source selected only passes
time; with no free-run start overdue an edge at least MIN_GAP after the last frame start starts a frame; one that comes sooner is
counted in EARLY and starts none; one accepted in the very cycle of a free-run start makes that frame synced and takes its counts back.
FREE_RUN_FRAME_START before its cycle only passes time; at LEN + LOSS after the last start it counts a loss, sets LOST and starts a
frame in the cycle in which it fell due; in free-run at LEN it starts a further one. Each frame start counts the frame number by one
modulo 2^48, marks the frame synced exactly for an accepted edge, counts an unsynced one in FREE_FRAMES, stands as the last start, and
puts the regions of SP_REGION in force. Memory stands. Each schedule register of a partition takes the FLAGS of its entry for the frame,
which a branch of that very cycle does not see. -/
def Obligations.FramesStart : Prop :=
  ∀ (s u : State) (dt : Nat), s.canonical → s.coreDark = false → u = s.tickA dt → u.flag F.SP_FRAME_CFG_EN = true →
    u.flag F.FB_STATUS_REPLAYING = false →
    (u.fld F.SP_FRAME_CFG_SRC ≠ 0 → exec (.syncEdge dt) s = .next u) ∧
    (∀ x, u.sched.lastStart = some x → u.fld F.SP_FRAME_CFG_SRC = 0 → (∀ d, u.freeDue = some d → u.clk.aclk ≤ d) →
      (∀ y, u.sched.free = some y → y.cyc ≠ u.clk.aclk) →
      (u.clk.aclk < x + u.fld F.SP_SYNC_CFG_MIN_GAP → ∃ t, exec (.syncEdge dt) s = .next t ∧ t.frameNum = u.frameNum ∧
        t.fld F.SP_SYNC_COUNTS_EARLY = min 65535 (u.fld F.SP_SYNC_COUNTS_EARLY + 1) ∧ t.sched = u.sched ∧ t.mem = u.mem) ∧
      (x + u.fld F.SP_SYNC_CFG_MIN_GAP ≤ u.clk.aclk → ∃ t, exec (.syncEdge dt) s = .next t ∧
        t.frameNum = (u.frameNum + 1) % 2 ^ 48 ∧ t.unsynced = false ∧ t.fld F.PL_STATUS_UNSYNCED = 0 ∧
        t.fld F.SP_SYNC_COUNTS_FREE_FRAMES = u.fld F.SP_SYNC_COUNTS_FREE_FRAMES ∧ t.sched.freeRun = false ∧
        t.sched.lastStart = some u.clk.aclk ∧ (∀ i, i < 32 → spGet 0 t.sched.regions i = u.reg R.SP_REGION i) ∧ t.mem = u.mem)) ∧
    (∀ y, u.sched.free = some y → y.cyc = u.clk.aclk → u.sched.lastStart = some u.clk.aclk → u.fld F.SP_FRAME_CFG_SRC = 0 →
      ∃ t, exec (.syncEdge dt) s = .next t ∧ t.frameNum = u.frameNum ∧ t.unsynced = false ∧ t.fld F.PL_STATUS_UNSYNCED = 0 ∧
        t.fld F.SP_SYNC_COUNTS_FREE_FRAMES = F.SP_SYNC_COUNTS_FREE_FRAMES.get y.counts ∧
        t.fld F.SP_SYNC_COUNTS_LOSSES = F.SP_SYNC_COUNTS_LOSSES.get y.counts ∧
        t.fld F.SP_FRAME_STATUS_LOST = F.SP_FRAME_STATUS_LOST.get y.status ∧ t.sched.freeRun = false ∧
        t.sched.lastStart = some u.clk.aclk ∧ t.mem = u.mem) ∧
    (∀ x d, u.sched.lastStart = some x →
      d = x + u.fld F.SP_FRAME_CFG_LEN + (if u.sched.freeRun then 0 else u.fld F.SP_SYNC_CFG_LOSS) →
      (u.clk.aclk < d → exec (.freeRunFrameStart dt) s = .next u) ∧
      (d ≤ u.clk.aclk →
        ∃ t, exec (.freeRunFrameStart dt) s = .next t ∧ t.frameNum = (u.frameNum + 1) % 2 ^ 48 ∧ t.unsynced = true ∧
          t.fld F.PL_STATUS_UNSYNCED = 1 ∧ t.sched.freeRun = true ∧ t.sched.lastStart = some d ∧
          t.fld F.SP_SYNC_COUNTS_FREE_FRAMES = min (2 ^ 32 - 1) (u.fld F.SP_SYNC_COUNTS_FREE_FRAMES + 1) ∧
          (u.sched.freeRun = false → t.fld F.SP_FRAME_STATUS_LOST = 1 ∧
            t.fld F.SP_SYNC_COUNTS_LOSSES = min 65535 (u.fld F.SP_SYNC_COUNTS_LOSSES + 1)) ∧
          (u.sched.freeRun = true → t.fld F.SP_SYNC_COUNTS_LOSSES = u.fld F.SP_SYNC_COUNTS_LOSSES) ∧
          (∀ i, i < 32 → spGet 0 t.sched.regions i = u.reg R.SP_REGION i) ∧ t.mem = u.mem)) ∧
    (∀ (p f c : Nat) (e : BitVec 64), p < 8 → u.schedEntry p f = some e → u.fld F.SP_SCHED_CFG_COND p < 64 →
      (u.schedWrite f p c).fld F.PL_COND_VALUE (u.fld F.SP_SCHED_CFG_COND p) = F.SP_SCHED_ENT_FLAGS.get e ∧
      (u.condFloor ≤ c → (u.schedWrite f p c).condAt (u.fld F.SP_SCHED_CFG_COND p) c = u.condAt (u.fld F.SP_SCHED_CFG_COND p) c))

/-- A golden frame that ran clears DEFER_RUN; one that did not is a deferral with the first cause that holds; four raise class 5 (R214, R215).
With every rail up and canonical stores, after dt ACLK cycles: GOLDEN_JUDGEMENT before OFFSET + SLACK + 1 of the oldest golden frame
only passes time, as it does with none waiting. At that cycle the frame leaves the list; unless EN is set nothing is judged. If its OPEN
had issued by that cycle, DEFER_RUN is 0; if not, DEFER_RUN grows by one up to 4, DEFER_TOTAL is counted, and LAST_CAUSE is STOPPED
where the frame stream did not run in that cycle, else FRAME_LATE where the start was not released by OFFSET + SLACK, else OVERRUN, else
LATE; the fourth in a row latches fault class 5. GOLDEN_SKIP_DEADLINE with a skip due writes 1 to the skip register, and with none due
only passes time. An OPEN of the frame counts as run exactly if it issued by the cycle of the judgement. Memory stands. -/
def Obligations.GoldenFramesAreJudged : Prop :=
  ∀ (s u : State) (dt : Nat), s.canonical → s.coreDark = false → u = s.tickA dt →
    (u.sched.golden = [] → exec (.goldenJudgement dt) s = .next u) ∧
    (∀ g rest, u.sched.golden = g :: rest →
      (u.clk.aclk < u.skipAt g + 1 → exec (.goldenJudgement dt) s = .next u) ∧
      (u.skipAt g + 1 ≤ u.clk.aclk → ∃ t, exec (.goldenJudgement dt) s = .next t ∧ t.sched.golden = rest ∧ t.mem = u.mem ∧
        (g.ran = true ∨ u.flag F.SP_GOLDEN_CFG_EN = false →
          t.fld F.SP_GOLDEN_STATUS_DEFER_RUN = (if u.flag F.SP_GOLDEN_CFG_EN then 0 else u.fld F.SP_GOLDEN_STATUS_DEFER_RUN) ∧
          t.fld F.SP_GOLDEN_STATUS_DEFER_TOTAL = u.fld F.SP_GOLDEN_STATUS_DEFER_TOTAL ∧ t.plumb = u.plumb) ∧
        (g.ran = false → u.flag F.SP_GOLDEN_CFG_EN = true →
          t.fld F.SP_GOLDEN_STATUS_DEFER_RUN = min 4 (u.fld F.SP_GOLDEN_STATUS_DEFER_RUN + 1) ∧
          t.fld F.SP_GOLDEN_STATUS_DEFER_TOTAL = min (2 ^ 32 - 1) (u.fld F.SP_GOLDEN_STATUS_DEFER_TOTAL + 1) ∧
          t.fld F.SP_GOLDEN_STATUS_LAST_CAUSE =
            (if u.ranAt (u.skipAt g + 1) = false then 3
             else if g.released = none ∨ (g.released.any fun c => decide (u.skipAt g < c)) = true then 2 else if g.overrun then 1 else 4) ∧
          (u.fld F.SP_GOLDEN_STATUS_DEFER_RUN = 3 → hasBit (t.fld F.PB_STATUS_CAUSES) 4 = true)))) ∧
    ((∀ g ∈ u.sched.golden, u.skipDue g = false) → exec (.goldenSkipDeadline dt) s = .next u) ∧
    (∀ g rest, u.sched.golden = g :: rest → u.skipDue g = true → u.fld F.SP_GOLDEN_CFG_WINDOW ≠ 0 →
      u.flag F.FB_STATUS_REPLAYING = false → u.fld F.SP_GOLDEN_CFG_COND < 64 →
      ∃ t, exec (.goldenSkipDeadline dt) s = .next t ∧ t.fld F.PL_COND_VALUE (u.fld F.SP_GOLDEN_CFG_COND) = 1 ∧ t.mem = u.mem ∧
        ∃ x, t.sched.golden.head? = some x ∧ x.skip = true) ∧
    (∀ g rest c, u.sched.golden = g :: rest →
      ∃ x, (u.goldenOpened g.num c).sched.golden.head? = some x ∧ x.ran = decide (c ≤ u.skipAt g + 1) ∧ x.opened = some c)

/-- What a port receives goes to the lowest stream that matches, as one sample whole, or is dropped and counted by its cause (R230, R231, R235, R236, R543).
With every rail up and canonical stores: a frame, packet or edge at a port that is off only passes time, and one that matches no stream
is counted as UNMATCHED. An Ethernet frame with a good FCS, a CAN frame without error that the port's kind admits, and a captured edge
each add to their stream one finished sample with its number, stamps, length and bytes, which stand in the ingest buffer; memory stands.
A bad FCS or a CAN error drops it as LINK_DROP, a full ingest buffer as BUF_DROP; a dropped sample keeps its number. A classical CAN
port answers an FD frame with an error frame. A remote CAN frame is UNMATCHED. CSI-2: FS begins a sample, a good long packet adds its
bytes, FE ends it, a bad CRC drops it. A TDM frame joins the block of the lowest-indexed stream of the port, and the last one ends it.
LINK_STATE_CHANGE shows a link's state. -/
def Obligations.SamplesAreTakenOrDropped : Prop :=
  ∀ s : State, s.canonical → s.coreDark = false → spWf StreamUnit.reset s.sensors.streams = true →
    (∀ (k : Fin 4) (data : List Byte) (fcs : Bool) (dr dt dl n a : Nat) (u : State), n = 8 + k.val → u = s.tickP n (dt + dl) →
      a = s.portTime n + dt →
      (u.portOn n = false → exec (.ethFrameRx k data fcs dr dt dl) s = .next u) ∧
      (u.portOn n = true → u.matching n (etherMatch data) = none → exec (.ethFrameRx k data fcs dr dt dl) s = .next (u.unmatched n)) ∧
      (∀ i, u.portOn n = true → u.matching n (etherMatch data) = some i →
        (fcs = true → u.ingestFits n data.length = true → data.length ≤ u.maxPayload i →
          ∃ t, exec (.ethFrameRx k data fcs dr dt dl) s = .next t ∧ t.mem = s.mem ∧ t.stream' i = { s.stream' i with
            begun := (s.stream' i).begun + 1, asm := none, ready := (s.stream' i).ready ++
              [⟨(s.stream' i).begun, a, u.portTime n, data.length, data⟩] }) ∧
        (fcs = true → u.ingestFits n data.length = false → data.length ≤ u.maxPayload i →
          ∃ t, exec (.ethFrameRx k data fcs dr dt dl) s = .next t ∧ t.mem = s.mem ∧
            t.stream' i = { s.stream' i with begun := (s.stream' i).begun + 1, asm := none } ∧
            t.fld F.SN_STREAM_CNT_BUF_DROP i = min (2 ^ F.SN_STREAM_CNT_BUF_DROP.w - 1) (s.fld F.SN_STREAM_CNT_BUF_DROP i + 1)) ∧
        (fcs = false → ∃ t, exec (.ethFrameRx k data fcs dr dt dl) s = .next t ∧ t.mem = s.mem ∧
            t.stream' i = { s.stream' i with begun := (s.stream' i).begun + 1, asm := none } ∧
            t.fld F.SN_STREAM_CNT_LINK_DROP i = min (2 ^ F.SN_STREAM_CNT_LINK_DROP.w - 1) (s.fld F.SN_STREAM_CNT_LINK_DROP i + 1)))) ∧
    (∀ (k : Fin 6) (x : CanFrame) (dr dt dl n a : Nat) (u : State), n = 12 + k.val → u = s.tickP n (dt + dl) → a = s.portTime n + dt →
      (u.portOn n = false → exec (.canFrameRx k x dr dt dl) s = .next u) ∧
      (u.portOn n = true → ((u.portStreams n).find? (u.canMatch x) = none ∨ x.remote = true) →
        exec (.canFrameRx k x dr dt dl) s = .next ((u.canAnswer n x).unmatched n)) ∧
      (∀ i, u.portOn n = true → (u.portStreams n).find? (u.canMatch x) = some i → x.remote = false →
        (x.error = false → (x.fd = false ∨ hasBit (u.fld F.SN_PORT_CFG_IFCFG n) 23 = true) →
          x.data.length ≤ u.maxPayload i → u.ingestFits n x.data.length = true →
          ∃ t, exec (.canFrameRx k x dr dt dl) s = .next t ∧ t.mem = s.mem ∧ t.stream' i = { s.stream' i with
            begun := (s.stream' i).begun + 1, asm := none, ready := (s.stream' i).ready ++
              [⟨(s.stream' i).begun, a, u.portTime n, x.data.length, x.data⟩] }) ∧
        ((x.error = true ∨ (x.fd = true ∧ hasBit (u.fld F.SN_PORT_CFG_IFCFG n) 23 = false)) →
          ∃ t, exec (.canFrameRx k x dr dt dl) s = .next t ∧ t.mem = s.mem ∧
            t.stream' i = { s.stream' i with begun := (s.stream' i).begun + 1, asm := none } ∧
            t.fld F.SN_STREAM_CNT_LINK_DROP i = min (2 ^ F.SN_STREAM_CNT_LINK_DROP.w - 1) (s.fld F.SN_STREAM_CNT_LINK_DROP i + 1) ∧
            (spWf 0 s.sensors.canErrors = true → x.fd = true → hasBit (u.fld F.SN_PORT_CFG_IFCFG n) 23 = false →
              spGet 0 t.sensors.canErrors n = spGet 0 s.sensors.canErrors n + 1)))) ∧
    (∀ (g : BitVec 5) (rising : Bool) (dt : Nat) (u : State), u = s.tickP 26 dt →
      ((u.portOn 26 = false ∨ u.fld F.SN_GPIO_MODE g.toNat ≠ 1 ∨ edgeIn (u.fld F.SN_GPIO_EDGE g.toNat) rising = false) →
        exec (.gpioEdgeCapture g rising dt) s = .next u) ∧
      (∀ i, u.portOn 26 = true → u.fld F.SN_GPIO_MODE g.toNat = 1 → edgeIn (u.fld F.SN_GPIO_EDGE g.toNat) rising = true →
        u.matching 26 (fun x => x % 32 == g.toNat && edgeIn (x / 32 % 4) rising) = some i → u.ingestFits 26 0 = true →
        ∃ t, exec (.gpioEdgeCapture g rising dt) s = .next t ∧ t.mem = s.mem ∧ t.stream' i = { s.stream' i with
          begun := (s.stream' i).begun + 1, asm := none, ready := (s.stream' i).ready ++
            [⟨(s.stream' i).begun, u.portTime 26, u.portTime 26, 0, []⟩] })) ∧
    (∀ (n : Fin 8) (vc : BitVec 4) (ty : BitVec 6) (data : List Byte) (dr dt i : Nat) (u : State), u = s.tickP n.val dt →
      u.portOn n.val = true → (u.portStreams n.val).filter (fun j => u.sel j % 16 == vc.toNat) = [i] →
      ((s.stream' i).asm = none → ∃ t, exec (.csi2Packet n (.frameStart vc) false dr dt) s = .next t ∧ t.mem = s.mem ∧ t.regs = s.regs ∧
        t.stream' i = { s.stream' i with begun := (s.stream' i).begun + 1, asm := some ⟨(s.stream' i).begun, u.portTime n.val,
          u.portTime n.val, 0, [], 0, false⟩ }) ∧
      (∀ g, (s.stream' i).asm = some g → g.dead = false →
        (∃ t, exec (.csi2Packet n (.frameEnd vc) false dr dt) s = .next t ∧ t.mem = s.mem ∧ t.regs = s.regs ∧
          t.stream' i = { s.stream' i with asm := none, ready := (s.stream' i).ready ++ [⟨g.seq, g.first, u.portTime n.val, g.len, g.bytes⟩] }) ∧
        (u.matching n.val (fun x => x % 16 == vc.toNat && x / 16 % 64 == ty.toNat) = some i →
          (g.len + data.length ≤ u.maxPayload i → u.ingestFits n.val data.length = true →
            ∃ t, exec (.csi2Packet n (.long vc ty data true) false dr dt) s = .next t ∧ t.mem = s.mem ∧ t.stream' i = { s.stream' i with
              asm := some { g with len := g.len + data.length, bytes := g.bytes ++ data } }) ∧
          (∃ t, exec (.csi2Packet n (.long vc ty data false) false dr dt) s = .next t ∧ t.mem = s.mem ∧
            t.stream' i = { s.stream' i with asm := some { g with bytes := [], dead := true } } ∧
            t.fld F.SN_STREAM_CNT_LINK_DROP i = min (2 ^ F.SN_STREAM_CNT_LINK_DROP.w - 1) (s.fld F.SN_STREAM_CNT_LINK_DROP i + 1)))) ∧
      exec (.csi2Packet n .lineStart false dr dt) s = .next u ∧ exec (.csi2Packet n .lineEnd false dr dt) s = .next u) ∧
    (∀ (k : Fin 2) (slots : List Word) (dr dt n : Nat) (u : State), n = 24 + k.val → u = s.tickP n dt →
      (u.portOn n = false → exec (.tdmFrameRx k slots dr dt) s = .next u) ∧
      (u.portOn n = true → u.portStreams n = [] → exec (.tdmFrameRx k slots dr dt) s = .next (u.unmatched n)) ∧
      (∀ i is, u.portOn n = true → u.portStreams n = i :: is → (s.stream' i).asm = none → (u.tdmSlots n i slots).length ≤ u.maxPayload i →
        u.ingestFits n (u.tdmSlots n i slots).length = true → u.sel i / 256 % 256 = 0 →
        ∃ t, exec (.tdmFrameRx k slots dr dt) s = .next t ∧ t.mem = s.mem ∧ t.stream' i = { s.stream' i with
          begun := (s.stream' i).begun + 1, asm := none, ready := (s.stream' i).ready ++
            [⟨(s.stream' i).begun, u.portTime n, u.portTime n, (u.tdmSlots n i slots).length, u.tdmSlots n i slots⟩] } ∧
          ∀ j ∈ is, j ≠ i → t.stream' j = s.stream' j)) ∧
    (∀ (n : SensorPort) (up : Bool), ((s.portOn n.val = true ∧ (n.val < 18 ∨ n.val = 24 ∨ n.val = 25)) →
        ∃ t, exec (.linkStateChange n up) s = .next t ∧ t.fld F.SN_PORT_STATUS_LINK_UP n.val = bit up ∧ t.mem = s.mem) ∧
      (¬(s.portOn n.val = true ∧ (n.val < 18 ∨ n.val = 24 ∨ n.val = 25)) → exec (.linkStateChange n up) s = .next s))

/-- A finished sample is published in the slot's other buffer with the header of Table SN-5 (R233, R234, R487).
With every rail up and canonical stores: SAMPLE_PUBLISH of a stream with no finished sample changes nothing but the OPEN queues, nor
does one of a ring sample whose port some OPEN queue does not serve (the model's reading of R224, entry 58). In replay the oldest
finished sample leaves the stream and nothing is written. Else an inline sample's header and payload stand in the slot's buffer that was
not published, which is published now, PUBLISHED is counted, and no other byte of memory changes; a ring sample has what was left of its
payload and a copy of its header in its ring buffer. The header holds the stream, domain, length, number, stamps, frame number and
buffer address. -/
def Obligations.SamplesArePublished : Prop :=
  ∀ (s : State) (i : Fin 48) (v : State) (go : Bool), s.canonical → s.coreDark = false → spWf StreamUnit.reset s.sensors.streams = true →
    v = s.queueOpens → go = (s.inline i.val || v.openForAll (.ingest (s.fld F.SN_STREAM_A_PORT i.val))) →
    (go = false ∨ (s.stream' i.val).ready = [] → exec (.samplePublish i) s = .next v) ∧
    ∀ x rest, (s.stream' i.val).ready = x :: rest → go = true →
      (s.flag F.FB_STATUS_REPLAYING = true → exec (.samplePublish i) s =
        .next ((v.setStream' i.val { s.stream' i.val with ready := rest }).setUrgency (s.fld F.SN_STREAM_A_PORT i.val))) ∧
      (s.flag F.FB_STATUS_REPLAYING = false → ∀ b, b = (if (s.stream' i.val).side = 1 then 1 else 0) →
        (s.inline i.val = true → x.bytes.length ≤ 192 → ∃ t, exec (.samplePublish i) s = .next t ∧
          (t.stream' i.val).side = b + 1 ∧ (t.stream' i.val).ready = rest ∧
          t.rdBytes (slotBuffer i.val b) 64 = leBytes 64 (s.sampleHeader i.val x) ∧
          t.rdBytes (slotBuffer i.val b + 64) x.bytes.length = x.bytes ∧
          t.fld F.SN_STREAM_CNT_PUBLISHED i.val = min (2 ^ F.SN_STREAM_CNT_PUBLISHED.w - 1) (s.fld F.SN_STREAM_CNT_PUBLISHED i.val + 1) ∧
          ∀ y, (y < slotBuffer i.val b ∨ slotBuffer i.val b + 64 + x.bytes.length ≤ y) → t.rdByte y = s.rdByte y) ∧
        (s.inline i.val = false → x.bytes.length ≤ x.len → s.ringBuffer i.val x.seq + 64 + x.len ≤ ddrSize →
          ∃ t, exec (.samplePublish i) s = .next t ∧
          (t.stream' i.val).side = b + 1 ∧ (t.stream' i.val).ready = rest ∧
          t.rdBytes (slotBuffer i.val b) 64 = leBytes 64 (s.sampleHeader i.val x) ∧
          t.rdBytes (s.ringBuffer i.val x.seq) 64 = leBytes 64 (s.sampleHeader i.val x) ∧
          t.rdBytes (s.ringNext i.val x.seq x.len x.bytes.length) x.bytes.length = x.bytes))

/-- Each sequencer instruction acts by Table SN-7 when it is due; triggers, pulses and drive transmissions act (R237, R238, R239, R240).
With every rail up: an instruction command of a sequencer that does not run, waits, is at another opcode or is not yet due only passes
time. When due, HALT stops it; WAIT_TRIG takes a pending trigger or waits; STAMP holds the port cycle; XFER takes its setup and byte
time, appends the received bytes past TX_LEN and shows what it sent; DELAY takes its cycles; EMIT hands over the buffer and clears it;
JUMP goes to its target; GPIO_OUT drives a pin of mode 3 that it owns. Every other goes on at the next instruction, and no memory
changes but a sample's. A trigger for which the sequencer waits lets it go on; another that its program names is held, or counted as
missed where one is. GPIO_FRAME_TRIGGER begins a pulse of WIDTH cycles once OFFSET has run out, and GPIO_PULSE_END sets the pin back. A
DRIVE port transmits its oldest record outside replay, and the end frees its place. -/
def Obligations.SequencersRunTheirPrograms : Prop :=
  ∀ s : State, s.coreDark = false → spWf Sequencer.reset s.sensors.seqs = true →
    (∀ (q : Fin 6) (dt w at' : Nat) (rx : List Byte) (u : State) (x : Sequencer), u = s.tickP (seqPort q.val) dt →
      x = u.sequencer q.val → w = u.seqInstr q.val x.pc → at' = x.freeAt →
      (∀ p ∈ ([(0, Instr.halt q dt), (1, .waitTrig q dt), (2, .stamp q dt), (3, .xfer q rx dt), (4, .delay q dt), (5, .emit q dt),
          (6, .jump q dt), (7, .gpioOut q dt)] : List (Nat × Instr)),
        (x.run = false ∨ x.waiting = true ∨ seqOp w ≠ p.1 ∨ u.portTime (seqPort q.val) < x.freeAt) → exec p.2 s = .next u) ∧
      (x.run = true → x.waiting = false → at' ≤ u.portTime (seqPort q.val) →
        let y : Sequencer := { x with pc := (x.pc + 1) % 64 }
        (seqOp w = 0 → exec (.halt q dt) s = .next (u.setSequencer q.val { y with run := false, freeAt := at' + 0 })) ∧
        (seqOp w = 1 → x.pend.contains (w % 64) = true → exec (.waitTrig q dt) s =
          .next (u.setSequencer q.val { y with pend := x.pend.filter fun k => k != w % 64, freeAt := at' + 1 })) ∧
        (seqOp w = 1 → x.pend.contains (w % 64) = false → x.pc < 64 → exec (.waitTrig q dt) s =
          .next (u.setSequencer q.val { x with waiting := true, freeAt := at' + 0 })) ∧
        (seqOp w = 2 → exec (.stamp q dt) s =
          .next (u.setSequencer q.val { y with first := some (x.first.getD at'), last := some at', freeAt := at' + 1 })) ∧
        (seqOp w = 3 → ∃ t, exec (.xfer q rx dt) s = .next t ∧ (t.sequencer q.val).pc = (x.pc + 1) % 64 ∧
          (t.sequencer q.val).freeAt = at' + (8 + w % 256 * u.byteCycles q.val) ∧ t.mem = u.mem ∧ t.regs = u.regs ∧
          (hasBit w 20 = false ∨ u.portOn (seqPort q.val) = false → x.buf.length ≤ 192 → (t.sequencer q.val).buf = x.buf) ∧
          (hasBit w 20 = true → u.portOn (seqPort q.val) = true → w / 2 ^ 14 % 64 = 0 → rx.length = w % 256 → x.buf.length + w % 256 ≤ 192 →
            (t.sequencer q.val).buf = x.buf ++ rx) ∧
          ∃ out, (t.sequencer q.val).sent = some (w / 2 ^ 21 % 128, out) ∧ out.length = w % 256) ∧
        (seqOp w = 4 → exec (.delay q dt) s = .next (u.setSequencer q.val { y with freeAt := at' + w % 2 ^ 24 })) ∧
        (∀ a b, seqOp w = 5 → x.first = some a → x.last = some b → ∃ t, exec (.emit q dt) s = .next t ∧
          t.sequencer q.val = { y with first := none, last := none, buf := [], excess := false, freeAt := at' + 1 } ∧
          t.sensors.streams = ((u.setSequencer q.val { y with first := none, last := none, buf := [], excess := false }).emit
            (seqPort q.val) (w % 64) a b x.buf x.excess).sensors.streams) ∧
        (seqOp w = 6 → exec (.jump q dt) s = .next (u.setSequencer q.val { x with pc := w % 64, freeAt := at' + 1 })) ∧
        (seqOp w = 7 → u.fld F.SN_GPIO_MODE (w % 32) = 3 → u.fld F.SN_GPIO_OWNER (w % 32) = q.val → exec (.gpioOut q dt) s =
          .next ((u.setSequencer q.val { y with freeAt := at' + 1 }).setPin (w % 32) (hasBit w 5))) ∧
        (seqOp w = 7 → (u.fld F.SN_GPIO_MODE (w % 32) ≠ 3 ∨ u.fld F.SN_GPIO_OWNER (w % 32) ≠ q.val) → exec (.gpioOut q dt) s =
          .next (u.setSequencer q.val { y with freeAt := at' + 1 }))) ∧
      (∀ k : BitVec 6, k.toNat < 32 → x.arriving.contains k.toNat = false → exec (.sequencerTrigger q k dt) s = .next u) ∧
      (∀ k : BitVec 6, k.toNat = 33 → 4 ≤ q.val → u.portOn (seqPort q.val) = true → x.run = true →
        (x.waiting = true → w % 64 = 33 → exec (.sequencerTrigger q k dt) s = .next (u.setSequencer q.val { x with
          waiting := false, pc := (x.pc + 1) % 64, freeAt := max x.freeAt (u.portTime (seqPort q.val)) + 1 })) ∧
        (x.waiting = false → u.seqNames q.val 33 = true → x.pend.contains 33 = false → exec (.sequencerTrigger q k dt) s =
          .next (u.setSequencer q.val { x with pend := x.pend ++ [33] })) ∧
        (x.waiting = false → u.seqNames q.val 33 = true → x.pend.contains 33 = true → exec (.sequencerTrigger q k dt) s =
          .next (u.bump F.SN_PORT_STATUS_TRIG_MISS (seqPort q.val)))) ∧
      (x.run = true → x.waiting = true → w % 64 = 32 → u.fld F.SN_SEQ_CFG_PERIOD q.val ≠ 0 →
        (x.timerAt + u.fld F.SN_SEQ_CFG_PERIOD q.val ≤ u.portTime (seqPort q.val) → exec (.sequencerTimerExpiry q dt) s =
          .next (u.setSequencer q.val { x with
            timerAt := x.timerAt + u.fld F.SN_SEQ_CFG_PERIOD q.val, waiting := false, pc := (x.pc + 1) % 64, freeAt := max x.freeAt (u.portTime (seqPort q.val)) + 1 })) ∧
        (u.portTime (seqPort q.val) < x.timerAt + u.fld F.SN_SEQ_CFG_PERIOD q.val → exec (.sequencerTimerExpiry q dt) s = .next u))) ∧
    (∀ (g : BitVec 5) (dr dt : Nat) (u : State), u = s.tickP 26 dt → spWf 0 s.sensors.pulse = true → spWf 0 s.sensors.pulseEnd = true →
      spWf 0 s.sensors.offset = true → spWf false s.sensors.gpio = true →
      (u.pulseDue g.toNat = none ∨ u.portOn 26 = false ∨ u.fld F.SN_GPIO_MODE g.toNat ≠ 2 →
        exec (.gpioFrameTrigger g dr dt) s = .next u) ∧
      (∀ d, u.pulseDue g.toNat = some d → u.portOn 26 = true → u.fld F.SN_GPIO_MODE g.toNat = 2 →
        (d ≤ u.portTime 26 → ∃ t, exec (.gpioFrameTrigger g dr dt) s = .next t ∧ t.regs = s.regs ∧
          spGet 0 t.sensors.pulse g.toNat = d + u.fld F.SN_GPIO_WIDTH g.toNat + 1 ∧ t.pulseDue g.toNat = none ∧
          spGet 0 t.sensors.pulseEnd g.toNat = d + u.fld F.SN_GPIO_WIDTH g.toNat ∧
          spGet false t.sensors.gpio g.toNat = u.flag F.SN_GPIO_POL g.toNat ∧ t.mem = s.mem) ∧
        (u.portTime 26 < d → exec (.gpioFrameTrigger g dr dt) s = .next u)) ∧
      (spGet 0 u.sensors.pulse g.toNat = 0 → exec (.gpioPulseEnd g dt) s = .next u) ∧
      (∀ e, spGet 0 u.sensors.pulse g.toNat = e + 1 →
        (e ≤ u.portTime 26 → ∃ t, exec (.gpioPulseEnd g dt) s = .next t ∧
          spGet 0 t.sensors.pulse g.toNat = 0 ∧ spGet false t.sensors.gpio g.toNat = !(u.flag F.SN_GPIO_POL g.toNat) ∧
          t.regs = s.regs ∧ t.mem = s.mem) ∧
        (u.portTime 26 < e → exec (.gpioPulseEnd g dt) s = .next u))) ∧
    (∀ (n : SensorPort) (rx : List Byte) (dt : Nat) (u : State), u = s.tickP n.val dt →
      (u.driveQueue n.val = [] → exec (.driveTransmit n dt) s = .next u ∧ exec (.driveTransmitEnd n rx dt) s = .next u) ∧
      (∀ x rest, u.driveQueue n.val = x :: rest →
        (x.started = none → u.flag F.SN_PORT_CFG_ROLE n.val = true → u.flag F.FB_STATUS_REPLAYING = false →
          u.driveFrame n.val x.record ≠ [] → ∃ t, exec (.driveTransmit n dt) s = .next t ∧
          t.driveQueue n.val = { x with started := some (u.portTime n.val) } :: rest ∧ t.regs = s.regs ∧ t.mem = s.mem ∧
          spGet [] t.sensors.wire n.val = u.driveFrame n.val x.record) ∧
        ((x.started ≠ none ∨ u.flag F.SN_PORT_CFG_ROLE n.val = false ∨ u.flag F.FB_STATUS_REPLAYING = true) →
          exec (.driveTransmit n dt) s = .next u) ∧
        (x.started = none → exec (.driveTransmitEnd n rx dt) s = .next u) ∧
        (x.started ≠ none → (n.val < 18 ∨ 22 ≤ n.val ∨ u.portOn n.val = false) → exec (.driveTransmitEnd n rx dt) s = .next (u.setDriveQueue n.val rest))))

/-- A Datum frame takes its snapshots, latches by Table DT-1, runs its cost stage and publishes its record in the other buffer (R243, R245, R248, R251, R253, R267, R269, R487).
With power and canonical stores, after dt FCLK cycles, in which ingest buffers drain: DATUM_SNAPSHOT of a frame already seen, or in
replay, only passes time; of a new frame it keeps each enabled port's counter less 2 or 3 cycles as its newest snapshot, and, with Datum
on and Stadia off, begins the frame with LATCH at its offset, or marks it as waiting and counts LATCH_LATE while another runs.
DATUM_LATCH, DATUM_COST_STAGE and DATUM_PUBLISH before their cycle, or out of their stage, only pass time, as does a latch in replay; at
it, the latch takes each enabled source as it was published before this cycle and leaves stage 2, the cost stage leaves stage 3 and no
byte of memory changed, and the publication writes the record to the buffer not published last, publishes it and changes no byte
outside; a component whose stored state reads uncorrectable is marked in it. A record is QUARANTINED, STALE where an earlier latch
classified its number, ON_TIME, LATE or DROPPED by the first condition of Table DT-1 that holds. DT_RELEASE of a quarantined source
takes effect at the next latch, of another it answers detail 1. A first measurement makes a component its value. -/
def Obligations.DatumFramesRun : Prop :=
  ∀ (s u : State) (dt : Nat), s.canonical → s.dark = false → u = s.tickF dt →
    (∀ lag : BitVec 27,
      ((u.frameNum ≤ u.datum.seen ∨ u.flag F.FB_STATUS_REPLAYING = true) → exec (.datumSnapshot lag dt) s = .next u) ∧
      (u.datum.seen < u.frameNum → u.flag F.FB_STATUS_REPLAYING = false → u.flag F.ST_CFG_EN = false →
        ∃ t, exec (.datumSnapshot lag dt) s = .next t ∧ t.datum.seen = u.frameNum ∧ t.mem = s.mem ∧
          (∀ n, n < 27 → u.portOn n = true →
            (spGet [] t.datum.snaps n).head? = some (u.frameNum, u.portTime n - (2 + bit (hasBit lag.toNat n)))) ∧
          (u.flag F.DT_CFG_EN = true → u.datum.stage = 0 → t.datum.stage = 1 ∧ t.datum.frame = u.frameNum ∧
            t.datum.latchAt = u.clk.fclk + u.fld F.DT_TIME_LATCH ∧ t.datum.next = none ∧
            t.datum.publishAt = t.datum.latchAt + u.fld F.DT_TIME_PUBLISH - u.fld F.DT_TIME_LATCH ∧ t.regs = u.regs) ∧
          (u.flag F.DT_CFG_EN = true → u.datum.stage ≠ 0 → t.datum.stage = u.datum.stage ∧ t.datum.next = some u.frameNum ∧
            t.fld F.DT_COUNTS_LATCH_LATE = min (2 ^ F.DT_COUNTS_LATCH_LATE.w - 1) (u.fld F.DT_COUNTS_LATCH_LATE + 1)))) ∧
    ((u.datum.stage ≠ 1 ∨ u.clk.fclk < u.datum.latchAt ∨ u.flag F.FB_STATUS_REPLAYING = true) → exec (.datumLatch dt) s = .next u) ∧
    (u.datum.stage = 1 → u.datum.latchAt ≤ u.clk.fclk → u.flag F.FB_STATUS_REPLAYING = false →
      ∃ t, exec (.datumLatch dt) s = .next t ∧ t.datum.stage = 2 ∧ t.datum.frame = u.datum.frame ∧
        (∀ n, n < 64 → u.sourceOn n = true → ({ u with sensors := u.latchedF.sensors, datum := { u.datum with
          sides := u.latchedF.datum.sides } }.takeSource u.datum.frame n) = none → spGet ⟨0, none, 0, 0, 0, [], []⟩ t.datum.recs n =
            ⟨0, none, 0, 0, 0, [], []⟩) ∧
        (∀ n x, n < 48 → u.datum.releases = [] → u.sourceOn n = true → ({ u with sensors := u.latchedF.sensors, datum := { u.datum with
          sides := u.latchedF.datum.sides } }.takeSource u.datum.frame n) = some x →
          spGet ⟨0, none, 0, 0, 0, [], []⟩ t.datum.recs n = x)) ∧
    (∀ n seq age, u.latchClassOf n seq age =
      (if hasBit (u.fld F.DT_QUAR_SOURCES) n then 4 else if (spGet [] u.datum.taken n).contains seq then 0
        else if age = 0 then 1 else if age ≤ 16 then 2 else 3)) ∧
    ((u.datum.stage ≠ 2 ∨ u.clk.fclk < u.datum.costAt) → exec (.datumCostStage dt) s = .next u) ∧
    (u.datum.stage = 2 → u.datum.costAt ≤ u.clk.fclk → ∃ t, exec (.datumCostStage dt) s = .next t ∧ t.datum.stage = 3 ∧
      t.mem = s.mem ∧ t.poison = s.poison ∧ t.datum.out = u.datum.out ∧ t.datum.recs = u.datum.recs) ∧
    ((u.datum.stage ≠ 3 ∨ u.clk.fclk < u.datum.publishAt) → exec (.datumPublish dt) s = .next u) ∧
    (u.datum.stage = 3 → u.datum.publishAt ≤ u.clk.fclk → ∀ b a, b = (if u.datum.out = 1 then 1 else 0) →
      a = datumBase + u.fld F.DT_BASE_OUT_BASE * 4096 + b * 131072 →
      ∃ t, exec (.datumPublish dt) s = .next t ∧ t.datum.out = b + 1 ∧ t.rdBytes a u.fusedBytes.length = u.fusedBytes ∧
        (∀ y, (y < a ∨ a + u.fusedBytes.length ≤ y) → t.rdByte y = s.rdByte y) ∧
        (∀ c ∈ u.datum.badComps, c < u.fld F.DT_CFG_COMPONENTS → t.poisonAt (a + 640 + 32 * c) = true) ∧
        (u.fusedBad = ([], []) → ∀ y, a ≤ y → y < a + u.fusedBytes.length → t.poisonAt y = false) ∧
        t.fld F.DT_STATUS_LAST_FRAME = u.frameNum % 2 ^ F.DT_STATUS_LAST_FRAME.w ∧ t.fld F.DT_STATUS_UNSYNCED = bit u.unsynced ∧
        (u.datum.next = none → t.datum.stage = 0) ∧ (∀ f, u.datum.next = some f → t.datum.stage = 1 ∧ t.datum.frame = f ∧
          t.datum.latchAt = u.datum.publishAt + 1)) ∧
    (∀ c : Cmd, (s.quarantined (c.w 4 % 64) = true → dtReleaseBody s c =
        ({ s with datum := { s.datum with releases := s.datum.releases ++ [c.w 4 % 64] } }, some Reply.ok)) ∧
      (s.quarantined (c.w 4 % 64) = false → dtReleaseBody s c = (s, some (Reply.detailed 1)))) ∧
    (∀ (x : Comp) (o : Bool) (q v z r : Nat), x.init = false → x.update o q v z r = ⟨true, z, 0, r, 0, q⟩)

/-- However far an auction runs, no two detections hold one slot, and no detection holds a slot that is forbidden to it (R264).
For every number of slots, table of benefits, cap and number of detections, after the auction of R264 from empty prices and owners: a
detection assigned to a slot owns it, the slot exists and the pair is allowed, and no other detection is assigned to it. -/
def Obligations.AuctionAssignsEachSlotOnce : Prop :=
  ∀ (slots cap n : Nat) (benefit : Nat → Nat → Option Int) (x : Auction),
    x = Auction.run slots benefit cap ⟨[], [], [], List.range n⟩ →
    ∀ i j, spGet 0 x.assigned i = j + 2 →
      i < n ∧ j < slots ∧ benefit i j ≠ none ∧ spGet 0 x.owner j = i + 1 ∧
      ∀ k, k ≠ i → spGet 0 x.assigned k ≠ j + 2

/-- A Traverse run latches, assembles, factors, iterates, tests, writes and publishes, each at its cycle (R281, R282, R284, R285, R286, R288, R290, R298, R299, R300, R301).
With power, after dt TCLK cycles: a phase command of a run not in that phase, not yet due or past its window only passes time. When due,
assembly leads to factorisation FACT cycles long; factorisation of an MPC run to iterations of ITER cycles; every CHECK-th iteration and
the last to a test, any other to the next; a test that passes, or the cap, to the output. An output of a converged run publishes the
other buffer, of a capped one it waits for the window's end; an EST run publishes at its WCET. The window's end closes the run.
TRAVERSE_LATCH of a run that is off, or in replay, latches nothing; while another window is open the run is counted as skipped; else it
latches in phase 1, assembles for T_asm cycles, and exchanges the banks where one is pending; the words of a TV_PARAM of this very cycle
stay pending. A cold start has x and y at 0; after an iteration every z lies within its limits. TV_PARAM past PARAMS, or with a value
that is not finite, fails whole; during a copy it is held. TV_REGISTER outside S5, of an image it may not read, misaligned, or with a
bad CRC, which R15 ranks first, is refused. The formats and lengths that the image's schedule fixes stand open in the model (entry 13). -/
def Obligations.TraverseRunsPassTheirPhases : Prop :=
  ∀ (s u : State) (dt : Nat), s.dark = false → u = s.tickT dt →
    (∀ q ∈ ([(1, Instr.traverseAssemblyEnd dt), (2, .traverseFactorEnd dt), (3, .traverseIterationEnd dt), (4, .misclosureTest dt),
        (5, .traverseOutputEnd dt), (2, .estRunEnd dt)] : List (Nat × Instr)), u.tvDue q.1 = none → exec q.2 s = .next u) ∧
    (∀ r, u.tvDue 1 = some r → ∃ t x, exec (.traverseAssemblyEnd dt) s = .next t ∧ t.traverse.run = some x ∧ x.phase = 2 ∧
      x.due = r.due + s.fld F.TV_TIME_FACT r.prob ∧ x.prob = r.prob ∧ x.latch = r.latch ∧ x.taken = r.taken ∧ x.defer = 0 ∧
      x.clamp = (u.tvAssemble r).clamp ∧ x.noInput = (u.tvAssemble r).noInput ∧ x.bad = (u.tvAssemble r).bad ∧ t.mem = s.mem) ∧
    (∀ r, u.tvDue 2 = some r →
      ((u.tvImg r.prob).h.mpc = true → ∃ t x, exec (.traverseFactorEnd dt) s = .next t ∧ t.traverse.run = some x ∧ x.phase = 3 ∧
        x.due = r.due + s.fld F.TV_TIME_ITER r.prob ∧ x.prob = r.prob ∧ x.iters = r.iters ∧ x.warm = u.tvWarm r ∧
        x.pivots ≤ (u.tvImg r.prob).h.k ∧ x.sat = (u.tvMpc r).factor.sat ∧ t.mem = s.mem ∧
        (x.warm = false → x.x = List.replicate (u.tvImg r.prob).h.n 0 ∧ x.y = List.replicate (u.tvImg r.prob).h.m 0)) ∧
      ((u.tvImg r.prob).h.mpc = false → exec (.traverseFactorEnd dt) s = .next u) ∧
      ((u.tvImg r.prob).h.mpc = true ∨ u.clk.tclk < r.due + (u.tvImg r.prob).h.tOut → exec (.estRunEnd dt) s = .next u) ∧
      ((u.tvImg r.prob).h.mpc = false → r.due + (u.tvImg r.prob).h.tOut ≤ u.clk.tclk → ∃ t x, exec (.estRunEnd dt) s = .next t ∧
        t.traverse.run = some x ∧ x.phase = 7 ∧ x.prob = r.prob ∧
        spGet 0 t.traverse.out r.prob = (if spGet 0 s.traverse.out r.prob = 1 then 2 else 1) ∧
        spGet 0 t.traverse.steps r.prob = spGet 0 s.traverse.steps r.prob + 1)) ∧
    (∀ r, u.tvDue 3 = some r → ∃ t x, exec (.traverseIterationEnd dt) s = .next t ∧ t.traverse.run = some x ∧ x.iters = r.iters + 1 ∧
      ((r.iters + 1) % s.fld F.TV_TIME_CHECK r.prob = 0 ∨ r.iters + 1 = (u.tvImg r.prob).h.cap →
        x.phase = 4 ∧ x.due = r.due + s.fld F.TV_TIME_TEST r.prob) ∧
      ((r.iters + 1) % s.fld F.TV_TIME_CHECK r.prob ≠ 0 → r.iters + 1 ≠ (u.tvImg r.prob).h.cap →
        x.phase = 3 ∧ x.due = r.due + s.fld F.TV_TIME_ITER r.prob) ∧ t.mem = s.mem ∧ t.regs = s.regs ∧
      (r.sat = true → x.sat = true) ∧ x.x.length = (u.tvImg r.prob).h.n ∧ x.z.length = (u.tvImg r.prob).h.m ∧
      ∀ i, i < (u.tvImg r.prob).h.m → ((u.tvMpc r).l i).n ≤ ((u.tvMpc r).u i).n →
        ((u.tvMpc r).l i).n ≤ x.z.getD i 0 ∧ x.z.getD i 0 ≤ ((u.tvMpc r).u i).n) ∧
    (∀ r, u.tvDue 4 = some r → ∃ t x, exec (.misclosureTest dt) s = .next t ∧ t.traverse.run = some x ∧ x.iters = r.iters ∧
      (x.converged = true ↔ (fLt (s.fld F.TV_SOLVE_A_EPS_PRIM r.prob) x.rPrim = false ∧ fLt (s.fld F.TV_SOLVE_A_EPS_DUAL r.prob) x.rDual = false ∧
        x.sat = false)) ∧ (r.sat = true → x.sat = true) ∧
      (x.capped = true ↔ (x.converged = false ∧ (u.tvImg r.prob).h.cap ≤ r.iters)) ∧
      (x.converged = true ∨ x.capped = true → x.phase = 5 ∧ x.due = r.due + (u.tvImg r.prob).h.tOut) ∧
      (x.converged = false → x.capped = false → x.phase = 3 ∧ x.due = r.due + s.fld F.TV_TIME_ITER r.prob) ∧
      t.mem = s.mem ∧ t.regs = s.regs) ∧
    (∀ r, u.tvDue 5 = some r → ∃ t x, exec (.traverseOutputEnd dt) s = .next t ∧ t.traverse.run = some x ∧ x.prob = r.prob ∧
      spGet 0 t.traverse.steps r.prob = spGet 0 s.traverse.steps r.prob + 1 ∧
      (r.capped = true → x.phase = 6 ∧ t.traverse.out = s.traverse.out) ∧
      (r.capped = false → x.phase = 7 ∧ spGet 0 t.traverse.out r.prob = (if spGet 0 s.traverse.out r.prob = 1 then 2 else 1))) ∧
    (s.traverse.run = none → exec (.traverseWindowEnd dt) s = .next u) ∧
    (∀ r, s.traverse.run = some r →
      (u.clk.tclk < r.latch + s.fld F.TV_PROB_B_BUDGET r.prob → exec (.traverseWindowEnd dt) s = .next u) ∧
      (r.latch + s.fld F.TV_PROB_B_BUDGET r.prob ≤ u.clk.tclk → s.canonical → ∃ t, exec (.traverseWindowEnd dt) s = .next t ∧
        t.traverse.run = none ∧ t.fld F.TV_STATUS_RUNNING = 0 ∧
        (6 ≤ r.phase → r.phase ≠ 6 → t.mem = s.mem ∧ t.traverse.out = s.traverse.out) ∧
        (r.phase ≤ 6 → spGet 0 t.traverse.out r.prob = (if spGet 0 s.traverse.out r.prob = 1 then 2 else 1)))) ∧
    (s.traverse.copies = [] → s.traverse.held = [] → exec (.paramCopyEnd dt) s = .next u ∧
      ∀ (j : Fin 64) (k : Fin 15) (ofs : Nat), ofs = s.fld F.TV_PROB_A_LATCH j + k * s.fld F.TV_PROB_B_PERIOD j →
        ((s.flag F.TV_CFG_EN && s.flag F.TV_PROB_A_EN j && s.flag F.TV_PROB_STAT_REGISTERED j &&
            decide (k.val < s.fld F.TV_PROB_A_RUNS j) && decide (0 < s.frameNum)) = false ∨ s.flag F.FB_STATUS_REPLAYING = true ∨
          u.clk.tclk < ofs → exec (.traverseLatch j k dt) s = .next u) ∧
        ((s.flag F.TV_CFG_EN && s.flag F.TV_PROB_A_EN j && s.flag F.TV_PROB_STAT_REGISTERED j &&
            decide (k.val < s.fld F.TV_PROB_A_RUNS j) && decide (0 < s.frameNum)) = true → s.flag F.FB_STATUS_REPLAYING = false →
          ofs ≤ u.clk.tclk → s.traverse.origin = none →
          (∀ r, s.traverse.run = some r → u.clk.tclk < r.latch + s.fld F.TV_PROB_B_BUDGET r.prob → s.traverse.latched = [] →
            ∃ t, exec (.traverseLatch j k dt) s = .next t ∧ t.traverse.run = some r ∧ t.mem = s.mem ∧
              t.fld F.TV_COUNTS_SKIPPED = min 65535 (s.fld F.TV_COUNTS_SKIPPED + 1)) ∧
          (s.traverse.run = none → ∃ t x, exec (.traverseLatch j k dt) s = .next t ∧ t.traverse.run = some x ∧ x.prob = j.val ∧
            x.run = k.val ∧ x.phase = 1 ∧ x.latch = u.clk.tclk ∧ x.due = u.clk.tclk + (u.tvImg j.val).h.tAsm ∧ x.frame = s.frameNum ∧
            t.fld F.TV_STATUS_RUNNING = 1 ∧ t.fld F.TV_STATUS_PROBLEM = j.val ∧
            (u.tvRecent j.val = [] → t.mem = s.mem ∧ t.fld F.TV_PROB_STAT_PENDING j = 0 ∧ t.fld F.TV_PROB_STAT_BANK j =
              (if s.flag F.TV_PROB_STAT_PENDING j then 1 - s.fld F.TV_PROB_STAT_BANK j else s.fld F.TV_PROB_STAT_BANK j)) ∧
            ∀ y ys, u.tvRecent j.val = y :: ys → t.flag F.TV_PROB_STAT_PENDING j = (y.pend || s.flag F.TV_PROB_STAT_PENDING j) ∧
              t.fld F.TV_PROB_STAT_BANK j =
                (if y.pend then 1 - s.fld F.TV_PROB_STAT_BANK j else s.fld F.TV_PROB_STAT_BANK j)))) ∧
    (∀ c : Cmd, (s.exchange c.ctx (c.w64 4) c.len = false → tvParamBody s c = (s, some (denied 4))) ∧
      (s.exchange c.ctx (c.w64 4) c.len = true → (∃ e, (c.w 6 % 64, e) ∈ s.traverse.copies) →
        tvParamBody s c = ({ s with traverse := { s.traverse with held := s.traverse.held ++ [(c.ring, c.d)] } }, none)) ∧
      (s.exchange c.ctx (c.w64 4) c.len = true → s.traverse.copies = [] →
        (s.tvHeadOf (c.w 6 % 64)).params < c.w 6 / 2 ^ 16 % 2 ^ 14 + c.len / 4 → tvParamBody s c = (s, some (lenRange 0))) ∧
      (s.exchange c.ctx (c.w64 4) c.len = true → s.traverse.copies = [] → fFinite (s.rdLe (c.w64 4) 4) = false → 4 ≤ c.len →
        c.w 6 / 2 ^ 16 % 2 ^ 14 + c.len / 4 ≤ (s.tvHeadOf (c.w 6 % 64)).params → tvParamBody s c = (s, some (lenRange 0))) ∧
      (let crc := leNat (((s.rdBytes (c.w64 4) c.len).drop (c.len - 64)).take 4)
       let fit := crc32c ((s.rdBytes (c.w64 4) c.len).take (c.len - 64))
       (crc ≠ fit → tvRegisterBody s c = (s, some ⟨6, 1, 0, none⟩)) ∧
       (crc = fit → s.loading = false → tvRegisterBody s c = (s, some (denied 1))) ∧
       (crc = fit → s.loading = true → s.ddrWrites 1 (c.w64 4) c.len = false → tvRegisterBody s c = (s, some (denied 4))) ∧
       (crc = fit → s.loading = true → s.ddrWrites 1 (c.w64 4) c.len = true → c.w64 4 % 64 ≠ 0 →
         tvRegisterBody s c = (s, some (lenRange 0)))))

/-- A Guyline channel triggers, computes its law within its limits, and writes its gate record, each when due; a bank load is checked first (R306, R307, R308, R309, R312, R313, R315, R316, R317, R320).
With power, after dt GCLK cycles, for canonical stores: a frame start sets the origin, abandons and counts the triggers not yet due and
changes no other part of a channel; in replay it changes nothing. A trigger that is not due, or in replay, only passes time; one due
while the last sample is not yet written is skipped, counted, and raises an event; else the sample starts with its cycle, frame and
bank, latches one input for each entry and counts from there. A result is computed 2,000 cycles after the trigger by the law, and not
before; state words that read uncorrectable count as 0, poison the sample and raise event 0x17. At the output phase the record enters
the gate queue, at its end, with its channel, domain and STATUS, or is dropped, counted and raised as an event where 128 wait. Every
output of the law lies within its limits and every clamped state within its own. GL_LOAD of an image with a bad CRC answers 6 and loads
nothing; one the context may not read is denied; while a swap is pending it is held; a sound image before the commit fills the active
bank and sets the initial state, after it the other bank, with the swap pending where the command asks for one (the split of the checks
at the commit is entry 15). -/
def Obligations.GuylineSamplesRunTheirLaw : Prop :=
  (∀ (s u : State) (dt : Nat), s.dark = false → s.canonical → spWf GlChan.reset s.guyline.chans = true → u = s.tickG dt →
    (s.flag F.FB_STATUS_REPLAYING = true → exec (.guylineFrameStart dt) s = .next u) ∧
    (s.flag F.FB_STATUS_REPLAYING = false → ∃ t, exec (.guylineFrameStart dt) s = .next t ∧ t.clk = u.clk ∧
      t.guyline.origin = some u.clk.gclk ∧ t.guyline.gate = s.guyline.gate ∧ t.mem = s.mem ∧ t.plumb = s.plumb ∧
      ∀ k < 64, t.glChan k = { s.glChan k with fired := 0 } ∧ t.fld F.GL_CH_CNT_SKIPPED k = s.fld F.GL_CH_CNT_SKIPPED k ∧
        t.fld F.GL_CH_CNT_MISSED k = (if (s.glDue k).isSome then
          min 65535 (s.fld F.GL_CH_CNT_MISSED k + (s.fld F.GL_CH_B_SAMPLES k - (s.glChan k).fired)) else s.fld F.GL_CH_CNT_MISSED k)) ∧
    (∀ mask : BitVec 64,
      ((∀ k ∈ bitsOf 64 mask.toNat, ∀ x, s.glDue k = some x → u.clk.gclk < x) ∨ s.flag F.FB_STATUS_REPLAYING = true →
        exec (.channelTrigger mask dt) s = .next u) ∧
      ((∀ k ∈ bitsOf 64 mask.toNat, ∀ q, (s.glChan k).cur = some q → q.y.isSome ∨ u.clk.gclk < q.trig + 2000) →
        exec (.guylineResultReady mask dt) s = .next u) ∧
      ((∀ k ∈ bitsOf 64 mask.toNat, ∀ q, (s.glChan k).cur = some q → q.y = none ∨ u.clk.gclk < q.trig + s.fld F.GL_CH_B_OUT_PHASE k) →
        exec (.guylineOutputWrite mask dt) s = .next u)) ∧
    (∀ (mask : BitVec 64) (k x : Nat), bitsOf 64 mask.toNat = [k] → s.glDue k = some x → x ≤ u.clk.gclk →
      s.flag F.FB_STATUS_REPLAYING = false →
      (∀ q, (s.glChan k).cur = some q → ∃ t, exec (.channelTrigger mask dt) s = .next t ∧ t.mem = s.mem ∧ t.guyline.gate = s.guyline.gate ∧
        t.glChan k = { s.glChan k with fired := (s.glChan k).fired + 1 } ∧
        t.fld F.GL_CH_CNT_SKIPPED k = min 255 (s.fld F.GL_CH_CNT_SKIPPED k + 1) ∧ t.plumb.inbox = s.plumb.inbox ++ [(0x14, k, false)]) ∧
      ((s.glChan k).cur = none → s.flag F.GL_CH_STAT_PENDING k = false → ∃ t q, exec (.channelTrigger mask dt) s = .next t ∧
        t.mem = s.mem ∧ t.guyline.gate = s.guyline.gate ∧ t.plumb = s.plumb ∧
        t.glChan k = { s.glChan k with fired := (s.glChan k).fired + 1, samples := (s.glChan k).samples + 1, u := q.u,
                                       seqs := (t.glChan k).seqs, cur := some q } ∧
        q.trig = u.clk.gclk ∧ q.frame = s.frameNum ∧ q.unsynced = s.unsynced ∧ q.bank = s.fld F.GL_CH_STAT_BANK k ∧ q.y = none ∧
        q.swapped = false ∧ q.u.length = (glHead ((s.glChan k).bank q.bank)).nu ∧
        t.fld F.GL_CH_STAT_SAMPLE k = ((s.glChan k).samples + 1) % 2 ^ 48)) ∧
    (∀ (mask : BitVec 64) (k : Nat) (q : GlSample), bitsOf 64 mask.toNat = [k] → (s.glChan k).cur = some q →
      (q.y = none → q.trig + 2000 ≤ u.clk.gclk → ∃ t, exec (.guylineResultReady mask dt) s = .next t ∧ t.mem = s.mem ∧ t.regs = s.regs ∧
        t.guyline.gate = s.guyline.gate ∧
        ((s.glChan k).badX = [] → t.plumb = s.plumb ∧ ∀ y x f, glLaw ((s.glChan k).bank q.bank) (s.glChan k).x q.u = (y, x, f) →
          t.glChan k = { s.glChan k with x := x, cur := some { q with y := some y, flags := q.flags ||| f } }) ∧
        ((s.glChan k).badX ≠ [] → t.plumb.inbox = s.plumb.inbox ++ [(0x17, k, false)] ∧ (t.glChan k).badX = [] ∧
          ∃ q', (t.glChan k).cur = some q' ∧ q'.poison = true ∧ q'.y.isSome = true)) ∧
      (∀ y, q.y = some y → q.trig + s.fld F.GL_CH_B_OUT_PHASE k ≤ u.clk.gclk →
        (s.guyline.gate.length < 128 → ∃ t r, exec (.guylineOutputWrite mask dt) s = .next t ∧ t.mem = s.mem ∧ t.plumb = s.plumb ∧
          t.guyline.gate = s.guyline.gate ++ [r] ∧ B.GREC_CHANNEL.get r.toNat = k ∧ B.GREC_DOMAIN.get r.toNat = 5 ∧
          B.GREC_STATUS.get r.toNat = (if q.poison || (s.glChan k).badBank q.bank then 0xF else if q.unsynced then 0x12 else 0) ∧
          t.glChan k = { s.glChan k with y := some ⟨y, (glHead ((s.glChan k).bank q.bank)).ey, (s.glChan k).samples⟩,
                                         yOld := (s.glChan k).y, yAt := u.clk.gclk, cur := none }) ∧
        (128 ≤ s.guyline.gate.length → ∃ t, exec (.guylineOutputWrite mask dt) s = .next t ∧ t.mem = s.mem ∧
          t.guyline.gate = s.guyline.gate ∧ t.plumb.inbox = s.plumb.inbox ++ [(0x15, k, false)] ∧
          t.fld F.GL_CH_CNT_GATE_DROP k = min 255 (s.fld F.GL_CH_CNT_GATE_DROP k + 1))))) ∧
  (∀ (bs : List Byte) (x u : List Int), glFieldsOk bs = true →
    (glLaw bs x u).1.length = (glHead bs).ny ∧ (glLaw bs x u).2.1.length = (glHead bs).ns ∧
    (∀ i < (glHead bs).ny, glYLo bs i ≤ (glLaw bs x u).1.getD i 0 ∧ (glLaw bs x u).1.getD i 0 ≤ glYHi bs i) ∧
    ∀ i < (glHead bs).ns, glMode bs i = 1 → glLo bs i ≤ (glLaw bs x u).2.1.getD i 0 ∧ (glLaw bs x u).2.1.getD i 0 ≤ glHi bs i) ∧
  (∀ (s : State) (c : Cmd) (k : Nat) (bs : List Byte), k = c.w 6 % 64 → bs = s.rdBytes (c.w64 4) c.len →
    (s.exchange c.ctx (c.w64 4) c.len = false → glLoadBody s c = (s, some (if glCrcBad bs then badImage else denied 4))) ∧
    (s.exchange c.ctx (c.w64 4) c.len = true →
      (∀ h, (s.glChan k).swap = some h → ∃ t, glLoadBody s c = (t, none) ∧ t.mem = s.mem ∧ t.regs = s.regs ∧
        t.glChan k = { s.glChan k with held := (s.glChan k).held ++ [(c.ring, c.d)] }) ∧
      ((s.glChan k).swap = none →
        (glCrcBad bs = true → glLoadBody s c = (s, some ⟨6, 0, 0, none⟩)) ∧
        (∀ r, s.glCheck k bs = some r → glLoadBody s c = (s, some r)) ∧
        (s.glCheck k bs = none → s.committed = false → s.canonical → ∃ t, glLoadBody s c = (t, some Reply.ok) ∧ t.mem = s.mem ∧
          t.glChan k = { (s.glChan k).setBank (s.fld F.GL_CH_STAT_BANK k) bs with x := glInit bs, badX := [] } ∧
          t.fld F.GL_CH_STAT_LOADED k = 1) ∧
        (s.glCheck k bs = none → s.committed = true → s.canonical → ∃ t, glLoadBody s c = (t, if c.flag16 then none else some Reply.ok) ∧
          t.mem = s.mem ∧ t.glChan k = { (s.glChan k).setBank (1 - s.fld F.GL_CH_STAT_BANK k) bs with
            swap := if c.flag16 then some (c.ring, c.d) else none, pendAt := s.clk.gclk } ∧
          (c.flag16 = true → t.fld F.GL_CH_STAT_PENDING k = 1)))))

/-- A Stadia frame latches, checks, selects, re-checks and publishes, each when due; updates and flips wait; a second model is refused (R327, R329, R330, R331, R335, R337, R341, R342, R344, R345, R348, R349).
With power, for canonical stores, after dt FCLK cycles: a phase that is not due, or not the frame's, only passes time, in which what has
ended before LATCH, CHECK_END and GATE has its effect. LATCH takes at most 64 candidates, none of a stale or bad set, and queues exactly
those with a finite score. A check that has ended leaves its verdict, ends by CHECK_END and takes its candidate from the queue; a re-
check leaves its verdict and ends by GATE. CHECK_END selects a candidate that passed if any did, else it is TIMEOUT with candidates
unchecked and NO_PATH without. A publication writes the trajectory's header into the buffer not last published, changes no byte outside
the two records' buffers, and leaves the STATUS of R345. An application raises the epoch by one where its record is whole and not empty,
else the directory of a bad record stands. Deferred proposal flips wait for the moves through the view. A brick added to a free slot is
found there. ST_MODEL is refused for a bad CRC first, then outside its time, for an image not readable or bad, and where a model stands.
How poses are computed, and the clearance of a bad waypoint, is open (entry 16). -/
def Obligations.StadiaFramesPassTheirPhases : Prop :=
  (∀ (s u v : State) (dt : Nat), s.dark = false → s.canonical → u = s.tickF dt → v = u.stSettle →
    ((u.stadia.stage ≠ 1 ∨ u.clk.fclk < u.stadia.latchAt ∨ u.flag F.FB_STATUS_REPLAYING = true) → exec (.stadiaLatch dt) s = .next v) ∧
    ((u.stadia.stage ≠ 2 ∨ u.clk.fclk < u.stadia.endAt) → exec (.stadiaCheckEnd dt) s = .next v) ∧
    ((u.stadia.stage ≠ 3 ∨ u.clk.fclk < u.stadia.gateAt) → exec (.stadiaGate dt) s = .next v) ∧
    ((u.stadia.stage ≠ 4 ∨ u.clk.fclk < u.stadia.gateAt + u.stTgate) → exec (.stadiaPublish dt) s = .next u) ∧
    ((u.stNextCheck = none ∨ u.stApplyGoes ≠ none) → exec (.candidateCheck dt) s = .next u) ∧
    ((u.stNextRecheck = none ∨ u.stApplyGoes ≠ none) → exec (.stadiaRecheck dt) s = .next u) ∧
    (u.stApplyGoes = none → exec (.stadiaUpdateApply dt) s = .next u) ∧
    (v.mem = s.mem ∧ v.clk = u.clk ∧ v.stadia.stage = u.stadia.stage ∧ v.stadia.hold = u.stadia.hold ∧ v.stadia.count = u.stadia.count ∧
      (u.stEvent = none → v = u) ∧ (u.flag F.FB_STATUS_REPLAYING = true → v = u)) ∧
    (u.stadia.stage = 1 → u.stadia.latchAt ≤ u.clk.fclk → u.flag F.FB_STATUS_REPLAYING = false →
      ∃ t, exec (.stadiaLatch dt) s = .next t ∧ t.mem = s.mem ∧ t.clk = u.clk ∧ t.stadia.stage = 2 ∧ t.stadia.frame = u.frameNum ∧
        t.stadia.unsynced = u.unsynced ∧ t.stadia.lastSeq = t.stadia.seq + 1 ∧ t.fld F.ST_STATUS_PHASE = 1 ∧ t.stadia.count ≤ 64 ∧
        (t.stadia.stale = true ∨ t.stadia.bad = true → t.stadia.count = 0) ∧ t.stadia.out = 0 ∧ t.stadia.hold = u.stadia.hold ∧
        ∀ i, i ∈ t.stadia.queue ↔ (i < t.stadia.count ∧ fFinite (t.stScore i) = true)) ∧
    (∀ i x, u.stNextCheck = some (i, x) → u.stApplyGoes = none → ∀ w e, w = u.checkTraj (u.stCandidate i) →
      e = x + u.checkCost w u.stadia.wp →
      e ≤ u.stadia.endAt ∧ (u.clk.fclk < e → exec (.candidateCheck dt) s = .next u) ∧
      (e ≤ u.clk.fclk → ∃ t, exec (.candidateCheck dt) s = .next t ∧ t.mem = s.mem ∧ t.regs = u.regs ∧ t.verdict i = some w ∧
        (∀ j, j ≠ i → t.verdict j = u.verdict j) ∧ t.stadia.queue = u.stadia.queue.drop 1 ∧ t.stadia.freeAt = e ∧
        t.stadia.checked = u.stadia.checked + 1)) ∧
    (∀ i x, u.stNextRecheck = some (i, x) → u.stApplyGoes = none → ∀ w e, w = u.checkTraj (u.stCandidate i) →
      e = x + u.checkCost w u.stadia.wp →
      e ≤ u.stadia.gateAt ∧ (u.clk.fclk < e → exec (.stadiaRecheck dt) s = .next u) ∧
      (e ≤ u.clk.fclk → ∃ t, exec (.stadiaRecheck dt) s = .next t ∧ t.mem = s.mem ∧ t.regs = u.regs ∧ t.verdict i = some w ∧
        (∀ j, j ≠ i → t.verdict j = u.verdict j) ∧ t.stadia.queue = u.stadia.queue ∧ t.stadia.freeAt = e ∧
        t.stadia.rechecked = u.stadia.rechecked + 1)) ∧
    (u.stadia.stage = 2 → u.stadia.endAt ≤ u.clk.fclk → ∃ t, exec (.stadiaCheckEnd dt) s = .next t ∧ t.mem = s.mem ∧
      t.stadia.stage = 3 ∧ t.stadia.queue = [] ∧ t.stadia.verdicts = v.stadia.verdicts ∧ t.fld F.ST_STATUS_PHASE = 2 ∧
      (t.stadia.selected = 0 → t.stadia.timeout = !v.stadia.queue.isEmpty ∧ t.stadia.noPath = v.stadia.queue.isEmpty) ∧
      (∀ i, t.stadia.selected = i + 1 → t.stadia.timeout = false ∧ t.stadia.noPath = false ∧ ∃ w, v.verdict i = some w ∧ w.pass = true) ∧
      ∀ i w, i < v.stadia.count → fFinite (v.stScore i) = true → v.verdict i = some w → w.pass = true → t.stadia.selected ≠ 0) ∧
    (∀ b x : Nat, b = (if u.stadia.side = 1 then 1 else 0) → x = u.stadia.gateAt + u.stTgate → u.stadia.stage = 4 → x ≤ u.clk.fclk →
      128 + 4 * (u.stOut.map List.length).sum ≤ 40960 → 128 + 4 * (u.stadia.wp * u.stWords) ≤ 40960 →
      ∃ t, exec (.stadiaPublish dt) s = .next t ∧ t.stadia.side = b + 1 ∧
        t.fld F.ST_LAST_STATUS = (if u.stOutMarked.any (fun w => w.any fun x => x.2) then 0xF else if u.stadia.invalidated then 0xA
          else if u.stadia.out = 0 then 0x10 else if u.stadia.unsynced then 0x12 else 0) ∧
        t.fld F.ST_COUNTS_HOLD_OUT = min 255 (u.fld F.ST_COUNTS_HOLD_OUT + (if u.stadia.out = 0 then 1 else 0)) ∧
        t.stadia.stage = (if u.stadia.next then 1 else 0) ∧ (u.stadia.next = true → t.stadia.latchAt = x + 1) ∧
        t.rdBytes (auxBase + 0x2C_0000 + b * 40960) 128 = leBytes 128 (u.stHeader x (t.fld F.ST_LAST_STATUS)
          (if u.stadia.out = 0 then 127 else u.stadia.out - 1) u.stOut.length) ∧
        ∀ y, (y < auxBase + 0x2C_0000 + b * 40960 ∨ auxBase + 0x2C_0000 + (b + 1) * 40960 ≤ y) →
          (y < auxBase + 0x2E_0000 + b * 40960 ∨ auxBase + 0x2E_0000 + (b + 1) * 40960 ≤ y) → t.rdByte y = s.rdByte y) ∧
    (∀ x, u.stApplyGoes = some x →
      (u.clk.fclk < x + u.stUpdCost → exec (.stadiaUpdateApply dt) s = .next u) ∧
      (x + u.stUpdCost ≤ u.clk.fclk → ∃ t, exec (.stadiaUpdateApply dt) s = .next t ∧ t.mem = s.mem ∧ t.stadia.freeAt = x + u.stUpdCost ∧
        t.stadia.updWaits = decide (u.stadia.updDefer ≠ 0) ∧ t.stadia.updDefer = u.stadia.updDefer - 1 ∧
        (u.stUpdOk = true → u.stUpdCount ≠ 0 → t.fld F.ST_EPOCH_EPOCH = (u.fld F.ST_EPOCH_EPOCH + 1) % 2 ^ 64) ∧
        (u.stUpdOk = true → u.stUpdCount = 0 → t.fld F.ST_EPOCH_EPOCH = u.fld F.ST_EPOCH_EPOCH ∧ t.stadia.dir = u.stadia.dir) ∧
        (u.stUpdOk = false → t.fld F.ST_EPOCH_EPOCH = u.fld F.ST_EPOCH_EPOCH ∧ t.stadia.dir = u.stadia.dir ∧
          t.fld F.ST_COUNTS_UPD_BAD = min 255 (u.fld F.ST_COUNTS_UPD_BAD + 1))))) ∧
  (∀ (s u : State) (dt : Nat), s.dark = false → u = s.tickA dt →
    (u.stProposalBusy = true → exec (.proposalFlip dt) s = .next u) ∧
    (u.stProposalBusy = false → s.stadia.propDefer = 0 → exec (.proposalFlip dt) s = .next u) ∧
    (u.stProposalBusy = false → s.stadia.propDefer = 1 → exec (.proposalFlip dt) s = .next
      { u with stadia := { u.stadia with prop := if s.stadia.prop = 1 then 2 else 1, propDefer := 0 } })) ∧
  (∀ (s : State) (e key slot : Nat), key = e % 2 ^ 48 → slot = B.UPD_SLOT.get e → B.UPD_OP.get e = 0 → spWf 0 s.stadia.dir = true →
    (s.stLive slot = true → s.stEntry e = s.bump F.ST_COUNTS_UPD_BAD) ∧
    (s.stLive slot = false → ((s.stFind key).isSome ∨ ∃ w < 4, s.stWay (4 * stBucket key + w) = 0) →
      (s.stEntry e).stSlot key = some slot ∧ (s.stEntry e).stLive slot = true ∧ (s.stEntry e).regs = s.regs)) ∧
  (∀ (s : State) (c : Cmd) (bs : List Byte), bs = s.rdBytes (c.w64 4) c.len →
    (stCrcBad bs = true → stModelBody s c = (s, some badImage)) ∧
    (stCrcBad bs = false → s.loading = false → stModelBody s c = (s, some (denied 1))) ∧
    (stCrcBad bs = false → s.loading = true →
      (s.exchange c.ctx (c.w64 4) c.len = false → stModelBody s c = (s, some (denied 4))) ∧
      (s.exchange c.ctx (c.w64 4) c.len = true →
        (∀ r, stCheck bs = some r → stModelBody s c = (s, some r)) ∧
        (∀ m, stCheck bs = none → s.stadia.model = some m → stModelBody s c = (s, some (conflict 0))) ∧
        (stCheck bs = none → s.stadia.model = none → s.canonical → ∃ t, stModelBody s c = (t, some Reply.ok) ∧ t.mem = s.mem ∧
          t.stadia.model = some bs ∧ t.fld F.ST_STATUS_SPHERES = (stHead bs).spheres ∧ t.fld F.ST_STATUS_LINKS = (stHead bs).links ∧
          t.fld F.ST_STATUS_DOF = (stHead bs).dof))))

/-- Stadia's gate puts out only a candidate whose latest verdict is a pass at the gate epoch, else the hold; a failing hold is flagged and raised (R330, R343, R346).
With power, for canonical stores and nothing put out since the latch, when GATE is due: checks, re-checks and applications that have
ended have had their effect; the gate epoch is ST_EPOCH; the state enters phase 3 of the frame; what is put out is the hold or a
candidate whose latest verdict after the gate is a pass with the gate epoch. The selected candidate is put out where it passes, and a
selection that fails is marked invalidated. With no selection the hold is put out. A hold that fails its re-check sets HOLD_BLOCKED and
raises an event with the candidate put out, 127 for the hold (the model's reading of the detail); one that passes changes neither.
Memory is unchanged. From then until the publication no update is applied. -/
def Obligations.OnlyCheckedTrajectoriesPassTheGate : Prop :=
  ∀ (s u v : State) (dt : Nat), s.dark = false → s.canonical → u = s.tickF dt → v = u.stSettle → u.stadia.stage = 3 →
    u.stadia.gateAt ≤ u.clk.fclk → u.stadia.out = 0 → ∃ t, exec (.stadiaGate dt) s = .next t ∧ t.mem = s.mem ∧ t.clk = u.clk ∧ t.stadia.stage = 4 ∧
      t.stadia.epoch = v.fld F.ST_EPOCH_EPOCH ∧ t.fld F.ST_EPOCH_EPOCH = v.fld F.ST_EPOCH_EPOCH ∧ t.fld F.ST_STATUS_PHASE = 3 ∧
      (∀ i, t.stadia.out = i + 1 → ∃ w, t.verdict i = some w ∧ w.pass = true ∧ w.epoch = v.fld F.ST_EPOCH_EPOCH) ∧
      (v.stadia.selected = 0 → t.stadia.out = 0 ∧ t.stadia.invalidated = v.stadia.invalidated ∧ t.stadia.verdicts = v.stadia.verdicts) ∧
      (∀ i w, v.stadia.selected = i + 1 → t.verdict i = some w →
        (w.pass = true → t.stadia.out = i + 1 ∧ t.stadia.invalidated = v.stadia.invalidated) ∧
        (w.pass = false → t.stadia.out ≠ i + 1 ∧ t.stadia.invalidated = true)) ∧
      t.stadia.holdBlocked = !(v.checkTraj (v.stadia.hold.map clean)).pass ∧
      ((v.checkTraj (v.stadia.hold.map clean)).pass = true → t.plumb = v.plumb ∧
        t.fld F.ST_STATUS_HOLD_BLOCKED = v.fld F.ST_STATUS_HOLD_BLOCKED) ∧
      ((v.checkTraj (v.stadia.hold.map clean)).pass = false → t.fld F.ST_STATUS_HOLD_BLOCKED = 1 ∧
        t.plumb.inbox = v.plumb.inbox ++ [(0x19, (if t.stadia.out = 0 then 127 else t.stadia.out - 1) % 2 ^ 32, false)]) ∧
      t.stApplyGoes = none

/-- Each monitor of Plumb latches its class and stops the lines when its test fails, and changes nothing else of them when it passes (R351, R352, R354, R355, R356, R357, R358, R366, R369, R370).
With b the state after dt SCLK cycles of the barrel, its stores canonical. Latching class k for mode m sets its cause bit, keeps the
first cause, raises the mode to m if it was lower; entering DM3 de-energises both lines, closes the gate and counts a stop; otherwise
the lines and the gate stand. A lock-step mismatch latches class 1. A clock window off by more than 2 percent latches class 2, one
within it clears the monitor. A readback that is due and differs latches class 2, one that agrees latches nothing, and one that is not
due judges nothing (with none due, one that agrees ends a mismatch: the model's choice, entry 17). A test pulse that did not show
latches class 2. An edge of WDI sets WDI_OK; a timeout clears it and latches class 3. A supply fault drops both lines and latches class
2. The end of STOP_DELAY drops both lines. Each waits until it is due. The oldest event in crossing is counted, with its detail, and no
other counter changes. -/
def Obligations.PlumbMonitorsLatchTheirClasses : Prop :=
  (∀ (b : State) (k m : Nat), b.canonical → 1 ≤ k → k ≤ 9 → m ≤ 3 → ∀ t, t = b.latchClass k m →
    t.mem = b.mem ∧ t.clk = b.clk ∧ t.canonical ∧ t.fld F.PB_STATUS_MODE = max (b.fld F.PB_STATUS_MODE) m ∧
    t.fld F.PB_STATUS_CAUSES = putBit (b.fld F.PB_STATUS_CAUSES) (k - 1) true ∧
    t.fld F.PB_STATUS_CAUSE = (if b.fld F.PB_STATUS_CAUSES = 0 then k else b.fld F.PB_STATUS_CAUSE) ∧
    (b.fld F.PB_STATUS_MODE < m → t.fld F.PB_STATUS_FRAME = b.frameNum % 2 ^ 32) ∧
    (m = 2 → b.fld F.PB_STATUS_MODE < 2 → t.plumb.dm2At = some b.clk.sclk) ∧
    (m = 3 → b.fld F.PB_STATUS_MODE < 3 → t.linesOff ∧ t.fld F.PB_STATUS_STOP_A = 1 ∧ t.fld F.PB_STATUS_STOP_B = 1 ∧
      t.fld F.PB_STATUS_GATE_OPEN = 0 ∧ t.fld F.PB_COUNTS_STOPS = min 255 (b.fld F.PB_COUNTS_STOPS + 1)) ∧
    (m < 3 ∨ b.fld F.PB_STATUS_MODE = 3 → t.plumb.lineA = b.plumb.lineA ∧ t.plumb.lineB = b.plumb.lineB ∧
      t.fld F.PB_STATUS_GATE_OPEN = b.fld F.PB_STATUS_GATE_OPEN ∧ t.fld F.PB_COUNTS_STOPS = b.fld F.PB_COUNTS_STOPS)) ∧
  (∀ (s b : State) (dt : Nat), s.isOff = false → b = s.barrel dt → b.canonical →
    exec (.lockstepMismatch dt) s = .next (b.latchClass 1 3) ∧
    (b.clk.sclk < b.plumb.windowAt + 65536 → ∀ edges : Nat, exec (.clockMonitorWindow edges dt) s = .next b) ∧
    (b.plumb.windowAt + 65536 ≤ b.clk.sclk → ∀ edges e : Nat, e = b.clk.sclk - (b.clk.sclk - b.plumb.windowAt) % 65536 →
      (edges ≤ 167116 → 160564 ≤ edges →
        exec (.clockMonitorWindow edges dt) s = .next { b with plumb := { b.plumb with clockBad := false, windowAt := e } }) ∧
      (edges < 160564 ∨ 167116 < edges →
        exec (.clockMonitorWindow edges dt) s = .next ({ b with plumb := { b.plumb with clockBad := true, windowAt := e } }.latchClass 2 3))) ∧
    (∀ x y : Bool, (b.plumb.rbDue = [] → ∃ t, exec (.readbackCheck x y dt) s = .next t ∧ t.mem = b.mem ∧
        t.fld F.PB_STATUS_RB_A = bit x ∧ t.fld F.PB_STATUS_RB_B = bit y ∧
        t.plumb = { b.plumb with rbBad := b.plumb.rbBad && (x != b.plumb.lineA || y != b.plumb.lineB) }) ∧
      (∀ d rest, b.plumb.rbDue = d :: rest →
        (b.clk.sclk < d → ∃ t, exec (.readbackCheck x y dt) s = .next t ∧ t.mem = b.mem ∧ t.plumb = b.plumb ∧
          t.fld F.PB_STATUS_RB_A = bit x ∧ t.fld F.PB_STATUS_RB_B = bit y) ∧
        (d ≤ b.clk.sclk → x = b.plumb.lineA → y = b.plumb.lineB → ∃ t, exec (.readbackCheck x y dt) s = .next t ∧ t.mem = b.mem ∧
          t.plumb = { b.plumb with rbDue := rest, rbBad := false } ∧ t.fld F.PB_STATUS_RB_A = bit x ∧ t.fld F.PB_STATUS_RB_B = bit y ∧
          t.fld F.PB_STATUS_CAUSES = b.fld F.PB_STATUS_CAUSES ∧ t.fld F.PB_STATUS_MODE = b.fld F.PB_STATUS_MODE) ∧
        (d ≤ b.clk.sclk → x ≠ b.plumb.lineA ∨ y ≠ b.plumb.lineB → ∃ t, exec (.readbackCheck x y dt) s = .next t ∧ t.mem = b.mem ∧
          t.plumb.rbBad = true ∧ t.fld F.PB_STATUS_RB_A = bit x ∧ t.fld F.PB_STATUS_RB_B = bit y ∧ t.fld F.PB_STATUS_MODE = 3 ∧
          t.fld F.PB_STATUS_CAUSES = putBit (b.fld F.PB_STATUS_CAUSES) 1 true ∧ (b.fld F.PB_STATUS_MODE < 3 → t.linesOff)))) ∧
    (∀ lineB : Bool, (∀ shown, (∀ t, b.pulseAt (bit lineB) = some t → b.clk.sclk < t + 80000) →
        exec (.testPulse lineB shown dt) s = .next b) ∧
      (∀ d p, b.pulseAt (bit lineB) = some d → d + 80000 ≤ b.clk.sclk → p = { b with plumb := { b.plumb with
          pulses := spSet 0 b.plumb.pulses (bit lineB) (spGet 0 b.plumb.pulses (bit lineB) + 1) } } →
        exec (.testPulse lineB true dt) s = .next p ∧ exec (.testPulse lineB false dt) s = .next (p.latchClass 2 3))) ∧
    (∃ t, exec (.wdiEdge dt) s = .next t ∧ t.mem = b.mem ∧ t.plumb = { b.plumb with wdi := some b.clk.sclk } ∧
      t.fld F.PB_STATUS_WDI_OK = 1 ∧ t.fld F.PB_STATUS_CAUSES = b.fld F.PB_STATUS_CAUSES) ∧
    ((b.flag F.PB_STATUS_WDI_OK = false ∨ ∀ w, b.plumb.wdi = some w → b.clk.sclk < w + b.wdTimeout) →
      exec (.watchdogTimeout dt) s = .next b) ∧
    (∀ w, b.plumb.wdi = some w → b.flag F.PB_STATUS_WDI_OK = true → w + b.wdTimeout ≤ b.clk.sclk →
      ∃ t, exec (.watchdogTimeout dt) s = .next t ∧ t.mem = b.mem ∧ t.fld F.PB_STATUS_WDI_OK = 0 ∧ t.fld F.PB_STATUS_MODE = 3 ∧
        t.fld F.PB_STATUS_CAUSES = putBit (b.fld F.PB_STATUS_CAUSES) 2 true ∧ (b.fld F.PB_STATUS_MODE < 3 → t.linesOff)) ∧
    (∃ t, exec (.supplyMonitorFault dt) s = .next t ∧ t.mem = b.mem ∧ t.linesOff ∧ t.plumb.supplyBad = true ∧
      t.fld F.PB_STATUS_GATE_OPEN = 0 ∧ t.fld F.PB_STATUS_MODE = 3 ∧
      t.fld F.PB_STATUS_CAUSES = putBit (b.fld F.PB_STATUS_CAUSES) 1 true) ∧
    ((∀ d, b.plumb.dm2At = some d → b.clk.sclk < d + b.fld F.PB_CFG_STOP_DELAY * 400000) →
      exec (.safeStopDelayExpiry dt) s = .next b) ∧
    (∀ d, b.plumb.dm2At = some d → d + b.fld F.PB_CFG_STOP_DELAY * 400000 ≤ b.clk.sclk →
      ∃ t, exec (.safeStopDelayExpiry dt) s = .next t ∧ t.mem = b.mem ∧ t.linesOff ∧ t.plumb.dm2At = none ∧
        t.fld F.PB_STATUS_GATE_OPEN = 0 ∧ t.fld F.PB_STATUS_MODE = b.fld F.PB_STATUS_MODE) ∧
    (b.plumb.inbox = [] → exec (.plumbEvent dt) s = .next b) ∧
    (∀ code detail inj rest, b.plumb.inbox = (code, detail, inj) :: rest → code < 64 →
      ∃ t, exec (.plumbEvent dt) s = .next t ∧ t.mem = b.mem ∧ t.plumb = { b.plumb with inbox := rest, changed := true } ∧
        t.fld F.PB_EV_COUNT code = min (2 ^ 32 - 1) (b.fld F.PB_EV_COUNT code + 1) ∧ t.fld F.PB_EV_LAST_DETAIL code = detail % 2 ^ 32 ∧
        ∀ n < 64, n ≠ code → t.reg R.PB_EV n = b.reg R.PB_EV n))

/-- The value of a register-writing rule opcode, as 32-bit words: a and b are RA and RB, d the data word, v the increase of the counter. -/
def Claims.ruleValue (s : State) (x : Thread) (e : Nat) (a b : BitVec 32) (imm : Nat) : Nat → Option Nat
  | 0x01 => some imm
  | 0x02 => some ((x.record.getD 0) >>> (32 * (imm % 16)) % 2 ^ 32)
  | 0x03 => some (s.snapWord (imm / 256 % 256) (imm % 256) % 2 ^ 32)
  | 0x04 => some (spGet 0 s.plumb.data ((a.toNat + imm) % 4096) % 2 ^ 32)
  | 0x06 => some ((s.fld F.PB_EV_COUNT (imm % 64) - spGet 0 s.plumb.evRead (64 * e + imm % 64)) % 2 ^ 32)
  | 0x07 => some (a + b).toNat
  | 0x08 => some (a - b).toNat
  | 0x09 => some (a &&& b).toNat
  | 0x0A => some (a ||| b).toNat
  | 0x0B => some (a ^^^ b).toNat
  | 0x0C => some (a.sshiftRight (imm % 32)).toNat
  | 0x0D => some (a <<< (imm % 32)).toNat
  | 0x0E => some (if b.slt a then b else a).toNat
  | 0x0F => some (if a.slt b then b else a).toNat
  | 0x10 => some (if a = BitVec.intMin 32 then 0x7FFFFFFF else if a.slt 0 then (0 - a).toNat else a.toNat)
  | 0x11 => some (if a.slt b then 1 else 0)
  | 0x12 => some (if a.slt (BitVec.ofNat 32 imm) then 1 else 0)
  | 0x13 => some (if fLt a.toNat b.toNat then 1 else 0)
  | 0x14 => some (if fFinite a.toNat then 0 else 1)
  | 0x15 => some (fSub a.toNat b.toNat % 2 ^ 32)
  | 0x16 => some (a &&& 0x7FFFFFFF).toNat
  | 0x17 => some ((a.setWidth 16).signExtend 32).toNat
  | 0x1C => some (s.fld F.PB_EV_LAST_DETAIL (imm % 64))
  | 0x1D => some (s.frameNum % 2 ^ 32)
  | _ => none

/-- A rule instruction's row runs the barrel to its thread's turn, where the thread issues it, with the result Table PB-4 gives its opcode (R360, R361, R362).
With power: an instruction row of thread t runs the barrel to the next turn of t if the thread's next instruction has the row's opcode,
and changes nothing otherwise; where no other thread runs, that is the passing of those cycles and one issue. An issue in the middle of
an entry writes the opcode's value, as 32-bit arithmetic, to RD alone (W0 keeps nothing) and moves to the next instruction; STMEM writes
one data word, LDEV also marks the counter as read, RAISE sets one bit of PB_USER, VERDICT keeps the strongest verdict, a skip that is
taken passes IMM more instructions, and END ends the entry of a gate thread. No instruction changes main memory, and but for RAISE none
changes a register. -/
def Obligations.PlumbThreadsIssueTheirInstructions : Prop :=
  (∀ (s : State) (t : Fin 5), s.isOff = false →
    ∀ q ∈ ([(0x00, Instr.ruleEnd t), (0x01, .ldi t), (0x02, .ldrec t), (0x03, .ldhdr t), (0x04, .ldmem t), (0x05, .stmem t), (0x06, .ldev t),
      (0x07, .ruleAdd t), (0x08, .ruleSub t), (0x09, .ruleAnd t), (0x0A, .ruleOr t), (0x0B, .ruleXor t), (0x0C, .ruleShr t),
      (0x0D, .ruleShl t), (0x0E, .ruleMin t), (0x0F, .ruleMax t), (0x10, .ruleAbs t), (0x11, .slt t), (0x12, .slti t), (0x13, .flt t),
      (0x14, .fnan t), (0x15, .ruleFsub t), (0x16, .fabs t), (0x17, .sext16 t), (0x18, .skipz t), (0x19, .skipnz t), (0x1A, .verdict t),
      (0x1B, .ruleRaise t), (0x1C, .ldevd t), (0x1D, .ldfrm t)] : List (Nat × Instr)),
      ((∀ i, s.nextRule t = some i → B.RINS_OP.get i.toNat ≠ q.1) → exec q.2 s = .next s) ∧
      (∀ i, s.nextRule t = some i → B.RINS_OP.get i.toNat = q.1 → exec q.2 s = .next (s.barrel (s.slotOf t)) ∧
        ((∀ u, u ≠ t.val → (s.thread u).entry = none) → exec q.2 s = .next ((s.tickS (s.slotOf t)).issueRule t)))) ∧
  (∀ (s : State) (t e n : Nat) (x : Thread) (w : BitVec 64), x = s.thread t → x.entry = some e → (s.entryCode e)[x.pc]? = some w →
    n = w.toNat →
    (∀ y ∈ x.w, y.2 < 2 ^ 32) → x.pc + 1 < (s.entryCode e).length →
    (∀ v, Claims.ruleValue s x e (BitVec.ofNat 32 (x.get (B.RINS_RA.get n))) (BitVec.ofNat 32 (x.get (B.RINS_RB.get n))) (B.RINS_IMM.get n)
        (B.RINS_OP.get n) = some v →
      (s.issueRule t).thread t = { x with pc := x.pc + 1, w := if B.RINS_RD.get n = 0 then x.w else spSet 0 x.w (B.RINS_RD.get n) v } ∧
      (s.issueRule t).regs = s.regs ∧ (s.issueRule t).mem = s.mem ∧ (s.issueRule t).plumb.data = s.plumb.data ∧
      (∀ u, u ≠ t → (s.issueRule t).thread u = s.thread u) ∧
      (B.RINS_OP.get n = 0x06 → spWf 0 s.plumb.evRead = true → ∀ k, spGet 0 (s.issueRule t).plumb.evRead k =
        if k = 64 * e + B.RINS_IMM.get n % 64 then s.fld F.PB_EV_COUNT (B.RINS_IMM.get n % 64) else spGet 0 s.plumb.evRead k)) ∧
    (B.RINS_OP.get n = 0x05 → spWf 0 s.plumb.data = true → (s.issueRule t).thread t = { x with pc := x.pc + 1 } ∧
      (s.issueRule t).regs = s.regs ∧ (s.issueRule t).mem = s.mem ∧
      ∀ k, spGet 0 (s.issueRule t).plumb.data k = if k = (x.get (B.RINS_RA.get n) + B.RINS_IMM.get n) % 4096 then x.get (B.RINS_RD.get n)
        else spGet 0 s.plumb.data k) ∧
    (B.RINS_OP.get n = 0x1A → (s.issueRule t).thread t = { x with pc := x.pc + 1, verdict := max x.verdict (verdictRank (B.RINS_IMM.get n)) } ∧
      (s.issueRule t).regs = s.regs ∧ (s.issueRule t).mem = s.mem) ∧
    (B.RINS_OP.get n = 0x1B → s.canonical → (s.issueRule t).thread t = { x with pc := x.pc + 1 } ∧ (s.issueRule t).mem = s.mem ∧
      (s.issueRule t).reg R.PB_USER = s.reg R.PB_USER ||| (1 <<< (B.RINS_IMM.get n % 32))) ∧
    (B.RINS_OP.get n = 0x00 → t < 4 → (s.issueRule t).thread t = { x with pc := x.pc + 1, entry := none } ∧
      (s.issueRule t).regs = s.regs ∧ (s.issueRule t).mem = s.mem) ∧
    (∀ (k : Nat) (taken : Prop), k = B.RINS_IMM.get n % 1024 → x.pc + 1 + k < (s.entryCode e).length →
      ((B.RINS_OP.get n = 0x18 ∧ (taken ↔ x.get (B.RINS_RA.get n) = 0)) ∨ (B.RINS_OP.get n = 0x19 ∧ (taken ↔ x.get (B.RINS_RA.get n) ≠ 0))) →
      (taken → (s.issueRule t).thread t = { x with pc := x.pc + 1 + k }) ∧
      (¬ taken → (s.issueRule t).thread t = { x with pc := x.pc + 1 }) ∧ (s.issueRule t).regs = s.regs ∧ (s.issueRule t).mem = s.mem))

/-- Watch entries, gate verdicts and golden judgements act when due, and the lines rise by a release that nothing blocks (R360, R364, R365, R366, R367, R368, R370, R371).
With b the state after dt SCLK cycles of the barrel and canonical stores: the event entry runs after a 4,000-cycle mark if a counter has
changed, the frame entry once a frame after its offset; one that finds the watch thread busy waits, but a frame entry takes the place of
an event entry of its own cycle. The lowest free gate thread takes the oldest record for 400 cycles. A verdict due goes, the first due
first: with the gate closed, or closed at the dequeue, the record is dropped and counted; a BLOCK is dropped and counted; a PASS goes to
its port's queue, or to its DRIVE_DROP where 16 wait; DEGRADE and STOP latch class 8 with the mode they name. The golden store clears
with its OPEN. A judgement 8,000 cycles after the CLOSE counts, and on a failure counts the mismatch, raises an event and latches class
6 for the committed mode. PB_LOAD is refused outside its time, and for a bad signature or image. PB_CLEAR leaves DM1 only where nothing
blocks it. PB_RELEASE energises both lines only in S7, with WDI alive and no class that blocks, and else changes nothing. -/
def Obligations.PlumbJudgesRecordsAndSegments : Prop :=
  (∀ (s b : State) (since dt : Nat), s.isOff = false → b = s.barrel dt → b.canonical → spWf Thread.reset b.plumb.threads = true →
    (b.clk.sclk < b.plumb.eventAt + 4000 → exec (.eventEntryRun dt) s = .next b) ∧
    (b.plumb.eventAt + 4000 ≤ b.clk.sclk → ∃ t, exec (.eventEntryRun dt) s = .next t ∧ t.mem = b.mem ∧ t.regs = b.regs ∧
      t.plumb.eventAt ≤ b.clk.sclk ∧ b.clk.sclk < t.plumb.eventAt + 4000 ∧ t.plumb.eventAt % 4000 = b.plumb.eventAt % 4000 ∧
      (b.plumb.changed = false → t.plumb.threads = b.plumb.threads ∧ t.plumb.watchDue = b.plumb.watchDue) ∧
      (b.plumb.changed = true → (b.thread 4).entry = none → t.thread 4 = { Thread.reset with entry := some 1 } ∧ t.plumb.changed = false) ∧
      (b.plumb.changed = true → (b.thread 4).entry.isSome → b.plumb.watchDue.contains 1 = false →
        t.plumb.threads = b.plumb.threads ∧ t.plumb.watchDue = b.plumb.watchDue ++ [1])) ∧
    ((∀ d rest, b.plumb.frameDue = d :: rest → b.clk.sclk < d) → exec (.frameEntryRun since dt) s = .next b) ∧
    (∀ d rest, b.plumb.frameDue = d :: rest → d ≤ b.clk.sclk →
      ∃ t, exec (.frameEntryRun since dt) s = .next t ∧ t.mem = b.mem ∧ t.regs = b.regs ∧ t.plumb.frameDue = rest ∧
        ((b.thread 4).entry = none → t.thread 4 = { Thread.reset with entry := some 2 }) ∧
        ((b.thread 4).entry = some 1 → b.plumb.watchAt = b.clk.sclk → t.thread 4 = { Thread.reset with entry := some 2 } ∧
          t.plumb.watchDue.contains 1 = true) ∧
        ((b.thread 4).entry.isSome → (b.thread 4).entry = some 2 ∨ b.plumb.watchAt ≠ b.clk.sclk →
          t.plumb.watchDue = b.plumb.watchDue ++ [2] ∧ t.plumb.threads = b.plumb.threads)) ∧
    ((b.guyline.gate = [] ∨ ∀ t < 4, (b.thread t).record.isSome) → exec (.gateRecordDequeue dt) s = .next b) ∧
    (∀ (r : BitVec 512) (rest : List (BitVec 512)) (k : Nat), b.guyline.gate = r :: rest → k < 4 → (b.thread k).record = none →
      (∀ u < k, (b.thread u).record.isSome) → ∃ t, exec (.gateRecordDequeue dt) s = .next t ∧ t.guyline.gate = rest ∧ t.mem = b.mem ∧
        t.regs = b.regs ∧ t.thread k = { Thread.reset with entry := some 0, record := some r.toNat, due := b.clk.sclk + 400,
                                                           closed := !(b.flag F.PB_STATUS_GATE_OPEN) } ∧
        ∀ u, u ≠ k → t.thread u = b.thread u) ∧
    ((∀ k < 4, (b.thread k).record = none ∨ b.clk.sclk < (b.thread k).due) → exec (.gateVerdict dt) s = .next b) ∧
    (∀ (k r n : Nat) (x : Thread) (shut : Bool), k < 4 → x = b.thread k → x.record = some r → x.due ≤ b.clk.sclk →
      (∀ u < 4, u ≠ k → (b.thread u).record = none ∨ x.due < (b.thread u).due ∨ (x.due = (b.thread u).due ∧ k < u)) →
      n = b.fld F.GL_CH_C_PORT (B.GREC_CHANNEL.get r) → shut = (x.closed || !(b.flag F.PB_STATUS_GATE_OPEN)) →
      ∃ t, exec (.gateVerdict dt) s = .next t ∧ t.mem = b.mem ∧ t.thread k = Thread.reset ∧
        (shut = true ∨ x.verdict = 1 ∨ x.verdict = 5 → t.sensors = b.sensors) ∧
        (shut = true → t.fld F.PB_COUNTS_GATE_CLOSED = min 65535 (b.fld F.PB_COUNTS_GATE_CLOSED + 1)) ∧
        (shut = false → x.verdict = 1 → t.fld F.PB_COUNTS_BLOCKED = min (2 ^ 32 - 1) (b.fld F.PB_COUNTS_BLOCKED + 1)) ∧
        (shut = false → x.verdict ≠ 1 → x.verdict ≠ 5 → (b.driveQueue n).length < 16 → t.driveQueue n = b.driveQueue n ++ [⟨r, none⟩]) ∧
        (shut = false → x.verdict ≠ 1 → x.verdict ≠ 5 → 16 ≤ (b.driveQueue n).length → t.sensors = b.sensors ∧
          t.fld F.GL_CH_CNT_DRIVE_DROP (B.GREC_CHANNEL.get r) = min 255 (b.fld F.GL_CH_CNT_DRIVE_DROP (B.GREC_CHANNEL.get r) + 1)) ∧
        (x.verdict < 2 → t.fld F.PB_STATUS_MODE = b.fld F.PB_STATUS_MODE ∧ t.fld F.PB_STATUS_CAUSES = b.fld F.PB_STATUS_CAUSES) ∧
        (2 ≤ x.verdict → x.verdict ≤ 5 → t.fld F.PB_STATUS_CAUSES = putBit (b.fld F.PB_STATUS_CAUSES) 7 true ∧
          t.fld F.PB_STATUS_MODE = max (b.fld F.PB_STATUS_MODE) (if x.verdict = 5 then 3 else x.verdict - 1))) ∧
    (exec (.goldenStoreClear dt) s = .next (if b.plumb.goldenOpen then { b with plumb := { b.plumb with goldenOpen := false, golden := [] } }
      else b)) ∧
    ((∀ d, b.plumb.goldenClose = some d → b.clk.sclk < d + 8000) → exec (.goldenCompare dt) s = .next b) ∧
    (∀ d set valid other fail differ, b.plumb.goldenClose = some d → d + 8000 ≤ b.clk.sclk →
      b.goldenJudge = (set, valid, other, fail, differ) → ∃ t, exec (.goldenCompare dt) s = .next t ∧ t.mem = b.mem ∧
        t.plumb.goldenClose = none ∧ t.fld F.PB_GOLDEN_LAST_SET = set % 16 ∧
        t.fld F.PB_GOLDEN_JUDGED = min (2 ^ 32 - 1) (b.fld F.PB_GOLDEN_JUDGED + 1) ∧
        (valid = true → other = false → fail = 0 → t.fld F.PB_GOLDEN_LAST_OK = 1 ∧ t.plumb.passed5 = true ∧ t.plumb.passed6 = true ∧
          t.fld F.PB_STATUS_CAUSES = b.fld F.PB_STATUS_CAUSES ∧ t.fld F.PB_GOLDEN_MISMATCHES = b.fld F.PB_GOLDEN_MISMATCHES) ∧
        (valid = false ∨ other = true ∨ fail ≠ 0 → t.fld F.PB_GOLDEN_LAST_OK = 0 ∧ t.plumb.passed6 = false ∧
          t.fld F.PB_GOLDEN_MISMATCHES = min 65535 (b.fld F.PB_GOLDEN_MISMATCHES + 1) ∧
          t.fld F.PB_STATUS_CAUSES = putBit (b.fld F.PB_STATUS_CAUSES) 5 true ∧
          t.fld F.PB_STATUS_MODE = max (b.fld F.PB_STATUS_MODE) (b.fld F.PB_DEGRADE_GOLDEN_MISMATCH)))) ∧
  (∀ (s : State) (c : Cmd) (bs : List Byte), bs = s.rdBytes (c.w64 4) c.len →
    (s.loading = false → pbLoadBody s c = (s, some (denied 1))) ∧
    (s.loading = true → s.exchange c.ctx (c.w64 4) c.len = false → pbLoadBody s c = (s, some (denied 4))) ∧
    (s.loading = true → s.exchange c.ctx (c.w64 4) c.len = true →
      (signedOk bs 4 1 s.ident.owner = false → pbLoadBody s c = (s, some (badSignature 0))) ∧
      (signedOk bs 4 1 s.ident.owner = true →
        (ruleParse (bs.take (bs.length - 3392)) = none → pbLoadBody s c = (s, some (lenRange 1))) ∧
        (∀ r data, ruleParse (bs.take (bs.length - 3392)) = some (r, data) →
          (∀ x, ruleFault r = some x → pbLoadBody s c = (s, some ⟨1, 2, x, none⟩)) ∧
          (ruleFault r = none → s.plumb.loaded = true → pbLoadBody s c = (s, some (conflict 0))) ∧
          (ruleFault r = none → s.plumb.loaded = false → ∃ t, pbLoadBody s c = (t, some Reply.ok) ∧ t.mem = s.mem ∧
            t.plumb = { s.plumb with rules := some r, loaded := true, data := data })))) ∧
    (s.fld F.PB_STATUS_MODE = 0 → pbClearBody s c = (s, some Reply.ok)) ∧
    (∀ blocking, blocking = s.latched.filter (fun k => k != 8 || s.plumb.ruleMode != 1) → s.fld F.PB_STATUS_MODE ≠ 0 →
      ((s.fld F.PB_STATUS_MODE ≠ 1 ∨ blocking ≠ []) → pbClearBody s c = (s, some (s.refusedReply blocking))) ∧
      (s.fld F.PB_STATUS_MODE = 1 → blocking = [] → s.canonical → ∃ t, pbClearBody s c = (t, some Reply.ok) ∧ t.mem = s.mem ∧
        t.fld F.PB_STATUS_MODE = 0 ∧ t.fld F.PB_STATUS_CAUSES = 0 ∧ t.plumb.lineA = s.plumb.lineA ∧ t.plumb.lineB = s.plumb.lineB ∧
        t.fld F.PB_STATUS_GATE_OPEN = s.fld F.PB_STATUS_GATE_OPEN)) ∧
    (∀ blocking, blocking = s.latched.filter s.classBlocks →
      ((s.done ≠ 7 ∨ blocking ≠ [] ∨ s.wdiOk = false) → pbReleaseBody s c = (s, some (s.refusedReply blocking))) ∧
      (s.done = 7 → blocking = [] → s.wdiOk = true → s.canonical → ∃ t, pbReleaseBody s c = (t, some Reply.ok) ∧ t.mem = s.mem ∧
        t.plumb.lineA = true ∧ t.plumb.lineB = true ∧ t.fld F.PB_STATUS_MODE = 0 ∧ t.fld F.PB_STATUS_CAUSES = 0 ∧
        t.fld F.PB_STATUS_GATE_OPEN = 1 ∧ t.fld F.PB_COUNTS_RELEASES = min 255 (s.fld F.PB_COUNTS_RELEASES + 1))))

/-- Each LPDDR5 command of the host does what Table TH-2 gives it, a write lands in the bytes it names or is dropped and counted (R375, R376, R377, R378, R379, R380, R382, R384, R387, R388, R393, R417).
With power and canonical stores: PRE, REF and PDE change nothing; ACT loads the bank's row register; RD returns the 32 bytes behind a
backed offset, and zeros with a count for one that is not; WR and MWR change exactly the bytes of the unit that are not masked where a
writable block backs it, land in the stage where the stream has credit, and otherwise leave memory alone and count an unbacked access
(the first latched), an overrun or a mask drop (write DBI's place in MR3 is presumed). Self-refresh sets and clears the channel's idle
bit; deep sleep marks the departure and asks for a new training, its exit wakes; RESET_n clears the mode and training registers and
departs. MRW stores a mode register unless it is read-only, MRR returns it. The training commands act on the training registers; what
RDC and an empty FIFO answer is open. A bad command is counted. A boot-page write reaches its doorbell, scratch or register, or is
unbacked. -/
def Obligations.HostBusCommandsAct : Prop :=
  ∀ (ch : HostChan) (s : State), s.isOff = false → s.canonical → spWf HostLane.reset s.trail.lanes = true →
    exec (.pre ch) s = .next s ∧ exec (.ref ch) s = .next s ∧ exec (.pde ch) s = .next s ∧
    (∀ (bank : Fin 16) (row : BitVec 16), ∃ t, exec (.act ch bank row) s = .next t ∧ t.mem = s.mem ∧ t.regs = s.regs ∧
      t.hostLane ch = { s.hostLane ch with rows := spSet 0 (s.hostLane ch).rows bank row.toNat }) ∧
    (∀ (bank : Fin 16) (col : BitVec 6) (off : Nat), off = s.hostOffset ch bank col.toNat → 65536 ≤ off →
      (∀ a, s.portServes = true → F.TH_WMAP_FILLING.get (s.wmap ch (off / 65536)) = 0 → s.backed ch off = some a →
        ∃ t, exec (.rd ch bank col) s = .next t ∧ t.mem = s.mem ∧ t.regs = s.regs ∧ (t.hostLane ch).dq = s.rdBytes a 32) ∧
      ((s.portServes = false ∨ F.TH_WMAP_FILLING.get (s.wmap ch (off / 65536)) ≠ 0 ∨ s.backed ch off = none) →
        ∃ t, exec (.rd ch bank col) s = .next t ∧ t.mem = s.mem ∧ (t.hostLane ch).dq = List.replicate 32 0 ∧
          t.fld F.TH_COUNTS_UNBACKED = min 65535 (s.fld F.TH_COUNTS_UNBACKED + 1) ∧ t.fld F.TH_STATUS_UNBACKED = 1)) ∧
    (∀ (bank : Fin 16) (col : BitVec 6) (data : BitVec 256) (off : Nat), off = s.hostOffset ch bank col.toNat →
      exec (.wr ch bank col data) s = exec (.mwr ch bank col data 0) s ∧
      (∀ a, 65536 ≤ off → off < 0x4000_0000 → s.portServes = true → s.flag F.FB_STATUS_REPLAYING = false → s.backed ch off = some a →
        F.TH_WMAP_KIND.get (s.wmap ch (off / 65536)) ≠ 2 → s.ringGuard ch off = false →
        ∃ t, exec (.wr ch bank col data) s = .next t ∧ t.regs = s.regs ∧
          (∀ j < 32, t.rdByte (a + j) = data.extractLsb' (8 * j) 8) ∧ ∀ y, (y < a ∨ a + 32 ≤ y) → t.rdByte y = s.rdByte y) ∧
      ∀ mask : BitVec 32, 65536 ≤ off →
        (∀ a, off < 0x4000_0000 → s.portServes = true → s.flag F.FB_STATUS_REPLAYING = false → s.backed ch off = some a →
          F.TH_WMAP_KIND.get (s.wmap ch (off / 65536)) ≠ 2 → s.ringGuard ch off = false →
          (mask = 0 ∨ (s.hostLane ch).writeDbi = false → ∃ t, exec (.mwr ch bank col data mask) s = .next t ∧ t.regs = s.regs ∧
            (∀ j < 32, t.rdByte (a + j) = if mask.getLsbD j then s.rdByte (a + j) else data.extractLsb' (8 * j) 8) ∧
            ∀ y, (y < a ∨ a + 32 ≤ y) → t.rdByte y = s.rdByte y) ∧
          (mask ≠ 0 → (s.hostLane ch).writeDbi = true → ∃ t, exec (.mwr ch bank col data mask) s = .next t ∧ t.mem = s.mem ∧
            t.fld F.TH_COUNTS_MASK_DROP = min 65535 (s.fld F.TH_COUNTS_MASK_DROP + 1) ∧ t.fld F.TH_STATUS_MASK_DROP = 1)) ∧
        ((s.portServes = false ∨ (s.flag F.FB_STATUS_REPLAYING = true ∧ s.mgmtArea ch off = false) ∨ (off < 0x4000_0000 ∧
            (s.backed ch off = none ∨ F.TH_WMAP_KIND.get (s.wmap ch (off / 65536)) = 2 ∨ s.ringGuard ch off = true))) →
          ∃ t, exec (.mwr ch bank col data mask) s = .next t ∧ t.mem = s.mem ∧
            t.fld F.TH_COUNTS_UNBACKED = min 65535 (s.fld F.TH_COUNTS_UNBACKED + 1) ∧ t.fld F.TH_STATUS_UNBACKED_WR = 1 ∧
            t.trail.latched = true ∧ (s.trail.latched = true → t.reg R.TH_UNBACKED = s.reg R.TH_UNBACKED) ∧
            (s.trail.latched = false → t.fld F.TH_UNBACKED_OFFSET = off % 2 ^ 31 ∧ t.fld F.TH_UNBACKED_CHANNEL = ch.val ∧
              t.fld F.TH_UNBACKED_WRITE = 1)) ∧
        (∀ i b p, 0x4000_0000 ≤ off → s.portServes = true → s.flag F.FB_STATUS_REPLAYING = false →
          i = 64 * ch.val + (off - 0x4000_0000) / 2 ^ 24 → b = s.drained i → p = b + (off % 2 ^ 24 + 2 ^ 24 - b % 2 ^ 24) % 2 ^ 24 →
          s.flag F.TH_STREAM_OPEN i = true →
          (mask ≠ 0 → ∃ t, exec (.mwr ch bank col data mask) s = .next t ∧ t.mem = s.mem ∧
            t.fld F.TH_COUNTS_MASK_DROP = min 65535 (s.fld F.TH_COUNTS_MASK_DROP + 1)) ∧
          (mask = 0 → (p < s.fld F.TH_COMMIT_COMMIT i ∨ b + s.stageSize i ≤ p) → ∃ t, exec (.mwr ch bank col data mask) s = .next t ∧
            t.mem = s.mem ∧ t.fld F.TH_COUNTS_OVERRUN = min 65535 (s.fld F.TH_COUNTS_OVERRUN + 1) ∧ t.fld F.TH_STATUS_OVERRUN = 1 ∧
            (t.wstream i).overrun = (s.wstream i).overrun + 1) ∧
          (∀ a, mask = 0 → s.fld F.TH_COMMIT_COMMIT i ≤ p → p < b + s.stageSize i →
            a = sramBase + s.fld F.TH_STREAM_STAGE_FIRST i * 65536 + p % s.stageSize i →
            ∃ t, exec (.mwr ch bank col data mask) s = .next t ∧ t.regs = s.regs ∧
              (∀ j < 32, t.rdByte (a + j) = data.extractLsb' (8 * j) 8) ∧ ∀ y, (y < a ∨ a + 32 ≤ y) → t.rdByte y = s.rdByte y))) ∧
    (∃ t, exec (.sre ch) s = .next t ∧ t.mem = s.mem ∧ t.hostLane ch = { s.hostLane ch with idle := true } ∧
      hasBit (t.fld F.BC_STATUS_HOST_IDLE) ch.val = true ∧ t.fld F.TH_STATUS_HOST_IDLE = 1) ∧
    (∃ t, exec (.srx ch) s = .next t ∧ t.mem = s.mem ∧ t.hostLane ch = { s.hostLane ch with idle := false } ∧
      hasBit (t.fld F.BC_STATUS_HOST_IDLE) ch.val = false) ∧
    (∃ t, exec (.dsmEntry ch) s = .next t ∧ t.mem = s.mem ∧ t.hostLane ch = { s.hostLane ch with asleep := true, trained := false } ∧
      hasBit (t.fld F.BC_STATUS_DEPARTED) ch.val = true ∧ t.fld F.TH_STATUS_DEPARTED = 1 ∧ t.rings.table = s.rings.table) ∧
    (∃ t, exec (.dsmExit ch) s = .next t ∧ t.mem = s.mem ∧ t.regs = s.regs ∧ t.hostLane ch = { s.hostLane ch with asleep := false }) ∧
    (∃ t, exec (.hostResetN ch true) s = .next t ∧ t.mem = s.mem ∧ t.hostLane ch = { s.hostLane ch with
        modes := [], fifo := [], synced := false, cbt := false, asleep := true, trained := false } ∧
      hasBit (t.fld F.BC_STATUS_DEPARTED) ch.val = true ∧ t.fld F.TH_STATUS_DEPARTED = 1) ∧
    exec (.hostResetN ch false) s = exec (.dsmExit ch) s ∧
    (∀ (mr : BitVec 7) (v : Byte),
      (∀ x, fixedMode mr.toNat = some x → exec (.mrw ch mr v) s = .next s ∧
        ∃ t, exec (.mrr ch mr) s = .next t ∧ t.mem = s.mem ∧ t.regs = s.regs ∧ (t.hostLane ch).dq = [BitVec.ofNat 8 x]) ∧
      (fixedMode mr.toNat = none →
        (∃ t, exec (.mrw ch mr v) s = .next t ∧ t.mem = s.mem ∧ t.regs = s.regs ∧
          (t.hostLane ch).modes = spSet 0 (s.hostLane ch).modes mr.toNat v.toNat) ∧
        ∃ t, exec (.mrr ch mr) s = .next t ∧ t.mem = s.mem ∧ t.regs = s.regs ∧
          (t.hostLane ch).dq = [BitVec.ofNat 8 (spGet 0 (s.hostLane ch).modes mr.toNat)])) ∧
    exec (.lpddr5TrainingCommand ch .zq) s = .next s ∧
    (∃ t, exec (.lpddr5TrainingCommand ch .cas) s = .next t ∧ t.mem = s.mem ∧ t.hostLane ch = { s.hostLane ch with synced := true }) ∧
    (∀ on, ∃ t, exec (.lpddr5TrainingCommand ch (.cbt on)) s = .next t ∧ t.mem = s.mem ∧
      t.hostLane ch = { s.hostLane ch with cbt := on }) ∧
    (∀ data : BitVec 256, ∃ t, exec (.lpddr5TrainingCommand ch (.wff data)) s = .next t ∧ t.mem = s.mem ∧
      t.hostLane ch = { s.hostLane ch with fifo := (s.hostLane ch).fifo ++ [leBytes 32 data.toNat], trained := true }) ∧
    (∀ bs rest, (s.hostLane ch).fifo = bs :: rest → ∃ t, exec (.lpddr5TrainingCommand ch .rff) s = .next t ∧ t.mem = s.mem ∧
      t.hostLane ch = { s.hostLane ch with fifo := rest, dq := bs }) ∧
    ((s.hostLane ch).fifo = [] → ∃ t bs, exec (.lpddr5TrainingCommand ch .rff) s = .next t ∧ t.mem = s.mem ∧
      t.hostLane ch = { s.hostLane ch with dq := bs } ∧ bs.length = 32) ∧
    (∃ t bs, exec (.lpddr5TrainingCommand ch .rdc) s = .next t ∧ t.mem = s.mem ∧ t.hostLane ch = { s.hostLane ch with dq := bs } ∧
      bs.length = 32) ∧
    (∃ t, exec (.badCmd ch) s = .next t ∧ t.mem = s.mem ∧ t.trail = s.trail ∧
      t.fld F.TH_COUNTS_BAD_CMD = min 255 (s.fld F.TH_COUNTS_BAD_CMD + 1) ∧ t.fld F.TH_STATUS_BAD_CMD = 1) ∧
    (∀ (off : BitVec 16) (o : Nat) (v : DWord), o = off.toNat / 8 * 8 →
      exec (.bootPageWrite ch off v true) s = .next s ∧
      (0x8000 ≤ o → exec (.bootPageWrite ch off v false) s = exec (.doorbell ch v false) s) ∧
      (0x4000 ≤ o → o < 0x8000 → s.done < 3 → ∃ t, exec (.bootPageWrite ch off v false) s = .next t ∧ t.mem = s.mem ∧ t.regs = s.regs ∧
        t.hostLane ch = { s.hostLane ch with scratch := spWrite 0 (s.hostLane ch).scratch (o - 0x4000) (leBytes 8 v.toNat) }) ∧
      (o < 0x4000 → (∀ r i, bootReg ch o = some (r, i) → r ∉ [R.BC_STEP, R.TH_COMMIT, R.TH_ATTN, R.TH_STATUS]) →
        ∃ t, exec (.bootPageWrite ch off v false) s = .next t ∧ t.mem = s.mem ∧
          t.fld F.TH_COUNTS_UNBACKED = min 65535 (s.fld F.TH_COUNTS_UNBACKED + 1) ∧ t.fld F.TH_STATUS_UNBACKED_WR = 1) ∧
      (o < 0x4000 → ∀ i, bootReg ch o = some (R.BC_STEP, i) → exec (.bootPageWrite ch off v false) s = .next (s.stepWrite v)) ∧
      (o < 0x4000 → ∀ i, bootReg ch o = some (R.TH_STATUS, i) → ∃ t, exec (.bootPageWrite ch off v false) s = .next t ∧ t.mem = s.mem ∧
        t.reg R.TH_STATUS i = R.TH_STATUS.written (s.reg R.TH_STATUS i) v ∧ t.trail.latched = (s.trail.latched && !v.getLsbD 0)))

/-- Blocks are mapped whole or not at all, a stage fills its lines, and a stream commits, drains line by line and closes (R383, R385, R386, R389, R390, R391, R392, R395).
A TH_COMMIT write within its credit moves the commit point, any other is ignored and counted (a closed stream's too, the model's
reading); a read returns the value in force. TH_MAP refuses a bad kind, too few free blocks and taken or misplaced blocks whole; else
every block maps. TH_UNMAP refuses what the context does not own or has not mapped; else the entries clear. TH_STAGE and TH_STREAM_OPEN
are refused in the order of their tests; an accepted stage fills, an accepted stream opens with its credit and no commit.
TH_STREAM_CLOSE of a stream that is not open, or another's, is refused. TH_STAGE_FILL_COMPLETE: a stage's last line completes it, a bad
line as zeros, when every OPEN queue in which it stands serves it; else it waits. STREAM_DRAIN_LINE: where the channel's OPEN queue
serves the stream, the line lands at its place in the DDR4 ring, its stage reads zero, B and credit move by 64, and nothing else in
memory changes; else it waits. HOST_ATTN_HOLDOFF_END: the interrupt's hold-off ends and the pin follows its causes. -/
def Obligations.TrailheadStreamsDrainAndCommit : Prop :=
  (∀ (ch : HostChan) (a : BitVec 6) (v : DWord) (s : State) (i : Nat), s.isOff = false → s.canonical → i = 64 * ch.val + a.toNat →
    (s.flag F.TH_STREAM_OPEN i = true → v.toNat % 64 = 0 → s.fld F.TH_COMMIT_COMMIT i ≤ v.toNat → v.toNat ≤ s.drained i + s.stageSize i →
      ∃ t, exec (.thCommitWrite ch a v) s = .next t ∧ t.mem = s.mem ∧ t.fld F.TH_COMMIT_COMMIT i = v.toNat ∧
        (t.readReg R.TH_COMMIT i).1 = v ∧ t.reg R.TH_COUNTS = s.reg R.TH_COUNTS) ∧
    ((s.flag F.TH_STREAM_OPEN i = false ∨ v.toNat % 64 ≠ 0 ∨ v.toNat < s.fld F.TH_COMMIT_COMMIT i ∨
        s.drained i + s.stageSize i < v.toNat) → ∃ t, exec (.thCommitWrite ch a v) s = .next t ∧ t.mem = s.mem ∧
      t.reg R.TH_COMMIT i = s.reg R.TH_COMMIT i ∧ t.fld F.TH_COUNTS_COMMIT_BAD = min 255 (s.fld F.TH_COUNTS_COMMIT_BAD + 1) ∧
      t.fld F.TH_STATUS_COMMIT_BAD = 1)) ∧
  (∀ (s : State) (c : Cmd) (ch k kind : Nat), ch = c.w 4 / 2 ^ 31 → k = c.w 4 % 2 ^ 14 → kind = c.w 5 % 4 → ch ≤ 1 →
    ((kind ≠ 1 ∧ kind ≠ 2) ∨ s.freeBlocks.length < c.len → thMapBody s c = (s, some (lenRange 0))) ∧
    (kind = 1 ∨ kind = 2 → c.len ≤ s.freeBlocks.length →
      ((∃ i < c.len, kindRange kind (k + i) = false ∨ F.TH_WMAP_VALID.get (s.wmap ch (k + i)) = 1) →
        thMapBody s c = (s, some (conflict 0))) ∧
      ((∀ i < c.len, kindRange kind (k + i) = true ∧ F.TH_WMAP_VALID.get (s.wmap ch (k + i)) = 0) → s.canonical →
        ∃ t, thMapBody s c = (t, some (Reply.detailed (if c.len = 0 then 0 else s.freeBlocks.getD 0 0))) ∧ t.mem = s.mem ∧
          (∀ i < c.len, t.wmap ch (k + i) = mapEntry (s.freeBlocks.getD i 0) kind c.part c.ctx) ∧
          ∀ j, j < 16384 → (j < k ∨ k + c.len ≤ j) → t.wmap ch j = s.wmap ch j)) ∧
    ((∃ i < c.len, F.TH_WMAP_VALID.get (s.wmap ch (k + i)) = 1 ∧ F.TH_WMAP_CONTEXT.get (s.wmap ch (k + i)) ≠ c.ctx) →
      thUnmapBody s c = (s, some (denied 0))) ∧
    ((∀ i < c.len, F.TH_WMAP_VALID.get (s.wmap ch (k + i)) = 1 → F.TH_WMAP_CONTEXT.get (s.wmap ch (k + i)) = c.ctx) →
      ((16384 < k + c.len ∨ ∃ i < c.len, F.TH_WMAP_VALID.get (s.wmap ch (k + i)) = 0 ∨ F.TH_WMAP_KIND.get (s.wmap ch (k + i)) = 0) →
        thUnmapBody s c = (s, some (conflict 0))) ∧
      (k + c.len ≤ 16384 → (∀ i < c.len, F.TH_WMAP_VALID.get (s.wmap ch (k + i)) = 1 ∧ F.TH_WMAP_KIND.get (s.wmap ch (k + i)) ≠ 0) →
        s.canonical → ∃ t, thUnmapBody s c = (t, some Reply.ok) ∧ t.mem = s.mem ∧ ∀ i < c.len, t.wmap ch (k + i) = 0))) ∧
  (∀ (s : State) (c : Cmd) (off : Nat) (staged : Bool), off = c.w64 6 % 2 ^ 63 → staged = (stageBlocks off c.len).all (fun k =>
      decide (k < 16384) && F.TH_WMAP_VALID.get (s.wmap (c.w 7 / 2 ^ 31) k) == 1 && F.TH_WMAP_KIND.get (s.wmap (c.w 7 / 2 ^ 31) k) == 2 &&
        F.TH_WMAP_CONTEXT.get (s.wmap (c.w 7 / 2 ^ 31) k) == c.ctx) →
    (s.ddrReads c.part (c.w64 4) c.len = false → thStageBody s c = (s, some (denied 0))) ∧
    (s.ddrReads c.part (c.w64 4) c.len = true →
      ((c.w64 4 % 64 ≠ 0 ∨ off % 64 ≠ 0 ∨ staged = false) → thStageBody s c = (s, some (lenRange 0))) ∧
      (c.w64 4 % 64 = 0 → off % 64 = 0 → staged = true → ∃ t, thStageBody s c = (t, none) ∧ t.mem = s.mem ∧
        t.trail.stages = s.trail.stages ++ [⟨c.ring, c.d, c.w64 4, c.w 7 / 2 ^ 31, off, c.len⟩]))) ∧
  (∀ (s : State) (c : Cmd) (i base len first n cond : Nat), i = c.w 4 % 128 → base = c.w 5 * 65536 → len = c.w 6 → first = c.w 7 % 512 →
    n = c.w 7 / 2 ^ 16 % 512 → cond = c.w 8 % 64 →
    (s.inOneRegion c.part base (len * 65536) = false → thStreamOpenBody s c = (s, some (denied 0))) ∧
    (s.inOneRegion c.part base (len * 65536) = true →
      ((len = 0 ∨ 65535 < len ∨ n = 0 ∨ 256 < n ∨ 512 < first + n) → thStreamOpenBody s c = (s, some (lenRange 0))) ∧
      (len ≠ 0 → len ≤ 65535 → n ≠ 0 → n ≤ 256 → first + n ≤ 512 →
        ((s.flag F.TH_STREAM_OPEN i = true ∨ (s.wstream i).closing.isSome ∨ (∃ k < n, first + k ∉ s.freeBlocks) ∨
            s.condOwner cond ≠ some c.part ∨ s.condBound cond = true) → thStreamOpenBody s c = (s, some (conflict 0))) ∧
        (s.flag F.TH_STREAM_OPEN i = false → (s.wstream i).closing = none → (∀ k < n, first + k ∈ s.freeBlocks) →
          s.condOwner cond = some c.part → s.condBound cond = false → s.canonical →
          ∃ t, thStreamOpenBody s c = (t, some Reply.ok) ∧ t.flag F.TH_STREAM_OPEN i = true ∧ t.fld F.TH_STREAM_STAGE_FIRST i = first ∧
            t.stageSize i = n * 65536 ∧ t.fld F.TH_COMMIT_COMMIT i = 0 ∧ t.drained i = 0 ∧ t.fld F.TH_CREDIT_CREDIT i = n * 65536))) ∧
    (s.flag F.TH_STREAM_OPEN i = false → thStreamCloseBody s c = (s, some (conflict 0))) ∧
    (s.flag F.TH_STREAM_OPEN i = true →
      ((s.wstream i).ctx ≠ c.ctx → thStreamCloseBody s c = (s, some (denied 0))) ∧
      ((s.wstream i).ctx = c.ctx → s.canonical → s.drained i < s.fld F.TH_COMMIT_COMMIT i → ∃ t, thStreamCloseBody s c = (t, none) ∧
        t.mem = s.mem ∧ t.flag F.TH_STREAM_OPEN i = false ∧ (t.wstream i).closing = some (some (c.ring, c.d))))) ∧
  (∀ s : State, s.dark = false → s.canonical →
    (∀ (i : Nat) (v : State), v = s.queueOpens →
      (s.trail.stages[i]? = none → exec (.thStageFillComplete i) s = .next s) ∧
      ∀ g, s.trail.stages[i]? = some g →
        (v.openForAll (.stage g.ring g.desc) = false ∨ v.inOpenQueue (.stage g.ring g.desc) = false →
          exec (.thStageFillComplete i) s = .next v) ∧
        (∀ m, v.openForAll (.stage g.ring g.desc) = true → v.inOpenQueue (.stage g.ring g.desc) = true → g.len = 64 →
          s.backed g.chan g.off = some m →
          ∃ u : State, exec (.thStageFillComplete i) s =
              .next (u.finish g.ring g.desc (if s.lineBad g.src then ⟨0xF, 1, 0, none⟩ else Reply.ok)) ∧
            u.trail.stages = s.trail.stages.eraseIdx i ∧
            (∀ j < 64, u.rdByte (m + j) = if s.lineBad g.src then 0 else s.rdByte (g.src + j)) ∧
            ∀ y, (y < m ∨ m + 64 ≤ y) → u.rdByte y = s.rdByte y)) ∧
    (∀ (q : BitVec 7) (bad : Bool) (v : State) (n b a stage : Nat), v = s.queueOpens → n = q.toNat → b = s.drained n →
      a = s.streamDest n b → stage = sramBase + s.fld F.TH_STREAM_STAGE_FIRST n * 65536 + b % s.stageSize n →
      (v.openFor (ddrChan a) (.drain n) = false → exec (.streamDrainLine q bad) s = .next v) ∧
      (v.openFor (ddrChan a) (.drain n) = true → (s.wstream n).closing = none ∨ b + 64 < s.fld F.TH_COMMIT_COMMIT n → a + 64 ≤ ddrSize →
        ∃ t, exec (.streamDrainLine q bad) s = .next t ∧ t.drained n = (b + 64) % 2 ^ 64 ∧
          t.fld F.TH_CREDIT_CREDIT n = (b + 64 + s.stageSize n) % 2 ^ 64 ∧ t.fld F.TH_COMMIT_COMMIT n = s.fld F.TH_COMMIT_COMMIT n ∧
          t.fld F.TH_ATTN_CREDIT = 1 ∧ (∀ j < 64, t.rdByte (stage + j) = 0) ∧
          (((s.tagOf a).writes (s.fld F.TH_STREAM_PART n)) = true → ∀ j < 64, t.rdByte (a + j) = s.rdByte (stage + j)) ∧
          (((s.tagOf a).writes (s.fld F.TH_STREAM_PART n)) = false → ∀ j < 64, t.rdByte (a + j) = s.rdByte (a + j)) ∧
          ∀ y, (y < a ∨ a + 64 ≤ y) → (y < stage ∨ stage + 64 ≤ y) → t.rdByte y = s.rdByte y)) ∧
    (∃ t, exec .hostAttnHoldoffEnd s = .next t ∧ t.mem = s.mem ∧
      t.fld F.TH_ATTN_PIN = bit ((s.reg R.TH_ATTN).toNat % 256 &&& (s.reg R.TH_ATTN).toNat / 256 % 256 != 0) ∧
      (s.flag F.TH_ATTN_PIN = false → t.trail.attnHold = false)))

/-- Each command of Table BC-5 runs when its ring may start its descriptor: it is refused, or its own rules run (R15, R401, R403, R405, R413, R487).
For each command row of a ring, with the opcode and the rules that Table BC-5 gives it: a descriptor of another opcode, and in TH_MAP
and TH_UNMAP of the other form, is not that command and changes nothing. On a ring that does not exist, is being closed, is stalled, or
whose earlier commands hold back a fenced descriptor, nothing happens. A posting that R397 forbids is counted as a bad doorbell. Else
the descriptor is taken and recorded; one that the verdict of Table BC-3, of replay and of R15 rejects completes with that status and
detail, with no result, and changes nothing else but the counter of rejections; every other starts and its rules run on it: where they
answer, the command finishes with that answer, and where they wait, the state they leave is the next state. The commands are NOP, CTX_*,
RING_*, REG_*, TH_MAP to TH_STREAM_CLOSE, MT_*, SEQ_*, DT_RELEASE, TV_*, GL_LOAD, ST_MODEL, PB_*, PLAN_*, BU_*, PW_*, ID_*, FB_* and
TL_RETRAIN. -/
def Obligations.RingCommandsRunTheirBodies : Prop :=
  ∀ (s : State) (r : BitVec 14) (d : Desc) (bad : Bool) (meas : BitVec 11),
    ∀ q ∈ ([(Instr.nop r d, 0x0000, true, nopBody), (.ctxOpen r d, 0x0001, true, ctxOpenBody), (.ctxClose r d, 0x0002, true, ctxCloseBody),
      (.ringCreate r d, 0x0003, true, ringCreateBody), (.ringDestroy r d, 0x0004, true, ringDestroyBody),
      (.regRead r d, 0x0010, true, regReadBody), (.regWrite r d, 0x0011, true, regWriteBody),
      (.thMap r d, 0x0101, !hasBit (descWord d 0) 16, thMapEither), (.thUnmap r d, 0x0101, hasBit (descWord d 0) 16, thMapEither),
      (.thStage r d, 0x0102, true, thStageBody), (.thStreamOpen r d, 0x0103, true, thStreamOpenBody),
      (.thStreamClose r d, 0x0104, true, thStreamCloseBody), (.mtFetch r d, 0x0201, true, demandBody),
      (.mtFlush r d, 0x0202, true, demandBody), (.mtPin r d, 0x0203, true, demandBody), (.mtUnpin r d, 0x0204, true, demandBody),
      (.mtDrop r d, 0x0205, true, demandBody), (.seqJoin r d, 0x0301, true, Machine.seqJoin), (.seqAppend r d, 0x0302, true, Machine.seqAppend),
      (.seqReset r d, 0x0303, true, Machine.seqReset), (.seqLeave r d, 0x0304, true, Machine.seqLeave), (.seqQuery r d, 0x0305, true, Machine.seqQuery),
      (.dtRelease r d, 0x0401, true, dtReleaseBody), (.tvRegister r d, 0x0501, true, tvRegisterBody),
      (.tvParam r d, 0x0502, true, tvParamBody), (.glLoad r d, 0x0601, true, glLoadBody), (.stModel r d, 0x0701, true, stModelBody),
      (.pbLoad r d, 0x0801, true, pbLoadBody), (.pbClear r d, 0x0802, true, pbClearBody), (.pbRelease r d, 0x0803, true, pbReleaseBody),
      (.planLoad r d, 0x0901, true, planLoadBody), (.planLoadFill r d, 0x0902, true, planLoadFillBody),
      (.buRestart r d, 0x0A01, true, buRestartBody), (.buResume r d bad, 0x0A02, true, buResumeBody bad),
      (.buRetrain r d, 0x0A03, true, buRetrainBody), (.pwSetCap r d, 0x0B01, true, pwSetCapBody),
      (.pwRestore r d, 0x0B02, true, pwRestoreBody), (.pwSaveClear r d, 0x0B03, true, pwSaveClearBody),
      (.idAttest r d, 0x0C01, true, idAttestBody), (.idCert r d, 0x0C02, true, idCertBody),
      (.idFlashWrite r d, 0x0C03, true, idFlashWriteBody), (.idLog r d, 0x0C04, true, idLogBody),
      (.fbReplay r d, 0x0D01, true, fbReplayBody), (.fbStop r d, 0x0D02, true, fbStopBody),
      (.tlRetrain r d meas, 0x0E01, true, tlRetrainBody meas.toNat)] : List (Instr × Nat × Bool × (State → Cmd → State × Option Reply))),
      let g := s.ring r.toNat
      let c : Cmd := ⟨r.toNat, d, B.DESC_PART.get d.toNat, B.DESC_CONTEXT.get d.toNat⟩
      let may := g.valid = true ∧ g.stopped = false ∧ spGet false s.rings.stalled g.chan = false ∧ s.fenced r.toNat d = false
      (¬(B.DESC_OPCODE.get d.toNat = q.2.1 ∧ q.2.2.1 = true) → exec q.1 s = .next s) ∧
      (¬may → exec q.1 s = .next s) ∧
      (B.DESC_OPCODE.get d.toNat = q.2.1 → q.2.2.1 = true → may →
        (s.takeSlot r.toNat = none → exec q.1 s = .next (s.badDoorbell r.toNat)) ∧
        ∀ v u : State, s.takeSlot r.toNat = some v → u = v.record 0x06 r.toNat (leBytes 64 d.toNat ++ words [r.toNat]) 7 →
          (∀ p, u.descVerdict r.toNat d true q.2.2.2 = some p → exec q.1 s =
            .next ((if (u.descCheck r.toNat d).isSome then u.bump F.BC_COUNTS_REJECTED else u).post r.toNat d ⟨p.status, p.detail, 0, none⟩)) ∧
          (u.descVerdict r.toNat d true q.2.2.2 = none →
            ∀ w : State, w = u.setRing r.toNat { u.ring r.toNat with flying := (u.ring r.toNat).flying + 1 } →
              (∀ x p, q.2.2.2 w c = (x, some p) → exec q.1 s = .next (x.finish r.toNat d p)) ∧
              (∀ x, q.2.2.2 w c = (x, none) → exec q.1 s = .next x)))

/-- The tests of Table BC-3 stand in their order, each with its status and detail, and of several rejections the first of R15 stands (R15, R403, R487).
For every state, ring and descriptor, the descriptor's check answers the first failing test of Table BC-3: BAD_CRC; NO_RING where RING
names another ring; NO_CONTEXT on a context ring whose CONTEXT is not open or does not own it; PARTITION_DENIED where PART is not the
context's partition, or on a management ring the channel lacks PART's right; PARTITION_DENIED 3 where PART lacks the command's right;
LEN_RANGE 0xFFFE for an opcode that is not listed or is of the other kind of ring; LEN_RANGE 0 for an unfit LENGTH; and nothing where
none fails. On a management ring a command that names a context finds NO_CONTEXT where that is not open, and needs its partition. A
listed opcode here is one of Table BC-5 or of its owning chapter, with that table's right. The verdict on a descriptor: none where no
test fails and replay admits it; where a test fails and its own command would be rejected earlier in R15's order (BAD_CRC, NO_RING,
NO_CONTEXT, PARTITION_DENIED, LEN_RANGE, BAD_SIGNATURE, CONFLICT), the command's rejection; else the test's; what only replay bars is
denied with detail 5 unless the command's own rejection comes earlier. -/
def Obligations.DescriptorsFailTheirFirstTest : Prop :=
  ∀ (s : State) (r : Nat) (d : Desc),
    let g := s.ring r
    let ctx := B.DESC_CONTEXT.get d.toNat
    let part := B.DESC_PART.get d.toNat
    let op := B.DESC_OPCODE.get d.toNat
    let len := descWord d 3
    let mgmt := r < 2
    let names := 2 ≤ op ∧ op ≤ 4
    let crc := crc32c (leBytes 60 d.toNat) = B.DESC_CRC.get d.toNat
    let ring := B.DESC_RING.get d.toNat = r
    let open' := if mgmt then ¬names ∨ s.ctxPart ctx ≠ none else s.ctxPart ctx ≠ none ∧ g.ctx = ctx
    let mine := if mgmt then hasBit (s.fld F.BC_RIGHTS_CHANNELS part) g.chan = true else s.ctxPart ctx = some part
    (¬crc → s.descCheck r d = some (6, 0)) ∧ (crc → ¬ring → s.descCheck r d = some (3, 0)) ∧
    (crc → ring → ¬open' → s.descCheck r d = some (2, 0)) ∧ (crc → ring → open' → ¬mine → s.descCheck r d = some (4, 0)) ∧
    (crc → ring → open' → mine →
      (opRow op = none → s.descCheck r d = some (1, 0xFFFE)) ∧
      ∀ row, opRow op = some row →
        (¬(hasBit row.right part = true ∧ (mgmt → names → s.ctxPart ctx = some part)) → s.descCheck r d = some (4, 3)) ∧
        (hasBit row.right part = true → (mgmt → names → s.ctxPart ctx = some part) →
          (¬(mgmt ↔ op < 0x100) → s.descCheck r d = some (1, 0xFFFE)) ∧
          ((mgmt ↔ op < 0x100) → ¬(row.lo ≤ len ∧ len ≤ row.hi ∧ len % row.step = 0) → s.descCheck r d = some (1, 0)) ∧
          ((mgmt ↔ op < 0x100) → row.lo ≤ len → len ≤ row.hi → len % row.step = 0 → s.descCheck r d = none))) ∧
    ∀ (host : Bool) (body : State → Cmd → State × Option Reply),
      let place (st : Nat) := [6, 3, 2, 4, 1, 5, 7].findIdx? fun x => x == st
      let barred := host = true ∧ s.flag F.FB_STATUS_REPLAYING = true ∧ op ∉ [0x0010, 0x0C01, 0x0C04, 0x0D02]
      let own := (body s ⟨r, d, part, ctx⟩).2
      (s.descCheck r d = none → ¬barred → s.descVerdict r d host body = none) ∧
      ∀ f : Reply, ((∃ st det, s.descCheck r d = some (st, det) ∧ f = ⟨st, det, 0, none⟩ ∧ ¬barred) ∨
          (s.descCheck r d = none ∧ barred ∧ f = denied 5)) →
        (∀ q x y, own = some q → place q.status = some x → place f.status = some y → x < y → s.descVerdict r d host body = some q) ∧
        ((∀ q x y, own = some q → place q.status = some x → place f.status = some y → y ≤ x) → s.descVerdict r d host body = some f)

/-- A completion is written whole into its slot with the fields of Table BC-4; CQ_TAIL advances; a ring with ATTN sets COMPLETION (R410, R412).
In a state with canonical stores, posting an answer to an existing ring whose next completion slot and status block stand in window
SRAM, apart from each other, leaves in the 32 bytes of slot CQ_TAIL the record of Table BC-4: TAG, STATUS, DETAIL, FRAME and EPOCH as
the frame number, DOMAIN and STAMP (BCLK's where the command states none), the phase of the pass with the reserved bits 0, RESULT, and
the CRC over bytes 0 to 27. CQ_TAIL has advanced by one modulo 65,536, the status block shows it, COMPLETED is counted, and
TH_ATTN.COMPLETION is set where the ring's ATTN is. No byte outside the slot and the status block changes. -/
def Obligations.CompletionsArePosted : Prop :=
  ∀ (s : State) (r : Nat) (d : Desc) (p : Reply) (a b : Nat), s.canonical → (s.ring r).valid = true → (s.ring r).cqTail < 65536 → (s.ring r).sqHead < 65536 →
    s.backed (s.ring r).chan ((s.ring r).cplSlot (s.ring r).cqTail) = some a → s.backed (s.ring r).chan (s.ring r).off = some b →
    (a + 32 ≤ b ∨ b + 64 ≤ a) → p.status < 65536 → (∀ x ∈ p.stamp, x.1 < 256) →
    let t := s.post r d p
    t.rdLe a 4 = descWord d 2 ∧ t.rdLe (a + 4) 2 = p.status ∧ t.rdLe (a + 6) 2 = p.detail % 65536 ∧ t.rdLe (a + 8) 6 = s.frameNum ∧
    t.rdLe (a + 14) 1 = (p.stamp.getD (7, s.clk.bclk)).1 ∧ t.rdLe (a + 15) 1 = ((s.ring r).cqTail / (s.ring r).size + 1) % 2 ∧
    t.rdLe (a + 16) 8 = (p.stamp.getD (7, s.clk.bclk)).2 % 2 ^ 64 ∧ t.rdLe (a + 24) 4 = p.result % 2 ^ 32 ∧
    t.rdLe (a + 28) 4 = crc32c (t.rdBytes a 28) ∧
    (t.ring r).cqTail = ((s.ring r).cqTail + 1) % 65536 ∧ t.rdLe (b + 2) 2 = ((s.ring r).cqTail + 1) % 65536 ∧
    t.fld F.BC_COUNTS_COMPLETED = min (2 ^ 32 - 1) (s.fld F.BC_COUNTS_COMPLETED + 1) ∧
    ((s.ring r).attn = true → t.fld F.TH_ATTN_COMPLETION = 1) ∧
    ∀ x, (x < a ∨ a + 32 ≤ x) → (x < b ∨ b + 64 ≤ x) → t.rdByte x = s.rdByte x

/-- What NOP, CTX_OPEN, CTX_CLOSE, RING_CREATE, RING_DESTROY, REG_READ and REG_WRITE do once started (R408, R414, R415, R416).
In a state with canonical stores: NOP answers OK and changes nothing. CTX_OPEN takes the lowest free context for the descriptor's
partition, answers its number and counts it, or NO_CONTEXT where all are open (1) or the partition holds its maximum (2). RING_CREATE of
an area whose blocks are mapped for its partition and context takes the lowest free ring from 2, with all counts 0, and answers its
number. RING_DESTROY refuses rings 0 and 1 and a ring that the context does not own. CTX_CLOSE and RING_DESTROY with commands still
started wait. REG_READ without exchange blocks of its context is denied, past the block's registers answers LEN_RANGE 1, and else writes
the values read to window SRAM; REG_WRITE without the right of Table BC-7 is refused with detail 3 and counted as rejected; with it, the
register is written by its access codes, or a condition write is on its way. -/
def Obligations.ManagementCommandsAct : Prop :=
  ∀ (s : State) (c : Cmd), s.canonical →
    nopBody s c = (s, some Reply.ok) ∧
    (∀ i, i < 4096 → s.ctxPart i = none → (∀ j, j < i → s.ctxPart j ≠ none) →
      (s.rings.contexts.countP (fun x => x.2 == c.part + 1) < s.fld F.BC_RIGHTS_MAX_CONTEXTS c.part → s.fld F.BC_STATUS_CONTEXTS < 4096 →
        ∃ t, ctxOpenBody s c = (t, some ⟨0, 0, i, none⟩) ∧ t.ctxPart i = some c.part ∧ (∀ j, j ≠ i → t.ctxPart j = s.ctxPart j) ∧
          t.fld F.BC_STATUS_CONTEXTS = s.fld F.BC_STATUS_CONTEXTS + 1 ∧ t.rings.table = s.rings.table ∧ t.mem = s.mem) ∧
      (s.fld F.BC_RIGHTS_MAX_CONTEXTS c.part ≤ s.rings.contexts.countP (fun x => x.2 == c.part + 1) →
        ctxOpenBody s c = (s, some ⟨2, 2, 0, none⟩))) ∧
    ((∀ i, i < 4096 → s.ctxPart i ≠ none) → ctxOpenBody s c = (s, some ⟨2, 1, 0, none⟩)) ∧
    (∀ r l, 2 ≤ r → r < 16384 → (s.ring r).valid = false → (∀ j, 2 ≤ j → j < r → (s.ring j).valid = true) → s.ctxClosing c.ctx = false →
      l = c.w 5 % 16 → 4 ≤ l → l ≤ 10 → c.w 4 % 1024 = 0 → 0x10000 ≤ c.w 4 → c.w 4 + 64 + 96 * 2 ^ l ≤ 0x1000000 →
      (∀ k ∈ ringBlocks (c.w 4) l, F.TH_WMAP_VALID.get (s.wmap (s.ring c.ring).chan k) = 1) →
      s.ringClash (s.ring c.ring).chan (c.w 4) l c.part = false → s.fld F.BC_STATUS_RINGS < 16384 →
      ∃ t, ringCreateBody s c = (t, some ⟨0, 0, r, none⟩) ∧ t.ring r = ⟨true, (s.ring c.ring).chan, c.w 4, l, hasBit (c.w 5) 8, c.part, c.ctx,
          0, 0, 0, 0, 0, 0, false⟩ ∧ (∀ j, j ≠ r → t.ring j = s.ring j) ∧
        t.fld F.BC_STATUS_RINGS = s.fld F.BC_STATUS_RINGS + 1) ∧
    (c.w 4 % 2 ^ 14 < 2 → ringDestroyBody s c = (s, some (denied 0))) ∧
    (2 ≤ c.w 4 % 2 ^ 14 → ((s.ring (c.w 4 % 2 ^ 14)).valid = false ∨ (s.ring (c.w 4 % 2 ^ 14)).ctx ≠ c.ctx ∨ (s.ring (c.w 4 % 2 ^ 14)).stopped = true) →
      ringDestroyBody s c = (s, some ⟨3, 0, 0, none⟩)) ∧
    (∀ r, r = c.w 4 % 2 ^ 14 → 2 ≤ r → (s.ring r).valid = true → (s.ring r).ctx = c.ctx → (s.ring r).stopped = false → 0 < (s.ring r).flying →
      ringDestroyBody s c = ({ s.setRing r { s.ring r with stopped := true } with rings := { (s.setRing r { s.ring r with stopped := true }).rings
        with closing := s.rings.closing ++ [⟨c.ring, c.d, c.ctx, some r⟩] } }, none)) ∧
    (s.ctxClosing c.ctx = true → ctxCloseBody s c = (s, some ⟨2, 0, 0, none⟩)) ∧
    ((s.ctxPart c.ctx ≠ some c.part ∨ s.exchange c.ctx (c.w64 6) c.len = false) → regReadBody s c = (s, some (denied 4))) ∧
    (s.ctxPart c.ctx = some c.part → s.exchange c.ctx (c.w64 6) c.len = true →
      ((∃ k, k < c.len / 8 ∧ unitReg (c.w 4 % 256) (c.w 5 % 2 ^ 24 + 8 * k) = none) →
        regReadBody s c = (s, some (lenRange 1))) ∧
      (∀ r i, c.len = 8 → unitReg (c.w 4 % 256) (c.w 5 % 2 ^ 24) = some (r, i) →
        regReadBody s c = ((s.viewReg r i).2.wrMarked (c.w64 6) (leBytes 8 (s.viewReg r i).1.toNat) false,
          some ⟨0, 0, 0, some (regDomain (c.w 4 % 256) (c.w 5 % 2 ^ 24), s.clockOf (regDomain (c.w 4 % 256) (c.w 5 % 2 ^ 24)))⟩))) ∧
    (unitReg (c.w 4 % 256) (c.w 5 % 2 ^ 24) = none → regWriteBody s c = (s.bump F.BC_COUNTS_REJECTED, some (denied 3))) ∧
    (∀ r i v, unitReg (c.w 4 % 256) (c.w 5 % 2 ^ 24) = some (r, i) → v = BitVec.ofNat 64 (c.w64 6) →
      (s.writeRight c.part r i v = false → ∃ t, regWriteBody s c = (t, some (denied 3)) ∧
        t.fld F.BC_COUNTS_REJECTED = min 65535 (s.fld F.BC_COUNTS_REJECTED + 1) ∧ t.mem = s.mem ∧
        ∀ (r' : RegArr) (j : Nat), R.BC_COUNTS.key 0 ≠ r'.key j → t.reg r' j = s.reg r' j) ∧
      (s.writeRight c.part r i v = true → c.len = 0 → r ∈ [R.PL_ENG_STATUS, R.PL_VEC_STATUS, R.PL_IMG_STATUS, R.MT_STATUS, R.DR_STATUS,
          R.SP_FRAME_STATUS, R.ST_STATUS] →
        regWriteBody s c = (s.writeReg r i v, some ⟨0, 0, 0, some (regDomain (c.w 4 % 256) (c.w 5 % 2 ^ 24),
          (s.writeReg r i v).clockOf (regDomain (c.w 4 % 256) (c.w 5 % 2 ^ 24)))⟩)) ∧
      (s.writeRight c.part r i v = true → c.len = 0 → r = R.PL_COND →
        (s.condBound i = true → regWriteBody s c = (s, some (conflict 0))) ∧
        (s.condBound i = false → regWriteBody s c = ({ s with ridge := { s.ridge with
          condPend := s.ridge.condPend ++ [⟨i, v.toNat % 2 ^ 32, some (c.ring, c.d)⟩] } }, none))))

/-- A doorbell moves its ring's count or is counted; a fetch takes the next ring of the first band; BC_RING_SEL shows a ring (R397, R399, R401, R403, R418).
In a powered state with canonical stores: a doorbell of the ring's own channel within R397 sets TAIL, or with bit 14 CQ_HEAD, and shows
it in the status block; any other is counted in BAD_DOORBELL; a masked one changes nothing. DESCRIPTOR_FETCH with no ring ready changes
nothing; else it serves a ready ring of the first band while there is one, by ascending ID after the one served last, takes the
descriptor in slot SQ_HEAD and rejects it or runs the command of its opcode. A write to BC_RING_SEL shows the ring's channel, size,
owner, offset and outstanding descriptors in BC_RING_INFO, and 0 for a ring that does not exist; no other register changes. -/
def Obligations.FetchServesTheBandsInTurn : Prop :=
  ∀ s : State, s.canonical → s.isOff = false →
    (∀ (ch : HostChan) (v : DWord) (r n : Nat), r = v.toNat % 2 ^ 14 → n = v.toNat / 2 ^ 16 % 2 ^ 16 →
      exec (.doorbell ch v true) s = .next s ∧
      ((s.ring r).valid = true → (s.ring r).chan = ch.val → spGet false s.rings.stalled ch.val = false →
        ((s.ring r).tailOk n = true → v.getLsbD 14 = false → ∃ t, exec (.doorbell ch v false) s = .next t ∧
          t.ring r = { s.ring r with tail := n } ∧ (∀ j, j ≠ r → t.ring j = s.ring j) ∧ t.regs = s.regs) ∧
        ((s.ring r).headOk n = true → v.getLsbD 14 = true → ∃ t, exec (.doorbell ch v false) s = .next t ∧
          t.ring r = { s.ring r with cqHead := n } ∧ (∀ j, j ≠ r → t.ring j = s.ring j) ∧ t.regs = s.regs) ∧
        ((if v.getLsbD 14 then (s.ring r).headOk n else (s.ring r).tailOk n) = false → ∃ t, exec (.doorbell ch v false) s = .next t ∧
          t.fld F.BC_COUNTS_BAD_DOORBELL = min 65535 (s.fld F.BC_COUNTS_BAD_DOORBELL + 1) ∧
          t.ring r = { s.ring r with bad := min 65535 ((s.ring r).bad + 1) })) ∧
      (((s.ring r).valid = false ∨ (s.ring r).chan ≠ ch.val) →
        exec (.doorbell ch v false) s = .next (s.bump F.BC_COUNTS_BAD_DOORBELL))) ∧
    (s.dark = false → ∀ (meas : BitVec 11) (bad : Bool),
      ((∀ e ∈ s.rings.table, s.ringReady e.1 = false) → exec (.descriptorFetch meas bad) s = .next s) ∧
      (∀ r, s.ringReady r = true → r < 2 ∨ (s.ring r).part < 2 → spGet 0 s.rings.lastBand 0 < r → r ∈ s.rings.table.map (fun e => e.1) →
        s.rings.table.Pairwise (fun x y => x.1 < y.1) →
        (∀ e ∈ s.rings.table, spGet 0 s.rings.lastBand 0 < e.1 → e.1 < r → (e.1 < 2 ∨ (s.ring e.1).part < 2) → s.ringReady e.1 = false) →
        ∀ (d : Desc) (u v : State), d = s.slotDesc r (s.ring r).sqHead →
          u = { s with rings := { s.rings with lastBand := spSet 0 s.rings.lastBand 0 r } } → u.takeSlot r = some v →
          exec (.descriptorFetch meas bad) s = .next ((v.record 0x06 r (leBytes 64 d.toNat ++ words [r]) 7).startDesc r d true
            (opBody meas.toNat bad (B.DESC_OPCODE.get d.toNat))))) ∧
    (s.dark = false → ∀ (r : BitVec 14) (g : Ring), g = s.ring r.toNat →
      (g.valid = false → ∃ t, exec (.bcRingSelWrite r) s = .next t ∧ t.reg R.BC_RING_INFO = 0 ∧
        ∀ (q : RegArr) (j : Nat), R.BC_RING_INFO.key 0 ≠ q.key j → t.reg q j = s.reg q j) ∧
      (g.valid = true → g.chan < 2 → g.l < 16 → g.part < 8 → g.ctx < 4096 → g.off < 2 ^ 24 → g.cqHead ≤ 65535 → g.tail ≤ 65535 →
        ∃ t, exec (.bcRingSelWrite r) s = .next t ∧ t.mem = s.mem ∧ t.rings = s.rings ∧ t.fld F.BC_RING_INFO_VALID = 1 ∧
          t.fld F.BC_RING_INFO_CHANNEL = g.chan ∧ t.fld F.BC_RING_INFO_ATTN = bit g.attn ∧ t.fld F.BC_RING_INFO_LOG_SIZE = g.l ∧
          t.fld F.BC_RING_INFO_PART = g.part ∧ t.fld F.BC_RING_INFO_CONTEXT = g.ctx ∧ t.fld F.BC_RING_INFO_OFFSET = g.off ∧
          t.fld F.BC_RING_INFO_OUTSTANDING = (g.tail + 65536 - g.cqHead) % 65536 ∧
          ∀ (q : RegArr) (j : Nat), R.BC_RING_INFO.key 0 ≠ q.key j → t.reg q j = s.reg q j))

/-- Estimates, measurements, calibration, throttle holds, control ticks, shutdown, sag, save and restore act as due and within their bounds (R441, R442, R443, R444, R446, R447, R449, R451, R452, R454, R455, R459).
For canonical stores: POWER_ESTIMATE adds one to the count, spends the activity counted since the last one and splits the input power
into protected, fill and leakage (the leakage in neither share: the model's choice, entry 21). RAIL_MEASUREMENT adds the rail's power to
the tick's reports and remembers a current limit. CALIBRATION_UPDATE waits its 100 ms; then every gain stays within its bounds, and
CALIB_OK stands exactly where every error is at most 5 percent. A THROTTLE_HOLD_REQUEST that is due raises a hold of 1,250 cycles and
counts each reason; DROOP sets its reason and asks at once, and then each 1,000 cycles. CONTROL_TICK waits its 10,000 cycles; then MEAS
shows the average of the reports, the duty is at most 10 and is the number of holds of the tick, 10 where the input passes 270 W or a
rail limited, trim stays within 32 W, and a new cap takes effect. PW_LEARN_SEL_WRITE shows a learned entry. THERMAL_SHUTDOWN: at 115
degrees with the rails on, the lines drop. HOLDUP_READY shows the bank. VIN_SAG long enough before S7 ends bring-up, from S7 on it
starts the save where SAVE_EN is set. SAVE_COMPLETE makes its slot valid. PW_SET_CAP is refused out of range or below the floor;
PW_RESTORE outside its time, with no record, or for another configuration; PW_SAVE_CLEAR empties both slots. The rounding of shown
values is open (entry 21). -/
def Obligations.PowerManagerActsAtItsTicks : Prop :=
  (∀ (s u : State) (dt : Nat), s.dark = false → s.canonical → u = s.tickF dt →
    (∀ prot fill, ∃ t, exec (.powerEstimate prot fill dt) s = .next t ∧ t.mem = s.mem ∧ t.regs = s.regs ∧ t.clk = u.clk ∧
      t.power.count = s.power.count + 1 ∧ t.power.activity = [] ∧
      t.power.sumProt = s.power.sumProt + (s.railEstimates true).sum * s.railGain 0 ∧
      t.power.sumFill = s.power.sumFill + (s.railEstimates false).sum * s.railGain 0 ∧
      t.power.sumIn - s.power.sumIn = (t.power.sumProt - s.power.sumProt) + (t.power.sumFill - s.power.sumFill) +
        s.railLeakage.sum * s.railGain 0) ∧
    (∀ (r : Fin 8) (mV mA : Nat) (limit : Bool), ∃ t, exec (.railMeasurement r mV mA limit) s = .next t ∧ t.mem = s.mem ∧
      t.fld F.PW_RAIL_MEAS r.val = s.fld F.PW_RAIL_MEAS r.val ∧ t.power.limit = (s.power.limit || limit) ∧
      spGet 0 t.power.measSum r.val = spGet 0 s.power.measSum r.val + (mV * mA : Nat) / 1000 ∧
      spGet 0 t.power.measNum r.val = spGet 0 s.power.measNum r.val + 1 ∧
      (r.val ≠ 0 → t.fld F.PW_STATUS_VIN = s.fld F.PW_STATUS_VIN) ∧
      (r.val = 0 → mV % 10 = 0 → t.fld F.PW_STATUS_VIN = min 8191 (mV / 10))) ∧
    (u.clk.fclk < s.power.calAt + 100000000 → exec (.calibrationUpdate dt) s = .next u) ∧
    (s.power.calAt + 100000000 ≤ u.clk.fclk → ∃ t, exec (.calibrationUpdate dt) s = .next t ∧ t.mem = s.mem ∧
      t.power.measured = [] ∧ t.power.estimated = [] ∧ t.power.calAt = s.power.calAt + 100000000 ∧
      (∀ r < 8, 0x2000 ≤ t.fld F.PW_CALIB_GAIN r ∧ t.fld F.PW_CALIB_GAIN r ≤ 0x8000) ∧
      (t.flag F.PW_STATUS_CALIB_OK = true ↔ ∀ r < 8, -50 ≤ asSigned 16 (t.fld F.PW_CALIB_ERR r) ∧ asSigned 16 (t.fld F.PW_CALIB_ERR r) ≤ 50)) ∧
    ((∀ h rest, s.power.holds = h :: rest → u.clk.fclk < h) → exec (.throttleHoldRequest dt) s = .next u) ∧
    (∀ h rest, s.power.holds = h :: rest → h ≤ u.clk.fclk → ∃ t, exec (.throttleHoldRequest dt) s = .next t ∧ t.mem = s.mem ∧
      t.power.holds = rest ∧ t.ridge.hold.isSome ∧
      (s.ridge.hold = none → t.ridge.hold.map (fun h => h.causes) = some [⟨4, s.clk.aclk, some (s.clk.aclk + 1250)⟩] ∧
        t.fld F.PL_STATUS_HOLDING = 1) ∧
      ∀ k < 5, t.fld F.PW_THR_TIME_CYCLES k = (if hasBit (s.fld F.PW_STATUS_REASONS) k then (s.fld F.PW_THR_TIME_CYCLES k + 1000) % 2 ^ 64
        else s.fld F.PW_THR_TIME_CYCLES k)) ∧
    (∀ mV : Nat, (700 ≤ mV → exec (.droop mV dt) s = .next { u with power := { u.power with droop := none } }) ∧
      (mV < 700 → (∀ d, s.power.droop = some d → d + 1000 ≤ u.clk.fclk) → ∃ t, exec (.droop mV dt) s = .next t ∧ t.mem = s.mem ∧
        hasBit (t.fld F.PW_STATUS_REASONS) 2 = true ∧ t.power.droop = some u.clk.fclk ∧ t.ridge.hold.isSome) ∧
      (∀ d, mV < 700 → s.power.droop = some d → u.clk.fclk < d + 1000 → ∃ t, exec (.droop mV dt) s = .next t ∧ t.mem = s.mem ∧
        hasBit (t.fld F.PW_STATUS_REASONS) 2 = true ∧ t.power = s.power ∧ t.ridge = s.ridge)) ∧
    (∀ temp : Byte, (u.clk.fclk < s.power.tickAt + 10000 → exec (.controlTick temp dt) s = .next u) ∧
      (s.power.tickAt + 10000 ≤ u.clk.fclk → s.power.thermal ≤ 10 → ∃ t, exec (.controlTick temp dt) s = .next t ∧ t.mem = s.mem ∧
        t.fld F.PW_STATUS_DIE_TEMP = temp.toNat ∧ t.power.tickAt = s.power.tickAt + 10000 ∧ t.power.count = 0 ∧ t.power.limit = false ∧
        t.power.thermal ≤ 10 ∧ t.fld F.PW_STATUS_DUTY ≤ 10 ∧ t.power.holds.length = t.fld F.PW_STATUS_DUTY ∧
        (∀ h ∈ t.power.holds, t.power.tickAt ≤ h ∧ h < t.power.tickAt + 10000) ∧ -32000 ≤ t.power.trim ∧ t.power.trim ≤ 32000 ∧
        (∀ r < 8, (spGet 0 s.power.measNum r = 0 → t.fld F.PW_RAIL_MEAS r = s.fld F.PW_RAIL_MEAS r) ∧
          ∀ n : Nat, spGet 0 s.power.measNum r ≠ 0 → spGet 0 s.power.measSum r = (n * spGet 0 s.power.measNum r : Nat) →
            t.fld F.PW_RAIL_MEAS r = min (2 ^ 32 - 1) n) ∧
        (270000 < t.fld F.PW_RAIL_MEAS 0 ∨ s.power.limit = true → t.fld F.PW_STATUS_DUTY = 10) ∧
        hasBit (t.fld F.PW_STATUS_REASONS) 1 = (t.tooHot || decide (0 < t.power.thermal)) ∧
        hasBit (t.fld F.PW_STATUS_REASONS) 3 = decide (270000 < t.fld F.PW_RAIL_MEAS 0) ∧
        hasBit (t.fld F.PW_STATUS_REASONS) 4 = s.power.limit ∧ t.power.capNext = none ∧
        t.fld F.PW_CAP_CAP = (match s.power.capNext with | some c => c % 4096 | none => s.fld F.PW_CAP_CAP))) ∧
    (∀ phase : Byte, ∃ t, exec (.pwLearnSelWrite phase) s = .next t ∧ t.mem = s.mem ∧ t.power = s.power ∧
      t.fld F.PW_LEARN_TICKS = spGet 0 s.power.ticks phase.toNat % 65536 ∧
      ∀ n : Nat, (spGet 0 s.power.learnedProt phase.toNat = 100 * (n : Rat) → t.fld F.PW_LEARN_PROT = min 65535 n) ∧
        (spGet 0 s.power.learnedFill phase.toNat = 100 * (n : Rat) → t.fld F.PW_LEARN_FILL = min 65535 n))) ∧
  (∀ (s u : State) (temp : Byte), u = s.setFld F.PW_STATUS_DIE_TEMP 0 temp.toNat →
    ((asSigned 8 temp.toNat < 115 ∨ s.power.supply ≠ .on) → exec (.thermalShutdown temp) s = .next u) ∧
    (115 ≤ asSigned 8 temp.toNat → s.power.supply = .on → ∃ t, exec (.thermalShutdown temp) s = .next t ∧ t.linesOff ∧
      t = ({ u with power := { u.power with supply := .hot } }.coreOff.assertStop.latchClass 2 3))) ∧
  (∀ s : State, s.isOff = false → s.canonical →
    (∀ v : BitVec 9, ∃ t, exec (.holdupReady v) s = .next t ∧ t.mem = s.mem ∧ t.fld F.PW_STATUS_VBANK = v.toNat ∧
      t.fld F.PW_STATUS_HOLDUP_READY = bit (decide (400 ≤ v.toNat))) ∧
    (∀ (vin : BitVec 13) (us : Nat) (u : State), u = s.setFld F.PW_STATUS_VIN 0 vin.toNat →
      ((10 * s.fld F.PW_CFG_VIN_SAG ≤ vin.toNat ∨ us < s.fld F.PW_CFG_SAG_TIME) → exec (.vinSag vin us) s = .next u) ∧
      (vin.toNat < 10 * s.fld F.PW_CFG_VIN_SAG → s.fld F.PW_CFG_SAG_TIME ≤ us →
        (s.done < 7 → exec (.vinSag vin us) s = .next { u with bring := { u.bring with ended := true } }) ∧
        (7 ≤ s.done → s.flag F.PW_CFG_SAVE_EN = true → s.flag F.PW_STATUS_SAVING = false → s.flag F.PW_STATUS_SAVED = false →
          s.power.supply = .on → ∃ t, exec (.vinSag vin us) s = .next t ∧ t = u.startSave ∧ t.linesOff) ∧
        (7 ≤ s.done → (s.flag F.PW_CFG_SAVE_EN = false ∨ s.flag F.PW_STATUS_SAVING = true ∨ s.flag F.PW_STATUS_SAVED = true ∨
          s.power.supply ≠ .on) → exec (.vinSag vin us) s = .next u)))) ∧
  (∀ s : State, (s.power.saving = none → exec .saveComplete s = .next s) ∧
    (∀ k r, s.power.saving = some (k, r) → s.canonical → ∃ t, exec .saveComplete s = .next t ∧ t.mem = s.mem ∧
      t.power.slots = s.power.slots ++ [(k, r)] ∧ t.power.saving = none ∧ t.fld F.PW_STATUS_SAVING = 0 ∧ t.fld F.PW_STATUS_SAVED = 1)) ∧
  (∀ (s : State) (c : Cmd) (cap : Nat), cap = c.w 4 % 4096 →
    (cap < 600 ∨ 2700 < cap → pwSetCapBody s c = (s, some (lenRange 1))) ∧
    (600 ≤ cap → cap ≤ 2700 → (cap < s.fld F.PW_CAP_FLOOR → pwSetCapBody s c = (s, some ⟨1, 2, s.fld F.PW_CAP_FLOOR, none⟩)) ∧
      (s.fld F.PW_CAP_FLOOR ≤ cap → pwSetCapBody s c = ({ s with power := { s.power with capNext := some cap } }, some Reply.ok))) ∧
    ((s.betweenCommitAndReady = false ∨ s.flag F.PW_SAVE_RESTORED = true) → pwRestoreBody s c = (s, some (denied 1))) ∧
    (s.betweenCommitAndReady = true → s.flag F.PW_SAVE_RESTORED = false →
      (s.power.newest = none → pwRestoreBody s c = (s, some (lenRange 1))) ∧
      (∀ k r, s.power.newest = some (k, r) →
        (r.digest ≠ digest s.bring.config → pwRestoreBody s c = (s, some (conflict 1))) ∧
        (r.digest = digest s.bring.config → (∃ x ∈ r.lots, (s.lot x.1).save = false) → pwRestoreBody s c = (s, some (conflict 2))) ∧
        (r.digest = digest s.bring.config → (∀ x ∈ r.lots, (s.lot x.1).save = true) → s.canonical →
          ∃ t, pwRestoreBody s c = (t, some ⟨0, 0, r.lots.length, none⟩) ∧ t.fld F.PW_SAVE_RESTORED = 1 ∧
            (r.lots = [] → t.mem = s.mem)))) ∧
    (s.canonical → ∃ t, pwSaveClearBody s c = (t, some Reply.ok) ∧ t.mem = s.mem ∧ t.power.slots = [] ∧ t.fld F.PW_SAVE_VALID0 = 0 ∧
      t.fld F.PW_SAVE_VALID1 = 0))

/-- Flash is programmed whole, records are released, staged and written or lost, a replay applies each in its time, and fault counts leak (R464, R473, R476, R479, R480, R482, R483, R486, R488, R490, R492, R494).
With power: FLASH_PROGRAM_COMPLETE leaves the image and then erased bytes in its area, changes nothing outside it, and completes the
command. FB_RECORD_RELEASE: the merge releases its first record 20,000 cycles after its ACYC into the staging buffer, or loses and
counts it; then a staged record waits until every channel on which it lands serves Field Book, and is written with the next RECNO, whole
lines at a time. REPLAY_RECORD_APPLY waits for the next record's ACYC, ends with reason 0 at the recording's end, with 4 at a record cut
short or with a bad CRC, and with 1 at a GAP; a recorded host write lands its bytes and no others. FAULT_LEAK: a count has lost one for
each WINDOW that has passed since its last change, and never falls below 0. FB_FAULT_SEL_WRITE shows the selected site with its leaks in
FB_FAULT_INFO, or zero for a place that is none. FB_REPLAY and ID_ATTEST are refused in the order of their tests. The layout of payloads
is the model's (entry 5). -/
def Obligations.RecordsAreKeptAndReplayed : Prop :=
  (∀ s : State, s.dark = false →
    (s.ident.program = [] → exec .flashProgramComplete s = .next s) ∧
    (∀ j rest base size, s.ident.program = j :: rest → s.flashArea j.area = (base, size) → s.canonical → spWf 0xFF s.ident.flash = true →
      ∃ u : State, exec .flashProgramComplete s = .next (u.finish j.ring j.desc Reply.ok) ∧ u.mem = s.mem ∧ u.ident.program = rest ∧
        u.fld F.ID_STATUS_FLASH_BUSY = bit (!rest.isEmpty) ∧
        (j.bytes.length + 64 ≤ size → (∀ a, (a < base ∨ base + size ≤ a) → spGet 0xFF u.ident.flash a = spGet 0xFF s.ident.flash a) ∧
          (j.area ≠ 0 → ∀ k < size, spGet 0xFF u.ident.flash (base + k) = j.bytes.getD k 0xFF) ∧
          (j.area = 0 → ∀ k < size - 64, spGet 0xFF u.ident.flash (base + 64 + k) = j.bytes.getD k 0xFF)))) ∧
  (∀ (s u : State) (dt : Nat), s.dark = false → u = s.tickA dt → u.canonical →
    (∃ w : State, exec (.fbRecordRelease dt) s = .next (w.queueOpens.flushBook w.book.staging.length).bookUrgency ∧ w.mem = u.mem ∧
      ((∀ r rest, u.book.merge = r :: rest → u.acyc < r.acyc + 20000) → w = u) ∧
      ∀ r rest ps, u.book.merge = r :: rest → r.acyc + 20000 ≤ u.acyc →
        ps = pieces (r.payload.length / maxPiece + 1) r false r.payload → w.book.merge = rest ∧
        (u.stagedBytes + (ps.map stagedSize).sum ≤ 524288 → w.book.staging = u.book.staging ++ ps ∧ w.book.lost = u.book.lost) ∧
        (524288 < u.stagedBytes + (ps.map stagedSize).sum → w.book.staging = u.book.staging ∧ w.book.lost = u.book.lost + 1 ∧
          w.fld F.FB_COUNTS_LOST = min (2 ^ 32 - 1) (u.fld F.FB_COUNTS_LOST + 1) ∧ w.fld F.FB_STATUS_GAP = 1)) ∧
    (∀ (n : Nat) (raw : List Byte) (rest : List (List Byte)), u.book.staging = raw :: rest → u.sampleGone raw = false →
      (u.bookOpen (raw.length + (if u.book.lost = 0 then 0 else 64)) = false → u.flushBook (n + 1) = u) ∧
      (u.bookOpen raw.length = true → u.book.lost = 0 → 32 ≤ raw.length → raw.length % 32 = 0 →
        u.book.lens.sum + raw.length / 32 ≤ u.bookUnits →
        ∃ v : State, u.flushBook (n + 1) = v.flushBook n ∧ v.book.staging = rest ∧ v.book.lens = u.book.lens ++ [raw.length / 32] ∧
          v.book.half = (u.book.half ++ sealRecord (u.fld F.FB_HEAD_RECNO) raw).drop ((u.book.half.length + raw.length) / 64 * 64) ∧
          v.fld F.FB_HEAD_RECNO = (u.fld F.FB_HEAD_RECNO + 1) % 2 ^ 64)) ∧
    (u.book.replay = none → exec (.replayRecordApply dt) s = .next u) ∧
    (∀ r, u.book.replay = some r →
      (u.nextHead r = none → exec (.replayRecordApply dt) s = .next (u.replayEnd 0)) ∧
      (∀ h, u.nextHead r = some h → r.acyc < B.FBR_ACYC.get h → exec (.replayRecordApply dt) s = .next u) ∧
      (∀ h n bs good, u.nextHead r = some h → B.FBR_ACYC.get h ≤ r.acyc → n = 32 * B.FBR_LEN.get h → bs = u.rdBytes (r.base + r.pos) n →
        good = (n ≠ 0 ∧ r.pos + n ≤ r.len ∧
          crc32c (leBytes 32 (h - B.FBR_CRC.put (B.FBR_CRC.get h)) ++ bs.drop 32) = B.FBR_CRC.get h) →
        (¬ good → exec (.replayRecordApply dt) s = .next ((u.replayMove 0 (B.FBR_RECNO.get h) []).replayEnd 4)) ∧
        (good → B.FBR_KIND.get h = 0x16 → exec (.replayRecordApply dt) s = .next ((u.replayMove 0 (B.FBR_RECNO.get h) []).replayEnd 1)) ∧
        (good → B.FBR_KIND.get h = 0x07 → B.FBR_CONT.get h = 0 → B.FBR_MORE.get h = 0 → 80 ≤ bs.length →
          ∃ v : State, exec (.replayRecordApply dt) s = .next v.replayGo ∧
            v.book.replay = some { r with pos := r.pos + n, recno := B.FBR_RECNO.get h, part := [] } ∧
            (∀ j < 32, v.rdByte (payWord (bs.drop 32) 0 + j) = (bs.drop 48).getD j 0) ∧
            ∀ y, (y < payWord (bs.drop 32) 0 ∨ payWord (bs.drop 32) 0 + 32 ≤ y) → v.rdByte y = u.rdByte y)) ∧
      (∀ why : Nat, ∃ v : State, u.replayEnd why = v.finish r.ring r.desc ⟨0, why, r.recno % 2 ^ 32, none⟩ ∧ v.mem = u.mem ∧
        v.book.replay = none ∧ v.fld F.FB_STATUS_REPLAYING = 0))) ∧
  (∀ (s u : State) (site : BitVec 12) (dt i w : Nat), s.dark = false → s.canonical → u = s.tickB dt → i = site.toNat →
    w = s.fld F.FB_FAULT_CFG_WINDOW * 100000000 →
    (∃ t, exec (.faultLeak site dt) s = .next t ∧ t.mem = s.mem ∧ t.regs = s.regs ∧ t.clk = u.clk ∧ (∀ j, j ≠ i → t.site j = s.site j) ∧
      (siteValid i = false → t.site i = s.site i) ∧
      (siteValid i = true → ∀ n, n = min (s.site i).count ((u.clk.bclk - (s.site i).changed) / w) →
        t.site i = { s.site i with count := (s.site i).count - n, changed := (s.site i).changed + n * w })) ∧
    (∃ t, exec (.fbFaultSelWrite site) s = .next t ∧ t.mem = s.mem ∧ t.sites = s.sites ∧
      (siteValid i = false → t.reg R.FB_FAULT_INFO = 0) ∧
      (siteValid i = true → (s.site i).count < 256 → (s.site i).total < 65536 → (s.site i).last < 2 ^ 32 →
        t.fld F.FB_FAULT_INFO_COUNT = (s.site i).count - min (s.site i).count ((s.clk.bclk - (s.site i).changed) / w) ∧ t.fld F.FB_FAULT_INFO_LASTING = bit (s.site i).lasting ∧
        t.fld F.FB_FAULT_INFO_VALID = 1 ∧ t.fld F.FB_FAULT_INFO_TOTAL = (s.site i).total ∧
        t.fld F.FB_FAULT_INFO_LAST_FRAME = (s.site i).last))) ∧
  (∀ (s : State) (c : Cmd),
    (s.betweenCommitAndReady = false → fbReplayBody s c = (s, some (denied 1))) ∧
    (s.betweenCommitAndReady = true → s.ddrWrites 0 (c.w64 4) (c.w64 6) = false → fbReplayBody s c = (s, some (denied 0))) ∧
    (s.betweenCommitAndReady = true → s.ddrWrites 0 (c.w64 4) (c.w64 6) = true → (c.w64 6 = 0 ∨ c.w64 6 % 32 ≠ 0) →
      fbReplayBody s c = (s, some (lenRange 1))) ∧
    ((s.exchange c.ctx (c.w64 4) 32 = false ∨ s.exchange c.ctx (c.w64 6) 3776 = false) → idAttestBody s c = (s, some (denied 4))) ∧
    (s.exchange c.ctx (c.w64 4) 32 = true → s.exchange c.ctx (c.w64 6) 3776 = true →
      (s.ident.seed = none → idAttestBody s c = (s, some (badSignature 2))) ∧
      (∀ k, s.ident.seed = some k → ∃ t, idAttestBody s c = (t, some Reply.ok) ∧ t.regs = s.regs ∧
        (∀ j < 384, t.rdByte (c.w64 6 + j) = (s.report (s.rdLe (c.w64 4) 32)).getD j 0) ∧
        ∀ y, (y < c.w64 6 ∨ c.w64 6 + 3776 ≤ y) → t.rdByte y = s.rdByte y)))

/-- A tether port takes flits in order, asks for failed ones again, writes what its requester may write, and loses and trains its link (R496, R497, R498, R500, R501, R502, R503, R505, R506, R507).
With every rail up and canonical stores, after dt of the port's time: on a link that is down no flit does anything. A flit with a bad
CRC is dropped and answered with RETRY, a numbered one counted as lost (a failed ACK loses none: entry 19); so is a numbered one out of
order. A good DATA_FLIT in order is taken and answered; without fixed latency its 64 bytes go to a core store at once and no other byte,
or wait for OPEN-slot time in DDR4, where its partition may write; else it is counted as ISOL and memory stands. A MARKER_FLIT enters
the port's queue of sixteen or is counted lost, and behind waiting DDR4 units it waits with them (entry 19). A SYNC_FLIT shows its
frame. A good ACK_FLIT releases the flits up to ACK_SEQ; with RETRY it is counted, and the flits after ACK_SEQ are sent again. TEST_FLIT
counts passes and failures. A channel that serves the port writes its waiting units. FLIT_RELEASE: a held flit is released when due.
TETHER_LINK_DOWN: a lost link is marked down from then. LINK_TIMEOUT_EXPIRY: LINK_TIMEOUT later the DATA flits that wait are dropped and
counted, others stay. LANE_RETRAIN: a lasting lane in one half trains the port on the other half, lanes in both halves or too long a
latency bring it down. -/
def Obligations.TetherFlitsAreTakenInOrder : Prop :=
  ∀ (p : TetherPort) (s u : State) (dt : Nat), s.coreDark = false → s.canonical → u = s.tickTl p.val dt →
    (∀ (hdr : BitVec 128) (payload : BitVec 512) (crc : BitVec 32) (bad : BitVec 8) (h : Nat) (x : TlPort), h = hdr.toNat → x = s.tlPort p →
      (s.tlUp p = false → ∀ i ∈ [Instr.dataFlit p hdr payload crc bad dt, .markerFlit p hdr payload crc bad dt,
        .syncFlit p hdr payload crc bad dt, .ackFlit p hdr payload crc bad dt], exec i s = .next u) ∧
      (s.tlUp p = true → flitCrcOk hdr payload crc = false → ∀ q ∈ [(1, Instr.dataFlit p hdr payload crc bad dt),
        (1, .markerFlit p hdr payload crc bad dt), (1, .syncFlit p hdr payload crc bad dt), (0, .ackFlit p hdr payload crc bad dt)],
        ∃ t, exec q.2 s = .next t ∧ t.mem = s.mem ∧
          t.tlPort p = { x with lost := x.lost + q.1, ack := some (B.FLIT_KIND.put 4 + B.FLIT_RETRY.put 1 + B.FLIT_ACK_SEQ.put x.last) }) ∧
      (s.tlUp p = true → flitCrcOk hdr payload crc = true → bad = 0 → (x.sent.any fun f => B.FLIT_SEQ.get f.hdr == B.FLIT_ACK_SEQ.get h) = false →
        (∀ q ∈ ([(1, Instr.dataFlit p hdr payload crc bad dt), (2, .markerFlit p hdr payload crc bad dt),
            (3, .syncFlit p hdr payload crc bad dt)] : List (Nat × Instr)),
          (B.FLIT_KIND.get h ≠ q.1 → exec q.2 s = .next u) ∧
          (B.FLIT_KIND.get h = q.1 → B.FLIT_SEQ.get h ≠ (x.last + 1) % 4096 → ∃ t, exec q.2 s = .next t ∧ t.mem = s.mem ∧ t.regs = s.regs ∧
            t.tlPort p = { x with lost := x.lost + 1, ack := some (B.FLIT_KIND.put 4 + B.FLIT_RETRY.put 1 + B.FLIT_ACK_SEQ.put x.last) }) ∧
          (B.FLIT_KIND.get h = q.1 → B.FLIT_SEQ.get h = (x.last + 1) % 4096 → s.flag F.TL_CFG_FIXED = true → (x.lost = 0 ∨ x.held ≠ []) →
            ∃ t d, exec q.2 s = .next t ∧ t.mem = s.mem ∧ t.tlPort p = { x with
              last := B.FLIT_SEQ.get h, lost := x.lost - 1,
              ack := some (B.FLIT_KIND.put 4 + B.FLIT_RETRY.put 0 + B.FLIT_ACK_SEQ.put (B.FLIT_SEQ.get h)),
              held := x.held ++ [⟨d, ⟨h, leBytes 64 payload.toNat⟩⟩] } ∧
              (x.lost = 0 → d = u.tlTime p + (s.fld F.TL_CFG_FIX_NS - s.fld F.TL_PORT_STAT_MEAS_NS p)))) ∧
        (B.FLIT_SEQ.get h = (x.last + 1) % 4096 → s.flag F.TL_CFG_FIXED = false →
          (∀ part off a, B.FLIT_KIND.get h = 1 → part = B.FLIT_PART.get h → off = B.FLIT_DEST.get h / 64 * 64 → a = tetherTarget off →
            (s.partState part < 2 → (off < ddrSize → B.FLIT_CLASS.get h = 3) → tetherOffsetOk off = true → (s.tagOf a).writes part = true →
              ∃ t, exec (.dataFlit p hdr payload crc bad dt) s = .next t ∧ (t.tlPort p).last = B.FLIT_SEQ.get h ∧
                (off < ddrSize → t.mem = s.mem ∧ (t.tlPort p).landing = x.landing ++ [⟨h, leBytes 64 payload.toNat⟩]) ∧
                (ddrSize ≤ off → (t.tlPort p).landing = x.landing ∧ (∀ j < 64, t.rdByte (a + j) = payload.extractLsb' (8 * j) 8) ∧
                  ∀ y, (y < a ∨ a + 64 ≤ y) → t.rdByte y = s.rdByte y)) ∧
            ((2 ≤ s.partState part ∨ (off < ddrSize ∧ B.FLIT_CLASS.get h ≠ 3) ∨ tetherOffsetOk off = false ∨
                (s.tagOf a).writes part = false) →
              ∃ t, exec (.dataFlit p hdr payload crc bad dt) s = .next t ∧ (t.tlPort p).last = B.FLIT_SEQ.get h ∧ t.mem = s.mem ∧
                t.fld F.TL_COUNTS_ISOL p = min 255 (s.fld F.TL_COUNTS_ISOL p + 1))) ∧
          (B.FLIT_KIND.get h = 2 → ∃ t, exec (.markerFlit p hdr payload crc bad dt) s = .next t ∧ t.mem = s.mem ∧
            (t.tlPort p).last = B.FLIT_SEQ.get h ∧
            (∀ f rest, x.landing = f :: rest → f.ddrUnit.isSome = true → t.ridge.markers = s.ridge.markers ∧
              (t.tlPort p).landing = x.landing ++ [⟨h, leBytes 64 payload.toNat⟩]) ∧
            (x.landing = [] → s.ridge.markers.countP (fun m => m.1 == p.val) < 16 → t.ridge.markers = s.ridge.markers ++ [(p.val, (h >>> 33) % 65536)]) ∧
            (x.landing = [] → 16 ≤ s.ridge.markers.countP (fun m => m.1 == p.val) → t.ridge.markers = s.ridge.markers ∧
              t.fld F.TL_COUNTS_MARKER_LOST p = min 255 (s.fld F.TL_COUNTS_MARKER_LOST p + 1))) ∧
          (B.FLIT_KIND.get h = 3 → s.fld F.SP_FRAME_CFG_SRC ≠ p.val + 1 → ∃ t, exec (.syncFlit p hdr payload crc bad dt) s = .next t ∧
            t.mem = s.mem ∧ (t.tlPort p).last = B.FLIT_SEQ.get h ∧ t.fld F.TL_STATUS_FRAME = (h >>> 33) % 2 ^ 48 ∧
            t.fld F.TL_STATUS_UNSYNCED = B.FLIT_UNSYNCED.get h))) ∧
      (s.tlUp p = true → flitCrcOk hdr payload crc = true → bad = 0 → B.FLIT_KIND.get h = 4 → x.queue = [] →
        ∃ t, exec (.ackFlit p hdr payload crc bad dt) s = .next t ∧ t.mem = s.mem ∧
          (t.tlPort p).sent = (if x.sent.any (fun f => B.FLIT_SEQ.get f.hdr == B.FLIT_ACK_SEQ.get h)
            then (x.sent.dropWhile fun f => B.FLIT_SEQ.get f.hdr != B.FLIT_ACK_SEQ.get h).drop 1 else x.sent) ∧
          (t.tlPort p).resent = (if B.FLIT_RETRY.get h = 1 then (t.tlPort p).sent else x.resent) ∧
          t.fld F.TL_COUNTS_RETRY p = (if B.FLIT_RETRY.get h = 1 then min 65535 (s.fld F.TL_COUNTS_RETRY p + 1)
            else s.fld F.TL_COUNTS_RETRY p)) ∧
      (∀ clean : Nat, (s.tlEnabled p = false → exec (.testFlit p clean hdr payload crc bad dt) s = .next u) ∧
        (s.tlEnabled p = true → ∃ t, exec (.testFlit p clean hdr payload crc bad dt) s = .next t ∧ t.mem = s.mem ∧
          t.tlPort p = { x with good := x.good + clean + bit (flitCrcOk hdr payload crc && bad == 0),
                                bad := x.bad + bit (!(flitCrcOk hdr payload crc && bad == 0)) }))) ∧
    (∀ (ch k : Nat) (f : Flit) (a part : Nat) (fs : List Flit), (s.tlPort p).landing = f :: fs → f.ddrUnit = some a → ddrChan a = ch → k ≠ 0 →
      a + 64 ≤ ddrSize → f.payload.length = 64 → (∀ g ∈ fs, g.ddrUnit = none) → part = B.FLIT_PART.get f.hdr → s.partState part < 2 →
      ((s.tetherDrain ch p k).tlPort p).landing = [] ∧ (∀ j < 64, (s.tetherDrain ch p k).rdByte (a + j) = f.payload.getD j 0) ∧
        ∀ y, (y < a ∨ a + 64 ≤ y) → (s.tetherDrain ch p k).rdByte y = s.rdByte y) ∧
    ((∀ h rest, (s.tlPort p).held = h :: rest → u.tlTime p < h.due) → exec (.flitRelease p dt) s = .next u) ∧
    (∀ h rest, (s.tlPort p).held = h :: rest → h.due ≤ u.tlTime p →
      exec (.flitRelease p dt) s = .next ((u.setTlPort p { s.tlPort p with held := rest }).tlRelease p h.flit)) ∧
    (s.tlUp p = false → exec (.tetherLinkDown p dt) s = .next u) ∧
    (s.tlUp p = true → ∃ t, exec (.tetherLinkDown p dt) s = .next t ∧ t.mem = s.mem ∧ t.fld F.TL_PORT_STAT_UP p = 0 ∧
      t.tlPort p = { s.tlPort p with downAt := some ((s.tlPort p).downAt.getD (u.tlTime p)) }) ∧
    ((s.tlUp p = true ∨ u.tlTime p < (s.tlPort p).downAt.getD 0 + 1000 * s.fld F.TL_CFG_LINK_TIMEOUT) →
      exec (.linkTimeoutExpiry p dt) s = .next u) ∧
    (s.tlUp p = false → (s.tlPort p).downAt.getD 0 + 1000 * s.fld F.TL_CFG_LINK_TIMEOUT ≤ u.tlTime p → (∀ c < 16, s.tlWaiting p c = 0) →
      ∃ t, exec (.linkTimeoutExpiry p dt) s = .next t ∧ t.mem = s.mem ∧
        t.tlPort p = { s.tlPort p with queue := (s.tlPort p).queue.filter fun f => !(B.FLIT_KIND.get f.hdr == 1) } ∧
        t.fld F.TL_COUNTS_DROP p = min 255 (s.fld F.TL_COUNTS_DROP p + (s.tlPort p).queue.countP fun f => B.FLIT_KIND.get f.hdr == 1)) ∧
    (∀ meas : BitVec 11,
      ((s.tlEnabled p = false ∨ s.tlLasting p = 0) → exec (.laneRetrain p meas dt) s = .next u) ∧
      (s.tlEnabled p = true → s.tlLasting p ≠ 0 →
        ((s.tlLasting p % 16 ≠ 0 ∧ s.tlLasting p / 16 ≠ 0) ∨ s.fld F.TL_CFG_FIX_NS < meas.toNat + 20 →
          ∃ t, exec (.laneRetrain p meas dt) s = .next t ∧ t.mem = s.mem ∧ t.fld F.TL_PORT_STAT_UP p = 0) ∧
        ((s.tlLasting p % 16 = 0 ∨ s.tlLasting p / 16 = 0) → meas.toNat + 20 ≤ s.fld F.TL_CFG_FIX_NS →
          ∃ t, exec (.laneRetrain p meas dt) s = .next t ∧ t.mem = s.mem ∧ t.fld F.TL_PORT_STAT_UP p = 1 ∧
            t.fld F.TL_PORT_STAT_HALF p = 1 ∧ t.fld F.TL_PORT_STAT_UPPER p = bit (s.tlLasting p / 16 == 0) ∧
            t.fld F.TL_PORT_STAT_MEAS_NS p = meas.toNat)))

/-- A bring-up request out of order, or during an active step, is refused and changes nothing but RESULT and SEQ (R421).
For every powered state with canonical stores and every request of a step k of 1 to 7: if k is not DONE + 1, or a step is active, the
request sets RESULT to 1 and echoes SEQ. Every other field of BC_STEP_STATUS stands, and so does every register but BC_STEP_STATUS and
TH_ATTN; outside the registers and the port's interrupt hold nothing changes. -/
def Obligations.BringUpRequestRefused : Prop :=
  ∀ (s : State) (seq saved mpr : Byte) (rdErr : Word) (links : List (Option TetherPeer)), s.canonical → s.isOff = false →
    ∀ q ∈ [(1, Instr.s1 seq), (2, .s2 seq), (3, .s3 seq saved mpr), (4, .s4 seq rdErr links), (5, .s5 seq), (6, .s6 seq), (7, .s7 seq)],
      (q.1 ≠ s.done + 1 ∨ s.active ≠ 0) →
      ∃ t, exec q.2 s = .next t ∧ t.fld F.BC_STEP_STATUS_RESULT = 1 ∧ t.fld F.BC_STEP_STATUS_SEQ = seq.toNat ∧
        t.done = s.done ∧ t.active = s.active ∧ t.fld F.BC_STEP_STATUS_FAIL_CODE = s.fld F.BC_STEP_STATUS_FAIL_CODE ∧
        t.fld F.BC_STEP_STATUS_FAIL_UNIT = s.fld F.BC_STEP_STATUS_FAIL_UNIT ∧
        t.fld F.BC_STEP_STATUS_TRAINED = s.fld F.BC_STEP_STATUS_TRAINED ∧ t.fld F.BC_STEP_STATUS_TIME = s.fld F.BC_STEP_STATUS_TIME ∧
        t = { s with regs := t.regs, trail := t.trail } ∧
        ∀ (r : RegArr) (j : Nat), r.key j ≠ R.BC_STEP_STATUS.key 0 → r.key j ≠ R.TH_ATTN.key 0 →
          t.reg r j = s.reg r j

/-- An accepted bring-up request starts its step: S1 completes at once, S2 to S7 take their actions (R421, R424, R425, R426, R427, R429, R433, R434).
Where the request of step k is accepted (k is DONE + 1, no step is active, every rail is up, bring-up has not ended and STRAP_JTAG is
low), the next state is that of the step on the accepted state, which shows ACTIVE k and SEQ, with RESULT as it was. S1: the trained
channels are recorded, DONE is 1 and ACTIVE 0. S2: a failed boot image check is noted as BAD_SIGNATURE; with a boot image, certificate,
configuration image and repair map that pass, boot finishes with them. S3: each channel trains as SAVED selects. S4: the error counts
start and ports train. S5: DDR4 holds the test pattern. S6: the commit's state, or a commit report and failure COMMIT. S7: demand
service ends and both streams start. -/
def Obligations.BringUpStepsAct : Prop :=
  ∀ (s : State) (seq saved mpr : Byte) (rdErr : Word) (links : List (Option TetherPeer)), s.canonical →
    (s.stepOk 1 = true → ∃ t, exec (.s1 seq) s = .next t ∧ t.done = 1 ∧ t.active = 0 ∧ t.fld F.BC_STEP_STATUS_RESULT = 0 ∧
      t.fld F.BC_STEP_STATUS_SEQ = seq.toNat ∧
      t.fld F.BC_STEP_STATUS_TRAINED = bit (s.hostLane 0).trained + 2 * bit (s.hostLane 1).trained) ∧
    (∀ k, 1 ≤ k → k ≤ 7 → (s.stepAccept k seq.toNat).active = k ∧ (s.stepAccept k seq.toNat).fld F.BC_STEP_STATUS_RESULT = s.fld F.BC_STEP_STATUS_RESULT ∧
      (s.stepAccept k seq.toNat).fld F.BC_STEP_STATUS_SEQ = seq.toNat) ∧
    (s.stepOk 2 = true → s.bootPick = none → exec (.s2 seq) s = .next ((s.stepAccept 2 seq.toNat).stepFails 2 0)) ∧
    (s.stepOk 2 = true → ∀ (k n : Nat) (boot : List Byte) (u t : State), s.bootPick = some (k, n, boot) →
      u = (((({ s.stepAccept 2 seq.toNat with ident := { s.ident with
        vendor := vendorKeyOf boot, slotSeq := n, fwVersion := fwVersionOf boot } } : State).setFld F.ID_STATUS_BOOT_SLOT 0 k).setFld
        F.ID_STATUS_FW_VERSION 0 (fwVersionOf boot)).deriveKey) →
      u.certOk u.flashCert (vendorKeyOf boot) = true → leNat (u.flashConf.take 2) ≤ 4096 →
      signedOk u.flashConf 2 1 (ownerKeyOf u.flashCert) = true → u.confApply (confRecords u.flashConf) = .ok t →
      mapBad (repairMapOf boot) = none →
      exec (.s2 seq) s = .next (u.bootFinish t boot u.flashCert u.flashConf (repairMapOf boot))) ∧
    (s.stepOk 3 = true → ∃ t, exec (.s3 seq saved mpr) s = .next t ∧ t.active = 3 ∧ ∀ ch < 8,
      t.fld F.DR_TRAIN_STATUS_PASS ch = 0 ∧ (hasBit saved.toNat ch = false → t.fld F.DR_TRAIN_STATUS_MODE ch = 1) ∧
      (hasBit saved.toNat ch = true → t.fld F.DR_TRAIN_STATUS_MODE ch = 2 ∨ t.fld F.DR_TRAIN_STATUS_MODE ch = 3)) ∧
    (s.stepOk 4 = true → exec (.s4 seq rdErr links) s = .next ((s.stepAccept 4 seq.toNat).doS4 rdErr.toNat links)) ∧
    (s.stepOk 5 = true → ∃ t, exec (.s5 seq) s = .next t ∧ t.active = 5 ∧ t.bring.tested = true ∧
      (∀ a, a < ddrSize → t.rdByte a = BitVec.ofNat 8 (Config.freeFn 71 [a])) ∧ ∀ a, ddrSize ≤ a → t.rdByte a = s.rdByte a) ∧
    (s.stepOk 6 = true → ∀ t, (s.stepAccept 6 seq.toNat).commit = .ok t → exec (.s6 seq) s = .next t) ∧
    (s.stepOk 6 = true → ∀ b, (s.stepAccept 6 seq.toNat).commit = .error b →
      exec (.s6 seq) s = .next (((s.stepAccept 6 seq.toNat).commitReport b).stepFails 0x0C b.unit)) ∧
    (s.stepOk 7 = true → exec (.s7 seq) s = .next (s.stepAccept 7 seq.toNat).goLive)

/-- A step's end clears ACTIVE and writes TIME and the result; a step past its maximum fails with TIMEOUT (R422, R423).
In a powered state with canonical stores and an active step: a commit or a ready step that has met no failure ends with DONE at the
step, RESULT 0, ACTIVE 0 and TIME in ms; a step that has noted a failure and is not late ends with RESULT 2, ACTIVE 0, that FAIL_CODE
and FAIL_UNIT, and DONE as it was; STEP_TIMEOUT of a step of S2 to S5 past the maximum of Table BU-3 ends it with FAIL_CODE 1 and
FAIL_UNIT the step. -/
def Obligations.BringUpStepEnds : Prop :=
  ∀ (s : State) (code unit : Byte) (dt : Nat), s.canonical → s.dark = false →
    (s.active = 7 → s.bring.fail = none →
      ∃ t, exec (.stepEnd code unit dt) s = .next t ∧ t.done = 7 ∧ t.active = 0 ∧ t.fld F.BC_STEP_STATUS_RESULT = 0 ∧
        t.fld F.BC_STEP_STATUS_TIME = min (2 ^ 24 - 1) ((s.clk.fclk + dt - s.bring.stepAt) / 1000000)) ∧
    (∀ f u, s.active ≠ 0 → s.bring.fail = some (f, u) → f < 256 → u < 256 → (s.tickF dt).stepLate = false →
      ∃ t, exec (.stepEnd code unit dt) s = .next t ∧ t.done = s.done ∧ t.active = 0 ∧ t.fld F.BC_STEP_STATUS_RESULT = 2 ∧
        t.fld F.BC_STEP_STATUS_FAIL_CODE = f ∧ t.fld F.BC_STEP_STATUS_FAIL_UNIT = u) ∧
    (2 ≤ s.active → s.active ≤ 5 → (s.tickF dt).stepLate = true →
      ∃ t, exec (.stepTimeout dt) s = .next t ∧ t.done = s.done ∧ t.active = 0 ∧ t.fld F.BC_STEP_STATUS_RESULT = 2 ∧
        t.fld F.BC_STEP_STATUS_FAIL_CODE = 1 ∧ t.fld F.BC_STEP_STATUS_FAIL_UNIT = s.active) ∧
    (2 ≤ s.active → s.active ≤ 5 → (s.tickF dt).stepLate = false → exec (.stepTimeout dt) s = .next (s.tickF dt))

/-- VIN, NRESET and the regulators switch the supply, MOD_PG and the lines (R529, R530, R531, R537, R419).
POWER_ON and NRESET_RELEASE of an unpowered module, with VIN in range and NRESET high afterwards, begin S0 and take the identity seed.
S0_COMPLETE after that brings every rail up, asserts MOD_PG and samples the straps. NRESET_ASSERT, and VIN_TURN_OFF with no save in
progress, leave the module without power: both lines are off, MOD_PG is low, every register holds its reset value, and the flash, the
save slots and the waiting commands are kept. VIN_TURN_OFF during a save changes only the pin. A regulator fault releases MOD_PG and
changes nothing else. -/
def Obligations.PowerPinsSwitchSupply : Prop :=
  ∀ (s : State) (seed : Option (BitVec 256)) (jtag wpN : Bool),
    (s.power.supply = .off → s.pins.nreset = false → ∃ t, exec (.powerOn seed) s = .next t ∧ t.power.supply = .starting ∧
      t.pins.vin = true ∧ t.ident.seed = seed.map BitVec.toNat ∧ t.regs = s.regs ∧ t.mem = s.mem) ∧
    (s.power.supply = .off → s.pins.vin = true → ∃ t, exec (.nresetRelease seed) s = .next t ∧ t.power.supply = .starting ∧
      t.pins.nreset = false ∧ t.ident.seed = seed.map BitVec.toNat ∧ t.regs = s.regs ∧ t.mem = s.mem) ∧
    (s.power.supply = .starting → ∃ t, exec (.s0Complete jtag wpN) s = .next t ∧ t.power.supply = .on ∧ t.pins.modPg = true ∧
      t.pins.strapJtag = jtag ∧ t.pins.flashWpN = wpN ∧ t.regs = s.regs ∧ t.mem = s.mem) ∧
    (∃ t, exec .nresetAssert s = .next t ∧ t.power.supply = .off ∧ t.pins.nreset = true ∧ t.pins.modPg = false ∧ t.linesOff ∧
      t.regs = [] ∧ t.mem = [] ∧ t.power.slots = s.power.slots ∧ t.pending = s.pending ∧
      (s.ident.program = [] → t.ident.flash = s.ident.flash)) ∧
    (s.power.saving = none → ∃ t, exec .vinTurnOff s = .next t ∧ t.power.supply = .off ∧ t.pins.vin = false ∧ t.pins.modPg = false ∧
      t.linesOff ∧ t.regs = [] ∧ t.mem = [] ∧ t.power.slots = s.power.slots ∧ t.pending = s.pending) ∧
    (s.power.saving.isSome = true → exec .vinTurnOff s = .next { s with pins := { s.pins with vin := false } }) ∧
    exec .regulatorFault s = .next { s with pins := { s.pins with modPg := false } }

/-- With STRAP_JTAG high the test access port runs its six instructions; with it low the port does nothing (R531, R532).
In boundary-scan mode with every rail up, each instruction takes force and shifts out as many bits as it shifts in. BYPASS, HIGHZ and
CLAMP shift through one bit that captures 0, and leave the update latches. IDCODE shifts out the bits of 0x17D0_8A3B first.
SAMPLE_PRELOAD and EXTEST shift out the captured cells first and then hold the scan in the update latches. With STRAP_JTAG low no
instruction changes the state. -/
def Obligations.TestAccessPortScans : Prop :=
  ∀ (s : State) (cells scan : List Bool),
    (s.pins.strapJtag = true → s.power.supply = .on →
      (∀ p ∈ [(Instr.bypass scan, JtagOp.bypass), (.highz scan, .highz), (.clamp scan, .clamp)],
        exec p.1 s = .next { s with pins := { s.pins with ir := p.2, tdo := (false :: scan).take scan.length } }) ∧
      (exec (.idcode scan) s = .next { s with pins := { s.pins with
        ir := .idcode, tdo := (((List.range 32).map fun k => (0x17D08A3B : Nat).testBit k) ++ scan).take scan.length } }) ∧
      (∀ p ∈ [(Instr.samplePreload cells scan, JtagOp.samplePreload), (.extest cells scan, .extest)],
        exec p.1 s = .next { s with pins := { s.pins with
          ir := p.2, tdo := (cells ++ scan).take scan.length, cells := (cells ++ scan).drop scan.length } })) ∧
    (s.pins.strapJtag = false →
      ∀ i ∈ [Instr.bypass scan, .highz scan, .clamp scan, .idcode scan, .samplePreload cells scan, .extest cells scan],
        exec i s = .next s)

/-- An energised SAFE_STOP line that loses its supply or stays in current limit is a MONITOR fault: both lines go off (R526, R355, R354).
In a state with canonical stores and mode below DM3, a SAFE_VREF that falls, or a current limit that lasts 2 ms, on an energised line
latches fault class 2, enters DM3 and de-energises both lines, with both STOP bits set and the gate closed. On a line that is off
neither command changes anything. -/
def Obligations.SafeStopLineDrops : Prop :=
  ∀ (s : State) (b : Bool), s.canonical →
    (∀ i ∈ [Instr.safeVrefFall b, .currentLimitSwitchOff b],
      ((if b then s.plumb.lineB else s.plumb.lineA) = true → s.fld F.PB_STATUS_MODE < 3 →
        ∃ t, exec i s = .next t ∧ t.linesOff ∧ t.fld F.PB_STATUS_MODE = 3 ∧ hasBit (t.fld F.PB_STATUS_CAUSES) 1 = true ∧
          t.fld F.PB_STATUS_STOP_A = 1 ∧ t.fld F.PB_STATUS_STOP_B = 1 ∧ t.fld F.PB_STATUS_GATE_OPEN = 0 ∧ t.mem = s.mem) ∧
      ((if b then s.plumb.lineB else s.plumb.lineA) = false → exec i s = .next s))
end

