-- ==== Sys2Proof/Laws/Sparse.lean ====
section
/-! SUPPORT. Laws of the sparse tables: what a read finds after each operation, and that each operation keeps the canonical form. -/

namespace Sys2Proof.Machine

variable {α : Type}

/-! ## Reads after writes -/

@[simp] theorem spGet_nil (d : α) (a : Nat) : spGet d [] a = d := rfl

/-- Every key of the table lies above `lo`. -/
def spAbove (lo : Option Nat) (t : List (Nat × α)) : Prop := ∀ e ∈ t, ∀ l, lo = some l → l < e.1

theorem spWfFrom_cons [DecidableEq α] {d : α} {lo : Option Nat} {k : Nat} {v : α} {t : List (Nat × α)} :
    spWfFrom d lo ((k, v) :: t) = true ↔ (∀ l, lo = some l → l < k) ∧ v ≠ d ∧ spWfFrom d (some k) t = true := by
  cases lo <;> simp [spWfFrom, and_assoc]

theorem spWfFrom_weaken [DecidableEq α] {d : α} {lo lo' : Option Nat} {t : List (Nat × α)}
    (h : spWfFrom d lo t = true) (hl : ∀ l', lo' = some l' → ∃ l, lo = some l ∧ l' ≤ l) : spWfFrom d lo' t = true := by
  cases t with
  | nil => cases lo' <;> rfl
  | cons e t =>
    obtain ⟨k, v⟩ := e
    rw [spWfFrom_cons] at h ⊢
    refine ⟨fun l' hl' => ?_, h.2⟩
    obtain ⟨l, hl1, hl2⟩ := hl l' hl'
    exact lt_of_le_of_lt hl2 (h.1 l hl1)

theorem spWfFrom_to_none [DecidableEq α] {d : α} {lo : Option Nat} {t : List (Nat × α)}
    (h : spWfFrom d lo t = true) : spWfFrom d none t = true := spWfFrom_weaken h (by simp)

/-- A key at or below the bound of a table is unlisted. -/
theorem spGet_below [DecidableEq α] {d : α} {lo a : Nat} {t : List (Nat × α)} (h : spWfFrom d (some lo) t = true) (ha : a ≤ lo) :
    spGet d t a = d := by
  cases t with
  | nil => rfl
  | cons e t =>
    obtain ⟨k, v⟩ := e
    have hk := (spWfFrom_cons.mp h).1 lo rfl
    have h1 : a ≠ k := by omega
    have h2 : a < k := by omega
    simp [spGet, h1, h2]

theorem spGet_spSet_same [DecidableEq α] (d : α) (t : List (Nat × α)) (a : Nat) (x : α) (h : spWf d t = true) :
    spGet d (spSet d t a x) a = x := by
  have key : ∀ lo, spWfFrom d lo t = true → spGet d (spSet d t a x) a = x := by
    induction t with
    | nil => intro lo _; by_cases hx : x = d <;> simp [spSet, spGet, hx]
    | cons e t ih =>
      intro lo hw
      obtain ⟨k, v⟩ := e
      have hw' := spWfFrom_cons.mp hw
      simp only [spSet]
      by_cases h1 : a = k
      · subst h1
        by_cases hx : x = d
        · simpa [hx] using spGet_below hw'.2.2 (le_refl a)
        · simp [hx, spGet]
      · by_cases h2 : a < k
        · by_cases hx : x = d <;> simp [h1, h2, hx, spGet]
        · simpa [h1, h2, spGet] using ih (spWfFrom_to_none hw'.2.2) (some k) hw'.2.2
  exact key none h

theorem spGet_spSet_ne [DecidableEq α] (d : α) (t : List (Nat × α)) (a b : Nat) (x : α) (h : spWf d t = true) (hab : a ≠ b) :
    spGet d (spSet d t a x) b = spGet d t b := by
  have key : ∀ lo, spWfFrom d lo t = true → spGet d (spSet d t a x) b = spGet d t b := by
    induction t with
    | nil =>
      intro lo _
      by_cases hx : x = d
      · simp [spSet, hx]
      · have hb : b ≠ a := fun hb => hab hb.symm
        simp [spSet, spGet, hx, hb]
    | cons e t ih =>
      intro lo hw
      obtain ⟨k, v⟩ := e
      have hw' := spWfFrom_cons.mp hw
      have hba : b ≠ a := fun hb => hab hb.symm
      simp only [spSet]
      by_cases h1 : a = k
      · subst h1
        by_cases hx : x = d
        · simp only [hx, if_true, spGet, if_neg hba]
          by_cases hlt : b < a
          · simp [hlt, spGet_below hw'.2.2 (le_of_lt hlt)]
          · simp [hlt]
        · simp [hx, spGet, hba]
      · by_cases h2 : a < k
        · by_cases hx : x = d
          · simp [h1, h2, hx]
          · simp only [if_neg h1, if_pos h2, if_neg hx, spGet, if_neg hba]
            by_cases h3 : b < a
            · have h4 : b ≠ k := by omega
              have h5 : b < k := by omega
              simp [h3, h4, h5]
            · simp [h3]
        · simp only [if_neg h1, if_neg h2, spGet]
          rw [ih (spWfFrom_to_none hw'.2.2) (some k) hw'.2.2]
  exact key none h

theorem spGet_spSet [DecidableEq α] (d : α) (t : List (Nat × α)) (a b : Nat) (x : α) (h : spWf d t = true) :
    spGet d (spSet d t a x) b = if b = a then x else spGet d t b := by
  by_cases hb : b = a
  · subst hb; simp [spGet_spSet_same d t b x h]
  · rw [if_neg hb, spGet_spSet_ne d t a b x h (fun e => hb e.symm)]

/-! ## The canonical form is kept -/

/-- A value other than the default needs no canonical form to be found again. -/
theorem spGet_spSet_same_of_ne [DecidableEq α] (d : α) (t : List (Nat × α)) (a : Nat) {x : α} (hx : x ≠ d) :
    spGet d (spSet d t a x) a = x := by
  induction t with
  | nil => simp [spSet, hx, spGet]
  | cons e t ih =>
    obtain ⟨k, v⟩ := e
    unfold spSet
    split
    · simp [spGet]
    · split
      · simp [spGet]
      · rename_i h1 h2
        simp [spGet, h1, h2, ih]

theorem spGet_spSet_ne_of_ne [DecidableEq α] (d : α) (t : List (Nat × α)) (a b : Nat) {x : α} (hx : x ≠ d) (hab : a ≠ b) :
    spGet d (spSet d t a x) b = spGet d t b := by
  induction t with
  | nil => simp [spSet, hx, spGet]; omega
  | cons e t ih =>
    obtain ⟨k, v⟩ := e
    unfold spSet
    split
    · subst_vars
      have hb : b ≠ k := fun h => hab h.symm
      simp [spGet, hb]
    · split
      · rename_i h1 h2
        have hb : b ≠ a := fun h => hab h.symm
        rw [spGet, if_neg hb]
        split
        · rename_i h3
          rw [spGet, if_neg (by omega), if_pos (by omega)]
        · rfl
      · simp [spGet, ih]

@[simp] theorem spWf_nil [DecidableEq α] (d : α) : spWf d ([] : List (Nat × α)) = true := rfl

theorem spWfFrom_spSet [DecidableEq α] {d : α} {t : List (Nat × α)} (a : Nat) (x : α) :
    ∀ {lo : Option Nat}, spWfFrom d lo t = true → (∀ l, lo = some l → l < a) → spWfFrom d lo (spSet d t a x) = true := by
  induction t with
  | nil =>
    intro lo _ hl
    by_cases hx : x = d
    · simp only [spSet, if_pos hx]; cases lo <;> rfl
    · simp only [spSet, if_neg hx]
      exact spWfFrom_cons.mpr ⟨hl, hx, rfl⟩
  | cons e t ih =>
    intro lo hw hl
    obtain ⟨k, v⟩ := e
    have hw' := spWfFrom_cons.mp hw
    simp only [spSet]
    by_cases h1 : a = k
    · subst h1
      by_cases hx : x = d
      · simp only [if_pos hx, if_true]
        exact spWfFrom_weaken hw'.2.2 fun l' hl' => ⟨a, rfl, le_of_lt (hl l' hl')⟩
      · simp only [if_neg hx, if_true]
        exact spWfFrom_cons.mpr ⟨hl, hx, hw'.2.2⟩
    · by_cases h2 : a < k
      · by_cases hx : x = d
        · simp only [if_neg h1, if_pos h2, if_pos hx]; exact hw
        · simp only [if_neg h1, if_pos h2, if_neg hx]
          refine spWfFrom_cons.mpr ⟨hl, hx, spWfFrom_cons.mpr ⟨fun l h => ?_, hw'.2⟩⟩
          cases h; exact h2
      · simp only [if_neg h1, if_neg h2]
        refine spWfFrom_cons.mpr ⟨hw'.1, hw'.2.1, ih hw'.2.2 fun l h => ?_⟩
        cases h; omega

theorem spWf_spSet [DecidableEq α] {d : α} {t : List (Nat × α)} (h : spWf d t = true) (a : Nat) (x : α) :
    spWf d (spSet d t a x) = true := spWfFrom_spSet a x h (by simp)

theorem spWf_spWrite [DecidableEq α] {d : α} (xs : List α) : ∀ {t : List (Nat × α)} (a : Nat), spWf d t = true →
    spWf d (spWrite d t a xs) = true := by
  induction xs with
  | nil => intro t a h; exact h
  | cons x xs ih => intro t a h; exact ih (a + 1) (spWf_spSet h a x)

theorem spWfFrom_filter [DecidableEq α] {d : α} (p : Nat × α → Bool) {t : List (Nat × α)} :
    ∀ {lo : Option Nat}, spWfFrom d lo t = true → spWfFrom d lo (t.filter p) = true := by
  induction t with
  | nil => intro lo h; exact h
  | cons e t ih =>
    intro lo h
    obtain ⟨k, v⟩ := e
    have h' := spWfFrom_cons.mp h
    by_cases hp : p (k, v) = true
    · rw [List.filter_cons_of_pos hp]
      exact spWfFrom_cons.mpr ⟨h'.1, h'.2.1, ih h'.2.2⟩
    · rw [List.filter_cons_of_neg hp]
      exact spWfFrom_weaken (ih h'.2.2) fun l' hl' => ⟨k, rfl, le_of_lt (h'.1 l' hl')⟩

theorem spWf_spKeep [DecidableEq α] {d : α} {t : List (Nat × α)} (p : Nat → Bool) (h : spWf d t = true) :
    spWf d (spKeep p t) = true := spWfFrom_filter _ h

/-- The canonical form as a property of the list: keys rise in pairs, above the bound, and no value is the default. -/
theorem spWfFrom_iff [DecidableEq α] {d : α} {t : List (Nat × α)} : ∀ {lo : Option Nat}, spWfFrom d lo t = true ↔
    t.Pairwise (fun x y => x.1 < y.1) ∧ (∀ e ∈ t, e.2 ≠ d) ∧ ∀ e ∈ t, ∀ l, lo = some l → l < e.1 := by
  induction t with
  | nil => intro lo; cases lo <;> simp [spWfFrom]
  | cons e t ih =>
    intro lo
    obtain ⟨k, v⟩ := e
    rw [spWfFrom_cons, ih]
    constructor
    · rintro ⟨h1, h2, h3, h4, h5⟩
      refine ⟨List.pairwise_cons.mpr ⟨fun e he => h5 e he k rfl, h3⟩, ?_, ?_⟩
      · intro e he
        rcases List.mem_cons.mp he with rfl | he
        · exact h2
        · exact h4 e he
      · intro e he l hl
        rcases List.mem_cons.mp he with rfl | he
        · exact h1 l hl
        · exact lt_trans (h1 l hl) (h5 e he k rfl)
    · rintro ⟨h1, h2, h3⟩
      have h1' := List.pairwise_cons.mp h1
      refine ⟨fun l hl => h3 (k, v) (by simp) l hl, h2 (k, v) (by simp), h1'.2,
        fun e he => h2 e (List.mem_cons_of_mem _ he), fun e he l hl => ?_⟩
      cases hl; exact h1'.1 e he

theorem spWf_iff [DecidableEq α] {d : α} {t : List (Nat × α)} :
    spWf d t = true ↔ t.Pairwise (fun x y => x.1 < y.1) ∧ ∀ e ∈ t, e.2 ≠ d := by
  unfold spWf; rw [spWfFrom_iff]; simp

theorem spWf_spSplice [DecidableEq α] {d : α} {t mid : List (Nat × α)} {a n : Nat} (h : spWf d t = true) (hm : spWf d mid = true)
    (hr : ∀ e ∈ mid, a ≤ e.1 ∧ e.1 < a + n) : spWf d (spSplice t a n mid) = true := by
  have hl := spWf_iff.mp (spWf_spKeep (fun k => decide (k < a)) h)
  have hg := spWf_iff.mp (spWf_spKeep (fun k => decide (a + n ≤ k)) h)
  have hm' := spWf_iff.mp hm
  have hla : ∀ e ∈ spKeep (fun k => decide (k < a)) t, e.1 < a := by
    intro e he; simpa [spKeep] using (List.mem_filter.mp he).2
  have hga : ∀ e ∈ spKeep (fun k => decide (a + n ≤ k)) t, a + n ≤ e.1 := by
    intro e he; simpa [spKeep] using (List.mem_filter.mp he).2
  refine spWf_iff.mpr ⟨?_, ?_⟩
  · unfold spSplice
    refine List.pairwise_append.mpr ⟨List.pairwise_append.mpr ⟨hl.1, hm'.1, ?_⟩, hg.1, ?_⟩
    · intro x hx y hy; have := hla x hx; have := (hr y hy).1; omega
    · intro x hx y hy
      have hy' := hga y hy
      rcases List.mem_append.mp hx with hx | hx
      · have := hla x hx; omega
      · have := (hr x hx).2; omega
  · intro e he
    unfold spSplice at he
    rcases List.mem_append.mp he with he | he
    · rcases List.mem_append.mp he with he | he
      · exact hl.2 e he
      · exact hm'.2 e he
    · exact hg.2 e he

theorem spWf_spCopy [DecidableEq α] {d : α} {t : List (Nat × α)} (src dst n : Nat) (h : spWf d t = true) :
    spWf d (spCopy t src dst n) = true := by
  have hk := spWf_iff.mp (spWf_spKeep (fun k => decide (src ≤ k) && decide (k < src + n)) h)
  have hin : ∀ e ∈ spKeep (fun k => decide (src ≤ k) && decide (k < src + n)) t, src ≤ e.1 ∧ e.1 < src + n := by
    intro e he; simpa [spKeep] using (List.mem_filter.mp he).2
  unfold spCopy
  refine spWf_spSplice h (spWf_iff.mpr ⟨?_, ?_⟩) ?_
  · rw [List.pairwise_map]
    refine hk.1.imp_of_mem ?_
    intro x y hx hy hxy
    have hx' := hin x hx
    have hy' := hin y hy
    show x.1 - src + dst < y.1 - src + dst
    omega
  · intro e he
    obtain ⟨x, hx, rfl⟩ := List.mem_map.mp he
    exact hk.2 x hx
  · intro e he
    obtain ⟨x, hx, rfl⟩ := List.mem_map.mp he
    have hx' := hin x hx
    show dst ≤ x.1 - src + dst ∧ x.1 - src + dst < dst + n
    omega

/-! ## Reads after longer writes -/

theorem spGet_spKeep [DecidableEq α] (d : α) (p : Nat → Bool) (t : List (Nat × α)) (a : Nat) (h : spWf d t = true) :
    spGet d (spKeep p t) a = if p a then spGet d t a else d := by
  have key : ∀ lo, spWfFrom d lo t = true → spGet d (spKeep p t) a = if p a then spGet d t a else d := by
    induction t with
    | nil => intro lo _; simp [spKeep]
    | cons e t ih =>
      intro lo hw
      obtain ⟨k, v⟩ := e
      have hw' := spWfFrom_cons.mp hw
      have iht := ih (spWfFrom_to_none hw'.2.2) (some k) hw'.2.2
      by_cases hp : p k = true
      · have : spKeep p ((k, v) :: t) = (k, v) :: spKeep p t := List.filter_cons_of_pos hp
        rw [this]
        simp only [spGet]
        by_cases h1 : a = k
        · subst h1; simp [hp]
        · by_cases h2 : a < k
          · simp [h1, h2]
          · simp [h1, h2, iht]
      · have : spKeep p ((k, v) :: t) = spKeep p t := List.filter_cons_of_neg hp
        rw [this, iht]
        simp only [spGet]
        by_cases h1 : a = k
        · subst h1; simp [hp]
        · by_cases h2 : a < k
          · simp [h1, h2, spGet_below hw'.2.2 (le_of_lt h2)]
          · simp [h1, h2]
  exact key none h

/-- A key outside the written range reads as before; one inside reads its value. -/
theorem spGet_spWrite [DecidableEq α] (d : α) (xs : List α) : ∀ (t : List (Nat × α)) (a b : Nat), spWf d t = true →
    spGet d (spWrite d t a xs) b = if a ≤ b ∧ b < a + xs.length then xs.getD (b - a) d else spGet d t b := by
  induction xs with
  | nil =>
    intro t a b _
    have : ¬(a ≤ b ∧ b < a + ([] : List α).length) := by simp
    rw [if_neg this]; rfl
  | cons x xs ih =>
    intro t a b h
    simp only [spWrite, List.length_cons]
    rw [ih _ _ _ (spWf_spSet h a x), spGet_spSet d t a b x h]
    by_cases h1 : b = a
    · subst h1
      simp
    · by_cases h2 : a + 1 ≤ b ∧ b < a + 1 + xs.length
      · have h3 : a ≤ b ∧ b < a + (xs.length + 1) := by omega
        rw [if_pos h2, if_pos h3]
        have h4 : b - a = (b - (a + 1)) + 1 := by omega
        rw [h4]; simp
      · have h3 : ¬(a ≤ b ∧ b < a + (xs.length + 1)) := by omega
        rw [if_neg h2, if_neg h3, if_neg h1]

/-- Two tables in canonical form that read alike are equal. -/
theorem sp_ext [DecidableEq α] {d : α} : ∀ {t u : List (Nat × α)}, spWf d t = true → spWf d u = true →
    (∀ a, spGet d t a = spGet d u a) → t = u := by
  have key : ∀ (t u : List (Nat × α)) (lo lo' : Option Nat), spWfFrom d lo t = true → spWfFrom d lo' u = true →
      (∀ a, spGet d t a = spGet d u a) → t = u := by
    intro t
    induction t with
    | nil =>
      intro u lo lo' _ hu h
      cases u with
      | nil => rfl
      | cons e u =>
        obtain ⟨k, v⟩ := e
        have := h k
        simp [spGet] at this
        exact absurd this.symm (spWfFrom_cons.mp hu).2.1
    | cons e t ih =>
      intro u lo lo' ht hu h
      obtain ⟨k, v⟩ := e
      have ht' := spWfFrom_cons.mp ht
      cases u with
      | nil =>
        have := h k
        simp [spGet] at this
        exact absurd this ht'.2.1
      | cons e' u =>
        obtain ⟨k', v'⟩ := e'
        have hu' := spWfFrom_cons.mp hu
        have hkk : k = k' := by
          rcases lt_trichotomy k k' with hlt | heq | hgt
          · have := h k
            have h1 : k ≠ k' := by omega
            simp [spGet, h1, hlt] at this
            exact absurd this ht'.2.1
          · exact heq
          · have := h k'
            have h1 : k' ≠ k := by omega
            simp [spGet, h1, hgt] at this
            exact absurd this.symm hu'.2.1
        subst hkk
        have hv : v = v' := by simpa [spGet] using h k
        subst hv
        congr 1
        refine ih u (some k) (some k) ht'.2.2 hu'.2.2 fun a => ?_
        by_cases ha : a ≤ k
        · rw [spGet_below ht'.2.2 ha, spGet_below hu'.2.2 ha]
        · have h1 : a ≠ k := by omega
          have h2 : ¬ a < k := by omega
          simpa [spGet, h1, h2] using h a
  intro t u ht hu h
  exact key t u none none ht hu h

end Sys2Proof.Machine
end

