-- ==== Sys2Proof/Laws/State.lean ====
section
/-! SUPPORT. What each basic update of the state leaves unchanged: one lemma per field and update. -/

namespace Sys2Proof.Machine

variable (s : State)

@[simp] theorem State.setReg_pending (r : RegArr) (i : Nat) (v : BitVec 64) : (s.setReg r i v).pending = s.pending := rfl
@[simp] theorem State.setReg_clk (r : RegArr) (i : Nat) (v : BitVec 64) : (s.setReg r i v).clk = s.clk := rfl
@[simp] theorem State.setReg_mem (r : RegArr) (i : Nat) (v : BitVec 64) : (s.setReg r i v).mem = s.mem := rfl
@[simp] theorem State.setReg_poison (r : RegArr) (i : Nat) (v : BitVec 64) : (s.setReg r i v).poison = s.poison := rfl
@[simp] theorem State.setReg_wordMarks (r : RegArr) (i : Nat) (v : BitVec 64) : (s.setReg r i v).wordMarks = s.wordMarks := rfl
@[simp] theorem State.setReg_flips (r : RegArr) (i : Nat) (v : BitVec 64) : (s.setReg r i v).flips = s.flips := rfl
@[simp] theorem State.setReg_ridge (r : RegArr) (i : Nat) (v : BitVec 64) : (s.setReg r i v).ridge = s.ridge := rfl
@[simp] theorem State.setReg_engines (r : RegArr) (i : Nat) (v : BitVec 64) : (s.setReg r i v).engines = s.engines := rfl
@[simp] theorem State.setReg_vecs (r : RegArr) (i : Nat) (v : BitVec 64) : (s.setReg r i v).vecs = s.vecs := rfl
@[simp] theorem State.setReg_stow (r : RegArr) (i : Nat) (v : BitVec 64) : (s.setReg r i v).stow = s.stow := rfl
@[simp] theorem State.setReg_ddr (r : RegArr) (i : Nat) (v : BitVec 64) : (s.setReg r i v).ddr = s.ddr := rfl
@[simp] theorem State.setReg_sched (r : RegArr) (i : Nat) (v : BitVec 64) : (s.setReg r i v).sched = s.sched := rfl
@[simp] theorem State.setReg_seq (r : RegArr) (i : Nat) (v : BitVec 64) : (s.setReg r i v).seq = s.seq := rfl
@[simp] theorem State.setReg_rings (r : RegArr) (i : Nat) (v : BitVec 64) : (s.setReg r i v).rings = s.rings := rfl
@[simp] theorem State.setReg_plumb (r : RegArr) (i : Nat) (v : BitVec 64) : (s.setReg r i v).plumb = s.plumb := rfl
@[simp] theorem State.setReg_sensors (r : RegArr) (i : Nat) (v : BitVec 64) : (s.setReg r i v).sensors = s.sensors := rfl
@[simp] theorem State.setReg_datum (r : RegArr) (i : Nat) (v : BitVec 64) : (s.setReg r i v).datum = s.datum := rfl
@[simp] theorem State.setReg_traverse (r : RegArr) (i : Nat) (v : BitVec 64) : (s.setReg r i v).traverse = s.traverse := rfl
@[simp] theorem State.setReg_guyline (r : RegArr) (i : Nat) (v : BitVec 64) : (s.setReg r i v).guyline = s.guyline := rfl
@[simp] theorem State.setReg_stadia (r : RegArr) (i : Nat) (v : BitVec 64) : (s.setReg r i v).stadia = s.stadia := rfl
@[simp] theorem State.setReg_tether (r : RegArr) (i : Nat) (v : BitVec 64) : (s.setReg r i v).tether = s.tether := rfl
@[simp] theorem State.setReg_trail (r : RegArr) (i : Nat) (v : BitVec 64) : (s.setReg r i v).trail = s.trail := rfl
@[simp] theorem State.setReg_book (r : RegArr) (i : Nat) (v : BitVec 64) : (s.setReg r i v).book = s.book := rfl
@[simp] theorem State.setReg_ident (r : RegArr) (i : Nat) (v : BitVec 64) : (s.setReg r i v).ident = s.ident := rfl
@[simp] theorem State.setReg_power (r : RegArr) (i : Nat) (v : BitVec 64) : (s.setReg r i v).power = s.power := rfl
@[simp] theorem State.setReg_bring (r : RegArr) (i : Nat) (v : BitVec 64) : (s.setReg r i v).bring = s.bring := rfl
@[simp] theorem State.setReg_pins (r : RegArr) (i : Nat) (v : BitVec 64) : (s.setReg r i v).pins = s.pins := rfl
@[simp] theorem State.setReg_sites (r : RegArr) (i : Nat) (v : BitVec 64) : (s.setReg r i v).sites = s.sites := rfl
@[simp] theorem State.setReg_free (r : RegArr) (i : Nat) (v : BitVec 64) : (s.setReg r i v).free = s.free := rfl

@[simp] theorem State.setFld_pending (f : RegField) (i x : Nat) : (s.setFld f i x).pending = s.pending := rfl
@[simp] theorem State.setFld_clk (f : RegField) (i x : Nat) : (s.setFld f i x).clk = s.clk := rfl
@[simp] theorem State.setFld_mem (f : RegField) (i x : Nat) : (s.setFld f i x).mem = s.mem := rfl
@[simp] theorem State.setFld_poison (f : RegField) (i x : Nat) : (s.setFld f i x).poison = s.poison := rfl
@[simp] theorem State.setFld_wordMarks (f : RegField) (i x : Nat) : (s.setFld f i x).wordMarks = s.wordMarks := rfl
@[simp] theorem State.setFld_flips (f : RegField) (i x : Nat) : (s.setFld f i x).flips = s.flips := rfl
@[simp] theorem State.setFld_ridge (f : RegField) (i x : Nat) : (s.setFld f i x).ridge = s.ridge := rfl
@[simp] theorem State.setFld_engines (f : RegField) (i x : Nat) : (s.setFld f i x).engines = s.engines := rfl
@[simp] theorem State.setFld_vecs (f : RegField) (i x : Nat) : (s.setFld f i x).vecs = s.vecs := rfl
@[simp] theorem State.setFld_stow (f : RegField) (i x : Nat) : (s.setFld f i x).stow = s.stow := rfl
@[simp] theorem State.setFld_ddr (f : RegField) (i x : Nat) : (s.setFld f i x).ddr = s.ddr := rfl
@[simp] theorem State.setFld_sched (f : RegField) (i x : Nat) : (s.setFld f i x).sched = s.sched := rfl
@[simp] theorem State.setFld_seq (f : RegField) (i x : Nat) : (s.setFld f i x).seq = s.seq := rfl
@[simp] theorem State.setFld_rings (f : RegField) (i x : Nat) : (s.setFld f i x).rings = s.rings := rfl
@[simp] theorem State.setFld_plumb (f : RegField) (i x : Nat) : (s.setFld f i x).plumb = s.plumb := rfl
@[simp] theorem State.setFld_sensors (f : RegField) (i x : Nat) : (s.setFld f i x).sensors = s.sensors := rfl
@[simp] theorem State.setFld_datum (f : RegField) (i x : Nat) : (s.setFld f i x).datum = s.datum := rfl
@[simp] theorem State.setFld_traverse (f : RegField) (i x : Nat) : (s.setFld f i x).traverse = s.traverse := rfl
@[simp] theorem State.setFld_guyline (f : RegField) (i x : Nat) : (s.setFld f i x).guyline = s.guyline := rfl
@[simp] theorem State.setFld_stadia (f : RegField) (i x : Nat) : (s.setFld f i x).stadia = s.stadia := rfl
@[simp] theorem State.setFld_tether (f : RegField) (i x : Nat) : (s.setFld f i x).tether = s.tether := rfl
@[simp] theorem State.setFld_trail (f : RegField) (i x : Nat) : (s.setFld f i x).trail = s.trail := rfl
@[simp] theorem State.setFld_book (f : RegField) (i x : Nat) : (s.setFld f i x).book = s.book := rfl
@[simp] theorem State.setFld_ident (f : RegField) (i x : Nat) : (s.setFld f i x).ident = s.ident := rfl
@[simp] theorem State.setFld_power (f : RegField) (i x : Nat) : (s.setFld f i x).power = s.power := rfl
@[simp] theorem State.setFld_bring (f : RegField) (i x : Nat) : (s.setFld f i x).bring = s.bring := rfl
@[simp] theorem State.setFld_pins (f : RegField) (i x : Nat) : (s.setFld f i x).pins = s.pins := rfl
@[simp] theorem State.setFld_sites (f : RegField) (i x : Nat) : (s.setFld f i x).sites = s.sites := rfl
@[simp] theorem State.setFld_free (f : RegField) (i x : Nat) : (s.setFld f i x).free = s.free := rfl

@[simp] theorem State.bump_pending (f : RegField) (i n : Nat) : (s.bump f i n).pending = s.pending := rfl
@[simp] theorem State.bump_clk (f : RegField) (i n : Nat) : (s.bump f i n).clk = s.clk := rfl
@[simp] theorem State.bump_mem (f : RegField) (i n : Nat) : (s.bump f i n).mem = s.mem := rfl
@[simp] theorem State.bump_poison (f : RegField) (i n : Nat) : (s.bump f i n).poison = s.poison := rfl
@[simp] theorem State.bump_wordMarks (f : RegField) (i n : Nat) : (s.bump f i n).wordMarks = s.wordMarks := rfl
@[simp] theorem State.bump_flips (f : RegField) (i n : Nat) : (s.bump f i n).flips = s.flips := rfl
@[simp] theorem State.bump_ridge (f : RegField) (i n : Nat) : (s.bump f i n).ridge = s.ridge := rfl
@[simp] theorem State.bump_engines (f : RegField) (i n : Nat) : (s.bump f i n).engines = s.engines := rfl
@[simp] theorem State.bump_vecs (f : RegField) (i n : Nat) : (s.bump f i n).vecs = s.vecs := rfl
@[simp] theorem State.bump_stow (f : RegField) (i n : Nat) : (s.bump f i n).stow = s.stow := rfl
@[simp] theorem State.bump_ddr (f : RegField) (i n : Nat) : (s.bump f i n).ddr = s.ddr := rfl
@[simp] theorem State.bump_sched (f : RegField) (i n : Nat) : (s.bump f i n).sched = s.sched := rfl
@[simp] theorem State.bump_seq (f : RegField) (i n : Nat) : (s.bump f i n).seq = s.seq := rfl
@[simp] theorem State.bump_rings (f : RegField) (i n : Nat) : (s.bump f i n).rings = s.rings := rfl
@[simp] theorem State.bump_plumb (f : RegField) (i n : Nat) : (s.bump f i n).plumb = s.plumb := rfl
@[simp] theorem State.bump_sensors (f : RegField) (i n : Nat) : (s.bump f i n).sensors = s.sensors := rfl
@[simp] theorem State.bump_datum (f : RegField) (i n : Nat) : (s.bump f i n).datum = s.datum := rfl
@[simp] theorem State.bump_traverse (f : RegField) (i n : Nat) : (s.bump f i n).traverse = s.traverse := rfl
@[simp] theorem State.bump_guyline (f : RegField) (i n : Nat) : (s.bump f i n).guyline = s.guyline := rfl
@[simp] theorem State.bump_stadia (f : RegField) (i n : Nat) : (s.bump f i n).stadia = s.stadia := rfl
@[simp] theorem State.bump_tether (f : RegField) (i n : Nat) : (s.bump f i n).tether = s.tether := rfl
@[simp] theorem State.bump_trail (f : RegField) (i n : Nat) : (s.bump f i n).trail = s.trail := rfl
@[simp] theorem State.bump_book (f : RegField) (i n : Nat) : (s.bump f i n).book = s.book := rfl
@[simp] theorem State.bump_ident (f : RegField) (i n : Nat) : (s.bump f i n).ident = s.ident := rfl
@[simp] theorem State.bump_power (f : RegField) (i n : Nat) : (s.bump f i n).power = s.power := rfl
@[simp] theorem State.bump_bring (f : RegField) (i n : Nat) : (s.bump f i n).bring = s.bring := rfl
@[simp] theorem State.bump_pins (f : RegField) (i n : Nat) : (s.bump f i n).pins = s.pins := rfl
@[simp] theorem State.bump_sites (f : RegField) (i n : Nat) : (s.bump f i n).sites = s.sites := rfl
@[simp] theorem State.bump_free (f : RegField) (i n : Nat) : (s.bump f i n).free = s.free := rfl

@[simp] theorem State.count_pending (f : RegField) (i n : Nat) : (s.count f i n).pending = s.pending := rfl
@[simp] theorem State.count_clk (f : RegField) (i n : Nat) : (s.count f i n).clk = s.clk := rfl
@[simp] theorem State.count_mem (f : RegField) (i n : Nat) : (s.count f i n).mem = s.mem := rfl
@[simp] theorem State.count_poison (f : RegField) (i n : Nat) : (s.count f i n).poison = s.poison := rfl
@[simp] theorem State.count_wordMarks (f : RegField) (i n : Nat) : (s.count f i n).wordMarks = s.wordMarks := rfl
@[simp] theorem State.count_flips (f : RegField) (i n : Nat) : (s.count f i n).flips = s.flips := rfl
@[simp] theorem State.count_ridge (f : RegField) (i n : Nat) : (s.count f i n).ridge = s.ridge := rfl
@[simp] theorem State.count_engines (f : RegField) (i n : Nat) : (s.count f i n).engines = s.engines := rfl
@[simp] theorem State.count_vecs (f : RegField) (i n : Nat) : (s.count f i n).vecs = s.vecs := rfl
@[simp] theorem State.count_stow (f : RegField) (i n : Nat) : (s.count f i n).stow = s.stow := rfl
@[simp] theorem State.count_ddr (f : RegField) (i n : Nat) : (s.count f i n).ddr = s.ddr := rfl
@[simp] theorem State.count_sched (f : RegField) (i n : Nat) : (s.count f i n).sched = s.sched := rfl
@[simp] theorem State.count_seq (f : RegField) (i n : Nat) : (s.count f i n).seq = s.seq := rfl
@[simp] theorem State.count_rings (f : RegField) (i n : Nat) : (s.count f i n).rings = s.rings := rfl
@[simp] theorem State.count_plumb (f : RegField) (i n : Nat) : (s.count f i n).plumb = s.plumb := rfl
@[simp] theorem State.count_sensors (f : RegField) (i n : Nat) : (s.count f i n).sensors = s.sensors := rfl
@[simp] theorem State.count_datum (f : RegField) (i n : Nat) : (s.count f i n).datum = s.datum := rfl
@[simp] theorem State.count_traverse (f : RegField) (i n : Nat) : (s.count f i n).traverse = s.traverse := rfl
@[simp] theorem State.count_guyline (f : RegField) (i n : Nat) : (s.count f i n).guyline = s.guyline := rfl
@[simp] theorem State.count_stadia (f : RegField) (i n : Nat) : (s.count f i n).stadia = s.stadia := rfl
@[simp] theorem State.count_tether (f : RegField) (i n : Nat) : (s.count f i n).tether = s.tether := rfl
@[simp] theorem State.count_trail (f : RegField) (i n : Nat) : (s.count f i n).trail = s.trail := rfl
@[simp] theorem State.count_book (f : RegField) (i n : Nat) : (s.count f i n).book = s.book := rfl
@[simp] theorem State.count_ident (f : RegField) (i n : Nat) : (s.count f i n).ident = s.ident := rfl
@[simp] theorem State.count_power (f : RegField) (i n : Nat) : (s.count f i n).power = s.power := rfl
@[simp] theorem State.count_bring (f : RegField) (i n : Nat) : (s.count f i n).bring = s.bring := rfl
@[simp] theorem State.count_pins (f : RegField) (i n : Nat) : (s.count f i n).pins = s.pins := rfl
@[simp] theorem State.count_sites (f : RegField) (i n : Nat) : (s.count f i n).sites = s.sites := rfl
@[simp] theorem State.count_free (f : RegField) (i n : Nat) : (s.count f i n).free = s.free := rfl

@[simp] theorem State.setFlag_pending (f : RegField) (i : Nat) : (s.setFlag f i).pending = s.pending := rfl
@[simp] theorem State.setFlag_clk (f : RegField) (i : Nat) : (s.setFlag f i).clk = s.clk := rfl
@[simp] theorem State.setFlag_mem (f : RegField) (i : Nat) : (s.setFlag f i).mem = s.mem := rfl
@[simp] theorem State.setFlag_poison (f : RegField) (i : Nat) : (s.setFlag f i).poison = s.poison := rfl
@[simp] theorem State.setFlag_wordMarks (f : RegField) (i : Nat) : (s.setFlag f i).wordMarks = s.wordMarks := rfl
@[simp] theorem State.setFlag_flips (f : RegField) (i : Nat) : (s.setFlag f i).flips = s.flips := rfl
@[simp] theorem State.setFlag_ridge (f : RegField) (i : Nat) : (s.setFlag f i).ridge = s.ridge := rfl
@[simp] theorem State.setFlag_engines (f : RegField) (i : Nat) : (s.setFlag f i).engines = s.engines := rfl
@[simp] theorem State.setFlag_vecs (f : RegField) (i : Nat) : (s.setFlag f i).vecs = s.vecs := rfl
@[simp] theorem State.setFlag_stow (f : RegField) (i : Nat) : (s.setFlag f i).stow = s.stow := rfl
@[simp] theorem State.setFlag_ddr (f : RegField) (i : Nat) : (s.setFlag f i).ddr = s.ddr := rfl
@[simp] theorem State.setFlag_sched (f : RegField) (i : Nat) : (s.setFlag f i).sched = s.sched := rfl
@[simp] theorem State.setFlag_seq (f : RegField) (i : Nat) : (s.setFlag f i).seq = s.seq := rfl
@[simp] theorem State.setFlag_rings (f : RegField) (i : Nat) : (s.setFlag f i).rings = s.rings := rfl
@[simp] theorem State.setFlag_plumb (f : RegField) (i : Nat) : (s.setFlag f i).plumb = s.plumb := rfl
@[simp] theorem State.setFlag_sensors (f : RegField) (i : Nat) : (s.setFlag f i).sensors = s.sensors := rfl
@[simp] theorem State.setFlag_datum (f : RegField) (i : Nat) : (s.setFlag f i).datum = s.datum := rfl
@[simp] theorem State.setFlag_traverse (f : RegField) (i : Nat) : (s.setFlag f i).traverse = s.traverse := rfl
@[simp] theorem State.setFlag_guyline (f : RegField) (i : Nat) : (s.setFlag f i).guyline = s.guyline := rfl
@[simp] theorem State.setFlag_stadia (f : RegField) (i : Nat) : (s.setFlag f i).stadia = s.stadia := rfl
@[simp] theorem State.setFlag_tether (f : RegField) (i : Nat) : (s.setFlag f i).tether = s.tether := rfl
@[simp] theorem State.setFlag_trail (f : RegField) (i : Nat) : (s.setFlag f i).trail = s.trail := rfl
@[simp] theorem State.setFlag_book (f : RegField) (i : Nat) : (s.setFlag f i).book = s.book := rfl
@[simp] theorem State.setFlag_ident (f : RegField) (i : Nat) : (s.setFlag f i).ident = s.ident := rfl
@[simp] theorem State.setFlag_power (f : RegField) (i : Nat) : (s.setFlag f i).power = s.power := rfl
@[simp] theorem State.setFlag_bring (f : RegField) (i : Nat) : (s.setFlag f i).bring = s.bring := rfl
@[simp] theorem State.setFlag_pins (f : RegField) (i : Nat) : (s.setFlag f i).pins = s.pins := rfl
@[simp] theorem State.setFlag_sites (f : RegField) (i : Nat) : (s.setFlag f i).sites = s.sites := rfl
@[simp] theorem State.setFlag_free (f : RegField) (i : Nat) : (s.setFlag f i).free = s.free := rfl

@[simp] theorem State.wrByte_pending (a : Nat) (b : Byte) : (s.wrByte a b).pending = s.pending := rfl
@[simp] theorem State.wrByte_clk (a : Nat) (b : Byte) : (s.wrByte a b).clk = s.clk := rfl
@[simp] theorem State.wrByte_regs (a : Nat) (b : Byte) : (s.wrByte a b).regs = s.regs := rfl
@[simp] theorem State.wrByte_poison (a : Nat) (b : Byte) : (s.wrByte a b).poison = s.poison := rfl
@[simp] theorem State.wrByte_wordMarks (a : Nat) (b : Byte) : (s.wrByte a b).wordMarks = s.wordMarks := rfl
@[simp] theorem State.wrByte_flips (a : Nat) (b : Byte) : (s.wrByte a b).flips = s.flips := rfl
@[simp] theorem State.wrByte_ridge (a : Nat) (b : Byte) : (s.wrByte a b).ridge = s.ridge := rfl
@[simp] theorem State.wrByte_engines (a : Nat) (b : Byte) : (s.wrByte a b).engines = s.engines := rfl
@[simp] theorem State.wrByte_vecs (a : Nat) (b : Byte) : (s.wrByte a b).vecs = s.vecs := rfl
@[simp] theorem State.wrByte_stow (a : Nat) (b : Byte) : (s.wrByte a b).stow = s.stow := rfl
@[simp] theorem State.wrByte_ddr (a : Nat) (b : Byte) : (s.wrByte a b).ddr = s.ddr := rfl
@[simp] theorem State.wrByte_sched (a : Nat) (b : Byte) : (s.wrByte a b).sched = s.sched := rfl
@[simp] theorem State.wrByte_seq (a : Nat) (b : Byte) : (s.wrByte a b).seq = s.seq := rfl
@[simp] theorem State.wrByte_rings (a : Nat) (b : Byte) : (s.wrByte a b).rings = s.rings := rfl
@[simp] theorem State.wrByte_plumb (a : Nat) (b : Byte) : (s.wrByte a b).plumb = s.plumb := rfl
@[simp] theorem State.wrByte_sensors (a : Nat) (b : Byte) : (s.wrByte a b).sensors = s.sensors := rfl
@[simp] theorem State.wrByte_datum (a : Nat) (b : Byte) : (s.wrByte a b).datum = s.datum := rfl
@[simp] theorem State.wrByte_traverse (a : Nat) (b : Byte) : (s.wrByte a b).traverse = s.traverse := rfl
@[simp] theorem State.wrByte_guyline (a : Nat) (b : Byte) : (s.wrByte a b).guyline = s.guyline := rfl
@[simp] theorem State.wrByte_stadia (a : Nat) (b : Byte) : (s.wrByte a b).stadia = s.stadia := rfl
@[simp] theorem State.wrByte_tether (a : Nat) (b : Byte) : (s.wrByte a b).tether = s.tether := rfl
@[simp] theorem State.wrByte_trail (a : Nat) (b : Byte) : (s.wrByte a b).trail = s.trail := rfl
@[simp] theorem State.wrByte_book (a : Nat) (b : Byte) : (s.wrByte a b).book = s.book := rfl
@[simp] theorem State.wrByte_ident (a : Nat) (b : Byte) : (s.wrByte a b).ident = s.ident := rfl
@[simp] theorem State.wrByte_power (a : Nat) (b : Byte) : (s.wrByte a b).power = s.power := rfl
@[simp] theorem State.wrByte_bring (a : Nat) (b : Byte) : (s.wrByte a b).bring = s.bring := rfl
@[simp] theorem State.wrByte_pins (a : Nat) (b : Byte) : (s.wrByte a b).pins = s.pins := rfl
@[simp] theorem State.wrByte_sites (a : Nat) (b : Byte) : (s.wrByte a b).sites = s.sites := rfl
@[simp] theorem State.wrByte_free (a : Nat) (b : Byte) : (s.wrByte a b).free = s.free := rfl

@[simp] theorem State.wrBytes_pending (a : Nat) (bs : List Byte) : (s.wrBytes a bs).pending = s.pending := rfl
@[simp] theorem State.wrBytes_clk (a : Nat) (bs : List Byte) : (s.wrBytes a bs).clk = s.clk := rfl
@[simp] theorem State.wrBytes_regs (a : Nat) (bs : List Byte) : (s.wrBytes a bs).regs = s.regs := rfl
@[simp] theorem State.wrBytes_poison (a : Nat) (bs : List Byte) : (s.wrBytes a bs).poison = s.poison := rfl
@[simp] theorem State.wrBytes_wordMarks (a : Nat) (bs : List Byte) : (s.wrBytes a bs).wordMarks = s.wordMarks := rfl
@[simp] theorem State.wrBytes_flips (a : Nat) (bs : List Byte) : (s.wrBytes a bs).flips = s.flips := rfl
@[simp] theorem State.wrBytes_ridge (a : Nat) (bs : List Byte) : (s.wrBytes a bs).ridge = s.ridge := rfl
@[simp] theorem State.wrBytes_engines (a : Nat) (bs : List Byte) : (s.wrBytes a bs).engines = s.engines := rfl
@[simp] theorem State.wrBytes_vecs (a : Nat) (bs : List Byte) : (s.wrBytes a bs).vecs = s.vecs := rfl
@[simp] theorem State.wrBytes_stow (a : Nat) (bs : List Byte) : (s.wrBytes a bs).stow = s.stow := rfl
@[simp] theorem State.wrBytes_ddr (a : Nat) (bs : List Byte) : (s.wrBytes a bs).ddr = s.ddr := rfl
@[simp] theorem State.wrBytes_sched (a : Nat) (bs : List Byte) : (s.wrBytes a bs).sched = s.sched := rfl
@[simp] theorem State.wrBytes_seq (a : Nat) (bs : List Byte) : (s.wrBytes a bs).seq = s.seq := rfl
@[simp] theorem State.wrBytes_rings (a : Nat) (bs : List Byte) : (s.wrBytes a bs).rings = s.rings := rfl
@[simp] theorem State.wrBytes_plumb (a : Nat) (bs : List Byte) : (s.wrBytes a bs).plumb = s.plumb := rfl
@[simp] theorem State.wrBytes_sensors (a : Nat) (bs : List Byte) : (s.wrBytes a bs).sensors = s.sensors := rfl
@[simp] theorem State.wrBytes_datum (a : Nat) (bs : List Byte) : (s.wrBytes a bs).datum = s.datum := rfl
@[simp] theorem State.wrBytes_traverse (a : Nat) (bs : List Byte) : (s.wrBytes a bs).traverse = s.traverse := rfl
@[simp] theorem State.wrBytes_guyline (a : Nat) (bs : List Byte) : (s.wrBytes a bs).guyline = s.guyline := rfl
@[simp] theorem State.wrBytes_stadia (a : Nat) (bs : List Byte) : (s.wrBytes a bs).stadia = s.stadia := rfl
@[simp] theorem State.wrBytes_tether (a : Nat) (bs : List Byte) : (s.wrBytes a bs).tether = s.tether := rfl
@[simp] theorem State.wrBytes_trail (a : Nat) (bs : List Byte) : (s.wrBytes a bs).trail = s.trail := rfl
@[simp] theorem State.wrBytes_book (a : Nat) (bs : List Byte) : (s.wrBytes a bs).book = s.book := rfl
@[simp] theorem State.wrBytes_ident (a : Nat) (bs : List Byte) : (s.wrBytes a bs).ident = s.ident := rfl
@[simp] theorem State.wrBytes_power (a : Nat) (bs : List Byte) : (s.wrBytes a bs).power = s.power := rfl
@[simp] theorem State.wrBytes_bring (a : Nat) (bs : List Byte) : (s.wrBytes a bs).bring = s.bring := rfl
@[simp] theorem State.wrBytes_pins (a : Nat) (bs : List Byte) : (s.wrBytes a bs).pins = s.pins := rfl
@[simp] theorem State.wrBytes_sites (a : Nat) (bs : List Byte) : (s.wrBytes a bs).sites = s.sites := rfl
@[simp] theorem State.wrBytes_free (a : Nat) (bs : List Byte) : (s.wrBytes a bs).free = s.free := rfl

@[simp] theorem State.setPoisonAt_pending (a : Nat) (p : Bool) : (s.setPoisonAt a p).pending = s.pending := rfl
@[simp] theorem State.setPoisonAt_clk (a : Nat) (p : Bool) : (s.setPoisonAt a p).clk = s.clk := rfl
@[simp] theorem State.setPoisonAt_regs (a : Nat) (p : Bool) : (s.setPoisonAt a p).regs = s.regs := rfl
@[simp] theorem State.setPoisonAt_mem (a : Nat) (p : Bool) : (s.setPoisonAt a p).mem = s.mem := rfl
@[simp] theorem State.setPoisonAt_flips (a : Nat) (p : Bool) : (s.setPoisonAt a p).flips = s.flips := rfl
@[simp] theorem State.setPoisonAt_ridge (a : Nat) (p : Bool) : (s.setPoisonAt a p).ridge = s.ridge := rfl
@[simp] theorem State.setPoisonAt_engines (a : Nat) (p : Bool) : (s.setPoisonAt a p).engines = s.engines := rfl
@[simp] theorem State.setPoisonAt_vecs (a : Nat) (p : Bool) : (s.setPoisonAt a p).vecs = s.vecs := rfl
@[simp] theorem State.setPoisonAt_stow (a : Nat) (p : Bool) : (s.setPoisonAt a p).stow = s.stow := rfl
@[simp] theorem State.setPoisonAt_ddr (a : Nat) (p : Bool) : (s.setPoisonAt a p).ddr = s.ddr := rfl
@[simp] theorem State.setPoisonAt_sched (a : Nat) (p : Bool) : (s.setPoisonAt a p).sched = s.sched := rfl
@[simp] theorem State.setPoisonAt_seq (a : Nat) (p : Bool) : (s.setPoisonAt a p).seq = s.seq := rfl
@[simp] theorem State.setPoisonAt_rings (a : Nat) (p : Bool) : (s.setPoisonAt a p).rings = s.rings := rfl
@[simp] theorem State.setPoisonAt_plumb (a : Nat) (p : Bool) : (s.setPoisonAt a p).plumb = s.plumb := rfl
@[simp] theorem State.setPoisonAt_sensors (a : Nat) (p : Bool) : (s.setPoisonAt a p).sensors = s.sensors := rfl
@[simp] theorem State.setPoisonAt_datum (a : Nat) (p : Bool) : (s.setPoisonAt a p).datum = s.datum := rfl
@[simp] theorem State.setPoisonAt_traverse (a : Nat) (p : Bool) : (s.setPoisonAt a p).traverse = s.traverse := rfl
@[simp] theorem State.setPoisonAt_guyline (a : Nat) (p : Bool) : (s.setPoisonAt a p).guyline = s.guyline := rfl
@[simp] theorem State.setPoisonAt_stadia (a : Nat) (p : Bool) : (s.setPoisonAt a p).stadia = s.stadia := rfl
@[simp] theorem State.setPoisonAt_tether (a : Nat) (p : Bool) : (s.setPoisonAt a p).tether = s.tether := rfl
@[simp] theorem State.setPoisonAt_trail (a : Nat) (p : Bool) : (s.setPoisonAt a p).trail = s.trail := rfl
@[simp] theorem State.setPoisonAt_book (a : Nat) (p : Bool) : (s.setPoisonAt a p).book = s.book := rfl
@[simp] theorem State.setPoisonAt_ident (a : Nat) (p : Bool) : (s.setPoisonAt a p).ident = s.ident := rfl
@[simp] theorem State.setPoisonAt_power (a : Nat) (p : Bool) : (s.setPoisonAt a p).power = s.power := rfl
@[simp] theorem State.setPoisonAt_bring (a : Nat) (p : Bool) : (s.setPoisonAt a p).bring = s.bring := rfl
@[simp] theorem State.setPoisonAt_pins (a : Nat) (p : Bool) : (s.setPoisonAt a p).pins = s.pins := rfl
@[simp] theorem State.setPoisonAt_sites (a : Nat) (p : Bool) : (s.setPoisonAt a p).sites = s.sites := rfl
@[simp] theorem State.setPoisonAt_free (a : Nat) (p : Bool) : (s.setPoisonAt a p).free = s.free := rfl

@[simp] theorem State.markRange_pending (a n : Nat) (p : Bool) : (s.markRange a n p).pending = s.pending := rfl
@[simp] theorem State.markRange_clk (a n : Nat) (p : Bool) : (s.markRange a n p).clk = s.clk := rfl
@[simp] theorem State.markRange_regs (a n : Nat) (p : Bool) : (s.markRange a n p).regs = s.regs := rfl
@[simp] theorem State.markRange_mem (a n : Nat) (p : Bool) : (s.markRange a n p).mem = s.mem := rfl
@[simp] theorem State.markRange_flips (a n : Nat) (p : Bool) : (s.markRange a n p).flips = s.flips := rfl
@[simp] theorem State.markRange_ridge (a n : Nat) (p : Bool) : (s.markRange a n p).ridge = s.ridge := rfl
@[simp] theorem State.markRange_engines (a n : Nat) (p : Bool) : (s.markRange a n p).engines = s.engines := rfl
@[simp] theorem State.markRange_vecs (a n : Nat) (p : Bool) : (s.markRange a n p).vecs = s.vecs := rfl
@[simp] theorem State.markRange_stow (a n : Nat) (p : Bool) : (s.markRange a n p).stow = s.stow := rfl
@[simp] theorem State.markRange_ddr (a n : Nat) (p : Bool) : (s.markRange a n p).ddr = s.ddr := rfl
@[simp] theorem State.markRange_sched (a n : Nat) (p : Bool) : (s.markRange a n p).sched = s.sched := rfl
@[simp] theorem State.markRange_seq (a n : Nat) (p : Bool) : (s.markRange a n p).seq = s.seq := rfl
@[simp] theorem State.markRange_rings (a n : Nat) (p : Bool) : (s.markRange a n p).rings = s.rings := rfl
@[simp] theorem State.markRange_plumb (a n : Nat) (p : Bool) : (s.markRange a n p).plumb = s.plumb := rfl
@[simp] theorem State.markRange_sensors (a n : Nat) (p : Bool) : (s.markRange a n p).sensors = s.sensors := rfl
@[simp] theorem State.markRange_datum (a n : Nat) (p : Bool) : (s.markRange a n p).datum = s.datum := rfl
@[simp] theorem State.markRange_traverse (a n : Nat) (p : Bool) : (s.markRange a n p).traverse = s.traverse := rfl
@[simp] theorem State.markRange_guyline (a n : Nat) (p : Bool) : (s.markRange a n p).guyline = s.guyline := rfl
@[simp] theorem State.markRange_stadia (a n : Nat) (p : Bool) : (s.markRange a n p).stadia = s.stadia := rfl
@[simp] theorem State.markRange_tether (a n : Nat) (p : Bool) : (s.markRange a n p).tether = s.tether := rfl
@[simp] theorem State.markRange_trail (a n : Nat) (p : Bool) : (s.markRange a n p).trail = s.trail := rfl
@[simp] theorem State.markRange_book (a n : Nat) (p : Bool) : (s.markRange a n p).book = s.book := rfl
@[simp] theorem State.markRange_ident (a n : Nat) (p : Bool) : (s.markRange a n p).ident = s.ident := rfl
@[simp] theorem State.markRange_power (a n : Nat) (p : Bool) : (s.markRange a n p).power = s.power := rfl
@[simp] theorem State.markRange_bring (a n : Nat) (p : Bool) : (s.markRange a n p).bring = s.bring := rfl
@[simp] theorem State.markRange_pins (a n : Nat) (p : Bool) : (s.markRange a n p).pins = s.pins := rfl
@[simp] theorem State.markRange_sites (a n : Nat) (p : Bool) : (s.markRange a n p).sites = s.sites := rfl
@[simp] theorem State.markRange_free (a n : Nat) (p : Bool) : (s.markRange a n p).free = s.free := rfl

@[simp] theorem State.wrMarked_pending (a : Nat) (bs : List Byte) (p : Bool) : (s.wrMarked a bs p).pending = s.pending := rfl
@[simp] theorem State.wrMarked_clk (a : Nat) (bs : List Byte) (p : Bool) : (s.wrMarked a bs p).clk = s.clk := rfl
@[simp] theorem State.wrMarked_regs (a : Nat) (bs : List Byte) (p : Bool) : (s.wrMarked a bs p).regs = s.regs := rfl
@[simp] theorem State.wrMarked_flips (a : Nat) (bs : List Byte) (p : Bool) : (s.wrMarked a bs p).flips = s.flips := rfl
@[simp] theorem State.wrMarked_ridge (a : Nat) (bs : List Byte) (p : Bool) : (s.wrMarked a bs p).ridge = s.ridge := rfl
@[simp] theorem State.wrMarked_engines (a : Nat) (bs : List Byte) (p : Bool) : (s.wrMarked a bs p).engines = s.engines := rfl
@[simp] theorem State.wrMarked_vecs (a : Nat) (bs : List Byte) (p : Bool) : (s.wrMarked a bs p).vecs = s.vecs := rfl
@[simp] theorem State.wrMarked_stow (a : Nat) (bs : List Byte) (p : Bool) : (s.wrMarked a bs p).stow = s.stow := rfl
@[simp] theorem State.wrMarked_ddr (a : Nat) (bs : List Byte) (p : Bool) : (s.wrMarked a bs p).ddr = s.ddr := rfl
@[simp] theorem State.wrMarked_sched (a : Nat) (bs : List Byte) (p : Bool) : (s.wrMarked a bs p).sched = s.sched := rfl
@[simp] theorem State.wrMarked_seq (a : Nat) (bs : List Byte) (p : Bool) : (s.wrMarked a bs p).seq = s.seq := rfl
@[simp] theorem State.wrMarked_rings (a : Nat) (bs : List Byte) (p : Bool) : (s.wrMarked a bs p).rings = s.rings := rfl
@[simp] theorem State.wrMarked_plumb (a : Nat) (bs : List Byte) (p : Bool) : (s.wrMarked a bs p).plumb = s.plumb := rfl
@[simp] theorem State.wrMarked_sensors (a : Nat) (bs : List Byte) (p : Bool) : (s.wrMarked a bs p).sensors = s.sensors := rfl
@[simp] theorem State.wrMarked_datum (a : Nat) (bs : List Byte) (p : Bool) : (s.wrMarked a bs p).datum = s.datum := rfl
@[simp] theorem State.wrMarked_traverse (a : Nat) (bs : List Byte) (p : Bool) : (s.wrMarked a bs p).traverse = s.traverse := rfl
@[simp] theorem State.wrMarked_guyline (a : Nat) (bs : List Byte) (p : Bool) : (s.wrMarked a bs p).guyline = s.guyline := rfl
@[simp] theorem State.wrMarked_stadia (a : Nat) (bs : List Byte) (p : Bool) : (s.wrMarked a bs p).stadia = s.stadia := rfl
@[simp] theorem State.wrMarked_tether (a : Nat) (bs : List Byte) (p : Bool) : (s.wrMarked a bs p).tether = s.tether := rfl
@[simp] theorem State.wrMarked_trail (a : Nat) (bs : List Byte) (p : Bool) : (s.wrMarked a bs p).trail = s.trail := rfl
@[simp] theorem State.wrMarked_book (a : Nat) (bs : List Byte) (p : Bool) : (s.wrMarked a bs p).book = s.book := rfl
@[simp] theorem State.wrMarked_ident (a : Nat) (bs : List Byte) (p : Bool) : (s.wrMarked a bs p).ident = s.ident := rfl
@[simp] theorem State.wrMarked_power (a : Nat) (bs : List Byte) (p : Bool) : (s.wrMarked a bs p).power = s.power := rfl
@[simp] theorem State.wrMarked_bring (a : Nat) (bs : List Byte) (p : Bool) : (s.wrMarked a bs p).bring = s.bring := rfl
@[simp] theorem State.wrMarked_pins (a : Nat) (bs : List Byte) (p : Bool) : (s.wrMarked a bs p).pins = s.pins := rfl
@[simp] theorem State.wrMarked_sites (a : Nat) (bs : List Byte) (p : Bool) : (s.wrMarked a bs p).sites = s.sites := rfl
@[simp] theorem State.wrMarked_free (a : Nat) (bs : List Byte) (p : Bool) : (s.wrMarked a bs p).free = s.free := rfl

@[simp] theorem State.dropRange_pending (a n : Nat) : (s.dropRange a n).pending = s.pending := rfl
@[simp] theorem State.dropRange_clk (a n : Nat) : (s.dropRange a n).clk = s.clk := rfl
@[simp] theorem State.dropRange_regs (a n : Nat) : (s.dropRange a n).regs = s.regs := rfl
@[simp] theorem State.dropRange_flips (a n : Nat) : (s.dropRange a n).flips = s.flips := rfl
@[simp] theorem State.dropRange_ridge (a n : Nat) : (s.dropRange a n).ridge = s.ridge := rfl
@[simp] theorem State.dropRange_engines (a n : Nat) : (s.dropRange a n).engines = s.engines := rfl
@[simp] theorem State.dropRange_vecs (a n : Nat) : (s.dropRange a n).vecs = s.vecs := rfl
@[simp] theorem State.dropRange_stow (a n : Nat) : (s.dropRange a n).stow = s.stow := rfl
@[simp] theorem State.dropRange_ddr (a n : Nat) : (s.dropRange a n).ddr = s.ddr := rfl
@[simp] theorem State.dropRange_sched (a n : Nat) : (s.dropRange a n).sched = s.sched := rfl
@[simp] theorem State.dropRange_seq (a n : Nat) : (s.dropRange a n).seq = s.seq := rfl
@[simp] theorem State.dropRange_rings (a n : Nat) : (s.dropRange a n).rings = s.rings := rfl
@[simp] theorem State.dropRange_plumb (a n : Nat) : (s.dropRange a n).plumb = s.plumb := rfl
@[simp] theorem State.dropRange_sensors (a n : Nat) : (s.dropRange a n).sensors = s.sensors := rfl
@[simp] theorem State.dropRange_datum (a n : Nat) : (s.dropRange a n).datum = s.datum := rfl
@[simp] theorem State.dropRange_traverse (a n : Nat) : (s.dropRange a n).traverse = s.traverse := rfl
@[simp] theorem State.dropRange_guyline (a n : Nat) : (s.dropRange a n).guyline = s.guyline := rfl
@[simp] theorem State.dropRange_stadia (a n : Nat) : (s.dropRange a n).stadia = s.stadia := rfl
@[simp] theorem State.dropRange_tether (a n : Nat) : (s.dropRange a n).tether = s.tether := rfl
@[simp] theorem State.dropRange_trail (a n : Nat) : (s.dropRange a n).trail = s.trail := rfl
@[simp] theorem State.dropRange_book (a n : Nat) : (s.dropRange a n).book = s.book := rfl
@[simp] theorem State.dropRange_ident (a n : Nat) : (s.dropRange a n).ident = s.ident := rfl
@[simp] theorem State.dropRange_power (a n : Nat) : (s.dropRange a n).power = s.power := rfl
@[simp] theorem State.dropRange_bring (a n : Nat) : (s.dropRange a n).bring = s.bring := rfl
@[simp] theorem State.dropRange_pins (a n : Nat) : (s.dropRange a n).pins = s.pins := rfl
@[simp] theorem State.dropRange_sites (a n : Nat) : (s.dropRange a n).sites = s.sites := rfl
@[simp] theorem State.dropRange_free (a n : Nat) : (s.dropRange a n).free = s.free := rfl

@[simp] theorem State.setEngine_pending (n : Nat) (e : Engine) : (s.setEngine n e).pending = s.pending := rfl
@[simp] theorem State.setEngine_clk (n : Nat) (e : Engine) : (s.setEngine n e).clk = s.clk := rfl
@[simp] theorem State.setEngine_regs (n : Nat) (e : Engine) : (s.setEngine n e).regs = s.regs := rfl
@[simp] theorem State.setEngine_mem (n : Nat) (e : Engine) : (s.setEngine n e).mem = s.mem := rfl
@[simp] theorem State.setEngine_poison (n : Nat) (e : Engine) : (s.setEngine n e).poison = s.poison := rfl
@[simp] theorem State.setEngine_wordMarks (n : Nat) (e : Engine) : (s.setEngine n e).wordMarks = s.wordMarks := rfl
@[simp] theorem State.setEngine_flips (n : Nat) (e : Engine) : (s.setEngine n e).flips = s.flips := rfl
@[simp] theorem State.setEngine_ridge (n : Nat) (e : Engine) : (s.setEngine n e).ridge = s.ridge := rfl
@[simp] theorem State.setEngine_vecs (n : Nat) (e : Engine) : (s.setEngine n e).vecs = s.vecs := rfl
@[simp] theorem State.setEngine_stow (n : Nat) (e : Engine) : (s.setEngine n e).stow = s.stow := rfl
@[simp] theorem State.setEngine_ddr (n : Nat) (e : Engine) : (s.setEngine n e).ddr = s.ddr := rfl
@[simp] theorem State.setEngine_sched (n : Nat) (e : Engine) : (s.setEngine n e).sched = s.sched := rfl
@[simp] theorem State.setEngine_seq (n : Nat) (e : Engine) : (s.setEngine n e).seq = s.seq := rfl
@[simp] theorem State.setEngine_rings (n : Nat) (e : Engine) : (s.setEngine n e).rings = s.rings := rfl
@[simp] theorem State.setEngine_plumb (n : Nat) (e : Engine) : (s.setEngine n e).plumb = s.plumb := rfl
@[simp] theorem State.setEngine_sensors (n : Nat) (e : Engine) : (s.setEngine n e).sensors = s.sensors := rfl
@[simp] theorem State.setEngine_datum (n : Nat) (e : Engine) : (s.setEngine n e).datum = s.datum := rfl
@[simp] theorem State.setEngine_traverse (n : Nat) (e : Engine) : (s.setEngine n e).traverse = s.traverse := rfl
@[simp] theorem State.setEngine_guyline (n : Nat) (e : Engine) : (s.setEngine n e).guyline = s.guyline := rfl
@[simp] theorem State.setEngine_stadia (n : Nat) (e : Engine) : (s.setEngine n e).stadia = s.stadia := rfl
@[simp] theorem State.setEngine_tether (n : Nat) (e : Engine) : (s.setEngine n e).tether = s.tether := rfl
@[simp] theorem State.setEngine_trail (n : Nat) (e : Engine) : (s.setEngine n e).trail = s.trail := rfl
@[simp] theorem State.setEngine_book (n : Nat) (e : Engine) : (s.setEngine n e).book = s.book := rfl
@[simp] theorem State.setEngine_ident (n : Nat) (e : Engine) : (s.setEngine n e).ident = s.ident := rfl
@[simp] theorem State.setEngine_power (n : Nat) (e : Engine) : (s.setEngine n e).power = s.power := rfl
@[simp] theorem State.setEngine_bring (n : Nat) (e : Engine) : (s.setEngine n e).bring = s.bring := rfl
@[simp] theorem State.setEngine_pins (n : Nat) (e : Engine) : (s.setEngine n e).pins = s.pins := rfl
@[simp] theorem State.setEngine_sites (n : Nat) (e : Engine) : (s.setEngine n e).sites = s.sites := rfl
@[simp] theorem State.setEngine_free (n : Nat) (e : Engine) : (s.setEngine n e).free = s.free := rfl

@[simp] theorem State.setVec_pending (c : Nat) (v : VecUnit) : (s.setVec c v).pending = s.pending := rfl
@[simp] theorem State.setVec_clk (c : Nat) (v : VecUnit) : (s.setVec c v).clk = s.clk := rfl
@[simp] theorem State.setVec_regs (c : Nat) (v : VecUnit) : (s.setVec c v).regs = s.regs := rfl
@[simp] theorem State.setVec_mem (c : Nat) (v : VecUnit) : (s.setVec c v).mem = s.mem := rfl
@[simp] theorem State.setVec_poison (c : Nat) (v : VecUnit) : (s.setVec c v).poison = s.poison := rfl
@[simp] theorem State.setVec_wordMarks (c : Nat) (v : VecUnit) : (s.setVec c v).wordMarks = s.wordMarks := rfl
@[simp] theorem State.setVec_flips (c : Nat) (v : VecUnit) : (s.setVec c v).flips = s.flips := rfl
@[simp] theorem State.setVec_ridge (c : Nat) (v : VecUnit) : (s.setVec c v).ridge = s.ridge := rfl
@[simp] theorem State.setVec_engines (c : Nat) (v : VecUnit) : (s.setVec c v).engines = s.engines := rfl
@[simp] theorem State.setVec_stow (c : Nat) (v : VecUnit) : (s.setVec c v).stow = s.stow := rfl
@[simp] theorem State.setVec_ddr (c : Nat) (v : VecUnit) : (s.setVec c v).ddr = s.ddr := rfl
@[simp] theorem State.setVec_sched (c : Nat) (v : VecUnit) : (s.setVec c v).sched = s.sched := rfl
@[simp] theorem State.setVec_seq (c : Nat) (v : VecUnit) : (s.setVec c v).seq = s.seq := rfl
@[simp] theorem State.setVec_rings (c : Nat) (v : VecUnit) : (s.setVec c v).rings = s.rings := rfl
@[simp] theorem State.setVec_plumb (c : Nat) (v : VecUnit) : (s.setVec c v).plumb = s.plumb := rfl
@[simp] theorem State.setVec_sensors (c : Nat) (v : VecUnit) : (s.setVec c v).sensors = s.sensors := rfl
@[simp] theorem State.setVec_datum (c : Nat) (v : VecUnit) : (s.setVec c v).datum = s.datum := rfl
@[simp] theorem State.setVec_traverse (c : Nat) (v : VecUnit) : (s.setVec c v).traverse = s.traverse := rfl
@[simp] theorem State.setVec_guyline (c : Nat) (v : VecUnit) : (s.setVec c v).guyline = s.guyline := rfl
@[simp] theorem State.setVec_stadia (c : Nat) (v : VecUnit) : (s.setVec c v).stadia = s.stadia := rfl
@[simp] theorem State.setVec_tether (c : Nat) (v : VecUnit) : (s.setVec c v).tether = s.tether := rfl
@[simp] theorem State.setVec_trail (c : Nat) (v : VecUnit) : (s.setVec c v).trail = s.trail := rfl
@[simp] theorem State.setVec_book (c : Nat) (v : VecUnit) : (s.setVec c v).book = s.book := rfl
@[simp] theorem State.setVec_ident (c : Nat) (v : VecUnit) : (s.setVec c v).ident = s.ident := rfl
@[simp] theorem State.setVec_power (c : Nat) (v : VecUnit) : (s.setVec c v).power = s.power := rfl
@[simp] theorem State.setVec_bring (c : Nat) (v : VecUnit) : (s.setVec c v).bring = s.bring := rfl
@[simp] theorem State.setVec_pins (c : Nat) (v : VecUnit) : (s.setVec c v).pins = s.pins := rfl
@[simp] theorem State.setVec_sites (c : Nat) (v : VecUnit) : (s.setVec c v).sites = s.sites := rfl
@[simp] theorem State.setVec_free (c : Nat) (v : VecUnit) : (s.setVec c v).free = s.free := rfl

@[simp] theorem State.setChan_pending (ch : Nat) (d : DdrChan) : (s.setChan ch d).pending = s.pending := rfl
@[simp] theorem State.setChan_clk (ch : Nat) (d : DdrChan) : (s.setChan ch d).clk = s.clk := rfl
@[simp] theorem State.setChan_regs (ch : Nat) (d : DdrChan) : (s.setChan ch d).regs = s.regs := rfl
@[simp] theorem State.setChan_mem (ch : Nat) (d : DdrChan) : (s.setChan ch d).mem = s.mem := rfl
@[simp] theorem State.setChan_poison (ch : Nat) (d : DdrChan) : (s.setChan ch d).poison = s.poison := rfl
@[simp] theorem State.setChan_wordMarks (ch : Nat) (d : DdrChan) : (s.setChan ch d).wordMarks = s.wordMarks := rfl
@[simp] theorem State.setChan_flips (ch : Nat) (d : DdrChan) : (s.setChan ch d).flips = s.flips := rfl
@[simp] theorem State.setChan_ridge (ch : Nat) (d : DdrChan) : (s.setChan ch d).ridge = s.ridge := rfl
@[simp] theorem State.setChan_engines (ch : Nat) (d : DdrChan) : (s.setChan ch d).engines = s.engines := rfl
@[simp] theorem State.setChan_vecs (ch : Nat) (d : DdrChan) : (s.setChan ch d).vecs = s.vecs := rfl
@[simp] theorem State.setChan_stow (ch : Nat) (d : DdrChan) : (s.setChan ch d).stow = s.stow := rfl
@[simp] theorem State.setChan_sched (ch : Nat) (d : DdrChan) : (s.setChan ch d).sched = s.sched := rfl
@[simp] theorem State.setChan_seq (ch : Nat) (d : DdrChan) : (s.setChan ch d).seq = s.seq := rfl
@[simp] theorem State.setChan_rings (ch : Nat) (d : DdrChan) : (s.setChan ch d).rings = s.rings := rfl
@[simp] theorem State.setChan_plumb (ch : Nat) (d : DdrChan) : (s.setChan ch d).plumb = s.plumb := rfl
@[simp] theorem State.setChan_sensors (ch : Nat) (d : DdrChan) : (s.setChan ch d).sensors = s.sensors := rfl
@[simp] theorem State.setChan_datum (ch : Nat) (d : DdrChan) : (s.setChan ch d).datum = s.datum := rfl
@[simp] theorem State.setChan_traverse (ch : Nat) (d : DdrChan) : (s.setChan ch d).traverse = s.traverse := rfl
@[simp] theorem State.setChan_guyline (ch : Nat) (d : DdrChan) : (s.setChan ch d).guyline = s.guyline := rfl
@[simp] theorem State.setChan_stadia (ch : Nat) (d : DdrChan) : (s.setChan ch d).stadia = s.stadia := rfl
@[simp] theorem State.setChan_tether (ch : Nat) (d : DdrChan) : (s.setChan ch d).tether = s.tether := rfl
@[simp] theorem State.setChan_trail (ch : Nat) (d : DdrChan) : (s.setChan ch d).trail = s.trail := rfl
@[simp] theorem State.setChan_book (ch : Nat) (d : DdrChan) : (s.setChan ch d).book = s.book := rfl
@[simp] theorem State.setChan_ident (ch : Nat) (d : DdrChan) : (s.setChan ch d).ident = s.ident := rfl
@[simp] theorem State.setChan_power (ch : Nat) (d : DdrChan) : (s.setChan ch d).power = s.power := rfl
@[simp] theorem State.setChan_bring (ch : Nat) (d : DdrChan) : (s.setChan ch d).bring = s.bring := rfl
@[simp] theorem State.setChan_pins (ch : Nat) (d : DdrChan) : (s.setChan ch d).pins = s.pins := rfl
@[simp] theorem State.setChan_sites (ch : Nat) (d : DdrChan) : (s.setChan ch d).sites = s.sites := rfl
@[simp] theorem State.setChan_free (ch : Nat) (d : DdrChan) : (s.setChan ch d).free = s.free := rfl

@[simp] theorem State.setSite_pending (i : Nat) (f : FaultSite) : (s.setSite i f).pending = s.pending := rfl
@[simp] theorem State.setSite_clk (i : Nat) (f : FaultSite) : (s.setSite i f).clk = s.clk := rfl
@[simp] theorem State.setSite_regs (i : Nat) (f : FaultSite) : (s.setSite i f).regs = s.regs := rfl
@[simp] theorem State.setSite_mem (i : Nat) (f : FaultSite) : (s.setSite i f).mem = s.mem := rfl
@[simp] theorem State.setSite_poison (i : Nat) (f : FaultSite) : (s.setSite i f).poison = s.poison := rfl
@[simp] theorem State.setSite_wordMarks (i : Nat) (f : FaultSite) : (s.setSite i f).wordMarks = s.wordMarks := rfl
@[simp] theorem State.setSite_flips (i : Nat) (f : FaultSite) : (s.setSite i f).flips = s.flips := rfl
@[simp] theorem State.setSite_ridge (i : Nat) (f : FaultSite) : (s.setSite i f).ridge = s.ridge := rfl
@[simp] theorem State.setSite_engines (i : Nat) (f : FaultSite) : (s.setSite i f).engines = s.engines := rfl
@[simp] theorem State.setSite_vecs (i : Nat) (f : FaultSite) : (s.setSite i f).vecs = s.vecs := rfl
@[simp] theorem State.setSite_stow (i : Nat) (f : FaultSite) : (s.setSite i f).stow = s.stow := rfl
@[simp] theorem State.setSite_ddr (i : Nat) (f : FaultSite) : (s.setSite i f).ddr = s.ddr := rfl
@[simp] theorem State.setSite_sched (i : Nat) (f : FaultSite) : (s.setSite i f).sched = s.sched := rfl
@[simp] theorem State.setSite_seq (i : Nat) (f : FaultSite) : (s.setSite i f).seq = s.seq := rfl
@[simp] theorem State.setSite_rings (i : Nat) (f : FaultSite) : (s.setSite i f).rings = s.rings := rfl
@[simp] theorem State.setSite_plumb (i : Nat) (f : FaultSite) : (s.setSite i f).plumb = s.plumb := rfl
@[simp] theorem State.setSite_sensors (i : Nat) (f : FaultSite) : (s.setSite i f).sensors = s.sensors := rfl
@[simp] theorem State.setSite_datum (i : Nat) (f : FaultSite) : (s.setSite i f).datum = s.datum := rfl
@[simp] theorem State.setSite_traverse (i : Nat) (f : FaultSite) : (s.setSite i f).traverse = s.traverse := rfl
@[simp] theorem State.setSite_guyline (i : Nat) (f : FaultSite) : (s.setSite i f).guyline = s.guyline := rfl
@[simp] theorem State.setSite_stadia (i : Nat) (f : FaultSite) : (s.setSite i f).stadia = s.stadia := rfl
@[simp] theorem State.setSite_tether (i : Nat) (f : FaultSite) : (s.setSite i f).tether = s.tether := rfl
@[simp] theorem State.setSite_trail (i : Nat) (f : FaultSite) : (s.setSite i f).trail = s.trail := rfl
@[simp] theorem State.setSite_book (i : Nat) (f : FaultSite) : (s.setSite i f).book = s.book := rfl
@[simp] theorem State.setSite_ident (i : Nat) (f : FaultSite) : (s.setSite i f).ident = s.ident := rfl
@[simp] theorem State.setSite_power (i : Nat) (f : FaultSite) : (s.setSite i f).power = s.power := rfl
@[simp] theorem State.setSite_bring (i : Nat) (f : FaultSite) : (s.setSite i f).bring = s.bring := rfl
@[simp] theorem State.setSite_pins (i : Nat) (f : FaultSite) : (s.setSite i f).pins = s.pins := rfl
@[simp] theorem State.setSite_free (i : Nat) (f : FaultSite) : (s.setSite i f).free = s.free := rfl

@[simp] theorem State.setLot_pending (l : Nat) (e : Lot) : (s.setLot l e).pending = s.pending := rfl
@[simp] theorem State.setLot_clk (l : Nat) (e : Lot) : (s.setLot l e).clk = s.clk := rfl
@[simp] theorem State.setLot_regs (l : Nat) (e : Lot) : (s.setLot l e).regs = s.regs := rfl
@[simp] theorem State.setLot_mem (l : Nat) (e : Lot) : (s.setLot l e).mem = s.mem := rfl
@[simp] theorem State.setLot_poison (l : Nat) (e : Lot) : (s.setLot l e).poison = s.poison := rfl
@[simp] theorem State.setLot_wordMarks (l : Nat) (e : Lot) : (s.setLot l e).wordMarks = s.wordMarks := rfl
@[simp] theorem State.setLot_flips (l : Nat) (e : Lot) : (s.setLot l e).flips = s.flips := rfl
@[simp] theorem State.setLot_ridge (l : Nat) (e : Lot) : (s.setLot l e).ridge = s.ridge := rfl
@[simp] theorem State.setLot_engines (l : Nat) (e : Lot) : (s.setLot l e).engines = s.engines := rfl
@[simp] theorem State.setLot_vecs (l : Nat) (e : Lot) : (s.setLot l e).vecs = s.vecs := rfl
@[simp] theorem State.setLot_ddr (l : Nat) (e : Lot) : (s.setLot l e).ddr = s.ddr := rfl
@[simp] theorem State.setLot_sched (l : Nat) (e : Lot) : (s.setLot l e).sched = s.sched := rfl
@[simp] theorem State.setLot_seq (l : Nat) (e : Lot) : (s.setLot l e).seq = s.seq := rfl
@[simp] theorem State.setLot_rings (l : Nat) (e : Lot) : (s.setLot l e).rings = s.rings := rfl
@[simp] theorem State.setLot_plumb (l : Nat) (e : Lot) : (s.setLot l e).plumb = s.plumb := rfl
@[simp] theorem State.setLot_sensors (l : Nat) (e : Lot) : (s.setLot l e).sensors = s.sensors := rfl
@[simp] theorem State.setLot_datum (l : Nat) (e : Lot) : (s.setLot l e).datum = s.datum := rfl
@[simp] theorem State.setLot_traverse (l : Nat) (e : Lot) : (s.setLot l e).traverse = s.traverse := rfl
@[simp] theorem State.setLot_guyline (l : Nat) (e : Lot) : (s.setLot l e).guyline = s.guyline := rfl
@[simp] theorem State.setLot_stadia (l : Nat) (e : Lot) : (s.setLot l e).stadia = s.stadia := rfl
@[simp] theorem State.setLot_tether (l : Nat) (e : Lot) : (s.setLot l e).tether = s.tether := rfl
@[simp] theorem State.setLot_trail (l : Nat) (e : Lot) : (s.setLot l e).trail = s.trail := rfl
@[simp] theorem State.setLot_book (l : Nat) (e : Lot) : (s.setLot l e).book = s.book := rfl
@[simp] theorem State.setLot_ident (l : Nat) (e : Lot) : (s.setLot l e).ident = s.ident := rfl
@[simp] theorem State.setLot_power (l : Nat) (e : Lot) : (s.setLot l e).power = s.power := rfl
@[simp] theorem State.setLot_bring (l : Nat) (e : Lot) : (s.setLot l e).bring = s.bring := rfl
@[simp] theorem State.setLot_pins (l : Nat) (e : Lot) : (s.setLot l e).pins = s.pins := rfl
@[simp] theorem State.setLot_sites (l : Nat) (e : Lot) : (s.setLot l e).sites = s.sites := rfl
@[simp] theorem State.setLot_free (l : Nat) (e : Lot) : (s.setLot l e).free = s.free := rfl

@[simp] theorem State.setQueue_pending (c : Nat) (q : List Transfer) : (s.setQueue c q).pending = s.pending := rfl
@[simp] theorem State.setQueue_clk (c : Nat) (q : List Transfer) : (s.setQueue c q).clk = s.clk := rfl
@[simp] theorem State.setQueue_regs (c : Nat) (q : List Transfer) : (s.setQueue c q).regs = s.regs := rfl
@[simp] theorem State.setQueue_mem (c : Nat) (q : List Transfer) : (s.setQueue c q).mem = s.mem := rfl
@[simp] theorem State.setQueue_poison (c : Nat) (q : List Transfer) : (s.setQueue c q).poison = s.poison := rfl
@[simp] theorem State.setQueue_wordMarks (c : Nat) (q : List Transfer) : (s.setQueue c q).wordMarks = s.wordMarks := rfl
@[simp] theorem State.setQueue_flips (c : Nat) (q : List Transfer) : (s.setQueue c q).flips = s.flips := rfl
@[simp] theorem State.setQueue_ridge (c : Nat) (q : List Transfer) : (s.setQueue c q).ridge = s.ridge := rfl
@[simp] theorem State.setQueue_engines (c : Nat) (q : List Transfer) : (s.setQueue c q).engines = s.engines := rfl
@[simp] theorem State.setQueue_vecs (c : Nat) (q : List Transfer) : (s.setQueue c q).vecs = s.vecs := rfl
@[simp] theorem State.setQueue_ddr (c : Nat) (q : List Transfer) : (s.setQueue c q).ddr = s.ddr := rfl
@[simp] theorem State.setQueue_sched (c : Nat) (q : List Transfer) : (s.setQueue c q).sched = s.sched := rfl
@[simp] theorem State.setQueue_seq (c : Nat) (q : List Transfer) : (s.setQueue c q).seq = s.seq := rfl
@[simp] theorem State.setQueue_rings (c : Nat) (q : List Transfer) : (s.setQueue c q).rings = s.rings := rfl
@[simp] theorem State.setQueue_plumb (c : Nat) (q : List Transfer) : (s.setQueue c q).plumb = s.plumb := rfl
@[simp] theorem State.setQueue_sensors (c : Nat) (q : List Transfer) : (s.setQueue c q).sensors = s.sensors := rfl
@[simp] theorem State.setQueue_datum (c : Nat) (q : List Transfer) : (s.setQueue c q).datum = s.datum := rfl
@[simp] theorem State.setQueue_traverse (c : Nat) (q : List Transfer) : (s.setQueue c q).traverse = s.traverse := rfl
@[simp] theorem State.setQueue_guyline (c : Nat) (q : List Transfer) : (s.setQueue c q).guyline = s.guyline := rfl
@[simp] theorem State.setQueue_stadia (c : Nat) (q : List Transfer) : (s.setQueue c q).stadia = s.stadia := rfl
@[simp] theorem State.setQueue_tether (c : Nat) (q : List Transfer) : (s.setQueue c q).tether = s.tether := rfl
@[simp] theorem State.setQueue_trail (c : Nat) (q : List Transfer) : (s.setQueue c q).trail = s.trail := rfl
@[simp] theorem State.setQueue_book (c : Nat) (q : List Transfer) : (s.setQueue c q).book = s.book := rfl
@[simp] theorem State.setQueue_ident (c : Nat) (q : List Transfer) : (s.setQueue c q).ident = s.ident := rfl
@[simp] theorem State.setQueue_power (c : Nat) (q : List Transfer) : (s.setQueue c q).power = s.power := rfl
@[simp] theorem State.setQueue_bring (c : Nat) (q : List Transfer) : (s.setQueue c q).bring = s.bring := rfl
@[simp] theorem State.setQueue_pins (c : Nat) (q : List Transfer) : (s.setQueue c q).pins = s.pins := rfl
@[simp] theorem State.setQueue_sites (c : Nat) (q : List Transfer) : (s.setQueue c q).sites = s.sites := rfl
@[simp] theorem State.setQueue_free (c : Nat) (q : List Transfer) : (s.setQueue c q).free = s.free := rfl

@[simp] theorem State.wholeUnits_pending (a n : Nat) : (s.wholeUnits a n).pending = s.pending := rfl
@[simp] theorem State.wholeUnits_clk (a n : Nat) : (s.wholeUnits a n).clk = s.clk := rfl
@[simp] theorem State.wholeUnits_regs (a n : Nat) : (s.wholeUnits a n).regs = s.regs := rfl
@[simp] theorem State.wholeUnits_mem (a n : Nat) : (s.wholeUnits a n).mem = s.mem := rfl
@[simp] theorem State.wholeUnits_poison (a n : Nat) : (s.wholeUnits a n).poison = s.poison := rfl
@[simp] theorem State.wholeUnits_flips (a n : Nat) : (s.wholeUnits a n).flips = s.flips := rfl
@[simp] theorem State.wholeUnits_ridge (a n : Nat) : (s.wholeUnits a n).ridge = s.ridge := rfl
@[simp] theorem State.wholeUnits_engines (a n : Nat) : (s.wholeUnits a n).engines = s.engines := rfl
@[simp] theorem State.wholeUnits_vecs (a n : Nat) : (s.wholeUnits a n).vecs = s.vecs := rfl
@[simp] theorem State.wholeUnits_stow (a n : Nat) : (s.wholeUnits a n).stow = s.stow := rfl
@[simp] theorem State.wholeUnits_ddr (a n : Nat) : (s.wholeUnits a n).ddr = s.ddr := rfl
@[simp] theorem State.wholeUnits_sched (a n : Nat) : (s.wholeUnits a n).sched = s.sched := rfl
@[simp] theorem State.wholeUnits_seq (a n : Nat) : (s.wholeUnits a n).seq = s.seq := rfl
@[simp] theorem State.wholeUnits_rings (a n : Nat) : (s.wholeUnits a n).rings = s.rings := rfl
@[simp] theorem State.wholeUnits_plumb (a n : Nat) : (s.wholeUnits a n).plumb = s.plumb := rfl
@[simp] theorem State.wholeUnits_sensors (a n : Nat) : (s.wholeUnits a n).sensors = s.sensors := rfl
@[simp] theorem State.wholeUnits_datum (a n : Nat) : (s.wholeUnits a n).datum = s.datum := rfl
@[simp] theorem State.wholeUnits_traverse (a n : Nat) : (s.wholeUnits a n).traverse = s.traverse := rfl
@[simp] theorem State.wholeUnits_guyline (a n : Nat) : (s.wholeUnits a n).guyline = s.guyline := rfl
@[simp] theorem State.wholeUnits_stadia (a n : Nat) : (s.wholeUnits a n).stadia = s.stadia := rfl
@[simp] theorem State.wholeUnits_tether (a n : Nat) : (s.wholeUnits a n).tether = s.tether := rfl
@[simp] theorem State.wholeUnits_trail (a n : Nat) : (s.wholeUnits a n).trail = s.trail := rfl
@[simp] theorem State.wholeUnits_book (a n : Nat) : (s.wholeUnits a n).book = s.book := rfl
@[simp] theorem State.wholeUnits_ident (a n : Nat) : (s.wholeUnits a n).ident = s.ident := rfl
@[simp] theorem State.wholeUnits_power (a n : Nat) : (s.wholeUnits a n).power = s.power := rfl
@[simp] theorem State.wholeUnits_bring (a n : Nat) : (s.wholeUnits a n).bring = s.bring := rfl
@[simp] theorem State.wholeUnits_pins (a n : Nat) : (s.wholeUnits a n).pins = s.pins := rfl
@[simp] theorem State.wholeUnits_sites (a n : Nat) : (s.wholeUnits a n).sites = s.sites := rfl
@[simp] theorem State.wholeUnits_free (a n : Nat) : (s.wholeUnits a n).free = s.free := rfl

@[simp] theorem State.noteEdge_pending (t : Nat) (who : Writer) (a n : Nat) : (s.noteEdge t who a n).pending = s.pending := rfl
@[simp] theorem State.noteEdge_clk (t : Nat) (who : Writer) (a n : Nat) : (s.noteEdge t who a n).clk = s.clk := rfl
@[simp] theorem State.noteEdge_regs (t : Nat) (who : Writer) (a n : Nat) : (s.noteEdge t who a n).regs = s.regs := rfl
@[simp] theorem State.noteEdge_mem (t : Nat) (who : Writer) (a n : Nat) : (s.noteEdge t who a n).mem = s.mem := rfl
@[simp] theorem State.noteEdge_poison (t : Nat) (who : Writer) (a n : Nat) : (s.noteEdge t who a n).poison = s.poison := rfl
@[simp] theorem State.noteEdge_wordMarks (t : Nat) (who : Writer) (a n : Nat) : (s.noteEdge t who a n).wordMarks = s.wordMarks := rfl
@[simp] theorem State.noteEdge_flips (t : Nat) (who : Writer) (a n : Nat) : (s.noteEdge t who a n).flips = s.flips := rfl
@[simp] theorem State.noteEdge_ridge (t : Nat) (who : Writer) (a n : Nat) : (s.noteEdge t who a n).ridge = s.ridge := rfl
@[simp] theorem State.noteEdge_engines (t : Nat) (who : Writer) (a n : Nat) : (s.noteEdge t who a n).engines = s.engines := rfl
@[simp] theorem State.noteEdge_vecs (t : Nat) (who : Writer) (a n : Nat) : (s.noteEdge t who a n).vecs = s.vecs := rfl
@[simp] theorem State.noteEdge_ddr (t : Nat) (who : Writer) (a n : Nat) : (s.noteEdge t who a n).ddr = s.ddr := rfl
@[simp] theorem State.noteEdge_sched (t : Nat) (who : Writer) (a n : Nat) : (s.noteEdge t who a n).sched = s.sched := rfl
@[simp] theorem State.noteEdge_seq (t : Nat) (who : Writer) (a n : Nat) : (s.noteEdge t who a n).seq = s.seq := rfl
@[simp] theorem State.noteEdge_rings (t : Nat) (who : Writer) (a n : Nat) : (s.noteEdge t who a n).rings = s.rings := rfl
@[simp] theorem State.noteEdge_plumb (t : Nat) (who : Writer) (a n : Nat) : (s.noteEdge t who a n).plumb = s.plumb := rfl
@[simp] theorem State.noteEdge_sensors (t : Nat) (who : Writer) (a n : Nat) : (s.noteEdge t who a n).sensors = s.sensors := rfl
@[simp] theorem State.noteEdge_datum (t : Nat) (who : Writer) (a n : Nat) : (s.noteEdge t who a n).datum = s.datum := rfl
@[simp] theorem State.noteEdge_traverse (t : Nat) (who : Writer) (a n : Nat) : (s.noteEdge t who a n).traverse = s.traverse := rfl
@[simp] theorem State.noteEdge_guyline (t : Nat) (who : Writer) (a n : Nat) : (s.noteEdge t who a n).guyline = s.guyline := rfl
@[simp] theorem State.noteEdge_stadia (t : Nat) (who : Writer) (a n : Nat) : (s.noteEdge t who a n).stadia = s.stadia := rfl
@[simp] theorem State.noteEdge_tether (t : Nat) (who : Writer) (a n : Nat) : (s.noteEdge t who a n).tether = s.tether := rfl
@[simp] theorem State.noteEdge_trail (t : Nat) (who : Writer) (a n : Nat) : (s.noteEdge t who a n).trail = s.trail := rfl
@[simp] theorem State.noteEdge_book (t : Nat) (who : Writer) (a n : Nat) : (s.noteEdge t who a n).book = s.book := rfl
@[simp] theorem State.noteEdge_ident (t : Nat) (who : Writer) (a n : Nat) : (s.noteEdge t who a n).ident = s.ident := rfl
@[simp] theorem State.noteEdge_power (t : Nat) (who : Writer) (a n : Nat) : (s.noteEdge t who a n).power = s.power := rfl
@[simp] theorem State.noteEdge_bring (t : Nat) (who : Writer) (a n : Nat) : (s.noteEdge t who a n).bring = s.bring := rfl
@[simp] theorem State.noteEdge_pins (t : Nat) (who : Writer) (a n : Nat) : (s.noteEdge t who a n).pins = s.pins := rfl
@[simp] theorem State.noteEdge_sites (t : Nat) (who : Writer) (a n : Nat) : (s.noteEdge t who a n).sites = s.sites := rfl
@[simp] theorem State.noteEdge_free (t : Nat) (who : Writer) (a n : Nat) : (s.noteEdge t who a n).free = s.free := rfl

@[simp] theorem State.worked_pending (k p n : Nat) : (s.worked k p n).pending = s.pending := rfl
@[simp] theorem State.worked_clk (k p n : Nat) : (s.worked k p n).clk = s.clk := rfl
@[simp] theorem State.worked_regs (k p n : Nat) : (s.worked k p n).regs = s.regs := rfl
@[simp] theorem State.worked_mem (k p n : Nat) : (s.worked k p n).mem = s.mem := rfl
@[simp] theorem State.worked_poison (k p n : Nat) : (s.worked k p n).poison = s.poison := rfl
@[simp] theorem State.worked_wordMarks (k p n : Nat) : (s.worked k p n).wordMarks = s.wordMarks := rfl
@[simp] theorem State.worked_flips (k p n : Nat) : (s.worked k p n).flips = s.flips := rfl
@[simp] theorem State.worked_ridge (k p n : Nat) : (s.worked k p n).ridge = s.ridge := rfl
@[simp] theorem State.worked_engines (k p n : Nat) : (s.worked k p n).engines = s.engines := rfl
@[simp] theorem State.worked_vecs (k p n : Nat) : (s.worked k p n).vecs = s.vecs := rfl
@[simp] theorem State.worked_stow (k p n : Nat) : (s.worked k p n).stow = s.stow := rfl
@[simp] theorem State.worked_ddr (k p n : Nat) : (s.worked k p n).ddr = s.ddr := rfl
@[simp] theorem State.worked_sched (k p n : Nat) : (s.worked k p n).sched = s.sched := rfl
@[simp] theorem State.worked_seq (k p n : Nat) : (s.worked k p n).seq = s.seq := rfl
@[simp] theorem State.worked_rings (k p n : Nat) : (s.worked k p n).rings = s.rings := rfl
@[simp] theorem State.worked_plumb (k p n : Nat) : (s.worked k p n).plumb = s.plumb := rfl
@[simp] theorem State.worked_sensors (k p n : Nat) : (s.worked k p n).sensors = s.sensors := rfl
@[simp] theorem State.worked_datum (k p n : Nat) : (s.worked k p n).datum = s.datum := rfl
@[simp] theorem State.worked_traverse (k p n : Nat) : (s.worked k p n).traverse = s.traverse := rfl
@[simp] theorem State.worked_guyline (k p n : Nat) : (s.worked k p n).guyline = s.guyline := rfl
@[simp] theorem State.worked_stadia (k p n : Nat) : (s.worked k p n).stadia = s.stadia := rfl
@[simp] theorem State.worked_tether (k p n : Nat) : (s.worked k p n).tether = s.tether := rfl
@[simp] theorem State.worked_trail (k p n : Nat) : (s.worked k p n).trail = s.trail := rfl
@[simp] theorem State.worked_book (k p n : Nat) : (s.worked k p n).book = s.book := rfl
@[simp] theorem State.worked_ident (k p n : Nat) : (s.worked k p n).ident = s.ident := rfl
@[simp] theorem State.worked_bring (k p n : Nat) : (s.worked k p n).bring = s.bring := rfl
@[simp] theorem State.worked_pins (k p n : Nat) : (s.worked k p n).pins = s.pins := rfl
@[simp] theorem State.worked_sites (k p n : Nat) : (s.worked k p n).sites = s.sites := rfl
@[simp] theorem State.worked_free (k p n : Nat) : (s.worked k p n).free = s.free := rfl

@[simp] theorem State.setStream'_pending (n : Nat) (u : StreamUnit) : (s.setStream' n u).pending = s.pending := rfl
@[simp] theorem State.setStream'_clk (n : Nat) (u : StreamUnit) : (s.setStream' n u).clk = s.clk := rfl
@[simp] theorem State.setStream'_regs (n : Nat) (u : StreamUnit) : (s.setStream' n u).regs = s.regs := rfl
@[simp] theorem State.setStream'_mem (n : Nat) (u : StreamUnit) : (s.setStream' n u).mem = s.mem := rfl
@[simp] theorem State.setStream'_poison (n : Nat) (u : StreamUnit) : (s.setStream' n u).poison = s.poison := rfl
@[simp] theorem State.setStream'_wordMarks (n : Nat) (u : StreamUnit) : (s.setStream' n u).wordMarks = s.wordMarks := rfl
@[simp] theorem State.setStream'_flips (n : Nat) (u : StreamUnit) : (s.setStream' n u).flips = s.flips := rfl
@[simp] theorem State.setStream'_ridge (n : Nat) (u : StreamUnit) : (s.setStream' n u).ridge = s.ridge := rfl
@[simp] theorem State.setStream'_engines (n : Nat) (u : StreamUnit) : (s.setStream' n u).engines = s.engines := rfl
@[simp] theorem State.setStream'_vecs (n : Nat) (u : StreamUnit) : (s.setStream' n u).vecs = s.vecs := rfl
@[simp] theorem State.setStream'_stow (n : Nat) (u : StreamUnit) : (s.setStream' n u).stow = s.stow := rfl
@[simp] theorem State.setStream'_ddr (n : Nat) (u : StreamUnit) : (s.setStream' n u).ddr = s.ddr := rfl
@[simp] theorem State.setStream'_sched (n : Nat) (u : StreamUnit) : (s.setStream' n u).sched = s.sched := rfl
@[simp] theorem State.setStream'_seq (n : Nat) (u : StreamUnit) : (s.setStream' n u).seq = s.seq := rfl
@[simp] theorem State.setStream'_rings (n : Nat) (u : StreamUnit) : (s.setStream' n u).rings = s.rings := rfl
@[simp] theorem State.setStream'_plumb (n : Nat) (u : StreamUnit) : (s.setStream' n u).plumb = s.plumb := rfl
@[simp] theorem State.setStream'_datum (n : Nat) (u : StreamUnit) : (s.setStream' n u).datum = s.datum := rfl
@[simp] theorem State.setStream'_traverse (n : Nat) (u : StreamUnit) : (s.setStream' n u).traverse = s.traverse := rfl
@[simp] theorem State.setStream'_guyline (n : Nat) (u : StreamUnit) : (s.setStream' n u).guyline = s.guyline := rfl
@[simp] theorem State.setStream'_stadia (n : Nat) (u : StreamUnit) : (s.setStream' n u).stadia = s.stadia := rfl
@[simp] theorem State.setStream'_tether (n : Nat) (u : StreamUnit) : (s.setStream' n u).tether = s.tether := rfl
@[simp] theorem State.setStream'_trail (n : Nat) (u : StreamUnit) : (s.setStream' n u).trail = s.trail := rfl
@[simp] theorem State.setStream'_book (n : Nat) (u : StreamUnit) : (s.setStream' n u).book = s.book := rfl
@[simp] theorem State.setStream'_ident (n : Nat) (u : StreamUnit) : (s.setStream' n u).ident = s.ident := rfl
@[simp] theorem State.setStream'_power (n : Nat) (u : StreamUnit) : (s.setStream' n u).power = s.power := rfl
@[simp] theorem State.setStream'_bring (n : Nat) (u : StreamUnit) : (s.setStream' n u).bring = s.bring := rfl
@[simp] theorem State.setStream'_pins (n : Nat) (u : StreamUnit) : (s.setStream' n u).pins = s.pins := rfl
@[simp] theorem State.setStream'_sites (n : Nat) (u : StreamUnit) : (s.setStream' n u).sites = s.sites := rfl
@[simp] theorem State.setStream'_free (n : Nat) (u : StreamUnit) : (s.setStream' n u).free = s.free := rfl

@[simp] theorem State.tickM_pending (dt : Nat) : (s.tickM dt).pending = s.pending := rfl
@[simp] theorem State.tickM_regs (dt : Nat) : (s.tickM dt).regs = s.regs := rfl
@[simp] theorem State.tickM_mem (dt : Nat) : (s.tickM dt).mem = s.mem := rfl
@[simp] theorem State.tickM_poison (dt : Nat) : (s.tickM dt).poison = s.poison := rfl
@[simp] theorem State.tickM_wordMarks (dt : Nat) : (s.tickM dt).wordMarks = s.wordMarks := rfl
@[simp] theorem State.tickM_flips (dt : Nat) : (s.tickM dt).flips = s.flips := rfl
@[simp] theorem State.tickM_ridge (dt : Nat) : (s.tickM dt).ridge = s.ridge := rfl
@[simp] theorem State.tickM_engines (dt : Nat) : (s.tickM dt).engines = s.engines := rfl
@[simp] theorem State.tickM_vecs (dt : Nat) : (s.tickM dt).vecs = s.vecs := rfl
@[simp] theorem State.tickM_stow (dt : Nat) : (s.tickM dt).stow = s.stow := rfl
@[simp] theorem State.tickM_ddr (dt : Nat) : (s.tickM dt).ddr = s.ddr := rfl
@[simp] theorem State.tickM_sched (dt : Nat) : (s.tickM dt).sched = s.sched := rfl
@[simp] theorem State.tickM_seq (dt : Nat) : (s.tickM dt).seq = s.seq := rfl
@[simp] theorem State.tickM_rings (dt : Nat) : (s.tickM dt).rings = s.rings := rfl
@[simp] theorem State.tickM_plumb (dt : Nat) : (s.tickM dt).plumb = s.plumb := rfl
@[simp] theorem State.tickM_sensors (dt : Nat) : (s.tickM dt).sensors = s.sensors := rfl
@[simp] theorem State.tickM_datum (dt : Nat) : (s.tickM dt).datum = s.datum := rfl
@[simp] theorem State.tickM_traverse (dt : Nat) : (s.tickM dt).traverse = s.traverse := rfl
@[simp] theorem State.tickM_guyline (dt : Nat) : (s.tickM dt).guyline = s.guyline := rfl
@[simp] theorem State.tickM_stadia (dt : Nat) : (s.tickM dt).stadia = s.stadia := rfl
@[simp] theorem State.tickM_tether (dt : Nat) : (s.tickM dt).tether = s.tether := rfl
@[simp] theorem State.tickM_trail (dt : Nat) : (s.tickM dt).trail = s.trail := rfl
@[simp] theorem State.tickM_book (dt : Nat) : (s.tickM dt).book = s.book := rfl
@[simp] theorem State.tickM_ident (dt : Nat) : (s.tickM dt).ident = s.ident := rfl
@[simp] theorem State.tickM_power (dt : Nat) : (s.tickM dt).power = s.power := rfl
@[simp] theorem State.tickM_bring (dt : Nat) : (s.tickM dt).bring = s.bring := rfl
@[simp] theorem State.tickM_pins (dt : Nat) : (s.tickM dt).pins = s.pins := rfl
@[simp] theorem State.tickM_sites (dt : Nat) : (s.tickM dt).sites = s.sites := rfl
@[simp] theorem State.tickM_free (dt : Nat) : (s.tickM dt).free = s.free := rfl

@[simp] theorem State.tickT_pending (dt : Nat) : (s.tickT dt).pending = s.pending := rfl
@[simp] theorem State.tickT_regs (dt : Nat) : (s.tickT dt).regs = s.regs := rfl
@[simp] theorem State.tickT_mem (dt : Nat) : (s.tickT dt).mem = s.mem := rfl
@[simp] theorem State.tickT_poison (dt : Nat) : (s.tickT dt).poison = s.poison := rfl
@[simp] theorem State.tickT_wordMarks (dt : Nat) : (s.tickT dt).wordMarks = s.wordMarks := rfl
@[simp] theorem State.tickT_flips (dt : Nat) : (s.tickT dt).flips = s.flips := rfl
@[simp] theorem State.tickT_ridge (dt : Nat) : (s.tickT dt).ridge = s.ridge := rfl
@[simp] theorem State.tickT_engines (dt : Nat) : (s.tickT dt).engines = s.engines := rfl
@[simp] theorem State.tickT_vecs (dt : Nat) : (s.tickT dt).vecs = s.vecs := rfl
@[simp] theorem State.tickT_stow (dt : Nat) : (s.tickT dt).stow = s.stow := rfl
@[simp] theorem State.tickT_ddr (dt : Nat) : (s.tickT dt).ddr = s.ddr := rfl
@[simp] theorem State.tickT_sched (dt : Nat) : (s.tickT dt).sched = s.sched := rfl
@[simp] theorem State.tickT_seq (dt : Nat) : (s.tickT dt).seq = s.seq := rfl
@[simp] theorem State.tickT_rings (dt : Nat) : (s.tickT dt).rings = s.rings := rfl
@[simp] theorem State.tickT_plumb (dt : Nat) : (s.tickT dt).plumb = s.plumb := rfl
@[simp] theorem State.tickT_sensors (dt : Nat) : (s.tickT dt).sensors = s.sensors := rfl
@[simp] theorem State.tickT_datum (dt : Nat) : (s.tickT dt).datum = s.datum := rfl
@[simp] theorem State.tickT_traverse (dt : Nat) : (s.tickT dt).traverse = s.traverse := rfl
@[simp] theorem State.tickT_guyline (dt : Nat) : (s.tickT dt).guyline = s.guyline := rfl
@[simp] theorem State.tickT_stadia (dt : Nat) : (s.tickT dt).stadia = s.stadia := rfl
@[simp] theorem State.tickT_tether (dt : Nat) : (s.tickT dt).tether = s.tether := rfl
@[simp] theorem State.tickT_trail (dt : Nat) : (s.tickT dt).trail = s.trail := rfl
@[simp] theorem State.tickT_book (dt : Nat) : (s.tickT dt).book = s.book := rfl
@[simp] theorem State.tickT_ident (dt : Nat) : (s.tickT dt).ident = s.ident := rfl
@[simp] theorem State.tickT_power (dt : Nat) : (s.tickT dt).power = s.power := rfl
@[simp] theorem State.tickT_bring (dt : Nat) : (s.tickT dt).bring = s.bring := rfl
@[simp] theorem State.tickT_pins (dt : Nat) : (s.tickT dt).pins = s.pins := rfl
@[simp] theorem State.tickT_sites (dt : Nat) : (s.tickT dt).sites = s.sites := rfl
@[simp] theorem State.tickT_free (dt : Nat) : (s.tickT dt).free = s.free := rfl

@[simp] theorem State.tickG_pending (dt : Nat) : (s.tickG dt).pending = s.pending := rfl
@[simp] theorem State.tickG_regs (dt : Nat) : (s.tickG dt).regs = s.regs := rfl
@[simp] theorem State.tickG_mem (dt : Nat) : (s.tickG dt).mem = s.mem := rfl
@[simp] theorem State.tickG_poison (dt : Nat) : (s.tickG dt).poison = s.poison := rfl
@[simp] theorem State.tickG_wordMarks (dt : Nat) : (s.tickG dt).wordMarks = s.wordMarks := rfl
@[simp] theorem State.tickG_flips (dt : Nat) : (s.tickG dt).flips = s.flips := rfl
@[simp] theorem State.tickG_ridge (dt : Nat) : (s.tickG dt).ridge = s.ridge := rfl
@[simp] theorem State.tickG_engines (dt : Nat) : (s.tickG dt).engines = s.engines := rfl
@[simp] theorem State.tickG_vecs (dt : Nat) : (s.tickG dt).vecs = s.vecs := rfl
@[simp] theorem State.tickG_stow (dt : Nat) : (s.tickG dt).stow = s.stow := rfl
@[simp] theorem State.tickG_ddr (dt : Nat) : (s.tickG dt).ddr = s.ddr := rfl
@[simp] theorem State.tickG_sched (dt : Nat) : (s.tickG dt).sched = s.sched := rfl
@[simp] theorem State.tickG_seq (dt : Nat) : (s.tickG dt).seq = s.seq := rfl
@[simp] theorem State.tickG_rings (dt : Nat) : (s.tickG dt).rings = s.rings := rfl
@[simp] theorem State.tickG_plumb (dt : Nat) : (s.tickG dt).plumb = s.plumb := rfl
@[simp] theorem State.tickG_sensors (dt : Nat) : (s.tickG dt).sensors = s.sensors := rfl
@[simp] theorem State.tickG_datum (dt : Nat) : (s.tickG dt).datum = s.datum := rfl
@[simp] theorem State.tickG_traverse (dt : Nat) : (s.tickG dt).traverse = s.traverse := rfl
@[simp] theorem State.tickG_guyline (dt : Nat) : (s.tickG dt).guyline = s.guyline := rfl
@[simp] theorem State.tickG_stadia (dt : Nat) : (s.tickG dt).stadia = s.stadia := rfl
@[simp] theorem State.tickG_tether (dt : Nat) : (s.tickG dt).tether = s.tether := rfl
@[simp] theorem State.tickG_trail (dt : Nat) : (s.tickG dt).trail = s.trail := rfl
@[simp] theorem State.tickG_book (dt : Nat) : (s.tickG dt).book = s.book := rfl
@[simp] theorem State.tickG_ident (dt : Nat) : (s.tickG dt).ident = s.ident := rfl
@[simp] theorem State.tickG_power (dt : Nat) : (s.tickG dt).power = s.power := rfl
@[simp] theorem State.tickG_bring (dt : Nat) : (s.tickG dt).bring = s.bring := rfl
@[simp] theorem State.tickG_pins (dt : Nat) : (s.tickG dt).pins = s.pins := rfl
@[simp] theorem State.tickG_sites (dt : Nat) : (s.tickG dt).sites = s.sites := rfl
@[simp] theorem State.tickG_free (dt : Nat) : (s.tickG dt).free = s.free := rfl

@[simp] theorem State.tickS_pending (dt : Nat) : (s.tickS dt).pending = s.pending := rfl
@[simp] theorem State.tickS_regs (dt : Nat) : (s.tickS dt).regs = s.regs := rfl
@[simp] theorem State.tickS_mem (dt : Nat) : (s.tickS dt).mem = s.mem := rfl
@[simp] theorem State.tickS_poison (dt : Nat) : (s.tickS dt).poison = s.poison := rfl
@[simp] theorem State.tickS_wordMarks (dt : Nat) : (s.tickS dt).wordMarks = s.wordMarks := rfl
@[simp] theorem State.tickS_flips (dt : Nat) : (s.tickS dt).flips = s.flips := rfl
@[simp] theorem State.tickS_ridge (dt : Nat) : (s.tickS dt).ridge = s.ridge := rfl
@[simp] theorem State.tickS_engines (dt : Nat) : (s.tickS dt).engines = s.engines := rfl
@[simp] theorem State.tickS_vecs (dt : Nat) : (s.tickS dt).vecs = s.vecs := rfl
@[simp] theorem State.tickS_stow (dt : Nat) : (s.tickS dt).stow = s.stow := rfl
@[simp] theorem State.tickS_ddr (dt : Nat) : (s.tickS dt).ddr = s.ddr := rfl
@[simp] theorem State.tickS_sched (dt : Nat) : (s.tickS dt).sched = s.sched := rfl
@[simp] theorem State.tickS_seq (dt : Nat) : (s.tickS dt).seq = s.seq := rfl
@[simp] theorem State.tickS_rings (dt : Nat) : (s.tickS dt).rings = s.rings := rfl
@[simp] theorem State.tickS_plumb (dt : Nat) : (s.tickS dt).plumb = s.plumb := rfl
@[simp] theorem State.tickS_sensors (dt : Nat) : (s.tickS dt).sensors = s.sensors := rfl
@[simp] theorem State.tickS_datum (dt : Nat) : (s.tickS dt).datum = s.datum := rfl
@[simp] theorem State.tickS_traverse (dt : Nat) : (s.tickS dt).traverse = s.traverse := rfl
@[simp] theorem State.tickS_guyline (dt : Nat) : (s.tickS dt).guyline = s.guyline := rfl
@[simp] theorem State.tickS_stadia (dt : Nat) : (s.tickS dt).stadia = s.stadia := rfl
@[simp] theorem State.tickS_tether (dt : Nat) : (s.tickS dt).tether = s.tether := rfl
@[simp] theorem State.tickS_trail (dt : Nat) : (s.tickS dt).trail = s.trail := rfl
@[simp] theorem State.tickS_book (dt : Nat) : (s.tickS dt).book = s.book := rfl
@[simp] theorem State.tickS_ident (dt : Nat) : (s.tickS dt).ident = s.ident := rfl
@[simp] theorem State.tickS_power (dt : Nat) : (s.tickS dt).power = s.power := rfl
@[simp] theorem State.tickS_bring (dt : Nat) : (s.tickS dt).bring = s.bring := rfl
@[simp] theorem State.tickS_pins (dt : Nat) : (s.tickS dt).pins = s.pins := rfl
@[simp] theorem State.tickS_sites (dt : Nat) : (s.tickS dt).sites = s.sites := rfl
@[simp] theorem State.tickS_free (dt : Nat) : (s.tickS dt).free = s.free := rfl

@[simp] theorem State.tickB_pending (dt : Nat) : (s.tickB dt).pending = s.pending := rfl
@[simp] theorem State.tickB_regs (dt : Nat) : (s.tickB dt).regs = s.regs := rfl
@[simp] theorem State.tickB_mem (dt : Nat) : (s.tickB dt).mem = s.mem := rfl
@[simp] theorem State.tickB_poison (dt : Nat) : (s.tickB dt).poison = s.poison := rfl
@[simp] theorem State.tickB_wordMarks (dt : Nat) : (s.tickB dt).wordMarks = s.wordMarks := rfl
@[simp] theorem State.tickB_flips (dt : Nat) : (s.tickB dt).flips = s.flips := rfl
@[simp] theorem State.tickB_ridge (dt : Nat) : (s.tickB dt).ridge = s.ridge := rfl
@[simp] theorem State.tickB_engines (dt : Nat) : (s.tickB dt).engines = s.engines := rfl
@[simp] theorem State.tickB_vecs (dt : Nat) : (s.tickB dt).vecs = s.vecs := rfl
@[simp] theorem State.tickB_stow (dt : Nat) : (s.tickB dt).stow = s.stow := rfl
@[simp] theorem State.tickB_ddr (dt : Nat) : (s.tickB dt).ddr = s.ddr := rfl
@[simp] theorem State.tickB_sched (dt : Nat) : (s.tickB dt).sched = s.sched := rfl
@[simp] theorem State.tickB_seq (dt : Nat) : (s.tickB dt).seq = s.seq := rfl
@[simp] theorem State.tickB_rings (dt : Nat) : (s.tickB dt).rings = s.rings := rfl
@[simp] theorem State.tickB_plumb (dt : Nat) : (s.tickB dt).plumb = s.plumb := rfl
@[simp] theorem State.tickB_sensors (dt : Nat) : (s.tickB dt).sensors = s.sensors := rfl
@[simp] theorem State.tickB_datum (dt : Nat) : (s.tickB dt).datum = s.datum := rfl
@[simp] theorem State.tickB_traverse (dt : Nat) : (s.tickB dt).traverse = s.traverse := rfl
@[simp] theorem State.tickB_guyline (dt : Nat) : (s.tickB dt).guyline = s.guyline := rfl
@[simp] theorem State.tickB_stadia (dt : Nat) : (s.tickB dt).stadia = s.stadia := rfl
@[simp] theorem State.tickB_tether (dt : Nat) : (s.tickB dt).tether = s.tether := rfl
@[simp] theorem State.tickB_trail (dt : Nat) : (s.tickB dt).trail = s.trail := rfl
@[simp] theorem State.tickB_book (dt : Nat) : (s.tickB dt).book = s.book := rfl
@[simp] theorem State.tickB_ident (dt : Nat) : (s.tickB dt).ident = s.ident := rfl
@[simp] theorem State.tickB_power (dt : Nat) : (s.tickB dt).power = s.power := rfl
@[simp] theorem State.tickB_bring (dt : Nat) : (s.tickB dt).bring = s.bring := rfl
@[simp] theorem State.tickB_pins (dt : Nat) : (s.tickB dt).pins = s.pins := rfl
@[simp] theorem State.tickB_sites (dt : Nat) : (s.tickB dt).sites = s.sites := rfl
@[simp] theorem State.tickB_free (dt : Nat) : (s.tickB dt).free = s.free := rfl

@[simp] theorem State.tickP_pending (n dt : Nat) : (s.tickP n dt).pending = s.pending := rfl
@[simp] theorem State.tickP_regs (n dt : Nat) : (s.tickP n dt).regs = s.regs := rfl
@[simp] theorem State.tickP_mem (n dt : Nat) : (s.tickP n dt).mem = s.mem := rfl
@[simp] theorem State.tickP_poison (n dt : Nat) : (s.tickP n dt).poison = s.poison := rfl
@[simp] theorem State.tickP_wordMarks (n dt : Nat) : (s.tickP n dt).wordMarks = s.wordMarks := rfl
@[simp] theorem State.tickP_flips (n dt : Nat) : (s.tickP n dt).flips = s.flips := rfl
@[simp] theorem State.tickP_ridge (n dt : Nat) : (s.tickP n dt).ridge = s.ridge := rfl
@[simp] theorem State.tickP_engines (n dt : Nat) : (s.tickP n dt).engines = s.engines := rfl
@[simp] theorem State.tickP_vecs (n dt : Nat) : (s.tickP n dt).vecs = s.vecs := rfl
@[simp] theorem State.tickP_stow (n dt : Nat) : (s.tickP n dt).stow = s.stow := rfl
@[simp] theorem State.tickP_ddr (n dt : Nat) : (s.tickP n dt).ddr = s.ddr := rfl
@[simp] theorem State.tickP_sched (n dt : Nat) : (s.tickP n dt).sched = s.sched := rfl
@[simp] theorem State.tickP_seq (n dt : Nat) : (s.tickP n dt).seq = s.seq := rfl
@[simp] theorem State.tickP_rings (n dt : Nat) : (s.tickP n dt).rings = s.rings := rfl
@[simp] theorem State.tickP_plumb (n dt : Nat) : (s.tickP n dt).plumb = s.plumb := rfl
@[simp] theorem State.tickP_sensors (n dt : Nat) : (s.tickP n dt).sensors = s.sensors := rfl
@[simp] theorem State.tickP_datum (n dt : Nat) : (s.tickP n dt).datum = s.datum := rfl
@[simp] theorem State.tickP_traverse (n dt : Nat) : (s.tickP n dt).traverse = s.traverse := rfl
@[simp] theorem State.tickP_guyline (n dt : Nat) : (s.tickP n dt).guyline = s.guyline := rfl
@[simp] theorem State.tickP_stadia (n dt : Nat) : (s.tickP n dt).stadia = s.stadia := rfl
@[simp] theorem State.tickP_tether (n dt : Nat) : (s.tickP n dt).tether = s.tether := rfl
@[simp] theorem State.tickP_trail (n dt : Nat) : (s.tickP n dt).trail = s.trail := rfl
@[simp] theorem State.tickP_book (n dt : Nat) : (s.tickP n dt).book = s.book := rfl
@[simp] theorem State.tickP_ident (n dt : Nat) : (s.tickP n dt).ident = s.ident := rfl
@[simp] theorem State.tickP_power (n dt : Nat) : (s.tickP n dt).power = s.power := rfl
@[simp] theorem State.tickP_bring (n dt : Nat) : (s.tickP n dt).bring = s.bring := rfl
@[simp] theorem State.tickP_pins (n dt : Nat) : (s.tickP n dt).pins = s.pins := rfl
@[simp] theorem State.tickP_sites (n dt : Nat) : (s.tickP n dt).sites = s.sites := rfl
@[simp] theorem State.tickP_free (n dt : Nat) : (s.tickP n dt).free = s.free := rfl

/-- A fold keeps what each of its steps keeps. -/
theorem foldl_keeps {α β γ : Type} (g : β → γ) (f : β → α → β) (h : ∀ b x, g (f b x) = g b) (l : List α) (b : β) : g (l.foldl f b) = g b := by
  induction l generalizing b with
  | nil => rfl
  | cons x l ih => rw [List.foldl_cons, ih, h]

@[simp] theorem State.drainDatum_pending (dt : Nat) : (s.drainDatum dt).pending = s.pending := by unfold State.drainDatum; refine foldl_keeps State.pending _ ?_ _ _; intro _ _; rfl
@[simp] theorem State.drainDatum_clk (dt : Nat) : (s.drainDatum dt).clk = s.clk := by unfold State.drainDatum; refine foldl_keeps State.clk _ ?_ _ _; intro _ _; rfl
@[simp] theorem State.drainDatum_mem (dt : Nat) : (s.drainDatum dt).mem = s.mem := by unfold State.drainDatum; refine foldl_keeps State.mem _ ?_ _ _; intro _ _; rfl
@[simp] theorem State.drainDatum_poison (dt : Nat) : (s.drainDatum dt).poison = s.poison := by unfold State.drainDatum; refine foldl_keeps State.poison _ ?_ _ _; intro _ _; rfl
@[simp] theorem State.drainDatum_wordMarks (dt : Nat) : (s.drainDatum dt).wordMarks = s.wordMarks := by unfold State.drainDatum; refine foldl_keeps State.wordMarks _ ?_ _ _; intro _ _; rfl
@[simp] theorem State.drainDatum_flips (dt : Nat) : (s.drainDatum dt).flips = s.flips := by unfold State.drainDatum; refine foldl_keeps State.flips _ ?_ _ _; intro _ _; rfl
@[simp] theorem State.drainDatum_ridge (dt : Nat) : (s.drainDatum dt).ridge = s.ridge := by unfold State.drainDatum; refine foldl_keeps State.ridge _ ?_ _ _; intro _ _; rfl
@[simp] theorem State.drainDatum_engines (dt : Nat) : (s.drainDatum dt).engines = s.engines := by unfold State.drainDatum; refine foldl_keeps State.engines _ ?_ _ _; intro _ _; rfl
@[simp] theorem State.drainDatum_vecs (dt : Nat) : (s.drainDatum dt).vecs = s.vecs := by unfold State.drainDatum; refine foldl_keeps State.vecs _ ?_ _ _; intro _ _; rfl
@[simp] theorem State.drainDatum_stow (dt : Nat) : (s.drainDatum dt).stow = s.stow := by unfold State.drainDatum; refine foldl_keeps State.stow _ ?_ _ _; intro _ _; rfl
@[simp] theorem State.drainDatum_ddr (dt : Nat) : (s.drainDatum dt).ddr = s.ddr := by unfold State.drainDatum; refine foldl_keeps State.ddr _ ?_ _ _; intro _ _; rfl
@[simp] theorem State.drainDatum_sched (dt : Nat) : (s.drainDatum dt).sched = s.sched := by unfold State.drainDatum; refine foldl_keeps State.sched _ ?_ _ _; intro _ _; rfl
@[simp] theorem State.drainDatum_seq (dt : Nat) : (s.drainDatum dt).seq = s.seq := by unfold State.drainDatum; refine foldl_keeps State.seq _ ?_ _ _; intro _ _; rfl
@[simp] theorem State.drainDatum_rings (dt : Nat) : (s.drainDatum dt).rings = s.rings := by unfold State.drainDatum; refine foldl_keeps State.rings _ ?_ _ _; intro _ _; rfl
@[simp] theorem State.drainDatum_plumb (dt : Nat) : (s.drainDatum dt).plumb = s.plumb := by unfold State.drainDatum; refine foldl_keeps State.plumb _ ?_ _ _; intro _ _; rfl
@[simp] theorem State.drainDatum_datum (dt : Nat) : (s.drainDatum dt).datum = s.datum := by unfold State.drainDatum; refine foldl_keeps State.datum _ ?_ _ _; intro _ _; rfl
@[simp] theorem State.drainDatum_traverse (dt : Nat) : (s.drainDatum dt).traverse = s.traverse := by unfold State.drainDatum; refine foldl_keeps State.traverse _ ?_ _ _; intro _ _; rfl
@[simp] theorem State.drainDatum_guyline (dt : Nat) : (s.drainDatum dt).guyline = s.guyline := by unfold State.drainDatum; refine foldl_keeps State.guyline _ ?_ _ _; intro _ _; rfl
@[simp] theorem State.drainDatum_stadia (dt : Nat) : (s.drainDatum dt).stadia = s.stadia := by unfold State.drainDatum; refine foldl_keeps State.stadia _ ?_ _ _; intro _ _; rfl
@[simp] theorem State.drainDatum_tether (dt : Nat) : (s.drainDatum dt).tether = s.tether := by unfold State.drainDatum; refine foldl_keeps State.tether _ ?_ _ _; intro _ _; rfl
@[simp] theorem State.drainDatum_trail (dt : Nat) : (s.drainDatum dt).trail = s.trail := by unfold State.drainDatum; refine foldl_keeps State.trail _ ?_ _ _; intro _ _; rfl
@[simp] theorem State.drainDatum_book (dt : Nat) : (s.drainDatum dt).book = s.book := by unfold State.drainDatum; refine foldl_keeps State.book _ ?_ _ _; intro _ _; rfl
@[simp] theorem State.drainDatum_ident (dt : Nat) : (s.drainDatum dt).ident = s.ident := by unfold State.drainDatum; refine foldl_keeps State.ident _ ?_ _ _; intro _ _; rfl
@[simp] theorem State.drainDatum_power (dt : Nat) : (s.drainDatum dt).power = s.power := by unfold State.drainDatum; refine foldl_keeps State.power _ ?_ _ _; intro _ _; rfl
@[simp] theorem State.drainDatum_bring (dt : Nat) : (s.drainDatum dt).bring = s.bring := by unfold State.drainDatum; refine foldl_keeps State.bring _ ?_ _ _; intro _ _; rfl
@[simp] theorem State.drainDatum_pins (dt : Nat) : (s.drainDatum dt).pins = s.pins := by unfold State.drainDatum; refine foldl_keeps State.pins _ ?_ _ _; intro _ _; rfl
@[simp] theorem State.drainDatum_sites (dt : Nat) : (s.drainDatum dt).sites = s.sites := by unfold State.drainDatum; refine foldl_keeps State.sites _ ?_ _ _; intro _ _; rfl
@[simp] theorem State.drainDatum_free (dt : Nat) : (s.drainDatum dt).free = s.free := by unfold State.drainDatum; refine foldl_keeps State.free _ ?_ _ _; intro _ _; rfl
@[simp] theorem State.tickF_pending (dt : Nat) : (s.tickF dt).pending = s.pending := State.drainDatum_pending _ dt
@[simp] theorem State.tickF_mem (dt : Nat) : (s.tickF dt).mem = s.mem := State.drainDatum_mem _ dt
@[simp] theorem State.tickF_poison (dt : Nat) : (s.tickF dt).poison = s.poison := State.drainDatum_poison _ dt
@[simp] theorem State.tickF_wordMarks (dt : Nat) : (s.tickF dt).wordMarks = s.wordMarks := State.drainDatum_wordMarks _ dt
@[simp] theorem State.tickF_flips (dt : Nat) : (s.tickF dt).flips = s.flips := State.drainDatum_flips _ dt
@[simp] theorem State.tickF_ridge (dt : Nat) : (s.tickF dt).ridge = s.ridge := State.drainDatum_ridge _ dt
@[simp] theorem State.tickF_engines (dt : Nat) : (s.tickF dt).engines = s.engines := State.drainDatum_engines _ dt
@[simp] theorem State.tickF_vecs (dt : Nat) : (s.tickF dt).vecs = s.vecs := State.drainDatum_vecs _ dt
@[simp] theorem State.tickF_stow (dt : Nat) : (s.tickF dt).stow = s.stow := State.drainDatum_stow _ dt
@[simp] theorem State.tickF_ddr (dt : Nat) : (s.tickF dt).ddr = s.ddr := State.drainDatum_ddr _ dt
@[simp] theorem State.tickF_sched (dt : Nat) : (s.tickF dt).sched = s.sched := State.drainDatum_sched _ dt
@[simp] theorem State.tickF_seq (dt : Nat) : (s.tickF dt).seq = s.seq := State.drainDatum_seq _ dt
@[simp] theorem State.tickF_rings (dt : Nat) : (s.tickF dt).rings = s.rings := State.drainDatum_rings _ dt
@[simp] theorem State.tickF_plumb (dt : Nat) : (s.tickF dt).plumb = s.plumb := State.drainDatum_plumb _ dt
@[simp] theorem State.tickF_datum (dt : Nat) : (s.tickF dt).datum = s.datum := State.drainDatum_datum _ dt
@[simp] theorem State.tickF_traverse (dt : Nat) : (s.tickF dt).traverse = s.traverse := State.drainDatum_traverse _ dt
@[simp] theorem State.tickF_guyline (dt : Nat) : (s.tickF dt).guyline = s.guyline := State.drainDatum_guyline _ dt
@[simp] theorem State.tickF_stadia (dt : Nat) : (s.tickF dt).stadia = s.stadia := State.drainDatum_stadia _ dt
@[simp] theorem State.tickF_tether (dt : Nat) : (s.tickF dt).tether = s.tether := State.drainDatum_tether _ dt
@[simp] theorem State.tickF_trail (dt : Nat) : (s.tickF dt).trail = s.trail := State.drainDatum_trail _ dt
@[simp] theorem State.tickF_book (dt : Nat) : (s.tickF dt).book = s.book := State.drainDatum_book _ dt
@[simp] theorem State.tickF_ident (dt : Nat) : (s.tickF dt).ident = s.ident := State.drainDatum_ident _ dt
@[simp] theorem State.tickF_power (dt : Nat) : (s.tickF dt).power = s.power := State.drainDatum_power _ dt
@[simp] theorem State.tickF_bring (dt : Nat) : (s.tickF dt).bring = s.bring := State.drainDatum_bring _ dt
@[simp] theorem State.tickF_pins (dt : Nat) : (s.tickF dt).pins = s.pins := State.drainDatum_pins _ dt
@[simp] theorem State.tickF_sites (dt : Nat) : (s.tickF dt).sites = s.sites := State.drainDatum_sites _ dt
@[simp] theorem State.tickF_free (dt : Nat) : (s.tickF dt).free = s.free := State.drainDatum_free _ dt

@[simp] theorem State.setStream_pending (t : Stream) (x : StreamState) : (s.setStream t x).pending = s.pending := by cases t <;> rfl
@[simp] theorem State.setStream_clk (t : Stream) (x : StreamState) : (s.setStream t x).clk = s.clk := by cases t <;> rfl
@[simp] theorem State.setStream_regs (t : Stream) (x : StreamState) : (s.setStream t x).regs = s.regs := by cases t <;> rfl
@[simp] theorem State.setStream_mem (t : Stream) (x : StreamState) : (s.setStream t x).mem = s.mem := by cases t <;> rfl
@[simp] theorem State.setStream_poison (t : Stream) (x : StreamState) : (s.setStream t x).poison = s.poison := by cases t <;> rfl
@[simp] theorem State.setStream_wordMarks (t : Stream) (x : StreamState) : (s.setStream t x).wordMarks = s.wordMarks := by cases t <;> rfl
@[simp] theorem State.setStream_flips (t : Stream) (x : StreamState) : (s.setStream t x).flips = s.flips := by cases t <;> rfl
@[simp] theorem State.setStream_engines (t : Stream) (x : StreamState) : (s.setStream t x).engines = s.engines := by cases t <;> rfl
@[simp] theorem State.setStream_vecs (t : Stream) (x : StreamState) : (s.setStream t x).vecs = s.vecs := by cases t <;> rfl
@[simp] theorem State.setStream_stow (t : Stream) (x : StreamState) : (s.setStream t x).stow = s.stow := by cases t <;> rfl
@[simp] theorem State.setStream_ddr (t : Stream) (x : StreamState) : (s.setStream t x).ddr = s.ddr := by cases t <;> rfl
@[simp] theorem State.setStream_sched (t : Stream) (x : StreamState) : (s.setStream t x).sched = s.sched := by cases t <;> rfl
@[simp] theorem State.setStream_seq (t : Stream) (x : StreamState) : (s.setStream t x).seq = s.seq := by cases t <;> rfl
@[simp] theorem State.setStream_rings (t : Stream) (x : StreamState) : (s.setStream t x).rings = s.rings := by cases t <;> rfl
@[simp] theorem State.setStream_plumb (t : Stream) (x : StreamState) : (s.setStream t x).plumb = s.plumb := by cases t <;> rfl
@[simp] theorem State.setStream_sensors (t : Stream) (x : StreamState) : (s.setStream t x).sensors = s.sensors := by cases t <;> rfl
@[simp] theorem State.setStream_datum (t : Stream) (x : StreamState) : (s.setStream t x).datum = s.datum := by cases t <;> rfl
@[simp] theorem State.setStream_traverse (t : Stream) (x : StreamState) : (s.setStream t x).traverse = s.traverse := by cases t <;> rfl
@[simp] theorem State.setStream_guyline (t : Stream) (x : StreamState) : (s.setStream t x).guyline = s.guyline := by cases t <;> rfl
@[simp] theorem State.setStream_stadia (t : Stream) (x : StreamState) : (s.setStream t x).stadia = s.stadia := by cases t <;> rfl
@[simp] theorem State.setStream_tether (t : Stream) (x : StreamState) : (s.setStream t x).tether = s.tether := by cases t <;> rfl
@[simp] theorem State.setStream_trail (t : Stream) (x : StreamState) : (s.setStream t x).trail = s.trail := by cases t <;> rfl
@[simp] theorem State.setStream_book (t : Stream) (x : StreamState) : (s.setStream t x).book = s.book := by cases t <;> rfl
@[simp] theorem State.setStream_ident (t : Stream) (x : StreamState) : (s.setStream t x).ident = s.ident := by cases t <;> rfl
@[simp] theorem State.setStream_power (t : Stream) (x : StreamState) : (s.setStream t x).power = s.power := by cases t <;> rfl
@[simp] theorem State.setStream_bring (t : Stream) (x : StreamState) : (s.setStream t x).bring = s.bring := by cases t <;> rfl
@[simp] theorem State.setStream_pins (t : Stream) (x : StreamState) : (s.setStream t x).pins = s.pins := by cases t <;> rfl
@[simp] theorem State.setStream_sites (t : Stream) (x : StreamState) : (s.setStream t x).sites = s.sites := by cases t <;> rfl
@[simp] theorem State.setStream_free (t : Stream) (x : StreamState) : (s.setStream t x).free = s.free := by cases t <;> rfl
@[simp] theorem State.setStreamState_pending (t : Stream) (v : Nat) : (s.setStreamState t v).pending = s.pending := by cases t <;> rfl
@[simp] theorem State.setStreamState_clk (t : Stream) (v : Nat) : (s.setStreamState t v).clk = s.clk := by cases t <;> rfl
@[simp] theorem State.setStreamState_mem (t : Stream) (v : Nat) : (s.setStreamState t v).mem = s.mem := by cases t <;> rfl
@[simp] theorem State.setStreamState_poison (t : Stream) (v : Nat) : (s.setStreamState t v).poison = s.poison := by cases t <;> rfl
@[simp] theorem State.setStreamState_wordMarks (t : Stream) (v : Nat) : (s.setStreamState t v).wordMarks = s.wordMarks := by cases t <;> rfl
@[simp] theorem State.setStreamState_flips (t : Stream) (v : Nat) : (s.setStreamState t v).flips = s.flips := by cases t <;> rfl
@[simp] theorem State.setStreamState_ridge (t : Stream) (v : Nat) : (s.setStreamState t v).ridge = s.ridge := by cases t <;> rfl
@[simp] theorem State.setStreamState_engines (t : Stream) (v : Nat) : (s.setStreamState t v).engines = s.engines := by cases t <;> rfl
@[simp] theorem State.setStreamState_vecs (t : Stream) (v : Nat) : (s.setStreamState t v).vecs = s.vecs := by cases t <;> rfl
@[simp] theorem State.setStreamState_stow (t : Stream) (v : Nat) : (s.setStreamState t v).stow = s.stow := by cases t <;> rfl
@[simp] theorem State.setStreamState_ddr (t : Stream) (v : Nat) : (s.setStreamState t v).ddr = s.ddr := by cases t <;> rfl
@[simp] theorem State.setStreamState_sched (t : Stream) (v : Nat) : (s.setStreamState t v).sched = s.sched := by cases t <;> rfl
@[simp] theorem State.setStreamState_seq (t : Stream) (v : Nat) : (s.setStreamState t v).seq = s.seq := by cases t <;> rfl
@[simp] theorem State.setStreamState_rings (t : Stream) (v : Nat) : (s.setStreamState t v).rings = s.rings := by cases t <;> rfl
@[simp] theorem State.setStreamState_plumb (t : Stream) (v : Nat) : (s.setStreamState t v).plumb = s.plumb := by cases t <;> rfl
@[simp] theorem State.setStreamState_sensors (t : Stream) (v : Nat) : (s.setStreamState t v).sensors = s.sensors := by cases t <;> rfl
@[simp] theorem State.setStreamState_datum (t : Stream) (v : Nat) : (s.setStreamState t v).datum = s.datum := by cases t <;> rfl
@[simp] theorem State.setStreamState_traverse (t : Stream) (v : Nat) : (s.setStreamState t v).traverse = s.traverse := by cases t <;> rfl
@[simp] theorem State.setStreamState_guyline (t : Stream) (v : Nat) : (s.setStreamState t v).guyline = s.guyline := by cases t <;> rfl
@[simp] theorem State.setStreamState_stadia (t : Stream) (v : Nat) : (s.setStreamState t v).stadia = s.stadia := by cases t <;> rfl
@[simp] theorem State.setStreamState_tether (t : Stream) (v : Nat) : (s.setStreamState t v).tether = s.tether := by cases t <;> rfl
@[simp] theorem State.setStreamState_trail (t : Stream) (v : Nat) : (s.setStreamState t v).trail = s.trail := by cases t <;> rfl
@[simp] theorem State.setStreamState_book (t : Stream) (v : Nat) : (s.setStreamState t v).book = s.book := by cases t <;> rfl
@[simp] theorem State.setStreamState_ident (t : Stream) (v : Nat) : (s.setStreamState t v).ident = s.ident := by cases t <;> rfl
@[simp] theorem State.setStreamState_power (t : Stream) (v : Nat) : (s.setStreamState t v).power = s.power := by cases t <;> rfl
@[simp] theorem State.setStreamState_bring (t : Stream) (v : Nat) : (s.setStreamState t v).bring = s.bring := by cases t <;> rfl
@[simp] theorem State.setStreamState_pins (t : Stream) (v : Nat) : (s.setStreamState t v).pins = s.pins := by cases t <;> rfl
@[simp] theorem State.setStreamState_sites (t : Stream) (v : Nat) : (s.setStreamState t v).sites = s.sites := by cases t <;> rfl
@[simp] theorem State.setStreamState_free (t : Stream) (v : Nat) : (s.setStreamState t v).free = s.free := by cases t <;> rfl

@[simp] theorem State.tickF_clk_fclk (dt : Nat) : (s.tickF dt).clk.fclk = s.clk.fclk + dt := congrArg (·.fclk) (State.drainDatum_clk _ dt)
@[simp] theorem State.tickF_clk_aclk (dt : Nat) : (s.tickF dt).clk.aclk = s.clk.aclk := congrArg (·.aclk) (State.drainDatum_clk _ dt)
@[simp] theorem State.tickF_clk_mclk (dt : Nat) : (s.tickF dt).clk.mclk = s.clk.mclk := congrArg (·.mclk) (State.drainDatum_clk _ dt)
@[simp] theorem State.tickF_clk_tclk (dt : Nat) : (s.tickF dt).clk.tclk = s.clk.tclk := congrArg (·.tclk) (State.drainDatum_clk _ dt)
@[simp] theorem State.tickF_clk_gclk (dt : Nat) : (s.tickF dt).clk.gclk = s.clk.gclk := congrArg (·.gclk) (State.drainDatum_clk _ dt)
@[simp] theorem State.tickF_clk_sclk (dt : Nat) : (s.tickF dt).clk.sclk = s.clk.sclk := congrArg (·.sclk) (State.drainDatum_clk _ dt)
@[simp] theorem State.tickF_clk_bclk (dt : Nat) : (s.tickF dt).clk.bclk = s.clk.bclk := congrArg (·.bclk) (State.drainDatum_clk _ dt)
@[simp] theorem State.tickF_clk_port (dt : Nat) : (s.tickF dt).clk.port = s.clk.port := congrArg (·.port) (State.drainDatum_clk _ dt)
@[simp] theorem State.tickF_clk_host (dt : Nat) : (s.tickF dt).clk.host = s.clk.host := congrArg (·.host) (State.drainDatum_clk _ dt)
@[simp] theorem State.tickF_clk_tether (dt : Nat) : (s.tickF dt).clk.tether = s.clk.tether := congrArg (·.tether) (State.drainDatum_clk _ dt)
@[simp] theorem State.tickM_clk_mclk (dt : Nat) : (s.tickM dt).clk.mclk = s.clk.mclk + dt := rfl
@[simp] theorem State.tickM_clk_aclk (dt : Nat) : (s.tickM dt).clk.aclk = s.clk.aclk := rfl
@[simp] theorem State.tickM_clk_fclk (dt : Nat) : (s.tickM dt).clk.fclk = s.clk.fclk := rfl
@[simp] theorem State.tickM_clk_tclk (dt : Nat) : (s.tickM dt).clk.tclk = s.clk.tclk := rfl
@[simp] theorem State.tickM_clk_gclk (dt : Nat) : (s.tickM dt).clk.gclk = s.clk.gclk := rfl
@[simp] theorem State.tickM_clk_sclk (dt : Nat) : (s.tickM dt).clk.sclk = s.clk.sclk := rfl
@[simp] theorem State.tickM_clk_bclk (dt : Nat) : (s.tickM dt).clk.bclk = s.clk.bclk := rfl
@[simp] theorem State.tickM_clk_port (dt : Nat) : (s.tickM dt).clk.port = s.clk.port := rfl
@[simp] theorem State.tickM_clk_host (dt : Nat) : (s.tickM dt).clk.host = s.clk.host := rfl
@[simp] theorem State.tickM_clk_tether (dt : Nat) : (s.tickM dt).clk.tether = s.clk.tether := rfl
@[simp] theorem State.tickT_clk_tclk (dt : Nat) : (s.tickT dt).clk.tclk = s.clk.tclk + dt := rfl
@[simp] theorem State.tickT_clk_aclk (dt : Nat) : (s.tickT dt).clk.aclk = s.clk.aclk := rfl
@[simp] theorem State.tickT_clk_fclk (dt : Nat) : (s.tickT dt).clk.fclk = s.clk.fclk := rfl
@[simp] theorem State.tickT_clk_mclk (dt : Nat) : (s.tickT dt).clk.mclk = s.clk.mclk := rfl
@[simp] theorem State.tickT_clk_gclk (dt : Nat) : (s.tickT dt).clk.gclk = s.clk.gclk := rfl
@[simp] theorem State.tickT_clk_sclk (dt : Nat) : (s.tickT dt).clk.sclk = s.clk.sclk := rfl
@[simp] theorem State.tickT_clk_bclk (dt : Nat) : (s.tickT dt).clk.bclk = s.clk.bclk := rfl
@[simp] theorem State.tickT_clk_port (dt : Nat) : (s.tickT dt).clk.port = s.clk.port := rfl
@[simp] theorem State.tickT_clk_host (dt : Nat) : (s.tickT dt).clk.host = s.clk.host := rfl
@[simp] theorem State.tickT_clk_tether (dt : Nat) : (s.tickT dt).clk.tether = s.clk.tether := rfl
@[simp] theorem State.tickG_clk_gclk (dt : Nat) : (s.tickG dt).clk.gclk = s.clk.gclk + dt := rfl
@[simp] theorem State.tickG_clk_aclk (dt : Nat) : (s.tickG dt).clk.aclk = s.clk.aclk := rfl
@[simp] theorem State.tickG_clk_fclk (dt : Nat) : (s.tickG dt).clk.fclk = s.clk.fclk := rfl
@[simp] theorem State.tickG_clk_mclk (dt : Nat) : (s.tickG dt).clk.mclk = s.clk.mclk := rfl
@[simp] theorem State.tickG_clk_tclk (dt : Nat) : (s.tickG dt).clk.tclk = s.clk.tclk := rfl
@[simp] theorem State.tickG_clk_sclk (dt : Nat) : (s.tickG dt).clk.sclk = s.clk.sclk := rfl
@[simp] theorem State.tickG_clk_bclk (dt : Nat) : (s.tickG dt).clk.bclk = s.clk.bclk := rfl
@[simp] theorem State.tickG_clk_port (dt : Nat) : (s.tickG dt).clk.port = s.clk.port := rfl
@[simp] theorem State.tickG_clk_host (dt : Nat) : (s.tickG dt).clk.host = s.clk.host := rfl
@[simp] theorem State.tickG_clk_tether (dt : Nat) : (s.tickG dt).clk.tether = s.clk.tether := rfl
@[simp] theorem State.tickS_clk_sclk (dt : Nat) : (s.tickS dt).clk.sclk = s.clk.sclk + dt := rfl
@[simp] theorem State.tickS_clk_aclk (dt : Nat) : (s.tickS dt).clk.aclk = s.clk.aclk := rfl
@[simp] theorem State.tickS_clk_fclk (dt : Nat) : (s.tickS dt).clk.fclk = s.clk.fclk := rfl
@[simp] theorem State.tickS_clk_mclk (dt : Nat) : (s.tickS dt).clk.mclk = s.clk.mclk := rfl
@[simp] theorem State.tickS_clk_tclk (dt : Nat) : (s.tickS dt).clk.tclk = s.clk.tclk := rfl
@[simp] theorem State.tickS_clk_gclk (dt : Nat) : (s.tickS dt).clk.gclk = s.clk.gclk := rfl
@[simp] theorem State.tickS_clk_bclk (dt : Nat) : (s.tickS dt).clk.bclk = s.clk.bclk := rfl
@[simp] theorem State.tickS_clk_port (dt : Nat) : (s.tickS dt).clk.port = s.clk.port := rfl
@[simp] theorem State.tickS_clk_host (dt : Nat) : (s.tickS dt).clk.host = s.clk.host := rfl
@[simp] theorem State.tickS_clk_tether (dt : Nat) : (s.tickS dt).clk.tether = s.clk.tether := rfl
@[simp] theorem State.tickB_clk_bclk (dt : Nat) : (s.tickB dt).clk.bclk = s.clk.bclk + dt := rfl
@[simp] theorem State.tickB_clk_aclk (dt : Nat) : (s.tickB dt).clk.aclk = s.clk.aclk := rfl
@[simp] theorem State.tickB_clk_fclk (dt : Nat) : (s.tickB dt).clk.fclk = s.clk.fclk := rfl
@[simp] theorem State.tickB_clk_mclk (dt : Nat) : (s.tickB dt).clk.mclk = s.clk.mclk := rfl
@[simp] theorem State.tickB_clk_tclk (dt : Nat) : (s.tickB dt).clk.tclk = s.clk.tclk := rfl
@[simp] theorem State.tickB_clk_gclk (dt : Nat) : (s.tickB dt).clk.gclk = s.clk.gclk := rfl
@[simp] theorem State.tickB_clk_sclk (dt : Nat) : (s.tickB dt).clk.sclk = s.clk.sclk := rfl
@[simp] theorem State.tickB_clk_port (dt : Nat) : (s.tickB dt).clk.port = s.clk.port := rfl
@[simp] theorem State.tickB_clk_host (dt : Nat) : (s.tickB dt).clk.host = s.clk.host := rfl
@[simp] theorem State.tickB_clk_tether (dt : Nat) : (s.tickB dt).clk.tether = s.clk.tether := rfl

end Sys2Proof.Machine
end

