-- ==== Sys2Proof/Laws/Memory.lean ====
section
/-! SUPPORT. Laws of memory: every operation keeps its canonical form and that of the poison marks, a read after a write finds what was
written, and bytes outside the written range read as before. -/

namespace Sys2Proof.Machine

/-! ## The canonical form -/

theorem Memory.wf_reset : Memory.wf State.reset.mem := rfl

theorem State.memWf_wrByte {s : State} (h : Memory.wf s.mem) (a : Nat) (b : Byte) : Memory.wf (s.wrByte a b).mem :=
  spWf_spSet h _ _

theorem State.memWf_wrBytes {s : State} (h : Memory.wf s.mem) (a : Nat) (bs : List Byte) : Memory.wf (s.wrBytes a bs).mem :=
  spWf_spWrite _ _ h

theorem State.memWf_wrMarked {s : State} (h : Memory.wf s.mem) (a : Nat) (bs : List Byte) (p : Bool) :
    Memory.wf (s.wrMarked a bs p).mem := State.memWf_wrBytes h a bs

theorem State.memWf_dropRange {s : State} (h : Memory.wf s.mem) (a n : Nat) : Memory.wf (s.dropRange a n).mem :=
  spWf_spKeep (fun k => !(decide (a ≤ k) && decide (k < a + n))) h

theorem State.memWf_clearRange {s : State} (h : Memory.wf s.mem) (a n : Nat) : Memory.wf (s.clearRange a n).mem := by
  unfold State.clearRange
  dsimp only
  split
  · exact State.memWf_wrBytes (State.memWf_dropRange h a n) _ _
  · exact State.memWf_dropRange h a n

theorem State.memWf_copyRange {s : State} (h : Memory.wf s.mem) (src dst n : Nat) : Memory.wf (s.copyRange src dst n).mem := by
  unfold State.copyRange
  dsimp only
  split
  · exact spWf_spWrite _ _ h
  · exact spWf_spCopy _ _ _ h

/-- The poison marks in their canonical form. -/
abbrev State.poisonWf (s : State) : Prop := spWf false s.poison = true

theorem State.poisonWf_setPoisonAt {s : State} (h : s.poisonWf) (a : Nat) (p : Bool) : (s.setPoisonAt a p).poisonWf :=
  spWf_spSet h _ _

theorem spWf_foldl_spSet {α β : Type} [DecidableEq α] {d : α} (l : List β) (k : β → Nat) (x : β → α) :
    ∀ {t : List (Nat × α)}, spWf d t = true → spWf d (l.foldl (fun t b => spSet d t (k b) (x b)) t) = true := by
  induction l with
  | nil => intro t h; exact h
  | cons b l ih => intro t h; exact ih (spWf_spSet h _ _)

theorem State.poisonWf_markRange {s : State} (h : s.poisonWf) (a n : Nat) (p : Bool) : (s.markRange a n p).poisonWf :=
  spWf_foldl_spSet _ (fun k => a / 32 + k) (fun _ => p) h

theorem State.poisonWf_wrMarked {s : State} (h : s.poisonWf) (a : Nat) (bs : List Byte) (p : Bool) :
    (s.wrMarked a bs p).poisonWf := State.poisonWf_markRange (s := s.wrBytes a bs) h _ _ _

theorem State.poisonWf_dropRange {s : State} (h : s.poisonWf) (a n : Nat) : (s.dropRange a n).poisonWf :=
  spWf_spKeep (fun k => !(decide (a ≤ 32 * k) && decide (32 * k < a + n))) h

theorem State.poisonWf_clearRange {s : State} (h : s.poisonWf) (a n : Nat) : (s.clearRange a n).poisonWf := by
  unfold State.clearRange
  dsimp only
  split
  · exact State.poisonWf_dropRange h a n
  · exact State.poisonWf_dropRange h a n

theorem State.poisonWf_copyRange {s : State} (h : s.poisonWf) (src dst n : Nat) : (s.copyRange src dst n).poisonWf := by
  unfold State.copyRange
  dsimp only
  split
  · exact spWf_spCopy _ _ _ h
  · exact spWf_spCopy _ _ _ h

/-! ## Reads after writes -/

theorem State.rdByte_wrByte_same {s : State} (h : Memory.wf s.mem) (a : Nat) (b : Byte) : (s.wrByte a b).rdByte a = b := by
  have hb : (s.wrByte a b).blank a = s.blank a := rfl
  unfold State.rdByte
  rw [hb]
  unfold State.wrByte
  rw [spGet_spSet_same _ _ _ _ h, BitVec.xor_assoc, BitVec.xor_self, BitVec.xor_zero]

theorem State.rdByte_wrByte_ne {s : State} (h : Memory.wf s.mem) {a x : Nat} (b : Byte) (hx : x ≠ a) :
    (s.wrByte a b).rdByte x = s.rdByte x := by
  have hb : (s.wrByte a b).blank x = s.blank x := rfl
  unfold State.rdByte
  rw [hb]
  unfold State.wrByte
  rw [spGet_spSet_ne _ _ _ _ _ h fun e => hx e.symm]

theorem State.shade_length (s : State) (a : Nat) (bs : List Byte) : (s.shade a bs).length = bs.length := by
  unfold State.shade; split <;> simp

/-- Every byte outside the written range reads as before. -/
theorem State.rdByte_wrBytes_outside {s : State} (h : Memory.wf s.mem) (a : Nat) (bs : List Byte) {x : Nat}
    (hx : x < a ∨ a + bs.length ≤ x) : (s.wrBytes a bs).rdByte x = s.rdByte x := by
  have hb : (s.wrBytes a bs).blank x = s.blank x := rfl
  unfold State.rdByte
  rw [hb]
  unfold State.wrBytes
  rw [spGet_spWrite _ _ _ _ _ h, State.shade_length, if_neg (by omega)]

/-- Marking units poisoned changes no byte. -/
@[simp] theorem State.rdByte_markRange (s : State) (a n : Nat) (p : Bool) (x : Nat) : (s.markRange a n p).rdByte x = s.rdByte x := rfl

theorem State.rdByte_wrMarked_outside {s : State} (h : Memory.wf s.mem) (a : Nat) (bs : List Byte) (p : Bool) {x : Nat}
    (hx : x < a ∨ a + bs.length ≤ x) : (s.wrMarked a bs p).rdByte x = s.rdByte x := by
  have : (s.wrMarked a bs p).rdByte x = (s.wrBytes a bs).rdByte x := rfl
  rw [this, State.rdByte_wrBytes_outside h a bs hx]

end Sys2Proof.Machine
end

