-- ==== Sys2Proof/Laws/Regs.lean ====
section
/-! SUPPORT. Laws of the register file: what a register and a field read after a write of a register or a field. -/

namespace Sys2Proof.Machine

/-- The register file stands in its canonical form. -/
abbrev State.regsWf (s : State) : Prop := spWf (0 : BitVec 64) s.regs = true

theorem State.regsWf_setReg {s : State} (h : s.regsWf) (r : RegArr) (i : Nat) (v : BitVec 64) : (s.setReg r i v).regsWf :=
  spWf_spSet h _ _

theorem State.regsWf_setFld {s : State} (h : s.regsWf) (f : RegField) (i x : Nat) : (s.setFld f i x).regsWf :=
  State.regsWf_setReg h _ _ _

@[simp] theorem State.reg_setReg_same {s : State} (h : s.regsWf) (r : RegArr) (i : Nat) (v : BitVec 64) :
    (s.setReg r i v).reg r i = v := by
  unfold State.reg State.setReg
  rw [spGet_spSet_same _ _ _ _ h, BitVec.xor_assoc, BitVec.xor_self, BitVec.xor_zero]

theorem State.reg_setReg_ne {s : State} (h : s.regsWf) {r r' : RegArr} {i j : Nat} (v : BitVec 64) (hk : r.key i ≠ r'.key j) :
    (s.setReg r i v).reg r' j = s.reg r' j := by
  unfold State.reg State.setReg
  rw [spGet_spSet_ne _ _ _ _ _ h hk]

/-- A register whose key is listed nowhere reads its value after S0. -/
theorem State.reg_reset (r : RegArr) (i : Nat) : State.reset.reg r i = r.reset := by
  simp [State.reg, State.reset]

/-! ## Fields of a word -/

/-- The field lies within the register. -/
abbrev RegField.fits (f : RegField) : Prop := f.lo + f.w ≤ 64

/-- No bit belongs to both fields. -/
abbrev RegField.apart (f g : RegField) : Prop := f.lo + f.w ≤ g.lo ∨ g.lo + g.w ≤ f.lo

theorem getElem_ofNat64 (x j : Nat) (hj : j < 64) : (BitVec.ofNat 64 x)[j] = x.testBit j := by
  rw [← BitVec.getLsbD_eq_getElem, BitVec.getLsbD_ofNat]; simp [hj]

theorem RegField.getLsbD_put (f : RegField) (v : BitVec 64) (x k : Nat) (hk : k < 64) :
    (f.put v x).getLsbD k = if f.lo ≤ k ∧ k < f.lo + f.w then x.testBit (k - f.lo) else v.getLsbD k := by
  unfold RegField.put
  by_cases h1 : f.lo ≤ k
  · by_cases h2 : k < f.lo + f.w
    · have h3 : k - f.lo < f.w := by omega
      have h5 : ¬ k < f.lo := by omega
      simp [hk, h1, h2, h5, getElem_ofNat64, Nat.testBit_two_pow_sub_one, h3]
    · have h3 : ¬ k - f.lo < f.w := by omega
      have h5 : ¬ k < f.lo := by omega
      simp [hk, h1, h2, h5, getElem_ofNat64, Nat.testBit_two_pow_sub_one, h3]
  · have h5 : k < f.lo := by omega
    simp [hk, h1, h5]

theorem RegField.testBit_get (f : RegField) (v : BitVec 64) (k : Nat) :
    (f.get v).testBit k = (decide (k < f.w) && v.getLsbD (f.lo + k)) := by
  unfold RegField.get
  rw [← BitVec.getLsbD, BitVec.getLsbD_extractLsb']

theorem RegField.get_put_same (f : RegField) (v : BitVec 64) (x : Nat) (hf : f.fits) : f.get (f.put v x) = x % 2 ^ f.w := by
  unfold RegField.fits at hf
  apply Nat.eq_of_testBit_eq
  intro k
  rw [RegField.testBit_get, Nat.testBit_mod_two_pow]
  by_cases hk : k < f.w
  · have h1 : f.lo + k < 64 := by omega
    have h2 : f.lo ≤ f.lo + k ∧ f.lo + k < f.lo + f.w := by omega
    rw [RegField.getLsbD_put _ _ _ _ h1, if_pos h2]
    simp [hk]
  · simp [hk]

theorem RegField.get_put_apart {f g : RegField} (v : BitVec 64) (x : Nat) (hg : g.fits) (h : f.apart g) :
    g.get (f.put v x) = g.get v := by
  unfold RegField.fits at hg
  unfold RegField.apart at h
  apply Nat.eq_of_testBit_eq
  intro k
  rw [RegField.testBit_get, RegField.testBit_get]
  by_cases hk : k < g.w
  · have h1 : g.lo + k < 64 := by omega
    have h2 : ¬(f.lo ≤ g.lo + k ∧ g.lo + k < f.lo + f.w) := by omega
    rw [RegField.getLsbD_put _ _ _ _ h1, if_neg h2]
  · simp [hk]

/-! ## Fields of registers -/

theorem State.fld_setFld_same {s : State} (h : s.regsWf) (f : RegField) (i x : Nat) (hf : f.fits) :
    (s.setFld f i x).fld f i = x % 2 ^ f.w := by
  unfold State.fld State.setFld
  rw [State.reg_setReg_same h, RegField.get_put_same f _ x hf]

/-- Entry `j` of field `g` shares no bit with entry `i` of field `f`: it lies in another register or entry, or beside it. -/
abbrev RegField.sep (f : RegField) (i : Nat) (g : RegField) (j : Nat) : Prop :=
  f.reg.key i ≠ g.reg.key j ∨ (g.reg = f.reg ∧ i = j ∧ f.apart g ∧ g.fits)

theorem State.fld_setFld_sep {s : State} (h : s.regsWf) {f g : RegField} {i j : Nat} (x : Nat) (hs : f.sep i g j) :
    (s.setFld f i x).fld g j = s.fld g j := by
  unfold State.fld State.setFld
  rcases hs with hk | ⟨hr, hi, ha, hg⟩
  · rw [State.reg_setReg_ne h _ hk]
  · subst hi
    rw [hr, State.reg_setReg_same h, RegField.get_put_apart _ x hg ha]

theorem State.reg_setFld_ne {s : State} (h : s.regsWf) {f : RegField} {i : Nat} {r : RegArr} {j : Nat} (x : Nat)
    (hk : f.reg.key i ≠ r.key j) : (s.setFld f i x).reg r j = s.reg r j := State.reg_setReg_ne h _ hk

theorem State.fld_bump_same {s : State} (h : s.regsWf) (f : RegField) (i n : Nat) (hf : f.fits) :
    (s.bump f i n).fld f i = min (2 ^ f.w - 1) (s.fld f i + n) := by
  unfold State.bump
  rw [State.fld_setFld_same h f i _ hf]
  refine Nat.mod_eq_of_lt ?_
  have : 0 < 2 ^ f.w := Nat.two_pow_pos _
  omega

theorem State.fld_count_same {s : State} (h : s.regsWf) (f : RegField) (i n : Nat) (hf : f.fits) :
    (s.count f i n).fld f i = (s.fld f i + n) % 2 ^ f.w := State.fld_setFld_same h f i _ hf

theorem State.regsWf_bump {s : State} (h : s.regsWf) (f : RegField) (i n : Nat) : (s.bump f i n).regsWf := State.regsWf_setFld h _ _ _
theorem State.regsWf_count {s : State} (h : s.regsWf) (f : RegField) (i n : Nat) : (s.count f i n).regsWf := State.regsWf_setFld h _ _ _
theorem State.regsWf_setFlag {s : State} (h : s.regsWf) (f : RegField) (i : Nat) : (s.setFlag f i).regsWf := State.regsWf_setFld h _ _ _

/-- The interrupt's update writes only TH_ATTN's PIN field. -/
theorem State.fld_updateAttn {s : State} (h : s.regsWf) {g : RegField} {j : Nat} (hs : F.TH_ATTN_PIN.sep 0 g j) :
    s.updateAttn.fld g j = s.fld g j := by
  unfold State.updateAttn
  dsimp only
  split
  · exact State.fld_setFld_sep (f := F.TH_ATTN_PIN) h _ hs
  · split
    · exact State.fld_setFld_sep (s := { s with trail := { s.trail with attnHold := true } }) (f := F.TH_ATTN_PIN) h _ hs
    · rfl

theorem State.reg_updateAttn {s : State} (h : s.regsWf) {r : RegArr} {j : Nat} (hk : R.TH_ATTN.key 0 ≠ r.key j) :
    s.updateAttn.reg r j = s.reg r j := by
  unfold State.updateAttn
  dsimp only
  split
  · exact State.reg_setFld_ne (f := F.TH_ATTN_PIN) h _ hk
  · split
    · exact State.reg_setFld_ne (s := { s with trail := { s.trail with attnHold := true } }) (f := F.TH_ATTN_PIN) h _ hk
    · rfl

theorem State.regsWf_updateAttn {s : State} (h : s.regsWf) : s.updateAttn.regsWf := by
  unfold State.updateAttn
  dsimp only
  split
  · exact State.regsWf_setFld h _ _ _
  · split
    · exact State.regsWf_setFld (s := { s with trail := { s.trail with attnHold := true } }) h _ _ _
    · exact h

/-- A cause of TH_ATTN leaves every field outside TH_ATTN as it was. -/
theorem State.fld_attn {s : State} (h : s.regsWf) {f g : RegField} {j : Nat} (hf : f.sep 0 g j) (hs : F.TH_ATTN_PIN.sep 0 g j) :
    (s.attn f).fld g j = s.fld g j := by
  unfold State.attn
  rw [State.fld_updateAttn (State.regsWf_setFlag h f 0) hs]
  exact State.fld_setFld_sep h _ hf

theorem State.regsWf_attn {s : State} (h : s.regsWf) (f : RegField) : (s.attn f).regsWf :=
  State.regsWf_updateAttn (State.regsWf_setFlag h f 0)

/-- A field never exceeds its width. -/
theorem State.fld_lt (s : State) (f : RegField) (i : Nat) : s.fld f i < 2 ^ f.w := by
  unfold State.fld RegField.get
  exact BitVec.isLt _

end Sys2Proof.Machine
end

