-- ==== Sys2Proof/Tests/Slice0.lean ====
section
/-! SUPPORT. The model's own tests: refused ill-formed commands, single steps whose results the spec states, and for every statement
with hypotheses a state and operands that meet them. -/

namespace Sys2Proof.Tests

open Sys2Proof.Machine

/-- `State.canonical` as one check. -/
def canonicalCheck (s : State) : Bool :=
  spWf (0 : Byte) s.mem && spWf false s.poison && spWf (0 : Nat) s.wordMarks && spWf (0 : BitVec 64) s.regs && spWf Engine.reset s.engines && spWf VecUnit.reset s.vecs &&
  spWf DdrChan.reset s.ddr && spWf SeqPart.reset s.seq && spWf TlPort.reset s.tether && spWf FaultSite.reset s.sites &&
  spWf ([] : List Transfer) s.stow.queues && spWf Lot.reset s.stow.lots

theorem canonical_of_check {s : State} (h : canonicalCheck s = true) : s.canonical := by
  simp only [canonicalCheck, Bool.and_eq_true] at h
  obtain ⟨⟨⟨⟨⟨⟨⟨⟨⟨⟨⟨hmem, hpoison⟩, hwords⟩, hregs⟩, hengines⟩, hvecs⟩, hddr⟩, hseq⟩, htether⟩, hsites⟩, hqueues⟩, hlots⟩ := h
  exact ⟨hmem, hpoison, hwords, hregs, hengines, hvecs, hddr, hseq, htether, hsites, hqueues, hlots⟩

theorem pair_true {α : Type} {p : α × Bool} (h : p.2 = true) : p = (p.1, true) := Prod.ext rfl h

set_option maxRecDepth 100000
set_option Elab.async false
/-- A hold by the code given, from cycle 0 and without an end of its own. -/
def holding (s : State) (code : Nat) (due : Option Nat) : State :=
  { s with ridge := { s.ridge with hold := some ⟨code, 2 ^ code, 0, 0, [⟨code, 0, due⟩]⟩ } }

/-! ## Witnesses: the plan (02) -/

/-- `s` with a bundle of idle slices and the chip words `ws` at index `i` of the plan region, its check word right. -/
def putBundle (s : State) (i : Nat) (ws : List (Nat × Nat)) : State :=
  let lane (c : Nat) : Nat := spGet 0 ws c * 2 ^ 448
  let crc := crc32c (((List.range 16).flatMap fun c => leBytes 64 (lane c)).take 1020)
  (spSet 0 ws 15 (crc * 2 ^ 32)).foldl (fun s x => s.wrBytes (coreBase x.1 + s.planLot * 65536 + 64 * i + 56) (leBytes 8 x.2)) s

/-- A loaded plan whose streams stand stopped; its fill part begins at bundle 16. -/
def planState : State :=
  ({ State.reset with ridge := { State.reset.ridge with planLoaded := true } }).setFld F.PL_ENTRY_FILL_BASE 0 16

/-- The plan with stream `st` running at a bundle with the chip words `ws`. -/
def atBundle (st : Stream) (ws : List (Nat × Nat)) : State :=
  let s := (putBundle planState (match st with | .frame => 0 | .fill => 16) ws).setStreamState st 1
  s.setStream st { s.stream st with ptr := match st with | .frame => 0 | .fill => 16 }

theorem test_witness_PlanControlWritesAct_go : planState.canonical ∧ planState.coreDark = false ∧ (1 : PartId).val < 2 ∧
    planState.ridge.planLoaded = true ∧ planState.fld F.PL_STATUS_FRAME_STATE = 0 ∧ planState.fld F.PL_STATUS_FILL_STATE = 0 ∧
    planState.fillHeld = false :=
  ⟨canonical_of_check (by decide +kernel), by decide +kernel⟩

theorem test_witness_PlanControlWritesAct_stop : ∃ s : State, s.canonical ∧ s.coreDark = false ∧ s.runs .fill = true ∧
    s.ridge.fill.started = true ∧ s.runs .frame = true ∧ s.ridge.frame.started = true ∧ (0 : PartId).val < 2 ∧ (0 : PartId).val = 0 :=
  ⟨let s := ((planState.setStreamState .frame 1).setStreamState .fill 1);
    (s.setStream .frame { s.stream .frame with started := true }).setStream .fill { s.stream .fill with started := true },
    canonical_of_check (by decide +kernel), by decide +kernel⟩

/-- Debug access granted, partition 0 unconfigured, and debugging enabled. -/
def debugState : State := (planState.setFld F.BC_PART_STATE_STATE 0 0).setFld F.PL_CTRL_DEBUG_EN 0 1

theorem test_witness_PlanControlWritesAct_debug : debugState.canonical ∧ debugState.coreDark = false ∧
    debugState.debugRight (1 : PartId).val = true ∧ debugState.ridge.hold = none ∧ debugState.flag F.PL_CTRL_DEBUG_EN = true ∧
    2 ≤ (2 : PartId).val :=
  ⟨canonical_of_check (by decide +kernel), by decide +kernel⟩

theorem test_witness_PlanControlWritesAct_step : ∃ (s : State) (h : Hold), s.canonical ∧ s.coreDark = false ∧
    s.debugRight (1 : PartId).val = true ∧ s.ridge.hold = some h ∧ h.causes.any (fun c => c.code == 8) = true :=
  ⟨holding debugState 8 none, ⟨8, 2 ^ 8, 0, 0, [⟨8, 0, none⟩]⟩, canonical_of_check (by decide +kernel), by decide +kernel⟩

/-- The same once its bundle has passed its checks and is started. -/
def inBundle (st : Stream) (ws : List (Nat × Nat)) : State :=
  (atBundle st ws).setStream st { (atBundle st ws).stream st with started := true }

/-- What BundlesIssueWhenTheyMay asks before `issue` for a bundle of kind `k`, as one check. -/
def mayIssue (s : State) (st : Stream) (dt k : Nat) : Bool :=
  let v := s.passA dt
  let u := v.noteOverrun
  !s.coreDark && v.runs st && decide ((v.stream st).freeAt ≤ v.clk.aclk) && (u.fetch (u.stream st).ptr).kind == k && (u.startCheck st k).2

theorem test_witness_BundlesIssueWhenTheyMay_normal : mayIssue (atBundle .fill [(0, 3)]) .fill 1 0 = true ∧
    mayIssue (inBundle .frame [(0, 3)]) .frame 1 0 = true := by
  decide +kernel

theorem test_witness_BundlesIssueWhenTheyMay_frameWait : ∃ s : State, mayIssue s .frame 0 1 = true ∧
    ((s.passA 0).noteOverrun.startCheck .frame 1).1.ridge.starts = [⟨1, 0⟩] ∧
    max ((s.passA 0).noteOverrun.startCheck .frame 1).1.ridge.frame.freeAt 0 ≤
      ((s.passA 0).noteOverrun.startCheck .frame 1).1.clk.aclk :=
  ⟨let s := inBundle .frame [(0, 1 * 2 ^ 24)];
    { s with ridge := { s.ridge with starts := [⟨1, 0⟩] } }, by decide +kernel⟩

theorem test_witness_BundlesIssueWhenTheyMay_anchor : ∃ s : State, mayIssue s .frame 5 2 = true ∧
    ((s.passA 5).noteOverrun.startCheck .frame 2).1.offsetCycle ((s.passA 5).noteOverrun.fetch 0) = 5 ∧
    ((s.passA 5).noteOverrun.startCheck .frame 2).1.clk.aclk = 5 := ⟨inBundle .frame [(0, 5 + 2 * 2 ^ 24)], by decide +kernel⟩

theorem test_witness_BundlesIssueWhenTheyMay_open : ∃ s w : State, ∃ b : Bundle, mayIssue s .frame 5 3 = true ∧
    (s.passA 5).noteOverrun.startCheck .frame 3 = (w, true) ∧ b = (s.passA 5).noteOverrun.fetch 0 ∧ w.offsetCycle b ≤ w.clk.aclk ∧
    w.ridge.windows = [] ∧ w.abandon b.coreMask (w.offsetCycle b) = w ∧ b.window ≠ w.fld F.SP_GOLDEN_CFG_WINDOW :=
  ⟨inBundle .frame [(0, 5 + 3 * 2 ^ 24), (1, 1 + 1 * 2 ^ 24)], _, _, by decide +kernel, pair_true (by decide +kernel), rfl, by decide +kernel⟩

theorem test_witness_BundlesIssueWhenTheyMay_close : ∃ s : State, mayIssue s .frame 0 4 = true ∧
    ((s.passA 0).noteOverrun.startCheck .frame 4).1.ridge.windows.any
      (fun x => x.id == ((s.passA 0).noteOverrun.fetch 0).window) = true :=
  ⟨let s := inBundle .frame [(0, 2 + 4 * 2 ^ 24), (1, 1 * 2 ^ 24)];
    { s with ridge := { s.ridge with windows := [⟨1, 1, 0, 1, 0⟩] } }, by decide +kernel⟩

theorem test_witness_BundlesIssueWhenTheyMay_end : mayIssue (inBundle .fill [(0, 6 * 2 ^ 24)]) .fill 0 6 = true := by decide +kernel

/-- A MARKER_WAIT of two cycles for tag 7 of port 0. -/
def markerState : State := atBundle .frame [(0, 2 + 5 * 2 ^ 24), (11, 7 + 1 * 2 ^ 17)]

theorem test_witness_MarkerWaitIssuesOrWaits : ∀ m ∈ [[], [((0 : Nat), (7 : Nat))]],
    let s := { markerState with ridge := { markerState.ridge with markers := m } }
    let u := if (s.fetch 0).kind = 5 ∧ (s.stream .frame).started = false ∧ s.markersHere (s.fetch 0) = true then (s.passA 1).markerCame .frame
      else s.passA 1
    let w := (u.passA 0).noteOverrun.startCheck .frame 5
    s.coreDark = false ∧ (u.passA 0).runs .frame = true ∧ ((u.passA 0).stream .frame).freeAt ≤ (u.passA 0).clk.aclk ∧
    ((u.passA 0).noteOverrun.fetch ((u.passA 0).noteOverrun.stream .frame).ptr).kind = 5 ∧ w.2 = true ∧
    (w.1.stream .frame).started = false ∧ w.1.markersHere ((u.passA 0).noteOverrun.fetch 0) = (m != []) := by
  decide +kernel

/-- The frame stream has waited for a marker since cycle 0. -/
def waitingState : State := markerState.setStream .frame { markerState.stream .frame with waitFrom := some 0 }

theorem test_witness_MarkerWaitIssuesOrWaits_expiry :
    let s := waitingState.setFld F.PL_CONFIG_TETHER_WAIT 0 10
    s.coreDark = false ∧ ((s.tickA 11).stream .frame).waitFrom = some 0 ∧
    0 + (s.tickA 11).fld F.PL_CONFIG_TETHER_WAIT < (s.tickA 11).clk.aclk ∧ ((s.tickA 10).stream .frame).waitFrom = some 0 ∧
    (s.tickA 10).clk.aclk ≤ 0 + (s.tickA 10).fld F.PL_CONFIG_TETHER_WAIT ∧ ((markerState.tickA 10).stream .frame).waitFrom = none := by
  decide +kernel

theorem test_witness_PlanFaultStopsItsStream : ∃ s : State, s.canonical ∧ (15 : Nat) < 16 ∧ (32767 : Nat) < 32768 ∧ s.bring.restarts = [] ∧
    s.fld F.PL_STATUS_FILL_STATE = 1 := ⟨inBundle .fill [(0, 3)], canonical_of_check (by decide +kernel), by decide +kernel⟩

theorem test_witness_HoldsEndAndAreRead_end : ∃ (s : State) (h : Hold) (c : HoldCause), s.canonical ∧ s.coreDark = false ∧
    (s.tickA 20).ridge.hold = some h ∧ h.causes = [c] ∧ c.code = 1 ∧ c.due = some 20 ∧ 20 ≤ (s.tickA 20).clk.aclk ∧
    s.ridge.holdLog.length < 64 :=
  ⟨holding planState 1 (some 20), ⟨1, 2, 0, 0, [⟨1, 0, some 20⟩]⟩, ⟨1, 0, some 20⟩, canonical_of_check (by decide +kernel), by decide +kernel⟩

theorem test_witness_HoldsEndAndAreRead_log : ∃ s : State, s.canonical ∧ s.coreDark = false ∧
    s.ridge.holdLog = [0x1021] := ⟨{ planState with ridge := { planState.ridge with holdLog := [0x1021] } },
    canonical_of_check (by decide +kernel), by decide +kernel⟩

theorem test_witness_HoldsEndAndAreRead_cond : ∃ (s : State) (w : CondWrite), s.canonical ∧ s.coreDark = false ∧
    (s.tickA 5).ridge.condPend = [w] ∧ w.done = none ∧ w.reg < 64 ∧ (s.tickA 5).flag F.FB_STATUS_REPLAYING = false :=
  ⟨{ planState with ridge := { planState.ridge with condPend := [⟨63, 9, none⟩] } }, ⟨63, 9, none⟩,
    canonical_of_check (by decide +kernel), by decide +kernel⟩

theorem test_witness_HoldsEndAndAreRead_read : unitReg (0x01 : BitVec 8).toNat (0x408 : BitVec 24).toNat = some (R.PL_ENG_STATUS, 1) ∧
    R.PL_ENG_STATUS ≠ R.PL_HOLD_LOG ∧ R.PL_ENG_STATUS ≠ R.DR_ERR_LOG ∧ R.PL_ENG_STATUS ≠ R.MT_PSTAT ∧ planState.active ≠ 4 := by
  decide +kernel

/-- A slice whose transfer part moves `len` units of 64 bytes between core stores for partition 2. -/
def moveSlice (len src dst : Nat) : SliceBits :=
  BitVec.ofNat 448 (1 * 2 ^ 256 + len * 2 ^ 260 + src * 2 ^ 272 + dst * 2 ^ 320 + 2 * 2 ^ 384)

theorem test_witness_MovesEnterTheQueue : ∀ l ∈ [1, 4094], ∀ op ∈ [1, 2],
    moveFault (movePart (moveSlice l (coreBase 0) (coreBase 1)).toNat op) = 0 ∧ planState.coreHeld (15 : CoreId).val = false ∧
    (planState.queue (15 : CoreId).val).length < 4 ∧ (holding planState 8 none).coreHeld (15 : CoreId).val = true := by
  decide +kernel

/-- A transfer of core 0, granted, of one unit from address 0 of its store to the next unit. -/
def readyMove : Transfer :=
  { core := 0, seg := false, len := 1, src := coreBase 0, dst := coreBase 0 + 64, rsrc := .addr (coreBase 0), rdst := .addr (coreBase 0 + 64),
    idesc := none, part := 2, klass := 1, slot := 0, got := [], route := .inCore, due := 1, done := 0, upto := 3, carry := [], again := [],
    tags := none }

theorem test_witness_MovesEnterTheQueue_full : ∃ s : State, s.canonical ∧ s.coreDark = false ∧ s.coreHeld (0 : CoreId).val = false ∧
    4 ≤ (s.queue (0 : CoreId).val).length :=
  ⟨planState.setQueue 0 (List.replicate 4 readyMove), canonical_of_check (by decide +kernel), by decide +kernel⟩

/-- Partition 2 holds lot 0 of core 0. -/
def shareState : State := planState.setFld F.MT_SHARE_COUNT 2 1

theorem test_witness_TransferMovesBytes :
    let s := shareState.setQueue 0 [readyMove]
    let u := (s.tickA 3).countMoves (s.clk.aclk + 3)
    let h := holding s 8 none
    canonicalCheck s = true ∧ s.coreDark = false ∧ u.pausesMoves = false ∧ u.stow.edge = [] ∧
    ((h.tickA 3).countMoves (h.clk.aclk + 3)).pausesMoves = true ∧ ((h.tickA 3).countMoves (h.clk.aclk + 3)).coreHeld 0 = true ∧
    ∃ x, u.queue (0 : CoreId).val = [x] ∧ x.route ≠ .ddr ∧ x.seg = false ∧ x.core = (0 : CoreId).val ∧ x.tags = none ∧
      x.src = coreBase 0 ∧ x.dst = coreBase 0 + 64 ∧ x.rsrc = .addr x.src ∧ x.rdst = .addr x.dst ∧ x.done ≤ x.due ∧ x.due ≤ x.len ∧
      coreBase 0 + 64 * x.len ≤ coreBase 16 ∧ coreBase 0 + 64 + 64 * x.len ≤ coreBase 16 ∧ coreBase 0 + 64 * x.len ≤ coreBase 0 + 64 ∧
      ∀ k, k < x.len → (u.tagOf (coreBase 0 + 64 * k)).reads x.part = true ∧ (u.tagOf (coreBase 0 + 64 + 64 * k)).writes x.part = true :=
  ⟨by decide +kernel, by decide +kernel, by decide +kernel, by decide +kernel, by decide +kernel, by decide +kernel,
    { readyMove with upto := 3 }, by decide +kernel⟩

/-! ## Witnesses: engines and vector units (03, 04) -/

/-- An engine slice: operation, engine mask, and all else 0. -/
def engineSlice (op en : Nat) : SliceBits := BitVec.ofNat 448 (op + en * 2 ^ 4)
/-- A vector slice: operation, format and length for partition 2. -/
def vectorSlice (op fmt len : Nat) : SliceBits := BitVec.ofNat 448 (op * 2 ^ 128 + fmt * 2 ^ 136 + len * 2 ^ 200 + 2 * 2 ^ 384)

theorem test_witness_EngineRowsRunTheirOperation :
    (∀ op ∈ [1, 2, 3, 4, 5, 6, 7, 8], engFault (engSlice (engPart (engineSlice op 1).toNat op)) 1024 = 0) ∧
    engFault (engSlice (engPart (engineSlice 1 1).toNat 1)) 1 = 0 ∧ engFault (engSlice (engPart (engineSlice 1 1).toNat 1)) 16777214 = 0 ∧
    engFault (engSlice (engPart (engineSlice 1 0).toNat 1)) 1024 = 3 ∧ State.reset.coreDark = false ∧
    State.reset.coreHeld (15 : CoreId).val = false ∧ (holding State.reset 8 none).coreHeld (15 : CoreId).val = true := by
  decide +kernel

/-- Engine `n` in the midst of a tile of operation `op`. -/
def engineState (n op : Nat) : State :=
  State.reset.setEngine n { Engine.reset with eop := op, wbits := 1, abits := 1, live := true }

theorem test_witness_EngineCycleAddsOneTerm : ∀ op ∈ [1, 2, 3],
    let s := engineState 127 op
    let x := engSlice (engPart (engineSlice op 1).toNat op)
    canonicalCheck s = true ∧ 0 < 1 ∧ 1 + 1 < 3 ∧ x.trans = false ∧ 1 ≤ x.eop ∧ x.eop ≤ 3 ∧ (s.engine 127).eop = x.eop ∧
    s.opbTag 127 (rowAt x.aRow x.aStep 1) = x.part ∧ s.opbTag 127 (rowAt x.wRow x.wStep 1) = x.part ∧
    s.earlyRead (opbRow 127 (rowAt x.aRow x.aStep 1)) 64 = false ∧ s.earlyRead (opbRow 127 (rowAt x.wRow x.wStep 1)) 64 = false := by
  decide +kernel

theorem test_witness_RetireMovesTileToOut : ((engineState 127 1).engine 127).live = true ∧ (State.reset.engine 127).live = false := by
  decide +kernel

/-- Engine 127 with `n` rows of OUT still to drain, the first of them due, under a running fill stream. -/
def drainState (n : Nat) : State := (State.reset.setStreamState .fill 1).setEngine 127 { Engine.reset with drain := ⟨8191, -1, n, 0⟩ }

theorem test_witness_DrainRowIsWritten : ∀ n ∈ [1, 1024],
    let s := drainState n
    let d := (s.engine 127).drain
    let clashing := s.noteEdge 0 .transfer (opbRow 127 8191) 64
    canonicalCheck s = true ∧ s.coreDark = false ∧ s.vecs = [] ∧ s.ridge.goAt = none ∧ s.ridge.regWaiting = false ∧ s.book.replay = none ∧
    s.coreIssues (127 / 8) = true ∧ (holding s 8 none).coreIssues (127 / 8) = false ∧ 0 < d.count ∧ d.count ≤ 1024 ∧ d.start ≤ s.clk.aclk ∧
    s.clashes s.clk.aclk (opbRow 127 d.ptr) 64 (fun w => w == .transfer) = false ∧
    clashing.clashes clashing.clk.aclk (opbRow 127 d.ptr) 64 (fun w => w == .transfer) = true ∧ canonicalCheck clashing = true ∧
    s.opbTag 127 d.ptr = (s.engine 127).drainPart := by
  decide +kernel

theorem test_witness_VectorRowsRunTheirOperation :
    (∀ q ∈ [(0x01, 0), (0x07, 4), (0x0B, 0), (0x0F, 10), (0x20, 5), (0x24, 7), (0x25, 5), (0x28, 9), (0x2B, 5), (0x30, 5), (0x40, 0), (0x4D, 0)],
      vecFault q.1 (vecSlice (vecPart (vectorSlice q.1 q.2 512).toNat q.1)).fmt (vecSlice (vecPart (vectorSlice q.1 q.2 512).toNat q.1)).len 16 = 0) ∧
    vecFault 0x7F 5 64 16777214 = 0 ∧ vecFault 0x01 0 0 1 ≠ 0 ∧ vecFault 0x7F 5 63 1 ≠ 0 := by
  decide +kernel

/-- Partition 2 holds the whole pool of core 0. -/
def poolState : State := State.reset.setFld F.MT_SHARE_COUNT 2 352

theorem test_witness_VectorCycleStartsItsWrite : ∀ q ∈ [(0x01, 0, 512), (0x30, 5, 1), (0x4D, 0, 8)],
    let x : VecSlice := vecSlice (vecPart (vectorSlice q.1 q.2.1 q.2.2).toNat q.1)
    let sh := vecShape x.op x.fmt x.len
    canonicalCheck poolState = true ∧ x.op ≠ 0 ∧ ¬(0x60 ≤ x.op ∧ x.op ≤ 0x62) ∧ 16 % vecInterval x.op = 0 ∧ 0 < x.len ∧
    vecFault x.op x.fmt x.len 32 = 0 ∧ sh.outW * sh.outN % 8 = 0 ∧
    (∀ i, i < units (elemBytes sh.aW sh.n) → (poolState.tagOf (vecAddr 0 (x.a + 16 / vecInterval x.op * units (elemBytes sh.aW sh.n) + i))).reads x.part = true) ∧
    (∀ i, i < units sh.bBytes →
      (poolState.tagOf (vecAddr 0 ((if sh.bFixed then x.b else x.b + 16 / vecInterval x.op * units sh.bBytes) + i))).reads x.part = true) ∧
    (∀ i, i < units sh.dBytes → (poolState.tagOf (vecAddr 0 (x.d + 16 / vecInterval x.op * units (elemBytes sh.outW sh.outN) + i))).reads x.part = true) ∧
    (∀ i, i < units (elemBytes sh.outW sh.outN) →
      (poolState.tagOf (vecAddr 0 (x.d + 16 / vecInterval x.op * units (elemBytes sh.outW sh.outN) + i))).writes x.part = true) := by
  decide +kernel

theorem test_witness_VectorWriteBecomesVisible : ∃ (s v : State) (w : VecWrite), s.canonical ∧ v.canonical ∧ (s.vec 15).pend = [w] ∧
    (v.vec 15).pend = [w] ∧ w.cyc ≤ 8 ∧ 7 < w.cyc ∧ s.clashes (w.cyc - 1) w.addr 32 (fun x => x == .transfer) = false ∧
    v.clashes (w.cyc - 1) w.addr 32 (fun x => x == .transfer) = true :=
  ⟨State.reset.setVec 15 { VecUnit.reset with pend := [⟨8, coreBase 15, [1, 2], false, 2, 0, [3], true⟩] },
    (State.reset.noteEdge 7 .transfer (coreBase 15) 64).setVec 15
      { VecUnit.reset with pend := [⟨8, coreBase 15, [1, 2], false, 2, 0, [3], true⟩] },
    ⟨8, coreBase 15, [1, 2], false, 2, 0, [3], true⟩,
    canonical_of_check (by decide +kernel), canonical_of_check (by decide +kernel), by decide +kernel⟩

theorem test_witness_IntegerVectorOperations : ∀ fmt ∈ [5, 6, 7], hasBit (vecFormats 0x20) fmt = true ∧ hasBit (vecFormats 0x24) fmt = true ∧
    2 ^ fmtBits fmt - 1 < 2 ^ fmtBits fmt ∧ hasBit (vecFormats 0x2B) 5 = true ∧ 64 % 64 = 0 ∧ 32 ≤ 63 % 64 := by
  decide +kernel

theorem test_witness_IntegerDivision : (0xFFFFFFFF : Nat) < 2 ^ 32 ∧ (7 : Nat) ≠ 0 ∧ ¬((7 : Nat) = 0x80000000 ∧ fmtInt 5 7 = -1) ∧
    fmtInt 5 0xFFFFFFFF = -1 := by
  decide +kernel

theorem test_witness_LutExpandReadsTable : (2 ^ 200 + 5) % 2 ^ 128 = 5 % 2 ^ 128 := by decide +kernel

theorem test_witness_HistogramCleared : State.reset.fld F.PL_VEC_HIST_PART (15 : CoreId).val = (0 : PartId).val ∧
    State.reset.fld F.PL_VEC_HIST_PART (15 : CoreId).val ≠ (7 : PartId).val := by
  decide +kernel

/-! ## Witnesses: Stow, DDR4, sequences and scheduling (05, 06, 07, 09) -/

/-- A descriptor: opcode, context, partition, tag, length and 64-bit words from word 4 upward. -/
def desc (op ctx part len : Nat) (ws : List Nat) : Desc :=
  BitVec.ofNat 512 (op + ctx * 2 ^ 32 + part * 2 ^ 44 + len * 2 ^ 96 + leNat (ws.flatMap fun w => leBytes 8 w) * 2 ^ 128)

/-- A command of partition 2 in context 5, taken from ring 9. -/
def cmdOf (op len : Nat) (ws : List Nat) : Cmd := ⟨9, desc op 5 2 len ws, 2, 5⟩

/-- Partition 2 holds two lots of core 0 under demand control and the first 64 MiB of DDR4. -/
def demandState : State :=
  let s := (State.reset.setFld F.MT_SHARE_COUNT 2 2).setFld F.MT_CTRL_DEMAND 0 4
  { s with sched := { s.sched with regions := [(8, F.SP_REGION_COUNT.put 0 1)] } }

theorem test_witness_StowCommandsAct_select : demandState.canonical ∧ demandState.dark = false ∧ (6143 : BitVec 13).toNat < 6144 ∧
    6144 ≤ (6144 : BitVec 13).toNat ∧ R.MT_LOT_W0.key 0 ≠ R.MT_SEQ.key 0 ∧ R.MT_LOT_W1.key 0 ≠ R.MT_SEQ.key 0 :=
  ⟨canonical_of_check (by decide +kernel), by decide +kernel⟩

theorem test_witness_StowCommandsAct_body :
    (cmdOf 0x0201 65536 [1]).w64 4 % 65536 ≠ 0 ∧ (cmdOf 0x0201 65536 [65536]).w64 4 % 65536 = 0 ∧
    demandState.demandDenied (cmdOf 0x0201 65536 [0x0400_0000]) = true ∧ demandState.demandDenied (cmdOf 0x0201 65536 [0x03FF_0000]) = false ∧
    (demandState.setFld F.MT_CTRL_DEMAND 0 0).demandMode 2 = false := by
  decide +kernel

theorem test_witness_StowCommandsAct_start : ∀ op ∈ [0x0201, 0x0202, 0x0203, 0x0204, 0x0205],
    let c := cmdOf op 65536 [65536]
    let full := (demandState.setLot 0 { Lot.reset with state := 2, homeValid := true, home := 9 }).setLot 1
      { Lot.reset with state := 2, homeValid := true, home := 8, last := 3 }
    let pinned := (full.setLot 0 { full.lot 0 with pin := true }).setLot 1 { full.lot 1 with pin := true }
    let held := demandState.setLot 1 { Lot.reset with state := 1, homeValid := true, home := 1 }
    let ls := demandState.shareLots (c.w 6 % 16) c.part
    B.DESC_OPCODE.get c.d.toNat = op ∧ c.part < 8 ∧ demandPieces c = [1] ∧ ls = [0, 1] ∧ canonicalCheck full = true ∧
    held.holding ls 1 = some 1 ∧ demandState.holding ls 1 = none ∧ ls.find? (fun k => (demandState.lot k).state == 0) = some 0 ∧
    pinned.holding ls 1 = none ∧ (∀ l ∈ ls, (pinned.lot l).state ≠ 0 ∧ ((pinned.lot l).state = 1 ∨ (pinned.lot l).state = 2 → (pinned.lot l).pin = true)) ∧
    full.holding ls 1 = none ∧ (∀ k ∈ ls, (full.lot k).state ≠ 0) ∧ full.oldest ls = some 0 ∧ (full.lot 0).state = 2 ∧
    ∀ l ∈ held.partLots 2, (held.lot l).state ≠ 2 := by
  decide +kernel

theorem test_witness_StowCommandsAct_transfer : ∀ fill ∈ [true, false],
    let s := demandState.setDemandQueue 2 [⟨9, desc 0x0201 5 2 65536 [65536], true, [⟨1, 1, fill⟩, ⟨0, 2, true⟩], 0, 0⟩]
    let v := s.setChan (ddrChan 65536) { DdrChan.reset with ready := true }
    canonicalCheck v = true ∧ s.coreDark = false ∧ (v.passM 4).demandQueue 2 =
      [⟨9, desc 0x0201 5 2 65536 [65536], true, [⟨1, 1, fill⟩, ⟨0, 2, true⟩], 0, 0⟩] ∧
    (v.passM 4).bring.restarts = [] ∧ 1 < 6144 ∧ 1 < 2 ^ 21 ∧
    ((s.passM 4).openForAll (.demand 2) && (s.passM 4).inOpenQueue (.demand 2)) = false ∧
    ((v.passM 4).openForAll (.demand 2) && (v.passM 4).inOpenQueue (.demand 2)) = true ∧ ((v.passM 4).tagOf (1 * 65536)).writes 2 = true := by
  decide +kernel

/-! ### DDR4 (06) -/

theorem test_witness_DdrLinesAreDecoded : State.reset.canonical ∧ State.reset.coreDark = false ∧
    (decodeLine (State.reset.markOf 7) (State.reset.poisonIn (ddrGlobal 7 (64 * (0xFFFFFFF : BitVec 28).toNat)) 64) 0).outcome = .clean ∧
    (decodeLine none false 1).outcome = .innerCorrected ∧ (decodeLine none false (2 ^ 71)).outcome = .innerCorrected ∧
    (decodeLine none false 3).outcome = .outerCorrected ∧ (decodeLine none true 0).outcome = .storedPoison ∧
    (decodeLine none false (3 + 5 * 2 ^ 8)).outcome = .uncorrectable ∧ (decodeLine (some 0) false 3).outcome = .marked ∧
    State.reset.coreClaimed 15 = false :=
  ⟨canonical_of_check (by decide +kernel), by decide +kernel⟩

/-- Channel 7 serves on its own, with scrub lines due, and line 5 has failed twice, once as a write and once as a read. -/
def readyChan : State :=
  (State.reset.setFld F.DR_SCRUB_RATE 7 4).setChan 7 { DdrChan.reset with ready := true, quota := 1, fails := [(10, 2), (11, 2)] }

theorem test_witness_DdrLinesAreDecoded_alerts : readyChan.canonical ∧ readyChan.coreDark = false ∧
    ((readyChan.passM 3).openFor 7 .scrub && !((readyChan.passM 3).scrubGated 7)) = true ∧
    ((readyChan.passM 3).openFor 6 .scrub && !((readyChan.passM 3).scrubGated 6)) = false ∧
    (∀ f ∈ (readyChan.chan 7).fails, f.1 ≠ 2 * (6 : BitVec 28).toNat ∧ f.1 ≠ 2 * (6 : BitVec 28).toNat + 1) ∧
    readyChan.failCount 7 (2 * (5 : BitVec 28).toNat) = 3 ∧ readyChan.failCount 7 (2 * (5 : BitVec 28).toNat + 1) = 3 ∧
    readyChan.readersOf 7 (ddrGlobal 7 (64 * (5 : BitVec 28).toNat)) = [] ∧
    ((readyChan.setSite (siteDevice 7 9) { FaultSite.reset with lasting := true }).site (siteDevice 7 9)).lasting = true ∧
    readyChan.flag F.DR_MARK_VALID 7 = false ∧ (readyChan.site (siteDevice 7 9)).lasting = false :=
  ⟨canonical_of_check (by decide +kernel), by decide +kernel⟩

theorem test_witness_DdrChannelsAreServed_slots : ∀ dop ∈ [2, 3],
    let s := State.reset.setChan 7 { DdrChan.reset with slots := [⟨dop, 0, 0, 0, 10, some 0, false⟩, ⟨1, 0, 0, 0, 5, none, false⟩] }
    canonicalCheck s = true ∧ s.coreDark = false ∧ ((s.tickM 10).chan 7).slots =
      [⟨dop, 0, 0, 0, 10, some 0, false⟩, ⟨1, 0, 0, 0, 5, none, false⟩] ∧ 0 + 10 ≤ (s.tickM 10).clk.mclk ∧ (s.tickM 9).clk.mclk < 0 + 10 ∧
    ((State.reset.tickM 9).chan 7).slots = [] := by
  decide +kernel

/-- Channel 7 under a running frame stream, so not in standalone service, with a refresh debt of `n`. -/
def framedChan (n : Nat) : State :=
  let s := (State.reset.setStreamState .frame 1).setChan 7 { DdrChan.reset with ready := true, debt := n }
  { s with ridge := { s.ridge with frameIssued := true } }

theorem test_witness_DdrChannelsAreServed_debt :
    let u := (framedChan 7).tickM 3120
    canonicalCheck (framedChan 7) = true ∧ (framedChan 7).coreDark = false ∧ (u.chan 7).ready = true ∧ (u.chan 7).debtAt + 3120 ≤ u.clk.mclk ∧
    u.standalone 7 = false ∧ u.held = false ∧ u.chanClaimed 7 = false ∧ 7 ≤ (u.chan 7).debt ∧
    (holding u 8 none).held = true ∧ (readyChan.tickM 3120).standalone 7 = true ∧ ((readyChan.tickM 3120).chan 7).ready = true ∧
    (State.reset.chan 7).ready = false := by
  decide +kernel

theorem test_witness_DdrChannelsAreServed_scrub :
    ((readyChan.tickM 800000).chan 7).quotaAt + 800000 ≤ (readyChan.tickM 800000).clk.mclk ∧ 0 < ((readyChan.tickM 800000).chan 7).quota ∧
    (readyChan.tickM 799999).clk.mclk < ((readyChan.tickM 799999).chan 7).quotaAt + 800000 := by
  decide +kernel

/-- Channel 7 retrains, with `n` steps left. -/
def retraining (s : State) (n : Nat) : State := (s.setFld F.DR_STATUS_RETRAINING 7 1).setFld F.DR_RETRAIN_STEPS_LEFT 7 n

theorem test_witness_DdrChannelsAreServed_retraining :
    let s := (retraining (framedChan 0) 2).setChan 7 { (framedChan 0).chan 7 with stepWait := some 0 }
    let s := s.setFld F.DR_RETRAIN_WAIT 7 20
    canonicalCheck (retraining readyChan 2) = true ∧ (retraining readyChan 2).flag F.DR_STATUS_RETRAINING 7 = true ∧
    readyChan.flag F.DR_STATUS_RETRAINING 7 = false ∧ ((retraining readyChan 2).tickM 1).stepSlot 7 = true ∧
    1 < (retraining readyChan 2).fld F.DR_RETRAIN_STEPS_LEFT 7 ∧ (retraining readyChan 1).fld F.DR_RETRAIN_STEPS_LEFT 7 = 1 ∧
    readyChan.rings.retrains = [] ∧ (s.tickM 1).stepSlot 7 = false ∧
    ((readyChan.setFld F.DR_RETRAIN_PERIOD 7 1).tickM 800000).clk.mclk = 800000 * 1 ∧
    (readyChan.setFld F.DR_RETRAIN_PERIOD 7 1).fld F.DR_RETRAIN_PERIOD 7 = 1 ∧
    ((s.tickM 20).chan 7).stepWait = some 0 ∧ (s.tickM 20).flag F.DR_STATUS_RETRAINING 7 = true ∧ (s.tickM 20).chanClaimed 7 = false ∧
    (s.tickM 20).standalone 7 = false ∧ 0 + s.fld F.DR_RETRAIN_WAIT 7 ≤ (s.tickM 20).clk.mclk ∧
    (s.tickM 19).clk.mclk < 0 + s.fld F.DR_RETRAIN_WAIT 7 := by
  decide +kernel

theorem test_witness_DdrChannelsAreServed_levels : (64 : BitVec 7).toNat + (0 : BitVec 7).toNat ≤ 64 ∧ spWf 0 State.reset.sched.level = true ∧
    State.reset.fld F.DR_RETRAIN_DTEMP 7 ≤
      ((127 : BitVec 8).toInt - asSigned 8 (State.reset.fld F.DR_TRAIN_STATUS_TRAIN_TEMP 7)).natAbs := by
  decide +kernel

/-! ### Sequences (07) -/

/-- Aperture block 256 of channel 0 is an exchange block of context 5, backed by window SRAM block 3. -/
def exchangeState : State :=
  (((State.reset.setFld F.TH_WMAP_VALID 256 1).setFld F.TH_WMAP_BLOCK 256 3).setFld F.TH_WMAP_KIND 256 1).setFld F.TH_WMAP_CONTEXT 256 5

/-- Address 0 of that block. -/
def exchangeAddr : Nat := sramBase + 3 * 65536

/-- Partition 2 has two sequence rows, row 0 held by context 5. -/
def seqState : State :=
  (exchangeState.setFld F.PL_SEQ_CFG_ROWS 0 2).setSeqPart 2
    { SeqPart.reset with rows := [(0, { SeqRow.reset with state := 1, ctx := 5, logLen := 4 })], lastFlip := some 0, due := [3] }

theorem test_witness_SequenceCommandsAct_join :
    let c := cmdOf 0x0301 0 [1]
    let full := seqState.setSeqPart 2 { seqState.seqPart 2 with rows := [(0, { SeqRow.reset with state := 1, ctx := 5 }),
      (1, { SeqRow.reset with state := 1, ctx := 6 })] }
    seqState.canonical ∧ State.reset.seqRows c.part = 0 ∧ seqState.seqRows c.part = 2 ∧
    (∀ r, r < full.seqRows c.part → ((full.seqPart 2).row r).state ≠ 0) ∧ 1 < seqState.seqRows c.part ∧ ((seqState.seqPart 2).row 1).state = 0 ∧
    (∀ j, j < 1 → ((seqState.seqPart 2).row j).state ≠ 0) ∧ seqState.seqRowOf c.part c.ctx ≠ none ∧
    seqState.seqRowOf c.part 6 = none :=
  ⟨canonical_of_check (by decide +kernel), by decide +kernel⟩

theorem test_witness_SequenceCommandsAct_row :
    let c := cmdOf 0x0302 64 [exchangeAddr]
    let x := (seqState.seqPart 2).row 0
    seqState.seqRowOf c.part c.ctx = some 0 ∧ x.state ≠ 0 ∧ seqState.exchange c.ctx (c.w64 4) c.len = true ∧
    seqState.exchange 6 (c.w64 4) c.len = false ∧ x.logLen + c.len / 4 ≤ 1048576 ∧ seqState.seqLogAddr c.part 0 x.logLen + c.len ≤ ddrSize ∧
    1048576 < 1048575 + c.len / 4 ∧ x.pos ≤ (cmdOf 0x0303 0 [3]).w 4 % 2 ^ 21 ∧ (cmdOf 0x0303 0 [3]).w 4 % 2 ^ 21 < x.logLen ∧ x.marks.length < 8 ∧
    x.logLen ≤ (cmdOf 0x0303 0 [4]).w 4 % 2 ^ 21 ∧ seqState.exchange c.ctx (c.w64 4) 64 = true := by
  decide +kernel

theorem test_witness_SequenceCommandsAct_flip :
    let s := seqState.setSeqPart 2 { seqState.seqPart 2 with building := some ([], ⟨[], [7]⟩) }
    canonicalCheck s = true ∧ s.coreDark = false ∧ ((s.tickA 72).seqPart 2).lastFlip = some 0 ∧ (s.tickA 71).clk.aclk < 0 + (s.tickA 71).seqTasm 2 ∧
    0 + (s.tickA 72).seqTasm 2 ≤ (s.tickA 72).clk.aclk ∧ ((s.tickA 72).seqPart 2).building = some ([], ⟨[], [7]⟩) ∧
    ((seqState.tickA 72).seqPart 2).building = none ∧ ((s.tickA 1).seqPart 2).due.contains (3 : Fin 4).val = true ∧
    ((s.tickA 1).seqPart 2).due.contains (0 : Fin 4).val = false := by
  decide +kernel

/-! ### Scheduling (09) -/

/-- Frames are scheduled; the last began at cycle 0. -/
def schedState : State :=
  let s := ((State.reset.setFld F.SP_FRAME_CFG_EN 0 1).setFld F.SP_FRAME_CFG_LEN 0 100).setFld F.SP_SYNC_CFG_MIN_GAP 0 50
  let s := ((s.setFld F.SP_SYNC_CFG_LOSS 0 10).setFld F.SP_SCHED_CFG_LEN 7 1).setFld F.SP_SCHED_CFG_COND 7 63
  { s with sched := { s.sched with lastStart := some 0 } }

/-- What a free-run start of cycle 0 has set aside, and the state after that start. -/
def freeFrame : FreeStart := ⟨0, 0, 0, 0⟩
def tiedState : State := { schedState with sched := { schedState.sched with free := some freeFrame } }

theorem test_witness_FramesStart : schedState.canonical ∧ schedState.coreDark = false ∧ schedState.flag F.SP_FRAME_CFG_EN = true ∧
    schedState.flag F.FB_STATUS_REPLAYING = false ∧ (schedState.setFld F.SP_FRAME_CFG_SRC 0 1).fld F.SP_FRAME_CFG_SRC ≠ 0 ∧
    schedState.fld F.SP_FRAME_CFG_SRC = 0 ∧ schedState.sched.lastStart = some 0 ∧
    (schedState.tickA 49).clk.aclk < 0 + schedState.fld F.SP_SYNC_CFG_MIN_GAP ∧
    0 + schedState.fld F.SP_SYNC_CFG_MIN_GAP ≤ (schedState.tickA 50).clk.aclk ∧
    (schedState.tickA 109).clk.aclk < 0 + schedState.fld F.SP_FRAME_CFG_LEN + schedState.fld F.SP_SYNC_CFG_LOSS ∧
    0 + schedState.fld F.SP_FRAME_CFG_LEN + schedState.fld F.SP_SYNC_CFG_LOSS ≤ (schedState.tickA 110).clk.aclk ∧
    schedState.sched.free = none ∧ schedState.freeDue = some 110 ∧ canonicalCheck tiedState = true ∧ tiedState.sched.free = some freeFrame ∧
    freeFrame.cyc = tiedState.clk.aclk ∧ tiedState.sched.lastStart = some tiedState.clk.aclk ∧
    schedState.sched.freeRun = false ∧ schedState.schedEntry 7 5 = some (schedState.reg R.SP_SCHED_ENT (256 * 7)) ∧
    schedState.fld F.SP_SCHED_CFG_COND 7 < 64 :=
  ⟨canonical_of_check (by decide +kernel), by decide +kernel⟩

/-- A golden frame of window 9 waits for its judgement, its OPEN not issued or issued in its first cycle. -/
def goldenFrame (ran : Bool) : GoldenDue := ⟨1, 0, none, ran, false, false, if ran then some 0 else none, none⟩
def goldenState (ran : Bool) : State :=
  let s := (schedState.setFld F.SP_GOLDEN_CFG_WINDOW 0 9).setFld F.SP_GOLDEN_CFG_OFFSET 0 20
  { s with sched := { s.sched with golden := [goldenFrame ran] } }

theorem test_witness_GoldenFramesAreJudged : ∀ ran ∈ [true, false],
    let s := goldenState ran
    let due := s.skipAt (goldenFrame ran)
    canonicalCheck s = true ∧ s.coreDark = false ∧ (s.tickA due).sched.golden = [goldenFrame ran] ∧
    (s.tickA due).clk.aclk < (s.tickA due).skipAt (goldenFrame ran) + 1 ∧
    (s.tickA (due + 1)).skipAt (goldenFrame ran) + 1 ≤ (s.tickA (due + 1)).clk.aclk ∧ (goldenFrame ran).ran = ran ∧
    (s.setFld F.SP_GOLDEN_CFG_EN 0 1).flag F.SP_GOLDEN_CFG_EN = true ∧ s.flag F.SP_GOLDEN_CFG_EN = false ∧
    schedState.sched.golden = [] ∧ (∀ g ∈ (s.tickA 19).sched.golden, (s.tickA 19).skipDue g = false) ∧
    (s.tickA due).skipDue (goldenFrame ran) = !ran ∧ s.fld F.SP_GOLDEN_CFG_WINDOW ≠ 0 ∧ s.flag F.FB_STATUS_REPLAYING = false ∧
    s.fld F.SP_GOLDEN_CFG_COND < 64 ∧ (s.setFld F.SP_GOLDEN_STATUS_DEFER_RUN 0 3).fld F.SP_GOLDEN_STATUS_DEFER_RUN = 3 := by
  decide +kernel

/-! ## Witnesses: sensor ports (10) -/

/-- Port `n` on, and stream 47 its inline stream, whose match word is `sel`. -/
def portState (n sel : Nat) : State :=
  let s := (State.reset.setFld F.SN_PORT_CFG_EN n 1).setFld F.SN_STREAM_A_EN 47 1
  (s.setFld F.SN_STREAM_A_PORT 47 n).setFld F.SN_STREAM_A_SEL 47 sel

/-- An Ethernet frame of EtherType 0x88B5 with no payload. -/
def etherFrame : List Byte := List.replicate 12 0 ++ [0x88, 0xB5]

theorem test_witness_SamplesAreTakenOrDropped_ether :
    let s := portState 11 0x88B5
    let ring := (s.setFld F.SN_STREAM_B_BUF_UNITS 47 1).setFld F.SN_STREAM_A_BUFS 47 2
    canonicalCheck s = true ∧ s.coreDark = false ∧ spWf StreamUnit.reset s.sensors.streams = true ∧ (11 : Nat) = 8 + (3 : Fin 4).val ∧
    (s.tickP 11 5).portOn 11 = true ∧ (State.reset.tickP 11 5).portOn 11 = false ∧ (s.tickP 11 5).matching 11 (etherMatch etherFrame) = some 47 ∧
    (s.tickP 11 5).matching 11 (etherMatch (List.replicate 14 0)) = none ∧ 47 < 48 ∧
    (s.tickP 11 5).ingestFits 11 etherFrame.length = true ∧ etherFrame.length ≤ (s.tickP 11 5).maxPayload 47 ∧
    (s.tickP 11 5).ringBuffer 47 (s.stream' 47).begun + 64 + etherFrame.length ≤ ddrSize ∧ (s.tickP 11 5).inline 47 = true ∧
    (ring.tickP 11 5).inline 47 = false ∧ (ring.tickP 11 5).matching 11 (etherMatch etherFrame) = some 47 ∧
    (({ s with sensors := { s.sensors with fill := [(11, 131072)] } } : State).tickP 11 5).ingestFits 11 etherFrame.length = false := by
  decide +kernel

/-- A classical CAN frame of identifier 5. -/
def canFrame : CanFrame := ⟨5, false, false, false, false, [1, 2]⟩

theorem test_witness_SamplesAreTakenOrDropped_can :
    let s := (portState 17 5).setFld F.SN_STREAM_B_MASK 47 0x7FF
    canonicalCheck s = true ∧ s.coreDark = false ∧ (17 : Nat) = 12 + (5 : Fin 6).val ∧ (s.tickP 17 5).portOn 17 = true ∧
    ((s.tickP 17 5).portStreams 17).find? ((s.tickP 17 5).canMatch canFrame) = some 47 ∧
    ((s.tickP 17 5).portStreams 17).find? ((s.tickP 17 5).canMatch { canFrame with id := 6 }) = none ∧
    canFrame.error = false ∧ canFrame.fd = false ∧ canFrame.remote = false ∧ (s.tickP 17 5).inline 47 = true ∧ canFrame.data.length ≤ 192 ∧
    (s.tickP 17 5).ingestFits 17 canFrame.data.length = true ∧ spWf 0 s.sensors.canErrors = true ∧ hasBit ((s.tickP 17 5).fld F.SN_PORT_CFG_IFCFG 17) 23 = false := by
  decide +kernel

theorem test_witness_SamplesAreTakenOrDropped_gpio :
    let s := ((portState 26 (31 + 1 * 32)).setFld F.SN_GPIO_MODE 31 1).setFld F.SN_GPIO_EDGE 31 1
    (s.tickP 26 5).portOn 26 = true ∧ (s.tickP 26 5).fld F.SN_GPIO_MODE (31 : BitVec 5).toNat = 1 ∧
    edgeIn ((s.tickP 26 5).fld F.SN_GPIO_EDGE (31 : BitVec 5).toNat) true = true ∧
    edgeIn ((s.tickP 26 5).fld F.SN_GPIO_EDGE (31 : BitVec 5).toNat) false = false ∧
    (s.tickP 26 5).matching 26 (fun x => x % 32 == (31 : BitVec 5).toNat && edgeIn (x / 32 % 4) true) = some 47 ∧
    (s.tickP 26 5).inline 47 = true := by
  decide +kernel

theorem test_witness_SamplesAreTakenOrDropped_csi :
    let s := portState 7 (3 + 0x2A * 16)
    let g : Gather := ⟨0, 0, 0, 190, [], 0, false⟩
    let v := s.setStream' 47 { StreamUnit.reset with asm := some g }
    (s.tickP 7 5).portOn 7 = true ∧ ((s.tickP 7 5).portStreams 7).filter (fun j => (s.tickP 7 5).sel j % 16 == (3 : BitVec 4).toNat) = [47] ∧
    (s.stream' 47).asm = none ∧ (v.stream' 47).asm = some g ∧ g.dead = false ∧ spWf StreamUnit.reset v.sensors.streams = true ∧
    (v.tickP 7 5).matching 7 (fun x => x % 16 == (3 : BitVec 4).toNat && x / 16 % 64 == (0x2A : BitVec 6).toNat) = some 47 ∧
    (v.tickP 7 5).inline 47 = true ∧ g.len + ([1, 2] : List Byte).length ≤ 192 ∧
    (v.tickP 7 5).ingestFits 7 ([1, 2] : List Byte).length = true := by
  decide +kernel

theorem test_witness_SamplesAreTakenOrDropped_tdm :
    let s := portState 25 0
    (25 : Nat) = 24 + (1 : Fin 2).val ∧ (s.tickP 25 5).portOn 25 = true ∧ (s.tickP 25 5).portStreams 25 = [47] ∧
    (s.tickP 25 5).inline 47 = true ∧ (s.stream' 47).asm = none ∧ ((s.tickP 25 5).tdmSlots 25 47 [7]).length ≤ 192 ∧
    (s.tickP 25 5).ingestFits 25 ((s.tickP 25 5).tdmSlots 25 47 [7]).length = true ∧ (s.tickP 25 5).sel 47 / 256 % 256 = 0 ∧
    ((State.reset.setFld F.SN_PORT_CFG_EN 25 1).tickP 25 5).portStreams 25 = [] := by
  decide +kernel

theorem test_witness_SamplesAreTakenOrDropped_link :
    ((portState 17 0).portOn (17 : SensorPort).val = true ∧ ((17 : SensorPort).val < 18 ∨ (17 : SensorPort).val = 24 ∨ (17 : SensorPort).val = 25)) ∧
    ¬((portState 18 0).portOn (18 : SensorPort).val = true ∧
      ((18 : SensorPort).val < 18 ∨ (18 : SensorPort).val = 24 ∨ (18 : SensorPort).val = 25)) := by
  decide +kernel

theorem test_witness_SamplesArePublished :
    let x : Sample := ⟨0, 3, 4, 2, [1, 2]⟩
    let s := (portState 11 0).setStream' 47 { StreamUnit.reset with ready := [x] }
    let ring := ((portState 11 0).setFld F.SN_STREAM_B_BUF_UNITS 47 1).setStream' 47 { StreamUnit.reset with ready := [{ x with bytes := [] }] }
    canonicalCheck s = true ∧ s.coreDark = false ∧ spWf StreamUnit.reset s.sensors.streams = true ∧ (State.reset.stream' 47).ready = [] ∧
    (s.stream' 47).ready = [x] ∧ s.flag F.FB_STATUS_REPLAYING = false ∧
    (s.setFld F.FB_STATUS_REPLAYING 0 1).flag F.FB_STATUS_REPLAYING = true ∧ (s.stream' 47).side ≠ 1 ∧ s.inline 47 = true ∧
    x.bytes.length ≤ 192 ∧ ring.inline 47 = false ∧ (ring.stream' 47).ready = [{ x with bytes := [] }] ∧ ring.ringBuffer 47 0 + 64 ≤ ddrSize := by
  decide +kernel

/-- Sequencer 5 runs at instruction `w`. -/
def sequencerState (w : Nat) : State :=
  (State.reset.setFld F.SN_INSTR_I0 160 w).setSequencer 5 { Sequencer.reset with run := true, pend := [7], first := some 1, last := some 2 }

theorem test_witness_SequencersRunTheirPrograms : ∀ q ∈ [(0, 0), (1, 7), (1, 33), (2, 0), (3, 2 + 2 ^ 20), (4, 2 ^ 24 - 1), (5, 63), (6, 63), (7, 31)],
    let w := q.1 * 2 ^ 28 + q.2
    let s := sequencerState w
    let u := s.tickP (seqPort 5) 9
    let x := u.sequencer 5
    s.coreDark = false ∧ spWf Sequencer.reset s.sensors.seqs = true ∧ u.seqInstr 5 x.pc = w ∧ seqOp w = q.1 ∧ x.run = true ∧ x.waiting = false ∧
    x.freeAt ≤ u.portTime (seqPort 5) ∧ x.pend.contains 7 = true ∧ x.pend.contains 33 = false ∧ x.pc < 64 ∧ x.buf.length ≤ 192 ∧
    x.first = some 1 ∧ x.last = some 2 := by
  decide +kernel

theorem test_witness_SequencersRunTheirPrograms_pins :
    let s := ((sequencerState (7 * 2 ^ 28 + 31)).setFld F.SN_GPIO_MODE 31 3).setFld F.SN_GPIO_OWNER 31 5
    s.fld F.SN_GPIO_MODE ((7 * 2 ^ 28 + 31) % 32) = 3 ∧ s.fld F.SN_GPIO_OWNER ((7 * 2 ^ 28 + 31) % 32) = (5 : Fin 6).val ∧
    State.reset.fld F.SN_GPIO_MODE ((7 * 2 ^ 28 + 31) % 32) ≠ 3 ∧ hasBit (3 * 2 ^ 28 + 2) 20 = false ∧ hasBit (3 * 2 ^ 28 + 2 + 2 ^ 20) 20 = true ∧
    (3 * 2 ^ 28 + 2 + 2 ^ 20) / 2 ^ 14 % 64 = 0 ∧ ([1, 2] : List Byte).length = (3 * 2 ^ 28 + 2 + 2 ^ 20) % 256 ∧
    0 + (3 * 2 ^ 28 + 2 + 2 ^ 20) % 256 ≤ 192 := by
  decide +kernel

theorem test_witness_SequencersRunTheirPrograms_triggers :
    let waiting (src : Nat) : State := (sequencerState (2 ^ 28 + src)).setSequencer 5 { (sequencerState 0).sequencer 5 with waiting := true }
    let named := (sequencerState (2 ^ 28 + 33)).setSequencer 5 { (sequencerState 0).sequencer 5 with pend := [33] }
    ((sequencerState 0).sequencer 5).arriving.contains (31 : BitVec 6).toNat = false ∧ (33 : BitVec 6).toNat = 33 ∧ 4 ≤ (5 : Fin 6).val ∧
    ((waiting 33).sequencer 5).waiting = true ∧ ((waiting 33).sequencer 5).run = true ∧ (waiting 33).seqInstr 5 0 % 64 = 33 ∧
    (sequencerState (2 ^ 28 + 33)).seqNames 5 33 = true ∧ ((sequencerState (2 ^ 28 + 33)).sequencer 5).pend.contains 33 = false ∧
    (named.sequencer 5).pend.contains 33 = true ∧ named.seqNames 5 33 = true ∧ (named.sequencer 5).waiting = false ∧
    (waiting 32).seqInstr 5 0 % 64 = 32 ∧ ((waiting 32).setFld F.SN_SEQ_CFG_PERIOD 5 20).fld F.SN_SEQ_CFG_PERIOD 5 ≠ 0 ∧
    ((waiting 32).sequencer 5).timerAt + 20 ≤ ((waiting 32).tickP (seqPort 5) 20).portTime (seqPort 5) ∧
    ((waiting 32).tickP (seqPort 5) 19).portTime (seqPort 5) < ((waiting 32).sequencer 5).timerAt + 20 := by
  decide +kernel

theorem test_witness_SequencersRunTheirPrograms_pulses :
    let s := ((portState 26 0).setFld F.SN_GPIO_MODE 31 2).setFld F.SN_GPIO_OFFSET 31 4
    let s := s.setFld F.SP_FRAME_NUM_NUM 0 1
    let v := { s with sensors := { s.sensors with pulse := [(31, 9)] } }
    let o := { s with sensors := { s.sensors with offset := [(31, 1)] } }
    (s.tickP 26 1).portOn 26 = true ∧ (s.tickP 26 1).fld F.SN_GPIO_MODE (31 : BitVec 5).toNat = 2 ∧ spGet 0 (s.tickP 26 1).sensors.pulse 31 = 0 ∧
    (s.tickP 26 1).frameNum % ((s.tickP 26 1).fld F.SN_GPIO_EVERY 31 + 1) = 0 ∧
    (s.tickP 26 1).pulseDue 31 = none ∧ (o.tickP 26 4).pulseDue 31 = some 4 ∧ 4 ≤ (o.tickP 26 4).portTime 26 ∧
    (o.tickP 26 3).portTime 26 < 4 ∧ spWf 0 o.sensors.offset = true ∧ spWf 0 o.sensors.pulseEnd = true ∧ spWf false o.sensors.gpio = true ∧ spGet 0 (v.tickP 26 8).sensors.pulse 31 = 8 + 1 ∧ 8 ≤ (v.tickP 26 8).portTime 26 ∧
    (v.tickP 26 7).portTime 26 < 8 ∧ spWf 0 v.sensors.pulse = true := by
  decide +kernel

theorem test_witness_SequencersRunTheirPrograms_drive :
    let s := (State.reset.setFld F.SN_PORT_CFG_ROLE 17 1).setDriveQueue 17 [⟨0, none⟩]
    let v := s.setDriveQueue 17 [⟨0, some 3⟩]
    (State.reset.tickP 17 1).driveQueue (17 : SensorPort).val = [] ∧ (s.tickP 17 1).driveQueue (17 : SensorPort).val = [⟨0, none⟩] ∧
    (s.tickP 17 1).flag F.SN_PORT_CFG_ROLE 17 = true ∧ (s.tickP 17 1).flag F.FB_STATUS_REPLAYING = false ∧
    (s.tickP 17 1).driveFrame 17 0 ≠ [] ∧ (v.tickP 17 1).driveQueue (17 : SensorPort).val = [⟨0, some 3⟩] ∧ (17 : SensorPort).val < 18 := by
  decide +kernel

/-! ## Witnesses: Datum and Traverse (11–13) -/

/-- Datum enabled, in stage `n` of frame 1, with every stage due at FCLK cycle 8. -/
def datumState (n : Nat) : State :=
  let s := (State.reset.setFld F.DT_CFG_EN 0 1).setFld F.SP_FRAME_NUM_NUM 0 1
  { s with datum := { s.datum with stage := n, frame := 1, latchAt := 8, costAt := 8, publishAt := 8 } }

theorem test_witness_DatumFramesRun : ∀ n ∈ [0, 1, 2, 3],
    let s := datumState n
    canonicalCheck s = true ∧ s.dark = false ∧ s.datum.seen < s.frameNum ∧ s.flag F.FB_STATUS_REPLAYING = false ∧ s.flag F.ST_CFG_EN = false ∧
    s.flag F.DT_CFG_EN = true ∧ s.datum.stage = n ∧ s.datum.latchAt ≤ (s.tickF 8).clk.fclk ∧ s.datum.costAt ≤ (s.tickF 8).clk.fclk ∧
    s.datum.publishAt ≤ (s.tickF 8).clk.fclk ∧ (s.tickF 7).clk.fclk < s.datum.publishAt ∧ s.datum.next = none ∧
    State.reset.frameNum ≤ State.reset.datum.seen ∧ (s.setFld F.SN_PORT_CFG_EN 26 1).portOn 26 = true ∧
    (s.setFld F.DT_QUAR_SOURCES 0 (2 ^ 31)).quarantined ((cmdOf 0x0601 0 [31]).w 4 % 64) = true ∧
    s.quarantined ((cmdOf 0x0601 0 [31]).w 4 % 64) = false := by
  decide +kernel

theorem test_witness_AuctionAssignsEachSlotOnce :
    let x := Auction.run 2 (fun _ j => if j = 0 then some 5 else some 3) 16 ⟨[], [], [], List.range 2⟩
    spGet 0 x.assigned 0 = 0 + 2 ∧ spGet 0 x.assigned 1 = 1 + 2 ∨ spGet 0 x.assigned 0 = 1 + 2 ∧ spGet 0 x.assigned 1 = 0 + 2 := by
  decide +kernel

/-- A run of problem 63 in phase `p`, latched at cycle 0 and due at cycle 8. -/
def traverseRun (p : Nat) : TvRun :=
  { prob := 63, run := 0, frame := 1, unsynced := false, latch := 0, phase := p, due := 8, taken := [], ages := [], defer := 0, values := [],
    bad := [], clamp := false, noInput := false, warm := false, sat := false, pivots := 0, x := [], z := [], y := [], iters := 0, rPrim := 0, rDual := 0,
    converged := false, capped := false }

/-- That run, with a budget of 200 cycles. -/
def traverseState (p : Nat) : State := (State.reset.setFld F.TV_PROB_B_BUDGET 63 200).setRun (traverseRun p)

theorem test_witness_TraverseRunsPassTheirPhases_due : ∀ p ∈ [1, 2, 3, 4, 5],
    (traverseState p).dark = false ∧ ((traverseState p).tickT 8).tvDue p = some (traverseRun p) ∧ ((traverseState p).tickT 7).tvDue p = none := by
  decide +kernel

theorem test_witness_TraverseRunsPassTheirPhases_kinds :
    let est := (traverseState 2).wrBytes scratchBase [1]
    let u := est.tickT 200
    (((traverseState 2).tickT 8).tvImg 63).h.mpc = true ∧ (u.tvImg 63).h.mpc = false ∧ u.tvDue 2 = some (traverseRun 2) ∧
    8 + (u.tvImg 63).h.tOut ≤ u.clk.tclk ∧ ((est.tickT 8).tvImg 63).h.mpc = false ∧
    (est.tickT 8).clk.tclk < 8 + ((est.tickT 8).tvImg 63).h.tOut := by
  decide +kernel

theorem test_witness_TraverseRunsPassTheirPhases_window : ∀ p ∈ [6, 7],
    let s := traverseState p
    canonicalCheck s = true ∧ s.traverse.run = some (traverseRun p) ∧ State.reset.traverse.run = none ∧
    (s.tickT 199).clk.tclk < 0 + s.fld F.TV_PROB_B_BUDGET 63 ∧ 0 + s.fld F.TV_PROB_B_BUDGET 63 ≤ (s.tickT 200).clk.tclk := by
  decide +kernel

theorem test_witness_TraverseRunsPassTheirPhases_latch :
    let s := (((State.reset.setFld F.TV_CFG_EN 0 1).setFld F.TV_PROB_A_EN 63 1).setFld F.TV_PROB_STAT_REGISTERED 63 1).setFld F.SP_FRAME_NUM_NUM 0 1
    let s := (s.setFld F.TV_PROB_A_RUNS 63 15).setFld F.TV_PROB_A_LATCH 63 8
    let busy := (s.setFld F.TV_PROB_B_BUDGET 63 200).setRun (traverseRun 1)
    canonicalCheck s = true ∧ s.traverse.copies = [] ∧ s.traverse.held = [] ∧
    (s.flag F.TV_CFG_EN && s.flag F.TV_PROB_A_EN (63 : Fin 64) && s.flag F.TV_PROB_STAT_REGISTERED (63 : Fin 64) &&
      decide ((14 : Fin 15).val < s.fld F.TV_PROB_A_RUNS (63 : Fin 64)) && decide (0 < s.frameNum)) = true ∧
    s.flag F.FB_STATUS_REPLAYING = false ∧ s.fld F.TV_PROB_A_LATCH 63 + 14 * s.fld F.TV_PROB_B_PERIOD 63 ≤ (s.tickT 8).clk.tclk ∧
    (s.tickT 7).clk.tclk < s.fld F.TV_PROB_A_LATCH 63 + 14 * s.fld F.TV_PROB_B_PERIOD 63 ∧ s.traverse.origin = none ∧ s.traverse.run = none ∧
    busy.traverse.run = some (traverseRun 1) ∧ (busy.tickT 8).clk.tclk < 0 + busy.fld F.TV_PROB_B_BUDGET 63 ∧ busy.traverse.latched = [] := by
  decide +kernel

/-- Partition 1 owns the first 64 MiB of DDR4 while images may be loaded. -/
def loadState : State :=
  let s := State.reset.setFld F.BC_STEP_STATUS_DONE 0 5
  { s with sched := { s.sched with regions := [(4, F.SP_REGION_COUNT.put 0 1)] } }

theorem test_witness_TraverseRunsPassTheirPhases_commands :
    let c : Cmd := ⟨9, desc 0x0701 5 2 8 [exchangeAddr, 63], 2, 5⟩
    let copying := { exchangeState with traverse := { exchangeState.traverse with copies := [(63, 20)] } }
    exchangeState.exchange c.ctx (c.w64 4) c.len = true ∧ exchangeState.exchange 6 (c.w64 4) c.len = false ∧
    (c.w 6 % 64, 20) ∈ copying.traverse.copies ∧ exchangeState.traverse.copies = [] ∧
    (exchangeState.tvHeadOf (c.w 6 % 64)).params < c.w 6 / 2 ^ 16 % 2 ^ 14 + c.len / 4 ∧ 4 ≤ c.len ∧
    fFinite ((exchangeState.wrBytes exchangeAddr [0, 0, 0x80, 0x7F]).rdLe (c.w64 4) 4) = false ∧ State.reset.loading = false := by
  decide +kernel

theorem test_witness_TraverseRunsPassTheirPhases_params :
    let s := (exchangeState.setFld F.TV_PROB_STAT_REGISTERED 63 1).wrBytes exchangeAddr [0, 0, 0x80, 0x7F]
    let s := { s with traverse := { s.traverse with images := [(63, leBytes 256 (B.TVH_PARAMS.put 2))] } }
    let c : Cmd := ⟨9, desc 0x0701 5 2 8 [exchangeAddr, 63], 2, 5⟩
    s.exchange c.ctx (c.w64 4) c.len = true ∧ s.traverse.copies = [] ∧ fFinite (s.rdLe (c.w64 4) 4) = false ∧ 4 ≤ c.len ∧
    c.w 6 / 2 ^ 16 % 2 ^ 14 + c.len / 4 ≤ (s.tvHeadOf (c.w 6 % 64)).params := by
  decide +kernel

theorem test_witness_TraverseRunsPassTheirPhases_register :
    let c (a : Nat) : Cmd := ⟨9, desc 0x0702 5 1 256 [a, 63], 1, 5⟩
    loadState.loading = true ∧ loadState.ddrWrites 1 ((c 0x0400_0000).w64 4) (c 0).len = false ∧
    loadState.ddrWrites 1 ((c 32).w64 4) (c 0).len = true ∧ (c 32).w64 4 % 64 ≠ 0 ∧ loadState.ddrWrites 1 ((c 64).w64 4) (c 0).len = true ∧
    (c 64).w64 4 % 64 = 0 ∧ leNat (((loadState.rdBytes ((c 64).w64 4) (c 0).len).drop ((c 0).len - 64)).take 4) ≠
      crc32c ((loadState.rdBytes ((c 64).w64 4) (c 0).len).take ((c 0).len - 64)) := by
  decide +kernel

/-! ## Witnesses: Guyline and Stadia (14, 15) -/

/-- An image closed by its check word and 60 zero bytes. -/
def sealed (bs : List Byte) : List Byte := bs ++ leBytes 4 (crc32c bs) ++ List.replicate 60 0

/-- A bank image of one state, one input and one output, all else 0. -/
def smallBank : List Byte :=
  sealed (leBytes 384 (B.BANK_NS.put 1 + B.BANK_NU.put 1 + B.BANK_NY.put 1))

/-- Channel 63 enabled for one sample a frame, its bank loaded, in a frame that began at cycle 0. -/
def guylineState (cur : Option GlSample) (gate : List (BitVec 512)) : State :=
  let s := ((State.reset.setFld F.GL_CFG_EN 0 1).setFld F.GL_CH_A_EN 63 1).setFld F.GL_CH_B_SAMPLES 63 1
  let s := (s.setFld F.GL_CH_A_PHASE0 63 100).setFld F.GL_CH_B_OUT_PHASE 63 3000
  let s := s.setGlChan 63 { GlChan.reset with bank0 := smallBank, x := [0], cur := cur }
  { s with guyline := { s.guyline with origin := some 0, gate := gate } }

/-- A sample triggered at cycle 0. -/
def glSample (y : Option (List Int)) : GlSample := ⟨0, 1, false, [0], 0, false, 0, 0, false, y⟩

theorem test_witness_GuylineSamplesRunTheirLaw_trigger : ∀ cur ∈ [none, some (glSample none)],
    let s := guylineState cur []
    canonicalCheck s = true ∧ s.dark = false ∧ spWf GlChan.reset s.guyline.chans = true ∧ s.flag F.FB_STATUS_REPLAYING = false ∧
    (s.setFld F.FB_STATUS_REPLAYING 0 1).flag F.FB_STATUS_REPLAYING = true ∧ bitsOf 64 (BitVec.ofNat 64 (2 ^ 63)).toNat = [63] ∧
    s.glDue 63 = some 100 ∧ 100 ≤ (s.tickG 100).clk.gclk ∧ (s.tickG 99).clk.gclk < 100 ∧ (s.glChan 63).cur = cur ∧
    s.flag F.GL_CH_STAT_PENDING 63 = false := by
  decide +kernel

theorem test_witness_GuylineSamplesRunTheirLaw_sample :
    ((guylineState (some (glSample none)) []).glChan 63).cur = some (glSample none) ∧ (glSample none).y = none ∧
    0 + 2000 ≤ ((guylineState (some (glSample none)) []).tickG 2000).clk.gclk ∧
    ((guylineState (some (glSample (some [0]))) []).glChan 63).cur = some (glSample (some [0])) ∧
    0 + (guylineState none []).fld F.GL_CH_B_OUT_PHASE 63 ≤ ((guylineState none []).tickG 3000).clk.gclk ∧
    (guylineState none (List.replicate 127 0)).guyline.gate.length < 128 ∧ 128 ≤ (guylineState none (List.replicate 128 0)).guyline.gate.length := by
  decide +kernel

theorem test_witness_GuylineSamplesRunTheirLaw_law : glFieldsOk smallBank = true ∧ (glHead smallBank).ny = 1 := by decide +kernel

theorem test_witness_GuylineSamplesRunTheirLaw_load :
    let c : Cmd := ⟨9, desc 0x0801 5 2 448 [exchangeAddr, 63], 2, 5⟩
    let s := exchangeState.wrBytes exchangeAddr smallBank
    let waits := s.setGlChan 63 { GlChan.reset with swap := some (9, 0) }
    canonicalCheck s = true ∧ c.w 6 % 64 = 63 ∧ s.exchange c.ctx (c.w64 4) c.len = true ∧ s.exchange 6 (c.w64 4) c.len = false ∧
    (waits.glChan 63).swap = some (9, 0) ∧ (s.glChan 63).swap = none ∧ s.glCheck 63 (s.rdBytes (c.w64 4) c.len) = none ∧
    s.committed = false ∧ exchangeState.glCheck 63 (exchangeState.rdBytes (c.w64 4) c.len) ≠ none := by
  decide +kernel

/-- A frame of Stadia in stage `n`, each stage due at FCLK cycle 200. -/
def stadiaState (n : Nat) : State :=
  { State.reset with stadia := { State.reset.stadia with stage := n, latchAt := 200, endAt := 200, gateAt := 200, count := 1, wp := 1 } }

theorem test_witness_StadiaFramesPassTheirPhases_stages : ∀ n ∈ [1, 2, 3, 4],
    let s := stadiaState n
    let u := s.tickF (200 + s.stTgate)
    canonicalCheck s = true ∧ s.dark = false ∧ s.stadia.stage = n ∧ s.stadia.latchAt ≤ u.clk.fclk ∧ s.stadia.endAt ≤ u.clk.fclk ∧
    s.stadia.gateAt ≤ u.clk.fclk ∧ s.stadia.gateAt + s.stTgate ≤ u.clk.fclk ∧ (s.tickF 199).clk.fclk < s.stadia.latchAt ∧
    s.flag F.FB_STATUS_REPLAYING = false ∧ u.stApplyGoes = none ∧ s.stadia.out = 0 ∧
    128 + 4 * (s.stOut.map List.length).sum ≤ 40960 ∧ 128 + 4 * (s.stadia.wp * s.stWords) ≤ 40960 := by
  decide +kernel

theorem test_witness_StadiaFramesPassTheirPhases_checks :
    let s := { stadiaState 2 with stadia := { (stadiaState 2).stadia with queue := [0], latchAt := 0, endAt := 1000 } }
    let r := { stadiaState 3 with stadia := { (stadiaState 3).stadia with
      gateAt := 1000, verdicts := [(0, ⟨true, 0, 0, 0, 0, 0⟩)] } }
    let r := r.setFld F.ST_EPOCH_EPOCH 0 1
    (s.tickF 999).stNextCheck = some (0, 0) ∧ (s.tickF 999).stApplyGoes = none ∧ (r.tickF 999).stNextRecheck = some (0, 200) ∧
    (r.tickF 999).stApplyGoes = none ∧ (State.reset.tickF 9).stNextCheck = none ∧ (State.reset.tickF 9).stNextRecheck = none ∧
    (r.verdict 0) = some ⟨true, 0, 0, 0, 0, 0⟩ ∧ fFinite (r.stScore 0) = true ∧ 0 < r.stadia.count := by
  decide +kernel

theorem test_witness_StadiaFramesPassTheirPhases_update : ∀ head ∈ [[0], [1]],
    let s := { State.reset with stadia := { State.reset.stadia with updWaits := true } }
    let s := s.wrBytes (s.stUpdAt + 8) head
    let bad := s.wrBytes (s.stUpdAt + 20) [1]
    (s.tickF 500).stApplyGoes = some 0 ∧ (s.tickF 31).clk.fclk < 0 + s.stUpdCost ∧ 0 + s.stUpdCost ≤ (s.tickF 500).clk.fclk ∧
    s.stUpdOk = true ∧ s.stUpdCount = (head.headD 0).toNat ∧ bad.stUpdOk = false := by
  decide +kernel

theorem test_witness_StadiaFramesPassTheirPhases_flip :
    let s := { State.reset with stadia := { State.reset.stadia with propDefer := 1 } }
    let busy := s.setQueue 0 [{ readyMove with src := auxBase, rsrc := .addr auxBase }]
    (s.tickA 1).stProposalBusy = false ∧ s.stadia.propDefer = 1 ∧ State.reset.stadia.propDefer = 0 ∧
    (busy.tickA 1).stProposalBusy = isProposal auxBase := by
  decide +kernel

theorem test_witness_StadiaFramesPassTheirPhases_entry :
    let s := { State.reset with stadia := { State.reset.stadia with dir := [(0, 7 + 1)] } }
    let e (slot : Nat) : Nat := 5 + slot * 2 ^ 64
    B.UPD_OP.get (e 7) = 0 ∧ B.UPD_SLOT.get (e 7) = 7 ∧ spWf 0 s.stadia.dir = true ∧ s.stLive 7 = true ∧ s.stLive 8 = false ∧
    (∃ w < 4, s.stWay (4 * stBucket (e 8 % 2 ^ 48) + w) = 0) := by
  decide +kernel

/-- A model image of one fixed link without a parent and one sphere of radius 1, all else 0. -/
def smallModel : List Byte := sealed (leBytes 192 (1 + 1 * 2 ^ 8 + 0xFF * 2 ^ 512 + 0x3F800000 * 2 ^ (8 * 176)))

theorem test_witness_StadiaFramesPassTheirPhases_model :
    let c : Cmd := ⟨9, desc 0x0901 5 2 256 [exchangeAddr], 2, 5⟩
    let s := exchangeState.setFld F.BC_STEP_STATUS_DONE 0 5
    canonicalCheck (s.wrBytes exchangeAddr smallModel) = true ∧ State.reset.loading = false ∧ s.loading = true ∧
    s.exchange c.ctx (c.w64 4) c.len = true ∧ s.exchange 6 (c.w64 4) c.len = false ∧ stCheck (s.rdBytes (c.w64 4) c.len) ≠ none ∧
    s.stadia.model = none ∧ stCheck ((s.wrBytes exchangeAddr smallModel).rdBytes (c.w64 4) c.len) = none := by
  decide +kernel

theorem test_witness_OnlyCheckedTrajectoriesPassTheGate : ∀ sel ∈ [0, 1],
    let s := { stadiaState 3 with stadia := { (stadiaState 3).stadia with selected := sel } }
    canonicalCheck s = true ∧ s.dark = false ∧ s.stadia.stage = 3 ∧ s.stadia.gateAt ≤ (s.tickF 200).clk.fclk ∧ s.stadia.out = 0 ∧
    s.stadia.selected = sel ∧ (s.checkTraj (s.stadia.hold.map clean)).pass = true := by
  decide +kernel

/-! ## Witnesses: Plumb (16) -/

/-- Both lines energised at DM0, with a readback, a release, a watchdog edge and a stop delay at the SCLK cycles given. -/
def plumbState : State :=
  let s := ((State.reset.setFld F.PB_CFG_PULSE_EN 0 1).setFld F.PB_STATUS_WDI_OK 0 1).setFld F.PB_STATUS_MODE 0 0
  { s with plumb := { s.plumb with lineA := true, lineB := true, rbDue := [40], releasedAt := some 0, wdi := some 0, dm2At := some 0,
                                   inbox := [(63, 5, false)] } }

theorem test_witness_PlumbMonitorsLatchTheirClasses :
    let b (dt : Nat) : State := plumbState.barrel dt
    canonicalCheck plumbState = true ∧ plumbState.isOff = false ∧ canonicalCheck (b 40) = true ∧ plumbState.fld F.PB_STATUS_MODE < 2 ∧
    (b 40).plumb.rbDue = 40 :: [] ∧ State.reset.plumb.rbDue = [] ∧ 40 ≤ (b 40).clk.sclk ∧ (b 39).clk.sclk < 40 ∧
    (b 40080000).pulseAt (bit false) = some 40000000 ∧ 40000000 + 80000 ≤ (b 40080000).clk.sclk ∧ (b 40079999).clk.sclk < 40000000 + 80000 ∧
    (b 60080000).pulseAt (bit true) = some 60000000 ∧ (b 9).plumb.wdi = some 0 ∧ (b 9).flag F.PB_STATUS_WDI_OK = true ∧
    0 + (b 400000000).wdTimeout ≤ (b 400000000).clk.sclk ∧ (b 9).clk.sclk < 0 + (b 9).wdTimeout ∧ (b 9).plumb.dm2At = some 0 ∧
    0 + (b 400000000).fld F.PB_CFG_STOP_DELAY * 400000 ≤ (b 400000000).clk.sclk ∧ (b 9).plumb.inbox = [(63, 5, false)] ∧
    State.reset.plumb.inbox = [] ∧ State.reset.fld F.PB_STATUS_MODE = 3 := by
  decide +kernel

/-- Thread `t` stands at the first of three instructions `w` of entry `e`. -/
def ruleState (t e : Nat) (w : BitVec 64) : State :=
  { State.reset with plumb := { State.reset.plumb with
    rules := some ⟨[w, w, w], [w, w, w], [w, w, w], []⟩, threads := [(t, { Thread.reset with entry := some e, w := [(1, 7)] })] } }

theorem test_witness_PlumbThreadsIssueTheirInstructions : ∀ op < 30,
    let w : BitVec 64 := BitVec.ofNat 64 (op + 2 * 2 ^ 6 + 1 * 2 ^ 12)
    let s := ruleState 3 0 w
    s.isOff = false ∧ s.nextRule (3 : Fin 5).val = some w ∧ B.RINS_OP.get w.toNat = op ∧ (∀ u < 6, u ≠ 3 → (s.thread u).entry = none) ∧
    (s.thread 3).entry = some 0 ∧ (s.entryCode 0)[(s.thread 3).pc]? = some w ∧ (∀ y ∈ (s.thread 3).w, y.2 < 2 ^ 32) ∧
    (s.thread 3).pc + 1 < (s.entryCode 0).length ∧ spWf 0 s.plumb.evRead = true ∧ spWf 0 s.plumb.data = true ∧ canonicalCheck s = true ∧
    State.reset.nextRule (3 : Fin 5).val = none := by
  decide +kernel

theorem test_witness_PlumbThreadsIssueTheirInstructions_skip :
    let w : BitVec 64 := BitVec.ofNat 64 (0x18 + 1 * 2 ^ 12 + 1 * 2 ^ 32)
    let s := ruleState 4 2 w
    B.RINS_IMM.get w.toNat % 1024 = 1 ∧ (s.thread 4).pc + 1 + 1 < (s.entryCode 2).length ∧ B.RINS_OP.get w.toNat = 0x18 ∧
    (s.thread 4).get (B.RINS_RA.get w.toNat) ≠ 0 ∧ (s.thread 4).get 2 = 0 := by
  decide +kernel

/-- At SCLK cycle 0 a gate record waits, an event has come, and frame 1 runs. -/
def judgeState : State :=
  let s := State.reset.setFld F.SP_FRAME_NUM_NUM 0 1
  { s with
    plumb := { s.plumb with changed := true, goldenClose := some 0, frameDue := [4000],
                            threads := [(3, { Thread.reset with record := some 0, due := 400, verdict := 2 })] }
    guyline := { s.guyline with gate := [0] } }

theorem test_witness_PlumbJudgesRecordsAndSegments :
    let b (dt : Nat) : State := judgeState.barrel dt
    let open' := judgeState.setFld F.PB_STATUS_GATE_OPEN 0 1
    judgeState.isOff = false ∧ canonicalCheck (b 4000) = true ∧ spWf Thread.reset (b 4000).plumb.threads = true ∧
    (b 4000).plumb.eventAt + 4000 ≤ (b 4000).clk.sclk ∧ (b 3999).clk.sclk < (b 3999).plumb.eventAt + 4000 ∧ (b 4000).plumb.changed = true ∧
    ((b 4000).thread 4).entry = none ∧ (b 4000).plumb.frameDue = 4000 :: [] ∧ (b 3999).clk.sclk < 4000 ∧
    4000 ≤ (b 4000).clk.sclk ∧ (b 4000).guyline.gate = [0] ∧ ((b 4000).thread 0).record = none ∧ ((b 4000).thread 3).record = some 0 ∧
    ((b 4000).thread 3).due ≤ (b 4000).clk.sclk ∧ (∀ u < 4, u ≠ 3 → ((b 4000).thread u).record = none) ∧
    ((b 4000).thread 3).closed = false ∧ (open'.barrel 400).flag F.PB_STATUS_GATE_OPEN = true ∧ (b 4000).flag F.PB_STATUS_GATE_OPEN = false ∧
    ((b 4000).driveQueue ((b 4000).fld F.GL_CH_C_PORT 0)).length < 16 ∧ (b 399).clk.sclk < ((b 399).thread 3).due ∧
    (b 8000).plumb.goldenClose = some 0 ∧ 0 + 8000 ≤ (b 8000).clk.sclk ∧ (b 7999).clk.sclk < 0 + 8000 ∧
    (b 8000).goldenJudge = (0, false, false, 0xFFFF, []) := by
  decide +kernel

/-- The watch thread runs the entry given, started in this very cycle, and a frame entry is due. -/
def watchState (e : Nat) : State :=
  { State.reset with plumb := { State.reset.plumb with
    frameDue := [0], watchAt := 0, changed := true, threads := [(4, { Thread.reset with entry := some e })] } }

theorem test_witness_PlumbJudgesRecordsAndSegments_watch : ∀ e ∈ [1, 2],
    let b := (watchState e).barrel 0
    (watchState e).isOff = false ∧ canonicalCheck b = true ∧ spWf Thread.reset b.plumb.threads = true ∧ b.plumb.frameDue = 0 :: [] ∧
    0 ≤ b.clk.sclk ∧ (b.thread 4).entry = some e ∧ b.plumb.watchAt = b.clk.sclk ∧ b.plumb.changed = true ∧
    b.plumb.watchDue.contains 1 = false ∧ 4000 ≤ ((watchState e).tickS 4000).clk.sclk := by
  decide +kernel

theorem test_witness_PlumbJudgesRecordsAndSegments_golden :
    ({ judgeState with plumb := { judgeState.plumb with rules := some ⟨[], [], [], [⟨0, []⟩]⟩ } } : State).goldenJudge = (0, true, false, 0, []) := by
  decide +kernel

/-- A rule image of one END in each entry: its header names the three lengths. -/
def smallRules : List Byte := leBytes 256 (1 + 1 * 2 ^ 16 + 1 * 2 ^ 32)

theorem test_witness_PlumbJudgesRecordsAndSegments_load :
    let c : Cmd := ⟨9, desc 0x0A01 5 2 64 [exchangeAddr], 2, 5⟩
    let s := exchangeState.setFld F.BC_STEP_STATUS_DONE 0 5
    State.reset.loading = false ∧ s.loading = true ∧ s.exchange 6 (c.w64 4) c.len = false ∧ s.exchange c.ctx (c.w64 4) c.len = true ∧
    s.plumb.loaded = false ∧ (ruleParse smallRules).isSome = true ∧ ruleFault ⟨[0], [0], [0], []⟩ = none ∧
    ruleFault ⟨[0x3F], [0], [0], []⟩ ≠ none := by
  decide +kernel

theorem test_witness_PlumbJudgesRecordsAndSegments_release :
    let s := plumbState.setFld F.BC_STEP_STATUS_DONE 0 7
    let dm1 := (State.reset.setFld F.PB_STATUS_MODE 0 1).setFld F.PB_STATUS_CAUSES 0 0x80
    let dm1 := { dm1 with plumb := { dm1.plumb with ruleMode := 1 } }
    State.reset.fld F.PB_STATUS_MODE ≠ 1 ∧ dm1.fld F.PB_STATUS_MODE = 1 ∧ dm1.latched.filter (fun k => k != 8 || dm1.plumb.ruleMode != 1) = [] ∧
    canonicalCheck dm1 = true ∧ s.done = 7 ∧ s.latched.filter s.classBlocks = [] ∧ s.wdiOk = true ∧ State.reset.done ≠ 7 ∧
    canonicalCheck s = true := by
  decide +kernel

/-! ## Witnesses: the host port (17) -/

/-- Row 512 of bank 0 of channel 0 is open: it holds aperture block 256. -/
def hostState : State := exchangeState.setHostLane 0 { HostLane.reset with rows := [(0, 512)], modes := [(3, 0x80)], fifo := [[1]] }

theorem test_witness_HostBusCommandsAct_read : ∀ bank ∈ [(0 : Fin 16), 15],
    let s := if bank = 0 then hostState else hostState.setHostLane 0 { hostState.hostLane 0 with rows := [(15, 511)] }
    let off := s.hostOffset (0 : HostChan) bank (63 : BitVec 6).toNat
    s.isOff = false ∧ canonicalCheck s = true ∧ spWf HostLane.reset s.trail.lanes = true ∧ 65536 ≤ off ∧ s.portServes = true ∧
    F.TH_WMAP_FILLING.get (s.wmap 0 (off / 65536)) = 0 ∧ (s.backed 0 off).isSome = (bank == 0) := by
  decide +kernel

theorem test_witness_HostBusCommandsAct_write :
    let off := hostState.hostOffset (0 : HostChan) (0 : Fin 16) (0 : BitVec 6).toNat
    let high := hostState.setHostLane 0 { HostLane.reset with rows := [(0, 32768)] }
    let replay := hostState.setFld F.FB_STATUS_REPLAYING 0 1
    65536 ≤ off ∧ off < 0x4000_0000 ∧ hostState.flag F.FB_STATUS_REPLAYING = false ∧ hostState.backed 0 off = some exchangeAddr ∧
    F.TH_WMAP_KIND.get (hostState.wmap 0 (off / 65536)) ≠ 2 ∧ hostState.ringGuard 0 off = false ∧
    (hostState.hostLane 0).writeDbi = true ∧ (high.hostLane 0).writeDbi = false ∧ (1 : BitVec 32) ≠ 0 ∧
    replay.flag F.FB_STATUS_REPLAYING = true ∧ replay.mgmtArea 0 off = false ∧ hostState.trail.latched = false ∧
    0x4000_0000 ≤ high.hostOffset (0 : HostChan) (0 : Fin 16) (0 : BitVec 6).toNat ∧ (hostState.hostLane 0).fifo = [1] :: [] ∧
    (high.hostLane 0).fifo = [] := by
  decide +kernel

/-- Stream 64 of channel 1 is open with one staging block, its committed lines being `n`. -/
def streamState (n : Nat) : State :=
  let s := ((State.reset.setFld F.TH_STREAM_OPEN 64 1).setFld F.TH_STREAM_STAGE_FIRST 64 511).setFld F.TH_STREAM_STAGE_BLOCKS 64 1
  let s := ((s.setFld F.TH_COMMIT_COMMIT 64 (64 * n)).setFld F.TH_STREAM_DEST_LEN 64 1).setFld F.TH_STREAM_PART 64 2
  { (s.setHostLane 1 { HostLane.reset with rows := [(0, 32768)] }).setWstream 64 { WStream.reset with ctx := 5 } with
    sched := { s.sched with regions := [(8, F.SP_REGION_COUNT.put 0 1)] } }

theorem test_witness_HostBusCommandsAct_stream :
    let s := streamState 1
    let off := s.hostOffset (1 : HostChan) (0 : Fin 16) (2 : BitVec 6).toNat
    let i := 64 * (1 : HostChan).val + (off - 0x4000_0000) / 2 ^ 24
    let p := s.drained i + (off % 2 ^ 24 + 2 ^ 24 - s.drained i % 2 ^ 24) % 2 ^ 24
    canonicalCheck s = true ∧ s.isOff = false ∧ 0x4000_0000 ≤ off ∧ s.portServes = true ∧ s.flag F.FB_STATUS_REPLAYING = false ∧ i = 64 ∧
    s.flag F.TH_STREAM_OPEN i = true ∧ s.fld F.TH_COMMIT_COMMIT i ≤ p ∧ p < s.drained i + s.stageSize i ∧ p = 64 ∧
    p < (streamState 2).fld F.TH_COMMIT_COMMIT i ∧ spWf HostLane.reset s.trail.lanes = true := by
  decide +kernel

theorem test_witness_HostBusCommandsAct_boot :
    fixedMode (4 : BitVec 7).toNat = some 3 ∧ fixedMode (127 : BitVec 7).toNat = none ∧ State.reset.done < 3 ∧
    0x8000 ≤ (0xFFFF : BitVec 16).toNat / 8 * 8 ∧ 0x4000 ≤ (0x7FFF : BitVec 16).toNat / 8 * 8 ∧ (0x7FFF : BitVec 16).toNat / 8 * 8 < 0x8000 ∧
    (∀ q ∈ [(R.BC_STEP, 0), (R.TH_STATUS, 0)], ∃ off < 0x200, bootReg 0 (8 * off) = some q) ∧ bootReg 0 0x800 = none := by
  decide +kernel

theorem test_witness_TrailheadStreamsDrainAndCommit_commit :
    let s := streamState 1
    s.flag F.TH_STREAM_OPEN (64 * (1 : HostChan).val + (0 : BitVec 6).toNat) = true ∧ (65536 : DWord).toNat % 64 = 0 ∧
    s.fld F.TH_COMMIT_COMMIT 64 ≤ (65536 : DWord).toNat ∧ (65536 : DWord).toNat ≤ s.drained 64 + s.stageSize 64 ∧
    (64 : DWord).toNat < (streamState 2).fld F.TH_COMMIT_COMMIT 64 ∧ s.drained 64 + s.stageSize 64 < (65600 : DWord).toNat ∧
    State.reset.flag F.TH_STREAM_OPEN 127 = false := by
  decide +kernel

theorem test_witness_TrailheadStreamsDrainAndCommit_map :
    let c (k kind : Nat) : Cmd := ⟨0, desc 0x0101 5 2 2 [k + kind * 2 ^ 32], 2, 5⟩
    (c 0 1).w 4 / 2 ^ 31 ≤ 1 ∧ (c 0 3).w 5 % 4 = 3 ∧ (c 255 1).w 5 % 4 = 1 ∧
    kindRange 1 255 = false ∧
    (∀ i < 2, kindRange 2 (16382 + i) = true ∧ F.TH_WMAP_VALID.get (State.reset.wmap 0 (16382 + i)) = 0) ∧
    F.TH_WMAP_VALID.get (exchangeState.wmap 0 256) = 1 ∧ F.TH_WMAP_CONTEXT.get (exchangeState.wmap 0 256) ≠ 6 ∧
    F.TH_WMAP_CONTEXT.get (exchangeState.wmap 0 256) = 5 ∧ F.TH_WMAP_KIND.get (exchangeState.wmap 0 256) ≠ 0 ∧
    F.TH_WMAP_VALID.get (exchangeState.wmap 0 257) = 0 ∧ 256 + 1 ≤ 16384 := by
  decide +kernel

theorem test_witness_TrailheadStreamsDrainAndCommit_free : 2 ≤ State.reset.freeBlocks.length :=
  Nat.le_trans (by decide +kernel) (List.Sublist.length_le ((List.range_sublist.mpr (by decide : 2 ≤ 512)).filter
    fun b => (State.reset.sramPart (sramBase + b * 65536)).isNone))

theorem test_witness_TrailheadStreamsDrainAndCommit_stage :
    let c (a : Nat) : Cmd := ⟨9, desc 0x0102 5 2 64 [a, 768 * 65536], 2, 5⟩
    let s := (((demandState.setFld F.TH_WMAP_VALID 768 1).setFld F.TH_WMAP_BLOCK 768 3).setFld F.TH_WMAP_KIND 768 2).setFld F.TH_WMAP_CONTEXT 768 5
    s.ddrReads 2 ((c 0x0400_0000).w64 4) 64 = false ∧ s.ddrReads 2 ((c 64).w64 4) 64 = true ∧ (c 32).w64 4 % 64 ≠ 0 ∧ (c 64).w64 4 % 64 = 0 ∧
    (c 64).w64 6 % 2 ^ 63 % 64 = 0 ∧ (stageBlocks ((c 64).w64 6 % 2 ^ 63) (c 64).len).all (fun k => decide (k < 16384) &&
      F.TH_WMAP_VALID.get (s.wmap ((c 64).w 7 / 2 ^ 31) k) == 1 && F.TH_WMAP_KIND.get (s.wmap ((c 64).w 7 / 2 ^ 31) k) == 2 &&
        F.TH_WMAP_CONTEXT.get (s.wmap ((c 64).w 7 / 2 ^ 31) k) == (c 64).ctx) = true := by
  decide +kernel

theorem test_witness_TrailheadStreamsDrainAndCommit_open :
    let s := (demandState.setFld F.PL_COND_OWN_VALID 63 1).setFld F.PL_COND_OWN_OWNER 63 2
    let c (n : Nat) : Cmd := ⟨9, desc 0x0103 5 2 0 [127, 1 + (511 + n * 2 ^ 16) * 2 ^ 32, 63], 2, 5⟩
    canonicalCheck s = true ∧ s.inOneRegion 2 ((c 1).w 5 * 65536) ((c 1).w 6 * 65536) = true ∧ s.inOneRegion 3 0 65536 = false ∧
    (c 1).w 6 = 1 ∧ (c 1).w 7 % 512 = 511 ∧ (c 1).w 7 / 2 ^ 16 % 512 = 1 ∧ (c 0).w 7 / 2 ^ 16 % 512 = 0 ∧
    s.flag F.TH_STREAM_OPEN 127 = false ∧ (s.wstream 127).closing = none ∧ (s.sramPart (sramBase + 511 * 65536)).isNone = true ∧ s.condOwner 63 = some 2 ∧
    s.condBound 63 = false ∧ s.condOwner 62 ≠ some 2 ∧ (streamState 1).flag F.TH_STREAM_OPEN 64 = true ∧ ((streamState 1).wstream 64).ctx = 5 ∧
    (streamState 1).drained 64 < (streamState 1).fld F.TH_COMMIT_COMMIT 64 := by
  decide +kernel

theorem test_witness_TrailheadStreamsDrainAndCommit_lines :
    let g : Stage := ⟨9, 0, 0, 0, 256 * 65536, 64⟩
    let s := (exchangeState.setChan 0 { DdrChan.reset with ready := true })
    let s := { s with trail := { s.trail with stages := [g] } }
    let v := (streamState 1).setChan 0 { DdrChan.reset with ready := true }
    let shut := { exchangeState with trail := { exchangeState.trail with stages := [g] } }
    canonicalCheck s = true ∧ s.dark = false ∧ s.trail.stages[0]? = some g ∧ s.queueOpens.openForAll (.stage g.ring g.desc) = true ∧
    s.queueOpens.inOpenQueue (.stage g.ring g.desc) = true ∧ shut.queueOpens.openForAll (.stage g.ring g.desc) = false ∧ g.len = 64 ∧
    s.backed g.chan g.off = some exchangeAddr ∧ canonicalCheck v = true ∧ (v.wstream 64).closing = none ∧
    v.queueOpens.openFor (ddrChan (v.streamDest 64 (v.drained 64))) (.drain (64 : BitVec 7).toNat) = true ∧
    (streamState 1).queueOpens.openFor (ddrChan (v.streamDest 64 0)) (.drain 64) = false ∧ v.streamDest 64 0 + 64 ≤ ddrSize ∧
    (v.tagOf (v.streamDest 64 0)).writes (v.fld F.TH_STREAM_PART 64) = true ∧
    (v.tagOf (v.streamDest 64 0)).writes 3 = false ∧ v.flag F.TH_ATTN_PIN = false := by
  decide +kernel

/-! ## Witnesses: rings and management (18) -/

/-- A descriptor with its ring and its check word. -/
def ringDesc (ring op ctx part len : Nat) (ws : List Nat) : Desc :=
  let v := (desc op ctx part len ws).toNat + ring * 2 ^ 50
  BitVec.ofNat 512 (v + crc32c (leBytes 60 v) * 2 ^ 480)

/-- Context 5 of partition 2 is open. Ring 9 is its ring, with `posted` descriptors posted, in aperture block 1 of channel 0, and
ring 0 the management ring of the channel at the same place of block 2. -/
def ringState (posted : Nat) : State :=
  let s := ((exchangeState.setFld F.TH_WMAP_VALID 1 1).setFld F.TH_WMAP_VALID 2 1).setFld F.TH_WMAP_BLOCK 2 1
  let s := (s.setRing 9 { Ring.reset with valid := true, off := 65536, l := 4, part := 2, ctx := 5, tail := posted }).setRing 0
    { Ring.reset with valid := true, off := 2 * 65536, l := 4, part := 0, attn := true }
  let s := { s with rings := { s.rings with contexts := [(5, 3)] } }
  ((s.setFld F.BC_RIGHTS_CHANNELS 2 1).setFld F.BC_RIGHTS_MAX_CONTEXTS 2 2).setFld F.BC_STATUS_CONTEXTS 0 1

theorem test_witness_RingCommandsRunTheirBodies : ∀ q ∈ [(0, 0x0000, 0, []), (9, 0x0201, 65536, [65536])],
    let d := ringDesc q.1 q.2.1 5 2 q.2.2.1 q.2.2.2
    let s := ringState 0
    let full := s.setRing q.1 { s.ring q.1 with tail := 16, sqHead := 16 }
    let replay := s.setFld F.FB_STATUS_REPLAYING 0 1
    canonicalCheck s = true ∧ B.DESC_OPCODE.get d.toNat = q.2.1 ∧ (s.ring q.1).valid = true ∧ (s.ring q.1).stopped = false ∧
    spGet false s.rings.stalled (s.ring q.1).chan = false ∧ s.fenced q.1 d = false ∧ full.takeSlot q.1 = none ∧ (s.takeSlot q.1).isSome = true ∧
    ((s.takeSlot q.1).getD s).descCheck q.1 d = none ∧ ((s.takeSlot q.1).getD s).flag F.FB_STATUS_REPLAYING = false ∧
    ((s.takeSlot q.1).getD s).descCheck q.1 (d + 1) = some (6, 0) ∧ ((replay.takeSlot q.1).getD s).flag F.FB_STATUS_REPLAYING = true ∧
    q.2.1 ∉ [0x0010, 0x0C01, 0x0C04, 0x0D02] ∧ ((s.takeSlot q.1).getD s).descVerdict q.1 d true nopBody = none ∧
    ((s.takeSlot q.1).getD s).descVerdict q.1 (d + 1) true nopBody = some ⟨6, 0, 0, none⟩ ∧
    ((replay.takeSlot q.1).getD s).descVerdict q.1 d true nopBody = some (denied 5) := by
  decide +kernel

theorem test_witness_DescriptorsFailTheirFirstTest :
    let s := ringState 1
    s.descCheck 9 (ringDesc 9 0x0201 5 2 65536 [] + 1) = some (6, 0) ∧ s.descCheck 9 (ringDesc 8 0x0201 5 2 65536 []) = some (3, 0) ∧
    s.descCheck 9 (ringDesc 9 0x0201 6 2 65536 []) = some (2, 0) ∧ s.descCheck 9 (ringDesc 9 0x0201 5 3 65536 []) = some (4, 0) ∧
    s.descCheck 9 (ringDesc 9 0xFFFF 5 2 65536 []) = some (1, 0xFFFE) ∧ s.descCheck 9 (ringDesc 9 0x0803 5 2 0 []) = some (4, 3) ∧
    s.descCheck 9 (ringDesc 9 0x0000 5 2 0 []) = some (1, 0xFFFE) ∧ s.descCheck 9 (ringDesc 9 0x0201 5 2 65535 []) = some (1, 0) ∧
    s.descCheck 9 (ringDesc 9 0x0201 5 2 65536 []) = none := by
  decide +kernel

theorem test_witness_DescriptorsFailTheirFirstTest_verdict :
    let s := ringState 1
    let d := ringDesc 9 0x0201 5 2 65535 []
    let place (st : Nat) : Option Nat := [6, 3, 2, 4, 1, 5, 7].findIdx? fun x => x == st
    s.descCheck 9 d = some (1, 0) ∧ place (denied 0).status = some 3 ∧ place (lenRange 0).status = some 4 ∧ 3 < 4 ∧
    s.descVerdict 9 d true (fun x _ => (x, some (denied 0))) = some (denied 0) ∧
    s.descVerdict 9 d true (fun x _ => (x, some (conflict 0))) = some ⟨1, 0, 0, none⟩ := by
  decide +kernel

theorem test_witness_CompletionsArePosted : ∀ n ∈ [0, 65535],
    let s := (ringState 0).setRing 9 { (ringState 0).ring 9 with cqTail := n, sqHead := n }
    canonicalCheck s = true ∧ (s.ring 9).valid = true ∧ (s.ring 9).cqTail < 65536 ∧ (s.ring 9).sqHead < 65536 ∧
    s.backed 0 ((s.ring 9).cplSlot n) = some (sramBase + 64 + 64 * 16 + 32 * (n % 16)) ∧ s.backed 0 (s.ring 9).off = some sramBase ∧
    ((sramBase + 64 + 64 * 16 + 32 * (n % 16)) + 32 ≤ sramBase ∨ sramBase + 64 ≤ sramBase + 64 + 64 * 16 + 32 * (n % 16)) := by
  decide +kernel

theorem test_witness_ManagementCommandsAct_contexts :
    let s := ringState 1
    let c : Cmd := ⟨0, desc 0x0001 0 2 0 [], 2, 0⟩
    let two := { s with rings := { s.rings with contexts := [(5, 3), (6, 3)] } }
    s.ctxPart 0 = none ∧ s.rings.contexts.countP (fun x => x.2 == c.part + 1) < s.fld F.BC_RIGHTS_MAX_CONTEXTS c.part ∧
    s.fld F.BC_STATUS_CONTEXTS < 4096 ∧ two.ctxPart 0 = none ∧
    two.fld F.BC_RIGHTS_MAX_CONTEXTS c.part ≤ two.rings.contexts.countP (fun x => x.2 == c.part + 1) ∧
    ({ s with rings := { s.rings with closing := [⟨0, 0, 5, none⟩] } } : State).ctxClosing 5 = true := by
  decide +kernel

theorem test_witness_ManagementCommandsAct_full : ∃ s : State, s.canonical ∧ ∀ i, i < 4096 → s.ctxPart i ≠ none := by
  have get (n : Nat) : ∀ a i, a ≤ i → i < a + n → spGet 0 ((List.range' a n).map fun k => (k, 1)) i = 1 := by
    induction n with
    | zero => omega
    | succ n ih =>
      intro a i h1 h2
      rw [List.range'_succ, List.map_cons, spGet]
      split
      · rfl
      · rw [if_neg (by omega)]
        exact ih _ _ (by omega) (by omega)
  refine ⟨{ State.reset with rings := { State.reset.rings with contexts := (List.range' 0 4096).map fun k => (k, 1) } },
    ⟨rfl, rfl, rfl, rfl, rfl, rfl, rfl, rfl, rfl, rfl, rfl, rfl⟩, fun i h => ?_⟩
  unfold State.ctxPart
  rw [get 4096 0 i (by omega) (by omega)]
  simp

theorem test_witness_ManagementCommandsAct_rings :
    let s := { (ringState 1) with rings := { (ringState 1).rings with table := [(0, (ringState 1).ring 0)] } }
    let c : Cmd := ⟨0, desc 0x0003 5 2 0 [65536 + 4 * 2 ^ 32], 2, 5⟩
    let d (r : Nat) : Cmd := ⟨0, desc 0x0004 5 2 0 [r], 2, 5⟩
    let busy := (ringState 1).setRing 9 { (ringState 1).ring 9 with flying := 1 }
    canonicalCheck s = true ∧ (s.ring 2).valid = false ∧ s.ctxClosing c.ctx = false ∧ c.w 5 % 16 = 4 ∧ c.w 4 % 1024 = 0 ∧ 0x10000 ≤ c.w 4 ∧
    c.w 4 + 64 + 96 * 2 ^ 4 ≤ 0x1000000 ∧ (∀ k ∈ ringBlocks (c.w 4) 4, F.TH_WMAP_VALID.get (s.wmap (s.ring c.ring).chan k) = 1) ∧
    (s.setFld F.TH_WMAP_PART 1 2).ringClash (s.ring c.ring).chan (c.w 4) 4 c.part = false ∧ s.fld F.BC_STATUS_RINGS < 16384 ∧
    (d 1).w 4 % 2 ^ 14 < 2 ∧ 2 ≤ (d 8).w 4 % 2 ^ 14 ∧ (busy.ring 8).valid = false ∧ (d 9).w 4 % 2 ^ 14 = 9 ∧ (busy.ring 9).valid = true ∧
    (busy.ring 9).ctx = (d 9).ctx ∧ (busy.ring 9).stopped = false ∧ 0 < (busy.ring 9).flying := by
  decide +kernel

theorem test_witness_ManagementCommandsAct_registers :
    let s := ((ringState 1).setFld F.PL_COND_OWN_VALID 63 1).setFld F.PL_COND_OWN_OWNER 63 2
    let c (unit off len : Nat) : Cmd := ⟨0, desc 0x0010 5 2 len [unit + off * 2 ^ 32, exchangeAddr], 2, 5⟩
    let p1 (unit off : Nat) : Cmd := ⟨0, desc 0x0011 5 1 0 [unit + off * 2 ^ 32], 1, 5⟩
    s.ctxPart 5 = some (c 1 0 8).part ∧ s.exchange 5 ((c 1 0 8).w64 6) 8 = true ∧ s.ctxPart 6 ≠ some 2 ∧
    unitReg ((c 0xFF 0 8).w 4 % 256) ((c 0xFF 0 8).w 5 % 2 ^ 24 + 8 * 0) = none ∧
    unitReg ((c 1 0x2F8 8).w 4 % 256) ((c 1 0x2F8 8).w 5 % 2 ^ 24) = some (R.PL_COND, 63) ∧ s.writeRight 2 R.PL_COND 63 9 = true ∧
    s.writeRight 3 R.PL_COND 63 9 = false ∧ s.condBound 63 = false ∧
    ((s.setFld F.SP_SCHED_CFG_LEN 2 1).setFld F.SP_SCHED_CFG_COND 2 63).condBound 63 = true ∧ (c 1 0 0).len = 0 ∧
    unitReg ((p1 1 0x7F8).w 4 % 256) ((p1 1 0x7F8).w 5 % 2 ^ 24) = some (R.PL_ENG_STATUS, 127) ∧ s.writeRight 1 R.PL_ENG_STATUS 127 0 = true := by
  decide +kernel

theorem test_witness_FetchServesTheBandsInTurn_doorbell :
    let s := ringState 1
    let v (tail : Nat) (head : Bool) : DWord := BitVec.ofNat 64 (9 + bit head * 2 ^ 14 + tail * 2 ^ 16)
    s.isOff = false ∧ (v 2 false).toNat % 2 ^ 14 = 9 ∧ (v 2 false).toNat / 2 ^ 16 % 2 ^ 16 = 2 ∧ (s.ring 9).valid = true ∧
    (s.ring 9).chan = (0 : HostChan).val ∧ spGet false s.rings.stalled 0 = false ∧ (s.ring 9).tailOk 16 = true ∧ (s.ring 9).tailOk 17 = false ∧
    (v 16 false).getLsbD 14 = false ∧ (v 1 true).getLsbD 14 = true ∧ (s.ring 9).headOk 1 = true ∧ (s.ring 9).headOk 2 = false ∧
    (s.ring 8).valid = false ∧ (s.ring 9).chan ≠ (1 : HostChan).val := by
  decide +kernel

theorem test_witness_FetchServesTheBandsInTurn_fetch :
    let s := (ringState 0).setRing 9 { (ringState 0).ring 9 with part := 1, tail := 1 }
    s.dark = false ∧ (∀ e ∈ (ringState 0).rings.table, (ringState 0).ringReady e.1 = false) ∧ s.ringReady 9 = true ∧ (s.ring 9).part < 2 ∧
    spGet 0 s.rings.lastBand 0 < 9 ∧ 9 ∈ s.rings.table.map (fun e => e.1) ∧ s.rings.table.Pairwise (fun x y => x.1 < y.1) ∧
    (∀ e ∈ s.rings.table, spGet 0 s.rings.lastBand 0 < e.1 → e.1 < 9 → (e.1 < 2 ∨ (s.ring e.1).part < 2) → s.ringReady e.1 = false) ∧
    (({ s with rings := { s.rings with lastBand := spSet 0 s.rings.lastBand 0 9 } } : State).takeSlot 9).isSome = true := by
  decide +kernel

theorem test_witness_FetchServesTheBandsInTurn_select :
    let s := (ringState 1).setRing 16383 { Ring.reset with valid := true, chan := 1, l := 10, part := 7, ctx := 4095, off := 2 ^ 24 - 1024 }
    (s.ring (16382 : BitVec 14).toNat).valid = false ∧ (s.ring (16383 : BitVec 14).toNat).valid = true ∧ (s.ring 16383).chan < 2 ∧ (s.ring 16383).l < 16 ∧
    (s.ring 16383).part < 8 ∧ (s.ring 16383).ctx < 4096 ∧ (s.ring 16383).off < 2 ^ 24 ∧ (s.ring 16383).cqHead ≤ 65535 ∧ (s.ring 16383).tail ≤ 65535 := by
  decide +kernel

/-! ## Witnesses: power, records, tether (20, 22, 23) -/

/-- The module after S7. -/
def readyState : State := (State.reset.setFld F.SP_FRAME_CFG_EN 0 1).setFld F.BC_STEP_STATUS_DONE 0 7

/-- The module between the S6 commit and S7. -/
def committedState : State := (State.reset.setFld F.SP_FRAME_CFG_EN 0 1).setFld F.BC_STEP_STATUS_DONE 0 6

/-- `s` with the power manager's part `p`. -/
def withPower (s : State) (p : Power) : State := { s with power := p }

theorem test_witness_PowerManagerActsAtItsTicks_fclk :
    let s := withPower readyState { readyState.power with holds := [10, 20] }
    let d := withPower readyState { readyState.power with droop := some 0 }
    canonicalCheck s = true ∧ s.dark = false ∧ (s.tickF 99999999).clk.fclk < s.power.calAt + 100000000 ∧
    s.power.calAt + 100000000 ≤ (s.tickF 100000000).clk.fclk ∧ s.power.holds = 10 :: [20] ∧ (s.tickF 9).clk.fclk < 10 ∧
    10 ≤ (s.tickF 10).clk.fclk ∧ s.ridge.hold = none ∧ canonicalCheck d = true ∧ d.power.droop = some 0 ∧
    (d.tickF 999).clk.fclk < 0 + 1000 ∧ 0 + 1000 ≤ (d.tickF 1000).clk.fclk ∧ readyState.power.droop = none ∧
    (s.tickF 9999).clk.fclk < s.power.tickAt + 10000 ∧ s.power.tickAt + 10000 ≤ (s.tickF 10000).clk.fclk ∧ s.power.thermal ≤ 10 ∧
    s.fld F.PW_RAIL_MEAS 0 < 270000 ∧ 270000 < (s.setFld F.PW_RAIL_MEAS 0 270001).fld F.PW_RAIL_MEAS 0 := by
  decide +kernel

theorem test_witness_PowerManagerActsAtItsTicks_learn : ∃ s : State, s.canonical ∧ s.dark = false ∧
    spGet 0 s.power.learnedProt (7 : Byte).toNat = 100 * ((70000 : Nat) : Rat) ∧
    spGet 0 s.power.learnedFill (7 : Byte).toNat = 100 * ((3 : Nat) : Rat) :=
  ⟨withPower readyState { readyState.power with learnedProt := [(7, 7000000)], learnedFill := [(7, 300)] },
    canonical_of_check (by decide +kernel), by decide +kernel, by rw [show (7 : Byte).toNat = 7 from rfl]; norm_num [withPower, spGet],
    by rw [show (7 : Byte).toNat = 7 from rfl]; norm_num [withPower, spGet]⟩

theorem test_witness_PowerManagerActsAtItsTicks_shutdown :
    asSigned 8 (114 : Byte).toNat < 115 ∧ asSigned 8 (255 : Byte).toNat < 115 ∧ 115 ≤ asSigned 8 (115 : Byte).toNat ∧
    readyState.power.supply = .on ∧ (withPower readyState { readyState.power with supply := .hot }).power.supply ≠ .on := by
  decide +kernel

theorem test_witness_PowerManagerActsAtItsTicks_sag :
    let saving := (readyState.setFld F.PW_STATUS_SAVING 0 1)
    readyState.isOff = false ∧ canonicalCheck readyState = true ∧ 10 * readyState.fld F.PW_CFG_VIN_SAG = 3200 ∧
    readyState.fld F.PW_CFG_SAG_TIME = 20 ∧ 10 * readyState.fld F.PW_CFG_VIN_SAG ≤ (3200 : BitVec 13).toNat ∧
    (3199 : BitVec 13).toNat < 10 * readyState.fld F.PW_CFG_VIN_SAG ∧ readyState.done = 7 ∧ committedState.done < 7 ∧
    readyState.flag F.PW_CFG_SAVE_EN = true ∧ readyState.flag F.PW_STATUS_SAVING = false ∧ readyState.flag F.PW_STATUS_SAVED = false ∧
    readyState.power.supply = .on ∧ saving.flag F.PW_STATUS_SAVING = true ∧ saving.done = 7 := by
  decide +kernel

/-- A save record without lots, made under the configuration block in force. -/
def savedRec (s : State) : SaveRec := ⟨1, 0, 0, digest s.bring.config, []⟩

theorem test_witness_PowerManagerActsAtItsTicks_save : ∃ (s : State) (k : Nat) (r : SaveRec), s.power.saving = some (k, r) ∧
    s.canonical ∧ readyState.power.saving = none :=
  ⟨withPower readyState { readyState.power with saving := some (1, savedRec readyState) }, 1, savedRec readyState, rfl,
    canonical_of_check (by decide +kernel), by decide +kernel⟩

theorem test_witness_PowerManagerActsAtItsTicks_commands :
    let cap (n : Nat) : Cmd := ⟨0, desc 0x0D01 0 0 0 [n], 0, 0⟩
    let s := readyState.setFld F.PW_CAP_FLOOR 0 700
    (cap 599).w 4 % 4096 < 600 ∧ 2700 < (cap 2701).w 4 % 4096 ∧ (cap 600).w 4 % 4096 = 600 ∧ (cap 600).w 4 % 4096 < s.fld F.PW_CAP_FLOOR ∧
    s.fld F.PW_CAP_FLOOR ≤ (cap 700).w 4 % 4096 ∧ (cap 2700).w 4 % 4096 = 2700 ∧ readyState.betweenCommitAndReady = false ∧
    committedState.betweenCommitAndReady = true ∧ committedState.flag F.PW_SAVE_RESTORED = false ∧ committedState.power.newest = none ∧
    (committedState.setFld F.PW_SAVE_RESTORED 0 1).flag F.PW_SAVE_RESTORED = true := by
  decide +kernel

/-- The save store holds one record. -/
def slotState (r : SaveRec) : State := withPower committedState { committedState.power with slots := [(0, r)] }

theorem test_witness_PowerManagerActsAtItsTicks_restore :
    let s := slotState ⟨1, 0, 0, 0, []⟩
    s.betweenCommitAndReady = true ∧ s.flag F.PW_SAVE_RESTORED = false ∧ s.power.newest = some (0, ⟨1, 0, 0, 0, []⟩) ∧
    0 ≠ digest s.bring.config := by
  decide +kernel

theorem test_witness_PowerManagerActsAtItsTicks_lots : ∀ save : Bool,
    let r : SaveRec := { savedRec committedState with lots := [(5, 0, [])] }
    let s := (slotState r).setLot 5 { (slotState r).lot 5 with save := save }
    r.digest = digest s.bring.config ∧ s.power.newest = some (0, r) ∧ (s.lot 5).save = save ∧ canonicalCheck s = true := by
  decide +kernel

/-- A flash job for an area, and the module with it in progress. -/
def flashState (area : Nat) (bs : List Byte) : State :=
  { readyState with ident := { readyState.ident with program := [⟨0, 0, area, bs⟩], flash := [(0x0801_0000, 1)] } }

theorem test_witness_RecordsAreKeptAndReplayed_flash : ∀ area ∈ [0, 1, 2],
    let s := flashState area [7]
    s.dark = false ∧ readyState.ident.program = [] ∧ s.ident.program = ⟨0, 0, area, [7]⟩ :: [] ∧ canonicalCheck s = true ∧
    spWf 0xFF s.ident.flash = true ∧ ([7] : List Byte).length + 64 ≤ (s.flashArea area).2 := by
  decide +kernel

/-- A record of a COMMAND, without payload, from cycle `acyc`. -/
def bookRec (acyc : Nat) : BookRec := ⟨acyc, 0x01, 0, 0, 0, List.replicate 64 0⟩

/-- The merge holds one record of cycle 0, the staging buffer `n` bytes. -/
def bookState (n : Nat) : State :=
  { readyState with
    ridge := { readyState.ridge with goAt := some 0 }
    book := { readyState.book with merge := [bookRec 0], staging := [List.replicate n 1] } }

theorem test_witness_RecordsAreKeptAndReplayed_release :
    let s := bookState 32
    let full := { s with book := { s.book with staging := List.replicate 5461 (List.replicate 96 1) } }
    let v := (s.setFld F.FB_CFG_RING_LEN 0 1).setChan 0 { DdrChan.reset with ready := true }
    let u := v.queueOpens.tickA 0
    s.dark = false ∧ canonicalCheck (s.tickA 20000) = true ∧
    (s.tickA 20000).book.merge = bookRec 0 :: [] ∧ (s.tickA 19999).acyc < (bookRec 0).acyc + 20000 ∧
    (bookRec 0).acyc + 20000 ≤ (s.tickA 20000).acyc ∧ (s.tickA 20000).stagedBytes + 96 ≤ 524288 ∧
    524288 < (full.tickA 20000).stagedBytes + 96 ∧
    ((pieces ((bookRec 0).payload.length / maxPiece + 1) (bookRec 0) false (bookRec 0).payload).map stagedSize).sum = 96 ∧
    v.dark = false ∧ canonicalCheck u = true ∧ u.book.staging = List.replicate 32 1 :: [] ∧ u.sampleGone (List.replicate 32 1) = false ∧
    u.bookOpen (List.replicate 32 (1 : Byte)).length = true ∧ u.book.lost = 0 ∧ (List.replicate 32 (1 : Byte)).length % 32 = 0 ∧
    u.book.lens.sum + (List.replicate 32 (1 : Byte)).length / 32 ≤ u.bookUnits ∧
    (v.tickA 0).bookOpen ((List.replicate 32 (1 : Byte)).length + (if (v.tickA 0).book.lost = 0 then 0 else 64)) = false := by
  decide +kernel

/-- A replay of `n` bytes from DDR4 address 0, the records `bs` standing there, at bench cycle `acyc`. -/
def replayState (acyc n : Nat) (bs : List Byte) : State :=
  let s := { committedState with sched := { committedState.sched with regions := [(0, F.SP_REGION_COUNT.put 0 1)] } }
  let s := (s.wrBytes 0 bs).setFld F.FB_STATUS_REPLAYING 0 1
  { s with book := { s.book with replay := some ⟨0, 0, 0, n, 0, 0, 0, 0, 0, acyc, false, [], []⟩ } }

/-- A record of the kind given, from cycle 10, with its RECNO and its check. -/
def sealedRec (kind : Nat) (payload : List Byte) : List Byte := sealRecord 1 (rawRecord ⟨10, kind, 0, 0, 0, payload⟩ false false payload)

theorem test_witness_RecordsAreKeptAndReplayed_apply : ∀ kind ∈ [0x16, 0x07],
    let bs := sealedRec kind (leBytes 8 sramBase ++ leBytes 40 0x1234)
    let s := replayState 10 96 bs
    let r : Replay := ⟨0, 0, 0, 96, 0, 0, 0, 0, 0, 10, false, [], []⟩
    let h := leNat (bs.take 32)
    s.dark = false ∧ canonicalCheck s = true ∧ (s.tickA 0).book.replay = some r ∧ (s.tickA 0).nextHead r = some h ∧
    B.FBR_ACYC.get h = 10 ∧ B.FBR_KIND.get h = kind ∧ B.FBR_CONT.get h = 0 ∧ B.FBR_MORE.get h = 0 ∧ 32 * B.FBR_LEN.get h = 96 ∧
    bs.length = 96 ∧ (s.tickA 0).rdBytes 0 96 = bs ∧
    crc32c (leBytes 32 (h - B.FBR_CRC.put (B.FBR_CRC.get h)) ++ bs.drop 32) = B.FBR_CRC.get h ∧ payWord (bs.drop 32) 0 = sramBase := by
  decide +kernel

theorem test_witness_RecordsAreKeptAndReplayed_waits :
    let bs := sealedRec 0x16 []
    let early : Replay := ⟨0, 0, 0, 32, 0, 0, 0, 0, 0, 9, false, [], []⟩
    let past : Replay := ⟨0, 0, 0, 31, 0, 0, 0, 0, 0, 10, false, [], []⟩
    let cut := replayState 10 32 (bs.set 8 2)
    ((replayState 9 32 bs).tickA 0).book.replay = some early ∧
    ((replayState 9 32 bs).tickA 0).nextHead early = some (leNat bs) ∧ early.acyc < B.FBR_ACYC.get (leNat bs) ∧
    ((replayState 10 31 bs).tickA 0).book.replay = some past ∧ ((replayState 10 31 bs).tickA 0).nextHead past = none ∧
    B.FBR_CRC.get (leNat (bs.set 8 2)) ≠
      crc32c (leBytes 32 (leNat (bs.set 8 2) - B.FBR_CRC.put (B.FBR_CRC.get (leNat (bs.set 8 2))))) ∧
    cut.rdBytes 0 32 = bs.set 8 2 ∧ (committedState.tickA 0).book.replay = none := by
  decide +kernel

theorem test_witness_RecordsAreKeptAndReplayed_faults : ∀ site ∈ [(0 : BitVec 12), 0x335],
    let s := readyState.setSite site.toNat ⟨3, true, 65535, 2 ^ 32 - 1, 0⟩
    let due := (s.site site.toNat).changed + s.fld F.FB_FAULT_CFG_WINDOW * 100000000
    s.dark = false ∧ canonicalCheck s = true ∧ siteValid site.toNat = true ∧ siteValid (0x336 : BitVec 12).toNat = false ∧
    0 < (s.site site.toNat).count ∧ (readyState.site site.toNat).count = 0 ∧ (s.tickB (due - 1)).clk.bclk < due ∧
    due ≤ (s.tickB due).clk.bclk ∧ 0 < due ∧ (s.site site.toNat).count < 256 ∧ (s.site site.toNat).total < 65536 ∧
    (s.site site.toNat).last < 2 ^ 32 := by
  decide +kernel

theorem test_witness_RecordsAreKeptAndReplayed_commands :
    let s := replayState 0 32 []
    let c (base n : Nat) : Cmd := ⟨0, desc 0x0C03 0 0 0 [base, n], 0, 0⟩
    let x := exchangeState
    let a (p q : Nat) : Cmd := ⟨9, desc 0x0B01 5 2 0 [p, q], 2, 5⟩
    committedState.betweenCommitAndReady = true ∧ readyState.betweenCommitAndReady = false ∧
    s.ddrWrites 0 ((c 0 64).w64 4) ((c 0 64).w64 6) = true ∧ s.ddrWrites 0 ((c 0 0).w64 4) ((c 0 0).w64 6) = true ∧
    s.ddrWrites 0 ((c 32 33).w64 4) ((c 32 33).w64 6) = true ∧ (c 32 33).w64 6 % 32 ≠ 0 ∧
    s.ddrWrites 0 ((c 0x0400_0000 32).w64 4) ((c 0x0400_0000 32).w64 6) = false ∧
    x.exchange 5 ((a exchangeAddr (exchangeAddr + 64)).w64 4) 32 = true ∧ x.exchange 5 ((a exchangeAddr (exchangeAddr + 64)).w64 6) 3776 = true ∧
    x.exchange 5 ((a 0 exchangeAddr).w64 4) 32 = false ∧ x.ident.seed = none ∧
    ({ x with ident := { x.ident with seed := some 5 } } : State).ident.seed = some 5 := by
  decide +kernel

/-- Port `p` is enabled and up. -/
def linkState (p : Nat) : State := (readyState.setFld F.TL_CFG_PORT_EN 0 7).setFld F.TL_PORT_STAT_UP p 1

/-- A flit header: kind, partition, SEQ, ACK_SEQ and destination. -/
def flitHdr (kind part seq ack dest : Nat) : BitVec 128 :=
  BitVec.ofNat 128 (B.FLIT_KIND.put kind + B.FLIT_PART.put part + B.FLIT_CLASS.put 3 + B.FLIT_SEQ.put seq + B.FLIT_ACK_SEQ.put ack +
    B.FLIT_DEST.put dest)

/-- The check of a flit with no payload. -/
def flitCheck (hdr : BitVec 128) : BitVec 32 := BitVec.ofNat 32 (crc32c (leBytes 16 hdr.toNat ++ leBytes 64 0))

theorem test_witness_TetherFlitsAreTakenInOrder_receive : ∀ p ∈ [(0 : TetherPort), 2], ∀ kind ∈ [1, 2, 3, 4],
    let s := linkState p.val
    let hdr := flitHdr kind 2 0 7 0
    let fixed := s.setFld F.TL_CFG_FIXED 0 1
    let late := fixed.setTlPort p.val { fixed.tlPort p.val with lost := 1 }
    let acked := s.setTlPort p.val { s.tlPort p.val with sent := [⟨B.FLIT_SEQ.put 7, []⟩] }
    canonicalCheck s = true ∧ s.coreDark = false ∧ s.tlUp p.val = true ∧ readyState.tlUp p.val = false ∧
    flitCrcOk hdr 0 (flitCheck hdr) = true ∧ flitCrcOk hdr 0 (flitCheck hdr + 1) = false ∧
    ((s.tlPort p.val).sent.any fun f => B.FLIT_SEQ.get f.hdr == B.FLIT_ACK_SEQ.get hdr.toNat) = false ∧
    ((acked.tlPort p.val).sent.any fun f => B.FLIT_SEQ.get f.hdr == B.FLIT_ACK_SEQ.get hdr.toNat) = true ∧ (s.tlPort p.val).queue = [] ∧
    B.FLIT_KIND.get hdr.toNat = kind ∧ B.FLIT_SEQ.get hdr.toNat = ((s.tlPort p.val).last + 1) % 4096 ∧
    B.FLIT_SEQ.get (flitHdr kind 2 1 7 0).toNat ≠ ((s.tlPort p.val).last + 1) % 4096 ∧
    flitCrcOk (flitHdr kind 2 1 7 0) 0 (flitCheck (flitHdr kind 2 1 7 0)) = true ∧
    s.flag F.TL_CFG_FIXED = false ∧ fixed.flag F.TL_CFG_FIXED = true ∧ (fixed.tlPort p.val).lost = 0 ∧
    (late.tlPort p.val).lost = 1 ∧ (late.tlPort p.val).held = [] ∧ s.fld F.SP_FRAME_CFG_SRC ≠ p.val + 1 := by
  decide +kernel

theorem test_witness_TetherFlitsAreTakenInOrder_data :
    let s := { linkState 2 with sched := { (linkState 2).sched with regions := [(8, F.SP_REGION_COUNT.put 0 1)] } }
    let w := { s with ridge := { s.ridge with markers := List.replicate 16 (2, 5) } }
    B.FLIT_PART.get (flitHdr 1 2 0 7 64).toNat = 2 ∧ B.FLIT_DEST.get (flitHdr 1 2 0 7 64).toNat / 64 * 64 = 64 ∧ s.partState 2 < 2 ∧
    B.FLIT_CLASS.get (flitHdr 1 2 0 7 64).toNat = 3 ∧ 64 < ddrSize ∧ tetherOffsetOk 64 = true ∧ (s.tagOf (tetherTarget 64)).writes 2 = true ∧
    (s.tagOf (tetherTarget 64)).writes 3 = false ∧ tetherOffsetOk (2 ^ 38 - 64) = false ∧ (flitHdr 1 2 0 7 64).toNat / 2 ^ 7 % 4 = 3 ∧
    B.FLIT_CLASS.get (flitHdr 1 2 0 7 64 - 2 ^ 7).toNat ≠ 3 ∧ 2 ≤ (s.setPartState 2 2).partState 2 ∧
    s.ridge.markers.countP (fun m => m.1 == 2) < 16 ∧ 16 ≤ w.ridge.markers.countP (fun m => m.1 == 2) ∧ canonicalCheck w = true := by
  decide +kernel

theorem test_witness_TetherFlitsAreTakenInOrder_landing :
    let s := { linkState 2 with sched := { (linkState 2).sched with regions := [(8, F.SP_REGION_COUNT.put 0 1)] } }
    let f : Flit := ⟨(flitHdr 1 2 0 7 64).toNat, List.replicate 64 3⟩
    let v := s.setTlPort 2 { s.tlPort 2 with landing := [f] }
    (v.tlPort 2).landing = f :: [] ∧ f.ddrUnit = some 64 ∧ ddrChan 64 = 0 ∧ 64 + 64 ≤ ddrSize ∧ f.payload.length = 64 ∧
    v.partState 2 < 2 ∧ B.FLIT_PART.get f.hdr = 2 ∧ canonicalCheck v = true ∧ tetherOffsetOk (ddrSize + 64) = true ∧
    ((linkState 2).tagOf (tetherTarget (ddrSize + 64))).writes 3 = false := by
  decide +kernel

theorem test_witness_TetherFlitsAreTakenInOrder_link : ∀ p ∈ [(0 : TetherPort), 2],
    let s := linkState p.val
    let h : HeldFlit := ⟨10, ⟨0, []⟩⟩
    let held := s.setTlPort p.val { s.tlPort p.val with held := [h] }
    let down := (s.setFld F.TL_PORT_STAT_UP p.val 0).setTlPort p.val { s.tlPort p.val with downAt := some 0 }
    let span := 1000 * s.fld F.TL_CFG_LINK_TIMEOUT
    let half := (s.setSite (siteTether p.val 7) ⟨9, true, 9, 0, 0⟩).setFld F.TL_CFG_FIX_NS 0 500
    let both := half.setSite (siteTether p.val 0) ⟨9, true, 9, 0, 0⟩
    canonicalCheck held = true ∧ (held.tlPort p.val).held = h :: [] ∧ (held.tickTl p.val 9).tlTime p.val < h.due ∧
    h.due ≤ (held.tickTl p.val 10).tlTime p.val ∧ canonicalCheck down = true ∧ down.tlUp p.val = false ∧ s.tlUp p.val = true ∧
    (down.tickTl p.val (span - 1)).tlTime p.val < (down.tlPort p.val).downAt.getD 0 + span ∧ 0 < span ∧
    (down.tlPort p.val).downAt.getD 0 + span ≤ (down.tickTl p.val span).tlTime p.val ∧ (∀ c < 16, down.tlWaiting p.val c = 0) ∧
    s.tlEnabled p.val = true ∧ readyState.tlEnabled p.val = false ∧ s.tlLasting p.val = 0 ∧ half.tlLasting p.val = 128 ∧
    (480 : BitVec 11).toNat + 20 ≤ half.fld F.TL_CFG_FIX_NS ∧ half.fld F.TL_CFG_FIX_NS < (481 : BitVec 11).toNat + 20 ∧
    both.tlLasting p.val % 16 ≠ 0 ∧ both.tlLasting p.val / 16 ≠ 0 ∧ canonicalCheck both = true := by
  decide +kernel

/-! ## Witnesses: bring-up and pins (19, 25) -/

/-- The module with steps 1 to `done` made and step `active` in progress since FCLK cycle 0. -/
def bringState (done active : Nat) : State := (State.reset.setFld F.BC_STEP_STATUS_DONE 0 done).setFld F.BC_STEP_STATUS_ACTIVE 0 active

theorem test_witness_BringUpRequestRefused : ∀ k ∈ [1, 2, 3, 4, 5, 6, 7],
    let early := bringState (k - 2) 0
    let busy := bringState (k - 1) k
    canonicalCheck early = true ∧ early.isOff = false ∧ (k ≠ early.done + 1 ∨ k = 1) ∧ canonicalCheck busy = true ∧ busy.active ≠ 0 ∧
    busy.done + 1 = k := by
  decide +kernel

theorem test_witness_BringUpStepsAct : ∀ k ∈ [1, 2, 3, 4, 5, 6, 7],
    let s := bringState (k - 1) 0
    canonicalCheck s = true ∧ s.stepOk k = true ∧ hasBit (1 : Byte).toNat 0 = true ∧ hasBit (1 : Byte).toNat 7 = false := by
  decide +kernel

/-- No area of the erased flash holds an image: neither boot slot has a record. -/
theorem test_witness_BringUpStepsAct_noImage : (bringState 1 0).stepOk 2 = true ∧ (bringState 1 0).bootPick = none := by
  decide +kernel

/-- A plan image with an empty configuration block has been loaded. -/
def planned : State :=
  let s := bringState 5 0
  { s with ridge := { s.ridge with planLoaded := true } }

theorem test_witness_BringUpStepsAct_commit : (bringState 5 0).stepOk 6 = true ∧ planned.stepOk 6 = true ∧
    (∃ b, ((bringState 5 0).stepAccept 6 (9 : Byte).toNat).commit = .error b) :=
  ⟨by decide +kernel, by decide +kernel, ⟨1, 0x01, 0x010, 0xFFFF⟩, rfl⟩

theorem test_witness_BringUpStepEnds : ∀ k ∈ [2, 3, 4, 5],
    let s := bringState (k - 1) k
    let failed := { s with bring := { s.bring with fail := some (255, 0) } }
    canonicalCheck s = true ∧ s.dark = false ∧ (bringState 6 7).active = 7 ∧ (bringState 6 7).bring.fail = none ∧ failed.active ≠ 0 ∧
    canonicalCheck failed = true ∧ failed.bring.fail = some (255, 0) ∧ (failed.tickF 0).stepLate = false ∧ s.active = k ∧
    (s.tickF (fclkMs * ((s.stepMax k).getD 0))).stepLate = false ∧ (s.tickF (fclkMs * ((s.stepMax k).getD 0) + 1)).stepLate = true := by
  decide +kernel

theorem test_witness_PowerPinsSwitchSupply :
    let off : State := { State.reset with power := { State.reset.power with supply := .off } }
    let starting : State := { State.reset with power := { State.reset.power with supply := .starting } }
    off.power.supply = .off ∧ off.pins.nreset = false ∧ off.pins.vin = true ∧ starting.power.supply = .starting ∧
    State.reset.ident.program = [] ∧ State.reset.power.saving = none ∧
    ({ State.reset with power := { State.reset.power with saving := some (0, ⟨1, 0, 0, 0, []⟩) } } : State).power.saving.isSome = true := by
  decide +kernel

theorem test_witness_TestAccessPortScans :
    ({ State.reset with pins := { State.reset.pins with strapJtag := true } } : State).pins.strapJtag = true ∧
    State.reset.power.supply = .on ∧ State.reset.pins.strapJtag = false := by
  decide +kernel

theorem test_witness_SafeStopLineDrops : ∀ b : Bool,
    let s : State := { State.reset with plumb := { State.reset.plumb with lineA := true, lineB := true } }
    let s := s.setFld F.PB_STATUS_MODE 0 2
    canonicalCheck s = true ∧ (if b then s.plumb.lineB else s.plumb.lineA) = true ∧ s.fld F.PB_STATUS_MODE < 3 ∧
    (if b then State.reset.plumb.lineB else State.reset.plumb.lineA) = false := by
  decide +kernel

/-! ## Witnesses: the general statements -/

theorem test_witness_EmptyQueueIdles : State.reset.pending = [] := rfl

theorem test_witness_RegisterWriteFollowsAccessCodes : State.reset.canonical := canonical_of_check (by decide +kernel)

theorem test_witness_StepKeepsCanonical : ({ State.reset with pending := [.fillGo 5] } : State).canonical ∧
    ∃ t, step { State.reset with pending := [.fillGo 5] } = .next t :=
  ⟨canonical_of_check (by decide +kernel), _, rfl⟩

theorem test_step_takes_the_front : ∀ t, step { State.reset with pending := [.nresetAssert, .fillGo 5] } = .next t → t.pending = [.fillGo 5] := by
  intro t h
  cases h
  rfl

theorem test_no_word_spells_a_command : decodeTableWord 32 0x0000_0001 = none ∧ State.reset.withFetchWord 32 1 = State.reset := ⟨rfl, rfl⟩

/-! ## Ill-formed commands are refused -/

theorem test_illformed_run_lengths : ∀ n ∈ [0, 16777215],
    (Instr.normal .fill 0 n).wellFormed = false ∧ (Instr.planClose 0 n).wellFormed = false ∧
    (Instr.markerWait .frame 0 n).wellFormed = false ∧ (Instr.macSs 3 0 n).wellFormed = false ∧
    (Instr.fadd 2 0 n).wellFormed = false ∧ (Instr.normal .fill 0 (n + 1 - 2 * (n / 16777215))).wellFormed = true := by
  decide

theorem test_illformed_csi_data : ∀ n : Nat, csiFits (.long 0 0 (List.replicate n 0) true) = decide (n < 65536) := by
  intro n
  simp [csiFits]

theorem test_illformed_ethernet : ∀ (k : Fin 4) (n : Nat), (Instr.ethFrameRx k (List.replicate n 0) true 0 0 0).wellFormed = decide (n ≤ 9216) := by
  intro k n
  simp [Instr.wellFormed]

theorem test_illformed_can :
    canFits { id := 2048, ext := false, fd := false, remote := false, error := false, data := [] } = false ∧
    canFits { id := 2048, ext := true, fd := false, remote := false, error := false, data := [] } = true ∧
    canFits { id := 0, ext := false, fd := true, remote := false, error := false, data := List.replicate 9 0 } = false ∧
    canFits { id := 0, ext := false, fd := true, remote := false, error := false, data := List.replicate 12 0 } = true ∧
    canFits { id := 0, ext := false, fd := false, remote := false, error := false, data := List.replicate 9 0 } = false := by
  decide

theorem test_illformed_tdm : (Instr.tdmFrameRx 0 [] 0 0).wellFormed = false ∧
    (Instr.tdmFrameRx 0 (List.replicate 17 0) 0 0).wellFormed = false ∧ (Instr.tdmFrameRx 0 [1] 0 0).wellFormed = true := by
  decide

theorem test_illformed_lists : (Instr.s4 0 0 [none, none]).wellFormed = false ∧ (Instr.s4 0 0 [none, none, none]).wellFormed = true := by
  decide

/-! ## Known answers -/

/-- The check value of CRC-32C over "123456789", and the SHAKE256 of the empty message (FIPS 202). -/
theorem test_crc32c_check_value : crc32c [0x31, 0x32, 0x33, 0x34, 0x35, 0x36, 0x37, 0x38, 0x39] = 0xE3069283 := by decide +kernel

theorem test_shake256_empty : digest [] = leNat (leBytes 32 0x46b9dd2b0ba88d13233b3feb743eeb243fcd52ea62b81b82b50c27646ed5762f).reverse := by
  decide +kernel

/-- The worked example of 00: INVALIDATED stands first of INVALIDATED, HOLD_OUTPUT and UNSYNCED. -/
theorem test_example_outcome_order : worse (worse 0 0x000B) 0x000A = 0x000A ∧ worse 0x000A 0x0012 = 0x000A := by decide

/-- The worked example of 04: from stored indices to binary32. -/
theorem test_example_lut_expand : (vecResult 0x68 0 4 0xF8C3 0x0706050403020100FFFEFDFCFBFAF9F8 0 0 []).1 = [0xFB, 0x04, 0x00, 0x07] := by
  decide +kernel

theorem test_example_bf_exponent :
    bfExpByte 8 ((((List.map (fun a => a) [0x3F400000, 0xBFC00000, 0x40100000, 0x40400000]).foldl
      (fun (s : State) a => s.bfStep 0 0 1 a false) State.reset)).vec 0) 0 = (0xFB, 0) := by
  decide +kernel

theorem test_example_bf_pack : [0x3F400000, 0xBFC00000, 0x40100000, 0x40400000].map (fun a => bfPack 8 0 a 0xFB) =
    [(24, 0), (0xD0, 0), (72, 0), (96, 0)] := by
  decide +kernel

theorem test_example_tile_scale :
    tileScale 360 0 (0xFB + 0xFA * 2 ^ 1024 + 0x3FA3D70A * 2 ^ 2048) = (0x3E666666, flINEXACT) ∧
    histBin (fp32.decode 0x3E666666) = 29 := by
  decide +kernel

/-- The worked example of 14: one sample of the knee loop, without limits that bind. -/
theorem test_example_guyline_sample :
    let s32 (x : Int) : List Byte := leBytes 4 (ofSigned 32 x)
    let e (x : Int) : List Byte := leBytes 1 (ofSigned 8 x)
    let pad (bs : List Byte) : List Byte := bs ++ List.replicate (64 - bs.length) 0
    let head := pad (leBytes 4 (B.BANK_NS.put 1 + B.BANK_NU.put 2 + B.BANK_NY.put 1) ++ e (-22) ++ e (-22) ++ e (-22) ++ e (-20) ++
      e (-16) ++ e (-12) ++ e (-12))
    let coefs := pad (s32 4194304 ++ s32 629146 ++ s32 (-629146) ++ s32 4194304 ++ s32 2411725 ++ s32 (-2411725))
    let out := pad (s32 (-8388608) ++ s32 8388607)
    glLaw (head ++ List.replicate 64 0 ++ coefs ++ List.replicate 64 0 ++ out) [13107200] [196608, 184512] = ([52939], [13136230], 0) := by
  decide +kernel

/-- The rules of the worked example of 16, and a record of channel 5 with a payload under judgement. -/
def exampleRules (payload : Nat) : State :=
  let code : List (BitVec 64) := [0x0000000800000042, 0x0000000000001057, 0x0000000000000082, 0x0000003F000000C1, 0x00000000000C2089,
    0x0000000000001110, 0x0000064100004152, 0x0000000100005019, 0x000000010000001A, 0x0000000000002184, 0x00000000001811C8,
    0x00000000000071D0, 0x0000000000002045, 0x0000014100007212, 0x0000000100008019, 0x000000020000001A, 0x000000000000001A, 0]
  { State.reset with plumb := { State.reset.plumb with
    rules := some ⟨code, [], [], []⟩, data := [(5, 827)],
    threads := [(0, { Thread.reset with entry := some 0, record := some (5 + payload * 2 ^ 256) })] } }

theorem test_example_rules : ∀ q ∈ [(812, 0), (1204, 5), (1601, 5)],
    let s := (List.range 18).foldl (fun (s : State) _ => s.issueRule 0) (exampleRules q.1)
    (s.thread 0).entry = none ∧ (s.thread 0).verdict = q.2 ∧ s.dataWord 5 = q.1 := by
  decide +kernel

theorem test_example_rule_blocks :
    let s := (List.range 9).foldl (fun (s : State) _ => s.issueRule 0) (exampleRules 1601)
    (s.thread 0).verdict = 1 := by
  decide +kernel

end Sys2Proof.Tests
end

section
/-! SUPPORT. The step on an empty queue, the state after reset, and the access codes of registers (R6, R7, R10, R11, R491). -/

namespace Sys2Proof.Machine

/-! ## What stays while the module idles -/

/-- What no upset reaches: the waiting commands, the clocks and memory. -/
def State.idlePart (s : State) : List Instr × Clocks × List Host.Cell := (s.pending, s.clk, s.mem)

theorem State.idlePart_eq_iff {s t : State} :
    t.idlePart = s.idlePart ↔ t.pending = s.pending ∧ t.clk = s.clk ∧ t.mem = s.mem := by
  simp [State.idlePart]

@[simp] theorem State.idlePart_setReg (s : State) (r : RegArr) (i : Nat) (v : BitVec 64) :
    (s.setReg r i v).idlePart = s.idlePart := rfl
@[simp] theorem State.idlePart_setFld (s : State) (f : RegField) (i x : Nat) : (s.setFld f i x).idlePart = s.idlePart := rfl
@[simp] theorem State.idlePart_setSite (s : State) (i : Nat) (f : FaultSite) : (s.setSite i f).idlePart = s.idlePart := rfl

@[simp] theorem State.idlePart_recordAt (s : State) (acyc kind source : Nat) (bs : List Byte) (domain : Nat) :
    (s.recordAt acyc kind source bs domain).idlePart = s.idlePart := by
  unfold State.recordAt
  cases s.book.replay <;> dsimp only <;> (repeat' split) <;> rfl

@[simp] theorem State.idlePart_record (s : State) (kind source : Nat) (bs : List Byte) (domain : Nat) :
    (s.record kind source bs domain).idlePart = s.idlePart := State.idlePart_recordAt ..

@[simp] theorem State.idlePart_raise (s : State) (code detail : Nat) : (s.raise code detail).idlePart = s.idlePart :=
  State.idlePart_record ..

@[simp] theorem State.idlePart_attn (s : State) (f : RegField) : (s.attn f).idlePart = s.idlePart := by
  unfold State.attn State.updateAttn
  dsimp only
  (repeat' split) <;> rfl

@[simp] theorem State.idlePart_declareLasting (s : State) (i : Nat) : (s.declareLasting i).idlePart = s.idlePart := by
  have h : ((s.setSite i { s.site i with lasting := true }).attn F.TH_ATTN_FAULT).idlePart = s.idlePart := by simp
  unfold State.declareLasting
  dsimp only
  split
  · exact (State.idlePart_raise ..).trans h
  · split <;> exact h

@[simp] theorem State.idlePart_faultAt (s : State) (i : Nat) : (s.faultAt i).idlePart = s.idlePart := by
  unfold State.faultAt
  dsimp only
  (repeat' split) <;> simp

/-- A rise in mode writes Plumb's registers and asks units for their stop: requests and registers only. -/
@[simp] theorem State.idlePart_enterMode (s : State) (m : Nat) : (s.enterMode m).idlePart = s.idlePart := by
  unfold State.enterMode
  split
  · rfl
  · extract_lets was raised ridge asked stopped
    have hraised : raised.idlePart = s.idlePart := State.idlePart_attn ..
    have hasked : asked.idlePart = raised.idlePart := rfl
    have hstopped : stopped.idlePart = asked.idlePart := by
      unfold stopped
      split <;> rfl
    have h := (hstopped.trans hasked).trans hraised
    (repeat' split) <;> exact h

@[simp] theorem State.idlePart_latchClass (s : State) (k m : Nat) : (s.latchClass k m).idlePart = s.idlePart := by
  unfold State.latchClass
  extract_lets causes first latched p asked
  have hfirst : first.idlePart = s.idlePart := by
    unfold first
    split <;> rfl
  exact (State.idlePart_enterMode asked m).trans hfirst

@[simp] theorem State.idlePart_engFlag (s : State) (n part slot bit : Nat) (event : Bool) :
    (s.engFlag n part slot bit event).idlePart = s.idlePart := by
  unfold State.engFlag
  dsimp only
  split <;> simp

@[simp] theorem State.idlePart_markWord (s : State) (a : Nat) : (s.markWord a).idlePart = s.idlePart := by
  unfold State.markWord
  extract_lets m
  split <;> rfl

@[simp] theorem State.idlePart_markRange (s : State) (a n : Nat) (p : Bool) : (s.markRange a n p).idlePart = s.idlePart := by
  simp only [State.idlePart, State.markRange_pending, State.markRange_clk, State.markRange_mem]

@[simp] theorem State.idlePart_setPoisonAt (s : State) (a : Nat) (p : Bool) : (s.setPoisonAt a p).idlePart = s.idlePart := by
  simp only [State.idlePart, State.setPoisonAt_pending, State.setPoisonAt_clk, State.setPoisonAt_mem]

@[simp] theorem State.idlePart_uncorrectable (s : State) (u : Upset) : (s.uncorrectable u).idlePart = s.idlePart := by
  cases u with
  | operand n r => exact s.idlePart_markRange ..
  | core _ a | window a | datum a => exact s.idlePart_setPoisonAt a true
  | scratch a | stadia a => exact s.idlePart_markWord a
  | bank k b =>
    simp only [State.uncorrectable]
    split <;> rfl
  | plumb => exact s.idlePart_latchClass 4 3
  | component | track | law | sequence => rfl

@[simp] theorem State.idlePart_corrected (s : State) (u : Upset) : (s.corrected u).idlePart = s.idlePart := by
  cases u with
  | operand n r => exact s.idlePart_engFlag ..
  | core | window | scratch | datum | component | track | stadia | law | bank | sequence | plumb => rfl

@[simp] theorem State.idlePart_upsetAt (s : State) (u : Upset) (hard : Bool) : (s.upsetAt u hard).idlePart = s.idlePart := by
  have h : (if hard then s.uncorrectable u else s.corrected u).idlePart = s.idlePart := by
    cases hard
    · exact s.idlePart_corrected u
    · exact s.idlePart_uncorrectable u
  unfold State.upsetAt
  dsimp only
  split
  · exact (State.idlePart_faultAt ..).trans h
  · exact h

@[simp] theorem State.idlePart_upset (s : State) : s.upset.idlePart = s.idlePart := by
  unfold State.upset
  dsimp only
  split
  · rfl
  · split
    · exact State.idlePart_upsetAt ..
    · rfl

theorem State.upset_of_dark {s : State} (h : s.dark = true) : s.upset = s := if_pos h

theorem step_of_nil {s : State} (h : s.pending = []) : step s = .next s.upset := by
  unfold step
  rw [h]

/-- Settles O2: an upset changes poison marks, unit marks, registers and fault sites, which State.idlePart leaves out. -/
theorem emptyQueueIdles : Obligations.EmptyQueueIdles := by
  intro s hs
  obtain ⟨hpending, hclk, hmem⟩ := State.idlePart_eq_iff.mp s.idlePart_upset
  refine ⟨step_of_nil hs, hpending.trans hs, hclk, hmem, fun hdark => ?_⟩
  rw [step_of_nil hs, State.upset_of_dark hdark]

/-! ## After reset -/

/-- Settles O4: after reset every table of the module is empty. -/
theorem resetIsCanonical : Obligations.ResetIsCanonical where
  mem := Memory.wf_reset
  poison := spWf_nil _
  words := spWf_nil _
  regs := spWf_nil _
  engines := spWf_nil _
  vecs := spWf_nil _
  ddr := spWf_nil _
  seq := spWf_nil _
  tether := spWf_nil _
  sites := spWf_nil _
  queues := spWf_nil _
  lots := spWf_nil _

/-- Settles O7: the register file lists differences from the reset values, and after reset it lists none. -/
theorem registersResetAsTablesSay : Obligations.RegistersResetAsTablesSay :=
  ⟨fun r _ i => State.reg_reset r i, ⟨rfl, rfl⟩, rfl, rfl, rfl, rfl, rfl, rfl, rfl⟩

/-! ## Register access -/

/-- R6: a write gives an RW bit the value's bit, clears a W1C bit written 1, and leaves any other. -/
theorem RegArr.getLsbD_written (r : RegArr) (old v : BitVec 64) {k : Nat} (hk : k < 64) :
    (r.written old v).getLsbD k =
      if r.rw.getLsbD k then v.getLsbD k else if r.w1c.getLsbD k && v.getLsbD k then false else old.getLsbD k := by
  simp only [RegArr.written, BitVec.getLsbD_or, BitVec.getLsbD_and, BitVec.getLsbD_not, hk, decide_true, Bool.true_and]
  cases r.rw.getLsbD k <;> cases r.w1c.getLsbD k <;> cases v.getLsbD k <;> simp

theorem State.reg_readReg_same {s : State} (h : s.regsWf) (r : RegArr) (i : Nat) :
    (s.readReg r i).2.reg r i = s.reg r i &&& ~~~r.rc := by
  unfold State.readReg
  dsimp only
  split
  · next hrc => rw [hrc]; exact BitVec.and_allOnes.symm
  · exact State.reg_setReg_same h ..

theorem State.reg_readReg_ne {s : State} (h : s.regsWf) {r r' : RegArr} {i j : Nat} (hk : r.key i ≠ r'.key j) :
    (s.readReg r i).2.reg r' j = s.reg r' j := by
  unfold State.readReg
  dsimp only
  split
  · rfl
  · exact State.reg_setReg_ne h _ hk

/-- Settles O8: a write and a read of a register replace its own key of the register file, by words whose bits follow
the access codes. -/
theorem registerWriteFollowsAccessCodes : Obligations.RegisterWriteFollowsAccessCodes := by
  intro s r i v hs
  have hregs : s.regsWf := hs.regs
  refine ⟨fun k hk => ?_, fun r' j hne => ?_, rfl, fun k hk => ?_, fun k hk => ?_, fun r' j hne => ?_⟩
  · rw [State.writeReg, State.reg_setReg_same hregs, RegArr.getLsbD_written r _ _ hk]
  · exact State.reg_setReg_ne hregs _ hne.symm
  · simp [State.readReg, hk]
  · simp [State.reg_readReg_same hregs, hk]
  · exact State.reg_readReg_ne hregs hne.symm

end Sys2Proof.Machine
end

section
/-! SUPPORT. The tests of Table BC-3 and the order of rejections (R15, R403, R487). -/

namespace Sys2Proof.Machine

/-! ## The tests of Table BC-3 -/

/-- The context that a descriptor names stands: on a context ring it has been opened and owns the ring, and a management command
that names one finds it so. -/
def State.descContextStands (s : State) (r : Nat) (d : Desc) : Prop :=
  if r < 2 then ¬(2 ≤ B.DESC_OPCODE.get d.toNat ∧ B.DESC_OPCODE.get d.toNat ≤ 4) ∨ s.ctxPart (B.DESC_CONTEXT.get d.toNat) ≠ none
  else s.ctxPart (B.DESC_CONTEXT.get d.toNat) ≠ none ∧ (s.ring r).ctx = B.DESC_CONTEXT.get d.toNat

/-- The PART of a descriptor is the context's, or on a management ring one that the channel has the right of. -/
def State.descPartStands (s : State) (r : Nat) (d : Desc) : Prop :=
  if r < 2 then hasBit (s.fld F.BC_RIGHTS_CHANNELS (B.DESC_PART.get d.toNat)) (s.ring r).chan = true
  else s.ctxPart (B.DESC_CONTEXT.get d.toNat) = some (B.DESC_PART.get d.toNat)

/-- PART has a row's right: the row's mask holds it, and it owns the context that a management command names. -/
abbrev State.descHasRight (s : State) (r : Nat) (d : Desc) (row : OpRow) : Prop :=
  hasBit row.right (B.DESC_PART.get d.toNat) = true ∧
    (r < 2 → 2 ≤ B.DESC_OPCODE.get d.toNat ∧ B.DESC_OPCODE.get d.toNat ≤ 4 →
      s.ctxPart (B.DESC_CONTEXT.get d.toNat) = some (B.DESC_PART.get d.toNat))

/-- The tests of Table BC-3 that take the opcode's row: its right, its kind of ring and its lengths. -/
def State.rowCheck (s : State) (r : Nat) (d : Desc) (row : OpRow) : Option (Nat × Nat) :=
  if ¬s.descHasRight r d row then some (4, 3)
  else if ¬(r < 2 ↔ B.DESC_OPCODE.get d.toNat < 0x100) then some (1, 0xFFFE)
  else if ¬(row.lo ≤ descWord d 3 ∧ descWord d 3 ≤ row.hi ∧ descWord d 3 % row.step = 0) then some (1, 0)
  else none

theorem namesContext_iff (op : Nat) : namesContext op = true ↔ 2 ≤ op ∧ op ≤ 4 := by simp [namesContext]

section
variable {s : State} {r : Nat} {d : Desc}

theorem State.descContextStands_management (hm : r < 2) : s.descContextStands r d ↔
    ¬(namesContext (B.DESC_OPCODE.get d.toNat) = true ∧ s.ctxPart (B.DESC_CONTEXT.get d.toNat) = none) := by
  rw [State.descContextStands, if_pos hm, ← namesContext_iff, not_and_or]

theorem State.descContextStands_context (hm : ¬r < 2) : s.descContextStands r d ↔
    s.ctxPart (B.DESC_CONTEXT.get d.toNat) ≠ none ∧ (s.ring r).ctx = B.DESC_CONTEXT.get d.toNat := by
  rw [State.descContextStands, if_neg hm]

theorem State.descCheck_of_badCrc (h : crc32c (leBytes 60 d.toNat) ≠ B.DESC_CRC.get d.toNat) : s.descCheck r d = some (6, 0) :=
  if_pos h

variable (hcrc : crc32c (leBytes 60 d.toNat) = B.DESC_CRC.get d.toNat)
include hcrc

theorem State.descCheck_of_otherRing (h : B.DESC_RING.get d.toNat ≠ r) : s.descCheck r d = some (3, 0) := by
  simp [State.descCheck, hcrc, h]

variable (hring : B.DESC_RING.get d.toNat = r)
include hring

theorem State.descCheck_of_noContext (h : ¬s.descContextStands r d) : s.descCheck r d = some (2, 0) := by
  by_cases hm : r < 2
  · rw [State.descContextStands_management hm, not_not] at h
    simp [State.descCheck, hcrc, hring, hm, h]
  · rw [State.descContextStands_context hm, not_and_or, not_not] at h
    simp [State.descCheck, hcrc, hring, hm, h]

variable (hctx : s.descContextStands r d)
include hctx

theorem State.descCheck_of_otherPart (h : ¬s.descPartStands r d) : s.descCheck r d = some (4, 0) := by
  by_cases hm : r < 2
  · rw [State.descContextStands_management hm] at hctx
    rw [State.descPartStands, if_pos hm] at h
    simp [State.descCheck, hcrc, hring, hm, h, hctx]
  · rw [State.descContextStands_context hm] at hctx
    rw [State.descPartStands, if_neg hm] at h
    simp [State.descCheck, hcrc, hring, hm, h, hctx]

variable (hpart : s.descPartStands r d)
include hpart

theorem State.descCheck_of_addressed : s.descCheck r d =
    (opRow (B.DESC_OPCODE.get d.toNat)).elim (some (1, 0xFFFE)) (s.rowCheck r d) := by
  unfold State.rowCheck
  by_cases hm : r < 2
  · rw [State.descContextStands_management hm] at hctx
    rw [State.descPartStands, if_pos hm] at hpart
    cases h : opRow (B.DESC_OPCODE.get d.toNat) <;>
      simp [State.descCheck, ← namesContext_iff, imp_iff_not_or, hcrc, hring, hm, h, hctx, hpart]
  · rw [State.descContextStands_context hm] at hctx
    rw [State.descPartStands, if_neg hm] at hpart
    cases h : opRow (B.DESC_OPCODE.get d.toNat) <;>
      simp [State.descCheck, imp_iff_not_or, hcrc, hring, hm, h, hctx, hpart]

end

/-! ## The verdict on a descriptor -/

/-- R487: in replay a host's descriptor of this opcode is barred. -/
def State.replayBars (s : State) (host : Bool) (op : Nat) : Prop :=
  host = true ∧ s.flag F.FB_STATUS_REPLAYING = true ∧ op ∉ [0x0010, 0x0C01, 0x0C04, 0x0D02]

theorem State.replayBars_iff (s : State) (host : Bool) (op : Nat) :
    s.replayBars host op ↔ (host && s.flag F.FB_STATUS_REPLAYING && !(replayAllows op)) = true := by
  simp [State.replayBars, replayAllows, and_assoc]

/-- The rejection that a descriptor meets before its own command's: that of its first failing test, or replay's. -/
def State.tableReject (s : State) (r : Nat) (d : Desc) (host : Bool) (f : Reply) : Prop :=
  (∃ st det, s.descCheck r d = some (st, det) ∧ f = ⟨st, det, 0, none⟩ ∧ ¬s.replayBars host (B.DESC_OPCODE.get d.toNat)) ∨
    (s.descCheck r d = none ∧ s.replayBars host (B.DESC_OPCODE.get d.toNat) ∧ f = denied 5)

theorem State.rowCheck_placed {s : State} {r : Nat} {d : Desc} {row : OpRow} {x : Nat × Nat} (h : s.rowCheck r d row = some x) :
    ∃ y, rejectRank x.1 = some y := by
  unfold State.rowCheck at h
  split_ifs at h <;> cases h <;> exact ⟨_, rfl⟩

/-- Every test of Table BC-3 fails with a status that has a place in R15's order. -/
theorem State.descCheck_placed {s : State} {r : Nat} {d : Desc} {x : Nat × Nat} (h : s.descCheck r d = some x) :
    ∃ y, rejectRank x.1 = some y := by
  by_cases hcrc : crc32c (leBytes 60 d.toNat) = B.DESC_CRC.get d.toNat
  case neg => cases (State.descCheck_of_badCrc hcrc).symm.trans h; exact ⟨_, rfl⟩
  by_cases hring : B.DESC_RING.get d.toNat = r
  case neg => cases (State.descCheck_of_otherRing hcrc hring).symm.trans h; exact ⟨_, rfl⟩
  by_cases hctx : s.descContextStands r d
  case neg => cases (State.descCheck_of_noContext hcrc hring hctx).symm.trans h; exact ⟨_, rfl⟩
  by_cases hpart : s.descPartStands r d
  case neg => cases (State.descCheck_of_otherPart hcrc hring hctx hpart).symm.trans h; exact ⟨_, rfl⟩
  rw [State.descCheck_of_addressed hcrc hring hctx hpart] at h
  cases hrow : opRow (B.DESC_OPCODE.get d.toNat) with
  | none => rw [hrow] at h; cases h; exact ⟨_, rfl⟩
  | some row => rw [hrow] at h; exact State.rowCheck_placed h

section
variable {s : State} {r : Nat} {d : Desc} {host : Bool} {f : Reply}

theorem State.tableReject_placed (hf : s.tableReject r d host f) : ∃ y, rejectRank f.status = some y := by
  rcases hf with ⟨st, det, hcheck, rfl, -⟩ | ⟨-, -, rfl⟩
  · exact State.descCheck_placed hcheck
  · exact ⟨_, rfl⟩

variable (body : State → Cmd → State × Option Reply)

theorem State.descVerdict_none (hcheck : s.descCheck r d = none) (h : ¬s.replayBars host (B.DESC_OPCODE.get d.toNat)) :
    s.descVerdict r d host body = none := by
  rw [State.replayBars_iff] at h
  simp only [State.descVerdict, hcheck, if_neg h]
  rfl

theorem State.descVerdict_of_tableReject (hf : s.tableReject r d host f) : s.descVerdict r d host body =
    firstReject (f :: (body s ⟨r, d, B.DESC_PART.get d.toNat, B.DESC_CONTEXT.get d.toNat⟩).2.toList) := by
  rcases hf with ⟨st, det, hcheck, rfl, h⟩ | ⟨hcheck, h, rfl⟩
  · rw [State.replayBars_iff] at h
    simp only [State.descVerdict, hcheck, if_neg h]
    rfl
  · rw [State.replayBars_iff] at h
    simp only [State.descVerdict, hcheck, if_pos h]
    rfl

end

theorem firstReject_alone {f : Reply} {y : Nat} (hf : rejectRank f.status = some y) : firstReject [f] = some f := by
  simp [firstReject, hf]

theorem firstReject_earlier {f q : Reply} {x y : Nat} (hf : rejectRank f.status = some y) (hq : rejectRank q.status = some x)
    (h : x < y) : firstReject [f, q] = some q := by
  simp [firstReject, hf, hq, h]

theorem firstReject_not_earlier {f q : Reply} {y : Nat} (hf : rejectRank f.status = some y)
    (h : ∀ x, rejectRank q.status = some x → y ≤ x) : firstReject [f, q] = some f := by
  cases hq : rejectRank q.status with
  | none => simp [firstReject, hf, hq]
  | some x => simp [firstReject, hf, hq, h x hq]

/-- Settles O48: the tests stand in the chain of State.descCheck, and R15's order is a fold over at most two rejections. -/
theorem descriptorsFailTheirFirstTest : Obligations.DescriptorsFailTheirFirstTest := by
  intro s r d g ctx part op len mgmt names crc ring stands mine
  refine ⟨State.descCheck_of_badCrc, State.descCheck_of_otherRing, State.descCheck_of_noContext,
    State.descCheck_of_otherPart, fun hcrc hring hctx hpart => ?_, fun host body => ?_⟩
  · have hcheck := State.descCheck_of_addressed hcrc hring hctx hpart
    refine ⟨fun hrow => by rw [hcheck, hrow]; rfl, fun row hrow => ?_⟩
    rw [hcheck, hrow, Option.elim_some, State.rowCheck]
    refine ⟨fun h => if_pos h, fun hright hown => ?_⟩
    rw [if_neg (not_not.mpr ⟨hright, hown⟩)]
    refine ⟨fun h => if_pos h, fun hkind h => ?_, fun hkind hlo hhi hstep => ?_⟩
    · rw [if_neg (not_not.mpr hkind), if_pos h]
    · rw [if_neg (not_not.mpr hkind), if_neg (not_not.mpr ⟨hlo, hhi, hstep⟩)]
  · intro place barred own
    refine ⟨State.descVerdict_none body, fun f (hf : s.tableReject r d host f) => ?_⟩
    obtain ⟨y, hy⟩ := State.tableReject_placed hf
    rw [State.descVerdict_of_tableReject body hf]
    change (∀ q x y, own = some q → rejectRank q.status = some x → rejectRank f.status = some y → x < y →
        firstReject (f :: own.toList) = some q) ∧
      ((∀ q x y, own = some q → rejectRank q.status = some x → rejectRank f.status = some y → y ≤ x) →
        firstReject (f :: own.toList) = some f)
    refine ⟨fun q x y' hq hx hy' hlt => ?_, fun h => ?_⟩
    · rw [hq]
      exact firstReject_earlier hy' hx hlt
    · cases hq : own with
      | none => exact firstReject_alone hy
      | some q => exact firstReject_not_earlier hy fun x hx => h q x y hq hx hy

end Sys2Proof.Machine
end

section
/-! SUPPORT. What a command row of a ring does with its descriptor (R401, R405). -/

namespace Sys2Proof.Machine

/-! ## Commands of the rings -/

/-- R401, R405: ring `r` may start descriptor `d`: it exists, is not being closed nor stalled, and no earlier command holds `d` back. -/
def State.mayStart (s : State) (r : Nat) (d : Desc) : Prop :=
  (s.ring r).valid = true ∧ (s.ring r).stopped = false ∧ spGet false s.rings.stalled (s.ring r).chan = false ∧ s.fenced r d = false

/-- The state in which Basecamp has recorded a descriptor that it took. -/
def State.recorded (s : State) (r : Nat) (d : Desc) : State := s.record 0x06 r (leBytes 64 d.toNat ++ words [r]) 7

/-- One more command of ring `r` is outstanding. -/
def State.countStarted (s : State) (r : Nat) : State := s.setRing r { s.ring r with flying := (s.ring r).flying + 1 }

section
variable {s : State} {r : Nat} {d : Desc} {body : State → Cmd → State × Option Reply}

theorem State.runDesc_of_not_mayStart (h : ¬s.mayStart r d) : s.runDesc r d body = s := by
  have hbar : (!(s.ring r).valid || (s.ring r).stopped || spGet false s.rings.stalled (s.ring r).chan || s.fenced r d) = true := by
    by_contra hc
    simp only [Bool.not_eq_true, Bool.or_eq_false_iff, Bool.not_eq_false', and_assoc] at hc
    exact h hc
  exact if_pos hbar

theorem State.runDesc_of_mayStart (h : s.mayStart r d) : s.runDesc r d body =
    (s.takeSlot r).elim (s.badDoorbell r) fun v => (v.recorded r d).startDesc r d true body := by
  obtain ⟨hvalid, hstopped, hstalled, hfenced⟩ := h
  simp only [State.runDesc, hvalid, hstopped, hstalled, hfenced]
  cases s.takeSlot r <;> rfl

theorem State.startDesc_of_verdict {host : Bool} {p : Reply} (h : s.descVerdict r d host body = some p) : s.startDesc r d host body =
    (if (s.descCheck r d).isSome then s.bump F.BC_COUNTS_REJECTED else s).post r d ⟨p.status, p.detail, 0, none⟩ := by
  simp only [State.startDesc, h]

theorem State.startDesc_of_answer {host : Bool} {x : State} {p : Reply} (h : s.descVerdict r d host body = none)
    (hbody : body (s.countStarted r) ⟨r, d, B.DESC_PART.get d.toNat, B.DESC_CONTEXT.get d.toNat⟩ = (x, some p)) :
    s.startDesc r d host body = x.finish r d p := by
  rw [State.countStarted] at hbody
  simp only [State.startDesc, h, hbody]

theorem State.startDesc_of_wait {host : Bool} {x : State} (h : s.descVerdict r d host body = none)
    (hbody : body (s.countStarted r) ⟨r, d, B.DESC_PART.get d.toNat, B.DESC_CONTEXT.get d.toNat⟩ = (x, none)) :
    s.startDesc r d host body = x := by
  rw [State.countStarted] at hbody
  simp only [State.startDesc, h, hbody]

end

/-- TH_MAP is opcode 0x0101 with flag bit 16 clear. -/
theorem exec_thMap (r : BitVec 14) (d : Desc) (s : State) : exec (.thMap r d) s =
    .next (if (!hasBit (descWord d 0) 16) = true then s.command r d 0x0101 thMapEither else s) := by
  cases h : hasBit (descWord d 0) 16 <;> simp [exec, execThMap, h]

/-- TH_UNMAP is opcode 0x0101 with flag bit 16 set. -/
theorem exec_thUnmap (r : BitVec 14) (d : Desc) (s : State) : exec (.thUnmap r d) s =
    .next (if hasBit (descWord d 0) 16 = true then s.command r d 0x0101 thMapEither else s) := rfl

/-- Settles O47: each row of the list is State.command of its opcode and body, in TH_MAP and TH_UNMAP for their own form of the
descriptor only; what that does turns on the ring, on the verdict and on the body's answer. -/
theorem ringCommandsRunTheirBodies : Obligations.RingCommandsRunTheirBodies := by
  intro s r d bad meas q hq g c may
  have hexec : exec q.1 s = .next (if q.2.2.1 = true then s.command r d q.2.1 q.2.2.2 else s) := by
    revert q
    simp only [List.forall_mem_cons, List.not_mem_nil, false_imp_iff, implies_true, and_true]
    refine ⟨rfl, rfl, rfl, rfl, rfl, rfl, rfl, exec_thMap r d s, exec_thUnmap r d s, ?_⟩
    and_intros <;> rfl
  have hruns : ∀ t, B.DESC_OPCODE.get d.toNat = q.2.1 → q.2.2.1 = true → s.runDesc r.toNat d q.2.2.2 = t → exec q.1 s = .next t := by
    rintro t hop hform rfl
    rw [hexec, if_pos hform, State.command, if_pos hop]
  have hother : ¬(B.DESC_OPCODE.get d.toNat = q.2.1 ∧ q.2.2.1 = true) → exec q.1 s = .next s := by
    intro h
    rw [hexec, State.command, ← ite_and, if_neg fun h' => h h'.symm]
  refine ⟨hother, fun hmay => ?_, fun hop hform hmay => ⟨fun htake => ?_, ?_⟩⟩
  · by_cases h : B.DESC_OPCODE.get d.toNat = q.2.1 ∧ q.2.2.1 = true
    · exact hruns s h.1 h.2 (State.runDesc_of_not_mayStart hmay)
    · exact hother h
  · refine hruns _ hop hform ?_
    rw [State.runDesc_of_mayStart hmay, htake, Option.elim_none]
  · rintro v u htake rfl
    have hstart := State.runDesc_of_mayStart (body := q.2.2.2) hmay
    rw [htake, Option.elim_some] at hstart
    refine ⟨fun p hp => hruns _ hop hform (hstart.trans (State.startDesc_of_verdict hp)), ?_⟩
    rintro hnone w rfl
    exact ⟨fun x p hx => hruns _ hop hform (hstart.trans (State.startDesc_of_answer hnone hx)),
      fun x hx => hruns _ hop hform (hstart.trans (State.startDesc_of_wait hnone hx))⟩

end Sys2Proof.Machine
end

section
/-! SUPPORT. Every command answers a next state (R7, R405, and the model's choice of entry 31). -/

namespace Sys2Proof.Machine

/-! ## Every command answers -/

/-- The outcome is a next state: no fault and no refusal. -/
def Answers (o : Host.Outcome State Fault Refusal) : Prop := ∃ t, o = .next t

theorem Answers.next {t : State} : Answers (.next t) := ⟨t, rfl⟩

theorem Answers.ite {c : Prop} [Decidable c] {a b : Host.Outcome State Fault Refusal} (ha : Answers a) (hb : Answers b) :
    Answers (if c then a else b) := by
  split
  · exact ha
  · exact hb

/-- Settles O3: every branch of every command's meaning ends in a next state. Most meanings test the supply and then answer at
once; the cases before the last are those that answer without that test, those with one test more, and those that go on to
match on what a queue, a timer or an operand holds. -/
theorem everyCommandAnswersAState : Obligations.EveryCommandAnswersAState := by
  intro i s
  change Answers (exec i s)
  cases i
  case mtFetch | mtFlush | mtPin | mtUnpin | mtDrop | seqJoin | seqAppend | seqReset | seqLeave | seqQuery | dtRelease |
    tvRegister | tvParam | glLoad | stModel | pbLoad | pbClear | pbRelease | thMap | thUnmap | thStage | thStreamOpen |
    thStreamClose | nop | ctxOpen | ctxClose | ringCreate | ringDestroy | regRead | regWrite | powerOn | planLoad | planLoadFill |
    buRestart | buResume | buRetrain | pwSetCap | pwRestore | pwSaveClear | idAttest | idCert | idFlashWrite | idLog | fbReplay |
    fbStop | tlRetrain | nresetAssert | nresetRelease | regulatorFault | bypass | samplePreload | extest | idcode | highz | clamp
    | safeVrefFall | currentLimitSwitchOff | vinTurnOff =>
    exact .next
  case drainRowWrite | vecHistClear | mtLotSelWrite | scrubQuotaTick | drMarkWrite | csi2Packet | gpioEdgeCapture |
    sequencerTimerExpiry | datumLatch | datumCostStage | datumPublish | guylineFrameStart | stadiaLatch | stadiaCheckEnd |
    stadiaGate | stadiaPublish | clockMonitorWindow | eventEntryRun | goldenStoreClear | hostResetN | controlTick | testFlit =>
    exact .ite .next (.ite .next .next)
  -- Ridgepole, transfers and the DDR4 channels.
  case markerWaitExpiry | planHoldEnd | condWriteVisible | transferComplete | demandTransferComplete | slotWindowEnd |
    refreshDebtTick | scrubRead | retrainWaitExpiry =>
    simp only [exec, execMarkerWaitExpiry, execPlanHoldEnd, execCondWriteVisible, execTransferComplete, execDemandTransferComplete,
      execSlotWindowEnd, execRefreshDebtTick, execScrubRead, execRetrainWaitExpiry]
    (repeat' split) <;> exact .next
  -- The sequence units and the frames.
  case seqAssemblyVisible | walkerItemWrite | freeRunFrameStart | goldenSkipDeadline | goldenJudgement =>
    simp only [exec, execSeqAssemblyVisible, execWalkerItemWrite, execFreeRunFrameStart, execGoldenSkipDeadline, execGoldenJudgement]
    (repeat' split) <;> exact .next
  -- The sensor ports.
  case ethFrameRx | canFrameRx | tdmFrameRx | sequencerTrigger | gpioFrameTrigger | gpioPulseEnd | driveTransmit |
    driveTransmitEnd =>
    simp only [exec, execEthFrameRx, execCanFrameRx, execTdmFrameRx, execSequencerTrigger, execGpioFrameTrigger, execGpioPulseEnd,
      execDriveTransmit, execDriveTransmitEnd]
    (repeat' split) <;> exact .next
  -- Datum, Traverse and Stadia.
  case datumSnapshot | traverseLatch | traverseAssemblyEnd | traverseFactorEnd | traverseIterationEnd | misclosureTest |
    traverseOutputEnd | estRunEnd | traverseWindowEnd | stadiaUpdateApply | proposalFlip | candidateCheck | stadiaRecheck =>
    simp only [exec, execDatumSnapshot, execTraverseLatch, execTraverseAssemblyEnd, execTraverseFactorEnd, execTraverseIterationEnd,
      execMisclosureTest, execTraverseOutputEnd, execEstRunEnd, execTraverseWindowEnd, execStadiaUpdateApply, execProposalFlip,
      execCandidateCheck, execStadiaRecheck]
    (repeat' split) <;> exact .next
  -- Plumb.
  case readbackCheck | testPulse | watchdogTimeout | plumbEvent | frameEntryRun | gateRecordDequeue | gateVerdict |
    safeStopDelayExpiry | goldenCompare =>
    simp only [exec, execReadbackCheck, execTestPulse, execWatchdogTimeout, execPlumbEvent, execFrameEntryRun,
      execGateRecordDequeue, execGateVerdict, execSafeStopDelayExpiry, execGoldenCompare]
    (repeat' split) <;> exact .next
  -- The host port, power, flash and the tether ports.
  case lpddr5TrainingCommand | thStageFillComplete | throttleHoldRequest | droop | vinSag | saveComplete | flashProgramComplete |
    ackFlit | flitRelease | linkTimeoutExpiry | laneRetrain =>
    simp only [exec, execLpddr5TrainingCommand, execThStageFillComplete, execThrottleHoldRequest, execDroop, execVinSag,
      execSaveComplete, execFlashProgramComplete, execAckFlit, execFlitRelease, execLinkTimeoutExpiry, execLaneRetrain]
    (repeat' split) <;> exact .next
  all_goals exact .ite .next .next

end Sys2Proof.Machine
end

section
/-! SUPPORT. The rows of the plan: what a row's command does once its stream may issue (R28, R30, R36, R48, R52). -/

namespace Sys2Proof.Machine

/-! ## What stands when claims and holds are counted -/

@[simp] theorem State.countMoves_regs (s : State) (t : Nat) : (s.countMoves t).regs = s.regs := rfl
@[simp] theorem State.countMoves_ridge (s : State) (t : Nat) : (s.countMoves t).ridge = s.ridge := rfl

/-- The REF commands of a hold touch the channels alone. -/
theorem State.holdRef_eq (s : State) (ch t : Nat) : ∃ d, s.holdRef ch t = { s with ddr := d } := by
  unfold State.holdRef
  split
  · exact ⟨_, rfl⟩
  · extract_lets d start n
    split
    · exact ⟨_, rfl⟩
    · exact ⟨_, rfl⟩

/-- A fold of steps that touch the channels alone touches the channels alone. -/
theorem State.foldl_ddr {α : Type} (f : State → α → State) (hf : ∀ s x, ∃ d, f s x = { s with ddr := d }) (xs : List α) (s : State) :
    ∃ d, xs.foldl f s = { s with ddr := d } := by
  induction xs generalizing s with
  | nil => exact ⟨s.ddr, rfl⟩
  | cons x xs ih =>
    obtain ⟨d, hd⟩ := hf s x
    obtain ⟨d', hd'⟩ := ih (f s x)
    exact ⟨d', by rw [List.foldl_cons, hd', hd]⟩

theorem State.holdRefs_eq (s : State) (t : Nat) : ∃ d, s.holdRefs t = { s with ddr := d } :=
  State.foldl_ddr _ (fun s ch => s.holdRef_eq ch t) _ s

/-- Before claims change, only transfers and channels are brought up to date. -/
theorem State.claimsChange_eq (s : State) : ∃ x d, s.claimsChange = { s with stow := x, ddr := d } := by
  obtain ⟨d, hd⟩ := (s.countMoves s.clk.aclk).holdRefs_eq s.clk.aclk
  unfold State.claimsChange
  dsimp only
  rw [hd]
  obtain ⟨d', hd'⟩ := State.foldl_ddr (fun (s' : State) ch =>
    if s'.chanClaimed ch then s'.setChan ch { s'.chan ch with refAt := max (s'.chan ch).refAt (2 * s.clk.aclk) } else s')
    (fun s' ch => by
      split
      · exact ⟨_, rfl⟩
      · exact ⟨_, rfl⟩) (List.range 8) { s.countMoves s.clk.aclk with ddr := d }
  exact ⟨_, d', hd'⟩

@[simp] theorem State.claimsChange_regs (s : State) : s.claimsChange.regs = s.regs := by
  obtain ⟨x, d, h⟩ := s.claimsChange_eq
  rw [h]

@[simp] theorem State.claimsChange_ridge (s : State) : s.claimsChange.ridge = s.ridge := by
  obtain ⟨x, d, h⟩ := s.claimsChange_eq
  rw [h]

/-- Equal register files read alike. -/
theorem State.fld_congr {s t : State} (h : t.regs = s.regs) (f : RegField) (i : Nat) : t.fld f i = s.fld f i := by
  simp only [State.fld, State.reg, h]

/-! ## A row whose bundle may issue -/

/-- The stream runs and is free once `dt` ACLK cycles have passed. -/
def State.rowReady (s : State) (st : Stream) (dt : Nat) : Prop :=
  (s.passA dt).runs st = true ∧ ((s.passA dt).stream st).freeAt ≤ (s.passA dt).clk.aclk

/-- R28: a row whose stream is free, whose bundle has the row's kind and passes the boundary check, issues it. -/
theorem State.issueRow_of_go {s w : State} {st : Stream} {kind dt : Nat} {b : Bundle} (act : State → Bundle → State)
    (hready : s.rowReady st dt) (hb : b = (s.passA dt).noteOverrun.fetch ((s.passA dt).noteOverrun.stream st).ptr)
    (hk : b.kind = kind) (hgo : (s.passA dt).noteOverrun.startCheck st kind = (w, true)) :
    s.issueRow st kind dt act = (act w b).settleAll := by
  obtain ⟨hruns, hfree⟩ := hready
  subst hb hk
  simp [State.issueRow, hruns, hfree, hgo]

section
variable {s w : State} {st : Stream} {dt : Nat} (n : Nat) {b : Bundle} (hdark : s.coreDark = false)
  (hready : s.rowReady st dt) (hb : b = (s.passA dt).noteOverrun.fetch ((s.passA dt).noteOverrun.stream st).ptr)
include hdark hready hb

theorem exec_normal_of_go (hk : b.kind = 0) (hgo : (s.passA dt).noteOverrun.startCheck st 0 = (w, true)) :
    exec (.normal st dt n) s = .next (w.issueCycles st b n).settleAll := by
  simp only [exec, execNormal, hdark, State.issueRow_of_go _ hready hb hk hgo]
  rfl

theorem exec_planEnd_of_go (hk : b.kind = 6) (hgo : (s.passA dt).noteOverrun.startCheck st 6 = (w, true)) :
    exec (.planEnd st dt) s = .next (w.stopStream st 0).settleAll := by
  simp only [exec, execPlanEnd, hdark, State.issueRow_of_go _ hready hb hk hgo]
  rfl

end

section
variable {s w : State} {dt : Nat} {b : Bundle} (hdark : s.coreDark = false)
  (hready : s.rowReady .frame dt) (hb : b = (s.passA dt).noteOverrun.fetch ((s.passA dt).noteOverrun.stream .frame).ptr)
include hdark hready hb

theorem exec_frameWait_of_go (hk : b.kind = 1) (hgo : (s.passA dt).noteOverrun.startCheck .frame 1 = (w, true))
    {x : FrameStart} {rest : List FrameStart} (hstarts : w.ridge.starts = x :: rest)
    (ht : max w.ridge.frame.freeAt x.cyc ≤ w.clk.aclk) :
    exec (.frameWait dt) s = .next ((((w.beginBundle .frame b (max w.ridge.frame.freeAt x.cyc)).releaseFrame
      (max w.ridge.frame.freeAt x.cyc)).endBundle .frame b (max w.ridge.frame.freeAt x.cyc + 1)).settleAll) := by
  simp only [exec, execFrameWait, hdark, State.issueRow_of_go _ hready hb hk hgo, hstarts, if_pos ht]
  rfl

theorem exec_anchor_of_go (hk : b.kind = 2) (hgo : (s.passA dt).noteOverrun.startCheck .frame 2 = (w, true))
    (ht : w.offsetCycle b ≤ w.clk.aclk) : exec (.anchor dt) s = .next (w.issueAt b (w.offsetCycle b)).settleAll := by
  simp only [exec, execAnchor, hdark, State.issueRow_of_go _ hready hb hk hgo, if_pos ht]
  rfl

theorem exec_planOpen_of_overlap (hk : b.kind = 3) (hgo : (s.passA dt).noteOverrun.startCheck .frame 3 = (w, true))
    (ht : w.offsetCycle b ≤ w.clk.aclk) (hid : w.ridge.windows.any (fun x => x.id == b.window) = false)
    (hover : w.overlaps b.coreMask b.chanMask = true) : exec (.planOpen dt) s = .next w.settleAll := by
  simp only [exec, execPlanOpen, hdark, State.issueRow_of_go _ hready hb hk hgo, if_neg (Nat.not_lt.mpr ht), hid, hover]
  rfl

/-- The window opens with the OPEN's cycle: no window is open, so none has its identifier or claims its resources. -/
theorem exec_planOpen_of_first (hk : b.kind = 3) (hgo : (s.passA dt).noteOverrun.startCheck .frame 3 = (w, true))
    (ht : w.offsetCycle b ≤ w.clk.aclk) (hnone : w.ridge.windows = []) (hkept : w.abandon b.coreMask (w.offsetCycle b) = w)
    (hgold : b.window ≠ w.fld F.SP_GOLDEN_CFG_WINDOW) :
    exec (.planOpen dt) s = .next ((({ w.claimsChange with ridge := { w.claimsChange.ridge with
      overrunFor := none
      windows := [⟨b.window, b.coreMask, b.chanMask, 1, w.offsetCycle b⟩] } } : State).windowStatus).issueAt b
        (w.offsetCycle b)).settleAll := by
  have hover : w.overlaps b.coreMask b.chanMask = false := by simp [State.overlaps, hnone]
  have hgold' : (b.window == w.claimsChange.fld F.SP_GOLDEN_CFG_WINDOW) = false := by
    rw [State.fld_congr w.claimsChange_regs]
    exact beq_false_of_ne hgold
  simp only [exec, execPlanOpen, hdark, State.issueRow_of_go _ hready hb hk hgo, if_neg (Nat.not_lt.mpr ht), hover, hkept, hgold',
    State.claimsChange_ridge, hnone]
  rfl

theorem exec_planClose_of_open (n : Nat) (hk : b.kind = 4) (hgo : (s.passA dt).noteOverrun.startCheck .frame 4 = (w, true))
    (hid : w.ridge.windows.any (fun x => x.id == b.window) = true) :
    exec (.planClose dt n) s = .next (w.issueCycles .frame b n).settleAll := by
  simp only [exec, execPlanClose, hdark, State.issueRow_of_go _ hready hb hk hgo, hid]
  rfl

end

/-- Settles O10: each row is State.issueRow of its own act, and the act's guards are the clause's hypotheses. -/
theorem bundlesIssueWhenTheyMay : Obligations.BundlesIssueWhenTheyMay := by
  rintro s u w st dt n b hdark hruns hfree rfl hb
  have hready : s.rowReady st dt := ⟨hruns, hfree⟩
  refine ⟨exec_normal_of_go n hdark hready hb, ?_, ?_, ?_, ?_, ?_, exec_planEnd_of_go hdark hready hb⟩
  · rintro hk rfl hgo x rest hstarts ht
    exact exec_frameWait_of_go hdark hready hb hk hgo hstarts ht
  · rintro hk rfl
    exact exec_anchor_of_go hdark hready hb hk
  · rintro hk rfl
    exact exec_planOpen_of_first hdark hready hb hk
  · rintro hk rfl
    exact exec_planOpen_of_overlap hdark hready hb hk
  · rintro hk rfl
    exact exec_planClose_of_open hdark hready hb n hk

/-! ## MARKER_WAIT -/

/-- The state in which MARKER_WAIT looks at its bundle: where every marker has come it no longer counts as waiting. -/
def State.markerSeen (s : State) (st : Stream) (dt : Nat) : State :=
  if (s.fetch (s.stream st).ptr).kind = 5 ∧ (s.stream st).started = false ∧ s.markersHere (s.fetch (s.stream st).ptr) = true
  then (s.passA dt).markerCame st else s.passA dt

/-- What MARKER_WAIT does with a bundle that may issue. -/
def State.markerAct (st : Stream) (n : Nat) (s : State) (b : Bundle) : State :=
  if (s.stream st).started then s.issueCycles st b n
  else if s.markersHere b then (s.consumeMarkers b).issueCycles st b n
  else (s.setStream st { s.stream st with waitFrom := some ((s.stream st).waitFrom.getD s.clk.aclk) }).raiseHold 6
    (some (s.clk.aclk + s.fld F.PL_CONFIG_TETHER_WAIT))

theorem exec_markerWait {s : State} {st : Stream} {dt : Nat} (n : Nat) (hdark : s.coreDark = false) :
    exec (.markerWait st dt n) s = .next ((s.markerSeen st dt).issueRow st 5 0 (State.markerAct st n)) := by
  simp only [exec, execMarkerWait, hdark]
  rfl

section
variable {s w : State} {st : Stream} {dt : Nat} (n : Nat) {b : Bundle} (hdark : s.coreDark = false)
  (hready : (s.markerSeen st dt).rowReady st 0)
  (hb : b = ((s.markerSeen st dt).passA 0).noteOverrun.fetch ((((s.markerSeen st dt).passA 0).noteOverrun).stream st).ptr)
  (hk : b.kind = 5) (hgo : (((s.markerSeen st dt).passA 0).noteOverrun).startCheck st 5 = (w, true))
  (hfirst : (w.stream st).started = false)
include hdark hready hb hk hgo hfirst

theorem exec_markerWait_of_here (hhere : w.markersHere b = true) :
    exec (.markerWait st dt n) s = .next ((w.consumeMarkers b).issueCycles st b n).settleAll := by
  rw [exec_markerWait n hdark, State.issueRow_of_go _ hready hb hk hgo, State.markerAct, hfirst, hhere]
  rfl

theorem exec_markerWait_of_missing (hmiss : w.markersHere b = false) : exec (.markerWait st dt n) s =
    .next ((w.setStream st { w.stream st with waitFrom := some ((w.stream st).waitFrom.getD w.clk.aclk) }).raiseHold 6
      (some (w.clk.aclk + w.fld F.PL_CONFIG_TETHER_WAIT))).settleAll := by
  rw [exec_markerWait n hdark, State.issueRow_of_go _ hready hb hk hgo, State.markerAct, hfirst, hmiss]
  rfl

end

theorem exec_markerWaitExpiry {s : State} {st : Stream} {dt : Nat} (hdark : s.coreDark = false) :
    exec (.markerWaitExpiry st dt) s = .next (((s.tickA dt).stream st).waitFrom.elim (s.tickA dt) fun x =>
      if x + (s.tickA dt).fld F.PL_CONFIG_TETHER_WAIT < (s.tickA dt).clk.aclk
      then (s.tickA dt).planFault st 7 ((s.tickA dt).stream st).ptr else s.tickA dt) := by
  simp only [exec, execMarkerWaitExpiry, hdark, Bool.false_eq_true, if_false]
  cases ((s.tickA dt).stream st).waitFrom with
  | none => simp only [Option.elim_none]
  | some x => simp only [Option.elim_some, apply_ite Host.Outcome.next]

/-- Settles O11: the row's act turns on the markers, the expiry on the cycle since which the stream waits. -/
theorem markerWaitIssuesOrWaits : Obligations.MarkerWaitIssuesOrWaits := by
  intro s u w st dt n b hdark
  refine ⟨?_, ?_, ?_, ?_⟩
  · rintro ⟨hcame, hnot⟩ hruns hfree hb hk hgo hfirst
    obtain rfl : u = s.markerSeen st dt := by
      unfold State.markerSeen
      split
      · exact hcame ‹_›
      · exact hnot ‹_›
    have hready : (s.markerSeen st dt).rowReady st 0 := ⟨hruns, hfree⟩
    exact ⟨exec_markerWait_of_here n hdark hready hb hk hgo hfirst,
      exec_markerWait_of_missing n hdark hready hb hk hgo hfirst⟩
  · intro x hx hlate
    rw [exec_markerWaitExpiry hdark, hx, Option.elim_some, if_pos hlate]
  · intro x hx hsoon
    rw [exec_markerWaitExpiry hdark, hx, Option.elim_some, if_neg (Nat.not_lt.mpr hsoon)]
  · intro hx
    rw [exec_markerWaitExpiry hdark, hx, Option.elim_none]

end Sys2Proof.Machine
end

section
/-! SUPPORT. What a plan hold and a stop of a stream leave unchanged, and the registers that they write (R35, R42, R47). -/

namespace Sys2Proof.Machine

/-! ## The registers that an operation writes -/

/-- The registers of `t` are those of `s` but for the fields listed, each with its entry. -/
structure State.writesOnly (W : List (RegField × Nat)) (s t : State) : Prop where
  regsWf : s.regsWf → t.regsWf
  fld    : s.regsWf → ∀ (g : RegField) (j : Nat), (∀ f ∈ W, f.1.sep f.2 g j) → t.fld g j = s.fld g j

namespace State.writesOnly

variable {W : List (RegField × Nat)} {s t u : State}

theorem of_regs (h : t.regs = s.regs) : s.writesOnly W t where
  regsWf hs := by rw [State.regsWf, h]; exact hs
  fld _ _ _ _ := State.fld_congr h _ _

theorem trans (h₁ : s.writesOnly W t) (h₂ : t.writesOnly W u) : s.writesOnly W u where
  regsWf hs := h₂.regsWf (h₁.regsWf hs)
  fld hs g j hg := (h₂.fld (h₁.regsWf hs) g j hg).trans (h₁.fld hs g j hg)

theorem mono {W' : List (RegField × Nat)} (h : s.writesOnly W t) (hsub : W ⊆ W') : s.writesOnly W' t where
  regsWf := h.regsWf
  fld hs g j hg := h.fld hs g j fun f hf => hg f (hsub hf)

theorem setFld (h : s.writesOnly W t) (f : RegField) (i x : Nat) (hf : (f, i) ∈ W) : s.writesOnly W (t.setFld f i x) :=
  h.trans { regsWf := fun ht => State.regsWf_setFld ht f i x
            fld := fun ht _ _ hg => State.fld_setFld_sep ht x (hg (f, i) hf) }

theorem regs (h : s.writesOnly W t) (hu : u.regs = t.regs) : s.writesOnly W u := h.trans (of_regs hu)

end State.writesOnly

theorem State.regs_ridge (s : State) (r : Ridge) : ({ s with ridge := r } : State).regs = s.regs := rfl

/-! ## Holds -/

theorem State.recordAt_eq (s : State) (acyc kind source : Nat) (bs : List Byte) (domain : Nat) :
    ∃ k, s.recordAt acyc kind source bs domain = { s with book := k } := by
  unfold State.recordAt
  cases s.book.replay <;> dsimp only <;> (repeat' split) <;> exact ⟨_, rfl⟩

theorem State.raise_eq (s : State) (code detail : Nat) : ∃ p k, s.raise code detail = { s with plumb := p, book := k } := by
  obtain ⟨k, hk⟩ := State.recordAt_eq { s with plumb := { s.plumb with inbox := s.plumb.inbox ++ [(code, detail % 2 ^ 32, false)] } }
    s.acyc 0x0E 0 (words [code, detail, 0]) 1
  exact ⟨_, k, hk⟩

/-- A slot word takes a place in its channel's queue and nothing else. -/
theorem State.queueSlot_eq (s : State) (ch word : Nat) : ∃ d, s.queueSlot ch word = { s with ddr := d } := by
  unfold State.queueSlot
  split
  · exact ⟨_, rfl⟩
  · exact ⟨_, rfl⟩

/-- The slot words of an ended hold move from Ridgepole to the channels. -/
theorem State.placeHeld_eq (s : State) : ∃ d x, s.placeHeld = { s with ddr := d, ridge := { s.ridge with heldSlots := x } } := by
  unfold State.placeHeld
  split
  · exact ⟨_, _, rfl⟩
  · have hfold : ∀ acc : State × List (Nat × Nat), (∃ d, acc.1 = { s with ddr := d }) →
        ∃ d, (s.ridge.heldSlots.foldl (fun (acc : State × List (Nat × Nat)) x =>
          if (acc.1.chan x.1).slots.length < 4 && !(acc.2.any fun y => y.1 == x.1) then (acc.1.queueSlot x.1 x.2, acc.2)
          else (acc.1, acc.2 ++ [x])) acc).1 = { s with ddr := d } := by
      intro acc hacc
      refine List.foldlRecOn (motive := fun acc : State × List (Nat × Nat) => ∃ d, acc.1 = { s with ddr := d }) _ _ hacc ?_
      rintro ⟨t, xs⟩ ⟨d, hd⟩ x -
      dsimp only at hd ⊢
      split
      · obtain ⟨d', hd'⟩ := t.queueSlot_eq x.1 x.2
        exact ⟨d', by rw [hd', hd]⟩
      · exact ⟨d, hd⟩
    obtain ⟨d, hd⟩ := hfold (s, []) ⟨s.ddr, rfl⟩
    dsimp only
    rw [hd]
    exact ⟨d, _, rfl⟩

theorem State.countMoves_eq (s : State) (t : Nat) : ∃ x, s.countMoves t = { s with stow := x } := ⟨_, rfl⟩

/-- What a hold event that ends leaves in Ridgepole: the log entry, and streams that may issue from now on. -/
def Ridge.holdOver (r : Ridge) (h : Hold) (now : Nat) : Ridge :=
  let full := decide (64 ≤ r.holdLog.length)
  let e := h.first + h.mask * 16 + 2 ^ 12 + min 262143 (now - h.start) * 2 ^ 14 + h.startStep * 2 ^ 32
  { r with
    hold := none
    holdLog := if full then r.holdLog else r.holdLog ++ [BitVec.ofNat 64 e]
    holdLost := r.holdLost || full
    frame := { r.frame with freeAt := max r.frame.freeAt now }
    fill := { r.fill with freeAt := max r.fill.freeAt now } }

/-- PL_STATUS as it stands once no hold is in effect. -/
def State.holdStatusOver (s : State) : State := (s.setFld F.PL_STATUS_HOLDING 0 0).setFld F.PL_STATUS_HOLD_CAUSE 0 0

/-- R488: a reproduced hold has ended. -/
def State.replayHoldOver (s : State) : State :=
  match s.book.replay with
  | some r => { s with book := { s.book with replay := some { r with reproduced := false } } }
  | none => s

theorem State.replayHoldOver_eq (s : State) : ∃ k, s.replayHoldOver = { s with book := k } := by
  unfold State.replayHoldOver
  split
  · exact ⟨_, rfl⟩
  · exact ⟨_, rfl⟩

/-- The end of a hold is recorded, and its slot words take their places. -/
theorem State.holdRecorded_eq (s : State) (a : Nat) (bs : List Byte) : ∃ d k hs,
    (s.replayHoldOver.recordAt a 0x0A 0 bs 1).placeHeld = { s with ddr := d, book := k, ridge := { s.ridge with heldSlots := hs } } := by
  obtain ⟨k, hk⟩ := s.replayHoldOver_eq
  obtain ⟨k', hk'⟩ := State.recordAt_eq { s with book := k } a 0x0A 0 bs 1
  rw [hk, hk']
  obtain ⟨d, hs, h⟩ := State.placeHeld_eq { s with book := k' }
  exact ⟨d, k', hs, h⟩

/-- R478: the position of a hold's record, that of its start. -/
def State.holdPos (s : State) (h : Hold) : Nat := match s.ridge.goAt with | some g => h.start - g | none => 0

/-- The hold `h` is over, with the channels at `d`, and neither recorded nor its slot words placed. -/
def State.holdCleared (s : State) (h : Hold) (d : List (Nat × DdrChan)) : State :=
  ({ s.countMoves s.clk.aclk with ddr := d, ridge := s.ridge.holdOver h s.clk.aclk } : State).holdStatusOver

theorem State.clearHold_of_none {s : State} {code : Nat} (h : s.ridge.hold = none) : s.clearHold code = s := by
  simp [State.clearHold, h]

section
variable {s : State} {code : Nat} {h : Hold} (hh : s.ridge.hold = some h)
include hh

theorem State.clearHold_of_other (hmem : h.causes.any (·.code == code) = false) : s.clearHold code = s := by
  simp [State.clearHold, hh, hmem]

variable (hmem : h.causes.any (·.code == code) = true)
include hmem

/-- R42: a cause clears, and others keep the hold in effect. -/
theorem State.clearHold_of_more (hrest : h.causes.filter (·.code != code) ≠ []) : ∃ x d, s.clearHold code =
    { s with stow := x, ddr := d, ridge := { s.ridge with hold := some { h with causes := h.causes.filter (·.code != code) } } } := by
  obtain ⟨d, hd⟩ := (s.countMoves s.clk.aclk).holdRefs_eq s.clk.aclk
  simp only [State.clearHold, hh, hmem, hd, if_true, List.isEmpty_iff, hrest, if_false]
  exact ⟨_, d, rfl⟩

/-- R42: the last cause of a hold clears. -/
theorem State.clearHold_of_last (hrest : h.causes.filter (·.code != code) = []) : ∃ x d k hs, s.clearHold code =
    { s.holdStatusOver with
      stow := x, ddr := d, book := k, ridge := { s.ridge.holdOver h s.clk.aclk with heldSlots := hs } } := by
  obtain ⟨d, hd⟩ := (s.countMoves s.clk.aclk).holdRefs_eq s.clk.aclk
  obtain ⟨d', k, hs, hrec⟩ := (s.holdCleared h d).holdRecorded_eq ((s.holdCleared h d).replayHoldOver.holdPos h)
    (words [h.first + h.mask * 16 + 2 ^ 12 + min 262143 (s.clk.aclk - h.start) * 2 ^ 14 + h.startStep * 2 ^ 32,
      s.clk.aclk - h.start, (s.holdCleared h d).replayHoldOver.holdPos h])
  refine ⟨_, d', k, hs, Eq.trans ?_ hrec⟩
  simp only [State.clearHold, hh, hmem, hrest, hd, if_true, List.isEmpty_nil]
  rfl

end

/-- What the clearing of a cause can do to the state: nothing, or a cause leaves the hold, or the hold is over. -/
theorem State.clearHold_cases (s : State) (code : Nat) : s.clearHold code = s ∨
    (∃ x d h, s.clearHold code = { s with stow := x, ddr := d, ridge := { s.ridge with hold := some h } }) ∨
    ∃ x d k hs h, s.clearHold code = { s.holdStatusOver with
      stow := x, ddr := d, book := k, ridge := { s.ridge.holdOver h s.clk.aclk with heldSlots := hs } } := by
  cases hh : s.ridge.hold with
  | none => exact .inl (State.clearHold_of_none hh)
  | some h =>
    by_cases hmem : h.causes.any (·.code == code) = true
    · by_cases hrest : h.causes.filter (·.code != code) = []
      · obtain ⟨x, d, k, hs, heq⟩ := State.clearHold_of_last hh hmem hrest
        exact .inr (.inr ⟨x, d, k, hs, h, heq⟩)
      · obtain ⟨x, d, heq⟩ := State.clearHold_of_more hh hmem hrest
        exact .inr (.inl ⟨x, d, _, heq⟩)
    · exact .inl (State.clearHold_of_other hh (Bool.not_eq_true _ ▸ hmem))

theorem State.clearHold_writesOnly (s : State) (code : Nat) :
    s.writesOnly [(F.PL_STATUS_HOLDING, 0), (F.PL_STATUS_HOLD_CAUSE, 0)] (s.clearHold code) := by
  rcases s.clearHold_cases code with h | ⟨x, d, h', h⟩ | ⟨x, d, k, hs, h', h⟩
  · rw [h]; exact .of_regs rfl
  · rw [h]; exact .of_regs rfl
  · rw [h]
    exact (((State.writesOnly.of_regs rfl).setFld F.PL_STATUS_HOLDING 0 0 (by decide)).setFld F.PL_STATUS_HOLD_CAUSE 0 0 (by decide)).regs rfl

/-! ## What faults and stops leave -/

/-- What holds, stops and faults of streams do not reach, and the mark of a plan fault. -/
def State.offPlan (s : State) : State :=
  { s with
    regs := [], stow := Stow.reset, ddr := [], book := Book.reset, plumb := Plumb.reset, trail := Trail.reset
    ridge := { Ridge.reset with faulted := s.ridge.faulted } }

section
variable (s : State)

@[simp] theorem State.offPlan_setFld (f : RegField) (i x : Nat) : (s.setFld f i x).offPlan = s.offPlan := rfl
@[simp] theorem State.offPlan_bump (f : RegField) (i n : Nat) : (s.bump f i n).offPlan = s.offPlan := rfl

@[simp] theorem State.offPlan_setStreamState (st : Stream) (v : Nat) : (s.setStreamState st v).offPlan = s.offPlan := by
  cases st
  · rfl
  · rfl

@[simp] theorem State.offPlan_setStream (st : Stream) (x : StreamState) : (s.setStream st x).offPlan = s.offPlan := by
  cases st
  · rfl
  · rfl

@[simp] theorem State.offPlan_raise (code detail : Nat) : (s.raise code detail).offPlan = s.offPlan := by
  obtain ⟨p, k, h⟩ := s.raise_eq code detail
  rw [h]
  rfl

@[simp] theorem State.offPlan_clearHold (code : Nat) : (s.clearHold code).offPlan = s.offPlan := by
  rcases s.clearHold_cases code with h | ⟨x, d, h', h⟩ | ⟨x, d, k, hs, h', h⟩
  · rw [h]
  · rw [h]; rfl
  · rw [h]; rfl

@[simp] theorem State.offPlan_claimsChange : s.claimsChange.offPlan = s.offPlan := by
  obtain ⟨x, d, h⟩ := s.claimsChange_eq
  rw [h]
  rfl

@[simp] theorem State.offPlan_windowStatus : s.windowStatus.offPlan = s.offPlan := by
  unfold State.windowStatus
  split
  · rfl
  · rfl

theorem State.windowStatus_writesOnly :
    s.writesOnly [(F.PL_STATUS_IN_WINDOW, 0), (F.PL_STATUS_WINDOW_ID, 0)] s.windowStatus := by
  unfold State.windowStatus
  split
  · exact ((State.writesOnly.of_regs rfl).setFld _ _ _ List.mem_cons_self).setFld _ _ _ (List.mem_of_mem_tail List.mem_cons_self)
  · exact ((State.writesOnly.of_regs rfl).setFld _ _ _ List.mem_cons_self).setFld _ _ _ (List.mem_of_mem_tail List.mem_cons_self)

end

/-! ## The stop of a stream -/

/-- The field of PL_STATUS that shows a stream's state. -/
def streamField : Stream → RegField
  | .frame => F.PL_STATUS_FRAME_STATE
  | .fill => F.PL_STATUS_FILL_STATE

theorem State.streamState_eq (s : State) (st : Stream) : s.streamState st = s.fld (streamField st) := by
  cases st
  · rfl
  · rfl

theorem State.setStreamState_eq (s : State) (st : Stream) (v : Nat) : s.setStreamState st v = s.setFld (streamField st) 0 v := by
  cases st
  · rfl
  · rfl

/-- The stream leaves its bundle and shows state `v`. -/
def State.leavesBundle (s : State) (st : Stream) (v : Nat) : State :=
  (s.setStream st { s.stream st with issued := 0, started := false, waitFrom := none, viaAlt := false }).setStreamState st v

/-- R42: a TETHER hold is over once no stream waits for markers. -/
def State.waitsOver (s : State) : State :=
  if s.ridge.frame.waitFrom.isNone && s.ridge.fill.waitFrom.isNone then s.clearHold 6 else s

/-- What a stopped frame stream leaves behind in Ridgepole. -/
def State.frameLeft (s : State) : State :=
  { s with ridge := { s.ridge with
      frameStopReq := false
      stopFrom := s.clk.aclk
      starts := []
      released := none
      windows := []
      overrunFor := none
      frameIssued := false } }

/-- What a stopped fill stream leaves behind in Ridgepole. -/
def State.fillLeft (s : State) : State :=
  { s with ridge := { s.ridge with fillStopReq := false, regWaiting := false } }

theorem State.stopStream_frame (s : State) (v : Nat) :
    s.stopStream .frame v = (s.leavesBundle .frame v).waitsOver.claimsChange.frameLeft.windowStatus := by
  unfold State.stopStream
  extract_lets x left waited r t changed r' gone
  have hwaited : waited = (s.leavesBundle .frame v).waitsOver := rfl
  have hchanged : changed = waited.claimsChange := rfl
  rw [← hwaited, ← hchanged]
  clear_value changed
  rfl

theorem State.stopStream_fill (s : State) (v : Nat) :
    s.stopStream .fill v = (s.leavesBundle .fill v).waitsOver.fillLeft.restartsDone := by
  unfold State.stopStream
  extract_lets x left waited r t
  have hwaited : waited = (s.leavesBundle .fill v).waitsOver := rfl
  rw [← hwaited]
  clear_value waited
  rfl

theorem State.restartsDone_of_none {s : State} (h : s.bring.restarts = []) : s.restartsDone = s := by
  have hb : { s.bring with restarts := [] } = s.bring := by rw [← h]
  simp only [State.restartsDone, h, List.filter_nil, List.foldl_nil, hb]

@[simp] theorem State.offPlan_frameLeft (s : State) : s.frameLeft.offPlan = s.offPlan := rfl
@[simp] theorem State.offPlan_fillLeft (s : State) : s.fillLeft.offPlan = s.offPlan := rfl
@[simp] theorem State.frameLeft_regs (s : State) : s.frameLeft.regs = s.regs := rfl
@[simp] theorem State.fillLeft_regs (s : State) : s.fillLeft.regs = s.regs := rfl

@[simp] theorem State.offPlan_waitsOver (s : State) : s.waitsOver.offPlan = s.offPlan := by
  unfold State.waitsOver
  split
  · exact s.offPlan_clearHold 6
  · rfl

theorem State.waitsOver_writesOnly (s : State) :
    s.writesOnly [(F.PL_STATUS_HOLDING, 0), (F.PL_STATUS_HOLD_CAUSE, 0)] s.waitsOver := by
  unfold State.waitsOver
  split
  · exact s.clearHold_writesOnly 6
  · exact .of_regs rfl

@[simp] theorem State.offPlan_leavesBundle (s : State) (st : Stream) (v : Nat) : (s.leavesBundle st v).offPlan = s.offPlan := by
  simp [State.leavesBundle]

theorem State.bring_of_offPlan {s t : State} (h : t.offPlan = s.offPlan) : t.bring = s.bring := congrArg (fun x => x.bring) h

theorem State.stopStream_fill_of_none {s : State} (h : s.bring.restarts = []) (v : Nat) :
    s.stopStream .fill v = (s.leavesBundle .fill v).waitsOver.fillLeft := by
  have hb : (s.leavesBundle .fill v).waitsOver.fillLeft.bring = s.bring := State.bring_of_offPlan (by simp)
  rw [State.stopStream_fill, State.restartsDone_of_none (hb ▸ h)]

theorem State.offPlan_stopStream {s : State} (h : s.bring.restarts = []) (st : Stream) (v : Nat) :
    (s.stopStream st v).offPlan = s.offPlan := by
  cases st with
  | frame => simp [State.stopStream_frame]
  | fill => simp [State.stopStream_fill_of_none h]

/-- The fields of PL_STATUS beside the two stream states. -/
def planStatusFields : List (RegField × Nat) :=
  [(F.PL_STATUS_HOLDING, 0), (F.PL_STATUS_HOLD_CAUSE, 0), (F.PL_STATUS_IN_WINDOW, 0), (F.PL_STATUS_WINDOW_ID, 0)]

/-- After its own state the stop of a stream writes the hold and the window of PL_STATUS alone. -/
theorem State.stopStream_writesOnly {s : State} (h : s.bring.restarts = []) (st : Stream) (v : Nat) :
    (s.setFld (streamField st) 0 v).writesOnly planStatusFields (s.stopStream st v) := by
  have hleaves : (s.leavesBundle st v).regs = (s.setFld (streamField st) 0 v).regs := by
    cases st
    · rfl
    · rfl
  have hwaits := (State.writesOnly.of_regs hleaves).trans
    ((s.leavesBundle st v).waitsOver_writesOnly.mono (W' := planStatusFields) (by decide))
  cases st with
  | frame =>
    rw [State.stopStream_frame]
    exact (hwaits.regs (by simp)).trans ((State.windowStatus_writesOnly _).mono (by decide))
  | fill =>
    rw [State.stopStream_fill_of_none h]
    exact hwaits.regs (by simp)

/-! ## Plumb's latch -/

/-- The registers that a latched fault class writes. -/
def latchFields : List (RegField × Nat) :=
  [(F.PB_STATUS_CAUSE, 0), (F.PB_STATUS_CAUSES, 0), (F.PB_STATUS_MODE, 0), (F.PB_STATUS_FRAME, 0), (F.TH_ATTN_PLUMB, 0),
    (F.TH_ATTN_PIN, 0), (F.PB_COUNTS_STOPS, 0), (F.PB_STATUS_STOP_A, 0), (F.PB_STATUS_STOP_B, 0), (F.PB_STATUS_GATE_OPEN, 0)]

@[simp] theorem State.offPlan_updateAttn (s : State) : s.updateAttn.offPlan = s.offPlan := by
  unfold State.updateAttn
  dsimp only
  split
  · rfl
  · split
    · rfl
    · rfl

theorem State.updateAttn_writesOnly (s : State) : s.writesOnly [(F.TH_ATTN_PIN, 0)] s.updateAttn := by
  unfold State.updateAttn
  dsimp only
  split
  · exact State.writesOnly.setFld (.of_regs rfl) F.TH_ATTN_PIN 0 1 List.mem_cons_self
  · split
    · exact (State.writesOnly.setFld (.of_regs (s := s) rfl) F.TH_ATTN_PIN 0 0 List.mem_cons_self).regs rfl
    · exact .of_regs rfl

@[simp] theorem State.offPlan_attn (s : State) (f : RegField) : (s.attn f).offPlan = s.offPlan := by
  simp [State.attn, State.setFlag]

theorem State.attn_writesOnly (s : State) (f : RegField) : s.writesOnly [(f, 0), (F.TH_ATTN_PIN, 0)] (s.attn f) :=
  (State.writesOnly.setFld (.of_regs rfl) f 0 1 List.mem_cons_self).trans ((s.setFlag f).updateAttn_writesOnly.mono (List.subset_cons_self _ _))

/-- DM1: Ridgepole is asked for FILL_STOP. -/
def State.fillAsked (s : State) : State :=
  { s with ridge := { s.ridge with fillStopReq := s.ridge.fillStopReq || s.fld F.PL_STATUS_FILL_STATE % 2 == 1 } }

/-- DM2: the condition register that the configuration names is written. -/
def State.stopWritten (s : State) (was m : Nat) : State :=
  if 2 ≤ m ∧ was < 2 ∧ s.flag F.PB_CFG_STOP_EN then s.condWrite (s.fld F.PB_CFG_STOP_COND) 1 else s

/-- The state in which mode `m` is shown. -/
def State.modeShown (s : State) (m : Nat) : State :=
  ((s.setFld F.PB_STATUS_MODE 0 m).setFld F.PB_STATUS_FRAME 0 s.frameNum).attn F.TH_ATTN_PLUMB

/-- What the mode reached does in Plumb. -/
def State.modeReached (s : State) (m : Nat) : State :=
  if m = 2 then { s with plumb := { s.plumb with dm2At := some s.clk.sclk } }
  else if m = 3 then (s.bump F.PB_COUNTS_STOPS).assertStop else s

theorem State.enterMode_of_rise {s : State} {m : Nat} (h : s.fld F.PB_STATUS_MODE < m) :
    s.enterMode m = ((s.modeShown m).fillAsked.stopWritten (s.fld F.PB_STATUS_MODE) m).modeReached m := by
  rw [State.enterMode, if_neg (Nat.not_le.mpr h)]
  extract_lets was shown r asked written p
  have hasked : asked = (s.modeShown m).fillAsked := rfl
  have hwritten : written = asked.stopWritten was m := rfl
  rw [← hasked, ← hwritten]
  clear_value written
  rfl

@[simp] theorem State.offPlan_modeShown (s : State) (m : Nat) : (s.modeShown m).offPlan = s.offPlan := by simp [State.modeShown]
@[simp] theorem State.offPlan_fillAsked (s : State) : s.fillAsked.offPlan = s.offPlan := rfl

@[simp] theorem State.offPlan_stopWritten (s : State) (was m : Nat) : (s.stopWritten was m).offPlan = s.offPlan := by
  unfold State.stopWritten
  split
  · rfl
  · rfl

@[simp] theorem State.offPlan_modeReached (s : State) (m : Nat) : (s.modeReached m).offPlan = s.offPlan := by
  unfold State.modeReached
  split
  · rfl
  · split
    · rfl
    · rfl

@[simp] theorem State.offPlan_enterMode (s : State) (m : Nat) : (s.enterMode m).offPlan = s.offPlan := by
  by_cases h : s.fld F.PB_STATUS_MODE < m
  · simp [State.enterMode_of_rise h]
  · rw [State.enterMode, if_pos (Nat.not_lt.mp h)]

@[simp] theorem State.offPlan_latchClass (s : State) (k m : Nat) : (s.latchClass k m).offPlan = s.offPlan := by
  unfold State.latchClass
  extract_lets causes first latched p asked
  have hfirst : first.offPlan = s.offPlan := by
    unfold first
    split
    · rfl
    · rfl
  exact (State.offPlan_enterMode asked m).trans hfirst

theorem State.modeShown_writesOnly (s : State) (m : Nat) : s.writesOnly latchFields (s.modeShown m) := by
  have hset : s.writesOnly latchFields ((s.setFld F.PB_STATUS_MODE 0 m).setFld F.PB_STATUS_FRAME 0 s.frameNum) :=
    ((State.writesOnly.of_regs rfl).setFld F.PB_STATUS_MODE 0 m (by decide)).setFld F.PB_STATUS_FRAME 0 s.frameNum (by decide)
  exact hset.trans ((State.attn_writesOnly _ _).mono (by decide))

theorem State.stopWritten_regs (s : State) (was m : Nat) : (s.stopWritten was m).regs = s.regs := by
  unfold State.stopWritten
  split
  · rfl
  · rfl

theorem State.modeReached_writesOnly (s : State) (m : Nat) : s.writesOnly latchFields (s.modeReached m) := by
  unfold State.modeReached
  split
  · exact .of_regs rfl
  · split
    · have hstop : s.writesOnly latchFields (s.bump F.PB_COUNTS_STOPS) := (State.writesOnly.of_regs rfl).setFld F.PB_COUNTS_STOPS 0 _ (by decide)
      exact (((hstop.setFld F.PB_STATUS_STOP_A 0 1 (by decide)).setFld F.PB_STATUS_STOP_B 0 1 (by decide)).setFld
        F.PB_STATUS_GATE_OPEN 0 0 (by decide)).regs rfl
    · exact .of_regs rfl

theorem State.enterMode_writesOnly (s : State) (m : Nat) : s.writesOnly latchFields (s.enterMode m) := by
  by_cases h : s.fld F.PB_STATUS_MODE < m
  · rw [State.enterMode_of_rise h]
    refine ((s.modeShown_writesOnly m).regs ?_).trans (State.modeReached_writesOnly _ m)
    exact (State.stopWritten_regs _ _ _).trans rfl
  · rw [State.enterMode, if_pos (Nat.not_lt.mp h)]
    exact .of_regs rfl

theorem State.latchClass_writesOnly (s : State) (k m : Nat) : s.writesOnly latchFields (s.latchClass k m) := by
  unfold State.latchClass
  extract_lets causes first latched p asked
  have hfirst : s.writesOnly latchFields first := by
    unfold first
    split
    · exact (State.writesOnly.of_regs rfl).setFld F.PB_STATUS_CAUSE 0 k (by decide)
    · exact .of_regs rfl
  have hlatched : s.writesOnly latchFields latched := hfirst.setFld F.PB_STATUS_CAUSES 0 _ (by decide)
  exact (hlatched.regs (u := asked) rfl).trans (asked.enterMode_writesOnly m)

/-! ## Plan faults -/

theorem State.raise_writesOnly (s : State) (code detail : Nat) : s.writesOnly [] (s.raise code detail) := by
  obtain ⟨p, k, h⟩ := s.raise_eq code detail
  rw [h]
  exact .of_regs rfl

/-- PL_FAULT records a plan fault, which bars further starts. -/
def State.faultShown (s : State) (st : Stream) (cause b : Nat) : State :=
  let t := (((s.setFld F.PL_FAULT_FCAUSE 0 cause).setFld F.PL_FAULT_STREAM 0 (streamBit st)).setFld F.PL_FAULT_BUNDLE 0 b).setFld
    F.PL_FAULT_FRAME 0 s.frameNum
  { t with ridge := { t.ridge with faulted := true } }

/-- The detail of a plan fault's event, PL_FAULT[19:0]. -/
def State.faultDetail (s : State) : Nat := ((s.reg R.PL_FAULT).extractLsb' 0 20).toNat

/-- R47: a fault of the frame stream stops a running fill stream too. -/
def State.fillFollows (s : State) : State := if s.fld F.PL_STATUS_FILL_STATE % 2 = 1 then s.stopStream .fill 0 else s

theorem State.planFault_fill (s : State) (c b : Nat) : s.planFault .fill c b =
    ((s.faultShown .fill c b).stopStream .fill 2).raise 0x02 (s.faultShown .fill c b).faultDetail := rfl

theorem State.planFault_frame (s : State) (c b : Nat) : s.planFault .frame c b =
    (let t := (((s.faultShown .frame c b).stopStream .frame 2).raise 0x03 (s.faultShown .frame c b).faultDetail).fillFollows
     t.latchClass 7 (t.degradeMode 7)) := rfl

section
variable {s : State} {c b : Nat}

theorem State.faultShown_writesOnly (st : Stream) :
    s.writesOnly [(F.PL_FAULT_FCAUSE, 0), (F.PL_FAULT_STREAM, 0), (F.PL_FAULT_BUNDLE, 0), (F.PL_FAULT_FRAME, 0)] (s.faultShown st c b) :=
  (((((State.writesOnly.of_regs rfl).setFld F.PL_FAULT_FCAUSE 0 c (by decide)).setFld F.PL_FAULT_STREAM 0 (streamBit st) (by decide)).setFld
    F.PL_FAULT_BUNDLE 0 b (by decide)).setFld F.PL_FAULT_FRAME 0 s.frameNum (by decide)).regs rfl

@[simp] theorem State.bring_faultShown (st : Stream) : (s.faultShown st c b).bring = s.bring := rfl
@[simp] theorem State.bring_raise (code detail : Nat) : (s.raise code detail).bring = s.bring :=
  State.bring_of_offPlan (s.offPlan_raise code detail)

theorem State.bring_stopStream (h : s.bring.restarts = []) (st : Stream) (v : Nat) : (s.stopStream st v).bring = s.bring :=
  State.bring_of_offPlan (State.offPlan_stopStream h st v)

theorem State.offPlan_fillFollows (h : s.bring.restarts = []) : s.fillFollows.offPlan = s.offPlan := by
  unfold State.fillFollows
  split
  · exact State.offPlan_stopStream h .fill 0
  · rfl

/-- A plan fault leaves what PL_FAULT's record does, beside holds, stops and Plumb's latch. -/
theorem State.offPlan_planFault (h : s.bring.restarts = []) (st : Stream) :
    (s.planFault st c b).offPlan = (s.faultShown st c b).offPlan := by
  have hshown : (s.faultShown st c b).bring.restarts = [] := h
  cases st with
  | fill => rw [State.planFault_fill, State.offPlan_raise, State.offPlan_stopStream hshown]
  | frame =>
    have hstop : ((s.faultShown .frame c b).stopStream .frame 2).bring = s.bring := State.bring_stopStream hshown .frame 2
    rw [State.planFault_frame]
    dsimp only
    rw [State.offPlan_latchClass, State.offPlan_fillFollows (by rw [State.bring_raise, hstop, h]), State.offPlan_raise,
      State.offPlan_stopStream hshown]

theorem State.stopStream_regsWf (h : s.bring.restarts = []) (hregs : s.regsWf) (st : Stream) (v : Nat) : (s.stopStream st v).regsWf :=
  (State.stopStream_writesOnly h st v).regsWf (State.regsWf_setFld hregs _ _ _)

theorem State.streamState_stopStream (h : s.bring.restarts = []) (hregs : s.regsWf) (st : Stream) {v : Nat} (hv : v < 4) :
    (s.stopStream st v).streamState st = v := by
  have hset : (s.setFld (streamField st) 0 v).fld (streamField st) = v := by
    rw [State.fld_setFld_same hregs _ _ _ (by cases st <;> decide), Nat.mod_eq_of_lt (by cases st <;> exact hv)]
  rw [State.streamState_eq]
  exact ((State.stopStream_writesOnly h st v).fld (State.regsWf_setFld hregs _ _ _) _ _ (by cases st <;> decide)).trans hset

/-- The fields that a fault of a stream writes beside PL_FAULT and the stream's state. -/
def faultFields : Stream → List (RegField × Nat)
  | .fill => planStatusFields
  | .frame => (F.PL_STATUS_FILL_STATE, 0) :: planStatusFields ++ latchFields

theorem State.fillFollows_writesOnly (h : s.bring.restarts = []) : s.writesOnly (faultFields .frame) s.fillFollows := by
  unfold State.fillFollows
  split
  · have hset : s.writesOnly (faultFields .frame) (s.setFld (streamField .fill) 0 0) :=
      (State.writesOnly.of_regs rfl).setFld (streamField .fill) 0 0 List.mem_cons_self
    exact hset.trans ((State.stopStream_writesOnly h .fill 0).mono (by decide))
  · exact .of_regs rfl

theorem State.planFault_writesOnly (h : s.bring.restarts = []) (st : Stream) :
    ((s.faultShown st c b).setFld (streamField st) 0 2).writesOnly (faultFields st) (s.planFault st c b) := by
  have hshown : (s.faultShown st c b).bring.restarts = [] := h
  have hstop := State.stopStream_writesOnly hshown st 2
  cases st with
  | fill =>
    rw [State.planFault_fill]
    exact hstop.trans ((State.raise_writesOnly _ _ _).mono (List.nil_subset _))
  | frame =>
    have hraised := (hstop.mono (W' := faultFields .frame) (by decide)).trans
      ((State.raise_writesOnly _ 0x03 (s.faultShown .frame c b).faultDetail).mono (List.nil_subset _))
    have hb : (((s.faultShown .frame c b).stopStream .frame 2).raise 0x03 (s.faultShown .frame c b).faultDetail).bring.restarts = [] := by
      rw [State.bring_raise, State.bring_stopStream hshown, hshown]
    rw [State.planFault_frame]
    exact (hraised.trans (State.fillFollows_writesOnly hb)).trans ((State.latchClass_writesOnly _ _ _).mono (by decide))

/-- A field that neither the fault's stop nor its latch writes reads as PL_FAULT's record left it. -/
theorem State.fld_planFault (h : s.bring.restarts = []) (hregs : s.regsWf) (st : Stream) (g : RegField)
    (hg : ∀ f ∈ (streamField st, 0) :: faultFields st, f.1.sep f.2 g 0) :
    (s.planFault st c b).fld g = (s.faultShown st c b).fld g := by
  have hshown : (s.faultShown st c b).regsWf := (State.faultShown_writesOnly st).regsWf hregs
  obtain ⟨hstate, hrest⟩ := List.forall_mem_cons.mp hg
  exact ((State.planFault_writesOnly h st).fld (State.regsWf_setFld hshown _ _ _) g 0 hrest).trans
    (State.fld_setFld_sep hshown 2 hstate)

/-- PL_FAULT as a plan fault leaves it. -/
theorem State.fld_faultShown (hregs : s.regsWf) (st : Stream) (hc : c < 16) (hb : b < 32768) :
    (s.faultShown st c b).fld F.PL_FAULT_FCAUSE = c ∧ (s.faultShown st c b).fld F.PL_FAULT_BUNDLE = b ∧
      (s.faultShown st c b).fld F.PL_FAULT_STREAM = streamBit st := by
  have h1 := State.regsWf_setFld hregs F.PL_FAULT_FCAUSE 0 c
  have h2 := State.regsWf_setFld h1 F.PL_FAULT_STREAM 0 (streamBit st)
  have h3 := State.regsWf_setFld h2 F.PL_FAULT_BUNDLE 0 b
  have hframe : ∀ g, F.PL_FAULT_FRAME.sep 0 g 0 → (s.faultShown st c b).fld g =
      (((s.setFld F.PL_FAULT_FCAUSE 0 c).setFld F.PL_FAULT_STREAM 0 (streamBit st)).setFld F.PL_FAULT_BUNDLE 0 b).fld g :=
    fun g hg => State.fld_setFld_sep h3 _ hg
  refine ⟨?_, ?_, ?_⟩
  · rw [hframe _ (by decide), State.fld_setFld_sep h2 _ (by decide), State.fld_setFld_sep h1 _ (by decide),
      State.fld_setFld_same hregs _ _ _ (by decide)]
    exact Nat.mod_eq_of_lt hc
  · rw [hframe _ (by decide), State.fld_setFld_same h2 _ _ _ (by decide)]
    exact Nat.mod_eq_of_lt hb
  · rw [hframe _ (by decide), State.fld_setFld_sep h2 _ (by decide), State.fld_setFld_same h1 _ _ _ (by decide)]
    cases st
    · rfl
    · rfl

theorem State.streamState_planFault (h : s.bring.restarts = []) (hregs : s.regsWf) (st : Stream) :
    (s.planFault st c b).streamState st = 2 := by
  have hshown := State.regsWf_setFld ((State.faultShown_writesOnly (c := c) (b := b) st).regsWf hregs) (streamField st) 0 2
  rw [State.streamState_eq]
  refine ((State.planFault_writesOnly h st).fld hshown _ _ (by cases st <;> decide)).trans ?_
  rw [State.fld_setFld_same ((State.faultShown_writesOnly st).regsWf hregs) _ _ _ (by cases st <;> decide)]
  cases st
  · rfl
  · rfl

/-- R47: the frame stream's fault stops a running fill stream. -/
theorem State.streamState_fill_planFault_frame (h : s.bring.restarts = []) (hregs : s.regsWf)
    (hfill : s.fld F.PL_STATUS_FILL_STATE = 1) : (s.planFault .frame c b).streamState .fill = 0 := by
  have hshown : (s.faultShown .frame c b).bring.restarts = [] := h
  have hwf₀ := (State.faultShown_writesOnly (c := c) (b := b) .frame).regsWf hregs
  have hwf := State.stopStream_regsWf hshown hwf₀ .frame 2
  have hrec := State.raise_writesOnly ((s.faultShown .frame c b).stopStream .frame 2) 0x03 (s.faultShown .frame c b).faultDetail
  rw [State.planFault_frame]
  generalize hu : ((s.faultShown .frame c b).stopStream .frame 2).raise 0x03 (s.faultShown .frame c b).faultDetail = u at hrec ⊢
  have hub : u.bring.restarts = [] := by rw [← hu, State.bring_raise, State.bring_stopStream hshown, hshown]
  have hruns : u.fld F.PL_STATUS_FILL_STATE = 1 := by
    rw [hrec.fld hwf _ _ (by simp), (State.stopStream_writesOnly hshown .frame 2).fld (State.regsWf_setFld hwf₀ _ _ _) _ _ (by decide),
      State.fld_setFld_sep hwf₀ _ (by decide), (State.faultShown_writesOnly .frame).fld hregs _ _ (by decide), hfill]
  have hstops : u.fillFollows = u.stopStream .fill 0 := by rw [State.fillFollows, hruns]; rfl
  dsimp only
  rw [hstops, State.streamState_eq, (State.latchClass_writesOnly _ _ _).fld (State.stopStream_regsWf hub (hrec.regsWf hwf) _ _) _ _ (by decide),
    ← State.streamState_eq]
  exact State.streamState_stopStream hub (hrec.regsWf hwf) .fill (by decide)

end

/-- Settles O12: the stop of the stream and Plumb's latch write none of PL_FAULT, and of PL_STATUS beside the stream's own state only a
hold and a window. -/
theorem planFaultStopsItsStream : Obligations.PlanFaultStopsItsStream := by
  intro s c b hs hc hb hrestarts
  have hregs : s.regsWf := hs.regs
  refine ⟨fun st => ?_, State.streamState_fill_planFault_frame hrestarts hregs⟩
  obtain ⟨hcause, hbundle, hstream⟩ := State.fld_faultShown hregs st hc hb
  refine ⟨?_, ?_, ?_, State.streamState_planFault hrestarts hregs st, ?_, ?_⟩
  · exact (State.fld_planFault hrestarts hregs st _ (by cases st <;> decide)).trans hcause
  · exact (State.fld_planFault hrestarts hregs st _ (by cases st <;> decide)).trans hbundle
  · exact (State.fld_planFault hrestarts hregs st _ (by cases st <;> decide)).trans hstream
  · exact congrArg (fun x => x.ridge.faulted) (State.offPlan_planFault (c := c) (b := b) hrestarts st)
  · exact congrArg (fun x => x.mem) (State.offPlan_planFault (c := c) (b := b) hrestarts st)

end Sys2Proof.Machine
end

section
/-! SUPPORT. The writes of PL_CTRL (Table PL-10). -/

namespace Sys2Proof.Machine

/-! ## Who may write -/

theorem goRight_of_lt {p : PartId} (h : p.val < 2) : goRight p.val = true := decide_eq_true h
theorem goRight_of_le {p : PartId} (h : 2 ≤ p.val) : goRight p.val = false := decide_eq_false (Nat.not_lt.mpr h)

theorem State.debugRight_of_le (s : State) {p : PartId} (h : 2 ≤ p.val) : s.debugRight p.val = false := by
  have hp : (p.val == 1) = false := beq_false_of_ne (by omega)
  rw [State.debugRight, hp, Bool.false_and, Bool.false_and]

section
variable {s : State} {p : PartId} (hdark : s.coreDark = false)
include hdark

theorem exec_frameGo (h : p.val < 2) : exec (.frameGo p) s = .next s.frameGo := by
  simp [exec, execFrameGo, hdark, goRight_of_lt h]

theorem exec_fillGo (h : p.val < 2) : exec (.fillGo p) s = .next s.fillGo := by
  simp [exec, execFillGo, hdark, goRight_of_lt h]

theorem exec_fillStop (h : p.val < 2) : exec (.fillStop p) s = .next s.fillStop := by
  simp [exec, execFillStop, hdark, goRight_of_lt h]

theorem exec_planStop : exec (.planStop p) s = .next (if p.val = 0 then s.stopBoth else s) := by
  simp [exec, execPlanStop, hdark]

theorem exec_debugEn (v : Bool) (h : s.debugRight p.val = true) : exec (.debugEn p v) s = .next (s.debugEn v) := by
  simp [exec, execDebugEn, hdark, h]

theorem exec_debugHold (h : s.debugRight p.val = true) : exec (.debugHold p) s = .next s.debugHold := by
  simp [exec, execDebugHold, hdark, h]

theorem exec_debugStep (h : s.debugRight p.val = true) : exec (.debugStep p) s = .next s.debugStep := by
  simp [exec, execDebugStep, hdark, h]

/-- R47, Table BC-7: a best-effort partition has none of the rights. -/
theorem exec_planControl_of_le (h : 2 ≤ p.val) : ∀ i ∈ [Instr.frameGo p, .fillGo p, .fillStop p, .planStop p, .debugEn p true,
    .debugEn p false, .debugHold p, .debugStep p], exec i s = .next s := by
  have hgo := goRight_of_le h
  have hdebug := s.debugRight_of_le h
  have hp : p ≠ 0 := by
    rintro rfl
    exact absurd h (by decide)
  simp [exec, execFrameGo, execFillGo, execFillStop, execPlanStop, execDebugEn, execDebugHold, execDebugStep, hdark, hgo, hdebug, hp]

end

/-! ## What the writes do -/

section
variable {s : State}

theorem State.frameGo_of_stopped (hload : s.ridge.planLoaded = true) (hstate : s.fld F.PL_STATUS_FRAME_STATE = 0) :
    s.frameGo = { s with ridge := { s.ridge with goArmed := true, goAt := some (s.ridge.goAt.getD s.clk.aclk) } } := by
  simp [State.frameGo, hload, hstate]

/-- The fill stream stands at FILL_ENTRY and is free from the next cycle on. -/
def State.fillAtEntry (s : State) : State :=
  { s with ridge := { s.ridge with
    fillStopReq := false
    fill := { StreamState.reset with ptr := s.fld F.PL_ENTRY_FILL_ENTRY, freeAt := s.clk.aclk + 1 } } }

theorem State.fillGo_of_stopped (hload : s.ridge.planLoaded = true) (hstate : s.fld F.PL_STATUS_FILL_STATE = 0)
    (hheld : s.fillHeld = false) (hfault : s.ridge.faulted = false) :
    s.fillGo = s.fillAtEntry.setFld F.PL_STATUS_FILL_STATE 0 1 := by
  have hguard : (s.ridge.planLoaded && s.fld F.PL_STATUS_FILL_STATE == 0 && !s.fillHeld && !s.ridge.faulted) = true := by
    simp [hload, hstate, hheld, hfault]
  rw [State.fillGo, if_pos hguard]
  rfl

theorem State.fillStop_of_started (hruns : s.runs .fill = true) (hstart : s.ridge.fill.started = true) :
    s.fillStop = { s with ridge := { s.ridge with fillStopReq := true } } := by
  simp [State.fillStop, hruns, hstart]

theorem State.stopBoth_of_started (hfill : s.runs .fill = true) (hfillStart : s.ridge.fill.started = true)
    (hframe : s.runs .frame = true) (hframeStart : s.ridge.frame.started = true) :
    s.stopBoth = { s with ridge := { s.ridge with fillStopReq := true, frameStopReq := true, goArmed := false } } := by
  have hruns : ∀ r : Ridge, ({ s with ridge := r } : State).runs .frame = true := fun _ => hframe
  simp only [State.stopBoth, State.fillStop_of_started hfill hfillStart, hruns, hframeStart, if_true]

theorem State.debugHold_of_none (hhold : s.ridge.hold = none) (hen : s.flag F.PL_CTRL_DEBUG_EN = true) :
    s.debugHold = s.raiseHold 8 none := by
  simp [State.debugHold, hhold, hen]

/-- The hold that its first cause begins (R42): it starts now and has that cause alone. -/
def State.firstHold (s : State) (code : Nat) (due : Option Nat) : Hold :=
  ⟨code, 2 ^ (code - 1), s.clk.aclk, s.fld F.PL_STEP_STEP % 2 ^ 32, [⟨code, s.clk.aclk, due⟩]⟩

/-- R42: a cause that meets no hold begins one. -/
theorem State.raiseHold_of_none (hhold : s.ridge.hold = none) (code : Nat) (due : Option Nat) : s.raiseHold code due =
    (({ s.countMoves s.clk.aclk with ridge := { s.ridge with hold := some (s.firstHold code due) } } : State).setFld
      F.PL_STATUS_HOLDING 0 1).setFld F.PL_STATUS_HOLD_CAUSE 0 code := by
  simp only [State.raiseHold, State.countMoves_ridge, hhold]
  rfl

theorem State.fld_raiseHold_of_none (hhold : s.ridge.hold = none) (hregs : s.regsWf) {code : Nat} (hcode : code < 16)
    (due : Option Nat) : (s.raiseHold code due).fld F.PL_STATUS_HOLDING = 1 ∧ (s.raiseHold code due).fld F.PL_STATUS_HOLD_CAUSE = code := by
  rw [State.raiseHold_of_none hhold]
  generalize hu : ({ s.countMoves s.clk.aclk with ridge := _ } : State) = u
  have huregs : u.regsWf := by rw [← hu]; exact hregs
  have hset := State.regsWf_setFld huregs F.PL_STATUS_HOLDING 0 1
  refine ⟨?_, ?_⟩
  · rw [State.fld_setFld_sep hset _ (by decide), State.fld_setFld_same huregs _ _ _ (by decide)]
    rfl
  · rw [State.fld_setFld_same hset _ _ _ (by decide)]
    exact Nat.mod_eq_of_lt hcode

theorem State.debugStep_of_hold {h : Hold} (hhold : s.ridge.hold = some h) (hcause : h.causes.any (fun c => c.code == 8) = true) :
    s.debugStep.ridge.stepGrant = bit (s.runs .frame) + 2 * bit (s.runs .fill) ∧ s.debugStep.regs = s.regs := by
  simp [State.debugStep, hhold, hcause]

end

/-- Settles O9: what each write does where it is allowed, and that the rights of Table BC-7 bar it elsewhere. -/
theorem planControlWritesAct : Obligations.PlanControlWritesAct := by
  intro s hs hdark
  have hregs : s.regsWf := hs.regs
  refine ⟨?_, ?_, ?_, ?_, ?_, ?_, ?_, fun p => exec_planControl_of_le hdark, ?_⟩
  · intro p hp hload hstate
    refine ⟨_, exec_frameGo hdark hp, ?_⟩
    rw [State.frameGo_of_stopped hload hstate]
    exact ⟨rfl, rfl, rfl, rfl⟩
  · intro p hp hload hstate hheld hfault
    have hentry : s.fillAtEntry.regsWf := hregs
    refine ⟨_, exec_fillGo hdark hp, ?_⟩
    rw [State.fillGo_of_stopped hload hstate hheld hfault]
    refine ⟨?_, rfl, rfl, rfl, rfl, ?_, rfl⟩
    · rw [State.fld_setFld_same hentry _ _ _ (by decide)]
      rfl
    · exact State.fld_setFld_sep hentry _ (by decide)
  · intro p hp hruns hstart
    rw [exec_fillStop hdark hp, State.fillStop_of_started hruns hstart]
  · intro p hp hfill hfillStart hframe hframeStart
    rw [exec_planStop hdark, if_pos hp, State.stopBoth_of_started hfill hfillStart hframe hframeStart]
  · intro p hp
    refine ⟨_, exec_debugEn hdark true hp, ?_, rfl, rfl⟩
    exact State.fld_setFld_same hregs _ _ _ (by decide)
  · intro p hp hhold hen
    have hfld := State.fld_raiseHold_of_none hhold hregs (code := 8) (by decide) none
    refine ⟨_, exec_debugHold hdark hp, ?_⟩
    rw [State.debugHold_of_none hhold hen]
    refine ⟨?_, hfld.1, hfld.2, ?_⟩
    · rw [State.raiseHold_of_none hhold]
      rfl
    · rw [State.raiseHold_of_none hhold]
      rfl
  · intro p h hp hhold hcause
    exact ⟨_, exec_debugStep hdark hp, State.debugStep_of_hold hhold hcause⟩
  · exact exec_planStop hdark

end Sys2Proof.Machine
end

section
/-! SUPPORT. What the operations that time and transfers bring about keep of a state: canonical registers and channels, the clocks, the
supply, and Ridgepole. -/

namespace Sys2Proof.Machine

/-! ## What is kept -/

/-- The stores that hold registers and channels stay canonical, and neither a clock nor the supply changes. -/
structure State.keepsForm (s t : State) : Prop where
  regs   : s.regsWf → t.regsWf
  ddr    : spWf DdrChan.reset s.ddr = true → spWf DdrChan.reset t.ddr = true
  clk    : t.clk = s.clk
  supply : t.power.supply = s.power.supply

/-- Ridgepole is kept too. -/
structure State.keepsPlan (s t : State) : Prop extends s.keepsForm t where
  ridge : t.ridge = s.ridge

namespace State.keepsForm

variable {s t u : State}

theorem refl (s : State) : s.keepsForm s := ⟨id, id, rfl, rfl⟩

theorem trans (h : s.keepsForm t) (h' : t.keepsForm u) : s.keepsForm u :=
  ⟨h'.regs ∘ h.regs, h'.ddr ∘ h.ddr, h'.clk.trans h.clk, h'.supply.trans h.supply⟩

theorem setFld (h : s.keepsForm t) (f : RegField) (i x : Nat) : s.keepsForm (t.setFld f i x) :=
  ⟨fun hs => State.regsWf_setFld (h.regs hs) f i x, h.ddr, h.clk, h.supply⟩

theorem foldl {β : Type} {f : State → β → State} (hf : ∀ (t : State) (x : β), t.keepsForm (f t x)) (l : List β) (s : State) :
    s.keepsForm (l.foldl f s) :=
  List.foldlRecOn (motive := s.keepsForm) l f (refl s) fun t h x _ => h.trans (hf t x)

end State.keepsForm

namespace State.keepsPlan

variable {s t u : State}

theorem refl (s : State) : s.keepsPlan s := ⟨.refl s, rfl⟩

theorem trans (h : s.keepsPlan t) (h' : t.keepsPlan u) : s.keepsPlan u :=
  ⟨h.tokeepsForm.trans h'.tokeepsForm, h'.ridge.trans h.ridge⟩

/-- A change of other parts of the state. -/
theorem other (h : s.keepsPlan t) (hregs : u.regs = t.regs) (hddr : u.ddr = t.ddr) (hclk : u.clk = t.clk)
    (hsupply : u.power.supply = t.power.supply) (hridge : u.ridge = t.ridge) : s.keepsPlan u where
  regs hs := by rw [State.regsWf, hregs]; exact h.regs hs
  ddr hs := hddr ▸ h.ddr hs
  clk := hclk.trans h.clk
  supply := hsupply.trans h.supply
  ridge := hridge.trans h.ridge

theorem setReg (h : s.keepsPlan t) (r : RegArr) (i : Nat) (v : BitVec 64) : s.keepsPlan (t.setReg r i v) :=
  ⟨⟨fun hs => State.regsWf_setReg (h.regs hs) r i v, h.ddr, h.clk, h.supply⟩, h.ridge⟩

theorem setFld (h : s.keepsPlan t) (f : RegField) (i x : Nat) : s.keepsPlan (t.setFld f i x) := h.setReg ..

theorem setChan (h : s.keepsPlan t) (ch : Nat) (d : DdrChan) : s.keepsPlan (t.setChan ch d) :=
  ⟨⟨h.regs, fun hs => spWf_spSet (h.ddr hs) ch d, h.clk, h.supply⟩, h.ridge⟩

theorem record (h : s.keepsPlan t) (kind source : Nat) (bs : List Byte) (domain : Nat) :
    s.keepsPlan (t.record kind source bs domain) := by
  obtain ⟨k, hk⟩ := State.recordAt_eq t t.acyc kind source bs domain
  rw [State.record, hk]
  exact h.other rfl rfl rfl rfl rfl

theorem raise (h : s.keepsPlan t) (code detail : Nat) : s.keepsPlan (t.raise code detail) := by
  obtain ⟨p, k, hk⟩ := t.raise_eq code detail
  rw [hk]
  exact h.other rfl rfl rfl rfl rfl

theorem ite {p : Prop} [Decidable p] (ht : s.keepsPlan t) (hu : s.keepsPlan u) : s.keepsPlan (if p then t else u) := by
  split
  · exact ht
  · exact hu

theorem foldl {β : Type} {f : State → β → State} (hf : ∀ (t : State) (x : β), t.keepsPlan (f t x)) (l : List β) (s : State) :
    s.keepsPlan (l.foldl f s) :=
  List.foldlRecOn (motive := s.keepsPlan) l f (refl s) fun t h x _ => h.trans (hf t x)

end State.keepsPlan

/-! ## Vector results, and the passing of ACLK cycles -/

theorem State.vecFlags_keepsPlan (s : State) (c part slot fl : Nat) : s.keepsPlan (s.vecFlags c part slot fl) := by
  unfold State.vecFlags
  split
  · exact .refl s
  · refine (((State.keepsPlan.refl s).setReg ..).setFld ..).setFld .. |>.trans (.foldl (fun t b => ?_) _ _)
    have hraised := State.keepsPlan.ite (p := (part < 2 && vecEventFlags.contains b) = true)
      ((State.keepsPlan.refl t).raise 0x06 (c + 256 * b)) (.refl t)
    exact .ite hraised (hraised.record ..)

theorem State.settleWrite_keepsPlan (s : State) (c : Nat) (w : VecWrite) : s.keepsPlan (s.settleWrite c w) := by
  unfold State.settleWrite
  split
  · exact s.vecFlags_keepsPlan ..
  · exact (State.keepsPlan.refl s).other rfl rfl rfl rfl rfl

theorem State.settleVec_keepsPlan (s : State) (c t : Nat) : s.keepsPlan (s.settleVec c t) := by
  unfold State.settleVec
  refine .ite (.refl s) (State.keepsPlan.trans (t := s.setVec c _) ?_ (.foldl (fun t w => t.settleWrite_keepsPlan c w) _ _))
  exact (State.keepsPlan.refl s).other rfl rfl rfl rfl rfl

theorem State.settleAll_keepsPlan (s : State) : s.keepsPlan s.settleAll :=
  .foldl (fun t c => t.settleVec_keepsPlan c t.clk.aclk) _ _

theorem State.passReplay_keepsPlan (s : State) (dt : Nat) : s.keepsPlan (s.passReplay dt) := by
  unfold State.passReplay
  split
  · exact .ite ((State.keepsPlan.refl s).other rfl rfl rfl rfl rfl) (.refl s)
  · exact .refl s

/-- The clock of ACLK has gone on, and nothing else. -/
def State.aclkOn (s : State) (dt : Nat) : State := { s with clk := { s.clk with aclk := s.clk.aclk + dt } }

/-- Beside its clock, the passing of ACLK cycles counts registers and a bench's position. -/
theorem State.passA_keepsPlan (s : State) (dt : Nat) : (s.aclkOn dt).keepsPlan (s.passA dt) := by
  have hreplay := (s.aclkOn dt).passReplay_keepsPlan dt
  unfold State.passA
  extract_lets clocks clocked replayed stepped held
  have hstep : (s.aclkOn dt).keepsPlan stepped := .ite (hreplay.setFld ..) hreplay
  have hheld : (s.aclkOn dt).keepsPlan held := by
    unfold held
    split
    · exact hstep.trans (.foldl (fun t c => (State.keepsPlan.refl t).setFld ..) _ _)
    · exact hstep
  exact .ite (hheld.setFld ..) hheld

theorem State.tickA_keepsPlan (s : State) (dt : Nat) : (s.aclkOn dt).keepsPlan (s.tickA dt) :=
  (s.passA_keepsPlan dt).trans (State.settleAll_keepsPlan _)

theorem State.tickA_ridge (s : State) (dt : Nat) : (s.tickA dt).ridge = s.ridge := (s.tickA_keepsPlan dt).ridge

theorem State.regsWf_tickA {s : State} (h : s.regsWf) (dt : Nat) : (s.tickA dt).regsWf := (s.tickA_keepsPlan dt).regs h

end Sys2Proof.Machine
end

section
/-! SUPPORT. The end of a hold, condition writes, and reads that clear or pop (R6, R42, R45, Table PL-14). -/

namespace Sys2Proof.Machine

/-! ## The end of a hold -/

section
variable {s : State}

theorem exec_planHoldEnd (hdark : s.coreDark = false) (dt : Nat) {h : Hold} (hhold : (s.tickA dt).ridge.hold = some h) :
    exec (.planHoldEnd dt) s =
      (let gone := (h.causes.filter fun c => (s.tickA dt).causeDone c).map (·.code)
       .next (gone.foldl (fun (t : State) c => t.clearHold c)
        (if gone.contains 3 then (s.tickA dt).debtsPaid else s.tickA dt))) := by
  simp only [exec, execPlanHoldEnd, hdark, Bool.false_eq_true, if_false, hhold]

/-- A cause that ends by its time, of a code whose end nothing else decides. -/
theorem State.causeDone_of_due {c : HoldCause} {d : Nat} (hcode : c.code = 1) (hdue : c.due = some d) (hd : d ≤ s.clk.aclk) :
    s.causeDone c = true := by
  have hpast : decide (d ≤ s.clk.aclk) = true := decide_eq_true hd
  unfold State.causeDone
  split
  · simp [hdue, hpast]
  · simp [hcode, hdue, hpast]

theorem State.fld_holdStatusOver (hregs : s.regsWf) :
    s.holdStatusOver.fld F.PL_STATUS_HOLDING = 0 ∧ s.holdStatusOver.fld F.PL_STATUS_HOLD_CAUSE = 0 := by
  have hset := State.regsWf_setFld hregs F.PL_STATUS_HOLDING 0 0
  unfold State.holdStatusOver
  refine ⟨?_, ?_⟩
  · rw [State.fld_setFld_sep hset _ (by decide), State.fld_setFld_same hregs _ _ _ (by decide)]
    rfl
  · rw [State.fld_setFld_same hset _ _ _ (by decide)]
    rfl

/-- R42: a hold whose last cause clears is over, and joins a log that has room. -/
theorem State.clearHold_last_over {h : Hold} {code : Nat} (hregs : s.regsWf) (hhold : s.ridge.hold = some h)
    (hmem : h.causes.any (·.code == code) = true) (hrest : h.causes.filter (·.code != code) = [])
    (hroom : s.ridge.holdLog.length < 64) :
    (s.clearHold code).held = false ∧ (s.clearHold code).fld F.PL_STATUS_HOLDING = 0 ∧
      (s.clearHold code).fld F.PL_STATUS_HOLD_CAUSE = 0 ∧ (s.clearHold code).ridge.holdLog.length = s.ridge.holdLog.length + 1 := by
  obtain ⟨x, d, k, hs, heq⟩ := State.clearHold_of_last hhold hmem hrest
  obtain ⟨hholding, hcause⟩ := State.fld_holdStatusOver hregs
  rw [heq]
  refine ⟨rfl, hholding, hcause, ?_⟩
  simp [Ridge.holdOver, Nat.not_le.mpr hroom]

end

/-! ## Condition writes -/

/-- The oldest condition write has left the list of those on their way. -/
def State.condTaken (s : State) (rest : List CondWrite) : State := { s with ridge := { s.ridge with condPend := rest } }

section
variable {s : State}

theorem exec_condWriteVisible (hdark : s.coreDark = false) (dt : Nat) {w : CondWrite} {rest : List CondWrite}
    (hpend : (s.tickA dt).ridge.condPend = w :: rest) (hdone : w.done = none) :
    exec (.condWriteVisible dt) s =
      .next (((s.tickA dt).condTaken rest).condNow w.reg w.value) := by
  simp only [exec, execCondWriteVisible, hdark, Bool.false_eq_true, if_false, hpend, hdone]
  rfl

/-- R45: a write of the present cycle, outside replay. -/
theorem State.condNow_of_live (h : s.flag F.FB_STATUS_REPLAYING = false) (n v : Nat) : s.condNow n v = s.condShow n v s.clk.aclk := by
  rw [State.condNow, State.condIn, h]
  rfl

/-- R45: a visible write sets its register; Field Book records it. -/
theorem State.condShow_eq (n v t : Nat) : ∃ old k, s.condShow n v t =
    ({ s with book := k, ridge := { s.ridge with condOld := old } } : State).setFld F.PL_COND_VALUE n v := by
  unfold State.condShow
  extract_lets ridge floor
  obtain ⟨k, hk⟩ := State.recordAt_eq (floor.setFld F.PL_COND_VALUE n v) (floor.setFld F.PL_COND_VALUE n v).acyc 0x09 n
    (words [n, v % 2 ^ 32, floor.fld F.PL_STEP_STEP]) 1
  exact ⟨_, k, hk⟩

/-- R45: a write that leaves the list outside replay is in its register. -/
theorem State.condNow_condTaken (hregs : s.regsWf) (hlive : s.flag F.FB_STATUS_REPLAYING = false) (rest : List CondWrite) (n v : Nat) :
    ((s.condTaken rest).condNow n v).fld F.PL_COND_VALUE n = v % 2 ^ 32 ∧ ((s.condTaken rest).condNow n v).ridge.condPend = rest ∧
      ((s.condTaken rest).condNow n v).mem = s.mem := by
  have hlive' : (s.condTaken rest).flag F.FB_STATUS_REPLAYING = false := hlive
  obtain ⟨old, k, heq⟩ := State.condShow_eq (s := s.condTaken rest) n v s.clk.aclk
  rw [State.condNow_of_live hlive']
  exact heq ▸ ⟨State.fld_setFld_same hregs _ _ _ (by decide), rfl, rfl⟩

end

/-! ## Reads -/

section
variable {s : State}

theorem State.dark_of_coreDark (h : s.coreDark = false) : s.dark = false := by
  have hon : s.power.supply = .on := by simpa [State.coreDark] using h
  simp [State.dark, hon]

theorem exec_rcFieldRead (hdark : s.dark = false) {unit : BitVec 8} {off : BitVec 24} {r : RegArr} {i : Nat}
    (hreg : unitReg unit.toNat off.toNat = some (r, i)) : exec (.rcFieldRead unit off) s = .next (s.viewReg r i).2 := by
  simp only [exec, execRcFieldRead, hdark, Bool.false_eq_true, if_false, hreg]

theorem State.qualRead_of_ne (h : s.active ≠ 4) (r : RegArr) (i : Nat) : s.qualRead r i = s := if_neg h

/-- R6: what a read of a register leaves where no log is popped and S4 does not count. -/
theorem State.viewReg_leaves (hactive : s.active ≠ 4) {r : RegArr} (hlog : r ≠ R.PL_HOLD_LOG) (herr : r ≠ R.DR_ERR_LOG)
    (hpart : r ≠ R.MT_PSTAT) (i : Nat) : (s.viewReg r i).2 = (s.readReg r i).2 := by
  rw [State.viewReg, if_neg hlog, if_neg herr, if_neg hpart, State.qualRead_of_ne hactive]
  by_cases heng : r = R.PL_ENG_STATUS
  · rw [if_pos heng, heng]
    rfl
  · rw [if_neg heng]
    by_cases hplumb : r = R.PB_STATUS
    · rw [if_pos hplumb]
    · rw [if_neg hplumb]
      split
      · rfl
      · rfl

theorem State.readReg_other (r : RegArr) (i : Nat) : (s.readReg r i).2 = { s with regs := (s.readReg r i).2.regs } := by
  unfold State.readReg
  dsimp only
  split
  · rfl
  · rfl

end

/-- Settles O13: the last cause's clearing ends its hold; the two reads and the condition write are read off their definitions. -/
theorem holdsEndAndAreRead : Obligations.HoldsEndAndAreRead := by
  intro s hs hdark
  have hregs : s.regsWf := hs.regs
  refine ⟨?_, ?_, ?_, ?_⟩
  · intro dt h c d hhold hcauses hcode hdue hd hroom
    have hdone := State.causeDone_of_due (s := s.tickA dt) hcode hdue hd
    have hmem : h.causes.any (·.code == 1) = true := by simp [hcauses, hcode]
    have hrest : h.causes.filter (·.code != 1) = [] := by simp [hcauses, hcode]
    have hlog : (s.tickA dt).ridge.holdLog = s.ridge.holdLog := by rw [State.tickA_ridge]
    rw [← hlog] at hroom ⊢
    refine ⟨(s.tickA dt).clearHold 1, ?_, State.clearHold_last_over (State.regsWf_tickA hregs dt) hhold hmem hrest hroom⟩
    rw [exec_planHoldEnd hdark dt hhold]
    simp [hcauses, hdone, hcode]
  · intro e rest hlog
    simp only [exec, execPlHoldLogRead, hdark, Bool.false_eq_true, if_false, State.popHoldLog, hlog]
  · intro dt w rest hpend hdone hreg hlive
    exact ⟨_, exec_condWriteVisible hdark dt hpend hdone, State.condNow_condTaken (State.regsWf_tickA hregs dt) hlive rest _ _⟩
  · intro unit off r i hreg hlog herr hpart hactive
    refine ⟨_, exec_rcFieldRead (State.dark_of_coreDark hdark) hreg, ?_⟩
    rw [State.viewReg_leaves hactive hlog herr hpart]
    refine ⟨fun k hk => ?_, fun r' j hkey => State.reg_readReg_ne hregs (Ne.symm hkey), State.readReg_other r i⟩
    simp [State.reg_readReg_same hregs, hk]

end Sys2Proof.Machine
end

section
/-! SUPPORT. What OPEN-slot service and the lines of transfers keep of a state (R122, R163, R224, R236, R501). -/

namespace Sys2Proof.Machine

/-! ## Lines and lots -/

section
variable {s t : State}

theorem State.keepsPlan.classLines (h : s.keepsPlan t) (part k n : Nat) : s.keepsPlan (t.classLines part k n) :=
  (h.setFld F.SP_CLASS_LINES_LINES k (t.fld F.SP_CLASS_LINES_LINES k + n)).other rfl rfl rfl rfl rfl

theorem State.keepsPlan.lotWritten (h : s.keepsPlan t) (a : Nat) : s.keepsPlan (t.lotWritten a) := by
  have hset : ∀ l e, s.keepsPlan (t.setLot l e) := fun _ _ => h.other rfl rfl rfl rfl rfl
  unfold State.lotWritten
  exact .ite (.ite (hset ..) (.ite (hset ..) h)) h

theorem State.keepsPlan.landUnit (h : s.keepsPlan t) (a : Nat) (bs : List Byte) (poison : Bool) :
    s.keepsPlan (t.landUnit a bs poison) := by
  have hwritten : s.keepsPlan (t.wrMarked a bs poison) := h.other rfl rfl rfl rfl rfl
  unfold State.landUnit
  exact .ite (.ite hwritten (hwritten.setChan ..)) (hwritten.lotWritten a)

end

/-! ## OPEN-slot service -/

theorem State.queueOpens_keepsPlan (s : State) : s.keepsPlan s.queueOpens :=
  .foldl (fun t _ => (State.keepsPlan.refl t).setChan _ _) _ _

theorem State.ringMove_keepsPlan (s : State) (a : Nat) (bs : List Byte) : s.keepsPlan (s.ringMove a bs) := by
  have hwritten : s.keepsPlan (s.wrMarked a bs false) := (State.keepsPlan.refl s).other rfl rfl rfl rfl rfl
  exact hwritten.classLines ..

theorem State.ringDrain_keepsPlan (s : State) (ch i k : Nat) : s.keepsPlan (s.ringDrain ch i k).1 := by
  unfold State.ringDrain
  extract_lets u
  generalize hacc : List.foldl _ (([] : List Sample), k, s) u.ready = acc
  have hfold : s.keepsPlan acc.2.2 := by
    rw [← hacc]
    refine List.foldlRecOn (motive := fun acc : List Sample × Nat × State => s.keepsPlan acc.2.2) _ _ (.refl s) fun acc h g _ => ?_
    dsimp only
    split
    · exact h
    · exact h.trans (State.ringMove_keepsPlan ..)
  obtain ⟨done, k', t⟩ := acc
  dsimp only at hfold ⊢
  split
  · exact hfold.other rfl rfl rfl rfl rfl
  · exact (State.keepsPlan.ite hfold (hfold.trans (State.ringMove_keepsPlan ..))).other rfl rfl rfl rfl rfl

theorem State.portDrain_keepsPlan (s : State) (ch n k : Nat) : s.keepsPlan (s.portDrain ch n k) := by
  refine State.keepsPlan.setFld ?_ _ _ _
  refine List.foldlRecOn (motive := fun acc : State × Nat => s.keepsPlan acc.1) _ _ (.refl s) fun acc h i _ => ?_
  split
  · exact h
  · exact h.trans (State.ringDrain_keepsPlan ..)

theorem State.tlQueueMarker_keepsForm (s : State) (p : Nat) (f : Flit) : s.keepsForm (s.tlQueueMarker p f) := by
  unfold State.tlQueueMarker
  split
  · exact (State.keepsForm.refl s).setFld ..
  · exact ⟨id, id, rfl, rfl⟩

theorem State.setTlPort_keepsPlan (s : State) (p : Nat) (x : TlPort) : s.keepsPlan (s.setTlPort p x) :=
  (State.keepsPlan.refl s).other rfl rfl rfl rfl rfl

theorem State.tlArrive_keepsForm (s : State) (p : Nat) : s.keepsForm (s.tlArrive p) :=
  (State.keepsForm.foldl (fun t f => t.tlQueueMarker_keepsForm p f) _ s).trans (State.setTlPort_keepsPlan ..).tokeepsForm

theorem State.tlLand_keepsPlan (s : State) (f : Flit) : s.keepsPlan (s.tlLand f) := by
  unfold State.tlLand
  dsimp only
  split
  · exact .refl s
  · exact .ite (.refl s) (((State.keepsPlan.refl s).classLines ..).landUnit ..)

theorem State.tetherDrain_keepsForm (s : State) (ch p k : Nat) : s.keepsForm (s.tetherDrain ch p k) :=
  ((State.keepsPlan.foldl (fun t f => t.tlLand_keepsPlan f) _ s).trans (State.setTlPort_keepsPlan ..)).tokeepsForm.trans
    (State.tlArrive_keepsForm ..)

theorem State.serveIngest_keepsForm (s : State) (dt : Nat) : s.keepsForm (s.serveIngest dt) := by
  refine .foldl (fun t ch => ?_) _ s
  split
  · split
    · exact (t.portDrain_keepsPlan ..).tokeepsForm
    · exact t.tetherDrain_keepsForm ..
    · exact .refl t
  · exact .refl t

/-! ## MCLK cycles -/

section
variable {s : State}

theorem State.regsWf_passM (h : s.regsWf) (dt : Nat) : (s.passM dt).regsWf := by
  rw [State.regsWf, State.passM, State.tickM_regs]
  exact (s.queueOpens.serveIngest_keepsForm dt).regs (s.queueOpens_keepsPlan.regs h)

theorem State.ddrWf_passM (h : spWf DdrChan.reset s.ddr = true) (dt : Nat) : spWf DdrChan.reset (s.passM dt).ddr = true := by
  rw [State.passM, State.tickM_ddr]
  exact (s.queueOpens.serveIngest_keepsForm dt).ddr (s.queueOpens_keepsPlan.ddr h)

theorem State.coreDark_passM (dt : Nat) : (s.passM dt).coreDark = s.coreDark := by
  have h := (s.queueOpens_keepsPlan.tokeepsForm.trans (s.queueOpens.serveIngest_keepsForm dt)).supply
  rw [State.coreDark, State.passM, State.tickM_power, h]
  rfl

end

/-! ## Reading lines -/

section
variable (s : State)

theorem State.takeLost_keepsPlan (a : Nat) : s.keepsPlan (s.takeLost a).2 := by
  unfold State.takeLost
  dsimp only
  split
  · exact (State.keepsPlan.refl s).setChan ..
  · exact .refl s

theorem State.violation_keepsPlan (p a : Nat) : s.keepsPlan (s.violation p a) := (State.keepsPlan.refl s).raise ..

theorem State.readPlain_keepsPlan (part a t : Nat) : s.keepsPlan (s.readPlain part a t).2 := by
  unfold State.readPlain
  split
  · have hlost : s.keepsPlan (if a < ddrSize then s.takeLost a else (false, s)).2 := by
      split
      · exact s.takeLost_keepsPlan a
      · exact .refl s
    exact hlost
  · exact s.violation_keepsPlan part a

theorem State.imgFlag_keepsPlan (c desc part b : Nat) : s.keepsPlan (s.imgFlag c desc part b) := by
  have hset := (((State.keepsPlan.refl s).setReg R.PL_IMG_STATUS c (s.reg R.PL_IMG_STATUS c ||| BitVec.ofNat 64 (2 ^ b))).setFld
    F.PL_IMG_STATUS_LAST_DESC c desc).setFld F.PL_IMG_STATUS_LAST_PART c part
  exact (State.keepsPlan.ite (p := part < 2) (hset.raise ..) hset).record ..

theorem State.readImage_keepsPlan (x : Transfer) (d tile g : Nat) : s.keepsPlan (s.readImage x d tile g).2 := by
  unfold State.readImage
  extract_lets desc u halo box barred
  split
  · exact .refl s
  · have hhalo : s.keepsPlan halo := .ite (s.imgFlag_keepsPlan ..) (.refl s)
    have hbox : s.keepsPlan box := .ite (hhalo.trans (State.imgFlag_keepsPlan ..)) hhalo
    have hbarred : s.keepsPlan barred := by
      unfold barred
      split
      · exact hbox.trans (State.violation_keepsPlan ..)
      · exact hbox
    exact hbarred

theorem State.readCodecLine_keepsPlan (part l : Nat) (signed : Bool) : s.keepsPlan (s.readCodecLine part l signed).2.2 := by
  unfold State.readCodecLine
  split
  · exact s.takeLost_keepsPlan l
  · exact s.violation_keepsPlan part l

theorem State.readUnit_keepsPlan (x : Transfer) (k t : Nat) : s.keepsPlan (s.readUnit x k t).2 := by
  unfold State.readUnit
  split
  · exact .refl s
  · exact .refl s
  · split
    · split
      · exact s.readImage_keepsPlan ..
      · exact .refl s
    · split
      · exact .refl s
      · exact s.readPlain_keepsPlan ..

theorem State.readLine_keepsPlan (x : Transfer) (k t : Nat) : s.keepsPlan (s.readLine x k t).2 := by
  unfold State.readLine
  dsimp only
  split
  · split
    · exact .refl s
    · exact s.readCodecLine_keepsPlan ..
  · exact s.readUnit_keepsPlan ..

/-! ## Writing units -/

theorem State.engFlag_keepsPlan (n part slot bit : Nat) (event : Bool) : s.keepsPlan (s.engFlag n part slot bit event) := by
  have hset := (State.keepsPlan.refl s).setReg R.PL_ENG_STATUS n (s.reg R.PL_ENG_STATUS n ||| BitVec.ofNat 64 (2 ^ bit))
  exact (State.keepsPlan.ite (p := (event && decide (part < 2)) = true) (hset.raise ..) hset).record ..

theorem State.noteEdge_keepsPlan (t : Nat) (who : Writer) (a n : Nat) : s.keepsPlan (s.noteEdge t who a n) :=
  (State.keepsPlan.refl s).other rfl rfl rfl rfl rfl

theorem State.storeEdge_keepsPlan (a t : Nat) : s.keepsPlan (s.storeEdge a t) := by
  have hnoted := s.noteEdge_keepsPlan t .transfer a 64
  unfold State.storeEdge
  refine .ite (.ite (hnoted.trans (State.engFlag_keepsPlan ..)) hnoted) (.ite ?_ (.refl s))
  exact hnoted.trans (.foldl (fun u h => u.vecFlags_keepsPlan ..) _ _)

theorem State.storeUnit_keepsPlan (a : Nat) (u : MoveUnit) (t : Nat) : s.keepsPlan (s.storeUnit a u t) := by
  unfold State.storeUnit
  exact .ite ((State.keepsPlan.refl s).landUnit ..) ((s.storeEdge_keepsPlan a t).other rfl rfl rfl rfl rfl)

theorem State.writePlain_keepsPlan (part a : Nat) (u : MoveUnit) (t : Nat) : s.keepsPlan (s.writePlain part a u t) := by
  have hstore := s.storeUnit_keepsPlan a u t
  have hbarred := s.violation_keepsPlan part a
  unfold State.writePlain
  refine .ite (.ite ?_ (.ite hbarred hstore)) hbarred
  split
  · exact hstore
  · exact hbarred
  · exact ((State.keepsPlan.refl s).setFld ..).raise ..

theorem State.writeBroadcast_keepsPlan (x : Transfer) (vc mask row : Nat) (u : MoveUnit) (t : Nat) :
    s.keepsPlan (s.writeBroadcast x vc mask row u t) := by
  unfold State.writeBroadcast
  exact .ite (.foldl (fun v e => v.writePlain_keepsPlan ..) _ s) (s.violation_keepsPlan ..)

theorem State.tlPump_keepsPlan (p : Nat) : s.keepsPlan (s.tlPump p) := .ite (s.setTlPort_keepsPlan ..) (.refl s)

theorem State.tlData_keepsPlan (p part klass off : Nat) (bs : List Byte) : s.keepsPlan (s.tlData p part klass off bs) :=
  (s.setTlPort_keepsPlan ..).trans (State.tlPump_keepsPlan ..)

theorem State.writeUnit_keepsPlan (x : Transfer) (k : Nat) (u : MoveUnit) (t : Nat) : s.keepsPlan (s.writeUnit x k u t) := by
  unfold State.writeUnit
  split
  · exact .refl s
  · exact .refl s
  · refine .ite (.ite ((s.storeEdge_keepsPlan ..).other rfl rfl rfl rfl rfl) (s.violation_keepsPlan ..)) (.ite (s.violation_keepsPlan ..) ?_)
    split
    · exact s.writeBroadcast_keepsPlan ..
    · split
      · exact .ite (s.tlData_keepsPlan ..) (s.violation_keepsPlan ..)
      · exact .ite ((State.keepsPlan.refl s).other rfl rfl rfl rfl rfl) (s.writePlain_keepsPlan ..)

theorem State.writeCodecLine_keepsPlan (part b : Nat) (signed : Bool) (u v : MoveUnit) : s.keepsPlan (s.writeCodecLine part b signed u v) := by
  unfold State.writeCodecLine
  exact .ite ((State.keepsPlan.refl s).landUnit ..) (s.violation_keepsPlan ..)

theorem State.writeLine_keepsPlan (x : Transfer) (k : Nat) (us : List MoveUnit) (t : Nat) : s.keepsPlan (s.writeLine x k us t) := by
  unfold State.writeLine
  split
  · split
    · exact .ite (.refl s) (s.writeCodecLine_keepsPlan ..)
    · exact .refl s
  · exact .foldl (fun v y => v.writeUnit_keepsPlan ..) _ s

/-! ## Lines of a GRANT window -/

theorem State.grantRead_keepsPlan (x : Transfer) (k : Nat) : s.keepsPlan (s.grantRead x k).2 := by
  have hread := s.readLine_keepsPlan x k s.ddrCycle
  unfold State.grantRead
  dsimp only
  split
  · exact hread.trans (.foldl (fun t u => t.writeUnit_keepsPlan ..) _ _)
  · exact hread

theorem State.got_grantRead (x : Transfer) (k : Nat) : (s.grantRead x k).1.got = x.got := by
  unfold State.grantRead
  dsimp only
  split
  · rfl
  · rfl

theorem State.grantWrite_keepsPlan (x : Transfer) (k : Nat) : s.keepsPlan (s.grantWrite x k).2 := by
  unfold State.grantWrite
  split
  · have hread : s.keepsPlan ((x.lineUnits k).foldl (fun (acc : List MoveUnit × State) u =>
        let (v, s) := acc.2.readUnit x u acc.2.ddrCycle
        (acc.1 ++ [v], s)) ([], s)).2 :=
      List.foldlRecOn (motive := fun acc : List MoveUnit × State => s.keepsPlan acc.2) _ _ (.refl s) fun acc h u _ =>
        h.trans (acc.2.readUnit_keepsPlan ..)
    exact hread.trans (State.writeLine_keepsPlan ..)
  · exact s.writeLine_keepsPlan ..

theorem State.got_grantWrite (x : Transfer) (k : Nat) : (s.grantWrite x k).1.got = x.got := by
  unfold State.grantWrite
  split
  · rfl
  · rfl

end

end Sys2Proof.Machine
end

section
/-! SUPPORT. The end of a slot window: what each kind of window serves, and how the next begins (R34, R154, R542). -/

namespace Sys2Proof.Machine

/-! ## Channels -/

section
variable {s t : State} {ch : Nat}

theorem State.chan_setChan_same (h : spWf DdrChan.reset s.ddr = true) (d : DdrChan) : (s.setChan ch d).chan ch = d :=
  spGet_spSet_same _ _ _ _ h

theorem State.chan_setChan_ne (h : spWf DdrChan.reset s.ddr = true) {c : Nat} (hc : c ≠ ch) (d : DdrChan) :
    (s.setChan c d).chan ch = s.chan ch := spGet_spSet_ne _ _ _ _ _ h hc

theorem State.ddrWf_setChan (h : spWf DdrChan.reset s.ddr = true) (d : DdrChan) : spWf DdrChan.reset (s.setChan ch d).ddr = true :=
  spWf_spSet h ch d

theorem State.chan_congr (h : t.ddr = s.ddr) : t.chan ch = s.chan ch := congrArg (fun x => spGet DdrChan.reset x ch) h

theorem State.chan_refresh (h : spWf DdrChan.reset s.ddr = true) (n : Nat) :
    (s.refresh ch n).chan ch = { s.chan ch with debt := (s.chan ch).debt - n } := State.chan_setChan_same h _

theorem State.standalone_congr (hready : (t.chan ch).ready = (s.chan ch).ready) (hregs : t.regs = s.regs) (hridge : t.ridge = s.ridge) :
    t.standalone ch = s.standalone ch := by
  rw [State.standalone, State.standalone, hready, hridge, State.fld_congr hregs]

end

/-! ## Buffered lines -/

theorem takeWhere_length (p : WLine → Bool) (n : Nat) (xs : List WLine) :
    (takeWhere p n xs).2.length = xs.length - min n (xs.countP p) := by
  induction xs generalizing n with
  | nil => simp [takeWhere]
  | cons x xs ih =>
    have hcount := List.countP_le_length (p := p) (l := xs)
    cases n with
    | zero => simp [takeWhere]
    | succ n =>
      rw [takeWhere, List.countP_cons]
      by_cases hx : p x = true
      · simp only [hx, if_true, ih, List.length_cons]
        omega
      · simp only [hx, Bool.false_eq_true, if_false, ih, List.length_cons]
        omega

section
variable {s : State} {ch : Nat}

theorem State.drainWbuf_keepsPlan (s : State) (ch n : Nat) (p : WLine → Bool) : s.keepsPlan (s.drainWbuf ch n p) :=
  ((State.keepsPlan.refl s).setChan ..).setFld ..

theorem State.drainWbuf_eq (s : State) (ch n : Nat) (p : WLine → Bool) : ∃ d r, s.drainWbuf ch n p = { s with ddr := d, regs := r } :=
  ⟨_, _, rfl⟩

theorem State.chan_drainWbuf (h : spWf DdrChan.reset s.ddr = true) (n : Nat) (p : WLine → Bool) : (s.drainWbuf ch n p).chan ch =
    { s.chan ch with
      wbuf := (takeWhere p n (s.chan ch).wbuf).2, sent := (s.chan ch).sent ++ (takeWhere p n (s.chan ch).wbuf).1 } :=
  State.chan_setChan_same h _

theorem State.wbuf_drainWbuf (h : spWf DdrChan.reset s.ddr = true) (n : Nat) (p : WLine → Bool) :
    ((s.drainWbuf ch n p).chan ch).wbuf.length = (s.chan ch).wbuf.length - min n ((s.chan ch).wbuf.countP p) := by
  rw [State.chan_drainWbuf h, takeWhere_length]

theorem State.windowBegins_keepsPlan (s : State) (ch : Nat) : s.keepsPlan (s.windowBegins ch) := (State.keepsPlan.refl s).setChan ..

theorem State.windowBegins_eq (s : State) (ch : Nat) : ∃ d, s.windowBegins ch = { s with ddr := d } := ⟨_, rfl⟩

/-- What the window before wrote has been accepted, and what was forgotten lists failures alone. -/
theorem State.chan_windowBegins (h : spWf DdrChan.reset s.ddr = true) :
    ∃ xs, (s.windowBegins ch).chan ch = { s.chan ch with sent := [], fails := xs } := ⟨_, State.chan_setChan_same h _⟩

end

/-! ## OPEN windows -/

/-- The lines of an OPEN window of `n` lines leave, those that failed first. -/
def State.openDrain (s : State) (ch n : Nat) : State :=
  let redo := min n ((s.chan ch).wbuf.countP (s.chan ch).failed)
  (s.drainWbuf ch redo (s.chan ch).failed).drainWbuf ch (n - redo) fun _ => true

/-- A calibration that is owed is made. -/
def State.zqServed (s : State) (ch : Nat) : State :=
  if (s.chan ch).zqAt + 102400000 ≤ s.clk.mclk then s.setChan ch { s.chan ch with zqAt := s.clk.mclk } else s

theorem State.openWindow_stages (s : State) (ch mcyc : Nat) :
    s.openWindow ch mcyc = ((s.windowBegins ch).openDrain ch (2 * mcyc / 5)).zqServed ch := rfl

section
variable {s : State} {ch : Nat}

theorem State.openDrain_keepsPlan (s : State) (ch n : Nat) : s.keepsPlan (s.openDrain ch n) :=
  (State.drainWbuf_keepsPlan ..).trans (State.drainWbuf_keepsPlan ..)

theorem State.zqServed_keepsPlan (s : State) (ch : Nat) : s.keepsPlan (s.zqServed ch) :=
  .ite ((State.keepsPlan.refl s).setChan ..) (.refl s)

theorem State.openWindow_keepsPlan (s : State) (ch mcyc : Nat) : s.keepsPlan (s.openWindow ch mcyc) := by
  rw [State.openWindow_stages]
  exact ((s.windowBegins_keepsPlan ch).trans (State.openDrain_keepsPlan ..)).trans (State.zqServed_keepsPlan ..)

theorem State.openWindow_eq (s : State) (ch mcyc : Nat) : ∃ d r, s.openWindow ch mcyc = { s with ddr := d, regs := r } := by
  rw [State.openWindow_stages, State.zqServed]
  split
  · exact ⟨_, _, rfl⟩
  · exact ⟨_, _, rfl⟩

/-- All lines may leave an OPEN window, so as many do as it has time for. -/
theorem State.chan_openDrain (h : spWf DdrChan.reset s.ddr = true) (n : Nat) :
    ∃ xs ys, (s.openDrain ch n).chan ch = { s.chan ch with wbuf := xs, sent := ys } ∧ xs.length = (s.chan ch).wbuf.length - n := by
  unfold State.openDrain
  extract_lets redo
  have hwf := (s.drainWbuf_keepsPlan ch redo (s.chan ch).failed).ddr h
  have hlength := State.wbuf_drainWbuf (ch := ch) hwf (n - redo) fun _ => true
  have hfirst := State.wbuf_drainWbuf (ch := ch) h redo (s.chan ch).failed
  rw [State.chan_drainWbuf hwf, State.chan_drainWbuf h] at *
  refine ⟨_, _, rfl, ?_⟩
  simp only [List.countP_true, redo] at *
  omega

theorem State.chan_zqServed (h : spWf DdrChan.reset s.ddr = true) : (s.zqServed ch).chan ch =
    { s.chan ch with zqAt := if (s.chan ch).zqAt + 102400000 ≤ s.clk.mclk then s.clk.mclk else (s.chan ch).zqAt } := by
  unfold State.zqServed
  split
  · exact State.chan_setChan_same h _
  · rfl

/-- What an OPEN window leaves of its channel (R34, R154, Table PL-8). -/
theorem State.chan_openWindow (h : spWf DdrChan.reset s.ddr = true) (mcyc : Nat) :
    ((s.openWindow ch mcyc).chan ch).wbuf.length = (s.chan ch).wbuf.length - 2 * mcyc / 5 ∧
      ((s.openWindow ch mcyc).chan ch).zqAt =
        (if (s.chan ch).zqAt + 102400000 ≤ s.clk.mclk then s.clk.mclk else (s.chan ch).zqAt) ∧
      ((s.openWindow ch mcyc).chan ch).debt = (s.chan ch).debt ∧ ((s.openWindow ch mcyc).chan ch).ready = (s.chan ch).ready := by
  have hbegun := (s.windowBegins_keepsPlan ch).ddr h
  have hdrained := ((s.windowBegins ch).openDrain_keepsPlan ch (2 * mcyc / 5)).ddr hbegun
  have hclk : ((s.windowBegins ch).openDrain ch (2 * mcyc / 5)).clk = s.clk := rfl
  obtain ⟨fs, hfails⟩ := State.chan_windowBegins (ch := ch) h
  obtain ⟨xs, ys, hdrain, hlength⟩ := State.chan_openDrain (ch := ch) hbegun (2 * mcyc / 5)
  rw [State.openWindow_stages, State.chan_zqServed hdrained, hclk, hdrain]
  rw [hfails] at hlength ⊢
  exact ⟨hlength, rfl, rfl, rfl⟩

end

/-! ## Slot words that waited for the end of a hold -/

section
variable {s : State}

/-- The channel differs in its slots alone. -/
def DdrChan.slotsOnly (d e : DdrChan) : Prop := ∃ xs, e = { d with slots := xs }

theorem DdrChan.slotsOnly.refl (d : DdrChan) : d.slotsOnly d := ⟨d.slots, rfl⟩

theorem DdrChan.slotsOnly.trans {d e f : DdrChan} (h : d.slotsOnly e) (h' : e.slotsOnly f) : d.slotsOnly f := by
  obtain ⟨_, rfl⟩ := h
  obtain ⟨xs, rfl⟩ := h'
  exact ⟨xs, rfl⟩

theorem State.queueSlot_slotsOnly (s : State) (c word ch : Nat) : (s.chan ch).slotsOnly ((s.queueSlot c word).chan ch) := by
  unfold State.queueSlot
  split
  · exact .refl _
  · extract_lets d w
    have hlisted : ({ d with slots := d.slots ++ [w] } : DdrChan) ≠ DdrChan.reset := fun h => by
      have hslots := congrArg DdrChan.slots h
      simp [DdrChan.reset] at hslots
    by_cases hc : c = ch
    · subst hc
      exact ⟨d.slots ++ [w], spGet_spSet_same_of_ne _ _ _ hlisted⟩
    · exact ⟨(s.chan ch).slots, spGet_spSet_ne_of_ne _ _ _ _ hlisted hc⟩

theorem State.placeHeld_slotsOnly (s : State) (ch : Nat) : (s.chan ch).slotsOnly (s.placeHeld.chan ch) := by
  unfold State.placeHeld
  split
  · exact .refl _
  · refine List.foldlRecOn (motive := fun acc : State × List (Nat × Nat) => (s.chan ch).slotsOnly (acc.1.chan ch)) _ _ (.refl _)
      fun acc h x _ => ?_
    split
    · exact h.trans (State.queueSlot_slotsOnly ..)
    · exact h

theorem State.placeHeld_of_none (h : s.ridge.heldSlots = [] ∨ s.held = true) : s.placeHeld = s := by
  unfold State.placeHeld
  split
  · rfl
  · next hheld =>
    have hnone := h.resolve_right hheld
    have hridge : { s.ridge with heldSlots := [] } = s.ridge := by rw [← hnone]
    rw [hnone]
    dsimp only [List.foldl_nil]
    rw [hridge]

end

/-! ## The end of a slot window -/

/-- What the window `w` of a channel serves by its end. -/
def State.windowServed (s : State) (ch : Nat) (w : SlotRun) : State :=
  if w.dop = 1 then s.grantWindow ch w
  else if w.dop = 2 then (s.windowBegins ch).refresh ch 1
  else if w.dop = 3 then (s.windowBegins ch).setChan ch { (s.windowBegins ch).chan ch with zqAt := (s.windowBegins ch).clk.mclk }
  else s.openWindow ch w.mcyc

/-- The first of the windows that are left starts. -/
def nextWindows (now : Nat) : List SlotRun → List SlotRun
  | [] => []
  | x :: xs => { x with start := some now } :: xs

/-- The slots of a channel become `xs`, and the controller goes on. -/
def State.slotsNow (s : State) (ch : Nat) (xs : List SlotRun) : State :=
  let t := s.setChan ch { s.chan ch with slots := xs }
  (if t.standalone ch then t.refresh ch 8 else t).placeHeld

/-- The running window `w` of a channel has ended, and the first of the rest starts. -/
def State.slotEnded (s : State) (ch : Nat) (w : SlotRun) (rest : List SlotRun) : State :=
  (s.windowServed ch w).slotsNow ch (nextWindows (s.windowServed ch w).clk.mclk rest)

section
variable {s : State} (hdark : s.coreDark = false) (ch : ChanId) (dt : Nat)
include hdark

theorem exec_slotWindowEnd_of_none (h : ((s.passM dt).chan ch.val).slots = []) : exec (.slotWindowEnd ch dt) s = .next (s.passM dt) := by
  simp only [exec, execSlotWindowEnd, hdark, Bool.false_eq_true, if_false, h]

variable {w : SlotRun} {rest : List SlotRun} (h : ((s.passM dt).chan ch.val).slots = w :: rest)
include h

theorem exec_slotWindowEnd_of_early (hnow : (s.passM dt).clk.mclk < w.start.getD (s.passM dt).clk.mclk + w.mcyc) :
    exec (.slotWindowEnd ch dt) s = .next (s.passM dt) := by
  simp only [exec, execSlotWindowEnd, hdark, Bool.false_eq_true, if_false, h, hnow, if_true]

theorem exec_slotWindowEnd_of_late (hnow : w.start.getD (s.passM dt).clk.mclk + w.mcyc ≤ (s.passM dt).clk.mclk) :
    exec (.slotWindowEnd ch dt) s = .next ((s.passM dt).slotEnded ch.val w rest) := by
  simp only [exec, execSlotWindowEnd, hdark, Bool.false_eq_true, if_false, h, Nat.not_lt.mpr hnow]
  cases rest with
  | nil => rfl
  | cons x xs => rfl

end

section
variable {s : State} {ch : Nat}

/-- Beside Ridgepole's list of held slot words and the channels nothing changes as the next window begins. -/
theorem State.slotsNow_eq (s : State) (ch : Nat) (xs : List SlotRun) :
    ∃ d hs, s.slotsNow ch xs = { s with ddr := d, ridge := { s.ridge with heldSlots := hs } } := by
  unfold State.slotsNow
  extract_lets d t
  obtain ⟨d, hd⟩ : ∃ d, (if t.standalone ch = true then t.refresh ch 8 else t) = { s with ddr := d } := by
    split
    · exact ⟨_, rfl⟩
    · exact ⟨_, rfl⟩
  obtain ⟨d', hs, h⟩ := State.placeHeld_eq { s with ddr := d }
  exact ⟨d', hs, hd ▸ h⟩

/-- The channel as the next window begins, but for slot words that a hold kept. -/
def State.nextChan (s : State) (ch : Nat) (xs : List SlotRun) : DdrChan :=
  { s.chan ch with slots := xs, debt := (s.chan ch).debt - if s.standalone ch then 8 else 0 }

theorem State.chan_slotsNow (h : spWf DdrChan.reset s.ddr = true) (xs : List SlotRun) :
    (s.nextChan ch xs).slotsOnly ((s.slotsNow ch xs).chan ch) ∧
      (s.ridge.heldSlots = [] ∨ s.held = true → (s.slotsNow ch xs).chan ch = s.nextChan ch xs) := by
  unfold State.slotsNow
  extract_lets d t
  have hchan : t.chan ch = { s.chan ch with slots := xs } := State.chan_setChan_same h _
  have hready : (t.chan ch).ready = (s.chan ch).ready := by rw [hchan]
  have hserved : (if t.standalone ch then t.refresh ch 8 else t).chan ch = s.nextChan ch xs := by
    rw [State.nextChan, State.standalone_congr hready rfl rfl]
    split
    · rw [State.chan_refresh (State.ddrWf_setChan h _), hchan]
    · exact hchan
  have hridge : (if t.standalone ch then t.refresh ch 8 else t).ridge = s.ridge := by
    split
    · rfl
    · rfl
  refine ⟨hserved ▸ State.placeHeld_slotsOnly _ _, fun hnone => ?_⟩
  rw [State.placeHeld_of_none (by rwa [State.held, hridge]), hserved]

end

end Sys2Proof.Machine
end

section
/-! SUPPORT. GRANT windows: the lines that they move of a core's running transfer (R122, R154). -/

namespace Sys2Proof.Machine

/-! ## Steps of the running transfer -/

section
variable {s : State} {c : Nat}

theorem State.onHead_keepsPlan (s : State) (c : Nat) {f : Transfer → State → Transfer × State} (hf : ∀ (x : Transfer) (t : State), t.keepsPlan (f x t).2) :
    s.keepsPlan (s.onHead c f) := by
  unfold State.onHead
  split
  · exact .refl s
  · next x rest _ =>
    extract_lets now sched tagged
    have htagged : s.keepsPlan tagged := by
      unfold tagged
      split
      · exact (State.keepsPlan.refl s).other rfl rfl rfl rfl rfl
      · exact .refl s
    exact (htagged.trans (hf x tagged)).other rfl rfl rfl rfl rfl

/-- The transfer at the head takes its step, and those behind it stand. -/
theorem State.queue_onHead {x : Transfer} {rest : List Transfer} (h : s.queue c = x :: rest) (f : Transfer → State → Transfer × State) :
    ∃ t, (s.onHead c f).queue c = (f x t).1 :: rest := by
  unfold State.onHead
  rw [h]
  exact ⟨_, spGet_spSet_same_of_ne _ _ _ (List.cons_ne_nil _ _)⟩

/-- Each step of a fold moves `n` more lines of the head transfer at index `k`, and leaves those behind it. -/
def headMoves {β : Type} (c k n : Nat) (g : State → β → State) : Prop :=
  ∀ (s : State) (l : β) (x : Transfer) (rest : List Transfer), s.queue c = x :: rest →
    ∃ y, (g s l).queue c = y :: rest ∧ y.moved k = x.moved k + n

theorem headMoves.foldl {β : Type} {k n : Nat} {g : State → β → State} (hg : headMoves c k n g) (ls : List β) {x : Transfer}
    {rest : List Transfer} (h : s.queue c = x :: rest) :
    ∃ y, (ls.foldl g s).queue c = y :: rest ∧ y.moved k = x.moved k + n * ls.length := by
  induction ls generalizing s x with
  | nil => exact ⟨x, h, rfl⟩
  | cons l ls ih =>
    obtain ⟨y, hy, hmoved⟩ := hg s l x rest h
    obtain ⟨z, hz, hrest⟩ := ih hy
    exact ⟨z, hz, by rw [hrest, hmoved, List.length_cons]; ring⟩

end

/-! ## Lines -/

/-- A read line of the running transfer has had its time on channel `ch`. -/
def State.readMoved (ch : Nat) (l : Nat × Nat) (x : Transfer) (s : State) : Transfer × State :=
  let (x, s) := s.grantRead x l.2
  ({ x with got := spSet 0 x.got ch (x.moved ch + 1) }, s)

/-- A written line of the running transfer has had its time on channel `ch`. -/
def State.writeMoved (ch : Nat) (l : Nat × Nat) (x : Transfer) (s : State) : Transfer × State :=
  let (x, s) := s.grantWrite x l.2
  ({ x with got := spSet 0 x.got (8 + ch) (x.moved (8 + ch) + 1) }, s)

/-- A lost line of the running transfer is read again. -/
def State.readAgain (l : Nat × Nat) (x : Transfer) (s : State) : Transfer × State :=
  s.grantRead { x with again := x.again.filter fun y => y.1 != l.1 } l.2

/-- A line of the running transfer is written, and enters the buffer. -/
def State.writeBuffered (c ch : Nat) (prot : Bool) (s : State) (l : Nat × Nat) : State :=
  let s := s.onHead c (State.writeMoved ch l)
  s.setChan ch { s.chan ch with wbuf := (s.chan ch).wbuf ++ [⟨l.1, prot, some c⟩] }

theorem State.readMoved_keepsPlan (ch : Nat) (l : Nat × Nat) (x : Transfer) (t : State) : t.keepsPlan (State.readMoved ch l x t).2 :=
  t.grantRead_keepsPlan x l.2

theorem State.writeMoved_keepsPlan (ch : Nat) (l : Nat × Nat) (x : Transfer) (t : State) : t.keepsPlan (State.writeMoved ch l x t).2 :=
  t.grantWrite_keepsPlan x l.2

theorem State.writeBuffered_keepsPlan (c ch : Nat) (prot : Bool) (s : State) (l : Nat × Nat) : s.keepsPlan (s.writeBuffered c ch prot l) :=
  (s.onHead_keepsPlan c (State.writeMoved_keepsPlan ch l)).setChan ..

theorem moved_readMoved (ch : Nat) (l : Nat × Nat) (x : Transfer) (t : State) : (State.readMoved ch l x t).1.moved ch = x.moved ch + 1 := by
  have hgot : (t.grantRead x l.2).1.moved ch = x.moved ch := by rw [Transfer.moved, State.got_grantRead, Transfer.moved]
  exact (spGet_spSet_same_of_ne _ _ _ (Nat.succ_ne_zero _)).trans (congrArg (· + 1) hgot)

theorem moved_writeMoved (ch : Nat) (l : Nat × Nat) (x : Transfer) (t : State) : (State.writeMoved ch l x t).1.moved ch = x.moved ch := by
  have hgot : (t.grantWrite x l.2).1.moved ch = x.moved ch := by rw [Transfer.moved, State.got_grantWrite, Transfer.moved]
  exact (spGet_spSet_ne_of_ne _ _ _ _ (Nat.succ_ne_zero _) (by omega)).trans hgot

theorem readMoved_headMoves (c ch : Nat) : headMoves c ch 1 fun (s : State) l => s.onHead c (State.readMoved ch l) := fun s l x rest h => by
  obtain ⟨t, ht⟩ := State.queue_onHead h (State.readMoved ch l)
  exact ⟨_, ht, moved_readMoved ch l x t⟩

theorem writeBuffered_headMoves (c ch : Nat) (prot : Bool) : headMoves c ch 0 (State.writeBuffered c ch prot) := fun s l x rest h => by
  obtain ⟨t, ht⟩ := State.queue_onHead h (State.writeMoved ch l)
  exact ⟨_, ht, moved_writeMoved ch l x t⟩

/-! ## The window -/

section
variable {s : State}

theorem State.grantWindow_keepsPlan (s : State) (ch : Nat) (w : SlotRun) : s.keepsPlan (s.grantWindow ch w) := by
  unfold State.grantWindow
  extract_lets begun mine d redo redone left x again reread left' reads read left'' prot d' leaving ready writes written
  have hbegun : s.keepsPlan begun := s.windowBegins_keepsPlan ch
  have hredone : s.keepsPlan redone := hbegun.trans (State.drainWbuf_keepsPlan ..)
  have hreread : s.keepsPlan reread :=
    hredone.trans (.foldl (fun t l => t.onHead_keepsPlan w.core fun x u => u.grantRead_keepsPlan ..) _ _)
  have hread : s.keepsPlan read :=
    hreread.trans (.foldl (fun t l => t.onHead_keepsPlan w.core (State.readMoved_keepsPlan ch l)) _ _)
  have hwritten : s.keepsPlan written :=
    hread.trans (.foldl (fun t l => t.writeBuffered_keepsPlan w.core ch prot l) _ _)
  exact (hwritten.trans (State.drainWbuf_keepsPlan ..)).classLines ..

/-- A GRANT window of a core without a transfer moves nothing. -/
theorem State.mem_grantWindow {ch : Nat} {w : SlotRun} (h : s.queue w.core = []) : (s.grantWindow ch w).mem = s.mem := by
  unfold State.grantWindow
  extract_lets begun mine d redo redone left x again reread left' reads read left'' prot d' leaving ready writes written
  have hx : x = none := congrArg List.head? h
  have hagain : again = [] := by simp [again, hx]
  have hreread : reread = redone := by simp [reread, hagain]
  have hreads : reads = [] := by simp [reads, hx]
  have hread : read = redone := by simp [read, hreads, hreread]
  have hqueue : read.queue w.core = [] := by rw [hread]; exact h
  have hwrites : writes = [] := by simp [writes, ready, hqueue]
  have hwritten : written = redone := by simp [written, hwrites, hread]
  rw [hwritten]
  rfl

/-- With no line to write or read again the whole window is for reads, at 2 cycles a line. -/
theorem State.queue_grantWindow {ch : Nat} {w : SlotRun} {x : Transfer} {xs : List Transfer}
    (hddr : spWf DdrChan.reset s.ddr = true) (h : s.queue w.core = x :: xs) (hagain : x.again = []) (hwbuf : (s.chan ch).wbuf = []) :
    ∃ y, (s.grantWindow ch w).queue w.core = y :: xs ∧ y.moved ch = x.moved ch + min (x.readsLeft ch).length (w.mcyc / 2) := by
  unfold State.grantWindow
  extract_lets begun mine d redo redone left x' again reread left' reads read left'' prot d' leaving ready writes written
  have hd : d.wbuf = [] := by
    obtain ⟨fs, hbegun⟩ := State.chan_windowBegins (ch := ch) hddr
    exact (congrArg DdrChan.wbuf hbegun).trans hwbuf
  have hleft : left = w.mcyc := by simp [left, redo, hd]
  have hx : x' = some x := congrArg List.head? h
  have hnone : again = [] := by simp [again, hx, hagain]
  have hreread : reread = redone := by simp [reread, hnone]
  have hreads : reads = (x.readsLeft ch).take (w.mcyc / 2) := by simp [reads, hx, left', hnone, hleft]
  have hlength : reads.length = min (x.readsLeft ch).length (w.mcyc / 2) := by rw [hreads, List.length_take, min_comm]
  have hqueue : reread.queue w.core = x :: xs := by rw [hreread]; exact h
  obtain ⟨y, hy, hmoved⟩ := (readMoved_headMoves w.core ch).foldl reads hqueue
  obtain ⟨z, hz, hkept⟩ := (writeBuffered_headMoves w.core ch prot).foldl writes hy
  refine ⟨z, hz, ?_⟩
  rw [hkept, hmoved, hlength]
  omega

end

/-! ## What each kind of window serves -/

section
variable {s : State}

theorem State.windowServed_keepsPlan (s : State) (ch : Nat) (w : SlotRun) : s.keepsPlan (s.windowServed ch w) := by
  have hbegun := s.windowBegins_keepsPlan ch
  exact .ite (s.grantWindow_keepsPlan ch w) (.ite (hbegun.setChan ..) (.ite (hbegun.setChan ..) (s.openWindow_keepsPlan ..)))

/-- Only a GRANT window reaches beyond the channels and their registers. -/
theorem State.windowServed_eq {w : SlotRun} (h : w.dop ≠ 1) (ch : Nat) : ∃ d r, s.windowServed ch w = { s with ddr := d, regs := r } := by
  rw [State.windowServed, if_neg h]
  split
  · exact ⟨_, _, rfl⟩
  · split
    · exact ⟨_, _, rfl⟩
    · exact s.openWindow_eq ch w.mcyc

section
variable {ch : Nat} {w : SlotRun}

theorem State.windowServed_grant (h : w.dop = 1) : s.windowServed ch w = s.grantWindow ch w := if_pos h

theorem State.windowServed_ref (h : w.dop = 2) : s.windowServed ch w = (s.windowBegins ch).refresh ch 1 := by
  rw [State.windowServed, if_neg (by omega), if_pos h]

theorem State.windowServed_zqcs (h : w.dop = 3) :
    s.windowServed ch w = (s.windowBegins ch).setChan ch { (s.windowBegins ch).chan ch with zqAt := s.clk.mclk } := by
  rw [State.windowServed, if_neg (by omega), if_neg (by omega), if_pos h]
  rfl

theorem State.windowServed_open (h : w.dop = 4) : s.windowServed ch w = s.openWindow ch w.mcyc := by
  rw [State.windowServed, if_neg (by omega), if_neg (by omega), if_neg (by omega)]

/-- A REF window takes one from the debt (R35). -/
theorem State.chan_windowServed_ref (hddr : spWf DdrChan.reset s.ddr = true) (h : w.dop = 2) :
    ((s.windowServed ch w).chan ch).debt = (s.chan ch).debt - 1 ∧ ((s.windowServed ch w).chan ch).ready = (s.chan ch).ready := by
  obtain ⟨fs, hbegun⟩ := State.chan_windowBegins (ch := ch) hddr
  rw [State.windowServed_ref h, State.chan_refresh ((s.windowBegins_keepsPlan ch).ddr hddr), hbegun]
  exact ⟨rfl, rfl⟩

/-- A ZQCS window calibrates. -/
theorem State.chan_windowServed_zqcs (hddr : spWf DdrChan.reset s.ddr = true) (h : w.dop = 3) :
    ((s.windowServed ch w).chan ch).zqAt = s.clk.mclk := by
  rw [State.windowServed_zqcs h, State.chan_setChan_same ((s.windowBegins_keepsPlan ch).ddr hddr)]

end

/-! ## The state after the window -/

variable {ch : Nat} {w : SlotRun} {rest : List SlotRun}

theorem State.slotEnded_eq (s : State) (ch : Nat) (w : SlotRun) (rest : List SlotRun) : ∃ d hs,
    s.slotEnded ch w rest = { s.windowServed ch w with ddr := d, ridge := { (s.windowServed ch w).ridge with heldSlots := hs } } :=
  State.slotsNow_eq ..

theorem State.slotEnded_regs : (s.slotEnded ch w rest).regs = (s.windowServed ch w).regs := by
  obtain ⟨d, hs, h⟩ := s.slotEnded_eq ch w rest
  rw [h]

theorem State.slotEnded_mem : (s.slotEnded ch w rest).mem = (s.windowServed ch w).mem := by
  obtain ⟨d, hs, h⟩ := s.slotEnded_eq ch w rest
  rw [h]

theorem State.slotEnded_stow : (s.slotEnded ch w rest).stow = (s.windowServed ch w).stow := by
  obtain ⟨d, hs, h⟩ := s.slotEnded_eq ch w rest
  rw [h]

section
variable (hddr : spWf DdrChan.reset s.ddr = true)
include hddr

theorem State.slotEnded_slots (hnone : s.ridge.heldSlots = [] ∨ s.held = true) :
    ((s.slotEnded ch w rest).chan ch).slots = nextWindows s.clk.mclk rest := by
  obtain ⟨hform, hridge⟩ := s.windowServed_keepsPlan ch w
  obtain ⟨_, hstands⟩ := State.chan_slotsNow (ch := ch) (hform.ddr hddr) (nextWindows (s.windowServed ch w).clk.mclk rest)
  rw [State.slotEnded, hstands (by rwa [State.held, hridge]), State.nextChan, hform.clk]

/-- Beside the slots the channel keeps what the window served, and standalone service refreshes it (R542). -/
theorem State.slotEnded_chan :
    ((s.slotEnded ch w rest).chan ch).debt =
        ((s.windowServed ch w).chan ch).debt - (if (s.windowServed ch w).standalone ch then 8 else 0) ∧
      ((s.slotEnded ch w rest).chan ch).zqAt = ((s.windowServed ch w).chan ch).zqAt ∧
      ((s.slotEnded ch w rest).chan ch).wbuf = ((s.windowServed ch w).chan ch).wbuf := by
  obtain ⟨⟨xs, hslots⟩, _⟩ := State.chan_slotsNow (ch := ch) ((s.windowServed_keepsPlan ch w).ddr hddr)
    (nextWindows (s.windowServed ch w).clk.mclk rest)
  rw [State.slotEnded, hslots]
  exact ⟨rfl, rfl, rfl⟩

/-- A REF window (R35). -/
theorem State.slotEnded_ref (h : w.dop = 2) :
    ((s.slotEnded ch w rest).chan ch).debt = (s.chan ch).debt - 1 - (if s.standalone ch then 8 else 0) ∧
      (s.slotEnded ch w rest).regs = s.regs := by
  obtain ⟨hdebt, hready⟩ := State.chan_windowServed_ref (ch := ch) hddr h
  have hregs : (s.windowServed ch w).regs = s.regs := by rw [State.windowServed_ref h]; rfl
  have halone := State.standalone_congr hready hregs (s.windowServed_keepsPlan ch w).ridge
  exact ⟨by rw [(State.slotEnded_chan hddr).1, hdebt, halone], State.slotEnded_regs.trans hregs⟩

/-- A ZQCS window (Table PL-8). -/
theorem State.slotEnded_zqcs (h : w.dop = 3) :
    ((s.slotEnded ch w rest).chan ch).zqAt = s.clk.mclk ∧ (s.slotEnded ch w rest).regs = s.regs := by
  have hregs : (s.windowServed ch w).regs = s.regs := by rw [State.windowServed_zqcs h]; rfl
  exact ⟨(State.slotEnded_chan hddr).2.1.trans (State.chan_windowServed_zqcs hddr h), State.slotEnded_regs.trans hregs⟩

/-- An OPEN window (R34, R154). -/
theorem State.slotEnded_open (h : w.dop = 4) :
    ((s.slotEnded ch w rest).chan ch).wbuf.length = (s.chan ch).wbuf.length - 2 * w.mcyc / 5 ∧
      ((s.slotEnded ch w rest).chan ch).zqAt =
        (if (s.chan ch).zqAt + 102400000 ≤ s.clk.mclk then s.clk.mclk else (s.chan ch).zqAt) := by
  obtain ⟨_, hzq, hwbuf⟩ := State.slotEnded_chan (ch := ch) (w := w) (rest := rest) hddr
  obtain ⟨hlength, hzqAt, _, _⟩ := State.chan_openWindow (ch := ch) hddr w.mcyc
  rw [hwbuf, hzq, State.windowServed_open h]
  exact ⟨hlength, hzqAt⟩

/-- A GRANT window (R122). -/
theorem State.slotEnded_grant (h : w.dop = 1) :
    (s.queue w.core = [] → (s.slotEnded ch w rest).mem = s.mem) ∧
      ∀ x xs, s.queue w.core = x :: xs → x.again = [] → (s.chan ch).wbuf = [] → ∃ y, (s.slotEnded ch w rest).queue w.core = y :: xs ∧
        y.moved ch = x.moved ch + min (x.readsLeft ch).length (w.mcyc / 2) := by
  have hserved := State.windowServed_grant (s := s) (ch := ch) h
  refine ⟨fun hnone => ?_, fun x xs hhead hagain hwbuf => ?_⟩
  · rw [State.slotEnded_mem, hserved, State.mem_grantWindow hnone]
  · rw [State.queue, State.slotEnded_stow, hserved]
    exact State.queue_grantWindow hddr hhead hagain hwbuf

end

/-- Only a GRANT window moves memory or transfers. -/
theorem State.slotEnded_other (h : w.dop ≠ 1) : (s.slotEnded ch w rest).mem = s.mem ∧ (s.slotEnded ch w rest).stow = s.stow := by
  obtain ⟨d, r, hserved⟩ := s.windowServed_eq h ch
  rw [State.slotEnded_mem, State.slotEnded_stow, hserved]
  exact ⟨rfl, rfl⟩

end

end Sys2Proof.Machine
end

section
/-! SUPPORT. Refresh, scrubbing, live retraining and queue levels of a DDR4 channel (R35, R158, R161–R163, R221, R542). -/

namespace Sys2Proof.Machine

/-! ## Raised holds -/

section
variable {s : State} {code : Nat} {due : Option Nat}

/-- R42: a raised cause is among those of the hold in effect. -/
theorem State.raiseHold_eq (s : State) (code : Nat) (due : Option Nat) : ∃ x r h, s.raiseHold code due =
    { s with stow := x, regs := r, ridge := { s.ridge with hold := some h } } ∧ h.causes.any (·.code == code) = true := by
  cases hhold : s.ridge.hold with
  | none =>
    rw [State.raiseHold_of_none hhold]
    exact ⟨_, _, s.firstHold code due, rfl, by simp [State.firstHold]⟩
  | some h =>
    simp only [State.raiseHold, State.countMoves_ridge, hhold]
    refine ⟨_, _, _, rfl, ?_⟩
    split
    · next hmem =>
      obtain ⟨c, hc, hcode⟩ := List.any_eq_true.mp hmem
      refine List.any_eq_true.mpr ⟨_, List.mem_map_of_mem hc, ?_⟩
      rw [if_pos hcode]
      exact hcode
    · simp

theorem State.raiseHold_mem : (s.raiseHold code due).mem = s.mem := by
  obtain ⟨x, r, h, heq, _⟩ := s.raiseHold_eq code due
  rw [heq]

theorem State.raiseHold_ddr : (s.raiseHold code due).ddr = s.ddr := by
  obtain ⟨x, r, h, heq, _⟩ := s.raiseHold_eq code due
  rw [heq]

theorem State.raiseHold_clk : (s.raiseHold code due).clk = s.clk := by
  obtain ⟨x, r, h, heq, _⟩ := s.raiseHold_eq code due
  rw [heq]

end

/-! ## Refresh in a hold -/

section
variable {s : State} {ch t : Nat}

theorem State.holdRef_of_claimed (h : s.chanClaimed ch = true) : s.holdRef ch t = s := by
  unfold State.holdRef
  split
  · rfl
  · simp [h]

/-- R35: a hold that starts now has had no time for a REF. -/
theorem State.holdRef_of_new (h : ∀ x, s.ridge.hold = some x → x.start = t) : s.holdRef ch t = s := by
  unfold State.holdRef
  split
  · rfl
  · next x hx =>
    extract_lets d start n
    have hstart : 2 * t ≤ start := h x hx ▸ Nat.le_max_right ..
    have hn : n = 0 := by
      unfold n
      split
      · rfl
      · rw [Nat.div_eq_of_lt (by omega), Nat.min_zero]
    rw [if_pos hn]

/-- The channel differs in its refresh debt, and when its next REF may come, alone. -/
def DdrChan.refsOnly (d e : DdrChan) : Prop := ∃ n x, e = { d with debt := n, refAt := x }

theorem State.holdRef_refsOnly (hddr : spWf DdrChan.reset s.ddr = true) : (s.chan ch).refsOnly ((s.holdRef ch t).chan ch) := by
  unfold State.holdRef
  split
  · exact ⟨_, _, rfl⟩
  · extract_lets d start n
    split
    · exact ⟨_, _, rfl⟩
    · exact ⟨_, _, State.chan_setChan_same hddr _⟩

theorem State.holdRef_keepsPlan (s : State) (ch t : Nat) : s.keepsPlan (s.holdRef ch t) := by
  unfold State.holdRef
  split
  · exact .refl s
  · exact .ite (.refl s) ((State.keepsPlan.refl s).setChan ..)

theorem State.holdRef_mem : (s.holdRef ch t).mem = s.mem := by
  obtain ⟨d, h⟩ := s.holdRef_eq ch t
  rw [h]

theorem State.holdRef_regs : (s.holdRef ch t).regs = s.regs := by
  obtain ⟨d, h⟩ := s.holdRef_eq ch t
  rw [h]

end

/-! ## Debt ticks -/

/-- The debt of a channel has risen by one (R35). -/
def State.debtRaised (s : State) (ch : Nat) : State :=
  s.setChan ch { s.chan ch with
    debt := min 8 ((s.chan ch).debt + 1)
    debtAt := (s.chan ch).debtAt + 3120
    refAt := if (s.chan ch).debt = 0 then max (s.chan ch).refAt (2 * s.clk.aclk) else (s.chan ch).refAt }

/-- A full debt on an unclaimed channel raises a hold. -/
def State.debtHold (s : State) (ch : Nat) : State :=
  if (s.chan ch).debt = 8 ∧ s.chanClaimed ch = false then s.raiseHold 3 (some (s.clk.aclk + 5500)) else s

/-- The controller issues what REF commands the hold in effect has time for by now. -/
def State.holdRefNow (s : State) (ch : Nat) : State := s.holdRef ch s.clk.aclk

/-- The debt of a channel has risen, and is served by the controller itself or in a hold. -/
def State.debtTicked (s : State) (ch : Nat) : State :=
  let v := s.holdRefNow ch
  let t := v.debtRaised ch
  if t.standalone ch then (if (v.chan ch).slots.isEmpty then t.refresh ch 8 else t) else (t.debtHold ch).holdRefNow ch

section
variable {s : State} (hdark : s.coreDark = false) (ch : ChanId) (dt : Nat)
include hdark

theorem exec_refreshDebtTick_of_early
    (h : ((s.passM dt).chan ch.val).ready = false ∨ (s.passM dt).clk.mclk < ((s.passM dt).chan ch.val).debtAt + 3120) :
    exec (.refreshDebtTick ch dt) s = .next (s.passM dt) := by
  have hguard : (((s.passM dt).chan ch.val).ready &&
      decide (((s.passM dt).chan ch.val).debtAt + 3120 ≤ (s.passM dt).clk.mclk)) = false := by
    rcases h with h | h
    · simp [h]
    · simp [Nat.not_le.mpr h]
  simp only [exec, execRefreshDebtTick, hdark, Bool.false_eq_true, if_false, hguard]

section
variable (hready : ((s.passM dt).chan ch.val).ready = true)
  (hdue : ((s.passM dt).chan ch.val).debtAt + 3120 ≤ (s.passM dt).clk.mclk)
include hready hdue

theorem exec_refreshDebtTick_of_late : exec (.refreshDebtTick ch dt) s = .next ((s.passM dt).debtTicked ch.val) := by
  have hguard : (((s.passM dt).chan ch.val).ready &&
      decide (((s.passM dt).chan ch.val).debtAt + 3120 ≤ (s.passM dt).clk.mclk)) = true := by simp [hready, hdue]
  simp only [exec, execRefreshDebtTick, hdark, Bool.false_eq_true, if_false, hguard, if_true]
  generalize s.passM dt = u
  unfold State.debtTicked
  dsimp only
  unfold State.debtRaised State.debtHold State.holdRefNow
  generalize u.holdRef ch.val u.clk.aclk = v
  generalize v.setChan _ _ = t
  simp only [apply_ite Host.Outcome.next]

end
end

/-- The debt that a tick leaves: what a hold has not yet served, and one, to at most 8. -/
def State.debtNext (s : State) (ch : Nat) : Nat := min 8 (((s.holdRef ch s.clk.aclk).chan ch).debt + 1)

/-- The channels as the debt has risen, and nothing else changed. -/
def State.debtUp (s : State) (ch : Nat) : State := (s.holdRefNow ch).debtRaised ch

section
variable {s : State} {ch : Nat}

theorem State.debtUp_eq (s : State) (ch : Nat) : ∃ d, s.debtUp ch = { s with ddr := d } := by
  obtain ⟨d, h⟩ := s.holdRef_eq ch s.clk.aclk
  exact ⟨_, by rw [State.debtUp, State.debtRaised, State.holdRefNow, State.setChan, h]⟩

variable (hddr : spWf DdrChan.reset s.ddr = true)
include hddr

theorem State.debtUp_ddrWf : spWf DdrChan.reset (s.debtUp ch).ddr = true :=
  State.ddrWf_setChan ((s.holdRef_keepsPlan ch s.clk.aclk).ddr hddr) _

theorem State.chan_debtUp : ∃ n x, (s.holdRefNow ch).chan ch = { s.chan ch with debt := n, refAt := x } ∧ ∃ y,
    (s.debtUp ch).chan ch = { s.chan ch with debt := s.debtNext ch, debtAt := (s.chan ch).debtAt + 3120, refAt := y } := by
  obtain ⟨n, x, h⟩ := State.holdRef_refsOnly (ch := ch) (t := s.clk.aclk) hddr
  have hserved : (s.holdRefNow ch).chan ch = { s.chan ch with debt := n, refAt := x } := h
  refine ⟨n, x, h, if n = 0 then max x (2 * (s.holdRefNow ch).clk.aclk) else x, ?_⟩
  have hwf : spWf DdrChan.reset (s.holdRefNow ch).ddr = true := (s.holdRef_keepsPlan ch s.clk.aclk).ddr hddr
  rw [State.debtUp, State.debtRaised, State.chan_setChan_same hwf, hserved, State.debtNext, h]

theorem State.standalone_debtUp : (s.debtUp ch).standalone ch = s.standalone ch := by
  obtain ⟨d, heq⟩ := s.debtUp_eq ch
  obtain ⟨_, _, _, _, hchan⟩ := State.chan_debtUp (ch := ch) hddr
  exact State.standalone_congr (by rw [hchan]) (by rw [heq]) (by rw [heq])

/-- R542: in standalone service a channel between slot windows pays its whole debt. -/
theorem State.debtTicked_standalone (h : s.standalone ch = true) :
    s.debtTicked ch = if (s.chan ch).slots = [] then (s.debtUp ch).refresh ch 8 else s.debtUp ch := by
  obtain ⟨n, x, hserved, _⟩ := State.chan_debtUp (ch := ch) hddr
  have halone : ((s.holdRefNow ch).debtRaised ch).standalone ch = true := (State.standalone_debtUp hddr).trans h
  simp only [State.debtTicked, halone, if_true, hserved, List.isEmpty_iff]
  rfl

/-- R35: under a running plan the debt waits for a REF window or a hold. -/
theorem State.debtTicked_planned (h : s.standalone ch = false) : s.debtTicked ch = ((s.debtUp ch).debtHold ch).holdRefNow ch := by
  have halone : ((s.holdRefNow ch).debtRaised ch).standalone ch = false := (State.standalone_debtUp hddr).trans h
  simp only [State.debtTicked, halone, Bool.false_eq_true, if_false]
  rfl

theorem State.debtHold_of_rest (h : s.debtNext ch ≠ 8 ∨ s.chanClaimed ch = true) : (s.debtUp ch).debtHold ch = s.debtUp ch := by
  obtain ⟨d, heq⟩ := s.debtUp_eq ch
  obtain ⟨_, _, _, _, hchan⟩ := State.chan_debtUp (ch := ch) hddr
  refine if_neg fun ⟨hfull, hfree⟩ => ?_
  rw [hchan] at hfull
  have hclaim : (s.debtUp ch).chanClaimed ch = s.chanClaimed ch := by rw [heq]; rfl
  rw [hclaim] at hfree
  rcases h with h | h
  · exact h hfull
  · exact absurd (hfree.symm.trans h) (by decide)

theorem State.debtHold_of_full (hfull : s.debtNext ch = 8) (hfree : s.chanClaimed ch = false) :
    (s.debtUp ch).debtHold ch = (s.debtUp ch).raiseHold 3 (some (s.clk.aclk + 5500)) := by
  obtain ⟨d, heq⟩ := s.debtUp_eq ch
  obtain ⟨_, _, _, _, hchan⟩ := State.chan_debtUp (ch := ch) hddr
  have hclaim : (s.debtUp ch).chanClaimed ch = s.chanClaimed ch := by rw [heq]; rfl
  have hclk : (s.debtUp ch).clk = s.clk := by rw [heq]
  rw [State.debtHold, if_pos ⟨by rw [hchan]; exact hfull, hclaim.trans hfree⟩, hclk]

end

section
variable {s : State} {ch : Nat}

theorem State.debtHold_ddr (s : State) (ch : Nat) : (s.debtHold ch).ddr = s.ddr := by
  unfold State.debtHold
  split
  · exact State.raiseHold_ddr
  · rfl

theorem State.debtHold_mem (s : State) (ch : Nat) : (s.debtHold ch).mem = s.mem := by
  unfold State.debtHold
  split
  · exact State.raiseHold_mem
  · rfl

variable (hddr : spWf DdrChan.reset s.ddr = true)
include hddr

/-- What every tick leaves: the time of the next one, and memory. -/
theorem State.debtTicked_always :
    ((s.debtTicked ch).chan ch).debtAt = (s.chan ch).debtAt + 3120 ∧ (s.debtTicked ch).mem = s.mem := by
  obtain ⟨d, heq⟩ := s.debtUp_eq ch
  obtain ⟨_, _, _, _, hchan⟩ := State.chan_debtUp (ch := ch) hddr
  have hmem : (s.debtUp ch).mem = s.mem := by rw [heq]
  cases halone : s.standalone ch with
  | true =>
    rw [State.debtTicked_standalone hddr halone]
    split
    · rw [State.chan_refresh (State.debtUp_ddrWf hddr), hchan]
      exact ⟨rfl, hmem⟩
    · rw [hchan]
      exact ⟨rfl, hmem⟩
  | false =>
    have hwf : spWf DdrChan.reset ((s.debtUp ch).debtHold ch).ddr = true := by
      rw [State.debtHold_ddr]
      exact State.debtUp_ddrWf hddr
    obtain ⟨n, x, hserved⟩ := State.holdRef_refsOnly (ch := ch) (t := ((s.debtUp ch).debtHold ch).clk.aclk) hwf
    rw [State.debtTicked_planned hddr halone, State.holdRefNow, State.holdRef_mem, State.debtHold_mem, hserved,
      State.chan_congr (State.debtHold_ddr ..), hchan]
    exact ⟨rfl, hmem⟩

theorem State.debtTicked_alone (h : s.standalone ch = true) :
    ((s.debtTicked ch).chan ch).debt = (if (s.chan ch).slots = [] then 0 else s.debtNext ch) ∧ (s.debtTicked ch).regs = s.regs := by
  obtain ⟨d, heq⟩ := s.debtUp_eq ch
  obtain ⟨_, _, _, _, hchan⟩ := State.chan_debtUp (ch := ch) hddr
  have hregs : (s.debtUp ch).regs = s.regs := by rw [heq]
  have hle : s.debtNext ch - 8 = 0 := Nat.sub_eq_zero_of_le (Nat.min_le_left ..)
  rw [State.debtTicked_standalone hddr h]
  split
  · rw [State.chan_refresh (State.debtUp_ddrWf hddr), hchan]
    exact ⟨hle, hregs⟩
  · rw [hchan]
    exact ⟨rfl, hregs⟩

/-- A claimed channel, or a hold that the tick itself begins, gives no time for a REF. -/
theorem State.debtTicked_debt (h : s.standalone ch = false) (hrest : s.held = false ∨ s.chanClaimed ch = true) :
    ((s.debtTicked ch).chan ch).debt = s.debtNext ch := by
  obtain ⟨d, heq⟩ := s.debtUp_eq ch
  obtain ⟨_, _, _, _, hchan⟩ := State.chan_debtUp (ch := ch) hddr
  have hstands : ((s.debtUp ch).debtHold ch).holdRefNow ch = (s.debtUp ch).debtHold ch := by
    rcases hrest with hrest | hrest
    · have hnone : (s.debtUp ch).ridge.hold = none := by
        rw [heq]
        exact Option.isSome_eq_false_iff.mp hrest |> Option.isNone_iff_eq_none.mp
      refine State.holdRef_of_new fun x hx => ?_
      unfold State.debtHold at hx ⊢
      split at hx
      · next hcond =>
        rw [if_pos hcond, State.raiseHold_clk]
        rw [State.raiseHold_of_none hnone] at hx
        exact congrArg Hold.start (Option.some.inj hx).symm
      · rw [hnone] at hx
        cases hx
    · have hclaim : (s.debtUp ch).chanClaimed ch = true := by rw [heq]; exact hrest
      rw [State.debtHold_of_rest hddr (.inr hrest)]
      exact State.holdRef_of_claimed hclaim
  rw [State.debtTicked_planned hddr h, hstands, State.chan_congr (State.debtHold_ddr ..), hchan]

/-- R35: a full debt raises a REFRESH_DEBT hold, also inside another. -/
theorem State.debtTicked_full (hregs : s.regsWf) (h : s.standalone ch = false) (hfree : s.chanClaimed ch = false)
    (hfull : s.debtNext ch = 8) : ∃ x, (s.debtTicked ch).ridge.hold = some x ∧ x.causes.any (fun c => c.code == 3) = true ∧
      (s.held = false → (s.debtTicked ch).fld F.PL_STATUS_HOLDING = 1 ∧ (s.debtTicked ch).fld F.PL_STATUS_HOLD_CAUSE = 3) := by
  obtain ⟨d, heq⟩ := s.debtUp_eq ch
  obtain ⟨x, r, hold, hraised, hcause⟩ := (s.debtUp ch).raiseHold_eq 3 (some (s.clk.aclk + 5500))
  rw [State.debtTicked_planned hddr h, State.debtHold_of_full hddr hfull hfree]
  refine ⟨hold, ?_, hcause, fun hrest => ?_⟩
  · rw [State.holdRefNow, (State.holdRef_keepsPlan ..).ridge, hraised]
  · have hnone : (s.debtUp ch).ridge.hold = none := by
      rw [heq]
      exact Option.isSome_eq_false_iff.mp hrest |> Option.isNone_iff_eq_none.mp
    have hwf : (s.debtUp ch).regsWf := by rw [heq]; exact hregs
    have hfld := State.fld_raiseHold_of_none hnone hwf (code := 3) (by decide) (some (s.clk.aclk + 5500))
    rw [State.holdRefNow, State.fld_congr State.holdRef_regs, State.fld_congr State.holdRef_regs]
    exact hfld

theorem State.debtTicked_rest (h : s.standalone ch = false) (hrest : s.debtNext ch ≠ 8 ∨ s.chanClaimed ch = true) :
    (s.debtTicked ch).ridge = s.ridge ∧ (s.debtTicked ch).regs = s.regs := by
  obtain ⟨d, heq⟩ := s.debtUp_eq ch
  rw [State.debtTicked_planned hddr h, State.debtHold_of_rest hddr hrest, State.holdRefNow, (State.holdRef_keepsPlan ..).ridge,
    State.holdRef_regs, heq]
  exact ⟨rfl, rfl⟩

end

end Sys2Proof.Machine
end

section
/-! SUPPORT. Standalone service, scrub quota, live retraining and queue levels of a DDR4 channel (R158, R161–R163, R221, R542). -/

namespace Sys2Proof.Machine

/-! ## Standalone service -/

section
variable {s : State}

theorem exec_standaloneService (hdark : s.coreDark = false) (ch : ChanId) (dt : Nat) : exec (.standaloneService ch dt) s =
    .next (if (s.passM dt).standalone ch.val && ((s.passM dt).chan ch.val).slots.isEmpty then
      ((s.passM dt).openWindow ch.val dt).refresh ch.val 8 else s.passM dt) := by
  simp only [exec, execStandaloneService, hdark, Bool.false_eq_true, if_false]

theorem State.refresh_chan {ch : Nat} (hddr : spWf DdrChan.reset s.ddr = true) (n : Nat) :
    ((s.refresh ch n).chan ch).debt = (s.chan ch).debt - n ∧ ((s.refresh ch n).chan ch).zqAt = (s.chan ch).zqAt ∧
      ((s.refresh ch n).chan ch).wbuf = (s.chan ch).wbuf := by
  rw [State.chan_refresh hddr]
  exact ⟨rfl, rfl, rfl⟩

/-- What `dt` cycles of the controller's own service leave. -/
theorem State.chan_ownService {ch : Nat} (hddr : spWf DdrChan.reset s.ddr = true) (dt : Nat) :
    (((s.openWindow ch dt).refresh ch 8).chan ch).debt = (s.chan ch).debt - 8 ∧
      s.clk.mclk < (((s.openWindow ch dt).refresh ch 8).chan ch).zqAt + 102400000 ∧
      (((s.openWindow ch dt).refresh ch 8).chan ch).wbuf.length = (s.chan ch).wbuf.length - 2 * dt / 5 ∧
      ((s.openWindow ch dt).refresh ch 8).mem = s.mem := by
  obtain ⟨hwbuf, hzq, hdebt, _⟩ := State.chan_openWindow (ch := ch) hddr dt
  obtain ⟨d, r, heq⟩ := s.openWindow_eq ch dt
  obtain ⟨hdebt', hzq', hwbuf'⟩ := State.refresh_chan (ch := ch) ((s.openWindow_keepsPlan ch dt).ddr hddr) 8
  refine ⟨by rw [hdebt', hdebt], ?_, by rw [hwbuf', hwbuf], by rw [State.refresh, State.setChan, heq]⟩
  rw [hzq', hzq]
  split
  · omega
  · omega

end

/-! ## Scrub quota -/

/-- A ms of scrubbing has ended (R158). -/
def State.quotaTicked (s : State) (ch : Nat) : State :=
  let t := if 0 < (s.chan ch).quota then s.setFlag F.DR_STATUS_SCRUB_LAG ch else s
  t.setChan ch { s.chan ch with quota := (s.chan ch).quota + t.fld F.DR_SCRUB_RATE ch, quotaAt := (s.chan ch).quotaAt + 800000 }

section
variable {s : State}

theorem exec_scrubQuotaTick (hdark : s.coreDark = false) (ch : ChanId) (dt : Nat) : exec (.scrubQuotaTick ch dt) s =
    if ((s.passM dt).chan ch.val).quotaAt + 800000 ≤ (s.passM dt).clk.mclk then .next ((s.passM dt).quotaTicked ch.val)
    else .next (s.passM dt) := by
  simp only [exec, execScrubQuotaTick, hdark, Bool.false_eq_true, if_false]
  rfl

theorem State.quotaTicked_spec (hregs : s.regsWf) (hddr : spWf DdrChan.reset s.ddr = true) (ch : ChanId) :
    ((s.quotaTicked ch.val).chan ch.val).quota = (s.chan ch.val).quota + s.fld F.DR_SCRUB_RATE ch.val ∧
      (s.quotaTicked ch.val).mem = s.mem ∧ ((s.quotaTicked ch.val).chan ch.val).quotaAt = (s.chan ch.val).quotaAt + 800000 ∧
      (0 < (s.chan ch.val).quota → (s.quotaTicked ch.val).fld F.DR_STATUS_SCRUB_LAG ch.val = 1) := by
  have hsep : F.DR_STATUS_SCRUB_LAG.sep ch.val F.DR_SCRUB_RATE ch.val := by revert ch; decide
  have hrate := State.fld_setFld_sep hregs 1 hsep
  have hmarked : spWf DdrChan.reset (s.setFlag F.DR_STATUS_SCRUB_LAG ch.val).ddr = true := hddr
  unfold State.quotaTicked
  by_cases hleft : 0 < (s.chan ch.val).quota
  · simp only [hleft, if_true]
    rw [State.chan_setChan_same hmarked]
    exact ⟨congrArg _ hrate, rfl, rfl, fun _ => State.fld_setFld_same hregs _ _ _ (by decide)⟩
  · simp only [hleft, if_false]
    rw [State.chan_setChan_same hddr]
    exact ⟨rfl, rfl, rfl, False.elim⟩

end

/-! ## Live retraining -/

theorem retraining_sep_temp (ch : ChanId) : F.DR_STATUS_RETRAINING.sep ch.val F.DR_STATUS_TEMP ch.val := by revert ch; decide
theorem stepsLeft_sep_temp (ch : ChanId) : F.DR_RETRAIN_STEPS_LEFT.sep ch.val F.DR_STATUS_TEMP ch.val := by revert ch; decide
theorem stepsLeft_sep_retraining (ch : ChanId) : F.DR_RETRAIN_STEPS_LEFT.sep ch.val F.DR_STATUS_RETRAINING ch.val := by
  revert ch; decide
theorem temp_sep_dtemp (ch : ChanId) : F.DR_STATUS_TEMP.sep ch.val F.DR_RETRAIN_DTEMP ch.val := by revert ch; decide
theorem temp_sep_trainTemp (ch : ChanId) : F.DR_STATUS_TEMP.sep ch.val F.DR_TRAIN_STATUS_TRAIN_TEMP ch.val := by revert ch; decide
theorem trainTemp_sep_stepsLeft (ch : ChanId) : F.DR_TRAIN_STATUS_TRAIN_TEMP.sep ch.val F.DR_RETRAIN_STEPS_LEFT ch.val := by
  revert ch; decide
theorem trainTemp_sep_retraining (ch : ChanId) : F.DR_TRAIN_STATUS_TRAIN_TEMP.sep ch.val F.DR_STATUS_RETRAINING ch.val := by
  revert ch; decide
theorem retraining_sep_stepsLeft (ch : ChanId) : F.DR_STATUS_RETRAINING.sep ch.val F.DR_RETRAIN_STEPS_LEFT ch.val := by
  revert ch; decide

section
variable {s : State}

/-- A one-bit field that is not 0 is 1. -/
theorem State.fld_of_flag {f : RegField} {i : Nat} (hw : f.w = 1) (h : s.flag f i = true) : s.fld f i = 1 := by
  have hlt := s.fld_lt f i
  have hne : s.fld f i ≠ 0 := by simpa [State.flag] using h
  rw [hw] at hlt
  omega

theorem State.retrainStart_of_running {ch : Nat} (h : s.flag F.DR_STATUS_RETRAINING ch = true) : s.retrainStart ch = s := if_pos h

/-- A retraining of 30 steps begins, and its first step waits for its slot. -/
def State.retrainBegun (s : State) (ch : Nat) : State :=
  let t := (s.setFlag F.DR_STATUS_RETRAINING ch).setFld F.DR_RETRAIN_STEPS_LEFT ch 30
  t.setChan ch { t.chan ch with stepWait := some s.clk.mclk }

theorem State.retrainStart_of_idle {ch : Nat} (h : s.flag F.DR_STATUS_RETRAINING ch = false) : s.retrainStart ch = s.retrainBegun ch :=
  if_neg (by simp [h])

theorem State.stepWait_retrainBegun (hddr : spWf DdrChan.reset s.ddr = true) (ch : Nat) :
    ((s.retrainBegun ch).chan ch).stepWait = some s.clk.mclk := congrArg DdrChan.stepWait (State.chan_setChan_same hddr _)

section
variable (hregs : s.regsWf) (ch : ChanId)
include hregs

theorem State.fld_retrainBegun_other {g : RegField} (hstatus : F.DR_STATUS_RETRAINING.sep ch.val g ch.val)
    (hsteps : F.DR_RETRAIN_STEPS_LEFT.sep ch.val g ch.val) : (s.retrainBegun ch.val).fld g ch.val = s.fld g ch.val :=
  (State.fld_setFld_sep (State.regsWf_setFlag hregs ..) 30 hsteps).trans (State.fld_setFld_sep hregs 1 hstatus)

theorem State.fld_retrainBegun : (s.retrainBegun ch.val).fld F.DR_STATUS_RETRAINING ch.val = 1 ∧
    (s.retrainBegun ch.val).fld F.DR_RETRAIN_STEPS_LEFT ch.val = 30 := by
  have hset := State.regsWf_setFlag hregs F.DR_STATUS_RETRAINING ch.val
  exact ⟨(State.fld_setFld_sep hset 30 (stepsLeft_sep_retraining ch)).trans (State.fld_setFld_same hregs _ _ _ (by decide)),
    State.fld_setFld_same hset _ _ _ (by decide)⟩

theorem State.fld_retrainStart : (s.retrainStart ch.val).fld F.DR_STATUS_RETRAINING ch.val = 1 := by
  cases h : s.flag F.DR_STATUS_RETRAINING ch.val with
  | true =>
    rw [State.retrainStart_of_running h]
    exact State.fld_of_flag rfl h
  | false =>
    rw [State.retrainStart_of_idle h]
    exact (State.fld_retrainBegun hregs ch).1

theorem State.temp_retrainStart : (s.retrainStart ch.val).fld F.DR_STATUS_TEMP ch.val = s.fld F.DR_STATUS_TEMP ch.val := by
  cases h : s.flag F.DR_STATUS_RETRAINING ch.val with
  | true => rw [State.retrainStart_of_running h]
  | false =>
    rw [State.retrainStart_of_idle h]
    exact State.fld_retrainBegun_other hregs ch (retraining_sep_temp ch) (stepsLeft_sep_temp ch)

end

theorem State.retrainStart_mem (ch : Nat) : (s.retrainStart ch).mem = s.mem := by
  cases h : s.flag F.DR_STATUS_RETRAINING ch with
  | true => rw [State.retrainStart_of_running h]
  | false => rw [State.retrainStart_of_idle h]; rfl

theorem exec_drRetrainReq (hdark : s.coreDark = false) (ch : ChanId) : exec (.drRetrainReq ch) s = .next (s.retrainStart ch.val) := by
  simp only [exec, execDrRetrainReq, hdark, Bool.false_eq_true, if_false]

theorem exec_retrainPeriodExpiry (hdark : s.coreDark = false) (ch : ChanId) (dt : Nat) : exec (.retrainPeriodExpiry ch dt) s =
    .next (if (s.passM dt).fld F.DR_RETRAIN_PERIOD ch.val ≠ 0 ∧
        ((s.passM dt).chan ch.val).trainAt + 800000 * (s.passM dt).fld F.DR_RETRAIN_PERIOD ch.val ≤ (s.passM dt).clk.mclk
      then (s.passM dt).retrainStart ch.val else s.passM dt) := by
  simp only [exec, execRetrainPeriodExpiry, hdark, Bool.false_eq_true, if_false]

/-- The devices' temperature, as it is measured. -/
def State.tempNow (s : State) (ch : Nat) (v : BitVec 8) : State := s.setFld F.DR_STATUS_TEMP ch v.toNat

/-- How far the temperature lies from that of the last training. -/
def State.tempDrift (s : State) (ch : Nat) (v : BitVec 8) : Nat :=
  (v.toInt - asSigned 8 (s.fld F.DR_TRAIN_STATUS_TRAIN_TEMP ch)).natAbs

theorem exec_retrainTempDrift (hdark : s.coreDark = false) (ch : ChanId) (v : BitVec 8) : exec (.retrainTempDrift ch v) s =
    .next (if (s.tempNow ch.val v).fld F.DR_RETRAIN_DTEMP ch.val ≤ (s.tempNow ch.val v).tempDrift ch.val v
      then (s.tempNow ch.val v).retrainStart ch.val else s.tempNow ch.val v) := by
  simp only [exec, execRetrainTempDrift, hdark, Bool.false_eq_true, if_false]
  rfl

section
variable (hregs : s.regsWf) (ch : ChanId) (v : BitVec 8)
include hregs

theorem State.fld_tempNow : (s.tempNow ch.val v).fld F.DR_STATUS_TEMP ch.val = v.toNat :=
  (State.fld_setFld_same hregs _ _ _ (by decide)).trans (Nat.mod_eq_of_lt v.isLt)

theorem State.fld_tempNow_other {g : RegField} (hsep : F.DR_STATUS_TEMP.sep ch.val g ch.val) :
    (s.tempNow ch.val v).fld g ch.val = s.fld g ch.val := State.fld_setFld_sep hregs _ hsep

/-- R161: what a new temperature leaves, and when a retraining starts for it. -/
theorem State.tempDrift_spec (t : State)
    (ht : t = if (s.tempNow ch.val v).fld F.DR_RETRAIN_DTEMP ch.val ≤ (s.tempNow ch.val v).tempDrift ch.val v
      then (s.tempNow ch.val v).retrainStart ch.val else s.tempNow ch.val v) :
    t.fld F.DR_STATUS_TEMP ch.val = v.toNat ∧ t.mem = s.mem ∧
      (s.fld F.DR_RETRAIN_DTEMP ch.val ≤ s.tempDrift ch.val v → t.fld F.DR_STATUS_RETRAINING ch.val = 1) := by
  have hwf : (s.tempNow ch.val v).regsWf := State.regsWf_setFld hregs ..
  have hdtemp := State.fld_tempNow_other hregs ch v (temp_sep_dtemp ch)
  have hsame : (s.tempNow ch.val v).tempDrift ch.val v = s.tempDrift ch.val v := by
    rw [State.tempDrift, State.fld_tempNow_other hregs ch v (temp_sep_trainTemp ch), State.tempDrift]
  rw [hdtemp, hsame] at ht
  by_cases hdrift : s.fld F.DR_RETRAIN_DTEMP ch.val ≤ s.tempDrift ch.val v
  · rw [if_pos hdrift] at ht
    rw [ht]
    exact ⟨(State.temp_retrainStart hwf ch).trans (State.fld_tempNow hregs ch v), State.retrainStart_mem _,
      fun _ => State.fld_retrainStart hwf ch⟩
  · rw [if_neg hdrift] at ht
    rw [ht]
    exact ⟨State.fld_tempNow hregs ch v, rfl, fun h => absurd h hdrift⟩

end

/-! ## Steps of a retraining -/

theorem exec_retrainStep (hdark : s.coreDark = false) (ch : ChanId) (dt : Nat) : exec (.retrainStep ch dt) s =
    .next (if (s.passM dt).flag F.DR_STATUS_RETRAINING ch.val && (s.passM dt).stepSlot ch.val
      then (s.passM dt).retrainStepDone ch.val else s.passM dt) := by
  simp only [exec, execRetrainStep, hdark, Bool.false_eq_true, if_false]

theorem State.retrainsDone_of_none (h : s.rings.retrains = []) : s.retrainsDone = s := by
  have hrings : { s.rings with retrains := [] } = s.rings := by rw [← h]
  unfold State.retrainsDone
  simp only [h, List.filter_nil, List.foldl_nil, hrings]

/-- The step count of a retraining goes down by one. -/
def State.stepCounted (s : State) (ch : Nat) : State :=
  s.setFld F.DR_RETRAIN_STEPS_LEFT ch (s.fld F.DR_RETRAIN_STEPS_LEFT ch - 1)

/-- The last step of a retraining ends it. -/
def State.retrainOver (s : State) (ch : Nat) : State :=
  let t := ((s.stepCounted ch).setFld F.DR_STATUS_RETRAINING ch 0).setFld F.DR_TRAIN_STATUS_TRAIN_TEMP ch
    ((s.stepCounted ch).fld F.DR_STATUS_TEMP ch)
  t.setChan ch { t.chan ch with stepWait := none, trainAt := t.clk.mclk }

theorem State.retrainStepDone_of_more {ch : Nat} (h : 1 < s.fld F.DR_RETRAIN_STEPS_LEFT ch) : s.retrainStepDone ch =
    (s.stepCounted ch).setChan ch { (s.stepCounted ch).chan ch with stepWait := some s.clk.mclk } := by
  rw [State.retrainStepDone, if_neg (by omega)]
  rfl

theorem State.retrainStepDone_of_last {ch : Nat} (h : s.fld F.DR_RETRAIN_STEPS_LEFT ch = 1) (hnone : s.rings.retrains = []) :
    s.retrainStepDone ch = s.retrainOver ch := by
  rw [State.retrainStepDone, if_pos (by omega)]
  exact State.retrainsDone_of_none hnone

section
variable (hregs : s.regsWf) (ch : ChanId)
include hregs

theorem State.fld_stepCounted : (s.stepCounted ch.val).fld F.DR_RETRAIN_STEPS_LEFT ch.val = s.fld F.DR_RETRAIN_STEPS_LEFT ch.val - 1 := by
  have hlt : s.fld F.DR_RETRAIN_STEPS_LEFT ch.val < 2 ^ 5 := s.fld_lt ..
  exact (State.fld_setFld_same hregs _ _ _ (by decide)).trans (Nat.mod_eq_of_lt (lt_of_le_of_lt (Nat.sub_le ..) hlt))

theorem State.fld_stepCounted_other {g : RegField} (hsep : F.DR_RETRAIN_STEPS_LEFT.sep ch.val g ch.val) :
    (s.stepCounted ch.val).fld g ch.val = s.fld g ch.val := State.fld_setFld_sep hregs _ hsep

/-- R161, Table DR-14: what the last step leaves. -/
theorem State.retrainOver_spec (hddr : spWf DdrChan.reset s.ddr = true) (h : s.fld F.DR_RETRAIN_STEPS_LEFT ch.val = 1) :
    (s.retrainOver ch.val).fld F.DR_RETRAIN_STEPS_LEFT ch.val = 0 ∧ (s.retrainOver ch.val).fld F.DR_STATUS_RETRAINING ch.val = 0 ∧
      ((s.retrainOver ch.val).chan ch.val).trainAt = s.clk.mclk ∧
      (s.retrainOver ch.val).fld F.DR_TRAIN_STATUS_TRAIN_TEMP ch.val = s.fld F.DR_STATUS_TEMP ch.val ∧
      (s.retrainOver ch.val).mem = s.mem := by
  have hcounted : (s.stepCounted ch.val).regsWf := State.regsWf_setFld hregs ..
  have hended : ((s.stepCounted ch.val).setFld F.DR_STATUS_RETRAINING ch.val 0).regsWf := State.regsWf_setFld hcounted ..
  have htemp := State.fld_stepCounted_other hregs ch (stepsLeft_sep_temp ch)
  have hother : ∀ g, F.DR_TRAIN_STATUS_TRAIN_TEMP.sep ch.val g ch.val → (s.retrainOver ch.val).fld g ch.val =
      ((s.stepCounted ch.val).setFld F.DR_STATUS_RETRAINING ch.val 0).fld g ch.val := fun g hg => State.fld_setFld_sep hended _ hg
  refine ⟨?_, ?_, congrArg DdrChan.trainAt (State.chan_setChan_same hddr _), ?_, rfl⟩
  · rw [hother _ (trainTemp_sep_stepsLeft ch), State.fld_setFld_sep hcounted _ (retraining_sep_stepsLeft ch), State.fld_stepCounted hregs, h]
  · rw [hother _ (trainTemp_sep_retraining ch), State.fld_setFld_same hcounted _ _ _ (by decide)]
    rfl
  · refine (State.fld_setFld_same hended _ _ _ (by decide)).trans ?_
    rw [htemp]
    exact Nat.mod_eq_of_lt (s.fld_lt ..)

end

/-! ## Waiting steps -/

theorem exec_retrainWaitExpiry (hdark : s.coreDark = false) (ch : ChanId) (dt : Nat) {x : Nat}
    (hwait : ((s.passM dt).chan ch.val).stepWait = some x) (hruns : (s.passM dt).flag F.DR_STATUS_RETRAINING ch.val = true)
    (hfree : (s.passM dt).chanClaimed ch.val = false) (hplan : (s.passM dt).standalone ch.val = false) :
    exec (.retrainWaitExpiry ch dt) s =
      .next (if x + (s.passM dt).fld F.DR_RETRAIN_WAIT ch.val ≤ (s.passM dt).clk.mclk
        then (s.passM dt).raiseHold 5 (some ((s.passM dt).clk.aclk + 2500)) else s.passM dt) := by
  simp only [exec, execRetrainWaitExpiry, hdark, Bool.false_eq_true, if_false, hwait, hruns, hfree, hplan, Bool.true_and, Bool.not_false,
    Bool.and_true, decide_eq_true_eq, apply_ite Host.Outcome.next]

end

end Sys2Proof.Machine
end

section
/-! SUPPORT. Queue levels and the regulator's gates (R163, R221–R223), and what serves a DDR4 channel. -/

namespace Sys2Proof.Machine

/-! ## Places of the queue -/

/-- The lines that the entries of a queue hold. -/
def openLines (q : List OpenEntry) : Nat := (q.map (·.lines)).sum

/-- R163: the entries get no more places than there are. -/
theorem openLines_fillPlaces (ws : List (OpenSource × Nat × Bool)) (room : Nat) (es : List OpenEntry) :
    openLines (fillPlaces ws room es) ≤ room := by
  induction es generalizing room with
  | nil => exact Nat.zero_le _
  | cons e es ih =>
    unfold fillPlaces
    extract_lets n
    have hn : n ≤ room := by
      unfold n
      split
      · exact Nat.min_le_left ..
      · exact Nat.zero_le _
    have hrest := ih (room - n)
    simp only [openLines, List.map_cons, List.sum_cons] at hrest ⊢
    omega

/-- One entry's lines count in its class (R219). -/
def countPlace (acc : Nat × Nat) (e : OpenEntry) : Nat × Nat :=
  match e.src with
  | .ingest _ => (acc.1 + e.lines, acc.2)
  | _ => (acc.1, acc.2 + e.lines)

theorem State.occupancy_eq (s : State) (ch : Nat) : s.occupancy ch = (s.chan ch).openq.foldl countPlace (0, 0) := rfl

theorem countPlace_total (acc : Nat × Nat) (e : OpenEntry) : (countPlace acc e).1 + (countPlace acc e).2 = acc.1 + acc.2 + e.lines := by
  unfold countPlace
  split
  · dsimp only; omega
  · dsimp only; omega

theorem foldl_countPlace_total (q : List OpenEntry) (acc : Nat × Nat) :
    (q.foldl countPlace acc).1 + (q.foldl countPlace acc).2 = acc.1 + acc.2 + openLines q := by
  induction q generalizing acc with
  | nil => rfl
  | cons e q ih =>
    rw [List.foldl_cons, ih, countPlace_total, openLines, openLines, List.map_cons, List.sum_cons]
    omega

theorem State.occupancy_total (s : State) (ch : Nat) : (s.occupancy ch).1 + (s.occupancy ch).2 = openLines (s.chan ch).openq := by
  rw [State.occupancy_eq, foldl_countPlace_total]
  omega

section
variable {s : State}

theorem State.openLines_queueOpen (hddr : spWf DdrChan.reset s.ddr = true) (ws : List Waiting) {c ch : Nat}
    (h : ch = c ∨ openLines (s.chan ch).openq ≤ 64) : openLines ((s.queueOpen ws c).chan ch).openq ≤ 64 := by
  unfold State.queueOpen
  by_cases hc : c = ch
  · subst hc
    rw [State.chan_setChan_same hddr]
    exact openLines_fillPlaces ..
  · rw [State.chan_setChan_ne hddr hc]
    exact h.resolve_left (Ne.symm hc)

theorem State.openLines_foldl_queueOpen (hddr : spWf DdrChan.reset s.ddr = true) (ws : List Waiting) {ch : Nat} (l : List Nat)
    (h : ch ∈ l ∨ openLines (s.chan ch).openq ≤ 64) :
    openLines ((l.foldl (fun s ch => s.queueOpen ws ch) s).chan ch).openq ≤ 64 := by
  induction l generalizing s with
  | nil => exact h.resolve_left List.not_mem_nil
  | cons c l ih =>
    have hwf : spWf DdrChan.reset (s.queueOpen ws c).ddr = true := State.ddrWf_setChan hddr _
    refine ih hwf ?_
    rcases h with h | h
    · rcases List.mem_cons.mp h with h | h
      · exact .inr (State.openLines_queueOpen hddr ws (.inl h))
      · exact .inl h
    · exact .inr (State.openLines_queueOpen hddr ws (.inr h))

/-- R163: the queue of a channel holds at most 64 lines. -/
theorem State.occupancy_le (hddr : spWf DdrChan.reset s.ddr = true) (ch : ChanId) :
    (s.queueOpens.occupancy ch.val).1 + (s.queueOpens.occupancy ch.val).2 ≤ 64 := by
  rw [State.occupancy_total]
  exact State.openLines_foldl_queueOpen hddr _ _ (.inl (List.mem_range.mpr ch.isLt))

theorem State.queueOpens_eq (s : State) : ∃ d, s.queueOpens = { s with ddr := d } :=
  List.foldlRecOn (motive := fun t : State => ∃ d, t = { s with ddr := d }) _ _ ⟨s.ddr, rfl⟩ fun t h ch _ => by
    obtain ⟨d, rfl⟩ := h
    exact ⟨_, rfl⟩

end

/-! ## DR_QLEVEL -/

theorem RegField.get_ofNat (f : RegField) {x : Nat} (hx : x < 2 ^ 64) : f.get (BitVec.ofNat 64 x) = x / 2 ^ f.lo % 2 ^ f.w := by
  rw [RegField.get, BitVec.extractLsb'_toNat, BitVec.toNat_ofNat, Nat.mod_eq_of_lt hx, Nat.shiftRight_eq_div_pow]

/-- The register shows the level and the lines of its queue. -/
def State.levelShown (s : State) (ch : Nat) : State :=
  s.setReg R.DR_QLEVEL ch (BitVec.ofNat 64 (s.queueLevel ch ((s.occupancy ch).1 + (s.occupancy ch).2) +
    (s.occupancy ch).1 * 2 ^ 2 + (s.occupancy ch).2 * 2 ^ 9))

/-- R221: the effective levels of the channels. -/
def State.levelTable (s : State) : List (Nat × Nat) :=
  (List.range 8).foldl (fun t c => spSet 0 t c (max (s.fld F.DR_QLEVEL_LEVEL c) s.urgency)) s.sched.level

/-- Every channel's effective level follows. -/
def State.levelsSent (s : State) : State := { s with sched := { s.sched with level := s.levelTable } }

section
variable {s : State}

theorem exec_effectiveLevelUpdate (hdark : s.coreDark = false) (ch : ChanId) (occ1 occ3 : BitVec 7) :
    exec (.effectiveLevelUpdate ch occ1 occ3) s = .next (s.queueOpens.levelShown ch.val).levelsSent.regStatus.gatesLifted := by
  simp only [exec, execEffectiveLevelUpdate, hdark, Bool.false_eq_true, if_false]
  rfl

theorem State.queueLevel_lt (s : State) (ch n : Nat) : s.queueLevel ch n < 4 := by
  unfold State.queueLevel
  split
  · decide
  · split
    · decide
    · split
      · decide
      · decide

theorem State.fld_levelShown (hregs : s.regsWf) (ch : Nat) (hfit : (s.occupancy ch).1 + (s.occupancy ch).2 ≤ 64) :
    (s.levelShown ch).fld F.DR_QLEVEL_LEVEL ch = s.queueLevel ch ((s.occupancy ch).1 + (s.occupancy ch).2) ∧
      (s.levelShown ch).fld F.DR_QLEVEL_OCC_C1 ch = (s.occupancy ch).1 ∧
      (s.levelShown ch).fld F.DR_QLEVEL_OCC_C3 ch = (s.occupancy ch).2 := by
  have hlevel := s.queueLevel_lt ch ((s.occupancy ch).1 + (s.occupancy ch).2)
  have hreg : (s.levelShown ch).reg R.DR_QLEVEL ch = _ := State.reg_setReg_same hregs _ _ _
  generalize s.queueLevel ch ((s.occupancy ch).1 + (s.occupancy ch).2) = l at *
  generalize (s.occupancy ch).1 = a at *
  generalize (s.occupancy ch).2 = b at *
  have hx : l + a * 2 ^ 2 + b * 2 ^ 9 < 2 ^ 64 := by omega
  refine ⟨?_, ?_, ?_⟩
  · refine (congrArg F.DR_QLEVEL_LEVEL.get hreg).trans ((RegField.get_ofNat _ hx).trans ?_)
    simp only [F.DR_QLEVEL_LEVEL]
    omega
  · refine (congrArg F.DR_QLEVEL_OCC_C1.get hreg).trans ((RegField.get_ofNat _ hx).trans ?_)
    simp only [F.DR_QLEVEL_OCC_C1]
    omega
  · refine (congrArg F.DR_QLEVEL_OCC_C3.get hreg).trans ((RegField.get_ofNat _ hx).trans ?_)
    simp only [F.DR_QLEVEL_OCC_C3]
    omega

/-! ## Effective levels and gates -/

theorem spGet_foldl_spSet {α : Type} [DecidableEq α] {d : α} (v : Nat → α) (l : List Nat) {t : List (Nat × α)} (ht : spWf d t = true)
    {c : Nat} (h : c ∈ l ∨ spGet d t c = v c) : spGet d (l.foldl (fun t c => spSet d t c (v c)) t) c = v c := by
  induction l generalizing t with
  | nil => exact h.resolve_left List.not_mem_nil
  | cons x l ih =>
    refine ih (spWf_spSet ht x (v x)) ?_
    by_cases hx : c = x
    · exact .inr (by rw [hx]; exact spGet_spSet_same _ _ _ _ ht)
    · refine h.imp (fun h => (List.mem_cons.mp h).resolve_left hx) fun h => ?_
      rw [spGet_spSet_ne _ _ _ _ _ ht (Ne.symm hx)]
      exact h

/-- No source's urgency stands in a register of a channel's queue. -/
theorem qlevel_key_ne_urgency (ch : ChanId) : R.DR_QLEVEL.key ch.val ≠ R.FB_STATUS.key 0 ∧
    ∀ n ∈ List.range 27, R.DR_QLEVEL.key ch.val ≠ R.SN_PORT_STATUS.key n := by revert ch; decide

theorem State.urgency_setReg (hregs : s.regsWf) {r : RegArr} {i : Nat} (v : BitVec 64) (hbook : r.key i ≠ R.FB_STATUS.key 0)
    (hports : ∀ n ∈ List.range 27, r.key i ≠ R.SN_PORT_STATUS.key n) : (s.setReg r i v).urgency = s.urgency := by
  have hb : (s.setReg r i v).fld F.FB_STATUS_URGENCY = s.fld F.FB_STATUS_URGENCY :=
    congrArg F.FB_STATUS_URGENCY.get (State.reg_setReg_ne hregs v hbook)
  have hp : ∀ n ∈ List.range 27, (s.setReg r i v).fld F.SN_PORT_STATUS_URGENCY n = s.fld F.SN_PORT_STATUS_URGENCY n := fun n hn =>
    congrArg F.SN_PORT_STATUS_URGENCY.get (State.reg_setReg_ne hregs v (hports n hn))
  rw [State.urgency, State.urgency, hb, List.foldl_ext _ _ _ fun m n hn => by rw [hp n hn]]

theorem regStatus_key_ne_qlevel : ∀ c < 8, R.SP_REG_STATUS.key 0 ≠ R.DR_QLEVEL.key c := by decide

/-- The gates change Ridgepole alone. -/
theorem State.gatesLifted_eq (s : State) : ∃ r, s.gatesLifted = { s with ridge := r } := by
  unfold State.gatesLifted
  split
  · exact ⟨_, rfl⟩
  · exact ⟨s.ridge, rfl⟩

theorem State.c2Gated_gatesLifted (s : State) (c : Nat) : s.gatesLifted.c2Gated c = s.c2Gated c := by
  obtain ⟨r, h⟩ := s.gatesLifted_eq
  rw [h]
  rfl

/-- R223: a fill stream that waits goes on once no channel it waits for has its gate. -/
theorem State.regWaiting_gatesLifted (h : s.ridge.regWaiting = true) :
    s.gatesLifted.ridge.regWaiting = !((bitsOf 8 s.ridge.regChans).all fun c => !(s.gatesLifted.c2Gated c)) := by
  simp only [State.c2Gated_gatesLifted]
  unfold State.gatesLifted
  rw [h, Bool.true_and]
  split
  · next hfree => rw [hfree]; rfl
  · next hgated => rw [Bool.not_eq_true _ |>.mp hgated]; exact h

/-- A field of DR_QLEVEL as the level of one channel has reached the regulator. -/
theorem State.fld_regStatus_qlevel (hregs : s.regsWf) {f : RegField} (hf : f.reg = R.DR_QLEVEL) {c : Nat} (hc : c < 8) :
    s.regStatus.gatesLifted.fld f c = s.fld f c := by
  obtain ⟨r, h⟩ := s.regStatus.gatesLifted_eq
  rw [h]
  refine congrArg f.get ?_
  rw [hf]
  exact State.reg_setReg_ne hregs _ (regStatus_key_ne_qlevel c hc)

theorem State.level_levelsSent (hlevel : spWf 0 s.sched.level = true) {c : Nat} (hc : c < 8) :
    s.levelsSent.level c = max (s.fld F.DR_QLEVEL_LEVEL c) s.urgency :=
  spGet_foldl_spSet (fun c => max (s.fld F.DR_QLEVEL_LEVEL c) s.urgency) _ hlevel (.inl (List.mem_range.mpr hc))

theorem State.level_regStatus (s : State) (c : Nat) : s.regStatus.gatesLifted.level c = s.level c := by
  obtain ⟨r, h⟩ := s.regStatus.gatesLifted_eq
  rw [h]
  rfl

end

end Sys2Proof.Machine
end

section
/-! SUPPORT. A level update as a whole, and the statement about a DDR4 channel's service. -/

namespace Sys2Proof.Machine

/-! ## A level update as a whole -/

/-- The level of a channel's queue has reached the regulator, and the gates follow. -/
def State.levelUpdated (s : State) (ch : Nat) : State := (s.queueOpens.levelShown ch).levelsSent.regStatus.gatesLifted

section
variable {s : State}

theorem State.queueLevel_queueOpens (ch n : Nat) : s.queueOpens.queueLevel ch n = s.queueLevel ch n := by
  obtain ⟨d, h⟩ := s.queueOpens_eq
  rw [h]
  rfl

theorem State.levelUpdated_mem (ch : Nat) : (s.levelUpdated ch).mem = s.mem := by
  obtain ⟨d, h⟩ := s.queueOpens_eq
  obtain ⟨r, hr⟩ := (s.queueOpens.levelShown ch).levelsSent.regStatus.gatesLifted_eq
  rw [State.levelUpdated, hr, h]
  rfl

/-- R223. -/
theorem State.levelUpdated_waiting (ch : Nat) (h : s.ridge.regWaiting = true) :
    (s.levelUpdated ch).ridge.regWaiting = !((bitsOf 8 s.ridge.regChans).all fun c => !((s.levelUpdated ch).c2Gated c)) := by
  have hridge : (s.queueOpens.levelShown ch).levelsSent.regStatus.ridge = s.ridge := s.queueOpens_keepsPlan.ridge
  have hlift := State.regWaiting_gatesLifted (s := (s.queueOpens.levelShown ch).levelsSent.regStatus) (by rw [hridge]; exact h)
  rw [hridge] at hlift
  exact hlift

section
variable (hregs : s.regsWf) (ch : ChanId)
include hregs

theorem State.levelShown_regsWf : (s.queueOpens.levelShown ch.val).regsWf := State.regsWf_setReg (s.queueOpens_keepsPlan.regs hregs) ..

theorem State.fld_levelUpdated {f : RegField} (hf : f.reg = R.DR_QLEVEL) {c : Nat} (hc : c < 8) :
    (s.levelUpdated ch.val).fld f c = (s.queueOpens.levelShown ch.val).fld f c :=
  State.fld_regStatus_qlevel (s := (s.queueOpens.levelShown ch.val).levelsSent) (State.levelShown_regsWf hregs ch) hf hc

/-- R163: DR_QLEVEL as an update leaves it. -/
theorem State.qlevel_levelUpdated (hddr : spWf DdrChan.reset s.ddr = true) :
    (s.levelUpdated ch.val).fld F.DR_QLEVEL_LEVEL ch.val =
        s.queueLevel ch.val ((s.queueOpens.occupancy ch.val).1 + (s.queueOpens.occupancy ch.val).2) ∧
      (s.levelUpdated ch.val).fld F.DR_QLEVEL_OCC_C1 ch.val = (s.queueOpens.occupancy ch.val).1 ∧
      (s.levelUpdated ch.val).fld F.DR_QLEVEL_OCC_C3 ch.val = (s.queueOpens.occupancy ch.val).2 := by
  obtain ⟨hlevel, hc1, hc3⟩ := State.fld_levelShown (s.queueOpens_keepsPlan.regs hregs) ch.val (State.occupancy_le hddr ch)
  refine ⟨?_, ?_, ?_⟩
  · rw [State.fld_levelUpdated hregs ch rfl ch.isLt, hlevel, State.queueLevel_queueOpens]
  · rw [State.fld_levelUpdated hregs ch rfl ch.isLt, hc1]
  · rw [State.fld_levelUpdated hregs ch rfl ch.isLt, hc3]

/-- R221: the effective level is the larger of the queue's and the sources'. -/
theorem State.level_levelUpdated (hlevel : spWf 0 s.sched.level = true) {c : Nat} (hc : c < 8) :
    (s.levelUpdated ch.val).level c = max ((s.levelUpdated ch.val).fld F.DR_QLEVEL_LEVEL c) s.urgency := by
  obtain ⟨hbook, hports⟩ := qlevel_key_ne_urgency ch
  obtain ⟨d, h⟩ := s.queueOpens_eq
  have hsched : (s.queueOpens.levelShown ch.val).sched = s.sched := by rw [h]; rfl
  have hurgency : (s.queueOpens.levelShown ch.val).urgency = s.urgency :=
    (State.urgency_setReg (s.queueOpens_keepsPlan.regs hregs) _ hbook hports).trans (by rw [h]; rfl)
  rw [State.levelUpdated, State.level_regStatus, State.level_levelsSent (by rw [hsched]; exact hlevel) hc, hurgency,
    ← State.fld_levelUpdated hregs ch rfl hc, State.levelUpdated]

end
end

/-! ## The statement -/

/-- Settles O29: each command, after its time has passed, is one change of its channel, whose registers and service the lemmas above
give. -/
theorem ddrChannelsAreServed : Obligations.DdrChannelsAreServed := by
  intro s u ch dt hs hdark hu
  have hregs : s.regsWf := hs.regs
  have hddr : spWf DdrChan.reset s.ddr = true := hs.ddr
  have huregs : u.regsWf := hu ▸ State.regsWf_passM hregs dt
  have huddr : spWf DdrChan.reset u.ddr = true := hu ▸ State.ddrWf_passM hddr dt
  have hudark : u.coreDark = false := by rw [hu, State.coreDark_passM, hdark]
  refine ⟨?_, ?_, ?_, ?_, ?_, ?_, ?_, ?_, ?_, ?_⟩
  -- SLOT_WINDOW_END
  · refine ⟨fun h => by subst hu; exact exec_slotWindowEnd_of_none hdark ch dt h, fun w rest h => ⟨fun hnow => ?_, fun hnow => ?_⟩⟩
    · subst hu
      exact exec_slotWindowEnd_of_early hdark ch dt h hnow
    · refine ⟨u.slotEnded ch.val w rest, by subst hu; exact exec_slotWindowEnd_of_late hdark ch dt h hnow, fun hnone => ?_,
        State.slotEnded_other, State.slotEnded_ref huddr, State.slotEnded_zqcs huddr, State.slotEnded_open huddr,
        State.slotEnded_grant huddr⟩
      rw [State.slotEnded_slots huddr hnone]
      cases rest with
      | nil => rfl
      | cons x xs => rfl
  -- REFRESH_DEBT_TICK
  · refine ⟨fun h => by subst hu; exact exec_refreshDebtTick_of_early hdark ch dt h, fun hready hdue => ?_⟩
    obtain ⟨hdebtAt, hmem⟩ := State.debtTicked_always (ch := ch.val) huddr
    refine ⟨u.debtTicked ch.val, by subst hu; exact exec_refreshDebtTick_of_late hdark ch dt hready hdue, hdebtAt, hmem,
      State.debtTicked_alone huddr, State.debtTicked_debt huddr, fun halone hfree hfull => ?_, State.debtTicked_rest huddr⟩
    exact State.debtTicked_full huddr huregs halone hfree hfull
  -- STANDALONE_SERVICE
  · rw [exec_standaloneService hdark, ← hu]
    refine ⟨fun halone hslots => ⟨_, rfl, ?_⟩, fun h => ?_⟩
    · rw [halone, hslots]
      exact State.chan_ownService huddr dt
    · have hguard : (u.standalone ch.val && (u.chan ch.val).slots.isEmpty) = false := by
        rcases h with h | h
        · simp [h]
        · simp [h]
      rw [hguard]
      rfl
  -- SCRUB_QUOTA_TICK
  · rw [exec_scrubQuotaTick hdark, ← hu]
    refine ⟨fun hdue => ⟨_, if_pos hdue, State.quotaTicked_spec huregs huddr ch⟩, fun hearly => if_neg (Nat.not_le.mpr hearly)⟩
  -- DR_RETRAIN_REQ
  · rw [exec_drRetrainReq hdark]
    refine ⟨fun hruns => by rw [State.retrainStart_of_running hruns], fun hidle => ⟨_, rfl, State.retrainStart_mem _, ?_⟩⟩
    obtain ⟨hruns, hsteps⟩ := State.fld_retrainBegun hregs ch
    rw [State.retrainStart_of_idle hidle]
    exact ⟨hruns, hsteps, State.stepWait_retrainBegun hddr _⟩
  -- RETRAIN_PERIOD_EXPIRY
  · rw [exec_retrainPeriodExpiry hdark, exec_drRetrainReq hudark, ← hu]
    refine ⟨fun hperiod hdue => by rw [if_pos ⟨hperiod, hdue⟩], fun h => by rw [if_neg]; omega⟩
  -- RETRAIN_TEMP_DRIFT
  · exact fun v => ⟨_, exec_retrainTempDrift hdark ch v, State.tempDrift_spec hregs ch v _ rfl⟩
  -- RETRAIN_STEP
  · rw [exec_retrainStep hdark, ← hu]
    refine ⟨fun hruns hslot hmore => ⟨_, rfl, ?_⟩, fun hruns hslot hlast hnone => ⟨_, rfl, ?_⟩, fun h => ?_⟩
    · rw [hruns, hslot, State.retrainStepDone_of_more hmore]
      have hcounted : (u.stepCounted ch.val).fld F.DR_RETRAIN_STEPS_LEFT ch.val + 1 = u.fld F.DR_RETRAIN_STEPS_LEFT ch.val := by
        rw [State.fld_stepCounted huregs]
        omega
      exact ⟨hcounted, (State.fld_stepCounted_other huregs ch (stepsLeft_sep_retraining ch)).trans (State.fld_of_flag rfl hruns), rfl⟩
    · rw [hruns, hslot, State.retrainStepDone_of_last hlast hnone]
      exact State.retrainOver_spec huregs ch huddr hlast
    · have hguard : (u.flag F.DR_STATUS_RETRAINING ch.val && u.stepSlot ch.val) = false := by
        rcases h with h | h
        · simp [h]
        · simp [h]
      rw [hguard]
      rfl
  -- RETRAIN_WAIT_EXPIRY
  · intro x hwait hruns hfree hplan
    have hexec : exec (.retrainWaitExpiry ch dt) s = .next (if x + u.fld F.DR_RETRAIN_WAIT ch.val ≤ u.clk.mclk
        then u.raiseHold 5 (some (u.clk.aclk + 2500)) else u) := by
      subst hu
      exact exec_retrainWaitExpiry hdark ch dt hwait hruns hfree hplan
    exact ⟨fun hdue => by rw [hexec, if_pos hdue], fun hearly => by rw [hexec, if_neg (Nat.not_le.mpr hearly)]⟩
  -- EFFECTIVE_LEVEL_UPDATE
  · intro occ1 occ3
    obtain ⟨hlevel, hc1, hc3⟩ := State.qlevel_levelUpdated hregs ch hddr
    exact ⟨s.levelUpdated ch.val, exec_effectiveLevelUpdate hdark ch occ1 occ3, State.levelUpdated_mem _, hc1, hc3, hlevel,
      fun hwf c hc => State.level_levelUpdated hregs ch hwf hc, State.levelUpdated_waiting _⟩

end Sys2Proof.Machine
end

section
/-! SUPPORT. Tabulated tables, and the engine part of a slice by itself (R39, R46, R54, R57, Table EA-1). -/

namespace Sys2Proof.Machine

/-! ## Tabulated tables -/

section
variable {α : Type} [DecidableEq α] {d : α} {f : Nat → α}

/-- A table of `f` over rising keys holds `f` at those keys and the default elsewhere. -/
theorem spGet_filterMap (l : List Nat) (hl : l.Pairwise (· < ·)) (a : Nat) :
    spGet d (l.filterMap fun k => if f k = d then none else some (k, f k)) a = if a ∈ l then f a else d := by
  induction l with
  | nil => rfl
  | cons k l ih =>
    obtain ⟨hk, hl⟩ := List.pairwise_cons.mp hl
    have hrest := ih hl
    by_cases hd : f k = d
    · rw [List.filterMap_cons_none (by rw [if_pos hd]), hrest]
      by_cases ha : a = k
      · subst ha
        simp [hd]
      · simp [ha]
    · rw [List.filterMap_cons_some (by rw [if_neg hd]), spGet, hrest]
      by_cases ha : a = k
      · simp [ha]
      · by_cases hlt : a < k
        · have hout : a ∉ l := fun h => absurd (hk a h) (by omega)
          simp [ha, hlt, hout]
        · simp [ha, hlt]

theorem spGet_spTabulate (n a : Nat) : spGet d (spTabulate d n f) a = if a < n then f a else d := by
  rw [spTabulate, spGet_filterMap _ List.pairwise_lt_range]
  simp

end

/-! ## The engine part of a slice -/

theorem Bits.testBit_get (b : Bits) (v k : Nat) : (b.get v).testBit k = (decide (k < b.w) && v.testBit (b.lo + k)) := by
  rw [Bits.get, Nat.testBit_mod_two_pow, Nat.testBit_shiftRight]

theorem Bits.get_congr {b : Bits} {u v : Nat} (h : ∀ k, b.lo ≤ k → k < b.lo + b.w → u.testBit k = v.testBit k) :
    b.get u = b.get v := by
  refine Nat.eq_of_testBit_eq fun k => ?_
  rw [Bits.testBit_get, Bits.testBit_get]
  by_cases hk : k < b.w
  · rw [h (b.lo + k) (by omega) (by omega)]
  · simp [hk]

/-- The engine part has the operation in its lowest four bits, the slice's other engine bits, and its PART, CLASS and SLOT_ID. -/
theorem testBit_engPart {op : Nat} (hop : op < 16) (sl k : Nat) : (engPart sl op).testBit k =
    if k < 4 then op.testBit k else if k < 128 then sl.testBit k else if k < 384 then false else sl.testBit k := by
  have hsplit : engPart sl op = 2 ^ 384 * (sl / 2 ^ 384) + (2 ^ 4 * (sl % 2 ^ 128 / 2 ^ 4) + op) := by
    unfold engPart
    omega
  rw [hsplit, Nat.testBit_two_pow_mul_add _ (by omega), Nat.testBit_two_pow_mul_add _ (by omega)]
  rw [Nat.testBit_div_two_pow, Nat.testBit_div_two_pow, Nat.testBit_mod_two_pow]
  by_cases hlow : k < 4
  · rw [if_pos (by omega), if_pos hlow, if_pos hlow]
  · by_cases hhigh : k < 384
    · rw [if_pos hhigh, if_neg hlow, if_neg hlow, if_pos hhigh, Nat.sub_add_cancel (Nat.le_of_not_lt hlow)]
      by_cases hmid : k < 128
      · simp [hmid]
      · simp [hmid]
    · rw [if_neg hhigh, if_neg hlow, if_neg (by omega), if_neg hhigh, Nat.sub_add_cancel (Nat.le_of_not_lt hhigh)]

/-- The fields of the engine part above EOP (Table PL-5). -/
def engineFields : List Bits :=
  [B.SLICE_ENG_EN, B.SLICE_WBITS, B.SLICE_TRANS, B.SLICE_ABITS, B.SLICE_ACC_CLR, B.SLICE_A_ROW, B.SLICE_W_ROW, B.SLICE_O_ROW,
    B.SLICE_A_STEP, B.SLICE_W_STEP, B.SLICE_O_STEP]

theorem engineFields_place : ∀ b ∈ engineFields, 4 ≤ b.lo ∧ b.lo + b.w ≤ 128 := by decide

section
variable {op : Nat} (hop : op < 16) (sl : Nat) {b : Bits}
include hop

theorem eop_engPart : B.SLICE_EOP.get (engPart sl op) = op := by
  refine Nat.eq_of_testBit_eq fun k => ?_
  rw [Bits.testBit_get, testBit_engPart hop]
  by_cases hk : k < 4
  · simp [B.SLICE_EOP, hk]
  · have hout : op.testBit k = false :=
      Nat.testBit_lt_two_pow (lt_of_lt_of_le hop (Nat.pow_le_pow_right Nat.two_pos (Nat.le_of_not_lt hk)))
    simp [B.SLICE_EOP, hk, hout]

/-- The engine fields above EOP. -/
theorem get_engPart_engine (hlo : 4 ≤ b.lo) (hhi : b.lo + b.w ≤ 128) : b.get (engPart sl op) = b.get sl :=
  Bits.get_congr fun k h h' => by rw [testBit_engPart hop, if_neg (by omega), if_pos (by omega)]

/-- The fields that all parts of a slice share. -/
theorem get_engPart_shared (hlo : 384 ≤ b.lo) : b.get (engPart sl op) = b.get sl :=
  Bits.get_congr fun k h _ => by rw [testBit_engPart hop, if_neg (by omega), if_neg (by omega), if_neg (by omega)]

/-- The fields of the vector part and the transfer part. -/
theorem get_engPart_other (hlo : 128 ≤ b.lo) (hhi : b.lo + b.w ≤ 384) : b.get (engPart sl op) = 0 := by
  have hzero : b.get (engPart sl op) = b.get 0 := Bits.get_congr fun k h h' => by
    rw [testBit_engPart hop, if_neg (by omega), if_neg (by omega), if_pos (by omega), Nat.zero_testBit]
  rw [hzero, Bits.get, Nat.zero_shiftRight, Nat.zero_mod]

theorem vop_engPart : B.SLICE_VOP.get (engPart sl op) = 0 := get_engPart_other hop sl (by decide) (by decide)

theorem engSlice_engPart : engSlice (engPart sl op) = { engSlice sl with eop := op } := by
  have hkeep : ∀ b ∈ engineFields, b.get (engPart sl op) = b.get sl := fun b hb => by
    obtain ⟨hlo, hhi⟩ := engineFields_place b hb
    exact get_engPart_engine hop sl hlo hhi
  simp only [engineFields, List.forall_mem_cons] at hkeep
  obtain ⟨hen, hwbits, htrans, habits, hclr, harow, hwrow, horow, hastep, hwstep, hostep, -⟩ := hkeep
  have hpart : B.SLICE_PART.get (engPart sl op) = B.SLICE_PART.get sl := get_engPart_shared hop sl (by decide)
  have hslot : B.SLICE_SLOT_ID.get (engPart sl op) = B.SLICE_SLOT_ID.get sl := get_engPart_shared hop sl (by decide)
  simp only [engSlice, eop_engPart hop, hen, hwbits, htrans, habits, hclr, harow, hwrow, horow, hastep, hwstep, hostep, hpart, hslot]

theorem vecFault_engPart (n : Nat) : vecFault (B.SLICE_VOP.get (engPart sl op)) (B.SLICE_VFMT.get (engPart sl op))
    (B.SLICE_VLEN.get (engPart sl op)) n = 0 := by
  rw [vop_engPart hop, vecFault, if_pos rfl]

end

/-! ## An engine part by itself -/

section
variable {s : State} {c op sl n : Nat} (hop : op < 16) (hn : 1 ≤ n) (hn' : n ≤ 16777214)
include hop hn hn'

theorem State.sliceRow_engPart_of_legal (h : engFault (engSlice (engPart sl op)) n = 0) (hfree : s.coreHeld c = false) :
    s.sliceRow c (engPart sl op) n = ((s.coreRun c (engPart sl op) 0 n n s.clk.aclk).passA n).settleAll := by
  have hlen : ¬(n = 0 ∨ 16777214 < n) := by omega
  simp [State.sliceRow, h, vecFault_engPart hop, hlen, hfree]

theorem State.sliceRow_engPart_of_held (h : engFault (engSlice (engPart sl op)) n = 0) (hheld : s.coreHeld c = true) :
    s.sliceRow c (engPart sl op) n = s := by
  have hlen : ¬(n = 0 ∨ 16777214 < n) := by omega
  simp [State.sliceRow, h, vecFault_engPart hop, hlen, hheld]

theorem State.sliceRow_engPart_of_range (h : engFault (engSlice (engPart sl op)) n = 3) :
    s.sliceRow c (engPart sl op) n = s.planFault (s.follows c) 3 (s.stream (s.follows c)).ptr := by
  have hlen : ¬(n = 0 ∨ 16777214 < n) := by omega
  simp [State.sliceRow, h, vecFault_engPart hop, hlen]

end

section
variable {s : State} (hdark : s.coreDark = false) (c : CoreId) (sl : SliceBits) (n : Nat)
include hdark

/-- The engine rows with their operations (Table EA-1). -/
theorem exec_engineRow : ∀ q ∈ ([
    (0x01, Instr.macSs c sl n), (0x02, .macSu c sl n), (0x03, .macBin c sl n), (0x04, .distL1 c sl n), (0x05, .minplus c sl n),
    (0x06, .maxplus c sl n), (0x07, .retire c sl n), (0x08, .loadAcc c sl n)] : List (Nat × Instr)),
    q.1 < 16 ∧ exec q.2 s = .next (s.sliceRow c.val (engPart sl.toNat q.1) n) := by
  have hrun : ∀ op, (if s.coreDark = true then (.next s : Host.Outcome State Fault Refusal)
      else .next (s.sliceRow c.val (engPart sl.toNat op) n)) = .next (s.sliceRow c.val (engPart sl.toNat op) n) := fun op =>
    if_neg (by simp [hdark])
  simp only [List.forall_mem_cons]
  exact ⟨⟨by decide, hrun 1⟩, ⟨by decide, hrun 2⟩, ⟨by decide, hrun 3⟩, ⟨by decide, hrun 4⟩, ⟨by decide, hrun 5⟩,
    ⟨by decide, hrun 6⟩, ⟨by decide, hrun 7⟩, ⟨by decide, hrun 8⟩, by simp⟩

end

/-- Settles O16: each row is its slice's engine part by itself, and the part's fields are those of the slice. -/
theorem engineRowsRunTheirOperation : Obligations.EngineRowsRunTheirOperation := by
  intro s c sl n hdark hn hn' q hq y
  obtain ⟨hop, hexec⟩ := exec_engineRow hdark c sl n q hq
  rw [hexec]
  exact ⟨fun h hfree => by rw [State.sliceRow_engPart_of_legal hop hn hn' h hfree],
    fun h hheld => by rw [State.sliceRow_engPart_of_held hop hn hn' h hheld],
    fun h => by rw [State.sliceRow_engPart_of_range hop hn hn' h],
    engSlice_engPart hop sl.toNat, vop_engPart hop sl.toNat⟩

end Sys2Proof.Machine
end

section
/-! SUPPORT. A cycle of a multiply run (R55, R58, R60, R71). -/

namespace Sys2Proof.Machine

/-! ## A cell -/

/-- R55: ACC holds a sum at the limits of its 32 bits. -/
theorem toInt_accSat (x : Int) : (accSat x).1.toInt = max (-(2 ^ 31)) (min (2 ^ 31 - 1) x) := by
  have hfit : ∀ c : Int, -(2 ^ 31) ≤ c → c < 2 ^ 31 → (BitVec.ofInt 32 c).toInt = c := fun c h h' =>
    BitVec.toInt_ofInt_eq_self (by decide) h h'
  unfold accSat clampInt
  by_cases hlow : x < -(2 ^ 31)
  · rw [if_pos hlow]
    dsimp only
    rw [hfit _ (by omega) (by omega)]
    omega
  · rw [if_neg hlow]
    by_cases hhigh : 2 ^ 31 - 1 < x
    · rw [if_pos hhigh]
      dsimp only
      rw [hfit _ (by omega) (by omega)]
      omega
    · rw [if_neg hhigh]
      dsimp only
      rw [hfit _ (by omega) (by omega)]
      omega

/-- R60: the term is the weight's value times the activation bit at its place, negated at the last bit of MAC_SS. -/
theorem mulTerm_eq (eop wbits abits pass a w : Nat) : mulTerm eop wbits abits pass a w =
    if eop = 3 then (if a.testBit (pass % abits % 4) = w.testBit 0 then 1 else -1)
    else (if eop = 1 ∧ pass % abits + 1 = abits then -1 else 1) *
      ((if wbits ≤ 4 then asSigned wbits w else if pass / abits = 0 then (w : Int) else asSigned (wbits - 4) w) *
        (if a.testBit (pass % abits % 4) then 1 else 0) * 2 ^ (pass % abits + 4 * (pass / abits))) := by
  have hbit : ((bit (a.testBit (pass % abits % 4)) : Nat) : Int) = if a.testBit (pass % abits % 4) then 1 else 0 := by
    unfold bit
    split
    · rfl
    · rfl
  unfold mulTerm hasBit
  dsimp only
  by_cases hbin : eop = 3
  · simp [hbin]
  · rw [if_neg hbin, if_neg hbin, hbit]
    by_cases hlast : eop = 1 ∧ pass % abits + 1 = abits
    · rw [if_pos hlast, if_pos hlast, neg_one_mul]
    · rw [if_neg hlast, if_neg hlast, one_mul]

/-- R55, R60: every cell of the array adds its own term. -/
theorem spGet_macAll_acc (e : Engine) (aRow wRow : Nat) {i j : Nat} (hi : i < 128) (hj : j < 128) :
    (spGet 0 (macAll e aRow wRow).acc (128 * i + j)).toInt = max (-(2 ^ 31)) (min (2 ^ 31 - 1)
      ((spGet 0 e.acc (128 * i + j)).toInt + mulTerm e.eop e.wbits e.abits e.pass (nibble aRow i) (nibble wRow j))) := by
  have hrow : (128 * i + j) / 128 = i := by omega
  have hcol : (128 * i + j) % 128 = j := by omega
  unfold macAll
  dsimp only
  rw [spGet_spTabulate, if_pos (by omega), toInt_accSat, hrow, hcol]

theorem macAll_live (e : Engine) (aRow wRow : Nat) : (macAll e aRow wRow).live = e.live := by rw [macAll]
theorem macAll_out (e : Engine) (aRow wRow : Nat) : (macAll e aRow wRow).out = e.out := by rw [macAll]

/-! ## The state's engines -/

section
variable {s : State} {n : Nat}

theorem State.engine_setEngine_same (h : spWf Engine.reset s.engines = true) (e : Engine) : (s.setEngine n e).engine n = e :=
  spGet_spSet_same _ _ _ _ h

theorem State.engine_setEngine_ne (h : spWf Engine.reset s.engines = true) {m : Nat} (hm : m ≠ n) (e : Engine) :
    (s.setEngine n e).engine m = s.engine m := spGet_spSet_ne _ _ _ _ _ h fun hnm => hm hnm.symm

/-! ## A cycle -/

/-- A row of the slice's own partition that no transfer has still to write is read as it stands. -/
theorem State.engRead_of_own {part slot row t : Nat} (htag : s.opbTag n row = part) (hlate : s.earlyRead (opbRow n row) 64 = false) :
    s.engRead n part slot row t = (leNat (s.bytesAt t (opbRow n row) 64), s.marksAt t (opbRow n row) 64, s) := by
  simp [State.engRead, htag, hlate]

/-- R71: the operand row that a pointer and its step name in cycle `k` of a run. -/
def State.operandRow (s : State) (n r : Nat) (step : Int) (k t : Nat) : Nat := leNat (s.bytesAt t (opbRow n (rowAt r step k)) 64)

/-- R74: the tile is poisoned or not by the rows it has read. -/
def Engine.withPoison (e : Engine) (p : Bool) : Engine := { e with poison := p }

theorem State.engCycle_of_multiply {x : EngSlice} {k len t : Nat} (hfirst : 0 < k) (hlast : k + 1 < len) (htrans : x.trans = false)
    (hlow : 1 ≤ x.eop) (hhigh : x.eop ≤ 3) (heop : (s.engine n).eop = x.eop)
    (hatag : s.opbTag n (rowAt x.aRow x.aStep k) = x.part) (hwtag : s.opbTag n (rowAt x.wRow x.wStep k) = x.part)
    (halate : s.earlyRead (opbRow n (rowAt x.aRow x.aStep k)) 64 = false)
    (hwlate : s.earlyRead (opbRow n (rowAt x.wRow x.wStep k)) 64 = false) :
    ∃ p, s.engCycle n x k len t = (s.worked 0 x.part 1).setEngine n
      (macAll ((s.engine n).withPoison p) (s.operandRow n x.aRow x.aStep k t) (s.operandRow n x.wRow x.wStep k t)) := by
  have haread := State.engRead_of_own (s := s.worked 0 x.part 1) (slot := x.slot) (t := t) hatag halate
  have hwread := State.engRead_of_own (s := s.worked 0 x.part 1) (slot := x.slot) (t := t) hwtag hwlate
  have hcompare : isCompare ((s.worked 0 x.part 1).engine n).eop = false := by
    have hworked : ((s.worked 0 x.part 1).engine n).eop = x.eop := heop
    rw [hworked, isCompare, decide_eq_false (by omega), Bool.false_and]
  have hload : x.eop ≠ 8 := by omega
  have hidle : ¬(x.eop = 7 ∨ x.eop = 0) := by omega
  have hmore : k + 1 ≠ len := by omega
  refine ⟨(s.engine n).poison || (s.marksAt t (opbRow n (rowAt x.aRow x.aStep k)) 64 ||
    s.marksAt t (opbRow n (rowAt x.wRow x.wStep k)) 64), ?_⟩
  unfold State.engCycle
  simp only [if_neg (Nat.pos_iff_ne_zero.mp hfirst), if_neg hload, if_neg hidle, hcompare, htrans, haread, hwread, hmore, false_and,
    if_false, Bool.false_eq_true]
  rfl

end

/-- Settles O17: the cycle is one addition of terms over the rows that a read of its ACLK cycle sees. -/
theorem engineCycleAddsOneTerm : Obligations.EngineCycleAddsOneTerm := by
  intro s n k len t x hs hfirst hlast htrans hlow hhigh heop hatag hwtag halate hwlate
  obtain ⟨p, hcycle⟩ := State.engCycle_of_multiply (t := t) hfirst hlast htrans hlow hhigh heop hatag hwtag halate hwlate
  dsimp only
  rw [hcycle, State.engine_setEngine_same (s := s.worked 0 x.part 1) hs.engines]
  refine ⟨fun i j hi hj => ?_, macAll_live .., macAll_out .., State.setEngine_mem .., State.setEngine_regs ..⟩
  rw [spGet_macAll_acc _ _ _ hi hj, mulTerm_eq, ← heop]
  rfl

end Sys2Proof.Machine
end

section
/-! SUPPORT. A retire of an engine's tile (R63, R65–R68, R74). -/

namespace Sys2Proof.Machine

/-! ## Flags and events -/

/-- Only registers, Plumb's events and Field Book have changed. -/
def State.flagsOnly (s t : State) : Prop := ∃ r p k, t = { s with regs := r, plumb := p, book := k }

namespace State.flagsOnly

variable {s t : State}

theorem refl (s : State) : s.flagsOnly s := ⟨s.regs, s.plumb, s.book, rfl⟩

theorem setReg (h : s.flagsOnly t) (r : RegArr) (i : Nat) (v : BitVec 64) : s.flagsOnly (t.setReg r i v) := by
  obtain ⟨_, p, k, rfl⟩ := h
  exact ⟨_, p, k, rfl⟩

theorem record (h : s.flagsOnly t) (kind source : Nat) (bs : List Byte) (domain : Nat) :
    s.flagsOnly (t.record kind source bs domain) := by
  obtain ⟨r, p, k, rfl⟩ := h
  obtain ⟨k', hk⟩ := State.recordAt_eq { s with regs := r, plumb := p, book := k } _ kind source bs domain
  exact ⟨r, p, k', hk⟩

theorem raise (h : s.flagsOnly t) (code detail : Nat) : s.flagsOnly (t.raise code detail) := by
  obtain ⟨r, p, k, rfl⟩ := h
  obtain ⟨p', k', hk⟩ := State.raise_eq { s with regs := r, plumb := p, book := k } code detail
  exact ⟨r, p', k', hk⟩

theorem ite {c : Prop} [Decidable c] {u : State} (ht : s.flagsOnly t) (hu : s.flagsOnly u) : s.flagsOnly (if c then t else u) := by
  split
  · exact ht
  · exact hu

theorem engFlag (h : s.flagsOnly t) (n part slot bit : Nat) (event : Bool) : s.flagsOnly (t.engFlag n part slot bit event) :=
  (State.flagsOnly.ite (c := (event && decide (part < 2)) = true) ((h.setReg ..).raise ..) (h.setReg ..)).record ..

theorem engines (h : s.flagsOnly t) : t.engines = s.engines := by
  obtain ⟨r, p, k, rfl⟩ := h
  rfl

theorem engine (h : s.flagsOnly t) (n : Nat) : t.engine n = s.engine n := by
  rw [State.engine, h.engines, State.engine]

theorem mem (h : s.flagsOnly t) : t.mem = s.mem := by
  obtain ⟨r, p, k, rfl⟩ := h
  rfl

theorem vecs (h : s.flagsOnly t) : t.vecs = s.vecs := by
  obtain ⟨r, p, k, rfl⟩ := h
  rfl

theorem clk (h : s.flagsOnly t) : t.clk = s.clk := by
  obtain ⟨r, p, k, rfl⟩ := h
  rfl

end State.flagsOnly

/-! ## The retire -/

/-- R66: the engine whose tile a slice `x` has retired in ACLK cycle `t`. -/
def Engine.retired (e : Engine) (x : EngSlice) (t : Nat) : Engine :=
  { e with
    out := e.acc
    acc := accFill (accInit x.eop)
    live := false
    drain := ⟨x.oRow, x.oStep, 1024, t + 8⟩
    drainPart := x.part
    outPoison := e.poison
    sat := false
    poison := false
    mismatch := false }

theorem Engine.retired_acc (e : Engine) (x : EngSlice) (t : Nat) : (e.retired x t).acc = accFill (accInit x.eop) := by
  rw [Engine.retired]

theorem spGet_accFill (v : Word) {k : Nat} (hk : k < 16384) : spGet 0 (accFill v) k = v := by
  rw [accFill, spGet_spTabulate, if_pos hk]

section
variable {s : State} {n : Nat} (x : EngSlice) (t : Nat)

theorem State.retire_of_idle (h : (s.engine n).live = false) : s.retire n x t = s := by
  simp [State.retire, h]

/-- Beside the engine itself a retire sets the flags of its tile. -/
theorem State.retire_of_live (h : (s.engine n).live = true) :
    ∃ u, s.flagsOnly u ∧ s.retire n x t = u.setEngine n ((s.engine n).retired x t) := by
  unfold State.retire
  extract_lets e overrun saturated unfinished mismatched poisoned
  have hover : s.flagsOnly overrun := .ite ((State.flagsOnly.refl s).engFlag ..) (.refl s)
  have hsat : s.flagsOnly saturated := .ite ((hover.setReg ..).engFlag ..) hover
  have hpart : s.flagsOnly unfinished := .ite (hsat.engFlag ..) hsat
  have hmis : s.flagsOnly mismatched := .ite (hpart.raise ..) hpart
  exact ⟨poisoned, .ite (hmis.engFlag ..) hmis, if_pos h⟩

end

/-- Settles O18: the retired engine is the new tile's, and flags alone change beside it. -/
theorem retireMovesTileToOut : Obligations.RetireMovesTileToOut := by
  refine fun s n t x hs => ⟨fun hlive => ?_, State.retire_of_idle x t⟩
  obtain ⟨u, hflags, hretire⟩ := State.retire_of_live x t hlive
  have hwf : spWf Engine.reset u.engines = true := by rw [hflags.engines]; exact hs.engines
  rw [hretire, State.engine_setEngine_same hwf]
  refine ⟨rfl, fun k hk => by rw [Engine.retired_acc, spGet_accFill _ hk, accInit], rfl, rfl, rfl, fun m hm => ?_, hflags.mem⟩
  rw [State.engine_setEngine_ne hwf hm, hflags.engine]

end Sys2Proof.Machine
end

section
/-! SUPPORT. A drain cycle of an engine (R67, R69, R72, R120). -/

namespace Sys2Proof.Machine

/-! ## Bytes read back -/

theorem length_leBytes (n v : Nat) : (leBytes n v).length = n := by
  induction n generalizing v with
  | zero => rfl
  | succ n ih => rw [leBytes, List.length_cons, ih]

theorem State.shade_shade (s : State) (a : Nat) (bs : List Byte) : s.shade a (s.shade a bs) = bs := by
  unfold State.shade
  split
  · exact List.ext_getElem (by simp) fun k hk hk' => by simp
  · rfl

theorem spRange_spWrite_same {α : Type} [DecidableEq α] {d : α} {t : List (Nat × α)} (h : spWf d t = true) (a : Nat) (xs : List α) :
    spRange d (spWrite d t a xs) a xs.length = xs := by
  refine List.ext_getElem (by simp [spRange]) fun k hk hk' => ?_
  simp [spRange, spGet_spWrite d xs t a (a + k) h, hk']

/-- A read of the written range finds what was written. -/
theorem State.rdBytes_wrBytes_same {s : State} (h : Memory.wf s.mem) (a : Nat) (bs : List Byte) :
    (s.wrBytes a bs).rdBytes a bs.length = bs := by
  have hread : spRange 0 (s.wrBytes a bs).mem a bs.length = s.shade a bs := by
    conv_lhs => rw [← s.shade_length a bs]
    exact spRange_spWrite_same h a _
  have hshade : (s.wrBytes a bs).shade a (s.shade a bs) = s.shade a (s.shade a bs) := rfl
  rw [State.rdBytes, hread, hshade, s.shade_shade]

theorem State.rdBytes_markRange (s : State) (a n : Nat) (p : Bool) (x m : Nat) : (s.markRange a n p).rdBytes x m = s.rdBytes x m := rfl

theorem State.rdBytes_wrMarked_same {s : State} (h : Memory.wf s.mem) (a : Nat) (bs : List Byte) (p : Bool) :
    (s.wrMarked a bs p).rdBytes a bs.length = bs := by
  rw [State.wrMarked, State.rdBytes_markRange, State.rdBytes_wrBytes_same h]

theorem State.rdByte_noteEdge (s : State) (t : Nat) (who : Writer) (a n x : Nat) : (s.noteEdge t who a n).rdByte x = s.rdByte x := rfl

theorem State.rdByte_setEngine (s : State) (n : Nat) (e : Engine) (x : Nat) : (s.setEngine n e).rdByte x = s.rdByte x := rfl

/-! ## Cycles without a plan -/

section
variable {s : State}

theorem State.settleVec_of_none (h : s.vecs = []) (c t : Nat) : s.settleVec c t = s := by
  simp [State.settleVec, State.vec, h, VecUnit.reset]

/-- With no vector result on its way none becomes visible. -/
theorem State.settleAll_of_none (h : s.vecs = []) : s.settleAll = s :=
  List.foldl_fixed' (fun c => State.settleVec_of_none h c s.clk.aclk) _

/-- The state with another register file. -/
def State.withRegs (s : State) (r : List (Nat × BitVec 64)) : State := { s with regs := r }

/-- A register file in canonical form with the operand buffers' tags of `s`. -/
structure State.keepsTags (s : State) (r : List (Nat × BitVec 64)) : Prop where
  wf  : spWf 0 r = true
  tag : ∀ j, (s.withRegs r).reg R.MT_OPB_TAG j = s.reg R.MT_OPB_TAG j

theorem State.keepsTags.opbTag {r : List (Nat × BitVec 64)} (h : s.keepsTags r) (n row : Nat) :
    (s.withRegs r).opbTag n row = s.opbTag n row := by
  have htag : (s.withRegs r).fld F.MT_OPB_TAG_TAG (n / 8) = s.fld F.MT_OPB_TAG_TAG (n / 8) :=
    congrArg F.MT_OPB_TAG_TAG.get (h.tag (n / 8))
  rw [State.opbTag, State.opbTag, htag]

theorem holdCyc_key_ne_opbTag (i j : Nat) : R.PL_HOLD_CYC.key i ≠ R.MT_OPB_TAG.key j := by
  simp only [RegArr.key, R.PL_HOLD_CYC, R.MT_OPB_TAG]
  omega

/-- The cycles of a hold are counted in its registers alone. -/
theorem State.foldl_holdCyc (causes : List HoldCause) (dt : Nat) (s : State) (h : s.regsWf) : ∃ r, s.keepsTags r ∧
    causes.foldl (fun (s : State) (c : HoldCause) => s.count F.PL_HOLD_CYC_CYCLES (c.code - 1) dt) s = s.withRegs r := by
  induction causes generalizing s with
  | nil => exact ⟨s.regs, ⟨h, fun _ => rfl⟩, rfl⟩
  | cons c causes ih =>
    obtain ⟨r, hkeep, hfold⟩ := ih (s.count F.PL_HOLD_CYC_CYCLES (c.code - 1) dt) (State.regsWf_count h ..)
    exact ⟨r, ⟨hkeep.wf, fun j => (hkeep.tag j).trans (State.reg_setFld_ne h _ (holdCyc_key_ne_opbTag _ j))⟩, hfold⟩

theorem State.passReplay_of_none (hreplay : s.book.replay = none) (dt : Nat) : s.passReplay dt = s := by
  simp [State.passReplay, hreplay]

/-- Without a plan the passing of ACLK cycles counts only those of a hold. -/
theorem State.passA_of_noPlan (hregs : s.regsWf) (hgo : s.ridge.goAt = none) (hreg : s.ridge.regWaiting = false)
    (hreplay : s.book.replay = none) (dt : Nat) :
    ∃ r, s.keepsTags r ∧ (s.ridge.hold = none → r = s.regs) ∧ s.passA dt = (s.aclkOn dt).withRegs r := by
  unfold State.passA
  extract_lets clocks clocked replayed stepped held
  have hreplayed : replayed = s.aclkOn dt := State.passReplay_of_none (s := s.aclkOn dt) hreplay dt
  have hstepped : stepped = s.aclkOn dt := by
    unfold stepped
    rw [hreplayed]
    exact if_neg (by simp [State.aclkOn, hgo])
  have hheld : ∃ r, s.keepsTags r ∧ (s.ridge.hold = none → r = s.regs) ∧ held = (s.aclkOn dt).withRegs r := by
    unfold held
    rw [hstepped]
    split
    · rename_i h hhold
      obtain ⟨r, hkeep, hfold⟩ := State.foldl_holdCyc h.causes dt (s.aclkOn dt) hregs
      exact ⟨r, ⟨hkeep.wf, hkeep.tag⟩, fun hnone => absurd (hnone.symm.trans hhold) (by simp), hfold⟩
    · exact ⟨s.regs, ⟨hregs, fun _ => rfl⟩, fun _ => rfl, rfl⟩
  obtain ⟨r, hkeep, hnone, hheld⟩ := hheld
  refine ⟨r, hkeep, hnone, ?_⟩
  rw [hheld]
  exact if_neg (by simp [State.withRegs, State.aclkOn, hreg])

/-! ## Flags of an engine -/

theorem State.regs_engFlag (n part slot bit : Nat) (event : Bool) : (s.engFlag n part slot bit event).regs =
    (s.setReg R.PL_ENG_STATUS n (s.reg R.PL_ENG_STATUS n ||| BitVec.ofNat 64 (2 ^ bit))).regs := by
  unfold State.engFlag
  extract_lets marked raised
  have hraised : raised.regs = marked.regs := by
    unfold raised
    split
    · obtain ⟨p, k, h⟩ := marked.raise_eq 0x05 (n + 256 * bit)
      rw [h]
    · rfl
  obtain ⟨k, h⟩ := State.recordAt_eq raised raised.acyc 0x0C n (words [0, n, bit, part, slot, raised.fld F.PL_STEP_STEP]) 1
  rw [State.record, h]
  exact hraised

/-- R81: the flag stands in PL_ENG_STATUS. -/
theorem State.getLsbD_engFlag (hregs : s.regsWf) (n part slot : Nat) {bit : Nat} (hbit : bit < 64) (event : Bool) :
    ((s.engFlag n part slot bit event).reg R.PL_ENG_STATUS n).getLsbD bit = true := by
  have hreg : (s.engFlag n part slot bit event).reg R.PL_ENG_STATUS n =
      s.reg R.PL_ENG_STATUS n ||| BitVec.ofNat 64 (2 ^ bit) := by
    rw [← State.reg_setReg_same hregs R.PL_ENG_STATUS n (s.reg R.PL_ENG_STATUS n ||| BitVec.ofNat 64 (2 ^ bit))]
    simp only [State.reg, State.regs_engFlag]
  rw [hreg, BitVec.getLsbD_or, BitVec.getLsbD_ofNat, Nat.testBit_two_pow_self]
  simp [hbit]

/-! ## The drain -/

/-- R67: the drain after a row has been written. -/
def Drain.next (d : Drain) : Drain := ⟨rowAt d.ptr d.step 1, d.step, d.count - 1, d.start⟩

/-- The row that a drain writes next counts as written. -/
def State.drainOn (s : State) (n : Nat) : State := s.setEngine n { s.engine n with drain := (s.engine n).drain.next }

/-- The address of the row that a drain writes next. -/
def State.drainAddr (s : State) (n : Nat) : Nat := opbRow n (s.engine n).drain.ptr

/-- The 64 bytes of OUT that a drain writes next. -/
def State.drainBytes (s : State) (n : Nat) : List Byte :=
  leBytes 64 (drainRow (s.engine n).out (1024 - (s.engine n).drain.count))

/-- The cycle in which a drain writes its row. -/
def State.drainWritten (s : State) (n t : Nat) : State :=
  ((s.drainOn n).noteEdge t .drain (s.drainAddr n) 64).wrMarked (s.drainAddr n) (s.drainBytes n) (s.engine n).outPoison

section
variable {n t : Nat}

theorem State.drainCycle_of_rest (h : (s.engine n).drain.count = 0 ∨ t < (s.engine n).drain.start) : s.drainCycle n t = s := if_pos h

section
variable (hcount : 0 < (s.engine n).drain.count) (hstart : (s.engine n).drain.start ≤ t)
include hcount hstart

/-- R72: a transfer's write of the same cycle to the row stands. -/
theorem State.drainCycle_of_clash (hclash : s.clashes t (s.drainAddr n) 64 (fun w => w == .transfer) = true) :
    s.drainCycle n t = (s.drainOn n).engFlag n (s.engine n).drainPart 0 19 true := by
  simp only [State.drainCycle, State.drainOn, State.drainAddr, Drain.next] at hclash ⊢
  rw [if_neg (by omega), if_pos hclash]

theorem State.drainCycle_of_own (hclash : s.clashes t (s.drainAddr n) 64 (fun w => w == .transfer) = false)
    (htag : s.opbTag n (s.engine n).drain.ptr = (s.engine n).drainPart) : s.drainCycle n t = s.drainWritten n t := by
  simp only [State.drainCycle, State.drainOn, State.drainAddr, State.drainBytes, State.drainWritten, Drain.next] at hclash ⊢
  rw [if_neg (by omega), if_neg (by simp [hclash]), if_pos htag]

end

variable (s)

theorem State.length_drainBytes (n : Nat) : (s.drainBytes n).length = 64 := length_leBytes ..

theorem State.rdBytes_drainWritten (hmem : Memory.wf s.mem) (n t : Nat) :
    (s.drainWritten n t).rdBytes (s.drainAddr n) 64 = s.drainBytes n := by
  have hread := State.rdBytes_wrMarked_same (s := (s.drainOn n).noteEdge t .drain (s.drainAddr n) 64) hmem (s.drainAddr n)
    (s.drainBytes n) (s.engine n).outPoison
  rwa [s.length_drainBytes] at hread

theorem State.rdByte_drainWritten (hmem : Memory.wf s.mem) (n t : Nat) {a : Nat} (ha : a < s.drainAddr n ∨ s.drainAddr n + 64 ≤ a) :
    (s.drainWritten n t).rdByte a = s.rdByte a := by
  have hread := State.rdByte_wrMarked_outside (s := (s.drainOn n).noteEdge t .drain (s.drainAddr n) 64) hmem (s.drainAddr n)
    (s.drainBytes n) (s.engine n).outPoison (x := a) (by rwa [s.length_drainBytes])
  rw [State.drainWritten, hread, State.rdByte_noteEdge, State.drainOn, State.rdByte_setEngine]

theorem State.drain_drainOn (heng : spWf Engine.reset s.engines = true) : ((s.drainOn n).engine n).drain = (s.engine n).drain.next :=
  congrArg Engine.drain (State.engine_setEngine_same heng _)

end

/-! ## The command -/

theorem exec_drainRowWrite_of_stopped {n : EngineId} (h : s.coreIssues (n.val / 8) = false) : exec (.drainRowWrite n) s = .next s := by
  have hrun : exec (.drainRowWrite n) s = execDrainRowWrite n s := rfl
  simp [hrun, execDrainRowWrite, h]

theorem exec_drainRowWrite {n : EngineId} (hdark : s.coreDark = false) (h : s.coreIssues (n.val / 8) = true) :
    exec (.drainRowWrite n) s = .next ((s.passA 1).drainCycle n.val s.clk.aclk).settleAll := by
  have hrun : exec (.drainRowWrite n) s = execDrainRowWrite n s := rfl
  simp [hrun, execDrainRowWrite, h, hdark]

end

/-- Settles O19: a cycle without a plan changes only the registers of holds, and the drain cycle then writes its row or loses it. -/
theorem drainRowIsWritten : Obligations.DrainRowIsWritten := by
  intro s n hs hdark hvecs hgo hreg hreplay d next clash
  obtain ⟨r, hkeep, hnone, hpass⟩ := State.passA_of_noPlan hs.regs hgo hreg hreplay 1
  have hdrain := State.drain_drainOn ((s.aclkOn 1).withRegs r) (n := n.val) hs.engines
  refine ⟨exec_drainRowWrite_of_stopped, fun hissue hrest => ?_,
    fun hissue hcount hall hstart => ⟨fun hclash htag => ?_, fun hclash => ?_⟩⟩
  -- no row left, or before the first cycle
  · rw [exec_drainRowWrite hdark hissue, hpass, State.drainCycle_of_rest (s := (s.aclkOn 1).withRegs r) hrest]
    exact congrArg _ (State.settleAll_of_none hvecs)
  -- the row is written
  · have hcycle := State.drainCycle_of_own (s := (s.aclkOn 1).withRegs r) hcount hstart hclash ((hkeep.opbTag n.val d.ptr).trans htag)
    have hbytes := State.rdBytes_drainWritten ((s.aclkOn 1).withRegs r) hs.mem n.val s.clk.aclk
    have hframe := fun a => State.rdByte_drainWritten ((s.aclkOn 1).withRegs r) hs.mem n.val s.clk.aclk (a := a)
    rw [exec_drainRowWrite hdark hissue, hpass, hcycle]
    exact ⟨_, congrArg _ (State.settleAll_of_none hvecs), hbytes, hframe, hdrain, rfl, fun hhold => hnone hhold⟩
  -- a transfer's write stands
  · have hcycle := State.drainCycle_of_clash (s := (s.aclkOn 1).withRegs r) hcount hstart hclash
    have hflags := (State.flagsOnly.refl (((s.aclkOn 1).withRegs r).drainOn n.val)).engFlag n.val (s.engine n.val).drainPart 0 19 true
    rw [exec_drainRowWrite hdark hissue, hpass, hcycle]
    exact ⟨_, congrArg _ (State.settleAll_of_none (hflags.vecs.trans hvecs)), hflags.mem,
      (congrArg Engine.drain (hflags.engine n.val)).trans hdrain,
      State.getLsbD_engFlag hkeep.wf _ _ _ (by decide) _, congrArg Clocks.aclk hflags.clk⟩

end Sys2Proof.Machine
end

section
/-! SUPPORT. The vector part of a slice by itself (R39, R46, R90, R93, Table NF-5). -/

namespace Sys2Proof.Machine

/-! ## The vector part of a slice -/

/-- The vector part has the operation in the eight bits of VOP, the slice's other vector bits, and its PART, CLASS and SLOT_ID. -/
theorem testBit_vecPart {op : Nat} (hop : op < 256) (sl k : Nat) : (vecPart sl op).testBit k =
    if k < 128 then false else if k < 136 then op.testBit (k - 128) else if k < 210 then sl.testBit k
    else if k < 384 then false else sl.testBit k := by
  have hsplit : vecPart sl op = 2 ^ 384 * (sl / 2 ^ 384) + (2 ^ 136 * (sl % 2 ^ 210 / 2 ^ 136) + (2 ^ 128 * op + 0)) := by
    unfold vecPart
    omega
  rw [hsplit, Nat.testBit_two_pow_mul_add _ (by omega), Nat.testBit_two_pow_mul_add _ (by omega),
    Nat.testBit_two_pow_mul_add _ (by decide), Nat.testBit_div_two_pow, Nat.testBit_div_two_pow, Nat.testBit_mod_two_pow]
  by_cases hhigh : k < 384
  · rw [if_pos hhigh, if_pos hhigh]
    by_cases hlow : k < 136
    · rw [if_pos hlow, if_pos hlow, Nat.zero_testBit]
    · rw [if_neg hlow, if_neg hlow, if_neg (by omega), Nat.sub_add_cancel (Nat.le_of_not_lt hlow)]
      by_cases hmid : k < 210
      · simp [hmid]
      · simp [hmid]
  · rw [if_neg hhigh, if_neg hhigh, if_neg (by omega), if_neg (by omega), if_neg (by omega),
      Nat.sub_add_cancel (Nat.le_of_not_lt hhigh)]

/-- The fields of the vector part above VOP (Table PL-5). -/
def vectorFields : List Bits := [B.SLICE_VFMT, B.SLICE_VSA, B.SLICE_VSB, B.SLICE_VD, B.SLICE_VLEN]

theorem vectorFields_place : ∀ b ∈ vectorFields, 136 ≤ b.lo ∧ b.lo + b.w ≤ 210 := by decide

section
variable {op : Nat} (hop : op < 256) (sl : Nat)
include hop

theorem vop_vecPart : B.SLICE_VOP.get (vecPart sl op) = op := by
  refine Nat.eq_of_testBit_eq fun k => ?_
  rw [Bits.testBit_get, testBit_vecPart hop]
  by_cases hk : k < 8
  · have hlow : 128 + k < 136 := by omega
    simp [B.SLICE_VOP, hk, hlow]
  · have hout : op.testBit k = false :=
      Nat.testBit_lt_two_pow (lt_of_lt_of_le hop (Nat.pow_le_pow_right Nat.two_pos (Nat.le_of_not_lt hk)))
    simp [B.SLICE_VOP, hk, hout]

/-- The vector fields above VOP. -/
theorem get_vecPart_vector {b : Bits} (hb : b ∈ vectorFields) : b.get (vecPart sl op) = b.get sl := by
  obtain ⟨hlo, hhi⟩ := vectorFields_place b hb
  exact Bits.get_congr fun k h h' => by rw [testBit_vecPart hop, if_neg (by omega), if_neg (by omega), if_pos (by omega)]

/-- The fields that all parts of a slice share. -/
theorem get_vecPart_shared {b : Bits} (hlo : 384 ≤ b.lo) : b.get (vecPart sl op) = b.get sl :=
  Bits.get_congr fun k h _ => by
    rw [testBit_vecPart hop, if_neg (by omega), if_neg (by omega), if_neg (by omega), if_neg (by omega)]

theorem eop_vecPart : (engSlice (vecPart sl op)).eop = 0 := by
  have hzero : B.SLICE_EOP.get (vecPart sl op) = B.SLICE_EOP.get 0 := Bits.get_congr fun k _ h => by
    rw [testBit_vecPart hop, if_pos (Nat.lt_trans h (by decide)), Nat.zero_testBit]
  exact hzero

theorem vecSlice_vecPart : vecSlice (vecPart sl op) = { vecSlice sl with op := op } := by
  have hkeep : ∀ b ∈ vectorFields, b.get (vecPart sl op) = b.get sl := fun b => get_vecPart_vector hop sl
  simp only [vectorFields, List.forall_mem_cons] at hkeep
  obtain ⟨hfmt, ha, hb, hd, hlen, -⟩ := hkeep
  have hpart : B.SLICE_PART.get (vecPart sl op) = B.SLICE_PART.get sl := get_vecPart_shared hop sl (by decide)
  have hslot : B.SLICE_SLOT_ID.get (vecPart sl op) = B.SLICE_SLOT_ID.get sl := get_vecPart_shared hop sl (by decide)
  simp only [vecSlice, vop_vecPart hop, hfmt, ha, hb, hd, hlen, hpart, hslot]

theorem engFault_vecPart (n : Nat) : engFault (engSlice (vecPart sl op)) n = 0 := if_pos (eop_vecPart hop sl)

end

/-! ## A vector part by itself -/

theorem vecFault_cases (op fmt len n : Nat) : vecFault op fmt len n = 0 ∨ vecFault op fmt len n = 2 ∨ vecFault op fmt len n = 3 := by
  unfold vecFault
  repeat' split
  all_goals decide

section
variable {s : State} {c op sl n : Nat} (hop : op < 256) (hn : 1 ≤ n) (hn' : n ≤ 16777214)
include hop hn hn'

/-- A slice with a vector part alone has the FCAUSE of that part, and runs where it is legal and no hold stops its core. -/
theorem State.sliceRow_vecPart : s.sliceRow c (vecPart sl op) n =
    if vecFault op (vecSlice sl).fmt (vecSlice sl).len n ≠ 0 then
      s.planFault (s.follows c) (vecFault op (vecSlice sl).fmt (vecSlice sl).len n) (s.stream (s.follows c)).ptr
    else if s.coreHeld c = true then s
    else ((s.coreRun c (vecPart sl op) 0 n n s.clk.aclk).passA n).settleAll := by
  have hlen : ¬(n = 0 ∨ 16777214 < n) := by omega
  have hfmt : B.SLICE_VFMT.get (vecPart sl op) = (vecSlice sl).fmt := congrArg VecSlice.fmt (vecSlice_vecPart hop sl)
  have hvlen : B.SLICE_VLEN.get (vecPart sl op) = (vecSlice sl).len := congrArg VecSlice.len (vecSlice_vecPart hop sl)
  unfold State.sliceRow
  rw [engFault_vecPart hop, vop_vecPart hop, hfmt, hvlen, if_neg hlen]
  obtain h | h | h := vecFault_cases op (vecSlice sl).fmt (vecSlice sl).len n
  · simp [h]
  · simp [h]
  · simp [h]

end

section
variable {s : State} (hdark : s.coreDark = false) (c : CoreId) (sl : SliceBits) (n : Nat)
include hdark

/-- The vector rows with their operations (Table NF-5). -/
theorem exec_vectorRow : ∀ q ∈ ([
      (0x01, Instr.fadd c sl n), (0x02, .fsub c sl n), (0x03, .fmul c sl n), (0x04, .fma c sl n), (0x05, .fmin c sl n),
      (0x06, .fmax c sl n), (0x07, .fdot c sl n), (0x08, .fcmpLt c sl n), (0x09, .fcmpLe c sl n), (0x0A, .fcmpEq c sl n),
      (0x0B, .frecipEst c sl n), (0x0C, .frsqrtEst c sl n), (0x0D, .fsumErr c sl n), (0x0E, .fprodErr c sl n),
      (0x0F, .pairAdd c sl n), (0x10, .pairMac c sl n), (0x20, .iadd c sl n), (0x21, .isub c sl n), (0x22, .iaddSat c sl n),
      (0x23, .isubSat c sl n), (0x24, .imul c sl n), (0x25, .imulHi c sl n), (0x26, .imin c sl n), (0x27, .imax c sl n),
      (0x28, .vecAnd c sl n), (0x29, .vecOr c sl n), (0x2A, .vecXor c sl n), (0x2B, .shiftRne c sl n), (0x30, .idiv c sl n),
      (0x31, .irem c sl n), (0x32, .udiv c sl n), (0x33, .urem c sl n), (0x40, .cvtF32 c sl n), (0x41, .cvtF16 c sl n),
      (0x42, .cvtBf16 c sl n), (0x43, .cvtE4m3 c sl n), (0x44, .cvtE5m2 c sl n), (0x45, .cvtI32 c sl n), (0x46, .cvtI16 c sl n),
      (0x47, .cvtI8 c sl n), (0x48, .cvtU8 c sl n), (0x49, .cvtI32Rtz c sl n), (0x4A, .cvtI32Floor c sl n),
      (0x4B, .cvtE4m3Ns c sl n), (0x4C, .cvtE5m2Ns c sl n), (0x4D, .cvtPair c sl n), (0x60, .bfExp4 c sl n),
      (0x61, .bfExp8 c sl n), (0x62, .bfExp16 c sl n), (0x63, .bfPack4 c sl n), (0x64, .bfPack8 c sl n), (0x65, .bfPack16 c sl n),
      (0x66, .bfUnpack c sl n), (0x67, .tileScale c sl n), (0x68, .lutExpand c sl n), (0x6C, .nibG0 c sl n), (0x6D, .nibG1 c sl n),
      (0x6E, .nibG2 c sl n), (0x6F, .nibG3 c sl n), (0x7F, .histDump c sl n)] : List (Nat × Instr)),
    q.1 < 256 ∧ exec q.2 s = .next (s.sliceRow c.val (vecPart sl.toNat q.1) n) := by
  have hrun : ∀ op, (if s.coreDark = true then (.next s : Host.Outcome State Fault Refusal)
      else .next (s.sliceRow c.val (vecPart sl.toNat op) n)) = .next (s.sliceRow c.val (vecPart sl.toNat op) n) := fun op =>
    if_neg (by simp [hdark])
  repeat refine List.forall_mem_cons.mpr ⟨⟨by simp, hrun _⟩, ?_⟩
  exact List.forall_mem_nil _

end

/-- Settles O20: each row is its slice's vector part by itself, and the part's fields are those of the slice. -/
theorem vectorRowsRunTheirOperation : Obligations.VectorRowsRunTheirOperation := by
  intro s c sl n hdark hn hn' q hq v
  obtain ⟨hop, hexec⟩ := exec_vectorRow hdark c sl n q hq
  have hv : v = { vecSlice sl.toNat with op := q.1 } := vecSlice_vecPart hop sl.toNat
  rw [hexec, hv, State.sliceRow_vecPart hop hn hn']
  refine ⟨fun hlegal hfree => ?_, fun hlegal hheld => ?_, fun hfault => ?_, rfl, eop_vecPart hop sl.toNat⟩
  · rw [if_neg (not_not.mpr hlegal), if_neg (by simp [hfree])]
  · rw [if_neg (not_not.mpr hlegal), if_pos hheld]
  · rw [if_pos hfault]

end Sys2Proof.Machine
end

section
/-! SUPPORT. Integer elements: two's complement, the integer operations of the vector unit and LUT_EXPAND (R95, R97, R102, Table NF-4). -/

namespace Sys2Proof.Machine

/-! ## Two's complement -/

/-- A number that is congruent to an integer modulo 2 to the `w` encodes it in `w` bits. -/
theorem ofSigned_of_modEq {w v : Nat} {x : Int} (h : x ≡ (v : Int) [ZMOD 2 ^ w]) : ofSigned w x = v % 2 ^ w := by
  have hmod : (v : Int) % 2 ^ w = ((v % 2 ^ w : Nat) : Int) := by push_cast; rfl
  rw [ofSigned, h.eq, hmod, Int.toNat_natCast]

theorem asSigned_modEq (w v : Nat) : asSigned w v ≡ (v : Int) [ZMOD 2 ^ w] := by
  have hmod : ((v % 2 ^ w : Nat) : Int) ≡ (v : Int) [ZMOD 2 ^ w] := by
    push_cast
    exact Int.mod_modEq _ _
  unfold asSigned
  dsimp only
  split
  · exact (Int.modEq_sub_modulus_iff.mpr hmod.symm).symm
  · exact hmod

theorem fmtInt_modEq (fmt v : Nat) : fmtInt fmt v ≡ (v : Int) [ZMOD 2 ^ fmtBits fmt] := by
  unfold fmtInt
  split
  · next h =>
    subst h
    push_cast
    exact Int.mod_modEq _ _
  · exact asSigned_modEq ..

theorem asSigned_ofSigned {x : Int} (h : -(2 ^ 31) ≤ x) (h' : x < 2 ^ 31) : asSigned 32 (ofSigned 32 x) = x := by
  unfold asSigned ofSigned
  dsimp only
  split
  · omega
  · omega

/-! ## Sums, differences and products -/

theorem fmtMin_le_fmtMax (fmt : Nat) : fmtMin fmt ≤ fmtMax fmt := by
  unfold fmtMin fmtMax
  have hpos : (0 : Int) < 2 ^ (fmtBits fmt - 1) := by positivity
  split
  · decide
  · omega

theorem clampInt_eq {lo hi : Int} (h : lo ≤ hi) (x : Int) : clampInt lo hi x = (max lo (min hi x), !decide (lo ≤ x ∧ x ≤ hi)) := by
  unfold clampInt
  by_cases hlow : x < lo
  · rw [if_pos hlow, max_eq_left (by omega), decide_eq_false (by omega), Bool.not_false]
  · rw [if_neg hlow]
    by_cases hhigh : hi < x
    · rw [if_pos hhigh, min_eq_left hhigh.le, max_eq_right h, decide_eq_false (by omega), Bool.not_false]
    · rw [if_neg hhigh, min_eq_right (by omega), max_eq_right (by omega), decide_eq_true (by omega), Bool.not_true]

section
variable (fmt a b : Nat)

/-- An integer held within the limits of its format, with SAT where it has to be. -/
def satInt (fmt : Nat) (x : Int) : Nat × Nat :=
  (ofSigned (fmtBits fmt) (max (fmtMin fmt) (min (fmtMax fmt) x)), if fmtMin fmt ≤ x ∧ x ≤ fmtMax fmt then 0 else flSAT)

theorem vecInt_iadd : vecInt 0x20 fmt a b = ((a + b) % 2 ^ fmtBits fmt, 0) := by
  have hsum : fmtInt fmt a + fmtInt fmt b ≡ ((a + b : Nat) : Int) [ZMOD 2 ^ fmtBits fmt] := by
    push_cast
    exact (fmtInt_modEq fmt a).add (fmtInt_modEq fmt b)
  exact congrArg (·, 0) (ofSigned_of_modEq hsum)

theorem vecInt_isub {b : Nat} (hb : b < 2 ^ fmtBits fmt) : vecInt 0x21 fmt a b = ((a + 2 ^ fmtBits fmt - b) % 2 ^ fmtBits fmt, 0) := by
  have hdiff : fmtInt fmt a - fmtInt fmt b ≡ ((a + 2 ^ fmtBits fmt - b : Nat) : Int) [ZMOD 2 ^ fmtBits fmt] := by
    rw [Nat.cast_sub (by omega)]
    push_cast
    exact ((fmtInt_modEq fmt a).trans (Int.modEq_add_modulus_iff.mpr rfl)).sub (fmtInt_modEq fmt b)
  exact congrArg (·, 0) (ofSigned_of_modEq hdiff)

theorem vecInt_imul : vecInt 0x24 fmt a b = (a * b % 2 ^ fmtBits fmt, 0) := by
  have hprod : fmtInt fmt a * fmtInt fmt b ≡ ((a * b : Nat) : Int) [ZMOD 2 ^ fmtBits fmt] := by
    push_cast
    exact (fmtInt_modEq fmt a).mul (fmtInt_modEq fmt b)
  exact congrArg (·, 0) (ofSigned_of_modEq hprod)

/-- The saturating form of the model. -/
theorem satInt_eq (x : Int) : (ofSigned (fmtBits fmt) (clampInt (fmtMin fmt) (fmtMax fmt) x).1,
    if (clampInt (fmtMin fmt) (fmtMax fmt) x).2 = true then flSAT else 0) = satInt fmt x := by
  rw [clampInt_eq (fmtMin_le_fmtMax fmt), satInt]
  by_cases h : fmtMin fmt ≤ x ∧ x ≤ fmtMax fmt
  · simp [h]
  · simp [h]

theorem vecInt_iaddSat : vecInt 0x22 fmt a b = satInt fmt (fmtInt fmt a + fmtInt fmt b) := satInt_eq ..

theorem vecInt_isubSat : vecInt 0x23 fmt a b = satInt fmt (fmtInt fmt a - fmtInt fmt b) := satInt_eq ..

/-! ## Shifts -/

theorem vecInt_shiftRne_zero {b : Nat} (h : b % 64 = 0) : vecInt 0x2B fmt a b = (a, 0) := if_pos h

theorem vecInt_shiftRne_out {b : Nat} (h : 32 ≤ b % 64) : vecInt 0x2B fmt a b = (0, 0) :=
  (if_neg (by omega)).trans (if_pos h)

theorem vecInt_shiftRne_flags : (vecInt 0x2B fmt a b).2 = 0 := by
  by_cases hzero : b % 64 = 0
  · rw [vecInt_shiftRne_zero fmt a hzero]
  · by_cases hout : 32 ≤ b % 64
    · rw [vecInt_shiftRne_out fmt a hout]
    · exact congrArg Prod.snd ((if_neg hzero).trans (if_neg hout))

end

/-- Settles O23: elements are congruent to their values modulo 2 to the width, and a saturating result is its clamped value. -/
theorem integerVectorOperations : Obligations.IntegerVectorOperations := fun fmt a b _ hb =>
  ⟨fun _ => ⟨vecInt_iadd fmt a b, vecInt_isub fmt a hb, vecInt_iaddSat fmt a b, vecInt_isubSat fmt a b⟩,
    fun _ => vecInt_imul fmt a b,
    fun _ => ⟨vecInt_shiftRne_zero fmt a, vecInt_shiftRne_out fmt a, vecInt_shiftRne_flags fmt a b⟩⟩

/-! ## Division -/

section
variable {a b : Nat}

theorem asSigned_range (v : Nat) : -(2 ^ 31) ≤ asSigned 32 v ∧ asSigned 32 v < 2 ^ 31 := by
  unfold asSigned
  dsimp only
  split
  · omega
  · omega

theorem asSigned_eq_zero_iff (h : b < 2 ^ 32) : asSigned 32 b = 0 ↔ b = 0 := by
  unfold asSigned
  dsimp only
  split
  · omega
  · omega

theorem asSigned_eq_min_iff (h : a < 2 ^ 32) : asSigned 32 a = -(2 ^ 31) ↔ a = 0x80000000 := by
  unfold asSigned
  dsimp only
  split
  · omega
  · omega

/-- A quotient of two 32-bit integers lies within 32 bits but for the least integer divided by −1. -/
theorem tdiv_range {x y : Int} (hx : -(2 ^ 31) ≤ x ∧ x < 2 ^ 31) (hedge : ¬(x = -(2 ^ 31) ∧ y = -1)) :
    -(2 ^ 31) ≤ x.tdiv y ∧ x.tdiv y < 2 ^ 31 := by
  by_cases hone : y.natAbs ≤ 1
  · obtain rfl | rfl | rfl : y = 0 ∨ y = 1 ∨ y = -1 := by omega
    · rw [Int.tdiv_zero]
      omega
    · rw [Int.tdiv_one]
      exact hx
    · rw [Int.tdiv_neg, Int.tdiv_one]
      omega
  · have hhalf : (x.tdiv y).natAbs ≤ x.natAbs / 2 := by
      rw [Int.natAbs_tdiv]
      exact Nat.div_le_div_left (by omega) (by omega)
    omega

/-- The remainder has the sign of the dividend. -/
theorem tmod_sign (x y : Int) : (0 < x.tmod y → 0 < x) ∧ (x.tmod y < 0 → x < 0) := by
  refine ⟨fun h => ?_, fun h => ?_⟩
  · by_contra hx
    have hneg := Int.tmod_nonneg y (a := -x) (by omega)
    rw [Int.neg_tmod] at hneg
    omega
  · by_contra hx
    have hpos := Int.tmod_nonneg y (a := x) (by omega)
    omega

end

/-- Settles O24: the quotient and the remainder are those of truncating division, which fit 32 bits but in the case of overflow. -/
theorem integerDivision : Obligations.IntegerDivision := by
  intro a b ha hb x y
  refine ⟨fun hb0 hedge => ?_, fun hb0 => ⟨if_neg hb0, if_neg hb0⟩,
    fun hb0 => ⟨if_pos hb0, if_pos hb0, if_pos hb0, if_pos hb0⟩, fun hmin hone => ?_⟩
  · have hx : -(2 ^ 31) ≤ x ∧ x < 2 ^ 31 := asSigned_range a
    have hy : -(2 ^ 31) ≤ y ∧ y < 2 ^ 31 := asSigned_range b
    have hy0 : y ≠ 0 := fun h => hb0 ((asSigned_eq_zero_iff hb).mp h)
    have hq : -(2 ^ 31) ≤ x.tdiv y ∧ x.tdiv y < 2 ^ 31 :=
      tdiv_range hx fun h => hedge ⟨(asSigned_eq_min_iff ha).mp h.1, h.2⟩
    have hr : (x.tmod y).natAbs < y.natAbs := by
      rw [Int.natAbs_tmod]
      exact Nat.mod_lt _ (by omega)
    obtain ⟨hpos, hneg⟩ := tmod_sign x y
    exact ⟨x.tdiv y, x.tmod y, (if_neg hb0).trans (if_neg hedge), (if_neg hb0).trans (if_neg hedge),
      asSigned_ofSigned hq.1 hq.2, asSigned_ofSigned (by omega) (by omega), (Int.tdiv_mul_add_tmod x y).symm, hr, hpos, hneg⟩
  · have hb0 : b ≠ 0 := fun h => by
      have hy0 : y = 0 := (asSigned_eq_zero_iff hb).mpr h
      omega
    exact ⟨(if_neg hb0).trans (if_pos ⟨hmin, hone⟩), (if_neg hb0).trans (if_pos ⟨hmin, hone⟩)⟩

/-! ## LUT_EXPAND -/

theorem foldl_flags_zero {α : Type} (f : α → Nat) (l : List α) : (l.map fun x => (f x, 0)).foldl (fun fl r => fl ||| r.2) 0 = 0 := by
  rw [List.foldl_map]
  exact List.foldl_fixed' (fun _ => Nat.or_zero 0) l

theorem vecResult_lutExpand (len a b d base : Nat) (hist : List (Nat × Nat)) : vecResult 0x68 9 len a b d base hist =
    ((List.range len).map fun i => b / 2 ^ (8 * (a / 2 ^ (4 * i) % 16)) % 256, 0) := by
  have helem : ∀ i, elem 8 b (elem 4 a i) = b / 2 ^ (8 * (a / 2 ^ (4 * i) % 16)) % 256 := fun i => by
    simp only [elem, Nat.shiftRight_eq_div_pow]
    rfl
  refine Prod.ext ?_ (foldl_flags_zero (fun i => elem 8 b (elem 4 a i)) (List.range len))
  simp only [← helem]
  exact List.map_map

/-- A byte of the table's first 16 lies in its low 128 bits. -/
theorem tableByte_eq (b : Nat) {k : Nat} (hk : k < 16) : b / 2 ^ (8 * k) % 256 = b % 2 ^ 128 / 2 ^ (8 * k) % 256 := by
  have hdvd : 2 ^ (8 * k) * 2 ^ 8 ∣ 2 ^ 128 := by
    rw [← Nat.pow_add]
    exact Nat.pow_dvd_pow 2 (by omega)
  calc b / 2 ^ (8 * k) % 2 ^ 8
      = b % (2 ^ (8 * k) * 2 ^ 8) / 2 ^ (8 * k) := (Nat.mod_mul_right_div_self ..).symm
    _ = b % 2 ^ 128 % (2 ^ (8 * k) * 2 ^ 8) / 2 ^ (8 * k) := by rw [Nat.mod_mod_of_dvd _ hdvd]
    _ = b % 2 ^ 128 / 2 ^ (8 * k) % 2 ^ 8 := Nat.mod_mul_right_div_self ..

/-- Settles O25: each element is the byte of the table at a four-bit index, which lies in the table's low 16 bytes. -/
theorem lutExpandReadsTable : Obligations.LutExpandReadsTable := by
  intro len a b d base hist
  refine ⟨vecResult_lutExpand .., rfl, fun b' hb => ?_⟩
  have hbyte : ∀ i, b' / 2 ^ (8 * (a / 2 ^ (4 * i) % 16)) % 256 = b / 2 ^ (8 * (a / 2 ^ (4 * i) % 16)) % 256 := fun i => by
    have hindex : a / 2 ^ (4 * i) % 16 < 16 := Nat.mod_lt _ (by decide)
    rw [tableByte_eq b' hindex, tableByte_eq b hindex, hb]
  rw [vecResult_lutExpand, vecResult_lutExpand]
  simp only [hbyte]

end Sys2Proof.Machine
end

section
/-! SUPPORT. The vector unit of a core: its histogram's boundary, and its results becoming visible (R91, R107, R108, R110, R111, R113). -/

namespace Sys2Proof.Machine

/-! ## The state's vector units -/

section
variable {s : State} {c : Nat}

theorem State.vec_setVec_same (h : spWf VecUnit.reset s.vecs = true) (v : VecUnit) : (s.setVec c v).vec c = v :=
  spGet_spSet_same _ _ _ _ h

theorem State.vec_setVec_ne (h : spWf VecUnit.reset s.vecs = true) {c' : Nat} (hc : c' ≠ c) (v : VecUnit) :
    (s.setVec c v).vec c' = s.vec c' := spGet_spSet_ne _ _ _ _ _ h fun hcc => hc hcc.symm

theorem State.vec_congr {t : State} (h : t.vecs = s.vecs) (c : Nat) : t.vec c = s.vec c := by rw [State.vec, h, State.vec]

/-! ## The histogram's boundary -/

theorem exec_vecHistClear_of_owner {c : CoreId} {p : PartId} (hdark : s.coreDark = false) (h : s.fld F.PL_VEC_HIST_PART c.val = p.val) :
    exec (.vecHistClear c p) s = .next (s.setVec c.val { s.vec c.val with clear := true }) := by
  have hrun : exec (.vecHistClear c p) s = execVecHistClear c p s := rfl
  rw [hrun, execVecHistClear, if_neg (by simp [hdark]), if_pos h]

theorem exec_vecHistClear_of_other {c : CoreId} {p : PartId} (hdark : s.coreDark = false) (h : s.fld F.PL_VEC_HIST_PART c.val ≠ p.val) :
    exec (.vecHistClear c p) s = .next s := by
  have hrun : exec (.vecHistClear c p) s = execVecHistClear c p s := rfl
  rw [hrun, execVecHistClear, if_neg (by simp [hdark]), if_neg h]

/-- R108: the vector unit after a bundle boundary at which PL_VEC_HIST reads `cfg`. -/
def VecUnit.atBoundary (v : VecUnit) (cfg : BitVec 64) : VecUnit :=
  { v with cfg := cfg, hist := if v.clear then [] else v.hist, clear := false }

/-- A boundary at which nothing has been written leaves the unit as it is. -/
theorem VecUnit.atBoundary_of_same {v : VecUnit} {cfg : BitVec 64} (hcfg : v.cfg = cfg) (hclear : v.clear = false) :
    v.atBoundary cfg = v := by
  subst hcfg
  rw [VecUnit.atBoundary, hclear]
  cases v
  simp_all

theorem State.histBoundary_cases (s : State) (c : Nat) :
    (s.histBoundary c = s ∧ (s.vec c).atBoundary (s.reg R.PL_VEC_HIST c) = s.vec c) ∨
      s.histBoundary c = s.setVec c ((s.vec c).atBoundary (s.reg R.PL_VEC_HIST c)) := by
  unfold State.histBoundary
  dsimp only
  split
  · next h => exact .inl ⟨rfl, VecUnit.atBoundary_of_same h.1 h.2⟩
  · exact .inr rfl

theorem State.vec_histBoundary_same (h : spWf VecUnit.reset s.vecs = true) :
    (s.histBoundary c).vec c = (s.vec c).atBoundary (s.reg R.PL_VEC_HIST c) := by
  obtain ⟨hsame, hunit⟩ | hset := s.histBoundary_cases c
  · rw [hsame, hunit]
  · rw [hset, State.vec_setVec_same h]

theorem State.vec_histBoundary_ne (h : spWf VecUnit.reset s.vecs = true) {c' : Nat} (hc : c' ≠ c) :
    (s.histBoundary c).vec c' = s.vec c' := by
  obtain ⟨hsame, -⟩ | hset := s.histBoundary_cases c
  · rw [hsame]
  · rw [hset, State.vec_setVec_ne h hc]

theorem State.histBoundary_frame (s : State) (c : Nat) : (s.histBoundary c).regs = s.regs ∧ (s.histBoundary c).mem = s.mem := by
  obtain ⟨hsame, -⟩ | hset := s.histBoundary_cases c
  · rw [hsame]
    exact ⟨rfl, rfl⟩
  · rw [hset]
    exact ⟨rfl, rfl⟩

end

/-- Settles O26: the write marks the core's unit alone, and the boundary replaces that unit by VecUnit.atBoundary. -/
theorem histogramCleared : Obligations.HistogramCleared := by
  refine ⟨fun s c p hdark => ⟨exec_vecHistClear_of_owner hdark, exec_vecHistClear_of_other hdark⟩, fun s c hs => ?_⟩
  obtain ⟨hregs, hmem⟩ := s.histBoundary_frame c
  rw [State.vec_histBoundary_same hs.vecs]
  exact ⟨rfl, rfl, rfl, rfl, fun c' hc => State.vec_histBoundary_ne hs.vecs hc, hregs, hmem⟩

/-! ## What a vector leaves as it was -/

/-- The registers that tag the core stores (R118, R119, R130). -/
def shareRegs : List RegArr := [R.PL_CONFIG, R.MT_SHARE, R.MT_CTRL]

/-- What a read of a core store finds, and who may make it, has not changed. -/
structure State.keepsReads (s t : State) : Prop where
  mem    : t.mem = s.mem
  poison : t.poison = s.poison
  edge   : t.stow.edge = s.stow.edge
  tested : t.bring.tested = s.bring.tested
  regsWf : s.regsWf → t.regsWf
  shares : s.regsWf → ∀ r ∈ shareRegs, ∀ j, t.reg r j = s.reg r j

/-- The vector units have not changed either. -/
structure State.keepsVecs (s t : State) : Prop extends s.keepsReads t where
  vecs : t.vecs = s.vecs

section
variable {s t u : State}

theorem State.reg_congr (h : t.regs = s.regs) (r : RegArr) (i : Nat) : t.reg r i = s.reg r i := by rw [State.reg, h, State.reg]

namespace State.keepsReads

theorem of_regs (hmem : t.mem = s.mem) (hpoison : t.poison = s.poison) (hedge : t.stow.edge = s.stow.edge)
    (htested : t.bring.tested = s.bring.tested) (hregs : t.regs = s.regs) : s.keepsReads t :=
  ⟨hmem, hpoison, hedge, htested, fun hs => by rw [State.regsWf, hregs]; exact hs, fun _ r _ j => State.reg_congr hregs r j⟩

theorem trans (h : s.keepsReads t) (h' : t.keepsReads u) : s.keepsReads u :=
  ⟨h'.mem.trans h.mem, h'.poison.trans h.poison, h'.edge.trans h.edge, h'.tested.trans h.tested, h'.regsWf ∘ h.regsWf,
    fun hs r hr j => (h'.shares (h.regsWf hs) r hr j).trans (h.shares hs r hr j)⟩

theorem fld (h : s.keepsReads t) (hs : s.regsWf) {f : RegField} (hf : f.reg ∈ shareRegs) (j : Nat) : t.fld f j = s.fld f j :=
  congrArg f.get (h.shares hs f.reg hf j)

theorem bytesAt (h : s.keepsReads t) (c a n : Nat) : t.bytesAt c a n = s.bytesAt c a n := by
  simp only [State.bytesAt, State.byteAt, State.rdBytes, State.rdByte, State.shade, State.blank, h.mem, h.edge, h.tested]

theorem markAt (h : s.keepsReads t) (c a : Nat) : t.markAt c a = s.markAt c a := by
  simp only [State.markAt, State.poisonAt, h.poison, h.edge]

theorem planLot (h : s.keepsReads t) (hs : s.regsWf) : t.planLot = s.planLot :=
  congrArg (384 - ·) (h.fld (f := F.PL_CONFIG_PLAN_SIZE) hs (by decide) 0)

theorem shareOf (h : s.keepsReads t) (hs : s.regsWf) (c k : Nat) : t.shareOf c k = s.shareOf c k := by
  have hbase := h.fld (f := F.MT_SHARE_BASE) hs (by decide)
  have hcount := h.fld (f := F.MT_SHARE_COUNT) hs (by decide)
  simp only [State.shareOf, hbase, hcount]

end State.keepsReads

theorem ddrSize_le_vecAddr (c u : Nat) : ¬vecAddr c u < ddrSize := by
  simp only [vecAddr, coreBase, ddrSize]
  omega

theorem inCoreStore_vecAddr {c : Nat} (hc : c < 16) (u : Nat) : inCoreStore (vecAddr c u) = true := by
  have hlow : coreBase 0 ≤ vecAddr c u := by
    unfold vecAddr coreBase
    omega
  have hhigh : vecAddr c u < coreBase 16 := by
    unfold vecAddr coreBase
    omega
  have hstore : (vecAddr c u - coreBase 0) % 0x02000000 < coreSize := by
    unfold vecAddr coreBase coreSize
    omega
  rw [inCoreStore, decide_eq_true hlow, decide_eq_true hhigh, decide_eq_true hstore, Bool.and_self, Bool.and_self]

/-- The tag of a unit of a core store rests on the registers of the shares. -/
theorem State.keepsReads.tagOf (h : s.keepsReads t) (hs : s.regsWf) {c : Nat} (hc : c < 16) (u : Nat) :
    t.tagOf (vecAddr c u) = s.tagOf (vecAddr c u) := by
  have hdemand := h.fld (f := F.MT_CTRL_DEMAND) hs (by decide) 0
  unfold State.tagOf
  rw [if_neg (ddrSize_le_vecAddr c u), if_neg (ddrSize_le_vecAddr c u), if_pos (inCoreStore_vecAddr hc u),
    if_pos (inCoreStore_vecAddr hc u)]
  simp only [h.planLot hs, h.shareOf hs, hdemand]

namespace State.keepsVecs

theorem refl (s : State) : s.keepsVecs s := ⟨.of_regs rfl rfl rfl rfl rfl, rfl⟩

theorem trans (h : s.keepsVecs t) (h' : t.keepsVecs u) : s.keepsVecs u :=
  ⟨h.tokeepsReads.trans h'.tokeepsReads, h'.vecs.trans h.vecs⟩

theorem ite {p : Prop} [Decidable p] (ht : s.keepsVecs t) (hu : s.keepsVecs u) : s.keepsVecs (if p then t else u) := by
  split
  · exact ht
  · exact hu

/-- A register that is none of the shares'. -/
theorem setReg (h : s.keepsVecs t) {r : RegArr} {i : Nat} (hr : ∀ q ∈ shareRegs, ∀ j, r.key i ≠ q.key j) (v : BitVec 64) :
    s.keepsVecs (t.setReg r i v) :=
  h.trans ⟨⟨rfl, rfl, rfl, rfl, fun ht => State.regsWf_setReg ht r i v, fun ht q hq j => State.reg_setReg_ne ht v (hr q hq j)⟩, rfl⟩

theorem setFld (h : s.keepsVecs t) {f : RegField} {i : Nat} (hr : ∀ q ∈ shareRegs, ∀ j, f.reg.key i ≠ q.key j) (x : Nat) :
    s.keepsVecs (t.setFld f i x) := h.setReg hr _

theorem raise (h : s.keepsVecs t) (code detail : Nat) : s.keepsVecs (t.raise code detail) := by
  obtain ⟨p, k, hk⟩ := t.raise_eq code detail
  rw [hk]
  exact h.trans ⟨.of_regs rfl rfl rfl rfl rfl, rfl⟩

theorem record (h : s.keepsVecs t) (kind source : Nat) (bs : List Byte) (domain : Nat) :
    s.keepsVecs (t.record kind source bs domain) := by
  obtain ⟨k, hk⟩ := t.recordAt_eq t.acyc kind source bs domain
  rw [State.record, hk]
  exact h.trans ⟨.of_regs rfl rfl rfl rfl rfl, rfl⟩

theorem worked (h : s.keepsVecs t) (kind part n : Nat) : s.keepsVecs (t.worked kind part n) :=
  h.trans ⟨.of_regs rfl rfl rfl rfl rfl, rfl⟩

end State.keepsVecs

end

theorem vecStatus_key_ne_share (c : Nat) : ∀ q ∈ shareRegs, ∀ j, R.PL_VEC_STATUS.key c ≠ q.key j := by
  simp only [shareRegs, List.forall_mem_cons]
  refine ⟨fun j => ?_, fun j => ?_, fun j => ?_, List.forall_mem_nil _⟩
  all_goals
    simp only [RegArr.key, R.PL_VEC_STATUS, R.PL_CONFIG, R.MT_SHARE, R.MT_CTRL]
    omega

theorem stowStatus_key_ne_share : ∀ q ∈ shareRegs, ∀ j, R.MT_STATUS.key 0 ≠ q.key j := by
  simp only [shareRegs, List.forall_mem_cons]
  refine ⟨fun j => ?_, fun j => ?_, fun j => ?_, List.forall_mem_nil _⟩
  all_goals
    simp only [RegArr.key, R.MT_STATUS, R.PL_CONFIG, R.MT_SHARE, R.MT_CTRL]
    omega

theorem State.stowFlag_keepsVecs (s : State) (code c part slot : Nat) :
    s.keepsVecs (s.stowFlag F.MT_STATUS_EARLY_READ code c part slot) := by
  have hset := (((State.keepsVecs.refl s).setFld (f := F.MT_STATUS_EARLY_READ) stowStatus_key_ne_share 1).setFld
    (f := F.MT_STATUS_LAST_CORE) stowStatus_key_ne_share c).setFld (f := F.MT_STATUS_LAST_PART) stowStatus_key_ne_share part
  exact (State.keepsVecs.ite (p := part < 2) (hset.raise 0x07 (c + 256 * code)) hset).record ..

theorem State.vecFlags_keepsVecs (s : State) (c part slot fl : Nat) : s.keepsVecs (s.vecFlags c part slot fl) := by
  have hkey := vecStatus_key_ne_share c
  unfold State.vecFlags
  split
  · exact .refl s
  · refine List.foldlRecOn (motive := s.keepsVecs) _ _ ((((State.keepsVecs.refl s).setReg hkey _).setFld
      (f := F.PL_VEC_STATUS_LAST_PART) hkey _).setFld (f := F.PL_VEC_STATUS_LAST_SLOT) hkey _) fun t ht b _ => ?_
    have hraised := State.keepsVecs.ite (p := (part < 2 && vecEventFlags.contains b) = true) (ht.raise 0x06 (c + 256 * b)) ht
    exact .ite hraised (hraised.record ..)

/-! ## Flags of a vector unit -/

/-- Raising events and recording leave the registers as they are. -/
theorem State.regs_raise (s : State) (code detail : Nat) : (s.raise code detail).regs = s.regs := by
  obtain ⟨p, k, h⟩ := s.raise_eq code detail
  rw [h]

theorem State.regs_record (s : State) (kind source : Nat) (bs : List Byte) (domain : Nat) :
    (s.record kind source bs domain).regs = s.regs := by
  obtain ⟨k, h⟩ := s.recordAt_eq s.acyc kind source bs domain
  rw [State.record, h]

/-- PL_VEC_STATUS of a core after a mask of flags of a slice has been set. -/
def vecStatusWith (v : BitVec 64) (part slot fl : Nat) : BitVec 64 :=
  F.PL_VEC_STATUS_LAST_SLOT.put (F.PL_VEC_STATUS_LAST_PART.put (BitVec.ofNat 64 (v.toNat ||| fl)) part) slot

theorem getLsbD_vecStatusWith (v : BitVec 64) (part slot : Nat) {fl b : Nat} (hb : b ≤ 10) (hfl : fl.testBit b = true) :
    (vecStatusWith v part slot fl).getLsbD b = true := by
  have hpart : ¬(F.PL_VEC_STATUS_LAST_PART.lo ≤ b ∧ b < F.PL_VEC_STATUS_LAST_PART.lo + F.PL_VEC_STATUS_LAST_PART.w) := by
    simp only [F.PL_VEC_STATUS_LAST_PART]
    omega
  have hslot : ¬(F.PL_VEC_STATUS_LAST_SLOT.lo ≤ b ∧ b < F.PL_VEC_STATUS_LAST_SLOT.lo + F.PL_VEC_STATUS_LAST_SLOT.w) := by
    simp only [F.PL_VEC_STATUS_LAST_SLOT]
    omega
  have hb' : b < 64 := by omega
  rw [vecStatusWith, RegField.getLsbD_put _ _ _ _ hb', if_neg hslot, RegField.getLsbD_put _ _ _ _ hb', if_neg hpart,
    BitVec.getLsbD_ofNat, Nat.testBit_or, hfl]
  simp [hb']

theorem State.reg_setFld_same {s : State} (h : s.regsWf) (f : RegField) (i x : Nat) :
    (s.setFld f i x).reg f.reg i = f.put (s.reg f.reg i) x := State.reg_setReg_same h ..

/-- PL_VEC_STATUS of core `c` after a slice has set flags. -/
def State.vecStatusSet (s : State) (c part slot fl : Nat) : State :=
  ((s.setReg R.PL_VEC_STATUS c (BitVec.ofNat 64 ((s.reg R.PL_VEC_STATUS c).toNat ||| fl))).setFld
    F.PL_VEC_STATUS_LAST_PART c part).setFld F.PL_VEC_STATUS_LAST_SLOT c slot

section
variable {s : State} (c part slot : Nat) {fl : Nat}

theorem State.reg_vecStatusSet (hregs : s.regsWf) :
    (s.vecStatusSet c part slot fl).reg R.PL_VEC_STATUS c = vecStatusWith (s.reg R.PL_VEC_STATUS c) part slot fl := by
  have hset := State.regsWf_setReg hregs R.PL_VEC_STATUS c (BitVec.ofNat 64 ((s.reg R.PL_VEC_STATUS c).toNat ||| fl))
  have hslot := State.reg_setFld_same (State.regsWf_setFld hset F.PL_VEC_STATUS_LAST_PART c part) F.PL_VEC_STATUS_LAST_SLOT c slot
  have hpart := State.reg_setFld_same hset F.PL_VEC_STATUS_LAST_PART c part
  refine hslot.trans (congrArg (F.PL_VEC_STATUS_LAST_SLOT.put · slot) (hpart.trans (congrArg (F.PL_VEC_STATUS_LAST_PART.put · part) ?_)))
  exact State.reg_setReg_same hregs ..

/-- The flags of a vector unit are written to its PL_VEC_STATUS alone. -/
theorem State.regs_vecFlags (hfl : fl ≠ 0) : (s.vecFlags c part slot fl).regs = (s.vecStatusSet c part slot fl).regs := by
  unfold State.vecFlags
  rw [if_neg hfl]
  refine List.foldlRecOn (motive := fun t : State => t.regs = _) _ _ rfl fun t ht b _ => ?_
  have hraised : (if (part < 2 && vecEventFlags.contains b) = true then t.raise 0x06 (c + 256 * b) else t).regs = t.regs := by
    split
    · exact State.regs_raise ..
    · rfl
  dsimp only
  split
  · exact hraised.trans ht
  · exact (State.regs_record ..).trans (hraised.trans ht)

/-- R85: a flag that is set stands in PL_VEC_STATUS. -/
theorem State.getLsbD_vecFlags (hregs : s.regsWf) {b : Nat} (hb : b ≤ 10) (hbit : fl.testBit b = true) :
    ((s.vecFlags c part slot fl).reg R.PL_VEC_STATUS c).getLsbD b = true := by
  have hfl : fl ≠ 0 := fun h => by simp [h] at hbit
  rw [State.reg_congr (State.regs_vecFlags c part slot hfl), State.reg_vecStatusSet c part slot hregs]
  exact getLsbD_vecStatusWith _ part slot hb hbit

end

/-! ## A result becomes visible -/

theorem State.getD_rdBytes (s : State) (a : Nat) {n k : Nat} (hk : k < n) : (s.rdBytes a n).getD k 0 = s.rdByte (a + k) := by
  unfold State.rdBytes State.shade State.rdByte State.blank
  split
  · simp [spRange, hk]
  · next hout =>
    have hblank : ¬(s.bring.tested && decide (a + k < ddrSize)) = true := by
      rw [Bool.and_eq_true, decide_eq_true_eq] at hout ⊢
      exact fun ⟨htested, hlow⟩ => hout ⟨htested, by omega⟩
    simp [spRange, hk, hblank]

/-- The core's unit without writes on their way. -/
def State.pendTaken (s : State) (c : Nat) : State := s.setVec c { s.vec c with pend := [] }

section
variable {s : State} {c t : Nat} {w : VecWrite} (hpend : (s.vec c).pend = [w])
include hpend

theorem State.settleVec_of_due (h : w.cyc ≤ t) : s.settleVec c t = (s.pendTaken c).settleWrite c w := by
  have hlate : ¬t < w.cyc := by omega
  simp [State.settleVec, State.pendTaken, hpend, h, hlate]

theorem State.settleVec_of_early (h : t < w.cyc) : s.settleVec c t = s := by
  have hdue : ¬w.cyc ≤ t := by omega
  simp [State.settleVec, hpend, hdue]

end

/-- The write's bytes stand in the core store. -/
def State.vecStored (s : State) (w : VecWrite) : State :=
  (s.noteEdge (w.cyc - 1) (.vector w.part w.slot) w.addr w.bytes.length).wrMarked w.addr w.bytes w.poison

/-- R107: the unit in whose histogram a write's elements have counted. -/
def VecUnit.counted (v : VecUnit) (w : VecWrite) : VecUnit :=
  { v with
    hist := w.bins.foldl histAdd v.hist
    histSaved := if w.run then v.histSaved else w.bins.foldl histAdd v.histSaved }

section
variable {s : State} {c : Nat} {w : VecWrite}

theorem State.settleWrite_of_clash (h : s.clashes (w.cyc - 1) w.addr 32 (fun x => x == .transfer) = true) :
    s.settleWrite c w = s.vecFlags c w.part w.slot flWRITE_CLASH := if_pos h

theorem State.settleWrite_of_free (h : s.clashes (w.cyc - 1) w.addr 32 (fun x => x == .transfer) = false) :
    s.settleWrite c w = (s.vecStored w).setVec c (((s.vecStored w).vec c).counted w) := if_neg (by simp [h])

theorem State.rdByte_vecStored (hmem : Memory.wf s.mem) (w : VecWrite) {k : Nat} (hk : k < w.bytes.length) :
    (s.vecStored w).rdByte (w.addr + k) = w.bytes.getD k 0 := by
  have hread := State.rdBytes_wrMarked_same (s := s.noteEdge (w.cyc - 1) (.vector w.part w.slot) w.addr w.bytes.length) hmem w.addr
    w.bytes w.poison
  rw [← State.getD_rdBytes _ _ hk]
  exact congrArg (·.getD k 0) hread

theorem State.rdByte_vecStored_outside (hmem : Memory.wf s.mem) (w : VecWrite) {a : Nat}
    (ha : a < w.addr ∨ w.addr + w.bytes.length ≤ a) : (s.vecStored w).rdByte a = s.rdByte a :=
  State.rdByte_wrMarked_outside (s := s.noteEdge (w.cyc - 1) (.vector w.part w.slot) w.addr w.bytes.length) hmem w.addr w.bytes
    w.poison ha

end

/-- Settles O22: a write that is due is stored where no transfer clashes, and else sets a flag alone. -/
theorem vectorWriteBecomesVisible : Obligations.VectorWriteBecomesVisible := by
  intro s c t w hs hpend
  have htaken : (s.pendTaken c).vec c = { s.vec c with pend := [] } := State.vec_setVec_same hs.vecs _
  have hwf : spWf VecUnit.reset (s.pendTaken c).vecs = true := spWf_spSet hs.vecs ..
  refine ⟨fun hdue hfree => ?_, fun hdue hclash => ?_, fun hearly => ?_⟩
  · have hunit : ((s.pendTaken c).vecStored w).vec c = { s.vec c with pend := [] } := htaken
    rw [State.settleVec_of_due hpend hdue, State.settleWrite_of_free (s := s.pendTaken c) hfree, hunit]
    have hset := State.vec_setVec_same (s := (s.pendTaken c).vecStored w) (c := c) hwf (VecUnit.counted { s.vec c with pend := [] } w)
    rw [hset]
    exact ⟨fun k hk => State.rdByte_vecStored (s := s.pendTaken c) hs.mem w hk,
      fun a ha => State.rdByte_vecStored_outside (s := s.pendTaken c) hs.mem w ha, rfl, rfl⟩
  · have hflags := (s.pendTaken c).vecFlags_keepsVecs c w.part w.slot flWRITE_CLASH
    rw [State.settleVec_of_due hpend hdue, State.settleWrite_of_clash (s := s.pendTaken c) hclash, State.vec_congr hflags.vecs, htaken]
    exact ⟨hflags.mem, rfl, rfl, State.getLsbD_vecFlags (s := s.pendTaken c) c w.part w.slot hs.regs (b := 10) (by decide) (by decide)⟩
  · rw [State.settleVec_of_early hpend hearly]
    exact ⟨rfl, rfl, hpend⟩

end Sys2Proof.Machine
end

section
/-! SUPPORT. The reads of a vector, and the writes that it starts (R91, R92, R107, R110). -/

namespace Sys2Proof.Machine

/-! ## What a vector reads -/

/-- The fold over a range keeps a property that speaks of how far it has come. -/
theorem foldl_range_induction {β : Type} {f : β → Nat → β} {P : Nat → β → Prop} {x : β} (n : Nat) (hzero : P 0 x)
    (hstep : ∀ k < n, ∀ y, P k y → P (k + 1) (f y k)) : P n ((List.range n).foldl f x) := by
  induction n with
  | zero => exact hzero
  | succ n ih =>
    rw [List.range_succ, List.foldl_append]
    exact hstep n (Nat.lt_succ_self n) _ (ih fun k hk => hstep k (Nat.lt_succ_of_lt hk))

/-- The first `m` units of the stream of `n` bytes, as Claims.vecStream counts them. -/
def State.streamUnits (s : State) (c u n t m : Nat) : Nat :=
  (List.range m).foldl (fun v k => v + leNat (s.bytesAt t (vecAddr c (u + k)) (min 32 (n - 32 * k))) * 2 ^ (256 * k)) 0

theorem State.streamUnits_succ (s : State) (c u n t m : Nat) : s.streamUnits c u n t (m + 1) =
    s.streamUnits c u n t m + leNat (s.bytesAt t (vecAddr c (u + m)) (min 32 (n - 32 * m))) * 2 ^ (256 * m) := by
  rw [State.streamUnits, List.range_succ, List.foldl_append]
  rfl

/-- A read after `m` of its units: their value, their marks, and a state in which reads find what they found. -/
structure State.readSoFar (s : State) (c u n t m : Nat) (x : Nat × Bool × State) : Prop where
  value  : x.1 = s.streamUnits c u n t m
  marked : x.2.1 = (List.range m).any fun k => s.markAt t (vecAddr c (u + k))
  keeps  : s.keepsVecs x.2.2

theorem Tag.eq_part_of_reads {g : Tag} {p : Nat} (h : g.reads p = true) : ∃ q rd, g = .part q rd := by
  cases g with
  | part q rd => exact ⟨q, rd, rfl⟩
  | plan => simp [Tag.reads] at h
  | unassigned => simp [Tag.reads] at h

theorem Tag.eq_part_of_writes {g : Tag} {p : Nat} (h : g.writes p = true) : ∃ q rd, g = .part q rd := by
  cases g with
  | part q rd => exact ⟨q, rd, rfl⟩
  | plan => simp [Tag.writes] at h
  | unassigned => simp [Tag.writes] at h

section
variable {s : State} {c : Nat} (hs : s.regsWf) (hc : c < 16)
include hs hc

/-- A read of units that the partition may read finds their stream and their marks. -/
theorem State.vecRead_of_own (part slot u n t : Nat) (hown : ∀ k, k < units n → (s.tagOf (vecAddr c (u + k))).reads part = true) :
    ∃ r, s.keepsVecs r ∧ s.vecRead c part slot u n t = (Claims.vecStream s c u n t, Claims.vecMarked s c u n t, r) := by
  have hread : s.readSoFar c u n t (units n) (s.vecRead c part slot u n t) := by
    unfold State.vecRead
    refine foldl_range_induction (P := s.readSoFar c u n t) (units n) ⟨rfl, rfl, .refl s⟩ fun k hk x hx => ?_
    obtain ⟨v, p, r⟩ := x
    obtain ⟨hvalue, hmarked, hkeeps⟩ := hx
    have htag := hown k hk
    rw [← hkeeps.tagOf hs hc] at htag
    obtain ⟨q, rd, hpart⟩ := Tag.eq_part_of_reads htag
    have hearly := State.keepsVecs.ite (p := r.earlyRead (vecAddr c (u + k)) 32 = true)
      (hkeeps.trans (r.stowFlag_keepsVecs 1 c part slot)) hkeeps
    rw [hpart] at htag
    dsimp only at hvalue hmarked hearly
    -- Another name for the function keeps the kernel from evaluating its comparisons of addresses below.
    obtain ⟨tagOf, hname⟩ : ∃ f, f = State.tagOf := ⟨_, rfl⟩
    rw [← hname] at hpart ⊢
    dsimp only
    rw [hpart]
    dsimp only
    rw [if_pos htag]
    refine ⟨?_, ?_, hearly⟩
    · dsimp only
      rw [s.streamUnits_succ, hvalue, hearly.bytesAt]
    · dsimp only
      rw [List.range_succ, List.any_append, ← hmarked, hearly.markAt]
      simp
  obtain ⟨hvalue, hmarked, hkeeps⟩ := hread
  exact ⟨_, hkeeps, Prod.ext hvalue (Prod.ext hmarked rfl)⟩

end

/-! ## The writes that a vector starts -/

/-- The unit with further writes on their way. -/
def VecUnit.withPend (v : VecUnit) (ws : List VecWrite) : VecUnit := { v with pend := v.pend ++ ws }

/-- Of the vector units only that of core `c` may have changed. -/
structure State.onlyUnit (c : Nat) (s t : State) : Prop extends s.keepsReads t where
  vecsWf : spWf VecUnit.reset s.vecs = true → spWf VecUnit.reset t.vecs = true
  others : spWf VecUnit.reset s.vecs = true → ∀ c', c' ≠ c → t.vec c' = s.vec c'

section
variable {c : Nat} {s t u : State}

theorem State.keepsVecs.onlyUnit (h : s.keepsVecs t) (c : Nat) : State.onlyUnit c s t :=
  ⟨h.tokeepsReads, fun hs => by rw [h.vecs]; exact hs, fun _ c' _ => State.vec_congr h.vecs c'⟩

theorem State.onlyUnit.trans (h : State.onlyUnit c s t) (h' : State.onlyUnit c t u) : State.onlyUnit c s u :=
  ⟨h.tokeepsReads.trans h'.tokeepsReads, h'.vecsWf ∘ h.vecsWf,
    fun hs c' hc => (h'.others (h.vecsWf hs) c' hc).trans (h.others hs c' hc)⟩

theorem State.onlyUnit_setVec (s : State) (c : Nat) (v : VecUnit) : State.onlyUnit c s (s.setVec c v) :=
  ⟨.of_regs rfl rfl rfl rfl rfl, fun hs => spWf_spSet hs c v, fun hs _ hc => State.vec_setVec_ne hs hc v⟩

theorem State.lotWritten_keepsVecs (s : State) (a : Nat) : s.keepsVecs (s.lotWritten a) := by
  have hset : ∀ l e, s.keepsVecs (s.setLot l e) := fun _ _ => ⟨.of_regs rfl rfl rfl rfl rfl, rfl⟩
  unfold State.lotWritten
  dsimp only
  split
  · exact .ite (hset ..) (.ite (hset ..) (.refl s))
  · exact .refl s

/-- The writes of a vector's result to the units from `u`, visible at cycle `at'` (R91, R107). -/
def vecWrites (c part slot u at' : Nat) (bs : List Byte) (p : Bool) (w : Nat) (bins : List Nat) (m : Nat) : List VecWrite :=
  (List.range m).map fun k => ⟨at', vecAddr c (u + k), (bs.drop (32 * k)).take 32, p, part, slot,
    (bins.drop (256 / w * k)).take (256 / w), true⟩

/-- Core `c` has the writes on their way beside those it had. -/
structure State.startsWrites (c : Nat) (s : State) (ws : List VecWrite) (t : State) : Prop extends State.onlyUnit c s t where
  unit : t.vec c = (s.vec c).withPend ws

theorem State.startsWrites.nil (c : Nat) (s : State) : State.startsWrites c s [] s :=
  ⟨(State.keepsVecs.refl s).onlyUnit c, by rw [VecUnit.withPend, List.append_nil]⟩

/-- R91: the result of a vector to units that the partition may write is on its way to each of them. -/
theorem State.vecStart_of_own (hs : s.regsWf) (hvecs : spWf VecUnit.reset s.vecs = true) (hc : c < 16) (part slot u at' : Nat)
    (bs : List Byte) (p : Bool) (w : Nat) (bins : List Nat)
    (hown : ∀ k, k < units bs.length → (s.tagOf (vecAddr c (u + k))).writes part = true) :
    State.startsWrites c s (vecWrites c part slot u at' bs p w bins (units bs.length)) (s.vecStart c part slot u at' bs p w bins) := by
  unfold State.vecStart
  refine foldl_range_induction (P := fun m => State.startsWrites c s (vecWrites c part slot u at' bs p w bins m)) (units bs.length)
    (.nil c s) fun k hk r hr => ?_
  have htag := hown k hk
  rw [← hr.tagOf hs hc] at htag
  obtain ⟨q, rd, hpart⟩ := Tag.eq_part_of_writes htag
  rw [hpart] at htag
  -- As in State.vecRead_of_own.
  obtain ⟨tagOf, hname⟩ : ∃ f, f = State.tagOf := ⟨_, rfl⟩
  rw [← hname] at hpart ⊢
  dsimp only
  rw [hpart]
  dsimp only
  rw [if_pos htag]
  have hlot := State.lotWritten_keepsVecs (r.setVec c ((r.vec c).withPend [⟨at', vecAddr c (u + k), (bs.drop (32 * k)).take 32, p, part,
    slot, (bins.drop (256 / w * k)).take (256 / w), true⟩])) (vecAddr c (u + k))
  refine ⟨(hr.toonlyUnit.trans (r.onlyUnit_setVec c _)).trans (hlot.onlyUnit c), ?_⟩
  refine (State.vec_congr hlot.vecs c).trans ((State.vec_setVec_same (hr.vecsWf hvecs) _).trans ?_)
  rw [hr.unit, VecUnit.withPend, VecUnit.withPend, VecUnit.withPend, List.append_assoc, vecWrites, vecWrites, List.range_succ,
    List.map_append]
  rfl

end

end Sys2Proof.Machine
end

section
/-! SUPPORT. A cycle of a vector run (R90–R92, R107, R109, R110). -/

namespace Sys2Proof.Machine

/-! ## A cycle of a vector run -/

section
variable (x : VecSlice)

/-- The streams of a vector of the part. -/
def VecSlice.shape : VecShape := vecShape x.op x.fmt x.len

/-- Bytes of VSA that a vector reads. -/
def VecSlice.aBytes : Nat := elemBytes x.shape.aW x.shape.n

/-- Bytes of VD that a vector writes. -/
def VecSlice.outBytes : Nat := elemBytes x.shape.outW x.shape.outN

/-- The vector that starts in cycle `k`, counted from the run's first. -/
def VecSlice.turn (k : Nat) : Nat := k / vecInterval x.op

/-- The first unit of the vector of cycle `k` in VSA. -/
def VecSlice.aUnit (k : Nat) : Nat := x.a + x.turn k * units x.aBytes

/-- The first unit of the vector of cycle `k` in VSB. -/
def VecSlice.bUnit (k : Nat) : Nat := if x.shape.bFixed then x.b else x.b + x.turn k * units x.shape.bBytes

/-- The first unit of the vector of cycle `k` in VD. -/
def VecSlice.dUnit (k : Nat) : Nat := x.d + x.turn k * units x.outBytes

/-- The elements and the flags of the vector of cycle `k` for the streams read. -/
def VecSlice.result (k a b d : Nat) (hist : List (Nat × Nat)) : List Nat × Nat := vecResult x.op x.fmt x.len a b d (x.turn k * x.len) hist

end

/-- R109: the first cycle of a run begins it. -/
def State.vecBegun (s : State) (c k : Nat) : State := if k = 0 then s.vecBegin c else s

/-- What a vector whose VSB stream is `b` changes before its write starts: flags, counters of its work, and the histogram of a dump. -/
def State.vecWorked (s : State) (c : Nat) (x : VecSlice) (b fl : Nat) : State :=
  let flagged := (s.vecFlags c x.part x.slot fl).worked 1 x.part x.shape.n
  let skipped := (List.range x.shape.n).foldl (fun q l => q + imulSkipped (elem 32 b l)) 0
  let counted := if x.op = 0x25 then
      (flagged.bump F.PL_VEC_STATUS_ITER_SKIPPED c skipped).worked 2 x.part (4 * x.shape.n - skipped)
    else flagged
  if x.op = 0x7F then counted.setVec c { counted.vec c with hist := [] } else counted

/-- R107: the bins of a vector's elements, where the histogram counts them. -/
def State.vecBins (s : State) (c : Nat) (x : VecSlice) (p : Bool) (els : List Nat) : List Nat :=
  if x.op ≠ 0x7F ∧ s.histCounts c x.part x.slot = true ∧ p = false then els.map fun e => histBin (writtenVal x.op x.fmt e) else []

section
variable {s r₁ r₂ r₃ : State} {c k n t a b d : Nat} {pa pb pd : Bool} {x : VecSlice}

/-- A cycle that starts a vector of whole bytes, from the three reads on. -/
theorem State.vecCycle_of_reads (hop : x.op ≠ 0) (hbf : ¬(0x60 ≤ x.op ∧ x.op ≤ 0x62)) (hk : k % vecInterval x.op = 0)
    (hbytes : x.shape.outW * x.shape.outN % 8 = 0)
    (ha : (s.vecBegun c k).vecRead c x.part x.slot (x.aUnit k) x.aBytes t = (a, pa, r₁))
    (hb : r₁.vecRead c x.part x.slot (x.bUnit k) x.shape.bBytes t = (b, pb, r₂))
    (hd : r₂.vecRead c x.part x.slot (x.dUnit k) x.shape.dBytes t = (d, pd, r₃)) :
    s.vecCycle c x k n t =
      (r₃.vecWorked c x b (x.result k a b d (r₃.vec c).hist).2).vecStart c x.part x.slot (x.dUnit k) (t + vecLatency x.op)
        (leBytes x.outBytes (packElems x.shape.outW (x.result k a b d (r₃.vec c).hist).1)) (pa || pb || pd) x.shape.outW
        ((r₃.vecWorked c x b (x.result k a b d (r₃.vec c).hist).2).vecBins c x (pa || pb || pd)
          (x.result k a b d (r₃.vec c).hist).1) := by
  unfold State.vecBegun VecSlice.aUnit VecSlice.aBytes VecSlice.turn VecSlice.shape at ha
  unfold VecSlice.bUnit VecSlice.turn VecSlice.shape at hb
  unfold VecSlice.dUnit VecSlice.outBytes VecSlice.turn VecSlice.shape at hd
  unfold VecSlice.shape at hbytes
  unfold State.vecCycle
  simp only [hop, hbf, hk, ha, hb, hd, hbytes, if_false, if_true, ne_eq, not_true]
  rfl

end

/-! ## What a vector leaves of the vector units -/

section
variable {s t : State} {c : Nat}

theorem State.keepsReads.vecStream (h : s.keepsReads t) (c u n at' : Nat) :
    Claims.vecStream t c u n at' = Claims.vecStream s c u n at' := by
  simp only [Claims.vecStream, h.bytesAt]

theorem State.keepsReads.vecMarked (h : s.keepsReads t) (c u n at' : Nat) :
    Claims.vecMarked t c u n at' = Claims.vecMarked s c u n at' := by
  simp only [Claims.vecMarked, h.markAt]

theorem State.vecBins_congr (h : (t.vec c).cfg = (s.vec c).cfg) (x : VecSlice) (p : Bool) (els : List Nat) :
    t.vecBins c x p els = s.vecBins c x p els := by
  have hcounts : t.histCounts c x.part x.slot = s.histCounts c x.part x.slot := by simp only [State.histCounts, h]
  rw [State.vecBins, State.vecBins, hcounts]

theorem State.vecBegun_onlyUnit (s : State) (c k : Nat) : State.onlyUnit c s (s.vecBegun c k) := by
  unfold State.vecBegun
  split
  · exact s.onlyUnit_setVec c _
  · exact (State.keepsVecs.refl s).onlyUnit c

theorem State.vec_vecBegun (hvecs : spWf VecUnit.reset s.vecs = true) (k : Nat) : ((s.vecBegun c k).vec c).hist = (s.vec c).hist ∧
    ((s.vecBegun c k).vec c).cfg = (s.vec c).cfg ∧ ((s.vecBegun c k).vec c).pend =
      if k = 0 then (s.vec c).pend.map fun w => { w with run := false } else (s.vec c).pend := by
  unfold State.vecBegun
  split
  · rw [State.vecBegin, State.vec_setVec_same hvecs]
    exact ⟨rfl, rfl, rfl⟩
  · exact ⟨rfl, rfl, rfl⟩

/-- Flags and counters of a vector's work change neither units nor reads; a dump then empties the histogram. -/
theorem State.vecWorked_cases (s : State) (c : Nat) (x : VecSlice) (b fl : Nat) : ∃ r, s.keepsVecs r ∧
    (s.vecWorked c x b fl = r ∨ s.vecWorked c x b fl = r.setVec c { r.vec c with hist := [] }) := by
  unfold State.vecWorked
  extract_lets flagged skipped counted
  have hflagged : s.keepsVecs flagged := (s.vecFlags_keepsVecs c x.part x.slot fl).worked ..
  have hcounted : s.keepsVecs counted :=
    .ite ((hflagged.setFld (f := F.PL_VEC_STATUS_ITER_SKIPPED) (vecStatus_key_ne_share c) _).worked ..) hflagged
  refine ⟨counted, hcounted, ?_⟩
  split
  · exact .inr rfl
  · exact .inl rfl

theorem State.vecWorked_onlyUnit (s : State) (c : Nat) (x : VecSlice) (b fl : Nat) : State.onlyUnit c s (s.vecWorked c x b fl) := by
  obtain ⟨r, hkeeps, hr | hr⟩ := s.vecWorked_cases c x b fl
  · rw [hr]
    exact hkeeps.onlyUnit c
  · rw [hr]
    exact (hkeeps.onlyUnit c).trans (r.onlyUnit_setVec c _)

theorem State.vec_vecWorked (hvecs : spWf VecUnit.reset s.vecs = true) (x : VecSlice) (b fl : Nat) :
    ((s.vecWorked c x b fl).vec c).cfg = (s.vec c).cfg ∧ ((s.vecWorked c x b fl).vec c).pend = (s.vec c).pend := by
  obtain ⟨r, hkeeps, hr | hr⟩ := s.vecWorked_cases c x b fl
  · rw [hr, State.vec_congr hkeeps.vecs]
    exact ⟨rfl, rfl⟩
  · rw [hr, State.vec_setVec_same ((hkeeps.onlyUnit c).vecsWf hvecs), State.vec_congr hkeeps.vecs]
    exact ⟨rfl, rfl⟩

end

/-! ## A vector over the partition's own units -/

/-- The elements and the flags of the vector that starts in cycle `k`, read in ACLK cycle `t`. -/
def State.vecOutcome (s : State) (c : Nat) (x : VecSlice) (k t : Nat) : List Nat × Nat :=
  x.result k (Claims.vecStream s c (x.aUnit k) x.aBytes t) (Claims.vecStream s c (x.bUnit k) x.shape.bBytes t)
    (Claims.vecStream s c (x.dUnit k) x.shape.dBytes t) (s.vec c).hist

/-- R110: some unit that the vector reads is marked. -/
def State.vecPoisoned (s : State) (c : Nat) (x : VecSlice) (k t : Nat) : Bool :=
  Claims.vecMarked s c (x.aUnit k) x.aBytes t || Claims.vecMarked s c (x.bUnit k) x.shape.bBytes t ||
    Claims.vecMarked s c (x.dUnit k) x.shape.dBytes t

/-- The partition of the part may read every unit of the vector's streams. -/
structure State.vecReadable (s : State) (c : Nat) (x : VecSlice) (k : Nat) : Prop where
  a : ∀ i, i < units x.aBytes → (s.tagOf (vecAddr c (x.aUnit k + i))).reads x.part = true
  b : ∀ i, i < units x.shape.bBytes → (s.tagOf (vecAddr c (x.bUnit k + i))).reads x.part = true
  d : ∀ i, i < units x.shape.dBytes → (s.tagOf (vecAddr c (x.dUnit k + i))).reads x.part = true

section
variable {s t : State} {c k n at' : Nat} {x : VecSlice}

theorem State.keepsReads.vecReadable (h : s.keepsReads t) (hs : s.regsWf) (hc : c < 16) (hread : s.vecReadable c x k) :
    t.vecReadable c x k where
  a i hi := by rw [h.tagOf hs hc]; exact hread.a i hi
  b i hi := by rw [h.tagOf hs hc]; exact hread.b i hi
  d i hi := by rw [h.tagOf hs hc]; exact hread.d i hi

/-- The three reads of a vector find its streams as they stand in `s`. -/
theorem State.vecReads_of_own (hs : s.regsWf) (hc : c < 16) (hread : s.vecReadable c x k) : ∃ r₁ r₂ r₃,
    s.vecRead c x.part x.slot (x.aUnit k) x.aBytes at' =
      (Claims.vecStream s c (x.aUnit k) x.aBytes at', Claims.vecMarked s c (x.aUnit k) x.aBytes at', r₁) ∧
    r₁.vecRead c x.part x.slot (x.bUnit k) x.shape.bBytes at' =
      (Claims.vecStream s c (x.bUnit k) x.shape.bBytes at', Claims.vecMarked s c (x.bUnit k) x.shape.bBytes at', r₂) ∧
    r₂.vecRead c x.part x.slot (x.dUnit k) x.shape.dBytes at' =
      (Claims.vecStream s c (x.dUnit k) x.shape.dBytes at', Claims.vecMarked s c (x.dUnit k) x.shape.dBytes at', r₃) ∧
    s.keepsVecs r₃ := by
  obtain ⟨r₁, h₁, ha⟩ := State.vecRead_of_own hs hc x.part x.slot (x.aUnit k) x.aBytes at' hread.a
  obtain ⟨r₂, h₂, hb⟩ := State.vecRead_of_own (h₁.regsWf hs) hc x.part x.slot (x.bUnit k) x.shape.bBytes at'
    (h₁.vecReadable hs hc hread).b
  have h₁₂ := h₁.trans h₂
  obtain ⟨r₃, h₃, hd⟩ := State.vecRead_of_own (h₁₂.regsWf hs) hc x.part x.slot (x.dUnit k) x.shape.dBytes at'
    (h₁₂.vecReadable hs hc hread).d
  rw [h₁.vecStream, h₁.vecMarked] at hb
  rw [h₁₂.vecStream, h₁₂.vecMarked] at hd
  exact ⟨r₁, r₂, r₃, ha, hb, hd, h₁₂.trans h₃⟩

/-- A cycle that starts a vector of whole bytes over units that its partition may read. -/
theorem State.vecCycle_of_own (hs : s.regsWf) (hvecs : spWf VecUnit.reset s.vecs = true) (hc : c < 16) (hop : x.op ≠ 0)
    (hbf : ¬(0x60 ≤ x.op ∧ x.op ≤ 0x62)) (hk : k % vecInterval x.op = 0) (hbytes : x.shape.outW * x.shape.outN % 8 = 0)
    (hread : s.vecReadable c x k) : ∃ r, State.onlyUnit c s r ∧ (r.vec c).cfg = (s.vec c).cfg ∧
      (r.vec c).pend = (if k = 0 then (s.vec c).pend.map fun w => { w with run := false } else (s.vec c).pend) ∧
      s.vecCycle c x k n at' = r.vecStart c x.part x.slot (x.dUnit k) (at' + vecLatency x.op)
        (leBytes x.outBytes (packElems x.shape.outW (s.vecOutcome c x k at').1)) (s.vecPoisoned c x k at') x.shape.outW
        (s.vecBins c x (s.vecPoisoned c x k at') (s.vecOutcome c x k at').1) := by
  have hbegun := s.vecBegun_onlyUnit c k
  obtain ⟨hhist, hcfg, hpend⟩ := State.vec_vecBegun (c := c) hvecs k
  obtain ⟨r₁, r₂, r, ha, hb, hd, hkeeps⟩ := State.vecReads_of_own (at' := at') (hbegun.regsWf hs) hc
    (hbegun.vecReadable hs hc hread)
  have hcycle := State.vecCycle_of_reads (n := n) hop hbf hk hbytes ha hb hd
  rw [hbegun.vecStream, hbegun.vecStream, hbegun.vecStream, hbegun.vecMarked, hbegun.vecMarked, hbegun.vecMarked,
    State.vec_congr hkeeps.vecs, hhist] at hcycle
  have hworked := State.vec_vecWorked (c := c) ((hbegun.trans (hkeeps.onlyUnit c)).vecsWf hvecs) x
    (Claims.vecStream s c (x.bUnit k) x.shape.bBytes at') (s.vecOutcome c x k at').2
  rw [State.vec_congr hkeeps.vecs, hcfg, hpend] at hworked
  obtain ⟨hcfg', hpend'⟩ := hworked
  refine ⟨_, (hbegun.trans (hkeeps.onlyUnit c)).trans (r.vecWorked_onlyUnit c x _ _), hcfg', hpend', ?_⟩
  rw [← State.vecBins_congr hcfg']
  exact hcycle

end

/-- Settles O21: the reads find the streams as they stand, flags and counters change neither memory nor what is on its way, and the
result is then on its way to each of its units. -/
theorem vectorCycleStartsItsWrite : Obligations.VectorCycleStartsItsWrite := by
  intro s c k n t x hs hop hbf hk _ _ j sh aB outB bAt hbytes hatag hbtag hdtag hwtag hc els p bins
  obtain ⟨r, honly, -, hpend, hcycle⟩ := State.vecCycle_of_own (n := n) (at' := t) hs.regs hs.vecs hc hop hbf hk
    hbytes ⟨hatag, hbtag, hdtag⟩
  have hlen : (leBytes x.outBytes (packElems x.shape.outW (s.vecOutcome c x k t).1)).length = x.outBytes := length_leBytes ..
  have hstart := State.vecStart_of_own (honly.regsWf hs.regs) (honly.vecsWf hs.vecs) hc x.part x.slot (x.dUnit k) (t + vecLatency x.op)
    (leBytes x.outBytes (packElems x.shape.outW (s.vecOutcome c x k t).1)) (s.vecPoisoned c x k t) x.shape.outW
    (s.vecBins c x (s.vecPoisoned c x k t) (s.vecOutcome c x k t).1) fun i hi => by
      rw [honly.tagOf hs.regs hc]
      exact hwtag i (by rwa [hlen] at hi)
  rw [← hcycle, hlen] at hstart
  have hall := honly.trans hstart.toonlyUnit
  refine ⟨?_, hall.mem, hall.others hs.vecs⟩
  rw [hstart.unit, VecUnit.withPend, hpend]
  rfl

end Sys2Proof.Machine
end

section
/-! SUPPORT. The relation that every operation of the module meets: canonical stores stay canonical, and no command joins or leaves the
queue. Its rules for the basic updates of the state (R117, R10). -/

namespace Sys2Proof.Machine

/-! ## Sparse tables whose entries are rewritten in place -/

section
variable {α : Type} [DecidableEq α] {d : α} {t : List (Nat × α)}

/-- Entries that are dropped, or keep their key and take a value other than the default, leave a canonical table. -/
theorem spWf_filterMap (f : Nat × α → Option (Nat × α)) (hkey : ∀ e e', f e = some e' → e'.1 = e.1)
    (hval : ∀ e e', e.2 ≠ d → f e = some e' → e'.2 ≠ d) (h : spWf d t = true) : spWf d (t.filterMap f) = true := by
  obtain ⟨hrise, hne⟩ := spWf_iff.mp h
  refine spWf_iff.mpr ⟨?_, fun e' he' => ?_⟩
  · refine List.Pairwise.filterMap f (fun x y hxy x' hx' y' hy' => ?_) hrise
    rw [hkey x x' hx', hkey y y' hy']
    exact hxy
  · obtain ⟨e, he, hfe⟩ := List.mem_filterMap.mp he'
    exact hval e e' (hne e he) hfe

/-- Entries that are rewritten under their keys, none of them to the default, leave a canonical table. -/
theorem spWf_map (f : Nat × α → Nat × α) (hkey : ∀ e, (f e).1 = e.1) (hval : ∀ e, e.2 ≠ d → (f e).2 ≠ d) (h : spWf d t = true) :
    spWf d (t.map f) = true := by
  rw [← List.filterMap_eq_map]
  refine spWf_filterMap _ (fun e e' he => ?_) (fun e e' hv he => ?_) h
  · exact Option.some.inj he ▸ hkey e
  · exact Option.some.inj he ▸ hval e hv

theorem spWf_spTabulate (n : Nat) (f : Nat → α) : spWf d (spTabulate d n f) = true := by
  refine spWf_iff.mpr ⟨?_, fun e he => ?_⟩
  · refine List.Pairwise.filterMap _ (fun x y hxy x' hx' y' hy' => ?_) List.pairwise_lt_range
    simp only [Option.ite_none_left_eq_some, Option.some.injEq] at hx' hy'
    rw [← hx'.2, ← hy'.2]
    exact hxy
  · obtain ⟨k, -, hk⟩ := List.mem_filterMap.mp he
    simp only [Option.ite_none_left_eq_some, Option.some.injEq] at hk
    rw [← hk.2]
    exact hk.1

end

/-! ## The relation -/

/-- Canonical stores of `b` have stayed canonical in `s`, and the same commands wait. -/
structure State.keepsStores (b s : State) : Prop where
  canonical : b.canonical → s.canonical
  pending   : s.pending = b.pending

namespace State.keepsStores

variable {b s t u : State}

@[refl] theorem refl (s : State) : s.keepsStores s := ⟨id, rfl⟩

theorem trans (h : b.keepsStores s) (h' : s.keepsStores t) : b.keepsStores t :=
  ⟨h'.canonical ∘ h.canonical, h'.pending.trans h.pending⟩

/-- A change of parts of the module that are no sparse stores. -/
theorem other (h : b.keepsStores s) {clk : Clocks} {flips : List (Handoff × Flip)} {ridge : Ridge} {sched : Sched} {rings : Rings}
    {plumb : Plumb} {sensors : Sensors} {datum : Datum} {traverse : Traverse} {guyline : Guyline} {stadia : Stadia} {trail : Trail}
    {book : Book} {ident : Ident} {power : Power} {bring : Bring} {pins : Pins} {free : Nat} :
    b.keepsStores { s with
      clk, flips, ridge, sched, rings, plumb, sensors, datum, traverse, guyline, stadia, trail, book, ident, power, bring, pins, free } :=
  ⟨fun hb => { h.canonical hb with }, h.pending⟩

/-- A change of Stow beside its tables. -/
theorem otherStow (h : b.keepsStores s) {demand : List (Nat × List DemandCmd)} {edge : List EdgeWrite} {served : Nat} :
    b.keepsStores { s with stow := { s.stow with demand, edge, served } } :=
  ⟨fun hb => { h.canonical hb with }, h.pending⟩

/-! ## Choices and repetitions -/

theorem ite {p : Prop} [Decidable p] (hs : b.keepsStores s) (ht : b.keepsStores t) : b.keepsStores (if p then s else t) := by
  split
  · exact hs
  · exact ht

/-- A choice between tuples that hold the state beside other values. -/
theorem iteOn {σ : Type} (p : σ → State) {c : Prop} [Decidable c] {x y : σ} (hx : b.keepsStores (p x)) (hy : b.keepsStores (p y)) :
    b.keepsStores (p (if c then x else y)) := by
  split
  · exact hx
  · exact hy

/-- The state in a tuple that an operation answers. -/
theorem of_eq {σ : Type} (p : σ → State) {x y : σ} (hxy : x = y) (h : b.keepsStores (p x)) : b.keepsStores (p y) := hxy ▸ h

/-- A repetition whose accumulator holds the state beside other values. -/
theorem foldlOn {σ β : Type} (p : σ → State) {f : σ → β → σ} {a : σ} (h : b.keepsStores (p a)) (l : List β)
    (hf : ∀ x c, b.keepsStores (p x) → b.keepsStores (p (f x c))) : b.keepsStores (p (l.foldl f a)) :=
  List.foldlRecOn (motive := fun x => b.keepsStores (p x)) l f h fun x hx c _ => hf x c hx

theorem foldl {β : Type} {f : State → β → State} (h : b.keepsStores s) (l : List β)
    (hf : ∀ t c, b.keepsStores t → b.keepsStores (f t c)) : b.keepsStores (l.foldl f s) := h.foldlOn id l hf

/-! ## Updates of one store -/

section
variable (h : b.keepsStores s)
include h

theorem setMem {m : List Host.Cell} (hm : Memory.wf s.mem → Memory.wf m) : b.keepsStores { s with mem := m } :=
  ⟨fun hb => { h.canonical hb with mem := hm (h.canonical hb).mem }, h.pending⟩

theorem setPoison {m : List (Nat × Bool)} (hm : spWf false s.poison = true → spWf false m = true) :
    b.keepsStores { s with poison := m } :=
  ⟨fun hb => { h.canonical hb with poison := hm (h.canonical hb).poison }, h.pending⟩

theorem setWords {m : List (Nat × Nat)} (hm : spWf 0 s.wordMarks = true → spWf 0 m = true) :
    b.keepsStores { s with wordMarks := m } :=
  ⟨fun hb => { h.canonical hb with words := hm (h.canonical hb).words }, h.pending⟩

theorem setRegs {m : List (Nat × BitVec 64)} (hm : spWf 0 s.regs = true → spWf 0 m = true) : b.keepsStores { s with regs := m } :=
  ⟨fun hb => { h.canonical hb with regs := hm (h.canonical hb).regs }, h.pending⟩

theorem setSeq {m : List (Nat × SeqPart)} (hm : spWf SeqPart.reset s.seq = true → spWf SeqPart.reset m = true) :
    b.keepsStores { s with seq := m } :=
  ⟨fun hb => { h.canonical hb with seq := hm (h.canonical hb).seq }, h.pending⟩

theorem setTether {m : List (Nat × TlPort)} (hm : spWf TlPort.reset s.tether = true → spWf TlPort.reset m = true) :
    b.keepsStores { s with tether := m } :=
  ⟨fun hb => { h.canonical hb with tether := hm (h.canonical hb).tether }, h.pending⟩

theorem setStow {x : Stow} (hq : spWf [] s.stow.queues = true → spWf [] x.queues = true)
    (hl : spWf Lot.reset s.stow.lots = true → spWf Lot.reset x.lots = true) : b.keepsStores { s with stow := x } :=
  ⟨fun hb => { h.canonical hb with queues := hq (h.canonical hb).queues, lots := hl (h.canonical hb).lots }, h.pending⟩

theorem setEngine (n : Nat) (e : Engine) : b.keepsStores (s.setEngine n e) :=
  ⟨fun hb => { h.canonical hb with engines := spWf_spSet (h.canonical hb).engines n e }, h.pending⟩

theorem setVec (c : Nat) (v : VecUnit) : b.keepsStores (s.setVec c v) :=
  ⟨fun hb => { h.canonical hb with vecs := spWf_spSet (h.canonical hb).vecs c v }, h.pending⟩

theorem setChan (ch : Nat) (d : DdrChan) : b.keepsStores (s.setChan ch d) :=
  ⟨fun hb => { h.canonical hb with ddr := spWf_spSet (h.canonical hb).ddr ch d }, h.pending⟩

theorem setSite (i : Nat) (f : FaultSite) : b.keepsStores (s.setSite i f) :=
  ⟨fun hb => { h.canonical hb with sites := spWf_spSet (h.canonical hb).sites i f }, h.pending⟩

theorem setSeqPart (p : Nat) (q : SeqPart) : b.keepsStores (s.setSeqPart p q) := h.setSeq fun hs => spWf_spSet hs p q

theorem setTlPort (p : Nat) (x : TlPort) : b.keepsStores (s.setTlPort p x) := h.setTether fun hs => spWf_spSet hs p x

theorem setLot (l : Nat) (e : Lot) : b.keepsStores (s.setLot l e) := h.setStow id fun hs => spWf_spSet hs l e

theorem setQueue (c : Nat) (q : List Transfer) : b.keepsStores (s.setQueue c q) := h.setStow (fun hs => spWf_spSet hs c q) id

/-! ## Registers -/

theorem setReg (r : RegArr) (i : Nat) (v : BitVec 64) : b.keepsStores (s.setReg r i v) := h.setRegs fun hs => spWf_spSet hs _ _

theorem setFld (f : RegField) (i x : Nat) : b.keepsStores (s.setFld f i x) := h.setReg ..

theorem bump (f : RegField) (i n : Nat) : b.keepsStores (s.bump f i n) := h.setFld ..

theorem count (f : RegField) (i n : Nat) : b.keepsStores (s.count f i n) := h.setFld ..

theorem setFlag (f : RegField) (i : Nat) : b.keepsStores (s.setFlag f i) := h.setFld ..

theorem readReg (r : RegArr) (i : Nat) : b.keepsStores (s.readReg r i).2 := h.ite (h.setReg ..)

theorem writeReg (r : RegArr) (i : Nat) (v : BitVec 64) : b.keepsStores (s.writeReg r i v) := h.setReg ..

/-! ## Memory and its marks -/

theorem wrByte (a : Nat) (x : Byte) : b.keepsStores (s.wrByte a x) := h.setMem fun hs => State.memWf_wrByte hs a x

theorem wrBytes (a : Nat) (bs : List Byte) : b.keepsStores (s.wrBytes a bs) := h.setMem fun hs => State.memWf_wrBytes hs a bs

theorem wrLe (a n v : Nat) : b.keepsStores (s.wrLe a n v) := h.wrBytes ..

theorem wholeUnits (a n : Nat) : b.keepsStores (s.wholeUnits a n) :=
  h.setWords fun hs => spWf_spKeep (fun k => !(decide (a / 32 ≤ k) && decide (32 * k < a + n))) hs

theorem setPoisonAt (a : Nat) (p : Bool) : b.keepsStores (s.setPoisonAt a p) :=
  (h.wholeUnits a 1).setPoison fun hs => spWf_spSet hs _ _

theorem markRange (a n : Nat) (p : Bool) : b.keepsStores (s.markRange a n p) :=
  (h.wholeUnits a n).setPoison fun hs => State.poisonWf_markRange (s := s) hs a n p

theorem wrMarked (a : Nat) (bs : List Byte) (p : Bool) : b.keepsStores (s.wrMarked a bs p) := (h.wrBytes a bs).markRange ..

theorem markWord (a : Nat) : b.keepsStores (s.markWord a) := by
  unfold State.markWord
  extract_lets m
  exact .ite h ((h.setPoison fun hs => spWf_spSet hs _ _).setWords fun hs => spWf_spSet hs _ _)

theorem dropRange (a n : Nat) : b.keepsStores (s.dropRange a n) := by
  have hmem := h.setMem fun hs => State.memWf_dropRange hs a n
  have hpoison := hmem.setPoison fun hs => State.poisonWf_dropRange (s := s) hs a n
  exact hpoison.setWords fun hs => spWf_spKeep (fun k => !(decide (a ≤ 32 * k) && decide (32 * k < a + n))) hs

theorem clearRange (a n : Nat) : b.keepsStores (s.clearRange a n) := .ite ((h.dropRange a n).wrBytes ..) (h.dropRange a n)

theorem copyRange (src dst n : Nat) : b.keepsStores (s.copyRange src dst n) := by
  have hmarks := (h.setPoison fun hs => spWf_spCopy (src / 32) (dst / 32) (n / 32) hs).setWords
    fun hs => spWf_spCopy (src / 32) (dst / 32) (n / 32) hs
  exact .ite (hmarks.wrBytes ..) (hmarks.setMem fun hs => spWf_spCopy src dst n hs)

end

end State.keepsStores

/-- The state that a replayed record leaves, applied or not. -/
def Applied.state : Applied → State
  | .waits s => s
  | .ends s _ => s
  | .goes s => s

/-- The state that an outcome answers, if it answers one, keeps the stores of `b`. -/
def State.keepsNext (b : State) (o : Host.Outcome State Fault Refusal) : Prop := ∀ t, o = .next t → b.keepsStores t

namespace State.keepsNext

variable {b s : State} {o o' : Host.Outcome State Fault Refusal}

theorem next (h : b.keepsStores s) : b.keepsNext (.next s) := fun _ ht => Host.Outcome.next.inj ht ▸ h

theorem ite {p : Prop} [Decidable p] (ho : b.keepsNext o) (ho' : b.keepsNext o') : b.keepsNext (if p then o else o') := by
  split
  · exact ho
  · exact ho'

end State.keepsNext

/-- A state that an operation answers, or the state before it. -/
theorem State.keepsStores.getD {b s : State} (h : b.keepsStores s) {o : Option State} (ho : ∀ t, o = some t → b.keepsStores t) :
    b.keepsStores (o.getD s) := by
  cases o with
  | none => exact h
  | some t => exact ho t rfl

end Sys2Proof.Machine
end

section
/-! SUPPORT. Each operation of the module, and each command, keeps the stores canonical and the queue as it stands: one rule for each, under
the name of the model's file and in its order, from the rules of the operations that it calls (R117, R10). Where a proof begins with
`∃ f, f = …`, it treats an operation that it calls as any function that keeps the stores: the kernel would evaluate that operation on
large addresses when it compares two forms of the goal. -/

namespace Sys2Proof.Machine

variable {b s t : State}

/-! ## Ops -/

theorem State.keepsStores.noteEdge (h : b.keepsStores s) (at' : Nat) (who : Writer) (a n : Nat) :
    b.keepsStores (s.noteEdge at' who a n) := h.otherStow

theorem State.keepsStores.fresh (h : b.keepsStores s) : b.keepsStores s.fresh.2 := h.other

theorem State.keepsStores.setStream (h : b.keepsStores s) (at' : Stream) (x : StreamState) : b.keepsStores (s.setStream at' x) := by
  unfold State.setStream
  split <;> exact h.other

theorem State.keepsStores.setStreamState (h : b.keepsStores s) (at' : Stream) (val : Nat) : b.keepsStores (s.setStreamState at' val) := by
  unfold State.setStreamState
  split <;> exact h.setFld ..

theorem State.keepsStores.passReplay (h : b.keepsStores s) (dt : Nat) : b.keepsStores (s.passReplay dt) := by
  unfold State.passReplay
  split
  · exact .ite h.other h
  · exact h

theorem State.keepsStores.passA (h : b.keepsStores s) (dt : Nat) : b.keepsStores (s.passA dt) := by
  unfold State.passA
  extract_lets x s1 s2 s3 s4
  have hs1 : b.keepsStores s1 := h.other
  have hs2 : b.keepsStores s2 := hs1.passReplay ..
  have hs3 : b.keepsStores s3 := .ite (hs2.count ..) hs2
  have hs4 : b.keepsStores s4 := by
    unfold s4
    split
    · exact hs3.foldl _ fun t _ ht => ht.count ..
    · exact hs3
  exact .ite (hs4.count ..) hs4

theorem State.keepsStores.setStream' (h : b.keepsStores s) (n : Nat) (unit : StreamUnit) : b.keepsStores (s.setStream' n unit) := h.other

theorem State.keepsStores.setSideAt (h : b.keepsStores s) (hd : Handoff) (x : Nat) : b.keepsStores (s.setSideAt hd x) := by
  unfold State.setSideAt
  split
  · exact h.setStream' ..
  · exact h.other
  · exact h.other
  · exact h.other
  · exact h.other
  · exact h.other

theorem State.keepsStores.flip (h : b.keepsStores s) (hd : Handoff) : b.keepsStores (s.flip hd) := h.other.setSideAt ..

theorem State.keepsStores.asLatched (h : b.keepsStores s) (now : Flip → Bool) : b.keepsStores (s.asLatched now) :=
  h.foldl _ fun _ _ ht => .ite (ht.setSideAt ..) ht

theorem State.keepsStores.latchedF (h : b.keepsStores s) : b.keepsStores s.latchedF := h.asLatched ..

theorem State.keepsStores.latchedT (h : b.keepsStores s) : b.keepsStores s.latchedT := h.asLatched ..

theorem State.keepsStores.latchedG (h : b.keepsStores s) : b.keepsStores s.latchedG := h.asLatched ..

theorem State.keepsStores.latchedS (h : b.keepsStores s) : b.keepsStores s.latchedS := h.asLatched ..

theorem State.keepsStores.setUrgency (h : b.keepsStores s) (n : Nat) : b.keepsStores (s.setUrgency n) := h.setFld ..

theorem State.keepsStores.drainDatum (h : b.keepsStores s) (dt : Nat) : b.keepsStores (s.drainDatum dt) :=
  h.foldl _ fun _ _ ht => ht.other.setUrgency ..

theorem State.keepsStores.tickF (h : b.keepsStores s) (dt : Nat) : b.keepsStores (s.tickF dt) := h.other.drainDatum ..

theorem State.keepsStores.tickM (h : b.keepsStores s) (dt : Nat) : b.keepsStores (s.tickM dt) := h.other

theorem State.keepsStores.tickT (h : b.keepsStores s) (dt : Nat) : b.keepsStores (s.tickT dt) := h.other

theorem State.keepsStores.tickG (h : b.keepsStores s) (dt : Nat) : b.keepsStores (s.tickG dt) := h.other

theorem State.keepsStores.tickS (h : b.keepsStores s) (dt : Nat) : b.keepsStores (s.tickS dt) := h.other

theorem State.keepsStores.tickB (h : b.keepsStores s) (dt : Nat) : b.keepsStores (s.tickB dt) := h.other

theorem State.keepsStores.tickP (h : b.keepsStores s) (n dt : Nat) : b.keepsStores (s.tickP n dt) := h.other

theorem State.keepsStores.recordAt (h : b.keepsStores s) (acyc kind source : Nat) (payload : List Byte) (domain : Nat) :
    b.keepsStores (s.recordAt acyc kind source payload domain) := by
  unfold State.recordAt
  extract_lets x s1 x1
  have hs1 : b.keepsStores s1 := by
    unfold s1
    split
    · exact .ite h.other h
    · exact h
  exact .ite hs1.other hs1

theorem State.keepsStores.record (h : b.keepsStores s) (kind source : Nat) (payload : List Byte) (domain : Nat) :
    b.keepsStores (s.record kind source payload domain) := h.recordAt ..

theorem State.keepsStores.raise (h : b.keepsStores s) (code detail : Nat) : b.keepsStores (s.raise code detail) := h.other.record ..

theorem State.keepsStores.updateAttn (h : b.keepsStores s) : b.keepsStores s.updateAttn := .ite (h.setFld ..) (.ite (h.other.setFld ..) h)

theorem State.keepsStores.attn (h : b.keepsStores s) (f : RegField) : b.keepsStores (s.attn f) := (h.setFlag ..).updateAttn

theorem State.keepsStores.declareLasting (h : b.keepsStores s) (i : Nat) : b.keepsStores (s.declareLasting i) := by
  unfold State.declareLasting
  extract_lets x s1 c e x1 s2 p
  have hs1 : b.keepsStores s1 := (h.setSite ..).attn ..
  have hs2 : b.keepsStores s2 := hs1.other
  exact .ite (hs2.raise ..) (.ite (hs1.setFld ..) hs1)

theorem State.keepsStores.faultAt (h : b.keepsStores s) (i : Nat) : b.keepsStores (s.faultAt i) :=
  .ite (.ite (((h.setSite ..).record ..).declareLasting ..) ((h.setSite ..).record ..)) h

theorem State.keepsStores.countMoves (h : b.keepsStores s) (at' : Nat) : b.keepsStores (s.countMoves at') := by
  refine h.setStow (fun hs => spWf_map _ (fun _ => rfl) (fun e he => ?_) hs) id
  obtain ⟨c, q⟩ := e
  cases q with
  | nil => exact he
  | cons x rest => exact List.cons_ne_nil _ _

theorem State.keepsStores.refresh (h : b.keepsStores s) (ch n : Nat) : b.keepsStores (s.refresh ch n) := h.setChan ..

theorem State.keepsStores.holdRef (h : b.keepsStores s) (ch at' : Nat) : b.keepsStores (s.holdRef ch at') := by
  unfold State.holdRef
  split
  · exact h
  · exact .ite h (h.setChan ..)

theorem State.keepsStores.holdRefs (h : b.keepsStores s) (at' : Nat) : b.keepsStores (s.holdRefs at') :=
  h.foldl _ fun _ _ ht => ht.holdRef ..

theorem State.keepsStores.queueSlot (h : b.keepsStores s) (ch word : Nat) : b.keepsStores (s.queueSlot ch word) := .ite h (h.setChan ..)

theorem State.keepsStores.placeHeld (h : b.keepsStores s) : b.keepsStores s.placeHeld := by
  unfold State.placeHeld
  refine .ite h ?_
  split
  rename_i x t rest hr
  have ht : b.keepsStores t := .of_eq Prod.fst hr (.foldlOn Prod.fst h _ fun t _ ht => .iteOn Prod.fst (ht.queueSlot ..) ht)
  exact ht.other

theorem State.keepsStores.raiseHold (h : b.keepsStores s) (code : Nat) (due : Option Nat) : b.keepsStores (s.raiseHold code due) := by
  unfold State.raiseHold
  extract_lets now c s1 h1 x s2
  have hs1 : b.keepsStores s1 := h.countMoves ..
  have hs2 : b.keepsStores s2 := hs1.other
  split
  · exact (hs2.setFld ..).setFld ..
  · exact hs1.other

theorem State.keepsStores.clearHold (h : b.keepsStores s) (code : Nat) : b.keepsStores (s.clearHold code) := by
  unfold State.clearHold
  split
  · exact h
  · extract_lets now rest s1 len e full x s2 r x1 x2 s3 s4 x3 s5 a
    have hs1 : b.keepsStores s1 := (h.countMoves ..).holdRefs ..
    have hs2 : b.keepsStores s2 := hs1.other
    have hs3 : b.keepsStores s3 := hs2.other
    have hs4 : b.keepsStores s4 := (hs3.setFld ..).setFld ..
    have hs5 : b.keepsStores s5 := by
      unfold s5
      split
      · exact hs4.other
      · exact hs4
    exact .ite (.ite ((hs5.recordAt ..).placeHeld) hs1.other) h

theorem State.keepsStores.violationOf (h : b.keepsStores s) (p at' a : Nat) : b.keepsStores (s.violationOf p at' a) := h.raise ..

theorem State.keepsStores.violation (h : b.keepsStores s) (p a : Nat) : b.keepsStores (s.violation p a) := h.violationOf ..

theorem State.keepsStores.condShow (h : b.keepsStores s) (n val at' : Nat) : b.keepsStores (s.condShow n val at') :=
  (h.other.setFld ..).record ..

theorem State.keepsStores.condIn (h : b.keepsStores s) (n val at' : Nat) : b.keepsStores (s.condIn n val at') := .ite h (h.condShow ..)

theorem State.keepsStores.condNow (h : b.keepsStores s) (n val : Nat) : b.keepsStores (s.condNow n val) := h.condIn ..

theorem State.keepsStores.condWrite (h : b.keepsStores s) (n val : Nat) (done : Option (Nat × Desc)) :
    b.keepsStores (s.condWrite n val done) := h.other

theorem State.keepsStores.worked (h : b.keepsStores s) (kind part n : Nat) : b.keepsStores (s.worked kind part n) := h.other

theorem State.keepsStores.classLines (h : b.keepsStores s) (part k n : Nat) : b.keepsStores (s.classLines part k n) :=
  ((h.count ..).worked ..).other

/-! ## Flags -/

theorem State.keepsStores.vecFlags (h : b.keepsStores s) (c part slot fl : Nat) : b.keepsStores (s.vecFlags c part slot fl) := by
  unfold State.vecFlags
  refine .ite h ?_
  extract_lets old s1 s2
  have hs1 : b.keepsStores s1 := h.setReg ..
  have hs2 : b.keepsStores s2 := (hs1.setFld ..).setFld ..
  exact hs2.foldl _ fun t _ ht => .ite (.ite (ht.raise ..) ht) (.record (.ite (ht.raise ..) ht) ..)

theorem State.keepsStores.engFlag (h : b.keepsStores s) (n part slot bit : Nat) (event : Bool) :
    b.keepsStores (s.engFlag n part slot bit event) := .record (.ite ((h.setReg ..).raise ..) (h.setReg ..)) ..

theorem State.keepsStores.stowFlag (h : b.keepsStores s) (f : RegField) (code c part slot : Nat) :
    b.keepsStores (s.stowFlag f code c part slot) :=
  .record (.ite ((((h.setFlag ..).setFld ..).setFld ..).raise ..) (((h.setFlag ..).setFld ..).setFld ..)) ..

theorem State.keepsStores.settleWrite (h : b.keepsStores s) (c : Nat) (w : VecWrite) : b.keepsStores (s.settleWrite c w) :=
  .ite (h.vecFlags ..) (((h.noteEdge ..).wrMarked ..).setVec ..)

theorem State.keepsStores.settleVec (h : b.keepsStores s) (c at' : Nat) : b.keepsStores (s.settleVec c at') :=
  .ite h ((h.setVec ..).foldl _ fun _ _ ht => ht.settleWrite ..)

theorem State.keepsStores.settleAll (h : b.keepsStores s) : b.keepsStores s.settleAll := h.foldl _ fun _ _ ht => ht.settleVec ..

theorem State.keepsStores.tickA (h : b.keepsStores s) (dt : Nat) : b.keepsStores (s.tickA dt) := (h.passA ..).settleAll

/-! ## Rings -/

theorem State.keepsStores.setRing (h : b.keepsStores s) (r : Nat) (g : Ring) : b.keepsStores (s.setRing r g) := h.other

theorem State.keepsStores.setWstream (h : b.keepsStores s) (i : Nat) (w : WStream) : b.keepsStores (s.setWstream i w) := h.other

theorem State.keepsStores.setHostLane (h : b.keepsStores s) (ch : Nat) (l : HostLane) : b.keepsStores (s.setHostLane ch l) := h.other

theorem State.keepsStores.setWmap (h : b.keepsStores s) (ch k : Nat) (val : BitVec 64) : b.keepsStores (s.setWmap ch k val) := h.setReg ..

theorem State.keepsStores.ringWrite (h : b.keepsStores s) (ch off : Nat) (bs : List Byte) : b.keepsStores (s.ringWrite ch off bs) := by
  unfold State.ringWrite
  split
  · exact h.wrMarked ..
  · exact h

theorem State.keepsStores.ringStatus (h : b.keepsStores s) (r : Nat) : b.keepsStores (s.ringStatus r) := .ite (h.ringWrite ..) h

theorem State.keepsStores.post (h : b.keepsStores s) (r : Nat) (d : Desc) (p : Reply) : b.keepsStores (s.post r d p) := by
  unfold State.post
  extract_lets g n
  refine .ite ?_ h
  split
  · extract_lets body bs s1 s2 s3
    have hs1 : b.keepsStores s1 := h.ringWrite ..
    have hs2 : b.keepsStores s2 := hs1.setRing ..
    have hs3 : b.keepsStores s3 := (hs2.ringStatus ..).bump ..
    exact .ite (hs3.attn ..) hs3

theorem State.keepsStores.streamStop (h : b.keepsStores s) (i : Nat) (who : Option (Nat × Desc)) : b.keepsStores (s.streamStop i who) :=
  (h.setFld ..).setWstream ..

theorem State.keepsStores.digestRecord (h : b.keepsStores s) (i : Nat) : b.keepsStores (s.digestRecord i) :=
  .ite h ((h.record ..).setWstream ..)

theorem State.keepsStores.streamFree (h : b.keepsStores s) (i : Nat) : b.keepsStores (s.streamFree i) :=
  ((h.digestRecord ..).setReg ..).setWstream ..

theorem State.keepsStores.unmapRings (h : b.keepsStores s) (ch : Nat) : b.keepsStores (s.unmapRings ch) :=
  h.foldl _ fun _ _ ht => .ite (ht.setWmap ..) ht

theorem State.keepsStores.ringDestroy (h : b.keepsStores s) (r : Nat) : b.keepsStores (s.ringDestroy r).2 := by
  obtain ⟨unmap, hunmap, hkeeps⟩ : ∃ f, f = State.unmapRings ∧ ∀ {t : State}, b.keepsStores t → ∀ ch, b.keepsStores (f t ch) :=
    ⟨_, rfl, fun ht => ht.unmapRings⟩
  unfold State.ringDestroy
  rw [← hunmap]
  exact hkeeps ((h.setRing ..).setFld ..) _

/-- Rows that are rewritten one by one leave a sequence part other than an empty one. -/
theorem SeqPart.mapRows_ne_reset {q : SeqPart} (hq : q ≠ SeqPart.reset) (f : Nat × SeqRow → Nat × SeqRow) :
    { q with rows := q.rows.map f } ≠ SeqPart.reset := by
  intro he
  cases q
  simp_all [SeqPart.reset]

theorem State.keepsStores.dropContext (h : b.keepsStores s) (ctx : Nat) : b.keepsStores (s.dropContext ctx) := by
  unfold State.dropContext
  extract_lets s1 lo gone s2 s3 rings s4
  have hs1 : b.keepsStores s1 := h.foldl _ fun t _ ht => .ite (.ite ((ht.streamStop ..).streamFree ..) (ht.streamStop ..)) ht
  have hs2 : b.keepsStores s2 := hs1.setRegs fun hs => spWf_foldl_spSet gone (fun e => e.1) (fun _ => 0) hs
  have hs3 : b.keepsStores s3 := hs2.setSeq fun hs => spWf_map _ (fun _ => rfl) (fun _ hq => SeqPart.mapRows_ne_reset hq _) hs
  have hs4 : b.keepsStores s4 := hs3.other
  exact hs4.setFld ..

theorem State.keepsStores.closeRun (h : b.keepsStores s) (c : Closing) : b.keepsStores (s.closeRun c) := by
  obtain ⟨destroy, hdestroy, hkeeps⟩ : ∃ f, f = State.ringDestroy ∧ ∀ {t : State}, b.keepsStores t → ∀ k, b.keepsStores (f t k).2 :=
    ⟨_, rfl, fun ht => ht.ringDestroy⟩
  unfold State.closeRun
  rw [← hdestroy]
  extract_lets rs g
  refine .ite h.other ?_
  split
  rename_i n t hr
  have ht : b.keepsStores t := .of_eq Prod.snd hr (.foldlOn Prod.snd h _ fun _ _ hx => hkeeps hx _)
  exact .post (.setRing (.ite (ht.dropContext ..) ht) ..) ..

theorem State.keepsStores.finish (h : b.keepsStores s) (r : Nat) (d : Desc) (p : Reply) : b.keepsStores (s.finish r d p) :=
  (((h.setRing ..).post ..).other).foldl _ fun _ _ ht => ht.closeRun ..

theorem State.keepsStores.takeSlot (h : b.keepsStores s) {r : Nat} (hr : s.takeSlot r = some t) : b.keepsStores t := by
  unfold State.takeSlot at hr
  extract_lets g at hr
  split at hr
  · obtain ⟨-, ht⟩ := Option.ite_none_right_eq_some.mp hr
    exact Option.some.inj ht ▸ (h.setRing ..).ringStatus ..
  · exact Option.some.inj hr ▸ (h.setRing ..).ringStatus ..

theorem State.keepsStores.badDoorbell (h : b.keepsStores s) (r : Nat) : b.keepsStores (s.badDoorbell r) :=
  .ite (((h.bump ..).setRing ..).ringStatus ..) (h.bump ..)

theorem State.keepsStores.startDesc (h : b.keepsStores s) {body : State → Cmd → State × Option Reply}
    (hbody : ∀ t c, b.keepsStores t → b.keepsStores (body t c).1) (r : Nat) (d : Desc) (host : Bool) :
    b.keepsStores (s.startDesc r d host body) := by
  unfold State.startDesc
  split
  · exact .post (.ite (h.bump ..) h) ..
  · extract_lets g s1
    have hs1 := hbody s1 ⟨r, d, B.DESC_PART.get d.toNat, B.DESC_CONTEXT.get d.toNat⟩ (h.setRing ..)
    split
    · rename_i t p hr
      have ht : b.keepsStores t := .of_eq Prod.fst hr hs1
      exact ht.finish ..
    · rename_i t hr
      exact .of_eq Prod.fst hr hs1

theorem State.keepsStores.runDesc (h : b.keepsStores s) {body : State → Cmd → State × Option Reply}
    (hbody : ∀ t c, b.keepsStores t → b.keepsStores (body t c).1) (r : Nat) (d : Desc) : b.keepsStores (s.runDesc r d body) := by
  refine .ite h ?_
  split
  · exact h.badDoorbell ..
  · rename_i t hr
    exact ((h.takeSlot hr).record ..).startDesc hbody ..

theorem State.keepsStores.command (h : b.keepsStores s) {body : State → Cmd → State × Option Reply}
    (hbody : ∀ t c, b.keepsStores t → b.keepsStores (body t c).1) (r : BitVec 14) (d : Desc) (op : Nat) :
    b.keepsStores (s.command r d op body) := .ite (h.runDesc hbody ..) h

/-! ## Loads -/

theorem State.keepsStores.extend (h : b.keepsStores s) (k d : Nat) : b.keepsStores (s.extend k d) := .ite (h.other.bump ..) h.other

/-! ## Identity -/

theorem State.keepsStores.idAttestBody (h : b.keepsStores s) (c : Cmd) : b.keepsStores (idAttestBody s c).1 := by
  unfold Machine.idAttestBody
  split
  · exact h
  · split
    · exact h
    · exact h.wrMarked ..

theorem State.keepsStores.execIdAttest (h : b.keepsStores s) (ring : BitVec 14) (d : Desc) : b.keepsNext (execIdAttest ring d s) :=
  .next (h.command (fun _ _ ht => ht.idAttestBody ..) ..)

theorem State.keepsStores.idCertBody (h : b.keepsStores s) (c : Cmd) : b.keepsStores (idCertBody s c).1 :=
  .iteOn Prod.fst h (.iteOn Prod.fst h (h.wrMarked ..))

theorem State.keepsStores.execIdCert (h : b.keepsStores s) (ring : BitVec 14) (d : Desc) : b.keepsNext (execIdCert ring d s) :=
  .next (h.command (fun _ _ ht => ht.idCertBody ..) ..)

theorem State.keepsStores.idFlashWriteBody (h : b.keepsStores s) (c : Cmd) : b.keepsStores (idFlashWriteBody s c).1 := by
  unfold Machine.idFlashWriteBody
  extract_lets area src bs x s1
  have hs1 : b.keepsStores s1 := h.other
  split
  · exact h
  · exact .iteOn Prod.fst h (.iteOn Prod.fst h (.iteOn Prod.fst h (.iteOn Prod.fst (hs1.setFld ..) h)))

theorem State.keepsStores.execIdFlashWrite (h : b.keepsStores s) (ring : BitVec 14) (d : Desc) :
    b.keepsNext (execIdFlashWrite ring d s) := .next (h.command (fun _ _ ht => ht.idFlashWriteBody ..) ..)

theorem State.keepsStores.flashProgram (h : b.keepsStores s) (j : FlashJob) : b.keepsStores (s.flashProgram j) := h.other

theorem State.keepsStores.execFlashProgramComplete (h : b.keepsStores s) : b.keepsNext (execFlashProgramComplete s) := by
  unfold Machine.execFlashProgramComplete
  refine .ite (.next h) ?_
  split
  · exact .next h
  · exact .next ((((h.flashProgram ..).other).setFld ..).finish ..)

theorem State.keepsStores.flashCut (h : b.keepsStores s) : b.keepsStores s.flashCut := by
  unfold State.flashCut
  split
  · exact h
  · exact h.other.fresh

theorem State.keepsStores.idLogBody (h : b.keepsStores s) (c : Cmd) : b.keepsStores (idLogBody s c).1 := .iteOn Prod.fst h (h.wrMarked ..)

theorem State.keepsStores.execIdLog (h : b.keepsStores s) (ring : BitVec 14) (d : Desc) : b.keepsNext (execIdLog ring d s) :=
  .next (h.command (fun _ _ ht => ht.idLogBody ..) ..)

/-! ## Safe -/

theorem State.keepsStores.assertStop (h : b.keepsStores s) : b.keepsStores s.assertStop := ((h.other.setFld ..).setFld ..).setFld ..

theorem State.keepsStores.enterMode (h : b.keepsStores s) (m : Nat) : b.keepsStores (s.enterMode m) := by
  unfold State.enterMode
  refine .ite h ?_
  extract_lets was s1 x s2 s3 x1
  have hs1 : b.keepsStores s1 := ((h.setFld ..).setFld ..).attn ..
  have hs2 : b.keepsStores s2 := hs1.other
  have hs3 : b.keepsStores s3 := .ite (hs2.condWrite ..) hs2
  exact .ite hs3.other (.ite ((hs3.bump ..).assertStop) hs3)

theorem State.keepsStores.latchClass (h : b.keepsStores s) (k m : Nat) : b.keepsStores (s.latchClass k m) :=
  .enterMode (.other (.setFld (.ite (h.setFld ..) h) ..)) ..

/-! ## Links -/

theorem State.keepsStores.tickTl (h : b.keepsStores s) (p dt : Nat) : b.keepsStores (s.tickTl p dt) := h.other

theorem State.keepsStores.tlPump (h : b.keepsStores s) (p : Nat) : b.keepsStores (s.tlPump p) := .ite (h.setTlPort ..) h

theorem State.keepsStores.tlMarkers (h : b.keepsStores s) (p : Nat) : b.keepsStores (s.tlMarkers p) := (h.setTlPort ..).tlPump ..

theorem State.keepsStores.markerSend (h : b.keepsStores s) (ports id : Nat) : b.keepsStores (s.markerSend ports id) :=
  h.foldl _ fun _ _ ht => .ite ((ht.setTlPort ..).tlMarkers ..) ht

theorem State.keepsStores.popQueue (h : b.keepsStores s) (c : Nat) : b.keepsStores (s.popQueue c) :=
  (h.setQueue ..).foldl _ fun _ _ ht => .ite ht ((ht.setTlPort ..).tlMarkers ..)

theorem State.keepsStores.tlData (h : b.keepsStores s) (p part klass off : Nat) (bs : List Byte) :
    b.keepsStores (s.tlData p part klass off bs) := (h.setTlPort ..).tlPump ..

theorem State.keepsStores.tlSync (h : b.keepsStores s) : b.keepsStores s.tlSync :=
  h.foldl _ fun _ _ ht => .ite ((ht.setTlPort ..).tlPump ..) ht

/-! ## Stow -/

theorem State.keepsStores.touch (h : b.keepsStores s) (p l : Nat) : b.keepsStores (s.touch p l) := (h.setLot ..).setFld ..

theorem State.keepsStores.lotFromDdr (h : b.keepsStores s) (l hd : Nat) : b.keepsStores (s.lotFromDdr l hd) := h.setLot ..

theorem State.keepsStores.lotFromLot (h : b.keepsStores s) (l src : Nat) : b.keepsStores (s.lotFromLot l src) := h.setLot ..

theorem State.keepsStores.lotHome (h : b.keepsStores s) (l : Nat) : b.keepsStores (s.lotHome l) := .ite (h.setLot ..) h

theorem State.keepsStores.lotWritten (h : b.keepsStores s) (a : Nat) : b.keepsStores (s.lotWritten a) :=
  .ite (.ite (h.setLot ..) (.ite (h.setLot ..) h)) h

theorem State.keepsStores.lotFree (h : b.keepsStores s) (l : Nat) : b.keepsStores (s.lotFree l) := .ite h (h.setLot ..)

theorem State.keepsStores.moveStart (h : b.keepsStores s) (c sl at' : Nat) (rsrc rdst : Place) :
    b.keepsStores (s.moveStart c sl at' rsrc rdst) := .ite (h.stowFlag ..) (h.setQueue ..)

theorem State.keepsStores.fetchPiece (h : b.keepsStores s) (p unit : Nat) (ls : List Nat) : b.keepsStores (s.fetchPiece p unit ls).1 := by
  unfold State.fetchPiece
  split
  · exact h.touch ..
  · extract_lets fill s1 s2
    have hs1 : b.keepsStores s1 := h.bump ..
    have hs2 : b.keepsStores s2 := hs1.bump ..
    split
    · exact (h.setLot ..).touch ..
    · split
      · exact h
      · exact .iteOn Prod.fst ((hs2.setLot ..).touch ..) ((hs1.setLot ..).touch ..)

theorem State.keepsStores.inFlight (h : b.keepsStores s) (ms : List DemandMove) : b.keepsStores (s.inFlight ms) :=
  h.foldl _ fun _ _ ht => ht.setLot ..

theorem State.keepsStores.demandStart (h : b.keepsStores s) (c : Cmd) : b.keepsStores (s.demandStart c).1 := by
  unfold State.demandStart
  extract_lets op core pieces ls news room dirty ms s1 found changed s2 s3
  have hs1 : b.keepsStores s1 := h.foldl _ fun _ _ ht => (ht.touch ..).bump ..
  have hs2 : b.keepsStores s2 := h.foldl _ fun _ _ ht => ht.touch ..
  have hs3 : b.keepsStores s3 := hs2.foldl _ fun _ _ ht => .ite (ht.setLot ..) (.ite (ht.setLot ..) (ht.lotFree ..))
  have hfetched := State.keepsStores.foldlOn (a := (s, ([] : List DemandMove), 0)) Prod.fst h pieces
    (f := fun acc u => ((acc.1.fetchPiece c.part u ls).1, acc.2.1 ++ (acc.1.fetchPiece c.part u ls).2.1,
      acc.2.2 + (acc.1.fetchPiece c.part u ls).2.2)) fun _ _ ht => ht.fetchPiece ..
  clear_value op
  split
  · exact .iteOn Prod.fst h (hfetched.inFlight ..)
  · exact hs1.inFlight ..
  · exact hs3

theorem State.keepsStores.setDemandQueue (h : b.keepsStores s) (p : Nat) (q : List DemandCmd) : b.keepsStores (s.setDemandQueue p q) :=
  h.otherStow

theorem State.keepsStores.demandRun (h : b.keepsStores s) (n p : Nat) : b.keepsStores (State.demandRun n s p) := by
  induction n generalizing s with
  | zero => exact h
  | succ n ih =>
    unfold State.demandRun
    split
    · exact h
    · rename_i q rest hq
      refine .ite h (.ite ?_ h)
      extract_lets c
      have hstart := h.demandStart c
      split
      rename_i t ms r hr
      have ht : b.keepsStores t := .of_eq Prod.fst hr hstart
      split
      · exact ih ((ht.setDemandQueue ..).finish ..)
      · exact ht.setDemandQueue ..

theorem State.keepsStores.demandStartAll (h : b.keepsStores s) (p : Nat) : b.keepsStores (s.demandStartAll p) := h.demandRun ..

theorem State.keepsStores.demandBody (h : b.keepsStores s) (c : Cmd) : b.keepsStores (demandBody s c).1 :=
  .iteOn Prod.fst h (.iteOn Prod.fst h ((h.setDemandQueue ..).demandStartAll ..))

theorem State.keepsStores.wholeLines (h : b.keepsStores s) (a n : Nat) : b.keepsStores (s.wholeLines a n) :=
  h.setPoison fun hs => List.foldlRecOn (motive := fun t => spWf false t = true) _ _ hs
    fun _ ht _ _ => spWf_spSet (spWf_spSet ht _ _) _ _

theorem State.keepsStores.overwritten (h : b.keepsStores s) (a n : Nat) : b.keepsStores (s.overwritten a n) := h.setChan ..

theorem State.keepsStores.demandMoveData (h : b.keepsStores s) (p : Nat) (m : DemandMove) : b.keepsStores (s.demandMoveData p m) := by
  unfold State.demandMoveData
  extract_lets h1 s1 ch d hit s2 s3 x s4
  have hs1 : b.keepsStores s1 := h.classLines ..
  have hs2 : b.keepsStores s2 := hs1.copyRange ..
  have hs3 : b.keepsStores s3 := hs2.foldl _ fun t _ ht => ht.markRange ..
  have hs4 : b.keepsStores s4 := hs3.setChan ..
  exact .ite (hs4.lotFromDdr ..) (.ite (((hs1.copyRange ..).wholeLines ..).overwritten ..) (hs1.violation ..))

theorem State.keepsStores.demandComplete (h : b.keepsStores s) (p : Nat) : b.keepsStores (s.demandComplete p) := by
  unfold State.demandComplete
  split
  · exact h
  · split
    · exact h
    · extract_lets s1 more x s2
      have hs1 : b.keepsStores s1 := h.demandMoveData ..
      have hs2 : b.keepsStores s2 := .ite hs1 (hs1.setLot ..)
      exact .ite (((hs2.setDemandQueue ..).finish ..).demandStartAll ..) (hs2.setDemandQueue ..)

theorem State.keepsStores.execMtLotSelWrite (h : b.keepsStores s) (sel : BitVec 13) : b.keepsNext (execMtLotSelWrite sel s) :=
  .ite (.next h) (.ite (.next ((h.setReg ..).setReg ..)) (.next ((h.setReg ..).setReg ..)))

theorem State.keepsStores.execMtFetch (h : b.keepsStores s) (ring : BitVec 14) (d : Desc) : b.keepsNext (execMtFetch ring d s) :=
  .next (h.command (fun _ _ ht => ht.demandBody ..) ..)

theorem State.keepsStores.execMtFlush (h : b.keepsStores s) (ring : BitVec 14) (d : Desc) : b.keepsNext (execMtFlush ring d s) :=
  .next (h.command (fun _ _ ht => ht.demandBody ..) ..)

theorem State.keepsStores.execMtPin (h : b.keepsStores s) (ring : BitVec 14) (d : Desc) : b.keepsNext (execMtPin ring d s) :=
  .next (h.command (fun _ _ ht => ht.demandBody ..) ..)

theorem State.keepsStores.execMtUnpin (h : b.keepsStores s) (ring : BitVec 14) (d : Desc) : b.keepsNext (execMtUnpin ring d s) :=
  .next (h.command (fun _ _ ht => ht.demandBody ..) ..)

theorem State.keepsStores.execMtDrop (h : b.keepsStores s) (ring : BitVec 14) (d : Desc) : b.keepsNext (execMtDrop ring d s) :=
  .next (h.command (fun _ _ ht => ht.demandBody ..) ..)

/-! ## Sequence -/

theorem State.keepsStores.planWritesNext (h : b.keepsStores s) (p : Nat) : b.keepsStores (s.planWritesNext p) :=
  h.foldl _ fun _ _ ht => .ite ht (ht.fresh.setSeqPart ..)

theorem State.keepsStores.wrLot (h : b.keepsStores s) (a : Nat) (bytes : List Byte) : b.keepsStores (s.wrLot a bytes) :=
  (h.wrMarked ..).lotWritten ..

theorem State.keepsStores.seqVisible (h : b.keepsStores s) (p : Nat) : b.keepsStores (s.seqVisible p) := by
  unfold State.seqVisible
  extract_lets q a n merge
  split
  · exact h
  · exact (h.wrLot ..).setSeqPart ..

theorem State.keepsStores.seqFlip (h : b.keepsStores s) (p at' : Nat) : b.keepsStores (s.seqFlip p at') := by
  unfold State.seqFlip
  extract_lets early s1 all step s2 s3
  have hs1 : b.keepsStores s1 := (h.seqVisible ..).planWritesNext ..
  have hs2 : b.keepsStores s2 := hs1.setFld ..
  have hs3 : b.keepsStores s3 := hs2.record ..
  refine .ite (h.bump ..) ?_
  split
  · extract_lets s4 s5 order held free a0 a takes tokens again built s6 s7 s8 n s9 x s10
    have hs4 : b.keepsStores s4 := hs3.foldl _ fun t _ ht => ht.wrLe ..
    have hs5 : b.keepsStores s5 := hs4.bump ..
    have hs6 : b.keepsStores s6 := hs5.bump ..
    have hs7 : b.keepsStores s7 := hs6.bump ..
    have hs8 : b.keepsStores s8 := hs7.setSeqPart ..
    have hs9 : b.keepsStores s9 := hs8.setFld ..
    have hs10 : b.keepsStores s10 := hs9.setSeqPart ..
    exact hs10.foldl _ fun t _ ht => ht.finish ..

theorem State.keepsStores.execSeqAssemblyVisible (h : b.keepsStores s) (p : PartId) (dt : Nat) :
    b.keepsNext (execSeqAssemblyVisible p dt s) := by
  unfold Machine.execSeqAssemblyVisible
  refine .ite (.next h) ?_
  extract_lets s1
  have hs1 : b.keepsStores s1 := h.tickA ..
  split
  · exact .next (.ite (hs1.seqVisible ..) hs1)
  · exact .next hs1

theorem State.keepsStores.execWalkerItemWrite (h : b.keepsStores s) (p : PartId) (w : Fin 4) (dt : Nat) :
    b.keepsNext (execWalkerItemWrite p w dt s) :=
  .ite (.next h) (.ite (.next ((((h.tickA ..).wrLot ..).setSeqPart ..).condWrite ..)) (.next (h.tickA ..)))

theorem State.keepsStores.walkPublish (h : b.keepsStores s) (p bs : Nat) : b.keepsStores (s.walkPublish p bs) :=
  h.foldl _ fun _ _ ht => .ite ht (.ite (ht.setSeqPart ..) (.ite (ht.setSeqPart ..) ht))

theorem State.keepsStores.seqPublish (h : b.keepsStores s) (bs at' : Nat) : b.keepsStores (s.seqPublish bs at') :=
  h.foldl _ fun _ _ ht => .ite ht (.ite ((ht.walkPublish ..).seqFlip ..) (ht.walkPublish ..))

theorem State.keepsStores.seqApplied (h : b.keepsStores s) (c : Cmd) (q : SeqPart) : b.keepsStores (s.seqApplied c q) := h.setSeqPart ..

theorem State.keepsStores.seqJoin (h : b.keepsStores s) (c : Cmd) : b.keepsStores (seqJoin s c).1 := by
  unfold Machine.seqJoin
  extract_lets q x
  split
  · exact h
  · split
    · exact h
    · exact .iteOn Prod.fst h (h.seqApplied ..)

theorem State.keepsStores.withRow (h : b.keepsStores s) {f : Nat → SeqRow → State × Option Reply} (hf : ∀ r x, b.keepsStores (f r x).1)
    (c : Cmd) : b.keepsStores (withRow s c f).1 := by
  unfold Machine.withRow
  split
  · exact h
  · exact hf ..

theorem State.keepsStores.seqAppend (h : b.keepsStores s) (c : Cmd) : b.keepsStores (seqAppend s c).1 :=
  h.withRow (fun _ _ => .iteOn Prod.fst h (.iteOn Prod.fst h ((h.wrBytes ..).seqApplied ..))) ..

theorem State.keepsStores.seqReset (h : b.keepsStores s) (c : Cmd) : b.keepsStores (seqReset s c).1 :=
  h.withRow (fun _ _ => .iteOn Prod.fst h (h.seqApplied ..)) ..

theorem State.keepsStores.seqLeave (h : b.keepsStores s) (c : Cmd) : b.keepsStores (seqLeave s c).1 :=
  h.withRow (fun _ _ => h.seqApplied ..) ..

theorem State.keepsStores.seqQuery (h : b.keepsStores s) (c : Cmd) : b.keepsStores (seqQuery s c).1 :=
  h.withRow (fun _ _ => .iteOn Prod.fst (((h.planWritesNext ..).wrMarked ..).seqApplied ..) h) ..

theorem State.keepsStores.execSeqJoin (h : b.keepsStores s) (ring : BitVec 14) (d : Desc) : b.keepsNext (execSeqJoin ring d s) :=
  .next (h.command (fun _ _ ht => ht.seqJoin ..) ..)

theorem State.keepsStores.execSeqAppend (h : b.keepsStores s) (ring : BitVec 14) (d : Desc) : b.keepsNext (execSeqAppend ring d s) :=
  .next (h.command (fun _ _ ht => ht.seqAppend ..) ..)

theorem State.keepsStores.execSeqReset (h : b.keepsStores s) (ring : BitVec 14) (d : Desc) : b.keepsNext (execSeqReset ring d s) :=
  .next (h.command (fun _ _ ht => ht.seqReset ..) ..)

theorem State.keepsStores.execSeqLeave (h : b.keepsStores s) (ring : BitVec 14) (d : Desc) : b.keepsNext (execSeqLeave ring d s) :=
  .next (h.command (fun _ _ ht => ht.seqLeave ..) ..)

theorem State.keepsStores.execSeqQuery (h : b.keepsStores s) (ring : BitVec 14) (d : Desc) : b.keepsNext (execSeqQuery ring d s) :=
  .next (h.command (fun _ _ ht => ht.seqQuery ..) ..)

theorem State.keepsStores.seqRestart (h : b.keepsStores s) (p : Nat) : b.keepsStores (s.seqRestart p) := h.setSeqPart ..

/-! ## Restart -/

theorem State.keepsStores.setPartState (h : b.keepsStores s) (p val : Nat) : b.keepsStores (s.setPartState p val) :=
  (h.setFld ..).setFld ..

theorem State.keepsStores.fetchDegraded (h : b.keepsStores s) (r : Nat) : b.keepsStores (s.fetchDegraded r) := by
  unfold State.fetchDegraded
  extract_lets d
  split
  · exact h
  · rename_i x t hr
    have ht : b.keepsStores t := h.takeSlot hr
    extract_lets s1
    have hs1 : b.keepsStores s1 := ht.record ..
    split
    · exact (hs1.bump ..).post ..
    · exact hs1.post ..

theorem State.keepsStores.drainRing (h : b.keepsStores s) (r : Nat) : b.keepsStores (s.drainRing r) :=
  h.foldl _ fun _ _ ht => ht.fetchDegraded ..

theorem State.keepsStores.restartEnd (h : b.keepsStores s) (x : Restart) : b.keepsStores (s.restartEnd x) := by
  unfold State.restartEnd
  extract_lets p waiting s1 s2 s3 s4 leaves s5 s6 s7 s8 x1 s9
  have hs1 : b.keepsStores s1 := h.setDemandQueue ..
  have hs2 : b.keepsStores s2 := hs1.foldl _ fun t _ ht => ht.finish ..
  have hs3 : b.keepsStores s3 := hs2.foldl _ fun t _ ht => ht.drainRing ..
  have hs4 : b.keepsStores s4 := hs3.foldl _ fun t _ ht => ht.lotFree ..
  have hs5 : b.keepsStores s5 := hs4.seqRestart ..
  have hs6 : b.keepsStores s6 := hs5.foldl _ fun t _ ht => ht.finish ..
  have hs7 : b.keepsStores s7 := hs6.setFld ..
  have hs8 : b.keepsStores s8 := (hs7.setPartState ..).bump ..
  have hs9 : b.keepsStores s9 := hs8.other
  exact hs9.finish ..

theorem State.keepsStores.restartsDone (h : b.keepsStores s) : b.keepsStores s.restartsDone :=
  h.other.foldl _ fun _ _ ht => ht.restartEnd ..

/-! ## OpenQueue -/

theorem State.keepsStores.queueOpen (h : b.keepsStores s) (ws : List Waiting) (ch : Nat) : b.keepsStores (s.queueOpen ws ch) :=
  h.setChan ..

theorem State.keepsStores.queueOpens (h : b.keepsStores s) : b.keepsStores s.queueOpens := h.foldl _ fun _ _ ht => ht.queueOpen ..

theorem State.keepsStores.tookOpen (h : b.keepsStores s) (ch : Nat) (x : OpenSource) (n : Nat) : b.keepsStores (s.tookOpen ch x n) :=
  h.setChan ..

theorem State.keepsStores.ringMove (h : b.keepsStores s) (a : Nat) (bs : List Byte) : b.keepsStores (s.ringMove a bs) :=
  (h.wrMarked ..).classLines ..

theorem State.keepsStores.ringDrain (h : b.keepsStores s) (ch i k : Nat) : b.keepsStores (s.ringDrain ch i k).1 := by
  unfold State.ringDrain
  extract_lets u
  split
  rename_i x done k1 t hr
  have ht : b.keepsStores t := .of_eq (Prod.snd ∘ Prod.snd) hr
    (.foldlOn (Prod.snd ∘ Prod.snd) h _ fun t _ ht => .iteOn (Prod.snd ∘ Prod.snd) ht (ht.ringMove ..))
  split
  · exact ht.other
  · exact .other (.ite ht (ht.ringMove ..))

theorem State.keepsStores.portDrain (h : b.keepsStores s) (ch n k : Nat) : b.keepsStores (s.portDrain ch n k) :=
  .setUrgency (.foldlOn Prod.fst h _ fun _ _ ht => .iteOn Prod.fst ht (ht.ringDrain ..)) ..

theorem State.keepsStores.landUnit (h : b.keepsStores s) (a : Nat) (bs : List Byte) (poison : Bool) :
    b.keepsStores (s.landUnit a bs poison) := .ite (.ite (h.wrMarked ..) ((h.wrMarked ..).setChan ..)) ((h.wrMarked ..).lotWritten ..)

theorem State.keepsStores.tlQueueMarker (h : b.keepsStores s) (p : Nat) (f : Flit) : b.keepsStores (s.tlQueueMarker p f) :=
  .ite (h.bump ..) h.other

theorem State.keepsStores.tlArrive (h : b.keepsStores s) (p : Nat) : b.keepsStores (s.tlArrive p) :=
  (h.foldl _ fun _ _ ht => ht.tlQueueMarker ..).setTlPort ..

theorem State.keepsStores.tlLand (h : b.keepsStores s) (f : Flit) : b.keepsStores (s.tlLand f) := by
  unfold State.tlLand
  extract_lets part
  split
  · exact h
  · exact .ite h ((h.classLines ..).landUnit ..)

theorem State.keepsStores.tetherDrain (h : b.keepsStores s) (ch p k : Nat) : b.keepsStores (s.tetherDrain ch p k) :=
  ((h.foldl _ fun _ _ ht => ht.tlLand ..).setTlPort ..).tlArrive ..

theorem State.keepsStores.serveIngest (h : b.keepsStores s) (dt : Nat) : b.keepsStores (s.serveIngest dt) := by
  unfold State.serveIngest
  refine .foldl h _ fun t x ht => ?_
  refine .ite ?_ ht
  split
  · exact ht.portDrain ..
  · exact ht.tetherDrain ..
  · exact ht

theorem State.keepsStores.passM (h : b.keepsStores s) (dt : Nat) : b.keepsStores (s.passM dt) := (h.queueOpens.serveIngest ..).tickM ..

/-! ## Ddr -/

theorem State.keepsStores.errLog (h : b.keepsStores s) (ch kind device : Nat) (scrub : Bool) (line : Nat) :
    b.keepsStores (s.errLog ch kind device scrub line) := .ite (h.setChan ..) (h.setChan ..)

theorem State.keepsStores.lineOutcome (h : b.keepsStores s) (ch line part : Nat) (scrub : Bool) (x : Decoded) (implicated : List Nat) :
    b.keepsStores (s.lineOutcome ch line part scrub x implicated) := by
  unfold State.lineOutcome
  extract_lets s1 a note event d dev s2 s3 x1 s4
  have hs1 : b.keepsStores s1 := h.foldl _ fun t _ ht => ht.faultAt ..
  have hs2 : b.keepsStores s2 := ((hs1.bump ..).setFlag ..).errLog ..
  have hs3 : b.keepsStores s3 := hs2.foldl _ fun t _ ht => ht.faultAt ..
  have hs4 : b.keepsStores s4 := .ite hs3 (hs3.setChan ..)
  split
  · exact hs1
  · exact hs1
  · exact (hs1.bump ..).errLog ..
  · exact (((hs1.bump ..).errLog ..).faultAt ..).record ..
  · exact .ite (((hs1.bump ..).record ..).raise ..) ((hs1.bump ..).record ..)
  · exact .ite ((hs4.record ..).raise ..) (hs4.record ..)

theorem State.keepsStores.execDdrLineDecode (h : b.keepsStores s) (ch : ChanId) (line : BitVec 28) (err : LineError) (core : CoreId)
    (part : PartId) (implicated : BitVec 10) (waits : Bool) : b.keepsNext (execDdrLineDecode ch line err core part implicated waits s) :=
  .ite (.next h) (.next (.ite ((h.lineOutcome ..).raiseHold ..) (h.lineOutcome ..)))

theorem State.keepsStores.regStatus (h : b.keepsStores s) : b.keepsStores s.regStatus := h.setReg ..

theorem State.keepsStores.gatesLifted (h : b.keepsStores s) : b.keepsStores s.gatesLifted := .ite h.other h

theorem State.keepsStores.execEffectiveLevelUpdate (h : b.keepsStores s) (ch : ChanId) (_occ1 : BitVec 7) (_occ3 : BitVec 7) :
    b.keepsNext (execEffectiveLevelUpdate ch _occ1 _occ3 s) :=
  .ite (.next h) (.next ((((h.queueOpens.setReg ..).other).regStatus).gatesLifted))

theorem State.keepsStores.execRefreshDebtTick (h : b.keepsStores s) (ch : ChanId) (dt : Nat) :
    b.keepsNext (execRefreshDebtTick ch dt s) := by
  unfold Machine.execRefreshDebtTick
  refine .ite (.next h) ?_
  extract_lets s1 d s2 d1 s3 s4
  have hs1 : b.keepsStores s1 := h.passM ..
  have hs2 : b.keepsStores s2 := hs1.holdRef ..
  have hs3 : b.keepsStores s3 := hs2.setChan ..
  have hs4 : b.keepsStores s4 := .ite (hs3.raiseHold ..) hs3
  exact .ite (.ite (.next (.ite (hs3.refresh ..) hs3)) (.next (hs4.holdRef ..))) (.next hs1)

theorem State.keepsStores.retrainStart (h : b.keepsStores s) (ch : Nat) : b.keepsStores (s.retrainStart ch) :=
  .ite h (((h.setFlag ..).setFld ..).setChan ..)

theorem State.keepsStores.execScrubRead (h : b.keepsStores s) (ch : ChanId) (err : LineError) (implicated : BitVec 10) (dt : Nat) :
    b.keepsNext (execScrubRead ch err implicated dt s) := by
  unfold Machine.execScrubRead
  refine .ite (.next h) ?_
  extract_lets s1 d line a x s2 s3 last s4
  have hs1 : b.keepsStores s1 := h.passM ..
  have hs2 : b.keepsStores s2 := ((hs1.setChan ..).tookOpen ..).classLines ..
  have hs3 : b.keepsStores s3 := hs2.lineOutcome ..
  have hs4 : b.keepsStores s4 := hs3.setFld ..
  exact .ite (.next (.ite (hs4.bump ..) hs4)) (.next hs1)

theorem State.keepsStores.execScrubQuotaTick (h : b.keepsStores s) (ch : ChanId) (dt : Nat) : b.keepsNext (execScrubQuotaTick ch dt s) :=
  .ite (.next h) (.ite (.next (.setChan (.ite ((h.passM ..).setFlag ..) (h.passM ..)) ..)) (.next (h.passM ..)))

theorem State.keepsStores.execDrMarkWrite (h : b.keepsStores s) (ch : ChanId) (device : Fin 10) :
    b.keepsNext (execDrMarkWrite ch device s) :=
  .ite (.next h) (.ite (.next (((((h.setFld ..).setFlag ..).setChan ..).raise ..).record ..)) (.next h))

theorem State.keepsStores.execDrRetrainReq (h : b.keepsStores s) (ch : ChanId) : b.keepsNext (execDrRetrainReq ch s) :=
  .ite (.next h) (.next (h.retrainStart ..))

theorem State.keepsStores.execRetrainPeriodExpiry (h : b.keepsStores s) (ch : ChanId) (dt : Nat) :
    b.keepsNext (execRetrainPeriodExpiry ch dt s) := .ite (.next h) (.next (.ite ((h.passM ..).retrainStart ..) (h.passM ..)))

theorem State.keepsStores.execRetrainTempDrift (h : b.keepsStores s) (ch : ChanId) (temp : BitVec 8) :
    b.keepsNext (execRetrainTempDrift ch temp s) := .ite (.next h) (.next (.ite ((h.setFld ..).retrainStart ..) (h.setFld ..)))

theorem State.keepsStores.retrainsDone (h : b.keepsStores s) : b.keepsStores s.retrainsDone := h.other.foldl _ fun _ _ ht => ht.finish ..

theorem State.keepsStores.retrainStepDone (h : b.keepsStores s) (ch : Nat) : b.keepsStores (s.retrainStepDone ch) :=
  .ite (((((h.setFld ..).setFld ..).setFld ..).setChan ..).retrainsDone) ((h.setFld ..).setChan ..)

theorem State.keepsStores.execRetrainStep (h : b.keepsStores s) (ch : ChanId) (dt : Nat) : b.keepsNext (execRetrainStep ch dt s) :=
  .ite (.next h) (.next (.ite ((h.passM ..).retrainStepDone ..) (h.passM ..)))

theorem State.keepsStores.execRetrainWaitExpiry (h : b.keepsStores s) (ch : ChanId) (dt : Nat) :
    b.keepsNext (execRetrainWaitExpiry ch dt s) := by
  unfold Machine.execRetrainWaitExpiry
  refine .ite (.next h) ?_
  extract_lets s1
  have hs1 : b.keepsStores s1 := h.passM ..
  split
  · exact .ite (.next (hs1.raiseHold ..)) (.next hs1)
  · exact .next hs1

theorem State.keepsStores.execDemandTransferComplete (h : b.keepsStores s) (p : PartId) (dt : Nat) :
    b.keepsNext (execDemandTransferComplete p dt s) := by
  unfold Machine.execDemandTransferComplete
  refine .ite (.next h) ?_
  extract_lets s1
  have hs1 : b.keepsStores s1 := h.passM ..
  split
  · exact .next hs1
  · split
    · exact .next (hs1.demandStartAll ..)
    · exact .ite (.next ((hs1.demandComplete ..).restartsDone)) (.next hs1)

/-! ## Sensors -/

theorem State.keepsStores.setSequencer (h : b.keepsStores s) (q : Nat) (x : Sequencer) : b.keepsStores (s.setSequencer q x) := h.other

theorem State.keepsStores.setDriveQueue (h : b.keepsStores s) (n : Nat) (q : List DriveRec) : b.keepsStores (s.setDriveQueue n q) :=
  h.other

theorem State.keepsStores.setPin (h : b.keepsStores s) (g : Nat) (val : Bool) : b.keepsStores (s.setPin g val) := h.other

theorem State.keepsStores.unmatched (h : b.keepsStores s) (n : Nat) : b.keepsStores (s.unmatched n) := h.bump ..

theorem State.keepsStores.dropSample (h : b.keepsStores s) (i seq cause : Nat) : b.keepsStores (s.dropSample i seq cause) :=
  .record (.ite (h.bump ..) (.ite (h.bump ..) (h.bump ..))) ..

theorem State.keepsStores.beginSample (h : b.keepsStores s) (i at' : Nat) : b.keepsStores (s.beginSample i at') := h.setStream' ..

theorem State.keepsStores.killSample (h : b.keepsStores s) (i cause : Nat) : b.keepsStores (s.killSample i cause) := by
  unfold State.killSample
  extract_lets u
  split
  · exact .ite h (((h.setStream' ..).setUrgency ..).dropSample ..)
  · exact h

theorem State.keepsStores.enterBuffer (h : b.keepsStores s) (i bs : Nat) : b.keepsStores (s.enterBuffer i bs) :=
  .setUrgency (.ite h.other h) ..

theorem State.keepsStores.feedSample (h : b.keepsStores s) (i : Nat) (bs : List Byte) : b.keepsStores (s.feedSample i bs) := by
  unfold State.feedSample
  extract_lets u
  split
  · exact h
  · exact .ite h (.ite (h.killSample ..) (.ite (h.killSample ..) (((h.setStream' ..).enterBuffer ..).worked ..)))

theorem State.keepsStores.endSample (h : b.keepsStores s) (i at' : Nat) : b.keepsStores (s.endSample i at') := by
  unfold State.endSample
  extract_lets u
  split
  · exact h
  · exact .ite (h.setStream' ..) (h.setStream' ..)

theorem State.keepsStores.wholeSample (h : b.keepsStores s) (i first last : Nat) (bs : List Byte) :
    b.keepsStores (s.wholeSample i first last bs) := ((h.beginSample ..).feedSample ..).endSample ..

theorem State.keepsStores.publishSample (h : b.keepsStores s) (i : Nat) : b.keepsStores (s.publishSample i) := by
  unfold State.publishSample
  extract_lets u n
  split
  · exact h
  · extract_lets s1 h1 buf s2 s3 s4 s5 data s6
    have hs1 : b.keepsStores s1 := (h.setStream' ..).setUrgency ..
    have hs2 : b.keepsStores s2 := .ite hs1 ((hs1.ringMove ..).ringMove ..)
    have hs3 : b.keepsStores s3 := hs2.wrMarked ..
    have hs4 : b.keepsStores s4 := hs3.flip ..
    have hs5 : b.keepsStores s5 := hs4.bump ..
    have hs6 : b.keepsStores s6 := .ite (hs5.classLines ..) hs5
    exact .ite hs1 (hs6.record ..)

theorem State.keepsStores.execSamplePublish (h : b.keepsStores s) (i : Fin 48) : b.keepsNext (execSamplePublish i s) :=
  .ite (.next h) (.next (.ite (h.queueOpens.publishSample ..) h.queueOpens))

theorem State.keepsStores.linkError (h : b.keepsStores s) (n : Nat) : b.keepsStores (s.linkError n) := h.faultAt ..

theorem State.keepsStores.csiPacket (h : b.keepsStores s) (n : Nat) (x : CsiPacket) : b.keepsStores (s.csiPacket n x) := by
  unfold State.csiPacket
  extract_lets t ofVc
  split
  · refine .foldl h _ fun t1 x1 ht1 => ?_
    extract_lets s1
    have hs1 : b.keepsStores s1 := by
      unfold s1
      split
      · exact ht1.killSample ..
      · exact ht1
    exact hs1.beginSample ..
  · exact h.foldl _ fun t _ ht => ht.endSample ..
  · exact h
  · exact h
  · exact (h.linkError ..).foldl _ fun t _ ht => ht.killSample ..
  · split
    · exact h.unmatched ..
    · exact .ite (h.feedSample ..) ((h.linkError ..).killSample ..)

theorem State.keepsStores.execCsi2Packet (h : b.keepsStores s) (n : Fin 8) (x : CsiPacket) (corrected : Bool) (_drained dt : Nat) :
    b.keepsNext (execCsi2Packet n x corrected _drained dt s) :=
  .ite (.next h) (.ite (.next (.csiPacket (.ite ((h.tickP ..).bump ..) (h.tickP ..)) ..)) (.next (h.tickP ..)))

theorem State.keepsStores.execEthFrameRx (h : b.keepsStores s) (k : Fin 4) (data : List Byte) (fcsOk : Bool) (_drained dt dtLast : Nat) :
    b.keepsNext (execEthFrameRx k data fcsOk _drained dt dtLast s) := by
  unfold Machine.execEthFrameRx
  refine .ite (.next h) ?_
  extract_lets n first s1
  have hs1 : b.keepsStores s1 := h.tickP ..
  refine .ite ?_ (.next hs1)
  split
  · exact .next (hs1.unmatched ..)
  · exact .ite (.next (hs1.wholeSample ..)) (.next ((((hs1.linkError ..).beginSample ..).killSample ..).endSample ..))

theorem State.keepsStores.canAnswer (h : b.keepsStores s) (n : Nat) (x : CanFrame) : b.keepsStores (s.canAnswer n x) := .ite h.other h

theorem State.keepsStores.execCanFrameRx (h : b.keepsStores s) (k : Fin 6) (x : CanFrame) (_drained dt dtLast : Nat) :
    b.keepsNext (execCanFrameRx k x _drained dt dtLast s) := by
  unfold Machine.execCanFrameRx
  refine .ite (.next h) ?_
  extract_lets n first s1 s2 classical s3
  have hs1 : b.keepsStores s1 := h.tickP ..
  have hs2 : b.keepsStores s2 := hs1.canAnswer ..
  have hs3 : b.keepsStores s3 := .ite (hs2.linkError ..) hs2
  refine .ite ?_ (.next hs1)
  split
  · exact .next (hs2.unmatched ..)
  · refine .ite (.next (hs2.unmatched ..)) ?_
    exact .ite (.next (((hs3.beginSample ..).killSample ..).endSample ..)) (.next (hs2.wholeSample ..))

theorem State.keepsStores.tdmFeed (h : b.keepsStores s) (n i : Nat) (slots : List Word) : b.keepsStores (s.tdmFeed n i slots) := by
  unfold State.tdmFeed
  extract_lets t s1 s2 u
  have hs1 : b.keepsStores s1 := by
    unfold s1
    split
    · exact h
    · exact h.beginSample ..
  have hs2 : b.keepsStores s2 := hs1.feedSample ..
  split
  · exact hs2
  · exact .ite ((hs2.setStream' ..).endSample ..) (hs2.setStream' ..)

theorem State.keepsStores.execTdmFrameRx (h : b.keepsStores s) (k : Fin 2) (slots : List Word) (_drained dt : Nat) :
    b.keepsNext (execTdmFrameRx k slots _drained dt s) := by
  unfold Machine.execTdmFrameRx
  refine .ite (.next h) ?_
  extract_lets n s1
  have hs1 : b.keepsStores s1 := h.tickP ..
  refine .ite ?_ (.next hs1)
  split
  · exact .next (hs1.unmatched ..)
  · exact .next (hs1.tdmFeed ..)

theorem State.keepsStores.execLinkStateChange (h : b.keepsStores s) (n : SensorPort) (up : Bool) :
    b.keepsNext (execLinkStateChange n up s) := .ite (.next h) (.next (.ite (h.setFld ..) h))

theorem State.keepsStores.seqStep (h : b.keepsStores s) {body : State → Nat → Nat → State × Nat}
    (hbody : ∀ t w n, b.keepsStores t → b.keepsStores (body t w n).1) (q op : Nat) : b.keepsStores (s.seqStep q op body) :=
  .ite (.setSequencer (hbody _ _ _ (h.setSequencer ..)) ..) h

theorem State.keepsStores.execHalt (h : b.keepsStores s) (q : Fin 6) (dt : Nat) : b.keepsNext (execHalt q dt s) :=
  .ite (.next h) (.next ((h.tickP ..).seqStep (fun _ _ _ ht => ht.setSequencer ..) ..))

theorem State.keepsStores.execWaitTrig (h : b.keepsStores s) (q : Fin 6) (dt : Nat) : b.keepsNext (execWaitTrig q dt s) := by
  unfold Machine.execWaitTrig
  refine .ite (.next h) ?_
  exact .next ((h.tickP ..).seqStep (fun t _ _ ht => .iteOn Prod.fst (ht.setSequencer ..) (ht.setSequencer ..)) ..)

theorem State.keepsStores.execStamp (h : b.keepsStores s) (q : Fin 6) (dt : Nat) : b.keepsNext (execStamp q dt s) :=
  .ite (.next h) (.next ((h.tickP ..).seqStep (fun _ _ _ ht => ht.setSequencer ..) ..))

theorem State.keepsStores.execXfer (h : b.keepsStores s) (q : Fin 6) (rx : List Byte) (dt : Nat) : b.keepsNext (execXfer q rx dt s) :=
  .ite (.next h) (.next ((h.tickP ..).seqStep (fun _ _ _ ht => ht.setSequencer ..) ..))

theorem State.keepsStores.execDelay (h : b.keepsStores s) (q : Fin 6) (dt : Nat) : b.keepsNext (execDelay q dt s) :=
  .ite (.next h) (.next ((h.tickP ..).seqStep (fun _ _ _ ht => ht) ..))

theorem State.keepsStores.stampOr (h : b.keepsStores s) (o : Option Nat) : b.keepsStores (s.stampOr o).2 := by
  unfold State.stampOr
  split
  · exact h
  · exact h.fresh

theorem State.keepsStores.emit (h : b.keepsStores s) (n tag first last : Nat) (bs : List Byte) (long : Bool) :
    b.keepsStores (s.emit n tag first last bs long) := by
  unfold State.emit
  refine .ite h ?_
  split
  · exact h.unmatched ..
  · exact .ite (((h.beginSample ..).killSample ..).endSample ..) (h.wholeSample ..)

theorem State.keepsStores.execEmit (h : b.keepsStores s) (q : Fin 6) (dt : Nat) : b.keepsNext (execEmit q dt s) := by
  unfold Machine.execEmit
  refine .ite (.next h) ?_
  refine .next ?_
  refine .seqStep (h.tickP ..) (fun t _ _ ht => ?_) ..
  extract_lets x
  split
  rename_i x1 m t1 hr
  have ht1 : b.keepsStores t1 := .of_eq Prod.snd hr (ht.stampOr ..)
  exact ((ht1.stampOr ..).setSequencer ..).emit ..

theorem State.keepsStores.execJump (h : b.keepsStores s) (q : Fin 6) (dt : Nat) : b.keepsNext (execJump q dt s) :=
  .ite (.next h) (.next ((h.tickP ..).seqStep (fun _ _ _ ht => ht.setSequencer ..) ..))

theorem State.keepsStores.execGpioOut (h : b.keepsStores s) (q : Fin 6) (dt : Nat) : b.keepsNext (execGpioOut q dt s) :=
  .ite (.next h) (.next ((h.tickP ..).seqStep (fun _ _ _ ht => .ite (ht.setPin ..) ht) ..))

theorem State.keepsStores.trigger (h : b.keepsStores s) (q src : Nat) : b.keepsStores (s.trigger q src) :=
  .ite (h.setSequencer ..) (.ite (.ite (h.bump ..) (h.setSequencer ..)) h)

theorem State.keepsStores.execSequencerTrigger (h : b.keepsStores s) (q : Fin 6) (src : BitVec 6) (dt : Nat) :
    b.keepsNext (execSequencerTrigger q src dt s) := by
  unfold Machine.execSequencerTrigger
  refine .ite (.next h) ?_
  extract_lets s1 x k
  have hs1 : b.keepsStores s1 := h.tickP ..
  refine .ite (.ite (.next ((hs1.setSequencer ..).trigger ..)) (.next hs1)) ?_
  refine .ite (.next (.ite (hs1.trigger ..) hs1)) ?_
  exact .ite (.ite (.next ((hs1.setSequencer ..).trigger ..)) (.next hs1)) (.next hs1)

theorem State.keepsStores.execSequencerTimerExpiry (h : b.keepsStores s) (q : Fin 6) (dt : Nat) :
    b.keepsNext (execSequencerTimerExpiry q dt s) :=
  .ite (.next h) (.ite (.next (((h.tickP ..).setSequencer ..).trigger ..)) (.next (h.tickP ..)))

theorem State.keepsStores.execGpioEdgeCapture (h : b.keepsStores s) (g : BitVec 5) (rising : Bool) (dt : Nat) :
    b.keepsNext (execGpioEdgeCapture g rising dt s) := by
  unfold Machine.execGpioEdgeCapture
  refine .ite (.next h) ?_
  extract_lets s1 pin t s2
  have hs1 : b.keepsStores s1 := h.tickP ..
  have hs2 : b.keepsStores s2 := by
    unfold s2
    split
    · exact hs1.wholeSample ..
    · exact hs1.unmatched ..
  exact .ite (.next (hs2.foldl _ fun t _ ht => .ite (ht.setSequencer ..) ht)) (.next hs1)

theorem State.keepsStores.execGpioFrameTrigger (h : b.keepsStores s) (g : BitVec 5) (_since dt : Nat) :
    b.keepsNext (execGpioFrameTrigger g _since dt s) := by
  unfold Machine.execGpioFrameTrigger
  refine .ite (.next h) ?_
  extract_lets s1 pin x
  have hs1 : b.keepsStores s1 := h.tickP ..
  split
  · exact .ite (.next (hs1.other.setPin ..)) (.next hs1)
  · exact .next hs1

theorem State.keepsStores.execGpioPulseEnd (h : b.keepsStores s) (g : BitVec 5) (dt : Nat) : b.keepsNext (execGpioPulseEnd g dt s) := by
  unfold Machine.execGpioPulseEnd
  refine .ite (.next h) ?_
  extract_lets s1 pin x s2
  have hs1 : b.keepsStores s1 := h.tickP ..
  have hs2 : b.keepsStores s2 := hs1.other
  split
  · exact .next hs1
  · exact .ite (.next (hs2.setPin ..)) (.next hs1)

theorem State.keepsStores.driveRelease (h : b.keepsStores s) (r : Nat) : b.keepsStores (s.driveRelease r) :=
  .ite ((h.bump ..).raise ..) (h.setDriveQueue ..)

theorem State.keepsStores.execDriveTransmit (h : b.keepsStores s) (n : SensorPort) (dt : Nat) :
    b.keepsNext (execDriveTransmit n dt s) := by
  unfold Machine.execDriveTransmit
  refine .ite (.next h) ?_
  extract_lets s1
  have hs1 : b.keepsStores s1 := h.tickP ..
  split
  · exact .next hs1
  · exact .ite (.next ((hs1.setDriveQueue ..).other)) (.next hs1)

theorem State.keepsStores.execDriveTransmitEnd (h : b.keepsStores s) (n : SensorPort) (rx : List Byte) (dt : Nat) :
    b.keepsNext (execDriveTransmitEnd n rx dt s) := by
  unfold Machine.execDriveTransmitEnd
  refine .ite (.next h) ?_
  extract_lets s1
  have hs1 : b.keepsStores s1 := h.tickP ..
  split
  · exact .next hs1
  · split
    · exact .next hs1
    · exact .ite (.next ((hs1.setDriveQueue ..).emit ..)) (.next (hs1.setDriveQueue ..))

/-! ## Datum -/

theorem State.keepsStores.setComp (h : b.keepsStores s) (c : Nat) (x : Comp) : b.keepsStores (s.setComp c x) := h.other

theorem State.keepsStores.setTrack (h : b.keepsStores s) (a j : Nat) (x : Track) : b.keepsStores (s.setTrack a j x) := h.other

theorem State.keepsStores.setMasks (h : b.keepsStores s) (m : DatumMasks) : b.keepsStores (s.setMasks m) := h.other

theorem State.keepsStores.markUsed (h : b.keepsStores s) (n : Nat) : b.keepsStores (s.markUsed n) := h.setMasks ..

theorem State.keepsStores.markReject (h : b.keepsStores s) (n : Nat) : b.keepsStores (s.markReject n) := (h.setMasks ..).bump ..

theorem State.keepsStores.datumFrame (h : b.keepsStores s) (m at' : Nat) : b.keepsStores (s.datumFrame m at') := h.other

theorem State.keepsStores.stadiaFrame (h : b.keepsStores s) (at' : Nat) : b.keepsStores (s.stadiaFrame at') := h.other

theorem State.keepsStores.stadiaStart (h : b.keepsStores s) : b.keepsStores s.stadiaStart :=
  .ite (.ite (h.stadiaFrame ..) (h.other.bump ..)) h

theorem State.keepsStores.execDatumSnapshot (h : b.keepsStores s) (lag : BitVec 27) (dt : Nat) :
    b.keepsNext (execDatumSnapshot lag dt s) := by
  unfold Machine.execDatumSnapshot
  refine .ite (.next h) ?_
  extract_lets s1 m ports snaps x s2 s3 x1
  have hs1 : b.keepsStores s1 := h.tickF ..
  have hs2 : b.keepsStores s2 := hs1.other
  have hs3 : b.keepsStores s3 := hs2.stadiaStart
  exact .ite (.ite (.ite (.next (hs3.datumFrame ..)) (.next (hs3.other.bump ..))) (.next hs3)) (.next hs1)

theorem State.keepsStores.latchSource (h : b.keepsStores s) (n : Nat) (taken : Option DatumRec) :
    b.keepsStores (s.latchSource n taken) := by
  unfold State.latchSource
  split
  · exact h.setReg ..
  · extract_lets header r fresh tooMany s1 s2 r1 x s3 s4 s5 dets x1
    have hs1 : b.keepsStores s1 := .ite (h.bump ..) h
    have hs2 : b.keepsStores s2 := .ite (hs1.markReject ..) hs1
    have hs3 : b.keepsStores s3 := hs2.other
    have hs4 : b.keepsStores s4 := (hs3.setFld ..).setFld ..
    have hs5 : b.keepsStores s5 := .ite (hs4.setFld ..) hs4
    exact .ite ((hs5.setMasks ..).bump ..) (.ite (hs5.bump ..) hs5)

theorem State.keepsStores.predictAll (h : b.keepsStores s) : b.keepsStores s.predictAll := by
  unfold State.predictAll
  extract_lets s1
  have hs1 : b.keepsStores s1 := by
    unfold s1
    refine .foldl h _ fun t x ht => ?_
    split
    · exact ht.setComp ..
    · exact ht
  exact hs1.foldl _ fun t _ ht => ht.foldl _ fun u _ hu => .ite hu (hu.setTrack ..)

theorem State.keepsStores.rejectDetections (h : b.keepsStores s) (a : Nat) : b.keepsStores (s.rejectDetections a) :=
  h.foldl _ fun _ _ ht => ht.foldl _ fun _ _ hu => hu.markReject ..

theorem State.keepsStores.writeAssoc (h : b.keepsStores s) (a : Nat) : b.keepsStores (s.writeAssoc a) := by
  unfold State.writeAssoc
  split
  · extract_lets s1 s2 x s3 r s4 s5
    have hs1 : b.keepsStores s1 := h.rejectDetections ..
    have hs2 : b.keepsStores s2 := .ite hs1 (hs1.bump ..)
    have hs3 : b.keepsStores s3 := hs2.other
    have hs4 : b.keepsStores s4 := hs3.clearRange ..
    have hs5 : b.keepsStores s5 := hs4.foldl _ fun t _ ht => ht.wrLe ..
    exact hs5.foldl _ fun t _ ht => .ite ht (ht.wrLe ..)

theorem State.keepsStores.applyReleases (h : b.keepsStores s) : b.keepsStores s.applyReleases :=
  (h.foldl _ fun _ _ ht => ((ht.setFld ..).other).record ..).other

theorem State.keepsStores.datumLatchRecord (h : b.keepsStores s) (m : Nat) : b.keepsStores (s.datumLatchRecord m) := h.record ..

theorem State.keepsStores.datumLatch (h : b.keepsStores s) (m : Nat) (take : State → Nat → Option DatumRec) :
    b.keepsStores (s.datumLatch m take) := by
  unfold State.datumLatch
  extract_lets s1 x s2 s3 s4
  have hs1 : b.keepsStores s1 := h.applyReleases
  have hs2 : b.keepsStores s2 := hs1.other
  have hs3 : b.keepsStores s3 := hs2.foldl _ fun t _ ht => ht.latchSource ..
  have hs4 : b.keepsStores s4 := hs3.datumLatchRecord ..
  exact hs4.predictAll.foldl _ fun t _ ht => ht.writeAssoc ..

theorem State.keepsStores.execDatumLatch (h : b.keepsStores s) (dt : Nat) : b.keepsNext (execDatumLatch dt s) :=
  .ite (.next h) (.ite (.next ((h.tickF ..).datumLatch ..)) (.next (h.tickF ..)))

theorem State.keepsStores.quarantine (h : b.keepsStores s) (n : Nat) : b.keepsStores (s.quarantine n) :=
  (((h.setFld ..).bump ..).raise ..).record ..

theorem State.keepsStores.testPair (h : b.keepsStores s) (g a bs : Nat) (cs : Conflicts) : b.keepsStores (s.testPair g a bs cs).1 := by
  unfold State.testPair
  split
  · exact h
  · split
    · exact h
    · extract_lets key setRun m s1 cs1 run
      have hs1 : b.keepsStores s1 := (h.setMasks ..).bump ..
      split
      · exact .iteOn Prod.fst ((hs1.raise ..).record ..) (.iteOn Prod.fst (hs1.other.quarantine ..) hs1.other)
      · exact h.other

theorem State.keepsStores.gates (h : b.keepsStores s) : b.keepsStores s.gates.1 := by
  unfold State.gates
  refine .foldlOn Prod.fst h _ fun t x ht => ?_
  exact .iteOn Prod.fst ht (.foldlOn Prod.fst ht _ fun u _ hu => .foldlOn Prod.fst hu _ fun v _ hv => hv.testPair ..)

theorem State.keepsStores.rejects (h : b.keepsStores s) (n : Nat) : b.keepsStores (s.rejects n) := by
  unfold State.rejects
  refine .foldl h _ fun t x ht => ?_
  split
  · exact ht.markReject ..
  · exact ht

theorem State.keepsStores.updateSource (h : b.keepsStores s) (cs : Conflicts) (n : Nat) : b.keepsStores (s.updateSource cs n) := by
  unfold State.updateSource
  refine .foldl h _ fun t x ht => ?_
  split
  · exact ht
  · exact .ite ht ((ht.setComp ..).markUsed ..)

theorem State.keepsStores.retroSource (h : b.keepsStores s) (d n f : Nat) : b.keepsStores (s.retroSource d n f) := by
  unfold State.retroSource
  extract_lets k comps
  split
  rename_i t hit hr
  have ht : b.keepsStores t := by
    refine .of_eq Prod.fst hr (.foldlOn Prod.fst h _ fun acc m hacc => ?_)
    extract_lets u
    split
    · exact hacc
    · exact .iteOn Prod.fst ((hacc.setComp ..).markUsed ..) ((hacc.setMasks ..).bump ..)
  exact .ite ((ht.setMasks ..).bump ..) ht

theorem State.keepsStores.retrodictions (h : b.keepsStores s) (d : Nat) : b.keepsStores (s.retrodictions d) :=
  h.foldl _ fun _ _ ht => ht.foldl _ fun _ _ hu => .ite (hu.retroSource ..) hu

theorem State.keepsStores.birth (h : b.keepsStores s) (a : Nat) (d : Detection) : b.keepsStores (s.birth a d) := by
  unfold State.birth
  split
  · exact h.bump ..
  · exact ((((h.setTrack ..).other).count ..).count ..).markUsed ..

theorem State.keepsStores.trackHit (h : b.keepsStores s) (a j : Nat) (d : Detection) : b.keepsStores (s.trackHit a j d) :=
  (h.setTrack ..).markUsed ..

theorem State.keepsStores.trackMiss (h : b.keepsStores s) (a j : Nat) : b.keepsStores (s.trackMiss a j) :=
  .ite (h.setTrack ..) (h.setTrack ..)

theorem State.keepsStores.upkeep (h : b.keepsStores s) (a : Nat) (x : Option (Auction × Nat × Bool)) : b.keepsStores (s.upkeep a x) := by
  unfold State.upkeep
  extract_lets ds part asg s1
  have hs1 : b.keepsStores s1 := by
    unfold s1
    refine .foldl h _ fun t x1 ht => ?_
    refine .ite ht ?_
    split
    · exact ht.trackHit ..
    · exact ht.trackMiss ..
  refine .foldl hs1 _ fun t1 x2 ht1 => ?_
  refine .ite ?_ ht1
  split
  · exact ht1.birth ..
  · exact ht1

theorem State.keepsStores.datumCost (h : b.keepsStores s) (m : Nat) : b.keepsStores (s.datumCost m) := by
  unfold State.datumCost
  extract_lets live xs s1 s2
  have hs1 : b.keepsStores s1 := by
    unfold s1
    refine .foldl h _ fun t x ht => ?_
    split
    · exact (ht.setMasks ..).bump ..
    · exact .ite (.bump (.setMasks (.ite ht (ht.bump ..)) ..) ..) (.ite ht (ht.bump ..))
  have hs2 : b.keepsStores s2 := hs1.foldl _ fun t _ ht => ht.rejects ..
  split
  rename_i x1 t1 cs hr
  have ht1 : b.keepsStores t1 := .of_eq Prod.fst hr hs2.gates
  exact (((ht1.foldl _ fun t _ ht => ht.updateSource ..).retrodictions ..).foldl _ fun t _ ht => ht.upkeep ..).other

theorem State.keepsStores.execDatumCostStage (h : b.keepsStores s) (dt : Nat) : b.keepsNext (execDatumCostStage dt s) :=
  .ite (.next h) (.ite (.next ((h.tickF ..).datumCost ..)) (.next (h.tickF ..)))

theorem State.keepsStores.fusedPoison (h : b.keepsStores s) (a : Nat) : b.keepsStores (s.fusedPoison a) := by
  unfold State.fusedPoison
  split
  · extract_lets s1 s2 x
    have hs1 : b.keepsStores s1 := h.foldl _ fun t _ ht => ((ht.markRange ..).setComp ..).raise ..
    have hs2 : b.keepsStores s2 := hs1.foldl _ fun t _ ht => ((ht.markRange ..).setTrack ..).raise ..
    exact hs2.other

theorem State.keepsStores.datumPublish (h : b.keepsStores s) (m : Nat) : b.keepsStores (s.datumPublish m) := by
  unfold State.datumPublish
  extract_lets b1 a bs s1 x s2 s3 s4
  have hs1 : b.keepsStores s1 := ((h.wrMarked ..).fusedPoison ..).flip ..
  have hs2 : b.keepsStores s2 := hs1.other
  have hs3 : b.keepsStores s3 := (hs2.setFld ..).setFld ..
  have hs4 : b.keepsStores s4 := hs3.record ..
  split
  · exact hs4.datumFrame ..
  · exact hs4

theorem State.keepsStores.execDatumPublish (h : b.keepsStores s) (dt : Nat) : b.keepsNext (execDatumPublish dt s) :=
  .ite (.next h) (.ite (.next ((h.tickF ..).datumPublish ..)) (.next (h.tickF ..)))

theorem State.keepsStores.dtReleaseBody (h : b.keepsStores s) (c : Cmd) : b.keepsStores (dtReleaseBody s c).1 := .iteOn Prod.fst h.other h

theorem State.keepsStores.execDtRelease (h : b.keepsStores s) (ring : BitVec 14) (d : Desc) : b.keepsNext (execDtRelease ring d s) :=
  .next (h.command (fun _ _ ht => ht.dtReleaseBody ..) ..)

/-! ## Traverse -/

theorem State.keepsStores.tvAccept (h : b.keepsStores s) (j base img : Nat) (bytes : List Byte) (dig : Nat) :
    b.keepsStores (s.tvAccept j base img bytes dig) :=
  (((((((h.other.setFld ..).setFld ..).setFld ..).setFld ..).setFld ..).setFld ..).setFld ..).setFld ..

theorem State.keepsStores.tvRegisterBody (h : b.keepsStores s) (c : Cmd) : b.keepsStores (tvRegisterBody s c).1 := by
  unfold Machine.tvRegisterBody
  extract_lets a n j bs img dig
  split
  · exact h
  · split
    · exact h
    · split
      · exact h
      · split
        · exact h
        · split
          · exact h
          · split
            · exact h
            · exact .iteOn Prod.fst h (.iteOn Prod.fst h ((h.tvAccept ..).extend ..))

theorem State.keepsStores.execTvRegister (h : b.keepsStores s) (ring : BitVec 14) (d : Desc) : b.keepsNext (execTvRegister ring d s) :=
  .next (h.command (fun _ _ ht => ht.tvRegisterBody ..) ..)

theorem State.keepsStores.tvPlaceOne (h : b.keepsStores s) (j : Nat) (bs : List Byte) : b.keepsStores (s.tvPlaceOne j bs) :=
  (h.wrMarked ..).foldl _ fun _ _ ht => ht.wrMarked ..

theorem State.keepsStores.tvPlace (h : b.keepsStores s) : b.keepsStores s.tvPlace := (h.foldl _ fun _ _ ht => ht.tvPlaceOne ..).other

theorem State.keepsStores.tvHolding (h : b.keepsStores s) (j : Nat) : b.keepsStores (s.tvHolding j) := .ite (h.tvPlaceOne ..) h

theorem State.keepsStores.tvParamWord (h : b.keepsStores s) (j k w : Nat) : b.keepsStores (s.tvParamWord j k w) :=
  .ite h.other ((h.wrMarked ..).other)

theorem State.keepsStores.tvParamRun (h : b.keepsStores s) (c : Cmd) : b.keepsStores (s.tvParamRun c).1 := by
  unfold State.tvParamRun
  extract_lets j first n a u value param t
  have hu : b.keepsStores u := h.tvHolding ..
  have ht : b.keepsStores t := h.foldl _ fun t _ ht => ht.tvParamWord ..
  split
  · exact h
  · split
    · exact h
    · exact ht.setFld ..

theorem State.keepsStores.tvParamBody (h : b.keepsStores s) (c : Cmd) : b.keepsStores (tvParamBody s c).1 :=
  .iteOn Prod.fst h (.iteOn Prod.fst h.other (h.tvParamRun ..))

theorem State.keepsStores.execTvParam (h : b.keepsStores s) (ring : BitVec 14) (d : Desc) : b.keepsNext (execTvParam ring d s) :=
  .next (h.command (fun _ _ ht => ht.tvParamBody ..) ..)

theorem State.keepsStores.tvCopied (h : b.keepsStores s) (j : Nat) : b.keepsStores (s.tvCopied j) :=
  ((h.copyRange ..).foldl _ fun _ _ ht => ht.wrMarked ..).other

theorem State.keepsStores.tvCopies (h : b.keepsStores s) : b.keepsStores s.tvCopies :=
  ((h.other.foldl _ fun _ _ ht => ht.tvCopied ..).other).foldl _ fun _ _ ht => (ht.tvParamRun ..).finish ..

theorem State.keepsStores.execParamCopyEnd (h : b.keepsStores s) (dt : Nat) : b.keepsNext (execParamCopyEnd dt s) :=
  .ite (.next h) (.next ((h.tickT ..).tvCopies))

theorem State.keepsStores.tvExchange (h : b.keepsStores s) (j : Nat) : b.keepsStores (s.tvExchange j) :=
  (((h.foldl _ fun _ _ ht => ht.wrMarked ..).setFld ..).setFld ..).other

theorem State.keepsStores.tvPublishBit (h : b.keepsStores s) (bs : Nat) : b.keepsStores (s.tvPublishBit bs) := by
  unfold State.tvPublishBit
  refine .foldl h _ fun t x ht => ?_
  refine .ite ?_ ht
  split
  · exact .ite (ht.other.bump ..) (ht.flip ..)
  · exact ht.flip ..

theorem State.keepsStores.tvAssembled (h : b.keepsStores s) (r : TvRun) : b.keepsStores (s.tvAssembled r) := by
  unfold State.tvAssembled
  extract_lets x h1 vals s1 s2 s3 s4 x1
  have hs1 : b.keepsStores s1 := .ite (h.bump ..) h
  have hs2 : b.keepsStores s2 := .ite (hs1.bump ..) hs1
  have hs3 : b.keepsStores s3 := hs2.foldl _ fun t _ ht => ht.flip ..
  have hs4 : b.keepsStores s4 := hs3.markRange ..
  exact hs4.other

theorem State.keepsStores.tvTally (h : b.keepsStores s) (r : TvRun) (poison : Bool) : b.keepsStores (s.tvTally r poison) := by
  unfold State.tvTally
  extract_lets s1 s2 s3
  have hs1 : b.keepsStores s1 := .ite (h.raise ..) h
  have hs2 : b.keepsStores s2 := .ite ((hs1.bump ..).raise ..) hs1
  have hs3 : b.keepsStores s3 := .ite (hs2.bump ..) hs2
  exact (hs3.setFld ..).setFld ..

theorem State.keepsStores.tvWrite (h : b.keepsStores s) (r : TvRun) : b.keepsStores (s.tvWrite r).2 := by
  unfold State.tvWrite
  extract_lets h1 a st ws out bads poison refac steps status x s1 head s2 s3 s4 good x1 s5 s6
  have hs1 : b.keepsStores s1 := h.other
  have hs2 : b.keepsStores s2 := hs1.wrMarked ..
  have hs3 : b.keepsStores s3 := hs2.wrMarked ..
  have hs4 : b.keepsStores s4 := hs3.foldl _ fun t _ ht => .ite (.ite (ht.markWord ..) ((ht.markWord ..).markWord ..)) ht
  have hs5 : b.keepsStores s5 := hs4.other
  have hs6 : b.keepsStores s6 := hs5.tvTally ..
  exact .ite (hs6.bump ..) hs6

theorem State.keepsStores.tvPublish (h : b.keepsStores s) (r : TvRun) (status : Nat) : b.keepsStores (s.tvPublish r status) :=
  ((((h.wrLe ..).wrLe ..).flip ..).setFld ..).record ..

theorem State.keepsStores.setRun (h : b.keepsStores s) (r : TvRun) : b.keepsStores (s.setRun r) := h.other

theorem State.keepsStores.tvOutputEnd (h : b.keepsStores s) (r : TvRun) : b.keepsStores (s.tvOutputEnd r) :=
  .setRun (.ite (h.tvWrite ..) ((h.tvWrite ..).tvPublish ..)) ..

theorem State.keepsStores.tvEstEnd (h : b.keepsStores s) (r : TvRun) : b.keepsStores (s.tvEstEnd r) :=
  ((h.tvWrite ..).tvPublish ..).setRun ..

theorem State.keepsStores.tvTimeout (h : b.keepsStores s) (r : TvRun) : b.keepsStores (s.tvTimeout r) := by
  unfold State.tvTimeout
  extract_lets h1 a s1 s2 poison s3 x s4
  have hs1 : b.keepsStores s1 := by
    unfold s1
    split
    · exact h.copyRange ..
    · exact h
  have hs2 : b.keepsStores s2 := hs1.wrMarked ..
  have hs3 : b.keepsStores s3 := ((hs2.tvTally ..).bump ..).raise ..
  have hs4 : b.keepsStores s4 := hs3.other
  exact hs4.tvPublish ..

theorem State.keepsStores.tvLastWrite (h : b.keepsStores s) (r : TvRun) : b.keepsStores (s.tvLastWrite r) :=
  .ite (.ite (h.tvOutputEnd ..) h) (.ite (h.tvEstEnd ..) h)

theorem State.keepsStores.tvWindowEnd (h : b.keepsStores s) : b.keepsStores s.tvWindowEnd := by
  unfold State.tvWindowEnd
  split
  · exact h
  · extract_lets s1 r s2 s3 x
    have hs1 : b.keepsStores s1 := h.tvLastWrite ..
    have hs2 : b.keepsStores s2 := .ite (hs1.tvPublish ..) (.ite (hs1.tvTimeout ..) hs1)
    have hs3 : b.keepsStores s3 := .ite (hs2.foldl _ fun t _ ht => ht.flip ..) hs2
    exact hs3.other.setFld ..

theorem State.keepsStores.tvLatch (h : b.keepsStores s) (j k : Nat) (pend : Bool) (take : State → List (Nat × Nat)) :
    b.keepsStores (s.tvLatch j k pend take) := by
  unfold State.tvLatch
  extract_lets now taken ages s1 s2 bank s3 s4
  have hs1 : b.keepsStores s1 := h.tvWindowEnd
  have hs2 : b.keepsStores s2 := .ite (hs1.tvExchange ..) hs1
  have hs3 : b.keepsStores s3 := hs2.record ..
  have hs4 : b.keepsStores s4 := hs3.setRun ..
  exact ((hs4.setFld ..).setFld ..).setFld ..

theorem State.keepsStores.tvOrigin (h : b.keepsStores s) (ofs : Nat) : b.keepsStores (s.tvOrigin ofs) := by
  unfold State.tvOrigin
  split
  · exact .ite h h.other
  · exact h.other

theorem State.keepsStores.execTraverseLatch (h : b.keepsStores s) (j : Fin 64) (k : Fin 15) (dt : Nat) :
    b.keepsNext (execTraverseLatch j k dt s) := by
  unfold Machine.execTraverseLatch
  refine .ite (.next h) ?_
  extract_lets s1 ofs on s2 start x s3 busy
  have hs1 : b.keepsStores s1 := (h.tickT ..).tvCopies
  have hs2 : b.keepsStores s2 := hs1.tvOrigin ..
  have hs3 : b.keepsStores s3 := hs2.other
  exact .ite (.next hs1) (.ite (.next hs2) (.ite (.next ((hs3.bump ..).raise ..)) (.next (hs3.tvLatch ..))))

theorem State.keepsStores.execTraverseAssemblyEnd (h : b.keepsStores s) (dt : Nat) : b.keepsNext (execTraverseAssemblyEnd dt s) := by
  unfold Machine.execTraverseAssemblyEnd
  refine .ite (.next h) ?_
  extract_lets s1
  have hs1 : b.keepsStores s1 := h.tickT ..
  split
  · exact .next (hs1.tvAssembled ..)
  · exact .next hs1

theorem State.keepsStores.execTraverseFactorEnd (h : b.keepsStores s) (dt : Nat) : b.keepsNext (execTraverseFactorEnd dt s) := by
  unfold Machine.execTraverseFactorEnd
  refine .ite (.next h) ?_
  extract_lets s1
  have hs1 : b.keepsStores s1 := h.tickT ..
  split
  · exact .next hs1
  · exact .ite (.next hs1) (.next (.setRun (.ite (hs1.bump ..) hs1) ..))

theorem State.keepsStores.execTraverseIterationEnd (h : b.keepsStores s) (dt : Nat) : b.keepsNext (execTraverseIterationEnd dt s) := by
  unfold Machine.execTraverseIterationEnd
  refine .ite (.next h) ?_
  extract_lets s1
  have hs1 : b.keepsStores s1 := h.tickT ..
  split
  · exact .next hs1
  · exact .next (hs1.setRun ..)

theorem State.keepsStores.execMisclosureTest (h : b.keepsStores s) (dt : Nat) : b.keepsNext (execMisclosureTest dt s) := by
  unfold Machine.execMisclosureTest
  refine .ite (.next h) ?_
  extract_lets s1
  have hs1 : b.keepsStores s1 := h.tickT ..
  split
  · exact .next hs1
  · split
    · exact .next (hs1.setRun ..)

theorem State.keepsStores.execTraverseOutputEnd (h : b.keepsStores s) (dt : Nat) : b.keepsNext (execTraverseOutputEnd dt s) := by
  unfold Machine.execTraverseOutputEnd
  refine .ite (.next h) ?_
  extract_lets s1
  have hs1 : b.keepsStores s1 := h.tickT ..
  split
  · exact .next hs1
  · exact .next (hs1.tvOutputEnd ..)

theorem State.keepsStores.execEstRunEnd (h : b.keepsStores s) (dt : Nat) : b.keepsNext (execEstRunEnd dt s) := by
  unfold Machine.execEstRunEnd
  refine .ite (.next h) ?_
  extract_lets s1
  have hs1 : b.keepsStores s1 := h.tickT ..
  split
  · exact .next hs1
  · exact .ite (.next hs1) (.next (hs1.tvEstEnd ..))

theorem State.keepsStores.execTraverseWindowEnd (h : b.keepsStores s) (dt : Nat) : b.keepsNext (execTraverseWindowEnd dt s) := by
  unfold Machine.execTraverseWindowEnd
  refine .ite (.next h) ?_
  extract_lets s1
  have hs1 : b.keepsStores s1 := h.tickT ..
  split
  · exact .ite (.next hs1.tvWindowEnd) (.next hs1)
  · exact .next hs1

/-! ## Guyline -/

theorem State.keepsStores.setGlChan (h : b.keepsStores s) (k : Nat) (c : GlChan) : b.keepsStores (s.setGlChan k c) := h.other

theorem State.keepsStores.glLoadRun (h : b.keepsStores s) (c : Cmd) : b.keepsStores (s.glLoadRun c).1 := by
  unfold State.glLoadRun
  extract_lets k bs ch active x s1 x1 s2
  have hs1 : b.keepsStores s1 := h.setGlChan ..
  have hs2 : b.keepsStores s2 := h.setGlChan ..
  split
  · exact h
  · exact .iteOn Prod.fst (.iteOn Prod.fst (hs1.setFld ..) (hs1.extend ..)) ((hs2.setFld ..).extend ..)

theorem State.keepsStores.glLoadBody (h : b.keepsStores s) (c : Cmd) : b.keepsStores (glLoadBody s c).1 :=
  .iteOn Prod.fst h (.iteOn Prod.fst (h.setGlChan ..) (h.glLoadRun ..))

theorem State.keepsStores.execGlLoad (h : b.keepsStores s) (ring : BitVec 14) (d : Desc) : b.keepsNext (execGlLoad ring d s) :=
  .next (h.command (fun _ _ ht => ht.glLoadBody ..) ..)

theorem State.keepsStores.glSwapped (h : b.keepsStores s) (k : Nat) : b.keepsStores (s.glSwapped k) := by
  unfold State.glSwapped
  extract_lets ch
  split
  · exact h
  · refine .foldl (((h.setGlChan ..).extend ..).finish ..) _ fun t x ht => ?_
    extract_lets c
    refine .ite (ht.setGlChan ..) ?_
    have hload := ht.glLoadRun c
    split
    · rename_i u r hr
      exact State.keepsStores.finish (.of_eq Prod.fst hr hload) ..
    · rename_i u hr
      exact .of_eq Prod.fst hr hload

theorem State.keepsStores.glSeen (h : b.keepsStores s) : b.keepsStores s.glSeen := h.latchedG.other

theorem State.keepsStores.glSwap (h : b.keepsStores s) (k : Nat) : b.keepsStores (s.glSwap k).1 :=
  .iteOn Prod.fst (((((h.setGlChan ..).setFld ..).setFld ..).setFlag ..).record ..) h

theorem State.keepsStores.glTrigger (h : b.keepsStores s) (k : Nat) : b.keepsStores (s.glTrigger t k).1 :=
  .setFld (.setGlChan (.ite (((h.glSwap ..).setGlChan ..).glSwapped ..) ((h.glSwap ..).setGlChan ..)) ..) ..

theorem State.keepsStores.execGuylineFrameStart (h : b.keepsStores s) (dt : Nat) : b.keepsNext (execGuylineFrameStart dt s) := by
  unfold Machine.execGuylineFrameStart
  refine .ite (.next h) ?_
  extract_lets s1 s2 x
  have hs1 : b.keepsStores s1 := h.tickG ..
  have hs2 : b.keepsStores s2 := hs1.foldl _ fun t _ ht => .setGlChan (.ite (ht.bump ..) ht) ..
  exact .ite (.next hs1) (.next hs2.other)

theorem State.keepsStores.glTriggers (h : b.keepsStores s) (ks : List Nat) : b.keepsStores (s.glTriggers t ks) := by
  unfold State.glTriggers
  split
  rename_i x t1 l hr
  have ht1 : b.keepsStores t1 := .of_eq Prod.fst hr (.foldlOn Prod.fst h _ fun u _ hu => hu.glTrigger ..)
  exact ht1.record ..

theorem State.keepsStores.execChannelTrigger (h : b.keepsStores s) (mask : BitVec 64) (dt : Nat) :
    b.keepsNext (execChannelTrigger mask dt s) := by
  unfold Machine.execChannelTrigger
  refine .ite (.next h) ?_
  extract_lets s1 due due1 s2 busy free s3
  have hs1 : b.keepsStores s1 := h.tickG ..
  have hs2 : b.keepsStores s2 := hs1.foldl _ fun t _ ht => ht.setGlChan ..
  have hs3 : b.keepsStores s3 := hs2.foldl _ fun t _ ht => (ht.bump ..).raise ..
  exact .next (.ite hs3 (hs3.glTriggers ..))

theorem State.keepsStores.glResult (h : b.keepsStores s) (k : Nat) : b.keepsStores (s.glResult k) := by
  unfold State.glResult
  extract_lets c x
  split
  · exact .ite (.ite (h.setGlChan ..) ((h.setGlChan ..).raise ..)) h
  · exact h

theorem State.keepsStores.execGuylineResultReady (h : b.keepsStores s) (mask : BitVec 64) (dt : Nat) :
    b.keepsNext (execGuylineResultReady mask dt s) := .ite (.next h) (.next ((h.tickG ..).foldl _ fun _ _ ht => ht.glResult ..))

theorem State.keepsStores.glOutput (h : b.keepsStores s) (k : Nat) : b.keepsStores (s.glOutput k) := by
  unfold State.glOutput
  extract_lets c
  split
  · split
    · refine .ite ?_ h
      split
      · extract_lets flags s1 s2 s3 x
        have hs1 : b.keepsStores s1 := h.setGlChan ..
        have hs2 : b.keepsStores s2 := .ite (hs1.bump ..) hs1
        have hs3 : b.keepsStores s3 := .ite (hs2.bump ..) hs2
        exact .ite hs3.other ((hs3.bump ..).raise ..)
    · exact h
  · exact h

theorem State.keepsStores.execGuylineOutputWrite (h : b.keepsStores s) (mask : BitVec 64) (dt : Nat) :
    b.keepsNext (execGuylineOutputWrite mask dt s) := .ite (.next h) (.next ((h.tickG ..).foldl _ fun _ _ ht => ht.glOutput ..))

/-! ## Stadia -/

theorem State.keepsStores.stModelBody (h : b.keepsStores s) (c : Cmd) : b.keepsStores (stModelBody s c).1 := by
  unfold Machine.stModelBody
  extract_lets bs h1 x s1 s2
  have hs1 : b.keepsStores s1 := h.other
  have hs2 : b.keepsStores s2 := ((hs1.setFld ..).setFld ..).setFld ..
  split
  · exact h
  · split
    · exact h
    · split
      · exact h
      · split
        · exact h
        · exact .iteOn Prod.fst h (hs2.extend ..)

theorem State.keepsStores.execStModel (h : b.keepsStores s) (ring : BitVec 14) (d : Desc) : b.keepsNext (execStModel ring d s) :=
  .next (h.command (fun _ _ ht => ht.stModelBody ..) ..)

theorem State.keepsStores.setDir (h : b.keepsStores s) (i val : Nat) : b.keepsStores (s.setDir i val) := h.other

theorem State.keepsStores.stEntry (h : b.keepsStores s) (e : Nat) : b.keepsStores (s.stEntry e) := by
  unfold State.stEntry
  extract_lets key slot
  refine .ite ?_ ?_
  · refine .ite (h.bump ..) ?_
    split
    · exact h.setDir ..
    · split
      · exact h.setDir ..
      · exact h.bump ..
  · split
    · exact h.setDir ..
    · exact h.bump ..

theorem State.keepsStores.stUpdFlip (h : b.keepsStores s) (at' : Nat) : b.keepsStores (s.stUpdFlip at') := h.other

theorem State.keepsStores.stUpdPublish (h : b.keepsStores s) : b.keepsStores s.stUpdPublish := .ite (h.other.bump ..) (h.stUpdFlip ..)

theorem State.keepsStores.stApply (h : b.keepsStores s) (at' : Nat) : b.keepsStores (s.stApply at') := by
  unfold State.stApply
  extract_lets n seq es s1 s2 s3 s4 x s5 x1
  have hs1 : b.keepsStores s1 := h.foldl _ fun t _ ht => ht.stEntry ..
  have hs2 : b.keepsStores s2 := .ite (.ite hs1 (hs1.count ..)) (h.bump ..)
  have hs3 : b.keepsStores s3 := hs2.setFld ..
  have hs4 : b.keepsStores s4 := hs3.record ..
  have hs5 : b.keepsStores s5 := hs4.other
  exact .ite hs5 (hs5.other.stUpdFlip ..)

theorem State.keepsStores.stPropFlip (h : b.keepsStores s) : b.keepsStores s.stPropFlip := h.other

theorem State.keepsStores.stPropPublish (h : b.keepsStores s) : b.keepsStores s.stPropPublish := .ite (h.other.bump ..) h.stPropFlip

theorem State.keepsStores.execProposalFlip (h : b.keepsStores s) (dt : Nat) : b.keepsNext (execProposalFlip dt s) :=
  .ite (.next h) (.ite (.next (h.tickA ..)) (.next (((h.tickA ..).foldl _ fun _ _ ht => ht.stPropFlip).other)))

theorem State.keepsStores.stStageWrite (h : b.keepsStores s) : b.keepsStores s.stStageWrite := (h.setFlag ..).raise ..

theorem State.keepsStores.setVerdict (h : b.keepsStores s) (i : Nat) (val : Verdict) : b.keepsStores (s.setVerdict i val) := h.other

theorem State.keepsStores.stLatch (h : b.keepsStores s) : b.keepsStores s.stLatch :=
  (((h.other.foldl _ fun _ _ ht => .ite ht (ht.setVerdict ..)).other).setFld ..).record ..

theorem State.keepsStores.stChecked (h : b.keepsStores s) {i at' : Nat} (hr : s.stChecked i at' = some t) : b.keepsStores t := by
  obtain ⟨-, ht⟩ := Option.ite_none_left_eq_some.mp hr
  rw [← apply_ite some, Option.some.injEq] at ht
  exact ht ▸ .ite (h.other.setVerdict ..) (h.other.setVerdict ..)

theorem State.keepsStores.stApplied (h : b.keepsStores s) {at' : Nat} (hr : s.stApplied at' = some t) : b.keepsStores t := by
  obtain ⟨-, ht⟩ := Option.ite_none_left_eq_some.mp hr
  exact Option.some.inj ht ▸ h.stApply ..

theorem State.keepsStores.stEvent (h : b.keepsStores s) (hr : s.stEvent = some t) : b.keepsStores t := by
  unfold State.stEvent at hr
  split at hr
  · exact h.stApplied hr
  · split at hr
    · exact h.stChecked hr
    · contradiction

theorem State.keepsStores.stEvents (h : b.keepsStores s) (n : Nat) : b.keepsStores (State.stEvents n s) := by
  induction n generalizing s with
  | zero => exact h
  | succ n ih =>
    unfold State.stEvents
    split
    · rename_i t hr
      exact ih (h.stEvent hr)
    · exact h

theorem State.keepsStores.stSettle (h : b.keepsStores s) : b.keepsStores s.stSettle := .ite h (h.stEvents ..)

theorem State.keepsStores.execStadiaLatch (h : b.keepsStores s) (dt : Nat) : b.keepsNext (execStadiaLatch dt s) :=
  .ite (.next h) (.ite (.next (((h.tickF ..).stSettle).stLatch)) (.next ((h.tickF ..).stSettle)))

theorem State.keepsStores.execStadiaUpdateApply (h : b.keepsStores s) (dt : Nat) : b.keepsNext (execStadiaUpdateApply dt s) := by
  unfold Machine.execStadiaUpdateApply
  extract_lets s1
  have hs1 : b.keepsStores s1 := h.tickF ..
  refine .ite (.next h) ?_
  split
  · exact .next (hs1.getD fun _ hr => hs1.stApplied hr)
  · exact .next hs1

theorem State.keepsStores.execCandidateCheck (h : b.keepsStores s) (dt : Nat) : b.keepsNext (execCandidateCheck dt s) := by
  unfold Machine.execCandidateCheck
  extract_lets s1
  have hs1 : b.keepsStores s1 := h.tickF ..
  refine .ite (.next h) ?_
  split
  · exact .next (hs1.getD fun _ hr => hs1.stChecked hr)
  · exact .next hs1

theorem State.keepsStores.execStadiaCheckEnd (h : b.keepsStores s) (dt : Nat) : b.keepsNext (execStadiaCheckEnd dt s) :=
  .ite (.next h) (.ite (.next ((((h.tickF ..).stSettle).other).setFld ..)) (.next ((h.tickF ..).stSettle)))

theorem State.keepsStores.execStadiaRecheck (h : b.keepsStores s) (dt : Nat) : b.keepsNext (execStadiaRecheck dt s) := by
  unfold Machine.execStadiaRecheck
  extract_lets s1
  have hs1 : b.keepsStores s1 := h.tickF ..
  refine .ite (.next h) ?_
  split
  · exact .next (hs1.getD fun _ hr => hs1.stChecked hr)
  · exact .next hs1

theorem State.keepsStores.stGate (h : b.keepsStores s) : b.keepsStores s.stGate := by
  unfold State.stGate
  extract_lets e x s1 x1 s2 x2 s3 hold x3 s4 s5
  have hs1 : b.keepsStores s1 := h.other
  have hs2 : b.keepsStores s2 := by
    unfold s2
    split
    · exact hs1
    · exact .ite (hs1.other.setVerdict ..) hs1
  have hs3 : b.keepsStores s3 := by
    unfold s3
    split
    · exact hs2
    · exact .ite hs2.other hs2.other
  have hs4 : b.keepsStores s4 := hs3.other
  have hs5 : b.keepsStores s5 := .ite hs4 ((hs4.setFlag ..).raise ..)
  exact hs5.setFld ..

theorem State.keepsStores.execStadiaGate (h : b.keepsStores s) (dt : Nat) : b.keepsNext (execStadiaGate dt s) :=
  .ite (.next h) (.ite (.next (((h.tickF ..).stSettle).stGate)) (.next ((h.tickF ..).stSettle)))

theorem State.keepsStores.wpMarks (h : b.keepsStores s) (a : Nat) (ws : List Waypoint) : b.keepsStores (s.wpMarks a ws) :=
  h.foldl _ fun _ _ ht => ht.markWord ..

theorem State.keepsStores.stPublish (h : b.keepsStores s) (at' : Nat) : b.keepsStores (s.stPublish at') := by
  unfold State.stPublish
  extract_lets u b1 out status cand traj failed part taken dstat diag passed bump log s1 s2 s3 s4 s5 s6 s7 s8 s9
  have hs1 : b.keepsStores s1 := (h.wrMarked ..).wrMarked ..
  have hs2 : b.keepsStores s2 := (hs1.wpMarks ..).wpMarks ..
  have hs3 : b.keepsStores s3 := by
    unfold s3
    unfold bump
    refine .ite ?_ ?_
    · refine .bump ?_ ..
      refine .ite ?_ ?_
      · exact .bump (.ite (.bump (.ite (hs2.bump ..) hs2) ..) (.ite (hs2.bump ..) hs2)) ..
      · exact .ite (.bump (.ite (hs2.bump ..) hs2) ..) (.ite (hs2.bump ..) hs2)
    · refine .ite ?_ ?_
      · exact .bump (.ite (.bump (.ite (hs2.bump ..) hs2) ..) (.ite (hs2.bump ..) hs2)) ..
      · exact .ite (.bump (.ite (hs2.bump ..) hs2) ..) (.ite (hs2.bump ..) hs2)
  have hs4 : b.keepsStores s4 := ((hs3.setFld ..).setFld ..).setFld ..
  have hs5 : b.keepsStores s5 := (hs4.setFld ..).setFld ..
  have hs6 : b.keepsStores s6 := hs5.setFld ..
  have hs7 : b.keepsStores s7 := hs6.record ..
  have hs8 : b.keepsStores s8 := hs7.other
  have hs9 : b.keepsStores s9 := hs8.flip ..
  exact .ite (hs9.stadiaFrame ..) hs9

theorem State.keepsStores.execStadiaPublish (h : b.keepsStores s) (dt : Nat) : b.keepsNext (execStadiaPublish dt s) :=
  .ite (.next h) (.ite (.next ((h.tickF ..).stPublish ..)) (.next (h.tickF ..)))

/-! ## Plumb -/

theorem State.keepsStores.setThread (h : b.keepsStores s) (at' : Nat) (x : Thread) : b.keepsStores (s.setThread at' x) := h.other

theorem State.keepsStores.setDataWord (h : b.keepsStores s) (i val : Nat) : b.keepsStores (s.setDataWord i val) := h.other

theorem State.keepsStores.evDelta (h : b.keepsStores s) (e n : Nat) : b.keepsStores (s.evDelta e n).2 := h.other

theorem State.keepsStores.ruleOp (h : b.keepsStores s) (e : Nat) (x : Thread) (i : Nat) : b.keepsStores (s.ruleOp e x i).1 := by
  unfold State.ruleOp
  extract_lets rd a b1 imm x1 sh
  split
  · exact h
  · exact h
  · exact h
  · exact h
  · exact h
  · exact h.setDataWord ..
  · exact h.evDelta ..
  · exact h
  · exact h
  · exact h
  · exact h
  · exact h
  · exact h
  · exact h
  · exact h
  · exact h
  · exact h
  · exact h
  · exact h
  · exact h
  · exact h
  · exact h
  · exact h
  · exact h
  · exact h
  · exact h
  · exact h
  · exact (h.setReg ..).record ..
  · exact h
  · exact h
  · exact h

theorem State.keepsStores.takeSnapshot (h : b.keepsStores s) : b.keepsStores s.takeSnapshot := h.other

theorem State.keepsStores.startWatch (h : b.keepsStores s) (e : Nat) : b.keepsStores (s.startWatch e) :=
  .setThread (.other (.takeSnapshot (.ite h.other h))) ..

theorem State.keepsStores.watchWaits (h : b.keepsStores s) (e : Nat) : b.keepsStores (s.watchWaits e) := .ite h h.other

theorem State.keepsStores.watchDue (h : b.keepsStores s) (e : Nat) : b.keepsStores (s.watchDue e) := by
  unfold State.watchDue
  split
  · exact h.startWatch ..
  · exact .ite ((h.watchWaits ..).startWatch ..) (h.watchWaits ..)

theorem State.keepsStores.verdictEffect (h : b.keepsStores s) (val : Nat) : b.keepsStores (s.verdictEffect val) :=
  .ite h (h.latchClass ..)

theorem State.keepsStores.watchEnd (h : b.keepsStores s) : b.keepsStores s.watchEnd := by
  have hended := (h.verdictEffect (s.thread 4).verdict).setThread 4 Thread.reset
  unfold State.watchEnd
  extract_lets s1 q s2
  refine .ite (hended.other.startWatch ..) ?_
  cases q with
  | nil => exact hended
  | cons e rest => exact hended.other.startWatch ..

theorem State.keepsStores.issueRule (h : b.keepsStores s) (at' : Nat) : b.keepsStores (s.issueRule at') := by
  unfold State.issueRule
  extract_lets x
  split
  · exact h
  · rename_i e he
    split
    rename_i u y hr
    have hu : b.keepsStores u := by
      refine .of_eq Prod.fst hr ?_
      split
      · exact h.ruleOp ..
      · exact h
    exact .ite (hu.setThread ..).watchEnd (hu.setThread ..)

theorem State.keepsStores.barrelCycle (h : b.keepsStores s) : b.keepsStores s.barrelCycle := (h.tickS ..).issueRule ..

theorem State.keepsStores.barrelN (h : b.keepsStores s) (n : Nat) : b.keepsStores (State.barrelN n s) := by
  induction n generalizing s with
  | zero => exact h
  | succ n ih => exact .ite (ih h.barrelCycle) (h.tickS ..)

theorem State.keepsStores.barrel (h : b.keepsStores s) (dt : Nat) : b.keepsStores (s.barrel dt) := h.barrelN ..

theorem State.keepsStores.ruleRow (h : b.keepsStores s) (at' op : Nat) : b.keepsStores (s.ruleRow at' op) := by
  unfold State.ruleRow
  split
  · exact .ite (h.barrel ..) h
  · exact h

theorem State.keepsStores.execRuleEnd (h : b.keepsStores s) (at' : Fin 5) : b.keepsNext (execRuleEnd at' s) :=
  .ite (.next h) (.next (h.ruleRow ..))

theorem State.keepsStores.execLdi (h : b.keepsStores s) (at' : Fin 5) : b.keepsNext (execLdi at' s) :=
  .ite (.next h) (.next (h.ruleRow ..))

theorem State.keepsStores.execLdrec (h : b.keepsStores s) (at' : Fin 5) : b.keepsNext (execLdrec at' s) :=
  .ite (.next h) (.next (h.ruleRow ..))

theorem State.keepsStores.execLdhdr (h : b.keepsStores s) (at' : Fin 5) : b.keepsNext (execLdhdr at' s) :=
  .ite (.next h) (.next (h.ruleRow ..))

theorem State.keepsStores.execLdmem (h : b.keepsStores s) (at' : Fin 5) : b.keepsNext (execLdmem at' s) :=
  .ite (.next h) (.next (h.ruleRow ..))

theorem State.keepsStores.execStmem (h : b.keepsStores s) (at' : Fin 5) : b.keepsNext (execStmem at' s) :=
  .ite (.next h) (.next (h.ruleRow ..))

theorem State.keepsStores.execLdev (h : b.keepsStores s) (at' : Fin 5) : b.keepsNext (execLdev at' s) :=
  .ite (.next h) (.next (h.ruleRow ..))

theorem State.keepsStores.execRuleAdd (h : b.keepsStores s) (at' : Fin 5) : b.keepsNext (execRuleAdd at' s) :=
  .ite (.next h) (.next (h.ruleRow ..))

theorem State.keepsStores.execRuleSub (h : b.keepsStores s) (at' : Fin 5) : b.keepsNext (execRuleSub at' s) :=
  .ite (.next h) (.next (h.ruleRow ..))

theorem State.keepsStores.execRuleAnd (h : b.keepsStores s) (at' : Fin 5) : b.keepsNext (execRuleAnd at' s) :=
  .ite (.next h) (.next (h.ruleRow ..))

theorem State.keepsStores.execRuleOr (h : b.keepsStores s) (at' : Fin 5) : b.keepsNext (execRuleOr at' s) :=
  .ite (.next h) (.next (h.ruleRow ..))

theorem State.keepsStores.execRuleXor (h : b.keepsStores s) (at' : Fin 5) : b.keepsNext (execRuleXor at' s) :=
  .ite (.next h) (.next (h.ruleRow ..))

theorem State.keepsStores.execRuleShr (h : b.keepsStores s) (at' : Fin 5) : b.keepsNext (execRuleShr at' s) :=
  .ite (.next h) (.next (h.ruleRow ..))

theorem State.keepsStores.execRuleShl (h : b.keepsStores s) (at' : Fin 5) : b.keepsNext (execRuleShl at' s) :=
  .ite (.next h) (.next (h.ruleRow ..))

theorem State.keepsStores.execRuleMin (h : b.keepsStores s) (at' : Fin 5) : b.keepsNext (execRuleMin at' s) :=
  .ite (.next h) (.next (h.ruleRow ..))

theorem State.keepsStores.execRuleMax (h : b.keepsStores s) (at' : Fin 5) : b.keepsNext (execRuleMax at' s) :=
  .ite (.next h) (.next (h.ruleRow ..))

theorem State.keepsStores.execRuleAbs (h : b.keepsStores s) (at' : Fin 5) : b.keepsNext (execRuleAbs at' s) :=
  .ite (.next h) (.next (h.ruleRow ..))

theorem State.keepsStores.execSlt (h : b.keepsStores s) (at' : Fin 5) : b.keepsNext (execSlt at' s) :=
  .ite (.next h) (.next (h.ruleRow ..))

theorem State.keepsStores.execSlti (h : b.keepsStores s) (at' : Fin 5) : b.keepsNext (execSlti at' s) :=
  .ite (.next h) (.next (h.ruleRow ..))

theorem State.keepsStores.execFlt (h : b.keepsStores s) (at' : Fin 5) : b.keepsNext (execFlt at' s) :=
  .ite (.next h) (.next (h.ruleRow ..))

theorem State.keepsStores.execFnan (h : b.keepsStores s) (at' : Fin 5) : b.keepsNext (execFnan at' s) :=
  .ite (.next h) (.next (h.ruleRow ..))

theorem State.keepsStores.execRuleFsub (h : b.keepsStores s) (at' : Fin 5) : b.keepsNext (execRuleFsub at' s) :=
  .ite (.next h) (.next (h.ruleRow ..))

theorem State.keepsStores.execFabs (h : b.keepsStores s) (at' : Fin 5) : b.keepsNext (execFabs at' s) :=
  .ite (.next h) (.next (h.ruleRow ..))

theorem State.keepsStores.execSext16 (h : b.keepsStores s) (at' : Fin 5) : b.keepsNext (execSext16 at' s) :=
  .ite (.next h) (.next (h.ruleRow ..))

theorem State.keepsStores.execSkipz (h : b.keepsStores s) (at' : Fin 5) : b.keepsNext (execSkipz at' s) :=
  .ite (.next h) (.next (h.ruleRow ..))

theorem State.keepsStores.execSkipnz (h : b.keepsStores s) (at' : Fin 5) : b.keepsNext (execSkipnz at' s) :=
  .ite (.next h) (.next (h.ruleRow ..))

theorem State.keepsStores.execVerdict (h : b.keepsStores s) (at' : Fin 5) : b.keepsNext (execVerdict at' s) :=
  .ite (.next h) (.next (h.ruleRow ..))

theorem State.keepsStores.execRuleRaise (h : b.keepsStores s) (at' : Fin 5) : b.keepsNext (execRuleRaise at' s) :=
  .ite (.next h) (.next (h.ruleRow ..))

theorem State.keepsStores.execLdevd (h : b.keepsStores s) (at' : Fin 5) : b.keepsNext (execLdevd at' s) :=
  .ite (.next h) (.next (h.ruleRow ..))

theorem State.keepsStores.execLdfrm (h : b.keepsStores s) (at' : Fin 5) : b.keepsNext (execLdfrm at' s) :=
  .ite (.next h) (.next (h.ruleRow ..))

theorem State.keepsStores.execLockstepMismatch (h : b.keepsStores s) (dt : Nat) : b.keepsNext (execLockstepMismatch dt s) :=
  .ite (.next h) (.next ((h.barrel ..).latchClass ..))

theorem State.keepsStores.execClockMonitorWindow (h : b.keepsStores s) (edges dt : Nat) :
    b.keepsNext (execClockMonitorWindow edges dt s) := by
  unfold Machine.execClockMonitorWindow
  refine .ite (.next h) ?_
  exact .ite (.next (.ite (((h.barrel ..).other).latchClass ..) ((h.barrel ..).other))) (.next (h.barrel ..))

theorem State.keepsStores.execReadbackCheck (h : b.keepsStores s) (a bs : Bool) (dt : Nat) :
    b.keepsNext (execReadbackCheck a bs dt s) := by
  unfold Machine.execReadbackCheck
  refine .ite (.next h) ?_
  extract_lets s1 bad s2 x
  have hs1 : b.keepsStores s1 := h.barrel ..
  have hs2 : b.keepsStores s2 := (hs1.setFld ..).setFld ..
  split
  · exact .ite (.next (.ite (hs2.other.latchClass ..) hs2.other)) (.next hs2)
  · exact .next hs2.other

theorem State.keepsStores.execTestPulse (h : b.keepsStores s) (lineB shown : Bool) (dt : Nat) :
    b.keepsNext (execTestPulse lineB shown dt s) := by
  unfold Machine.execTestPulse
  refine .ite (.next h) ?_
  extract_lets s1 l x s2
  have hs1 : b.keepsStores s1 := h.barrel ..
  have hs2 : b.keepsStores s2 := hs1.other
  split
  · exact .ite (.next (.ite hs2 (hs2.latchClass ..))) (.next hs1)
  · exact .next hs1

theorem State.keepsStores.execWdiEdge (h : b.keepsStores s) (dt : Nat) : b.keepsNext (execWdiEdge dt s) :=
  .ite (.next h) (.next (((h.barrel ..).other).setFld ..))

theorem State.keepsStores.execWatchdogTimeout (h : b.keepsStores s) (dt : Nat) : b.keepsNext (execWatchdogTimeout dt s) := by
  unfold Machine.execWatchdogTimeout
  refine .ite (.next h) ?_
  extract_lets s1
  have hs1 : b.keepsStores s1 := h.barrel ..
  split
  · exact .ite (.next ((hs1.setFld ..).latchClass ..)) (.next hs1)
  · exact .next hs1

theorem State.keepsStores.execSupplyMonitorFault (h : b.keepsStores s) (dt : Nat) : b.keepsNext (execSupplyMonitorFault dt s) :=
  .ite (.next h) (.next ((((h.barrel ..).other).assertStop).latchClass ..))

theorem State.keepsStores.execSafeStopDelayExpiry (h : b.keepsStores s) (dt : Nat) : b.keepsNext (execSafeStopDelayExpiry dt s) := by
  unfold Machine.execSafeStopDelayExpiry
  refine .ite (.next h) ?_
  extract_lets s1 x
  have hs1 : b.keepsStores s1 := h.barrel ..
  split
  · exact .ite (.next hs1.other.assertStop) (.next hs1)
  · exact .next hs1

theorem State.keepsStores.execPlumbEvent (h : b.keepsStores s) (dt : Nat) : b.keepsNext (execPlumbEvent dt s) := by
  unfold Machine.execPlumbEvent
  refine .ite (.next h) ?_
  extract_lets s1 x
  have hs1 : b.keepsStores s1 := h.barrel ..
  split
  · exact .next hs1
  · exact .next ((hs1.other.bump ..).setFld ..)

theorem State.keepsStores.execEventEntryRun (h : b.keepsStores s) (dt : Nat) : b.keepsNext (execEventEntryRun dt s) := by
  unfold Machine.execEventEntryRun
  refine .ite (.next h) ?_
  exact .ite (.next (.ite (((h.barrel ..).other).watchDue ..) ((h.barrel ..).other))) (.next (h.barrel ..))

theorem State.keepsStores.execFrameEntryRun (h : b.keepsStores s) (_since dt : Nat) : b.keepsNext (execFrameEntryRun _since dt s) := by
  unfold Machine.execFrameEntryRun
  refine .ite (.next h) ?_
  extract_lets s1 x
  have hs1 : b.keepsStores s1 := h.barrel ..
  split
  · exact .ite (.next (hs1.other.watchDue ..)) (.next hs1)
  · exact .next hs1

theorem State.keepsStores.execGateRecordDequeue (h : b.keepsStores s) (dt : Nat) : b.keepsNext (execGateRecordDequeue dt s) := by
  unfold Machine.execGateRecordDequeue
  refine .ite (.next h) ?_
  extract_lets s1 x x1
  have hs1 : b.keepsStores s1 := h.barrel ..
  split
  · exact .next (hs1.other.setThread ..)
  · exact .next hs1

theorem State.keepsStores.gateVerdict (h : b.keepsStores s) (at' : Nat) (x : Thread) (r : Nat) :
    b.keepsStores (s.gateVerdict at' x r) := by
  unfold State.gateVerdict
  extract_lets s1 shut s2
  have hs1 : b.keepsStores s1 := h.setThread ..
  have hs2 : b.keepsStores s2 := .ite (hs1.bump ..) (.ite (hs1.bump ..) (.ite hs1 (hs1.driveRelease ..)))
  exact hs2.verdictEffect ..

theorem State.keepsStores.execGateVerdict (h : b.keepsStores s) (dt : Nat) : b.keepsNext (execGateVerdict dt s) := by
  unfold Machine.execGateVerdict
  refine .ite (.next h) ?_
  extract_lets s1 due first
  have hs1 : b.keepsStores s1 := h.barrel ..
  clear_value first
  cases first with
  | none => exact .next hs1
  | some t => exact .next (hs1.gateVerdict ..)

theorem State.keepsStores.execGoldenStoreClear (h : b.keepsStores s) (dt : Nat) : b.keepsNext (execGoldenStoreClear dt s) :=
  .ite (.next h) (.ite (.next ((h.barrel ..).other)) (.next (h.barrel ..)))

theorem State.keepsStores.execGoldenCompare (h : b.keepsStores s) (dt : Nat) : b.keepsNext (execGoldenCompare dt s) := by
  unfold Machine.execGoldenCompare
  refine .ite (.next h) ?_
  extract_lets s1 x s2
  have hs1 : b.keepsStores s1 := h.barrel ..
  have hs2 : b.keepsStores s2 := hs1.other
  split
  · exact .next hs1
  · refine .ite ?_ (.next hs1)
    split
    · extract_lets ok s3 x1 s4 s5
      have hs3 : b.keepsStores s3 := ((hs2.setFld ..).setFld ..).bump ..
      have hs4 : b.keepsStores s4 := (hs3.bump ..).raise ..
      have hs5 : b.keepsStores s5 := hs4.foldl _ fun t _ ht => .ite (ht.faultAt ..) ht
      exact .ite (.next hs3.other) (.next (hs5.latchClass ..))

theorem State.keepsStores.pbLoadBody (h : b.keepsStores s) (c : Cmd) : b.keepsStores (pbLoadBody s c).1 := by
  unfold Machine.pbLoadBody
  split
  · exact h
  · split
    · exact h
    · extract_lets bs x
      split
      · exact h
      · split
        · exact h
        · split
          · exact h
          · exact .iteOn Prod.fst h (h.other.other.extend ..)

theorem State.keepsStores.execPbLoad (h : b.keepsStores s) (ring : BitVec 14) (d : Desc) : b.keepsNext (execPbLoad ring d s) :=
  .next (h.command (fun _ _ ht => ht.pbLoadBody ..) ..)

theorem State.keepsStores.toDm0 (h : b.keepsStores s) : b.keepsStores s.toDm0 :=
  .other (.setFld (.setFld (.setFld (.ite h ((h.setFld ..).attn ..)) ..) ..) ..)

theorem State.keepsStores.pbClearBody (h : b.keepsStores s) (x : Cmd) : b.keepsStores (pbClearBody s x).1 :=
  .iteOn Prod.fst h (.iteOn Prod.fst h.toDm0 h)

theorem State.keepsStores.execPbClear (h : b.keepsStores s) (ring : BitVec 14) (d : Desc) : b.keepsNext (execPbClear ring d s) :=
  .next (h.command (fun _ _ ht => ht.pbClearBody ..) ..)

theorem State.keepsStores.pbReleaseBody (h : b.keepsStores s) (x : Cmd) : b.keepsStores (pbReleaseBody s x).1 :=
  .iteOn Prod.fst ((((h.other.toDm0.setFld ..).setFld ..).setFld ..).bump ..) h

theorem State.keepsStores.execPbRelease (h : b.keepsStores s) (ring : BitVec 14) (d : Desc) : b.keepsNext (execPbRelease ring d s) :=
  .next (h.command (fun _ _ ht => ht.pbReleaseBody ..) ..)

/-! ## Image -/

theorem State.keepsStores.imgFlag (h : b.keepsStores s) (c desc part bs : Nat) : b.keepsStores (s.imgFlag c desc part bs) :=
  .record (.ite ((((h.setReg ..).setFld ..).setFld ..).raise ..) (((h.setReg ..).setFld ..).setFld ..)) ..

/-! ## Sched -/

theorem State.keepsStores.schedWrite (h : b.keepsStores s) (f p at' : Nat) : b.keepsStores (s.schedWrite f p at') := by
  unfold State.schedWrite
  split
  · exact h.condIn ..
  · exact h

theorem State.keepsStores.goldenStatus (h : b.keepsStores s) : b.keepsStores s.goldenStatus := by
  unfold State.goldenStatus
  split
  · exact (h.setFld ..).setFld ..
  · exact .ite ((h.setFld ..).setFld ..) ((h.setFld ..).setFld ..)

theorem State.keepsStores.goNow (h : b.keepsStores s) (at' : Nat) : b.keepsStores (s.goNow at') := .ite (h.other.setStreamState ..) h

theorem State.keepsStores.newRegions (h : b.keepsStores s) : b.keepsStores s.newRegions :=
  .ite h.other (h.other.setStow (fun hs => spWf_map _ (fun _ => rfl) (fun _ hq => mt List.map_eq_nil_iff.mp hq) hs) id)

theorem State.keepsStores.pinFrame (h : b.keepsStores s) (f : Nat) : b.keepsStores (s.pinFrame f) :=
  h.foldl _ fun _ _ ht => .ite ht.other ht

theorem State.keepsStores.plumbFrame (h : b.keepsStores s) (f : Nat) : b.keepsStores (s.plumbFrame f) := h.other

theorem State.keepsStores.frameStart (h : b.keepsStores s) (free unsynced : Bool) (at' : Nat) :
    b.keepsStores (s.frameStart free unsynced at') := by
  unfold State.frameStart
  extract_lets synced s1 s2 f s3 s4 s5 x s6 s7 s8 s9 s10 x1 s11 x2 s12
  have hs1 : b.keepsStores s1 := by
    unfold s1
    split
    · exact .ite h (h.setFld ..)
    · exact h
  have hs2 : b.keepsStores s2 := hs1.count ..
  have hs3 : b.keepsStores s3 := (hs2.setFld ..).setFld ..
  have hs4 : b.keepsStores s4 := .ite (hs3.bump ..) hs3
  have hs5 : b.keepsStores s5 := hs4.foldl _ fun t _ ht => ht.setFld ..
  have hs6 : b.keepsStores s6 := hs5.other
  have hs7 : b.keepsStores s7 := ((hs6.newRegions.record ..).pinFrame ..).plumbFrame ..
  have hs8 : b.keepsStores s8 := hs7.foldl _ fun t _ ht => ht.schedWrite ..
  have hs9 : b.keepsStores s9 := hs8.tlSync
  have hs10 : b.keepsStores s10 := hs9.goNow ..
  have hs11 : b.keepsStores s11 := .ite hs10.other hs10
  have hs12 : b.keepsStores s12 := hs11.other
  exact .ite hs12.goldenStatus hs11

theorem State.keepsStores.freeStart (h : b.keepsStores s) (at' : Nat) : b.keepsStores (s.freeStart at') :=
  .other (.frameStart (.ite h (((h.bump ..).setFlag ..).attn ..)) ..)

theorem State.keepsStores.catchFree (h : b.keepsStores s) (n : Nat) : b.keepsStores (State.catchFree n s) := by
  induction n generalizing s with
  | zero => exact h
  | succ n ih =>
    unfold State.catchFree
    split
    · exact .ite (ih (h.freeStart ..)) h
    · exact h

/-- Flits of a port that are rewritten one by one leave a port other than an idle one. -/
theorem TlPort.resync_ne_reset {x : TlPort} (hx : x ≠ TlPort.reset) (f : Nat) (unsynced : Bool) : x.resync f unsynced ≠ TlPort.reset := by
  intro he
  cases x
  simp_all [TlPort.reset, TlPort.resync]

theorem State.keepsStores.tieStart (h : b.keepsStores s) (x : FreeStart) (unsynced : Bool) : b.keepsStores (s.tieStart x unsynced) := by
  unfold State.tieStart
  extract_lets n s1 s2 s3 s4 s5 old
  have hs4 : b.keepsStores s4 := (((h.setFld ..).setFld ..).setFld ..).setFld ..
  have hs5 : b.keepsStores s5 := .ite hs4 (((hs4.setFld ..).setFld ..).setFld ..)
  have hports : b.keepsStores { s5 with tether := s5.tether.map fun q => (q.1, q.2.resync s5.frameNum unsynced) } :=
    hs5.setTether fun hs => spWf_map _ (fun _ => rfl) (fun _ hx => TlPort.resync_ne_reset hx _ _) hs
  exact hports.other

theorem State.keepsStores.syncEdge (h : b.keepsStores s) (unsynced : Bool) : b.keepsStores (s.syncEdge unsynced) := by
  unfold State.syncEdge
  refine .ite ?_ h
  extract_lets s1 now
  have hs1 : b.keepsStores s1 := h.catchFree ..
  split
  · exact .ite (hs1.tieStart ..) (.ite (hs1.frameStart ..) ((hs1.bump ..).record ..))
  · exact .ite (hs1.frameStart ..) ((hs1.bump ..).record ..)
  · exact hs1.frameStart ..

theorem State.keepsStores.execSyncEdge (h : b.keepsStores s) (dt : Nat) : b.keepsNext (execSyncEdge dt s) :=
  .ite (.next h) (.next (.ite ((h.tickA ..).syncEdge ..) (h.tickA ..)))

theorem State.keepsStores.execFreeRunFrameStart (h : b.keepsStores s) (dt : Nat) : b.keepsNext (execFreeRunFrameStart dt s) := by
  unfold Machine.execFreeRunFrameStart
  refine .ite (.next h) ?_
  extract_lets s1
  have hs1 : b.keepsStores s1 := h.tickA ..
  refine .ite ?_ (.next hs1)
  split
  · exact .ite (.next (hs1.freeStart ..)) (.next hs1)
  · exact .next hs1

theorem State.keepsStores.releaseWrites (h : b.keepsStores s) (f at' : Nat) : b.keepsStores (s.releaseWrites f at') :=
  .ite ((h.schedWrite ..).schedWrite ..) (((h.schedWrite ..).schedWrite ..).condIn ..)

theorem State.keepsStores.releaseFrame (h : b.keepsStores s) (cyc : Nat) : b.keepsStores (s.releaseFrame cyc) := by
  unfold State.releaseFrame
  extract_lets waits n x
  split
  · exact h
  · exact .releaseWrites (.other (.ite h.other ((h.other.bump ..).raise ..))) ..

theorem State.keepsStores.goldenOpened (h : b.keepsStores s) (f at' : Nat) : b.keepsStores (s.goldenOpened f at') :=
  .ite h.other.goldenStatus (.ite (h.setFld ..) h)

theorem State.keepsStores.goldenOverrun (h : b.keepsStores s) (f : Nat) : b.keepsStores (s.goldenOverrun f) := h.other

theorem State.keepsStores.execGoldenSkipDeadline (h : b.keepsStores s) (dt : Nat) : b.keepsNext (execGoldenSkipDeadline dt s) := by
  unfold Machine.execGoldenSkipDeadline
  refine .ite (.next h) ?_
  extract_lets s1 x
  have hs1 : b.keepsStores s1 := h.tickA ..
  split
  · exact .next hs1
  · exact .next (.ite hs1.other (hs1.other.condIn ..))

theorem State.keepsStores.judgeGolden (h : b.keepsStores s) (g : GoldenDue) : b.keepsStores (s.judgeGolden g) := by
  unfold State.judgeGolden
  refine .ite (h.setFld ..) ?_
  extract_lets cause n was s1 s2 s3
  have hs1 : b.keepsStores s1 := (h.setFld ..).bump ..
  have hs2 : b.keepsStores s2 := hs1.setFld ..
  have hs3 : b.keepsStores s3 := .ite hs2 (hs2.raise ..)
  exact .ite (hs3.latchClass ..) hs3

theorem State.keepsStores.execGoldenJudgement (h : b.keepsStores s) (dt : Nat) : b.keepsNext (execGoldenJudgement dt s) := by
  unfold Machine.execGoldenJudgement
  refine .ite (.next h) ?_
  extract_lets s1 x
  have hs1 : b.keepsStores s1 := h.tickA ..
  split
  · exact .next hs1
  · exact .ite (.next (.goldenStatus (.ite (hs1.other.judgeGolden ..) hs1.other))) (.next hs1)

/-! ## Tether -/

theorem State.keepsStores.tlWrite (h : b.keepsStores s) (p : Nat) (f : Flit) : b.keepsStores (s.tlWrite p f) := by
  unfold State.tlWrite
  extract_lets part off a x
  refine .ite ((h.violation ..).bump ..) ?_
  exact .ite (h.bump ..) (.ite (.ite (h.setTlPort ..) (h.landUnit ..)) ((h.violation ..).bump ..))

theorem State.keepsStores.tlMarker (h : b.keepsStores s) (p : Nat) (f : Flit) : b.keepsStores (s.tlMarker p f) :=
  (h.setTlPort ..).tlArrive ..

theorem State.keepsStores.tlSyncIn (h : b.keepsStores s) (p : Nat) (f : Flit) : b.keepsStores (s.tlSyncIn p f) :=
  .ite (((h.setFld ..).setFld ..).syncEdge ..) ((h.setFld ..).setFld ..)

theorem State.keepsStores.tlRelease (h : b.keepsStores s) (p : Nat) (f : Flit) : b.keepsStores (s.tlRelease p f) := by
  unfold State.tlRelease
  split
  · exact h.tlWrite ..
  · exact h.tlMarker ..
  · exact h.tlSyncIn ..
  · exact h

theorem State.keepsStores.tlAcked (h : b.keepsStores s) (p a : Nat) : b.keepsStores (s.tlAcked p a) := .ite ((h.setTlPort ..).tlPump ..) h

theorem State.keepsStores.tlAnswer (h : b.keepsStores s) (p : Nat) (retry : Bool) : b.keepsStores (s.tlAnswer p retry) := h.setTlPort ..

theorem State.keepsStores.tlFaults (h : b.keepsStores s) (p bad : Nat) (crcOk : Bool) : b.keepsStores (s.tlFaults p bad crcOk) :=
  .ite ((h.foldl _ fun _ _ ht => ht.faultAt ..).faultAt ..) (h.foldl _ fun _ _ ht => ht.faultAt ..)

theorem State.keepsStores.tlAccept (h : b.keepsStores s) (p : Nat) (f : Flit) : b.keepsStores (s.tlAccept p f) := by
  unfold State.tlAccept
  extract_lets x retried s1 s2 s3 due x1
  have hs1 : b.keepsStores s1 := h.setTlPort ..
  have hs2 : b.keepsStores s2 := hs1.tlAnswer ..
  have hs3 : b.keepsStores s3 := .ite (hs2.bump ..) hs2
  exact .ite (.ite (hs3.tlRelease ..) (hs3.setTlPort ..)) (hs2.tlRelease ..)

theorem State.keepsStores.tlReceive (h : b.keepsStores s) (p kind : Nat) (hdr : BitVec 128) (payload : BitVec 512) (crc : BitVec 32)
    (bad : BitVec 8) : b.keepsStores (s.tlReceive p kind hdr payload crc bad) := by
  unfold State.tlReceive
  refine .ite ?_ h
  extract_lets ok s1 x s2 x1
  have hs1 : b.keepsStores s1 := h.tlFaults ..
  have hs2 : b.keepsStores s2 := hs1.tlAcked ..
  exact .ite ((hs1.setTlPort ..).tlAnswer ..) (.ite hs1 (.ite (hs2.tlAccept ..) ((hs2.setTlPort ..).tlAnswer ..)))

theorem State.keepsStores.execDataFlit (h : b.keepsStores s) (p : TetherPort) (hdr : BitVec 128) (payload : BitVec 512)
    (crc : BitVec 32) (bad : BitVec 8) (dt : Nat) : b.keepsNext (execDataFlit p hdr payload crc bad dt s) :=
  .ite (.next h) (.next ((h.tickTl ..).tlReceive ..))

theorem State.keepsStores.execMarkerFlit (h : b.keepsStores s) (p : TetherPort) (hdr : BitVec 128) (payload : BitVec 512)
    (crc : BitVec 32) (bad : BitVec 8) (dt : Nat) : b.keepsNext (execMarkerFlit p hdr payload crc bad dt s) :=
  .ite (.next h) (.next ((h.tickTl ..).tlReceive ..))

theorem State.keepsStores.execSyncFlit (h : b.keepsStores s) (p : TetherPort) (hdr : BitVec 128) (payload : BitVec 512)
    (crc : BitVec 32) (bad : BitVec 8) (dt : Nat) : b.keepsNext (execSyncFlit p hdr payload crc bad dt s) :=
  .ite (.next h) (.next ((h.tickTl ..).tlReceive ..))

theorem State.keepsStores.tlResend (h : b.keepsStores s) (p : Nat) : b.keepsStores (s.tlResend p) := (h.setTlPort ..).bump ..

theorem State.keepsStores.execAckFlit (h : b.keepsStores s) (p : TetherPort) (hdr : BitVec 128) (payload : BitVec 512) (crc : BitVec 32)
    (bad : BitVec 8) (dt : Nat) : b.keepsNext (execAckFlit p hdr payload crc bad dt s) := by
  unfold Machine.execAckFlit
  refine .ite (.next h) ?_
  extract_lets s1 ok s2 s3
  have hs1 : b.keepsStores s1 := h.tickTl ..
  have hs2 : b.keepsStores s2 := hs1.tlFaults ..
  have hs3 : b.keepsStores s3 := hs2.tlAcked ..
  exact .ite (.ite (.next (hs2.tlAnswer ..)) (.ite (.next hs2) (.next (.ite (hs3.tlResend ..) hs3)))) (.next hs1)

theorem State.keepsStores.execTestFlit (h : b.keepsStores s) (p : TetherPort) (clean : Nat) (hdr : BitVec 128) (payload : BitVec 512)
    (crc : BitVec 32) (bad : BitVec 8) (dt : Nat) : b.keepsNext (execTestFlit p clean hdr payload crc bad dt s) :=
  .ite (.next h) (.ite (.next (((h.tickTl ..).setTlPort ..).tlFaults ..)) (.next (h.tickTl ..)))

theorem State.keepsStores.execFlitRelease (h : b.keepsStores s) (p : TetherPort) (dt : Nat) : b.keepsNext (execFlitRelease p dt s) := by
  unfold Machine.execFlitRelease
  refine .ite (.next h) ?_
  extract_lets s1 x
  have hs1 : b.keepsStores s1 := h.tickTl ..
  split
  · exact .next hs1
  · exact .ite (.next ((hs1.setTlPort ..).tlRelease ..)) (.next hs1)

theorem State.keepsStores.tlTrain (h : b.keepsStores s) (p id dev meas : Nat) : b.keepsStores (s.tlTrain p id dev meas) :=
  (((((h.setFld ..).setFld ..).setFld ..).setFlag ..).setTlPort ..).tlPump ..

theorem State.keepsStores.tlDown (h : b.keepsStores s) (p : Nat) : b.keepsStores (s.tlDown p) :=
  .ite (h.setFld ..) ((h.setFld ..).setTlPort ..)

theorem State.keepsStores.execTetherLinkDown (h : b.keepsStores s) (p : TetherPort) (dt : Nat) :
    b.keepsNext (execTetherLinkDown p dt s) := .ite (.next h) (.next (.ite ((h.tickTl ..).tlDown ..) (h.tickTl ..)))

theorem State.keepsStores.execLaneRetrain (h : b.keepsStores s) (p : TetherPort) (meas : BitVec 11) (dt : Nat) :
    b.keepsNext (execLaneRetrain p meas dt s) := by
  unfold Machine.execLaneRetrain
  refine .ite (.next h) ?_
  extract_lets s1 l s2
  have hs1 : b.keepsStores s1 := h.tickTl ..
  have hs2 : b.keepsStores s2 := ((hs1.setFlag ..).setFld ..).setFld ..
  exact .ite (.ite (.next (hs1.tlDown ..)) (.ite (.next (hs2.tlDown ..)) (.next (hs2.tlTrain ..)))) (.next hs1)

theorem State.keepsStores.tlRetrainBody (h : b.keepsStores s) (meas : Nat) (c : Cmd) : b.keepsStores (tlRetrainBody meas s c).1 :=
  .iteOn Prod.fst h ((((h.setFld ..).setFld ..).setFld ..).tlTrain ..)

theorem State.keepsStores.execTlRetrain (h : b.keepsStores s) (ring : BitVec 14) (d : Desc) (meas : BitVec 11) :
    b.keepsNext (execTlRetrain ring d meas s) := .next (h.command (fun _ _ ht => ht.tlRetrainBody ..) ..)

/-! ## Transfer -/

theorem State.keepsStores.runHead (h : b.keepsStores s) (c at' : Nat) : b.keepsStores (s.runHead c at') := by
  unfold State.runHead
  split
  · exact h
  · extract_lets x
    split <;> exact h.setQueue ..

theorem State.keepsStores.moveIssue (h : b.keepsStores s) (c sl at' : Nat) : b.keepsStores (s.moveIssue c sl at') :=
  .ite h (.ite ((h.moveStart ..).runHead ..) (h.moveStart ..))

theorem State.keepsStores.takeLost (h : b.keepsStores s) (a : Nat) : b.keepsStores (s.takeLost a).2 := .iteOn Prod.snd (h.setChan ..) h

theorem State.keepsStores.readPlain (h : b.keepsStores s) (part a at' : Nat) : b.keepsStores (s.readPlain part a at').2 :=
  .iteOn Prod.snd (.iteOn Prod.snd (h.takeLost ..) h) (h.violation ..)

theorem State.keepsStores.readCodecLine (h : b.keepsStores s) (part l : Nat) (signed : Bool) :
    b.keepsStores (s.readCodecLine part l signed).2.2 := .iteOn (Prod.snd ∘ Prod.snd) (h.takeLost ..) (h.violation ..)

theorem State.keepsStores.readImage (h : b.keepsStores s) (at' : Transfer) (d tile g : Nat) :
    b.keepsStores (s.readImage at' d tile g).2 := by
  unfold State.readImage
  extract_lets desc u s1 s2 s3
  have hs1 : b.keepsStores s1 := .ite (h.imgFlag ..) h
  have hs2 : b.keepsStores s2 := .ite (hs1.imgFlag ..) hs1
  have hs3 : b.keepsStores s3 := by
    unfold s3
    split
    · exact hs2.violation ..
    · exact hs2
  exact .iteOn Prod.snd h hs3

theorem State.keepsStores.readUnit (h : b.keepsStores s) (x : Transfer) (k at' : Nat) : b.keepsStores (s.readUnit x k at').2 := by
  unfold State.readUnit
  split
  · exact h
  · exact h
  · split
    · exact .iteOn Prod.snd (h.readImage ..) h
    · exact .iteOn Prod.snd h (h.readPlain ..)

theorem State.keepsStores.readLine (h : b.keepsStores s) (x : Transfer) (k at' : Nat) : b.keepsStores (s.readLine x k at').2 := by
  unfold State.readLine
  extract_lets code
  clear_value code
  cases code with
  | none => exact h.readUnit ..
  | some v => exact .iteOn Prod.snd h (h.readCodecLine ..)

theorem State.keepsStores.storeEdge (h : b.keepsStores s) (a at' : Nat) : b.keepsStores (s.storeEdge a at') := by
  unfold State.storeEdge
  refine .ite (.ite ((h.noteEdge ..).engFlag ..) (h.noteEdge ..)) ?_
  exact .ite ((h.noteEdge ..).foldl _ fun t _ ht => ht.vecFlags ..) h

theorem State.keepsStores.storeUnit (h : b.keepsStores s) (a : Nat) (unit : MoveUnit) (at' : Nat) :
    b.keepsStores (s.storeUnit a unit at') := .ite (h.landUnit ..) ((((h.storeEdge ..).wrBytes ..).setPoisonAt ..).setPoisonAt ..)

theorem State.keepsStores.writePlain (h : b.keepsStores s) (part a : Nat) (unit : MoveUnit) (at' : Nat) :
    b.keepsStores (s.writePlain part a unit at') := by
  unfold State.writePlain
  refine .ite ?_ (h.violation ..)
  refine .ite ?_ (.ite (h.violation ..) (h.storeUnit ..))
  split
  · exact h.storeUnit ..
  · exact h.violation ..
  · exact h.stStageWrite

theorem State.keepsStores.writeBroadcast (h : b.keepsStores s) (x : Transfer) (vc mask row : Nat) (unit : MoveUnit) (at' : Nat) :
    b.keepsStores (s.writeBroadcast x vc mask row unit at') := .ite (h.foldl _ fun _ _ ht => ht.writePlain ..) (h.violation ..)

theorem State.keepsStores.writeGolden (h : b.keepsStores s) (o : Nat) (unit : MoveUnit) : b.keepsStores (s.writeGolden o unit) := h.other

theorem State.keepsStores.writeUnit (h : b.keepsStores s) (x : Transfer) (k : Nat) (unit : MoveUnit) (at' : Nat) :
    b.keepsStores (s.writeUnit x k unit at') := by
  unfold State.writeUnit
  split
  · exact h
  · exact h
  · extract_lets a
    refine .ite (.ite ((h.storeEdge ..).wrBytes ..) (h.violation ..)) ?_
    refine .ite (h.violation ..) ?_
    split
    · exact h.writeBroadcast ..
    · split
      · exact .ite (h.tlData ..) (h.violation ..)
      · exact .ite (h.writeGolden ..) (h.writePlain ..)

theorem State.keepsStores.writeCodecLine (h : b.keepsStores s) (part bs : Nat) (signed : Bool) (unit val : MoveUnit) :
    b.keepsStores (s.writeCodecLine part bs signed unit val) := .ite (h.landUnit ..) (h.violation ..)

theorem State.keepsStores.writeLine (h : b.keepsStores s) (x : Transfer) (k : Nat) (us : List MoveUnit) (at' : Nat) :
    b.keepsStores (s.writeLine x k us at') := by
  unfold State.writeLine
  split
  · split
    · exact .ite h (h.writeCodecLine ..)
    · exact h
  · exact h.foldl _ fun t _ ht => ht.writeUnit ..

theorem State.keepsStores.underTags (h : b.keepsStores s) {f : State → State} (hf : ∀ t, b.keepsStores t → b.keepsStores (f t))
    (x : Transfer) : b.keepsStores (s.underTags x f) := by
  unfold State.underTags
  split
  · exact hf _ h
  · exact (hf _ h.other).other

theorem State.keepsStores.moveSpan (h : b.keepsStores s) (x : Transfer) (k n at' : Nat) : b.keepsStores (s.moveSpan x k n at') :=
  (h.worked ..).underTags (fun _ ht => ht.foldl _ fun _ _ hu => (hu.readUnit ..).writeUnit ..) ..

theorem State.keepsStores.moveDue (h : b.keepsStores s) (c at' : Nat) : b.keepsStores (s.moveDue c at') := by
  unfold State.moveDue
  split
  · exact h
  · exact .ite h ((h.moveSpan ..).setQueue ..)

theorem State.keepsStores.movesBefore (h : b.keepsStores s) (c at' : Nat) : b.keepsStores (s.movesBefore c at') := by
  unfold State.movesBefore
  refine .ite h ?_
  extract_lets s1
  have hs1 : b.keepsStores s1 := h.countMoves ..
  refine .foldl hs1 _ fun t x ht => ?_
  split
  · exact .ite (ht.moveDue ..) ht
  · exact ht

theorem State.keepsStores.movesIn (h : b.keepsStores s) (c at' : Nat) : b.keepsStores (s.movesIn c at') := by
  unfold State.movesIn
  split
  · exact .ite ((h.countMoves ..).moveDue ..) h
  · exact h

theorem State.keepsStores.moveWhole (h : b.keepsStores s) (at' : Transfer) : b.keepsStores (s.moveWhole at') := by
  unfold State.moveWhole
  extract_lets s1 s2 s3 s4 bad s5 s6
  have hs1 : b.keepsStores s1 := .ite (h.violation ..) h
  have hs2 : b.keepsStores s2 := .ite (hs1.violation ..) hs1
  have hs3 : b.keepsStores s3 := by
    unfold s3
    split
    · exact .ite (.ite (hs2.imgFlag ..) hs2) (hs2.violationOf ..)
    · exact hs2
  have hs4 : b.keepsStores s4 := .ite (hs3.violation ..) hs3
  have hs5 : b.keepsStores s5 := by
    unfold s5
    unfold bad
    split
    · refine .ite ?_ ?_
      · refine .violation ?_ ..
        split
        · exact .ite (hs4.violation ..) hs4
        · exact hs4
      · split
        · exact .ite (hs4.violation ..) hs4
        · exact hs4
    · split
      · exact .ite (hs4.violation ..) hs4
      · exact hs4
  have hs6 : b.keepsStores s6 := .ite (hs5.imgFlag ..) hs5
  refine .ite ?_ hs6
  split
  · exact hs6.bump ..
  · exact hs6

theorem State.keepsStores.lotMoved (h : b.keepsStores s) (at' : Transfer) (l : Nat) : b.keepsStores (s.lotMoved at' l) := by
  unfold State.lotMoved
  split
  · exact .ite (.ite (h.lotFromDdr ..) (.ite (h.lotFromLot ..) (h.lotWritten ..))) h
  · exact .ite (h.lotWritten ..) h
  · exact h

theorem State.keepsStores.lotHomed (h : b.keepsStores s) (at' : Transfer) (l : Nat) : b.keepsStores (s.lotHomed at' l) := by
  unfold State.lotHomed
  split
  · exact .ite (h.lotHome ..) h
  · exact h

theorem State.keepsStores.moveLots (h : b.keepsStores s) (at' : Transfer) : b.keepsStores (s.moveLots at') := by
  unfold State.moveLots
  extract_lets outOf into s1 s2
  have hs1 : b.keepsStores s1 := h.foldl _ fun t _ ht => ht.lotMoved ..
  have hs2 : b.keepsStores s2 := hs1.foldl _ fun t _ ht => ht.lotHomed ..
  exact hs2.foldl _ fun t _ ht => .ite (ht.touch ..) ht

theorem State.keepsStores.moveComplete (h : b.keepsStores s) (c : Nat) (x : Transfer) : b.keepsStores (s.moveComplete c x) := by
  unfold State.moveComplete
  extract_lets now s1 s2 s3
  have hs1 : b.keepsStores s1 := h.moveWhole ..
  have hs2 : b.keepsStores s2 := .ite hs1 ((hs1.moveSpan ..).moveSpan ..)
  have hs3 : b.keepsStores s3 := hs2.underTags (fun t ht => ht.moveLots ..) ..
  exact (hs3.popQueue ..).runHead ..

theorem State.keepsStores.execTransferComplete (h : b.keepsStores s) (c : CoreId) (dt : Nat) :
    b.keepsNext (execTransferComplete c dt s) := by
  unfold Machine.execTransferComplete
  refine .ite (.next h) ?_
  extract_lets s1
  have hs1 : b.keepsStores s1 := (h.tickA ..).countMoves ..
  split
  · exact .next hs1
  · exact .ite (.next hs1) (.next (hs1.moveComplete ..))

theorem State.keepsStores.execLinkTimeoutExpiry (h : b.keepsStores s) (p : TetherPort) (dt : Nat) :
    b.keepsNext (execLinkTimeoutExpiry p dt s) := by
  unfold Machine.execLinkTimeoutExpiry
  refine .ite (.next h) ?_
  extract_lets s1 x t isData s2 s3
  have hs1 : b.keepsStores s1 := h.tickTl ..
  have hs2 : b.keepsStores s2 := hs1.bump ..
  have hs3 : b.keepsStores s3 := hs2.setTlPort ..
  refine .ite (.next hs1) ?_
  exact .ite (.next (hs3.foldl _ fun t _ ht => .ite ht (((ht.bump ..).popQueue ..).runHead ..))) (.next hs1)

/-! ## Vector -/

theorem State.keepsStores.vecRead (h : b.keepsStores s) (c part slot u n at' : Nat) :
    b.keepsStores (s.vecRead c part slot u n at').2.2 := by
  obtain ⟨tagOf, htagOf⟩ : ∃ f, f = State.tagOf := ⟨_, rfl⟩
  unfold State.vecRead
  rw [← htagOf]
  refine .foldlOn (fun x : Nat × Bool × State => x.2.2) h _ fun acc k hacc => ?_
  obtain ⟨v, p, t⟩ := acc
  have ht : b.keepsStores t := hacc
  dsimp only
  split
  · exact ht.vecFlags c part slot flPLAN_REGION
  · exact .iteOn (fun x : Nat × Bool × State => x.2.2) (.ite (ht.stowFlag F.MT_STATUS_EARLY_READ 1 c part slot) ht)
      (ht.violation part _)

theorem State.keepsStores.vecStart (h : b.keepsStores s) (c part slot u at' : Nat) (bs : List Byte) (p : Bool) (w : Nat)
    (bins : List Nat) : b.keepsStores (s.vecStart c part slot u at' bs p w bins) := by
  refine .foldl h _ fun t k ht => ?_
  extract_lets +onlyGivenNames a
  generalize t.tagOf a = tag
  cases tag with
  | plan => exact ht.vecFlags ..
  | part o rd => exact .ite ((ht.setVec ..).lotWritten ..) (ht.violation ..)
  | unassigned => exact .ite ((ht.setVec ..).lotWritten ..) (ht.violation ..)

theorem State.keepsStores.histBoundary (h : b.keepsStores s) (c : Nat) : b.keepsStores (s.histBoundary c) := .ite h (h.setVec ..)

theorem State.keepsStores.vecBegin (h : b.keepsStores s) (c : Nat) : b.keepsStores (s.vecBegin c) := h.setVec ..

theorem State.keepsStores.bfStep (h : b.keepsStores s) (c fmt vlen a : Nat) (p : Bool) : b.keepsStores (s.bfStep c fmt vlen a p) :=
  h.setVec ..

theorem State.keepsStores.vecCycle (h : b.keepsStores s) (c : Nat) (x : VecSlice) (k n at' : Nat) :
    b.keepsStores (s.vecCycle c x k n at') := by
  unfold State.vecCycle
  refine .ite h ?_
  extract_lets s1 i j sh aB outB
  have hs1 : b.keepsStores s1 := .ite (h.vecBegin ..) h
  refine .ite hs1 ?_
  split
  rename_i acc v p t hr
  have ht : b.keepsStores t := .of_eq (Prod.snd ∘ Prod.snd) hr (hs1.vecRead ..)
  split
  rename_i acc1 v1 p1 t1 hr1
  have ht1 : b.keepsStores t1 := .of_eq (Prod.snd ∘ Prod.snd) hr1 (ht.vecRead ..)
  split
  rename_i acc2 v2 p2 t2 hr2
  have ht2 : b.keepsStores t2 := .of_eq (Prod.snd ∘ Prod.snd) hr2 (ht1.vecRead ..)
  extract_lets p3 v3 skipped
  split
  · extract_lets s2 s3 s4 s5 s6 v4 rs s7 bins x1 s8 bins1
    have hs2 : b.keepsStores s2 := ht2.vecFlags ..
    have hs3 : b.keepsStores s3 := hs2.worked ..
    have hs4 : b.keepsStores s4 := .ite ((hs3.bump ..).worked ..) hs3
    have hs5 : b.keepsStores s5 := hs4.vecFlags ..
    have hs6 : b.keepsStores s6 := hs5.bfStep ..
    have hs7 : b.keepsStores s7 := hs6.vecFlags ..
    have hs8 : b.keepsStores s8 := .ite (hs4.setVec ..) hs4
    refine .ite (.ite (hs7.vecStart ..) hs6) ?_
    split
    rename_i x2 t3 n1 hr3
    have ht3 : b.keepsStores t3 := .of_eq Prod.fst hr3 (.iteOn Prod.fst hs8 hs8.fresh)
    exact ht3.vecStart ..

theorem State.keepsStores.vecRestore (h : b.keepsStores s) (c : Nat) : b.keepsStores (s.vecRestore c) := h.setVec ..

/-! ## Array -/

theorem State.keepsStores.engRead (h : b.keepsStores s) (n part slot row at' : Nat) : b.keepsStores (s.engRead n part slot row at').2.2 :=
  .iteOn (Prod.snd ∘ Prod.snd) (.ite (h.stowFlag ..) h) (h.violation ..)

theorem State.keepsStores.engReadTrans (h : b.keepsStores s) (n part slot block col at' : Nat) :
    b.keepsStores (s.engReadTrans n part slot block col at').2.2 := by
  refine .foldlOn (fun x : Nat × Bool × State => x.2.2) h _ fun acc _ hacc => ?_
  exact State.keepsStores.engRead (s := acc.2.2) hacc ..

theorem State.keepsStores.retire (h : b.keepsStores s) (n : Nat) (x : EngSlice) (at' : Nat) : b.keepsStores (s.retire n x at') := by
  unfold State.retire
  extract_lets e s1 s2 s3 s4 s5
  have hs1 : b.keepsStores s1 := .ite (h.engFlag ..) h
  have hs2 : b.keepsStores s2 := .ite ((hs1.bump ..).engFlag ..) hs1
  have hs3 : b.keepsStores s3 := .ite (hs2.engFlag ..) hs2
  have hs4 : b.keepsStores s4 := .ite (hs3.raise ..) hs3
  have hs5 : b.keepsStores s5 := .ite (hs4.engFlag ..) hs4
  exact .ite (hs5.setEngine ..) h

theorem State.keepsStores.drainCycle (h : b.keepsStores s) (n at' : Nat) : b.keepsStores (s.drainCycle n at') := by
  unfold State.drainCycle
  extract_lets e d a lost s1
  have hs1 : b.keepsStores s1 := h.setEngine ..
  exact .ite h (.ite (hs1.engFlag ..) (.ite ((hs1.noteEdge ..).wrMarked ..) (hs1.violation ..)))

theorem State.keepsStores.engBegin (h : b.keepsStores s) (n : Nat) (x : EngSlice) (at' : Nat) : b.keepsStores (s.engBegin n x at') := by
  unfold State.engBegin
  extract_lets s1 s2 e e1 e2
  have hs1 : b.keepsStores s1 := h.setEngine ..
  have hs2 : b.keepsStores s2 := .ite (hs1.retire ..) hs1
  exact .ite (hs2.setEngine ..) (.ite ((hs2.setEngine ..).engFlag ..) (hs2.setEngine ..))

theorem State.keepsStores.engCycle (h : b.keepsStores s) (n : Nat) (x : EngSlice) (k len at' : Nat) :
    b.keepsStores (s.engCycle n x k len at') := by
  obtain ⟨read, hread, row⟩ : ∃ f, f = State.engRead ∧ ∀ {t : State}, b.keepsStores t → ∀ n part slot row at',
      b.keepsStores (f t n part slot row at').2.2 := ⟨_, rfl, fun ht => ht.engRead⟩
  obtain ⟨trans, htrans, column⟩ : ∃ f, f = State.engReadTrans ∧ ∀ {t : State}, b.keepsStores t → ∀ n part slot block col at',
      b.keepsStores (f t n part slot block col at').2.2 := ⟨_, rfl, fun ht => ht.engReadTrans⟩
  unfold State.engCycle
  rw [← hread, ← htrans]
  extract_lets s1 e poisoned E ph s2 e1
  have hs1 : b.keepsStores s1 := .worked (.ite (h.engBegin ..) h) ..
  have hs2 : b.keepsStores s2 := by
    refine .ite ((row hs1 ..).setEngine ..) (.ite hs1 (.ite ?_ ?_))
    · split
      rename_i e2 t hr
      have ht : b.keepsStores t := .of_eq Prod.snd hr (.iteOn Prod.snd (row hs1 ..) hs1)
      split
      rename_i e3 t1 hr1
      have ht1 : b.keepsStores t1 := .of_eq Prod.snd hr1 (.iteOn Prod.snd (row ht ..) ht)
      exact ht1.setEngine ..
    · split
      rename_i v p t2 hr2
      have ht2 : b.keepsStores t2 := .of_eq (Prod.snd ∘ Prod.snd) hr2 (row hs1 ..)
      split
      rename_i v1 p1 t3 hr3
      have ht3 : b.keepsStores t3 := .of_eq (Prod.snd ∘ Prod.snd) hr3 (.iteOn (Prod.snd ∘ Prod.snd) (column ht2 ..) (row ht2 ..))
      exact ht3.setEngine ..
  exact .ite (hs2.setEngine ..) hs2

theorem State.keepsStores.coreCycle (h : b.keepsStores s) (c sl k len at' : Nat) : b.keepsStores (s.coreCycle c sl k len at') := by
  unfold State.coreCycle
  extract_lets x s1 s2 s3 s4 s5
  have hs1 : b.keepsStores s1 := (h.movesBefore ..).settleVec ..
  have hs2 : b.keepsStores s2 := .ite (hs1.histBoundary ..) hs1
  have hs3 : b.keepsStores s3 := hs2.foldl _ fun t _ ht => ht.engCycle ..
  have hs4 : b.keepsStores s4 := hs3.vecCycle ..
  have hs5 : b.keepsStores s5 := hs4.foldl _ fun t _ ht => ht.drainCycle ..
  exact hs5.movesIn ..

theorem State.keepsStores.engStatus (h : b.keepsStores s) (n : Nat) : b.keepsStores (s.engStatus n).2 := by
  unfold State.engStatus
  split
  rename_i x v t hr
  have ht : b.keepsStores t := .of_eq Prod.snd hr (h.readReg ..)
  exact ht

theorem State.keepsStores.coreRun (h : b.keepsStores s) (c sl k0 n len at' : Nat) : b.keepsStores (s.coreRun c sl k0 n len at') :=
  h.foldl _ fun _ _ ht => ht.coreCycle ..

/-! ## Plan -/

theorem State.keepsStores.windowStatus (h : b.keepsStores s) : b.keepsStores s.windowStatus := by
  unfold State.windowStatus
  split <;> exact (h.setFld ..).setFld ..

theorem State.keepsStores.debtsWaiting (h : b.keepsStores s) : b.keepsStores s.debtsWaiting := .ite (h.raiseHold ..) h

theorem State.keepsStores.claimsChange (h : b.keepsStores s) : b.keepsStores s.claimsChange :=
  ((h.countMoves ..).holdRefs ..).foldl _ fun _ _ ht => .ite (ht.setChan ..) ht

theorem State.keepsStores.closeWindow (h : b.keepsStores s) (id : Nat) : b.keepsStores (s.closeWindow id) :=
  .debtsWaiting (.windowStatus (.ite h.claimsChange.other.other h.claimsChange.other))

theorem State.keepsStores.stopStream (h : b.keepsStores s) (st : Stream) (state : Nat) : b.keepsStores (s.stopStream st state) := by
  unfold State.stopStream
  extract_lets x s1 s2 x1 s3 s4 x2 s5
  have hs1 : b.keepsStores s1 := (h.setStream ..).setStreamState ..
  have hs2 : b.keepsStores s2 := .ite (hs1.clearHold ..) hs1
  have hs3 : b.keepsStores s3 := hs2.other
  have hs4 : b.keepsStores s4 := hs2.claimsChange
  have hs5 : b.keepsStores s5 := hs4.other
  split
  · exact hs3.restartsDone
  · exact hs5.windowStatus

theorem State.keepsStores.planFault (h : b.keepsStores s) (st : Stream) (cause bs : Nat) : b.keepsStores (s.planFault st cause bs) := by
  unfold State.planFault
  extract_lets s1 x s2 detail s3 s4
  have hs1 : b.keepsStores s1 := (((h.setFld ..).setFld ..).setFld ..).setFld ..
  have hs2 : b.keepsStores s2 := hs1.other
  have hs3 : b.keepsStores s3 := (hs2.stopStream ..).raise ..
  have hs4 : b.keepsStores s4 := .ite (hs3.stopStream ..) hs3
  split
  · exact (hs2.stopStream ..).raise ..
  · exact hs4.latchClass ..

theorem State.keepsStores.noteOverrun (h : b.keepsStores s) : b.keepsStores s.noteOverrun := by
  unfold State.noteOverrun
  refine .ite h ?_
  split
  · exact h
  · refine .ite ?_ h
    extract_lets x s1 s2
    have hs1 : b.keepsStores s1 := h.other
    have hs2 : b.keepsStores s2 := hs1.bump ..
    split
    · exact .ite (hs2.goldenOverrun ..) hs2
    · exact hs2

theorem State.keepsStores.publishBit (h : b.keepsStores s) (bs at' : Nat) : b.keepsStores (s.publishBit bs at') := by
  unfold State.publishBit
  extract_lets s1 s2 s3 s4
  have hs1 : b.keepsStores s1 := h.seqPublish ..
  have hs2 : b.keepsStores s2 := by
    unfold s2
    split
    · exact hs1.flip ..
    · exact hs1.flip ..
    · exact hs1
  have hs3 : b.keepsStores s3 := hs2.tvPublishBit ..
  have hs4 : b.keepsStores s4 := .ite hs3.stPropPublish hs3
  exact .ite (.ite hs4.stUpdPublish hs4) hs3

theorem State.keepsStores.beginBundle (h : b.keepsStores s) (st : Stream) (bs : Bundle) (at' : Nat) :
    b.keepsStores (s.beginBundle st bs at') := by
  unfold State.beginBundle
  extract_lets x s1 x1 s2 x2 s3 waits s4
  have hs1 : b.keepsStores s1 := h.setStream ..
  have hs2 : b.keepsStores s2 := .ite hs1 hs1.other
  have hs3 : b.keepsStores s3 := by
    unfold s3
    split
    · exact .ite hs2.other hs2
    · exact hs1
  have hs4 : b.keepsStores s4 := hs3.foldl _ fun t _ ht => .ite ht.other (ht.queueSlot ..)
  exact hs4.foldl _ fun t _ ht => .ite (ht.moveIssue ..) ht

theorem State.keepsStores.runBundle (h : b.keepsStores s) (st : Stream) (bs : Bundle) (k0 n at' : Nat) :
    b.keepsStores (s.runBundle st bs k0 n at') := h.foldl _ fun _ _ ht => .ite (ht.coreRun ..) ht

theorem State.keepsStores.endBundle (h : b.keepsStores s) (st : Stream) (bs : Bundle) (at' : Nat) :
    b.keepsStores (s.endBundle st bs at') := by
  unfold State.endBundle
  split
  · extract_lets x s1 s2 s3 s4 next x1 s5
    have hs1 : b.keepsStores s1 := h.other
    have hs2 : b.keepsStores s2 := hs1.foldl _ fun t _ ht => ht.publishBit ..
    have hs3 : b.keepsStores s3 := .ite (hs2.markerSend ..) hs2
    have hs4 : b.keepsStores s4 := .ite (hs3.closeWindow ..) hs3
    have hs5 : b.keepsStores s5 := hs4.setStream ..
    exact .ite (hs5.stopStream ..) (.ite hs5 (hs5.planFault ..))

theorem State.keepsStores.issueCycles (h : b.keepsStores s) (st : Stream) (bs : Bundle) (n : Nat) :
    b.keepsStores (s.issueCycles st bs n) := by
  unfold State.issueCycles
  extract_lets x now m s1 s2 y s3
  have hs1 : b.keepsStores s1 := .ite (h.beginBundle ..) h
  have hs2 : b.keepsStores s2 := hs1.runBundle ..
  have hs3 : b.keepsStores s3 := hs2.setStream ..
  exact .ite h (.ite (hs3.endBundle ..) hs3)

theorem State.keepsStores.idleStream (h : b.keepsStores s) (st : Stream) : b.keepsStores (s.idleStream st) := h.setStream ..

theorem State.keepsStores.fillBlocked (h : b.keepsStores s) (bs : Bundle) (reg : Bool) : b.keepsStores (s.fillBlocked bs reg) :=
  .ite ((h.setStream ..).setStreamState ..) ((h.other.setStreamState ..).idleStream ..)

theorem State.keepsStores.startCheck (h : b.keepsStores s) (st : Stream) (kind : Nat) : b.keepsStores (s.startCheck st kind).1 := by
  unfold State.startCheck
  extract_lets x b1 fc x1 s1
  have hs1 : b.keepsStores s1 := by
    unfold s1
    split
    · exact h.other.setStreamState ..
    · exact h
  split
  · exact h
  · split
    · split
      · dsimp only
        exact h.stopStream ..
      · split
        · dsimp only
          exact (h.raiseHold ..).idleStream ..
        · split
          · dsimp only
            exact h.planFault ..
          · split
            · exact h
            · split
              · exact h
              · split
                · exact h.fillBlocked ..
                · split
                  · exact h.fillBlocked ..
                  · split
                    · split
                      · dsimp only
                        exact hs1.idleStream ..
                      · dsimp only
                        exact (hs1.raiseHold ..).idleStream ..
                    · exact hs1
    · split
      · dsimp only
        exact h.stopStream ..
      · split
        · dsimp only
          exact (h.raiseHold ..).idleStream ..
        · split
          · dsimp only
            exact h.planFault ..
          · split
            · exact h
            · split
              · exact h
              · split
                · exact h.fillBlocked ..
                · split
                  · exact h.fillBlocked ..
                  · split
                    · split
                      · dsimp only
                        exact hs1.idleStream ..
                      · dsimp only
                        exact (hs1.raiseHold ..).idleStream ..
                    · exact hs1

theorem State.keepsStores.issueRow (h : b.keepsStores s) {act : State → Bundle → State} (hact : ∀ t x, b.keepsStores t → b.keepsStores
    (act t x)) (st : Stream) (kind dt : Nat) : b.keepsStores (s.issueRow st kind dt act) := by
  have hpass := h.passA dt
  have hcheck := hpass.noteOverrun.startCheck st kind
  exact .ite (.ite hpass.noteOverrun.settleAll (.ite (hact _ _ hcheck).settleAll hcheck.settleAll)) hpass.settleAll

theorem State.keepsStores.execNormal (h : b.keepsStores s) (st : Stream) (dt n : Nat) : b.keepsNext (execNormal st dt n s) :=
  .ite (.next h) (.next (h.issueRow (fun _ _ ht => ht.issueCycles ..) ..))

theorem State.keepsStores.execFrameWait (h : b.keepsStores s) (dt : Nat) : b.keepsNext (execFrameWait dt s) := by
  unfold Machine.execFrameWait
  refine .ite (.next h) ?_
  refine .next ?_
  refine .issueRow h (fun t _ ht => ?_) ..
  split
  · exact ht
  · exact .ite (((ht.beginBundle ..).releaseFrame ..).endBundle ..) ht

theorem State.keepsStores.issueAt (h : b.keepsStores s) (bs : Bundle) (at' : Nat) : b.keepsStores (s.issueAt bs at') :=
  (h.setStream ..).issueCycles ..

theorem State.keepsStores.execAnchor (h : b.keepsStores s) (dt : Nat) : b.keepsNext (execAnchor dt s) :=
  .ite (.next h) (.next (h.issueRow (fun _ _ ht => .ite (ht.issueAt ..) ht) ..))

theorem State.keepsStores.abandon (h : b.keepsStores s) (cores at' : Nat) : b.keepsStores (s.abandon cores at') := by
  unfold State.abandon
  extract_lets x b1 s1 keep lc x1 s2
  have hs1 : b.keepsStores s1 := by
    unfold s1
    refine .foldl h _ fun t x2 ht => ?_
    exact .ite (ht.foldl _ fun u _ hu => hu.setEngine ..) ((ht.foldl _ fun u _ hu => hu.setEngine ..).vecRestore ..)
  have hs2 : b.keepsStores s2 := hs1.other
  exact .ite ((hs2.bump ..).record ..) h

theorem State.keepsStores.execPlanOpen (h : b.keepsStores s) (dt : Nat) : b.keepsNext (execPlanOpen dt s) := by
  unfold Machine.execPlanOpen
  refine .ite (.next h) ?_
  refine .next ?_
  refine .issueRow h (fun t _ ht => ?_) ..
  extract_lets t1 s1 s2 golden x s3 s4 s5 x1 s6
  have hs1 : b.keepsStores s1 := ht.abandon ..
  have hs2 : b.keepsStores s2 := hs1.claimsChange
  have hs3 : b.keepsStores s3 := hs2.other
  have hs4 : b.keepsStores s4 := hs3.windowStatus
  have hs5 : b.keepsStores s5 := by
    unfold s5
    split
    · exact hs4.goldenOpened ..
    · exact hs4
  have hs6 : b.keepsStores s6 := .ite hs5.other hs4
  exact .ite ht (.ite (ht.planFault ..) (.ite ht (hs6.issueAt ..)))

theorem State.keepsStores.execPlanClose (h : b.keepsStores s) (dt n : Nat) : b.keepsNext (execPlanClose dt n s) :=
  .ite (.next h) (.next (h.issueRow (fun _ _ ht => .ite (ht.issueCycles ..) (ht.planFault ..)) ..))

theorem State.keepsStores.consumeMarkers (h : b.keepsStores s) (bs : Bundle) : b.keepsStores (s.consumeMarkers bs) := h.other

theorem State.keepsStores.markerCame (h : b.keepsStores s) (st : Stream) : b.keepsStores (s.markerCame st) :=
  .ite h (.ite ((h.setStream ..).clearHold ..) (h.setStream ..))

theorem State.keepsStores.execMarkerWait (h : b.keepsStores s) (st : Stream) (dt n : Nat) : b.keepsNext (execMarkerWait st dt n s) := by
  unfold Machine.execMarkerWait
  refine .ite (.next h) ?_
  extract_lets b1 s1
  have hs1 : b.keepsStores s1 := .ite ((h.passA ..).markerCame ..) (h.passA ..)
  refine .next ?_
  refine .issueRow hs1 (fun t _ ht => ?_) ..
  exact .ite (ht.issueCycles ..) (.ite ((ht.consumeMarkers ..).issueCycles ..) ((ht.setStream ..).raiseHold ..))

theorem State.keepsStores.execMarkerWaitExpiry (h : b.keepsStores s) (st : Stream) (dt : Nat) :
    b.keepsNext (execMarkerWaitExpiry st dt s) := by
  unfold Machine.execMarkerWaitExpiry
  refine .ite (.next h) ?_
  extract_lets s1
  have hs1 : b.keepsStores s1 := h.tickA ..
  split
  · exact .next hs1
  · exact .ite (.next (hs1.planFault ..)) (.next hs1)

theorem State.keepsStores.execPlanEnd (h : b.keepsStores s) (st : Stream) (dt : Nat) : b.keepsNext (execPlanEnd st dt s) :=
  .ite (.next h) (.next (h.issueRow (fun _ _ ht => ht.stopStream ..) ..))

theorem State.keepsStores.debtsPaid (h : b.keepsStores s) : b.keepsStores s.debtsPaid := h.foldl _ fun _ _ ht => .ite ht (ht.refresh ..)

theorem State.keepsStores.execPlanHoldEnd (h : b.keepsStores s) (dt : Nat) : b.keepsNext (execPlanHoldEnd dt s) := by
  unfold Machine.execPlanHoldEnd
  refine .ite (.next h) ?_
  extract_lets s1
  have hs1 : b.keepsStores s1 := h.tickA ..
  split
  · exact .next hs1
  · exact .next (.foldl (.ite hs1.debtsPaid hs1) _ fun t _ ht => ht.clearHold ..)

theorem State.keepsStores.execCondWriteVisible (h : b.keepsStores s) (dt : Nat) : b.keepsNext (execCondWriteVisible dt s) := by
  unfold Machine.execCondWriteVisible
  refine .ite (.next h) ?_
  extract_lets s1 x
  have hs1 : b.keepsStores s1 := h.tickA ..
  split
  · exact .next hs1
  · extract_lets s2
    have hs2 : b.keepsStores s2 := hs1.other.condNow ..
    refine .next ?_
    split
    · exact hs2.finish ..
    · exact hs2

theorem State.keepsStores.frameGo (h : b.keepsStores s) : b.keepsStores s.frameGo := .ite h.other h

theorem State.keepsStores.fillGo (h : b.keepsStores s) : b.keepsStores s.fillGo := .ite (h.other.setStreamState ..) h

theorem State.keepsStores.fillStop (h : b.keepsStores s) : b.keepsStores s.fillStop := .ite (.ite h.other (h.stopStream ..)) h

theorem State.keepsStores.stopBoth (h : b.keepsStores s) : b.keepsStores s.stopBoth :=
  .ite (.ite h.fillStop.other.other (h.fillStop.other.stopStream ..)) h.fillStop.other

theorem State.keepsStores.debugEn (h : b.keepsStores s) (val : Bool) : b.keepsStores (s.debugEn val) :=
  .ite (h.setFld ..) (((h.setFld ..).other).clearHold ..)

theorem State.keepsStores.debugHold (h : b.keepsStores s) : b.keepsStores s.debugHold := .ite (h.raiseHold ..) h

theorem State.keepsStores.debugStep (h : b.keepsStores s) : b.keepsStores s.debugStep := .ite h.other h

theorem State.keepsStores.execFrameGo (h : b.keepsStores s) (p : PartId) : b.keepsNext (execFrameGo p s) :=
  .ite (.next h) (.next (.ite h.frameGo h))

theorem State.keepsStores.execFillGo (h : b.keepsStores s) (p : PartId) : b.keepsNext (execFillGo p s) :=
  .ite (.next h) (.next (.ite h.fillGo h))

theorem State.keepsStores.execFillStop (h : b.keepsStores s) (p : PartId) : b.keepsNext (execFillStop p s) :=
  .ite (.next h) (.next (.ite h.fillStop h))

theorem State.keepsStores.execPlanStop (h : b.keepsStores s) (p : PartId) : b.keepsNext (execPlanStop p s) :=
  .ite (.next h) (.next (.ite h.stopBoth h))

theorem State.keepsStores.execDebugEn (h : b.keepsStores s) (p : PartId) (val : Bool) : b.keepsNext (execDebugEn p val s) :=
  .ite (.next h) (.next (.ite (h.debugEn ..) h))

theorem State.keepsStores.execDebugHold (h : b.keepsStores s) (p : PartId) : b.keepsNext (execDebugHold p s) :=
  .ite (.next h) (.next (.ite h.debugHold h))

theorem State.keepsStores.execDebugStep (h : b.keepsStores s) (p : PartId) : b.keepsNext (execDebugStep p s) :=
  .ite (.next h) (.next (.ite h.debugStep h))

theorem State.keepsStores.popHoldLog (h : b.keepsStores s) : b.keepsStores s.popHoldLog.2 := by
  unfold State.popHoldLog
  extract_lets lost x
  split <;> exact h.other

theorem State.keepsStores.execPlHoldLogRead (h : b.keepsStores s) : b.keepsNext (execPlHoldLogRead s) :=
  .ite (.next h) (.next h.popHoldLog)

theorem State.keepsStores.popErrLog (h : b.keepsStores s) (ch : Nat) : b.keepsStores (s.popErrLog ch).2 := by
  unfold State.popErrLog
  extract_lets d lost
  split <;> exact h.setChan ..

theorem State.keepsStores.sliceRow (h : b.keepsStores s) (c sl n : Nat) : b.keepsStores (s.sliceRow c sl n) :=
  .ite (h.planFault ..) (.ite h (((h.coreRun ..).passA ..).settleAll))

theorem State.keepsStores.moveRow (h : b.keepsStores s) (c sl : Nat) : b.keepsStores (s.moveRow c sl) :=
  .ite (h.planFault ..) (.ite h (h.moveIssue ..))

theorem State.keepsStores.execMove (h : b.keepsStores s) (c : CoreId) (sl : SliceBits) : b.keepsNext (execMove c sl s) :=
  .ite (.next h) (.next (h.moveRow ..))

theorem State.keepsStores.execSegmentLoad (h : b.keepsStores s) (c : CoreId) (sl : SliceBits) : b.keepsNext (execSegmentLoad c sl s) :=
  .ite (.next h) (.next (h.moveRow ..))

theorem State.keepsStores.execDrainRowWrite (h : b.keepsStores s) (n : EngineId) : b.keepsNext (execDrainRowWrite n s) :=
  .ite (.next h) (.ite (.next (((h.passA ..).drainCycle ..).settleAll)) (.next h))

theorem State.keepsStores.execVecHistClear (h : b.keepsStores s) (c : CoreId) (p : PartId) : b.keepsNext (execVecHistClear c p s) :=
  .ite (.next h) (.ite (.next (h.setVec ..)) (.next h))

/-! ## Power -/

theorem State.keepsStores.estimate (h : b.keepsStores s) : b.keepsStores s.estimate := h.other

theorem State.keepsStores.execPowerEstimate (h : b.keepsStores s) (_prot : List Nat) (_fill : List Nat) (dt : Nat) :
    b.keepsNext (execPowerEstimate _prot _fill dt s) := .ite (.next h) (.next ((h.tickF ..).estimate))

theorem State.keepsStores.execRailMeasurement (h : b.keepsStores s) (r : Fin 8) (mV mA : Nat) (limit : Bool) :
    b.keepsNext (execRailMeasurement r mV mA limit s) :=
  .ite (.next h) (.next (.other (.ite (.other (.ite (h.setFld ..) h)) (.ite (h.setFld ..) h))))

theorem State.keepsStores.calibrate (h : b.keepsStores s) : b.keepsStores s.calibrate :=
  ((h.foldl _ fun _ _ ht => (ht.setFld ..).setFld ..).setFld ..).other

theorem State.keepsStores.execCalibrationUpdate (h : b.keepsStores s) (dt : Nat) : b.keepsNext (execCalibrationUpdate dt s) :=
  .ite (.next h) (.next (.ite ((h.tickF ..).calibrate) (h.tickF ..)))

theorem State.keepsStores.throttleHold (h : b.keepsStores s) (reasons : Nat) : b.keepsStores (s.throttleHold reasons) :=
  (h.raiseHold ..).foldl _ fun _ _ ht => ht.count ..

theorem State.keepsStores.setReasons (h : b.keepsStores s) (val : Nat) : b.keepsStores (s.setReasons val) :=
  .ite h ((h.setFld ..).record ..)

theorem State.keepsStores.execThrottleHoldRequest (h : b.keepsStores s) (dt : Nat) : b.keepsNext (execThrottleHoldRequest dt s) := by
  unfold Machine.execThrottleHoldRequest
  refine .ite (.next h) ?_
  extract_lets s1 x
  have hs1 : b.keepsStores s1 := h.tickF ..
  split
  · exact .next hs1
  · exact .ite (.next (hs1.other.throttleHold ..)) (.next hs1)

theorem State.keepsStores.execDroop (h : b.keepsStores s) (mV dt : Nat) : b.keepsNext (execDroop mV dt s) := by
  unfold Machine.execDroop
  refine .ite (.next h) ?_
  extract_lets s1 now reasons s2 again x s3 x1
  have hs1 : b.keepsStores s1 := h.tickF ..
  have hs2 : b.keepsStores s2 := hs1.setReasons ..
  have hs3 : b.keepsStores s3 := hs2.other
  exact .ite (.ite (.next (hs3.throttleHold ..)) (.next hs2)) (.next hs1.other)

theorem State.keepsStores.controlTick (h : b.keepsStores s) : b.keepsStores s.controlTick := by
  unfold State.controlTick
  extract_lets p n s1 s2 cap budget keep dLast phase c thermal input d reasons unmet at' s3 s4 s5
  have hs1 : b.keepsStores s1 := h.foldl _ fun _ _ ht => .ite (ht.setFld ..) ((ht.setFld ..).setFld ..)
  have hs2 : b.keepsStores s2 := by
    unfold s2
    split
    · exact hs1.setFld ..
    · exact hs1
  have hs4 : b.keepsStores s4 := (hs2.other.setFld ..).setFld ..
  exact .setReasons (.ite (hs4.setFlag ..) hs4) ..

theorem State.keepsStores.execControlTick (h : b.keepsStores s) (temp : Byte) (dt : Nat) : b.keepsNext (execControlTick temp dt s) :=
  .ite (.next h) (.ite (.next (((h.tickF ..).setFld ..).controlTick)) (.next (h.tickF ..)))

theorem State.keepsStores.execPwLearnSelWrite (h : b.keepsStores s) (phase : Byte) : b.keepsNext (execPwLearnSelWrite phase s) :=
  .ite (.next h) (.next (((h.setFld ..).setFld ..).setFld ..))

theorem State.keepsStores.pwSetCapBody (h : b.keepsStores s) (c : Cmd) : b.keepsStores (pwSetCapBody s c).1 :=
  .iteOn Prod.fst h (.iteOn Prod.fst h h.other)

theorem State.keepsStores.execPwSetCap (h : b.keepsStores s) (ring : BitVec 14) (d : Desc) : b.keepsNext (execPwSetCap ring d s) :=
  .next (h.command (fun _ _ ht => ht.pwSetCapBody ..) ..)

theorem State.keepsStores.coreOff (h : b.keepsStores s) : b.keepsStores s.coreOff :=
  (((h.stopStream ..).stopStream ..).other).foldl _ fun _ _ ht => ht.setChan ..

theorem State.keepsStores.execThermalShutdown (h : b.keepsStores s) (temp : Byte) : b.keepsNext (execThermalShutdown temp s) :=
  .ite (.next (((((h.setFld ..).other).coreOff).assertStop).latchClass ..)) (.next (h.setFld ..))

theorem State.keepsStores.execHoldupReady (h : b.keepsStores s) (vbank : BitVec 9) : b.keepsNext (execHoldupReady vbank s) :=
  .ite (.next h) (.next ((h.setFld ..).setFld ..))

theorem State.keepsStores.savePage (h : b.keepsStores s) : b.keepsStores s.savePage :=
  ((((h.setFld ..).setFld ..).setFld ..).setFld ..).setFld ..

theorem State.keepsStores.startSave (h : b.keepsStores s) : b.keepsStores s.startSave :=
  (((h.other.setFld ..).coreOff).assertStop).latchClass ..

theorem State.keepsStores.execVinSag (h : b.keepsStores s) (vin : BitVec 13) (us : Nat) : b.keepsNext (execVinSag vin us s) := by
  unfold Machine.execVinSag
  refine .ite (.next h) ?_
  extract_lets s1 x
  have hs1 : b.keepsStores s1 := h.setFld ..
  exact .ite (.ite (.next hs1.other) (.ite (.next hs1.startSave) (.next hs1))) (.next hs1)

theorem State.keepsStores.execSaveComplete (h : b.keepsStores s) : b.keepsNext (execSaveComplete s) := by
  unfold Machine.execSaveComplete
  split
  · exact .next h
  · exact .next (((h.other.setFld ..).setFld ..).savePage)

theorem State.keepsStores.restoreLot (h : b.keepsStores s) (l w : Nat) (bs : List (Nat × Byte)) :
    b.keepsStores (s.restoreLot l w bs) := by
  unfold State.restoreLot
  extract_lets a s1 s2 s3 x
  have hs1 : b.keepsStores s1 := h.clearRange ..
  have hs2 : b.keepsStores s2 := hs1.foldl _ fun t _ ht => ht.wrByte ..
  have hs3 : b.keepsStores s3 := .ite (hs2.markRange ..) hs2
  exact hs3.setLot ..

theorem State.keepsStores.pwRestoreBody (h : b.keepsStores s) (x : Cmd) : b.keepsStores (pwRestoreBody s x).1 := by
  unfold Machine.pwRestoreBody
  split
  · exact h
  · split
    · exact h
    · split
      · exact h
      · exact .iteOn Prod.fst h ((((h.foldl _ fun t _ ht => ht.restoreLot ..).setFld ..).record ..).extend ..)

theorem State.keepsStores.execPwRestore (h : b.keepsStores s) (ring : BitVec 14) (d : Desc) : b.keepsNext (execPwRestore ring d s) :=
  .next (h.command (fun _ _ ht => ht.pwRestoreBody ..) ..)

theorem State.keepsStores.pwSaveClearBody (h : b.keepsStores s) (x : Cmd) : b.keepsStores (pwSaveClearBody s x).1 := h.other.savePage

theorem State.keepsStores.execPwSaveClear (h : b.keepsStores s) (ring : BitVec 14) (d : Desc) : b.keepsNext (execPwSaveClear ring d s) :=
  .next (h.command (fun _ _ ht => ht.pwSaveClearBody ..) ..)

/-! ## Book -/

theorem State.keepsStores.bookUrgency (h : b.keepsStores s) : b.keepsStores s.bookUrgency := h.setFld ..

theorem State.keepsStores.loseRecord (h : b.keepsStores s) (acyc : Nat) : b.keepsStores (s.loseRecord acyc) :=
  (h.other.bump ..).setFlag ..

theorem State.keepsStores.stageRecord (h : b.keepsStores s) (r : BookRec) : b.keepsStores (s.stageRecord r) :=
  .ite (h.loseRecord ..) h.other

theorem State.keepsStores.bookRoom (h : b.keepsStores s) (k n : Nat) : b.keepsStores (State.bookRoom k s n) := by
  induction k generalizing s with
  | zero => exact h
  | succ k ih =>
    unfold State.bookRoom
    split
    · exact h
    · exact .ite h (ih ((h.other.count ..).setFld ..))

theorem State.keepsStores.writeRecord (h : b.keepsStores s) (raw : List Byte) : b.keepsStores (s.writeRecord raw) := by
  unfold State.writeRecord
  extract_lets rec n s1 pos bs whole start room s2 s3 s4 s5 s6 x
  have hs1 : b.keepsStores s1 := h.bookRoom ..
  have hs2 : b.keepsStores s2 := hs1.wrMarked ..
  have hs3 : b.keepsStores s3 := .ite (hs2.wrMarked ..) hs2
  have hs4 : b.keepsStores s4 := .ite (hs3.count ..) hs3
  have hs5 : b.keepsStores s5 := (hs4.count ..).setFld ..
  have hs6 : b.keepsStores s6 := (hs5.count ..).classLines ..
  exact hs6.other

theorem State.keepsStores.flushRecord (h : b.keepsStores s) (raw : List Byte) : b.keepsStores (s.flushRecord raw) :=
  .ite (h.loseRecord ..) (.writeRecord (.ite h ((h.other.writeRecord ..).bump ..)) ..)

theorem State.keepsStores.flushBook (h : b.keepsStores s) (n : Nat) : b.keepsStores (State.flushBook n s) := by
  induction n generalizing s with
  | zero => exact h
  | succ n ih =>
    unfold State.flushBook
    split
    · exact h
    · exact .ite h (ih (h.other.flushRecord ..))

theorem State.keepsStores.execFbRecordRelease (h : b.keepsStores s) (dt : Nat) : b.keepsNext (execFbRecordRelease dt s) := by
  unfold Machine.execFbRecordRelease
  refine .ite (.next h) ?_
  extract_lets s1 x s2
  have hs1 : b.keepsStores s1 := h.tickA ..
  have hs2 : b.keepsStores s2 := by
    unfold s2
    split
    · exact hs1
    · exact .ite (hs1.other.stageRecord ..) hs1
  exact .next ((hs2.queueOpens.flushBook ..).bookUrgency)

theorem State.keepsStores.goLive (h : b.keepsStores s) : b.keepsStores s.goLive :=
  (((h.setFld ..).foldl _ fun _ _ ht => .ite (ht.setPartState ..) ht).frameGo).fillGo

theorem State.keepsStores.replayGo (h : b.keepsStores s) : b.keepsStores s.replayGo := by
  unfold State.replayGo
  split
  · exact h
  · refine .ite h ?_
    split
    · exact .ite h.goLive h
    · exact h

theorem State.keepsStores.replayEnd (h : b.keepsStores s) (why : Nat) : b.keepsStores (s.replayEnd why) := by
  unfold State.replayEnd
  split
  · exact h
  · exact ((h.other.setFld ..).clearHold ..).finish ..

theorem State.keepsStores.fbReplayBody (h : b.keepsStores s) (c : Cmd) : b.keepsStores (fbReplayBody s c).1 := by
  unfold Machine.fbReplayBody
  extract_lets base len h1 r x x1 x2 s1
  have hs1 : b.keepsStores s1 := h.other
  split
  · exact h
  · exact .iteOn Prod.fst h (.iteOn Prod.fst h (.iteOn Prod.fst h (.iteOn Prod.fst h ((hs1.setFld ..).replayGo))))

theorem State.keepsStores.execFbReplay (h : b.keepsStores s) (ring : BitVec 14) (d : Desc) : b.keepsNext (execFbReplay ring d s) :=
  .next (h.command (fun _ _ ht => ht.fbReplayBody ..) ..)

theorem State.keepsStores.fbStopBody (h : b.keepsStores s) (x : Cmd) : b.keepsStores (fbStopBody s x).1 := h.replayEnd ..

theorem State.keepsStores.execFbStop (h : b.keepsStores s) (ring : BitVec 14) (d : Desc) : b.keepsNext (execFbStop ring d s) :=
  .next (h.command (fun _ _ ht => ht.fbStopBody ..) ..)

theorem State.keepsStores.execFaultLeak (h : b.keepsStores s) (site : BitVec 12) (dt : Nat) : b.keepsNext (execFaultLeak site dt s) :=
  .ite (.next h) (.next (.ite ((h.tickB ..).setSite ..) (h.tickB ..)))

theorem State.keepsStores.execFbFaultSelWrite (h : b.keepsStores s) (site : BitVec 12) : b.keepsNext (execFbFaultSelWrite site s) :=
  .ite (.next h) (.next (h.setReg ..))

/-! ## Trailhead -/

theorem State.keepsStores.mapBlock (h : b.keepsStores s) (ch k bs kind part ctx : Nat) :
    b.keepsStores (s.mapBlock ch k bs kind part ctx) := h.setWmap ..

theorem State.keepsStores.thMapBody (h : b.keepsStores s) (c : Cmd) : b.keepsStores (thMapBody s c).1 :=
  .iteOn Prod.fst h (.iteOn Prod.fst h (.iteOn Prod.fst h (h.foldl _ fun _ _ ht => ht.mapBlock ..)))

theorem State.keepsStores.thUnmapBody (h : b.keepsStores s) (c : Cmd) : b.keepsStores (thUnmapBody s c).1 :=
  .iteOn Prod.fst h (.iteOn Prod.fst h (h.foldl _ fun _ _ ht => ht.setWmap ..))

theorem State.keepsStores.thMapEither (h : b.keepsStores s) (c : Cmd) : b.keepsStores (thMapEither s c).1 :=
  .iteOn Prod.fst (h.thUnmapBody ..) (h.thMapBody ..)

theorem State.keepsStores.execThMap (h : b.keepsStores s) (ring : BitVec 14) (d : Desc) : b.keepsNext (execThMap ring d s) :=
  .next (.ite h (h.command (fun _ _ ht => ht.thMapEither ..) ..))

theorem State.keepsStores.execThUnmap (h : b.keepsStores s) (ring : BitVec 14) (d : Desc) : b.keepsNext (execThUnmap ring d s) :=
  .next (.ite (h.command (fun _ _ ht => ht.thMapEither ..) ..) h)

theorem State.keepsStores.setFilling (h : b.keepsStores s) (ch k val : Nat) : b.keepsStores (s.setFilling ch k val) := h.setFld ..

theorem State.keepsStores.thStageBody (h : b.keepsStores s) (c : Cmd) : b.keepsStores (thStageBody s c).1 :=
  .iteOn Prod.fst h (.iteOn Prod.fst h ((h.foldl _ fun _ _ ht => ht.setFilling ..).other))

theorem State.keepsStores.execThStage (h : b.keepsStores s) (ring : BitVec 14) (d : Desc) : b.keepsNext (execThStage ring d s) :=
  .next (h.command (fun _ _ ht => ht.thStageBody ..) ..)

theorem State.keepsStores.stageLine (h : b.keepsStores s) (g : Stage) (k : Nat) : b.keepsStores (s.stageLine g k) := by
  unfold State.stageLine
  extract_lets a
  split
  · exact h
  · exact h.wrMarked ..

theorem State.keepsStores.execThStageFillComplete (h : b.keepsStores s) (i : Nat) : b.keepsNext (execThStageFillComplete i s) := by
  unfold Machine.execThStageFillComplete
  refine .ite (.next h) ?_
  split
  · exact .next h
  · extract_lets s1 bad s2 s3 s4 rest x s5 still s6
    have hs1 : b.keepsStores s1 := h.queueOpens
    have hs2 : b.keepsStores s2 := hs1.foldl _ fun t _ ht => ht.stageLine ..
    have hs3 : b.keepsStores s3 := hs2.foldl _ fun t _ ht => ht.setChan ..
    have hs4 : b.keepsStores s4 := hs3.classLines ..
    have hs5 : b.keepsStores s5 := hs4.other
    have hs6 : b.keepsStores s6 := hs5.foldl _ fun t _ ht => .ite ht (ht.setFilling ..)
    exact .ite (.next (hs6.finish ..)) (.next hs1)

theorem State.keepsStores.thStreamOpenBody (h : b.keepsStores s) (c : Cmd) : b.keepsStores (thStreamOpenBody s c).1 := by
  unfold Machine.thStreamOpenBody
  extract_lets i base len first n cond free live v s1 x s2 s3
  have hs1 : b.keepsStores s1 := h.setReg ..
  have hs2 : b.keepsStores s2 := hs1.setWstream ..
  have hs3 : b.keepsStores s3 := ((hs2.setFld ..).setFld ..).setFld ..
  exact .iteOn Prod.fst h (.iteOn Prod.fst h (.iteOn Prod.fst h (hs3.clearRange ..)))

theorem State.keepsStores.execThStreamOpen (h : b.keepsStores s) (ring : BitVec 14) (d : Desc) :
    b.keepsNext (execThStreamOpen ring d s) :=
  .next (h.command (body := Machine.thStreamOpenBody) (fun _ c ht => ht.thStreamOpenBody c) ..)

theorem State.keepsStores.streamClosed (h : b.keepsStores s) (i : Nat) : b.keepsStores (s.streamClosed i) := by
  unfold State.streamClosed
  extract_lets w s1
  have hs1 : b.keepsStores s1 := h.streamFree ..
  split
  · exact h
  · refine .ite ?_ h
    split
    · exact hs1.finish ..
    · exact hs1

theorem State.keepsStores.thStreamCloseBody (h : b.keepsStores s) (c : Cmd) : b.keepsStores (thStreamCloseBody s c).1 :=
  .iteOn Prod.fst (.iteOn Prod.fst h ((h.streamStop ..).streamClosed ..)) h

theorem State.keepsStores.execThStreamClose (h : b.keepsStores s) (ring : BitVec 14) (d : Desc) :
    b.keepsNext (execThStreamClose ring d s) := .next (h.command (fun _ _ ht => ht.thStreamCloseBody ..) ..)

theorem State.keepsStores.streamDrain (h : b.keepsStores s) (i : Nat) (bad : Bool) : b.keepsStores (s.streamDrain i bad) := by
  unfold State.streamDrain
  extract_lets b1 a stage bs bad1 p s1 s2 s3 s4 w s5 s6 s7
  have hs1 : b.keepsStores s1 := h.clearRange ..
  have hs2 : b.keepsStores s2 := .ite ((hs1.landUnit ..).classLines ..) (hs1.violation ..)
  have hs3 : b.keepsStores s3 := (hs2.setFld ..).setFld ..
  have hs4 : b.keepsStores s4 := hs3.attn ..
  have hs5 : b.keepsStores s5 := hs4.setWstream ..
  have hs6 : b.keepsStores s6 := .ite (.ite (hs5.digestRecord ..) hs5) (hs4.record ..)
  have hs7 : b.keepsStores s7 := .ite (hs6.condWrite ..) hs6
  exact hs7.streamClosed ..

theorem State.keepsStores.execStreamDrainLine (h : b.keepsStores s) (i : BitVec 7) (bad : Bool) :
    b.keepsNext (execStreamDrainLine i bad s) := .ite (.next h) (.next (.ite ((h.queueOpens.tookOpen ..).streamDrain ..) h.queueOpens))

theorem State.keepsStores.execHostAttnHoldoffEnd (h : b.keepsStores s) : b.keepsNext (execHostAttnHoldoffEnd s) :=
  .ite (.next h) (.next h.other.updateAttn)

/-! ## Commit -/

theorem State.keepsStores.applyRec (h : b.keepsStores s) (r : Nat) : b.keepsStores (s.applyRec r) := by
  unfold State.applyRec
  refine .ite ?_ h
  refine .ite (h.wrMarked ..) ?_
  split
  · exact h.setReg ..
  · exact h

theorem State.keepsStores.uncommit (h : b.keepsStores s) : b.keepsStores s.uncommit := by
  refine h.setRegs fun hs => spWf_filterMap _ (fun e e' he => ?_) (fun e e' hv he => ?_) hs
  · split at he
    · obtain ⟨-, he⟩ := Option.ite_none_left_eq_some.mp he
      exact Option.some.inj he ▸ rfl
    · exact Option.some.inj he ▸ rfl
  · split at he
    · obtain ⟨hne, he⟩ := Option.ite_none_left_eq_some.mp he
      exact Option.some.inj he ▸ hne
    · exact Option.some.inj he ▸ hv

theorem State.keepsStores.proposal (h : b.keepsStores s) (recs : List Nat) : b.keepsStores (s.proposal recs) :=
  (h.uncommit.foldl _ fun _ _ ht => ht.applyRec ..).other

theorem State.commitLots_wf (s : State) : spWf Lot.reset s.commitLots = true := spWf_spTabulate _ _

theorem State.keepsStores.commitLots (h : b.keepsStores s) : b.keepsStores { s with stow := { s.stow with lots := s.commitLots } } := by
  have hwf := s.commitLots_wf
  generalize s.commitLots = lots at hwf ⊢
  exact h.setStow id fun _ => hwf

theorem State.keepsStores.clearUnowned (h : b.keepsStores s) : b.keepsStores s.clearUnowned :=
  h.foldl _ fun _ _ ht => .ite ht (ht.setFld ..)

theorem State.keepsStores.startSequencers (h : b.keepsStores s) : b.keepsStores s.startSequencers :=
  h.foldl _ fun _ _ ht => .ite (ht.setSequencer ..) ht

theorem State.keepsStores.restPins (h : b.keepsStores s) : b.keepsStores s.restPins := h.foldl _ fun _ _ ht => .ite (ht.setPin ..) ht

theorem State.keepsStores.keepEntries (ht : b.keepsStores t) : b.keepsStores (s.keepEntries t) := .ite ((ht.setReg ..).setReg ..) ht

theorem State.keepsStores.commitPower (h : b.keepsStores s) : b.keepsStores s.commitPower := h.other.setFld ..

theorem State.keepsStores.startBook (h : b.keepsStores s) : b.keepsStores s.startBook := .ite ((h.setFld ..).record ..) h

theorem State.keepsStores.commitApply (ht : b.keepsStores t) (s : State) : b.keepsStores (s.commitApply t) := by
  unfold State.commitApply
  extract_lets stow sched bring t1 t2 t3 t4 plumb t5
  have ht1 : b.keepsStores t1 := ht.commitLots.other
  have ht2 : b.keepsStores t2 := (ht1.setFlag ..).setFlag ..
  have ht3 : b.keepsStores t3 := .ite (ht2.setFlag ..) ht2
  have ht4 : b.keepsStores t4 := .ite (ht3.setFlag ..) ht3
  have ht5 : b.keepsStores t5 := .ite ht4.other ht4
  exact (ht5.keepEntries ..).tvPlace.clearUnowned.startSequencers.restPins.commitPower.startBook

theorem State.keepsStores.commit (h : b.keepsStores s) (hr : s.commit = .ok t) : b.keepsStores t := by
  unfold State.commit at hr
  split at hr
  · extract_lets recs u at hr
    split at hr
    · contradiction
    · exact Except.ok.inj hr ▸ (h.proposal ..).commitApply ..
  · contradiction

theorem State.keepsStores.commitReport (h : b.keepsStores s) (bs : Bad) : b.keepsStores (s.commitReport bs) := h.setReg ..

/-! ## Bring -/

theorem State.keepsStores.stepRefuse (h : b.keepsStores s) (seq : Nat) : b.keepsStores (s.stepRefuse seq) :=
  ((h.setFld ..).setFld ..).attn ..

theorem State.keepsStores.stepAccept (h : b.keepsStores s) (step seq : Nat) : b.keepsStores (s.stepAccept step seq) :=
  ((h.other.setFld ..).setFld ..).attn ..

theorem State.keepsStores.stepDone (h : b.keepsStores s) (fail : Option (Nat × Nat)) : b.keepsStores (s.stepDone fail) := by
  unfold State.stepDone
  extract_lets step s1 s2
  have hs1 : b.keepsStores s1 := (h.setFld ..).setFld ..
  have hs2 : b.keepsStores s2 := by
    unfold s2
    split
    · exact (hs1.setFld ..).setFld ..
    · exact ((hs1.setFld ..).setFld ..).setFld ..
  exact hs2.attn ..

theorem State.keepsStores.stepFails (h : b.keepsStores s) (code unit : Nat) : b.keepsStores (s.stepFails code unit) := h.other

theorem State.keepsStores.doS1 (h : b.keepsStores s) : b.keepsStores s.doS1 := (h.setFld ..).stepDone ..

theorem State.keepsStores.confRecord (h : b.keepsStores s) {x : Nat} (hr : s.confRecord x = .ok t) : b.keepsStores t := by
  unfold State.confRecord at hr
  split at hr
  · contradiction
  · extract_lets m u at hr
    split at hr
    · contradiction
    · exact Except.ok.inj hr ▸ h.setReg ..

theorem State.keepsStores.confApply (h : b.keepsStores s) {xs : List Nat} (hr : State.confApply xs s = .ok t) : b.keepsStores t := by
  induction xs generalizing s with
  | nil => exact Except.ok.inj hr ▸ h
  | cons x xs ih =>
    unfold State.confApply at hr
    split at hr
    · contradiction
    · rename_i u hu
      exact ih (h.confRecord hu) hr

theorem State.keepsStores.setPhys (h : b.keepsStores s) (m : List Byte) (n p : Nat) : b.keepsStores (s.setPhys m n p) :=
  (h.setFld ..).setFld ..

theorem State.keepsStores.repair (h : b.keepsStores s) (m : List Byte) : b.keepsStores (s.repair m) :=
  (h.foldl _ fun _ _ ht => ht.setPhys ..).foldl _ fun _ _ ht => .ite (ht.setPhys ..) ht

theorem State.keepsStores.clearStores (h : b.keepsStores s) : b.keepsStores s.clearStores := by
  have hmem := h.setMem fun hs => spWf_spKeep (fun a => decide (a < ddrSize)) hs
  have hpoison := hmem.setPoison fun hs => spWf_spKeep (fun k => decide (32 * k < ddrSize)) hs
  exact (hpoison.setWords fun _ => spWf_nil _).other

theorem State.keepsStores.deriveKey (h : b.keepsStores s) : b.keepsStores s.deriveKey := by
  unfold State.deriveKey
  split
  · exact h
  · exact (h.other.setFld ..).foldl _ fun t _ ht => ht.setReg ..

theorem State.keepsStores.bootFinish (ht : b.keepsStores t) (boot : List Byte) (cert : List Byte) (conf : List Byte) (map : List Byte) :
    b.keepsStores (s.bootFinish t boot cert conf map) := by
  unfold State.bootFinish
  extract_lets x t1 t2 t3 t4 x1
  have ht1 : b.keepsStores t1 := ht.other
  have ht2 : b.keepsStores t2 := ((ht1.repair ..).clearStores).savePage
  have ht3 : b.keepsStores t3 := ((ht2.extend ..).extend ..).extend ..
  have ht4 : b.keepsStores t4 := .ite ht3 (ht3.extend ..)
  exact ht4.other

theorem State.keepsStores.doS2 (h : b.keepsStores s) : b.keepsStores s.doS2 := by
  unfold State.doS2
  split
  · exact h.stepFails ..
  · extract_lets vendor x s1 s2 cert conf map
    have hs1 : b.keepsStores s1 := h.other
    have hs2 : b.keepsStores s2 := ((hs1.setFld ..).setFld ..).deriveKey
    refine .ite (hs2.stepFails ..) ?_
    split
    · exact hs2.stepFails ..
    · rename_i x1 t hr
      have ht : b.keepsStores t := hs2.confApply hr
      split
      · exact hs2.stepFails ..
      · exact ht.bootFinish ..

theorem State.keepsStores.mgmtRing (h : b.keepsStores s) (ch : Nat) : b.keepsStores (s.mgmtRing ch) :=
  ((h.mapBlock ..).setRing ..).ringStatus ..

theorem State.keepsStores.startTraining (h : b.keepsStores s) (ch : Nat) : b.keepsStores (s.startTraining ch) :=
  .setFld (.setFld (.ite (h.setChan ..) h) ..) ..

theorem State.keepsStores.doS3 (h : b.keepsStores s) (saved mpr : Nat) : b.keepsStores (s.doS3 saved mpr) :=
  h.other.foldl _ fun _ _ ht => ht.startTraining ..

theorem State.keepsStores.trained (h : b.keepsStores s) (ch : Nat) : b.keepsStores (s.trained ch) :=
  ((((h.setChan ..).setFld ..).setFld ..).fresh).setFld ..

theorem State.keepsStores.qualBase (h : b.keepsStores s) : b.keepsStores s.qualBase := h.other

theorem State.keepsStores.qualRead (h : b.keepsStores s) (r : RegArr) (i : Nat) : b.keepsStores (s.qualRead r i) := .ite h.other h

theorem State.keepsStores.trainLinks (h : b.keepsStores s) (links : List (Option TetherPeer)) : b.keepsStores (s.trainLinks links) := by
  unfold State.trainLinks
  refine .foldl h _ fun t x ht => ?_
  split
  · exact .ite (ht.tlTrain ..) ht
  · exact ht

theorem State.keepsStores.doS4 (h : b.keepsStores s) (rdErr : Nat) (links : List (Option TetherPeer)) :
    b.keepsStores (s.doS4 rdErr links) := ((h.other.foldl _ fun _ _ ht => ht.setTlPort ..).trainLinks ..).qualBase

theorem State.keepsStores.doS5 (h : b.keepsStores s) : b.keepsStores s.doS5 := (h.dropRange ..).other

theorem State.keepsStores.injected (h : b.keepsStores s) : b.keepsStores s.injected :=
  (h.foldl _ fun _ _ ht => (((ht.fresh.bump ..).setFld ..).other).record ..).setFld ..

theorem State.keepsStores.useSpare (h : b.keepsStores s) (n : Nat) : b.keepsStores (s.useSpare n) := h.other.setPhys ..

theorem State.keepsStores.endS5 (h : b.keepsStores s) (code unit : Nat) : b.keepsStores (s.endS5 code unit) := by
  unfold State.endS5
  refine .ite (((h.injected.setFld ..).setFld ..).stepDone ..) ?_
  extract_lets s1 s2
  have hs1 : b.keepsStores s1 := (h.injected.setFld ..).setFld ..
  have hs2 : b.keepsStores s2 := hs1.faultAt ..
  exact .ite (hs1.stepDone ..) (.ite (.ite ((hs2.useSpare ..).stepDone ..) (hs2.stepDone ..)) (hs1.stepDone ..))

theorem State.keepsStores.doS6 (h : b.keepsStores s) : b.keepsStores s.doS6 := by
  unfold State.doS6
  split
  · exact (h.commitReport ..).stepFails ..
  · rename_i x t hr
    have ht : b.keepsStores t := h.commit hr
    exact ht

theorem State.keepsStores.stepRequest (h : b.keepsStores s) (q : StepReq) : b.keepsStores (s.stepRequest q) := by
  unfold State.stepRequest
  refine .ite ?_ (h.stepRefuse ..)
  extract_lets s1
  have hs1 : b.keepsStores s1 := h.stepAccept ..
  split
  · exact hs1.doS1
  · exact hs1.doS2
  · exact hs1.doS3 ..
  · exact hs1.doS4 ..
  · exact hs1.doS5
  · exact hs1.doS6
  · exact hs1.goLive

theorem State.keepsStores.execS1 (h : b.keepsStores s) (seq : Byte) : b.keepsNext (execS1 seq s) :=
  .ite (.next h) (.next (h.stepRequest ..))

theorem State.keepsStores.execS2 (h : b.keepsStores s) (seq : Byte) : b.keepsNext (execS2 seq s) :=
  .ite (.next h) (.next (h.stepRequest ..))

theorem State.keepsStores.execS3 (h : b.keepsStores s) (seq saved mpr : Byte) : b.keepsNext (execS3 seq saved mpr s) :=
  .ite (.next h) (.next (h.stepRequest ..))

theorem State.keepsStores.execS4 (h : b.keepsStores s) (seq : Byte) (rdErr : Word) (links : List (Option TetherPeer)) :
    b.keepsNext (execS4 seq rdErr links s) := .ite (.next h) (.next (h.stepRequest ..))

theorem State.keepsStores.execS5 (h : b.keepsStores s) (seq : Byte) : b.keepsNext (execS5 seq s) :=
  .ite (.next h) (.next (h.stepRequest ..))

theorem State.keepsStores.execS6 (h : b.keepsStores s) (seq : Byte) : b.keepsNext (execS6 seq s) :=
  .ite (.next h) (.next (h.stepRequest ..))

theorem State.keepsStores.execS7 (h : b.keepsStores s) (seq : Byte) : b.keepsNext (execS7 seq s) :=
  .ite (.next h) (.next (h.stepRequest ..))

theorem State.keepsStores.endS3 (h : b.keepsStores s) (code unit : Nat) : b.keepsStores (s.endS3 code unit) :=
  (h.foldl _ fun _ _ ht => ht.trained ..).stepDone ..

theorem State.keepsStores.endS4 (h : b.keepsStores s) : b.keepsStores s.endS4 := by
  unfold State.endS4
  split
  · exact h.stepDone ..
  · exact .ite (h.stepDone ..) h

theorem State.keepsStores.stepEnd (h : b.keepsStores s) (code unit : Nat) : b.keepsStores (s.stepEnd code unit) := by
  unfold State.stepEnd
  refine .ite h ?_
  refine .ite (h.stepDone ..) ?_
  split
  · exact h.stepDone ..
  · split
    · exact ((h.mgmtRing ..).mgmtRing ..).stepDone ..
    · exact h.endS3 ..
    · exact h.endS4
    · exact h.endS5 ..
    · exact h.stepDone ..

theorem State.keepsStores.execStepEnd (h : b.keepsStores s) (code unit : Byte) (dt : Nat) : b.keepsNext (execStepEnd code unit dt s) :=
  .ite (.next h) (.next ((h.tickF ..).stepEnd ..))

theorem State.keepsStores.execStepTimeout (h : b.keepsStores s) (dt : Nat) : b.keepsNext (execStepTimeout dt s) :=
  .ite (.next h) (.next (.ite ((h.tickF ..).stepDone ..) (h.tickF ..)))

/-! ## PlanLoad -/

theorem State.keepsStores.writePlan (h : b.keepsStores s) (size first : Nat) (part : List Byte) :
    b.keepsStores (s.writePlan size first part) := h.foldl _ fun _ _ ht => ht.wrMarked ..

theorem State.keepsStores.planClears (h : b.keepsStores s) : b.keepsStores s.planClears := by
  unfold State.planClears
  extract_lets s1 s2 s3 s4 x x1
  have hs1 : b.keepsStores s1 := (h.setReg ..).clearHold ..
  have hs2 : b.keepsStores s2 := .ite (hs1.setStreamState ..) hs1
  have hs3 : b.keepsStores s3 := .ite (hs2.setStreamState ..) hs2
  have hs4 : b.keepsStores s4 := hs3.foldl _ fun t _ ht => ht.setVec ..
  exact hs4.other

theorem State.keepsStores.planLoadedNow (h : b.keepsStores s) (p : PlanImage) (bs : List Byte) : b.keepsStores (s.planLoadedNow p bs) :=
  h.planClears.other.extend ..

theorem State.keepsStores.planLoadBody (h : b.keepsStores s) (c : Cmd) : b.keepsStores (planLoadBody s c).1 := by
  unfold Machine.planLoadBody
  extract_lets bs p size
  split
  · exact h
  · split
    · exact h
    · split
      · exact h
      · split
        · exact h
        · exact .iteOn Prod.fst h (.iteOn Prod.fst h (.iteOn Prod.fst h (((h.writePlan ..).writePlan ..).planLoadedNow ..)))

theorem State.keepsStores.execPlanLoad (h : b.keepsStores s) (ring : BitVec 14) (d : Desc) : b.keepsNext (execPlanLoad ring d s) :=
  .next (h.command (fun _ _ ht => ht.planLoadBody ..) ..)

theorem State.keepsStores.blockRegs (h : b.keepsStores s) (block : List Byte) : b.keepsStores (s.blockRegs block) := by
  have hempty : b.keepsStores { s with regs := [], mem := [], poison := [] } :=
    ((h.setRegs fun _ => spWf_nil _).setMem fun _ => spWf_nil _).setPoison fun _ => spWf_nil _
  have hrecs := hempty.foldl (blockRecords block) (f := fun (t : State) r => t.applyRec r) fun _ _ ht => ht.applyRec ..
  refine ⟨fun hb => ?_, h.pending⟩
  exact { h.canonical hb with regs := (hrecs.canonical hb).regs, mem := (hrecs.canonical hb).mem }

theorem State.keepsStores.planLoadFillBody (h : b.keepsStores s) (c : Cmd) : b.keepsStores (planLoadFillBody s c).1 := by
  unfold Machine.planLoadFillBody
  extract_lets bs p size ps
  split
  · exact h
  · split
    · exact h
    · split
      · exact h
      · split
        · exact h
        · split
          · exact h
          · exact .iteOn Prod.fst h (.iteOn Prod.fst h (.iteOn Prod.fst h ((h.writePlan ..).planLoadedNow ..)))

theorem State.keepsStores.execPlanLoadFill (h : b.keepsStores s) (ring : BitVec 14) (d : Desc) :
    b.keepsNext (execPlanLoadFill ring d s) := .next (h.command (fun _ _ ht => ht.planLoadFillBody ..) ..)

theorem State.keepsStores.buRestartBody (h : b.keepsStores s) (c : Cmd) : b.keepsStores (buRestartBody s c).1 := by
  unfold Machine.buRestartBody
  extract_lets p s1 x s2
  have hs1 : b.keepsStores s1 := h.setPartState ..
  have hs2 : b.keepsStores s2 := hs1.other
  exact .iteOn Prod.fst (h.bump ..) (.iteOn Prod.fst h (.iteOn Prod.fst h hs2.fillStop.restartsDone))

theorem State.keepsStores.execBuRestart (h : b.keepsStores s) (ring : BitVec 14) (d : Desc) : b.keepsNext (execBuRestart ring d s) :=
  .next (h.command (fun _ _ ht => ht.buRestartBody ..) ..)

theorem State.keepsStores.ownApply (h : b.keepsStores s) (p : Nat) : b.keepsStores (s.ownApply p) :=
  h.foldl _ fun _ _ ht => .ite ht (ht.setReg ..)

theorem State.keepsStores.applySubs (h : b.keepsStores s) : b.keepsStores s.applySubs := by
  unfold State.applySubs
  refine .foldl h _ fun t x ht => ?_
  refine .ite ?_ ht
  extract_lets s1 x1
  have hs1 : b.keepsStores s1 := by
    unfold s1
    split
    · exact ht.useSpare ..
    · exact ht
  exact hs1.other

theorem State.keepsStores.testRegions (h : b.keepsStores s) (p : Nat) : b.keepsStores (s.testRegions p) :=
  h.foldl _ fun _ _ ht => ht.dropRange ..

theorem State.keepsStores.resume (h : b.keepsStores s) (p : Nat) : b.keepsStores (s.resume p) :=
  .ite (((h.applySubs.setFld ..).setPartState ..).fillGo) ((h.applySubs.setFld ..).setPartState ..)

theorem State.keepsStores.buResumeBody (h : b.keepsStores s) (bad : Bool) (c : Cmd) : b.keepsStores (buResumeBody bad s c).1 := by
  unfold Machine.buResumeBody
  extract_lets p s1 t x
  have hs1 : b.keepsStores s1 := .ite (h.testRegions ..) h
  have ht : b.keepsStores t := hs1.ownApply ..
  split
  · exact h.bump ..
  · split
    · exact h
    · split
      · exact h
      · split
        · exact hs1
        · split
          · exact hs1
          · exact ht.resume ..

theorem State.keepsStores.execBuResume (h : b.keepsStores s) (ring : BitVec 14) (d : Desc) (bad : Bool) :
    b.keepsNext (execBuResume ring d bad s) := .next (h.command (fun _ _ ht => ht.buResumeBody ..) ..)

theorem State.keepsStores.buRetrainBody (h : b.keepsStores s) (c : Cmd) : b.keepsStores (buRetrainBody s c).1 :=
  .iteOn Prod.fst h (.iteOn Prod.fst h (((h.foldl _ fun _ _ ht => ht.retrainStart ..).other).retrainsDone))

theorem State.keepsStores.execBuRetrain (h : b.keepsStores s) (ring : BitVec 14) (d : Desc) : b.keepsNext (execBuRetrain ring d s) :=
  .next (h.command (fun _ _ ht => ht.buRetrainBody ..) ..)

/-! ## Basecamp -/

theorem State.keepsStores.viewReg (h : b.keepsStores s) (r : RegArr) (i : Nat) : b.keepsStores (s.viewReg r i).2 := by
  unfold State.viewReg
  split
  · exact h.popHoldLog
  · split
    · exact h.popErrLog ..
    · split
      · exact h
      · split
        · exact h.engStatus ..
        · exact .iteOn Prod.snd (h.readReg ..) (.iteOn Prod.snd ((h.qualRead ..).readReg ..) ((h.qualRead ..).readReg ..))

theorem State.keepsStores.execRcFieldRead (h : b.keepsStores s) (unit : BitVec 8) (off : BitVec 24) :
    b.keepsNext (execRcFieldRead unit off s) := by
  unfold Machine.execRcFieldRead
  refine .ite (.next h) ?_
  refine .next ?_
  split
  · exact h.viewReg ..
  · exact h

theorem State.keepsStores.viewRange (h : b.keepsStores s) (unit off n : Nat) : b.keepsStores (s.viewRange unit off n).2 := by
  unfold State.viewRange
  refine .foldlOn Prod.snd h _ fun t x ht => ?_
  split
  · exact ht.viewReg ..
  · exact ht

theorem State.keepsStores.regReadBody (h : b.keepsStores s) (c : Cmd) : b.keepsStores (regReadBody s c).1 :=
  .iteOn Prod.fst h (.iteOn Prod.fst h ((h.viewRange ..).wrMarked ..))

theorem State.keepsStores.execRegRead (h : b.keepsStores s) (ring : BitVec 14) (d : Desc) : b.keepsNext (execRegRead ring d s) :=
  .next (h.command (fun _ _ ht => ht.regReadBody ..) ..)

theorem State.keepsStores.ctrlWrite (h : b.keepsStores s) (val : BitVec 64) : b.keepsStores (s.ctrlWrite val) := by
  unfold State.ctrlWrite
  extract_lets s1 s2 s3 s4 s5 s6
  have hs1 : b.keepsStores s1 := .ite h.frameGo h
  have hs2 : b.keepsStores s2 := .ite hs1.fillGo hs1
  have hs3 : b.keepsStores s3 := .ite hs2.fillStop hs2
  have hs4 : b.keepsStores s4 := .ite hs3.stopBoth hs3
  have hs5 : b.keepsStores s5 := .ite hs4 (hs4.debugEn ..)
  have hs6 : b.keepsStores s6 := .ite hs5.debugHold hs5
  exact .ite hs6.debugStep hs6

theorem State.keepsStores.hostWrite (h : b.keepsStores s) (r : RegArr) (i : Nat) (val : BitVec 64) :
    b.keepsStores (s.hostWrite r i val) := .ite (h.ctrlWrite ..) (.ite ((h.writeReg ..).setVec ..) (h.writeReg ..))

theorem State.keepsStores.regWriteBody (h : b.keepsStores s) (c : Cmd) : b.keepsStores (regWriteBody s c).1 := by
  unfold Machine.regWriteBody
  extract_lets unit off v dom
  split
  · exact h.bump ..
  · split
    · split
      · exact h.bump ..
      · exact .iteOn Prod.fst h (.iteOn Prod.fst (.iteOn Prod.fst h (h.condWrite ..)) (h.hostWrite ..))
    · exact .bump (.ite (h.raise ..) h) ..

theorem State.keepsStores.execRegWrite (h : b.keepsStores s) (ring : BitVec 14) (d : Desc) : b.keepsNext (execRegWrite ring d s) :=
  .next (h.command (fun _ _ ht => ht.regWriteBody ..) ..)

theorem State.keepsStores.nopBody (h : b.keepsStores s) (x : Cmd) : b.keepsStores (nopBody s x).1 := h

theorem State.keepsStores.execNop (h : b.keepsStores s) (ring : BitVec 14) (d : Desc) : b.keepsNext (execNop ring d s) :=
  .next (h.command (fun _ _ ht => ht.nopBody ..) ..)

theorem State.keepsStores.ctxOpenBody (h : b.keepsStores s) (c : Cmd) : b.keepsStores (ctxOpenBody s c).1 := by
  unfold Machine.ctxOpenBody
  split
  · exact h
  · exact .iteOn Prod.fst h (h.other.setFld ..)

theorem State.keepsStores.execCtxOpen (h : b.keepsStores s) (ring : BitVec 14) (d : Desc) : b.keepsNext (execCtxOpen ring d s) :=
  .next (h.command (fun _ _ ht => ht.ctxOpenBody ..) ..)

theorem State.keepsStores.ctxCloseBody (h : b.keepsStores s) (c : Cmd) : b.keepsStores (ctxCloseBody s c).1 :=
  .iteOn Prod.fst h ((h.foldl _ fun _ _ ht => ht.setRing ..).closeRun ..)

theorem State.keepsStores.execCtxClose (h : b.keepsStores s) (ring : BitVec 14) (d : Desc) : b.keepsNext (execCtxClose ring d s) :=
  .next (h.command (fun _ _ ht => ht.ctxCloseBody ..) ..)

theorem State.keepsStores.mapRing (h : b.keepsStores s) (ch off l part ctx : Nat) : b.keepsStores (s.mapRing ch off l part ctx) :=
  h.foldl _ fun _ _ ht => ht.mapBlock ..

theorem State.keepsStores.clearRing (h : b.keepsStores s) (ch off l : Nat) : b.keepsStores (s.clearRing ch off l) := by
  unfold State.clearRing
  refine .foldl h _ fun t x ht => ?_
  extract_lets lo
  split
  · exact ht.clearRange ..
  · exact ht

theorem State.keepsStores.ringCreateBody (h : b.keepsStores s) (c : Cmd) : b.keepsStores (ringCreateBody s c).1 := by
  unfold Machine.ringCreateBody
  extract_lets ch off l s1 x
  have hs1 : b.keepsStores s1 := (h.mapRing ..).clearRing ..
  split
  · exact h
  · split
    · exact h
    · exact .iteOn Prod.fst h (.iteOn Prod.fst h (.iteOn Prod.fst h (((hs1.setRing ..).setFld ..).ringStatus ..)))

theorem State.keepsStores.execRingCreate (h : b.keepsStores s) (ring : BitVec 14) (d : Desc) : b.keepsNext (execRingCreate ring d s) :=
  .next (h.command (fun _ _ ht => ht.ringCreateBody ..) ..)

theorem State.keepsStores.ringDestroyBody (h : b.keepsStores s) (c : Cmd) : b.keepsStores (ringDestroyBody s c).1 :=
  .iteOn Prod.fst h (.iteOn Prod.fst h ((h.setRing ..).closeRun ..))

theorem State.keepsStores.execRingDestroy (h : b.keepsStores s) (ring : BitVec 14) (d : Desc) : b.keepsNext (execRingDestroy ring d s) :=
  .next (h.command (fun _ _ ht => ht.ringDestroyBody ..) ..)

theorem State.keepsStores.execBcRingSelWrite (h : b.keepsStores s) (ring : BitVec 14) : b.keepsNext (execBcRingSelWrite ring s) :=
  .ite (.next h) (.next (h.setReg ..))

theorem State.keepsStores.opBody (h : b.keepsStores s) (meas : Nat) (bad : Bool) (op : Nat) (a : Cmd) :
    b.keepsStores (opBody meas bad op s a).1 := by
  unfold Machine.opBody
  split
  · exact h.nopBody ..
  · exact h.ctxOpenBody ..
  · exact h.ctxCloseBody ..
  · exact h.ringCreateBody ..
  · exact h.ringDestroyBody ..
  · exact h.regReadBody ..
  · exact h.regWriteBody ..
  · exact h.thMapEither ..
  · exact h.thStageBody ..
  · exact h.thStreamOpenBody ..
  · exact h.thStreamCloseBody ..
  · exact h.demandBody ..
  · exact h.demandBody ..
  · exact h.demandBody ..
  · exact h.demandBody ..
  · exact h.demandBody ..
  · exact h.seqJoin ..
  · exact h.seqAppend ..
  · exact h.seqReset ..
  · exact h.seqLeave ..
  · exact h.seqQuery ..
  · exact h.dtReleaseBody ..
  · exact h.tvRegisterBody ..
  · exact h.tvParamBody ..
  · exact h.glLoadBody ..
  · exact h.stModelBody ..
  · exact h.pbLoadBody ..
  · exact h.pbClearBody ..
  · exact h.pbReleaseBody ..
  · exact h.planLoadBody ..
  · exact h.planLoadFillBody ..
  · exact h.buRestartBody ..
  · exact h.buResumeBody ..
  · exact h.buRetrainBody ..
  · exact h.pwSetCapBody ..
  · exact h.pwRestoreBody ..
  · exact h.pwSaveClearBody ..
  · exact h.idAttestBody ..
  · exact h.idCertBody ..
  · exact h.idFlashWriteBody ..
  · exact h.idLogBody ..
  · exact h.fbReplayBody ..
  · exact h.fbStopBody ..
  · exact h.tlRetrainBody ..
  · exact h

theorem State.keepsStores.execDescriptorFetch (h : b.keepsStores s) (meas : BitVec 11) (bad : Bool) :
    b.keepsNext (execDescriptorFetch meas bad s) := by
  unfold Machine.execDescriptorFetch
  refine .ite (.next h) ?_
  extract_lets +onlyGivenNames pick
  clear_value pick
  refine .next ?_
  split
  · exact h
  · rename_i r
    extract_lets d rings s1
    have hs1 : b.keepsStores s1 := h.other
    split
    · exact hs1
    · rename_i t hr
      exact ((hs1.takeSlot hr).record ..).startDesc (fun _ _ hu => hu.opBody ..) ..

/-! ## Replay -/

theorem State.keepsStores.slotSide (h : b.keepsStores s) (n q : Nat) : b.keepsStores (s.slotSide n q) := .ite h (.ite (h.setSideAt ..) h)

theorem State.keepsStores.featSide (h : b.keepsStores s) (k q : Nat) : b.keepsStores (s.featSide k q) := .ite h (.ite (h.setSideAt ..) h)

theorem State.keepsStores.outSide (h : b.keepsStores s) (j q : Nat) : b.keepsStores (s.outSide j q) := .ite h (.ite (h.setSideAt ..) h)

theorem State.keepsStores.fusedSide (h : b.keepsStores s) (f : Nat) : b.keepsStores (s.fusedSide f) := .ite h (.ite (h.setSideAt ..) h)

theorem State.keepsStores.before (h : b.keepsStores s) : b.keepsStores s.before := h.other

theorem State.keepsStores.glViews (h : b.keepsStores s) (k : Nat) (log : List Nat) : b.keepsStores (s.glViews k log).1 := by
  unfold State.glViews
  extract_lets b1 bs
  refine .foldlOn Prod.fst h _ fun t x ht => ?_
  extract_lets e n c
  split
  · exact .iteOn Prod.fst (ht.slotSide ..) ht
  · exact .iteOn Prod.fst (ht.outSide ..) ht
  · exact .iteOn Prod.fst (ht.fusedSide ..) ht
  · exact .iteOn Prod.fst (ht.setGlChan ..) ht
  · exact ht

theorem State.keepsStores.glReplay (h : b.keepsStores s) (mask : Nat) (log : List Nat) : b.keepsStores (s.glReplay mask log) :=
  h.glTriggers ..

theorem State.keepsStores.latchReplay (h : b.keepsStores s) (ws : List Nat) : b.keepsStores (s.latchReplay ws) := by
  unfold State.latchReplay
  split
  · exact (h.datumFrame ..).datumLatch ..
  · exact h.other.tvLatch ..
  · exact h.glReplay ..
  · exact (h.stadiaFrame ..).stLatch
  · exact h

theorem State.keepsStores.sampleReplay (h : b.keepsStores s) (p : List Byte) : b.keepsStores (s.sampleReplay p) := by
  unfold State.sampleReplay
  extract_lets x i seq data buf s1 s2 s3 x1 s4
  have hs1 : b.keepsStores s1 := .ite h (((h.wrMarked ..).wrMarked ..).classLines ..)
  have hs2 : b.keepsStores s2 := hs1.wrMarked ..
  have hs3 : b.keepsStores s3 := hs2.flip ..
  have hs4 : b.keepsStores s4 := hs3.setStream' ..
  exact (hs4.bump ..).record ..

theorem State.keepsStores.commandReplay (h : b.keepsStores s) (p : List Byte) : b.keepsStores (s.commandReplay p) := by
  unfold State.commandReplay
  extract_lets d r op g s1 s2
  have hs1 : b.keepsStores s1 := h.setRing ..
  have hs2 : b.keepsStores s2 := hs1.ringStatus ..
  exact .ite (.startDesc (.record (.iteOn Prod.snd hs2.fresh hs2) ..) (fun t _ ht => ht.opBody ..) ..) h

theorem State.keepsStores.streamReplay (h : b.keepsStores s) {r : Replay} {bs : List Byte} (hr : s.streamReplay r bs = some t) :
    b.keepsStores t := by
  unfold State.streamReplay at hr
  extract_lets a bs1 n bs2 s1 s2 at hr
  split at hr
  · exact Option.some.inj hr ▸ (h.landUnit ..).record ..
  · obtain ⟨-, ht⟩ := Option.ite_none_right_eq_some.mp hr
    have hlines : b.keepsStores s1 := h.foldl _ fun _ _ ht => ht.landUnit ..
    exact Option.some.inj ht ▸ (hlines.record ..).other

theorem State.keepsStores.ddrReplay (h : b.keepsStores s) (ch line dev outcome : Nat) :
    b.keepsStores (s.ddrReplay ch line dev outcome) := by
  unfold State.ddrReplay
  extract_lets a x
  split
  · exact h.setChan ..
  · exact h.markRange ..
  · exact ((h.setFld ..).setFlag ..).record ..
  · exact h

theorem State.keepsStores.restoreReplay (h : b.keepsStores s) (n : Nat) (bs : List Byte) : b.keepsStores (restoreReplay n s bs) := by
  induction n generalizing s bs with
  | zero => exact h
  | succ n ih => exact .ite (ih (h.restoreLot ..) _) h

theorem State.keepsStores.holdReplay (h : b.keepsStores s) (entry len : Nat) : b.keepsStores (s.holdReplay entry len) := by
  unfold State.holdReplay
  extract_lets s1 x
  have hs1 : b.keepsStores s1 := h.raiseHold ..
  split
  · exact hs1.other
  · exact hs1

theorem State.keepsStores.publishReplay (h : b.keepsStores s) (r : Replay) (bs : List Byte) :
    b.keepsStores (s.publishReplay r bs).state := by
  unfold State.publishReplay
  split
  · exact .ite h (h.raiseHold ..)
  · rename_i q hq
    extract_lets book s1 s2
    have hs2 : b.keepsStores s2 := h.other.clearHold ..
    split <;> exact hs2

theorem State.keepsStores.applyRecord (h : b.keepsStores s) (r : Replay) (k : Nat) (bs : List Byte) :
    b.keepsStores (s.applyRecord r k bs).state := by
  unfold State.applyRecord
  extract_lets ws w
  split
  · exact h.frameStart ..
  · exact h.sampleReplay ..
  · exact h.commandReplay ..
  · exact (h.wrMarked ..).record ..
  · split
    · rename_i t hr
      exact h.streamReplay hr
    · exact h
  · exact h.condShow ..
  · exact h.holdReplay ..
  · exact h.ddrReplay ..
  · split
    · exact h.latchReplay ..
    · exact h
  · exact h.publishReplay ..
  · split
    · split
      · exact h.stApply ..
      · exact h
    · exact h
  · exact (h.restoreReplay ..).record ..
  · exact h

theorem State.keepsStores.replayMove (h : b.keepsStores s) (n recno : Nat) (part : List Byte) :
    b.keepsStores (s.replayMove n recno part) := by
  unfold State.replayMove
  split
  · exact h.other
  · exact h

theorem State.keepsStores.replayNext (h : b.keepsStores s) (r : Replay) : b.keepsStores (s.replayNext r) := by
  unfold State.replayNext
  split
  · exact h.replayEnd ..
  · rename_i hd _
    extract_lets n bs zeroed recno p
    refine .ite h (.ite ((h.replayMove ..).replayEnd ..) (.ite ((h.replayMove ..).replayEnd ..) (.ite (h.replayMove ..) ?_)))
    have happly := h.applyRecord r (B.FBR_KIND.get hd) p
    generalize s.applyRecord r (B.FBR_KIND.get hd) p = x at happly ⊢
    cases x with
    | waits t => exact happly
    | ends t why => exact (happly.replayMove ..).replayEnd ..
    | goes t => exact (happly.replayMove ..).replayGo ..

theorem State.keepsStores.execReplayRecordApply (h : b.keepsStores s) (dt : Nat) : b.keepsNext (execReplayRecordApply dt s) := by
  unfold Machine.execReplayRecordApply
  refine .ite (.next h) ?_
  extract_lets s1
  have hs1 : b.keepsStores s1 := h.tickA ..
  refine .next ?_
  split
  · exact hs1
  · exact hs1.replayNext ..

/-! ## HostBus -/

theorem State.keepsStores.unbacked (h : b.keepsStores s) (ch off : Nat) (wr : Bool) : b.keepsStores (s.unbacked ch off wr) :=
  .attn (.setFlag (.bump (.ite h (h.other.setReg ..)) ..) ..) ..

theorem State.keepsStores.maskDrop (h : b.keepsStores s) : b.keepsStores s.maskDrop := (h.bump ..).setFlag ..

theorem State.keepsStores.overrunDrop (h : b.keepsStores s) (i : Nat) : b.keepsStores (s.overrunDrop i) :=
  (((h.setWstream ..).bump ..).setFlag ..).attn ..

theorem State.keepsStores.resumeFetch (h : b.keepsStores s) (ch : Nat) : b.keepsStores (s.resumeFetch ch) := .ite (h.other.setFld ..) h

theorem State.keepsStores.doorbell (h : b.keepsStores s) (ch : Nat) (val : DWord) : b.keepsStores (s.doorbell ch val) := by
  unfold State.doorbell
  extract_lets r c g
  refine .ite (h.bump ..) ?_
  refine .ite ?_ ?_
  · exact .ite (((h.setRing ..).ringStatus ..).resumeFetch ..) (h.badDoorbell ..)
  · exact .ite (((h.setRing ..).ringStatus ..).resumeFetch ..) (h.badDoorbell ..)

theorem State.keepsStores.execDoorbell (h : b.keepsStores s) (ch : HostChan) (val : DWord) (masked : Bool) :
    b.keepsNext (execDoorbell ch val masked s) := .ite (.next h) (.next (.ite h (h.doorbell ..)))

theorem State.keepsStores.commitWrite (h : b.keepsStores s) (i : Nat) (val : DWord) : b.keepsStores (s.commitWrite i val) :=
  .ite (h.setFld ..) (((h.bump ..).setFlag ..).attn ..)

theorem State.keepsStores.execThCommitWrite (h : b.keepsStores s) (ch : HostChan) (a : BitVec 6) (val : DWord) :
    b.keepsNext (execThCommitWrite ch a val s) := .ite (.next h) (.next (h.commitWrite ..))

theorem State.keepsStores.stepWrite (h : b.keepsStores s) (val : DWord) : b.keepsStores (s.stepWrite val) := by
  unfold State.stepWrite
  split
  rename_i x v t hr
  have ht : b.keepsStores t := .of_eq Prod.snd hr h.fresh
  split
  rename_i x1 v1 t1 hr1
  have ht1 : b.keepsStores t1 := .of_eq Prod.snd hr1 ht.fresh
  split
  rename_i x2 v2 t2 hr2
  have ht2 : b.keepsStores t2 := .of_eq Prod.snd hr2 ht1.fresh
  exact ht2.fresh.stepRequest ..

theorem State.keepsStores.soakWrite (h : b.keepsStores s) (ch o : Nat) : b.keepsStores (s.soakWrite ch o) := by
  unfold State.soakWrite
  refine .ite h ?_
  exact .ite (.ite ((h.setHostLane ..).bump ..) ((((h.setHostLane ..).bump ..).bump ..).faultAt ..)) (h.setHostLane ..)

theorem State.keepsStores.soakRead (h : b.keepsStores s) (ch o : Nat) : b.keepsStores (s.soakRead ch o) :=
  .ite h (.ite ((h.setHostLane ..).bump ..) (h.setHostLane ..))

theorem State.keepsStores.bootWrite (h : b.keepsStores s) (ch off : Nat) (val : DWord) : b.keepsStores (s.bootWrite ch off val) := by
  unfold State.bootWrite
  refine .ite (h.doorbell ..) ?_
  refine .ite ((h.setHostLane ..).soakWrite ..) ?_
  split
  · exact h.unbacked ..
  · refine .ite (h.stepWrite ..) ?_
    refine .ite (h.commitWrite ..) ?_
    exact .ite ((h.writeReg ..).updateAttn) (.ite (.ite ((h.writeReg ..).other) (h.writeReg ..)) (h.unbacked ..))

theorem State.keepsStores.execBootPageWrite (h : b.keepsStores s) (ch : HostChan) (off : BitVec 16) (val : DWord) (masked : Bool) :
    b.keepsNext (execBootPageWrite ch off val masked s) := .ite (.next h) (.next (.ite h (h.bootWrite ..)))

theorem State.keepsStores.bootRead (h : b.keepsStores s) (ch off : Nat) : b.keepsStores (s.bootRead ch off).2 := by
  unfold State.bootRead
  split
  · exact h
  · split
    · exact h
    · split
      · exact h.readReg ..
      · exact h.unbacked ..

theorem State.keepsStores.unitRead (h : b.keepsStores s) (ch off : Nat) : b.keepsStores (s.unitRead ch off).2 := by
  unfold State.unitRead
  split
  · split
    rename_i x b1 t hr
    have ht : b.keepsStores t := .of_eq Prod.snd hr (.foldlOn Prod.snd h _ fun t _ ht => ht.bootRead ..)
    exact .ite (ht.soakRead ..) ht
  · split
    · exact h
    · exact h.unbacked ..

theorem State.keepsStores.streamBurst (h : b.keepsStores s) (ch off i : Nat) (data : BitVec 256) (mask : Nat) :
    b.keepsStores (s.streamBurst ch off i data mask) := .ite (h.unbacked ..) (.ite h.maskDrop (.ite (h.overrunDrop ..) (h.wrMarked ..)))

theorem State.keepsStores.hostLand (h : b.keepsStores s) (a : Nat) (data : BitVec 256) (mask : Nat) :
    b.keepsStores (s.hostLand a data mask) := (h.wrMarked ..).record ..

theorem State.keepsStores.unitWrite (h : b.keepsStores s) (ch off : Nat) (data : BitVec 256) (mask : Nat) :
    b.keepsStores (s.unitWrite ch off data mask) := by
  unfold State.unitWrite
  refine .ite ?_ ?_
  · exact .ite h.maskDrop (h.foldl _ fun t _ ht => .ite (ht.bootWrite ..) ht)
  · refine .ite (h.unbacked ..) ?_
    refine .ite (h.streamBurst ..) ?_
    split
    · exact h.unbacked ..
    · exact .ite (h.unbacked ..) (.ite h.maskDrop (h.hostLand ..))

theorem State.keepsStores.execAct (h : b.keepsStores s) (ch : HostChan) (bank : Fin 16) (row : BitVec 16) :
    b.keepsNext (execAct ch bank row s) := .ite (.next h) (.next (h.setHostLane ..))

theorem State.keepsStores.execPre (h : b.keepsStores s) (x : HostChan) : b.keepsNext (execPre x s) := .ite (.next h) (.next h)

theorem State.keepsStores.setDq (h : b.keepsStores s) (ch : Nat) (bs : List Byte) : b.keepsStores (s.setDq ch bs) := h.setHostLane ..

theorem State.keepsStores.execRd (h : b.keepsStores s) (ch : HostChan) (bank : Fin 16) (col : BitVec 6) :
    b.keepsNext (execRd ch bank col s) := .ite (.next h) (.next ((h.unitRead ..).setDq ..))

theorem State.keepsStores.execWr (h : b.keepsStores s) (ch : HostChan) (bank : Fin 16) (col : BitVec 6) (data : BitVec 256) :
    b.keepsNext (execWr ch bank col data s) := .ite (.next h) (.next (h.unitWrite ..))

theorem State.keepsStores.execMwr (h : b.keepsStores s) (ch : HostChan) (bank : Fin 16) (col : BitVec 6) (data : BitVec 256)
    (mask : BitVec 32) : b.keepsNext (execMwr ch bank col data mask s) := .ite (.next h) (.next (h.unitWrite ..))

theorem State.keepsStores.execRef (h : b.keepsStores s) (x : HostChan) : b.keepsNext (execRef x s) := .ite (.next h) (.next h)

theorem State.keepsStores.execPde (h : b.keepsStores s) (x : HostChan) : b.keepsNext (execPde x s) := .ite (.next h) (.next h)

theorem State.keepsStores.showIdle (h : b.keepsStores s) (ch : Nat) (val : Bool) : b.keepsStores (s.showIdle ch val) :=
  ((h.setHostLane ..).setFld ..).setFld ..

theorem State.keepsStores.execSre (h : b.keepsStores s) (ch : HostChan) : b.keepsNext (execSre ch s) :=
  .ite (.next h) (.next ((h.showIdle ..).record ..))

theorem State.keepsStores.execSrx (h : b.keepsStores s) (ch : HostChan) : b.keepsNext (execSrx ch s) :=
  .ite (.next h) (.next (h.showIdle ..))

theorem State.keepsStores.depart (h : b.keepsStores s) (ch : Nat) : b.keepsStores (s.depart ch) :=
  ((((h.setHostLane ..).other).setFld ..).setFlag ..).record ..

theorem State.keepsStores.wake (h : b.keepsStores s) (ch : Nat) : b.keepsStores (s.wake ch) := h.setHostLane ..

theorem State.keepsStores.execDsmEntry (h : b.keepsStores s) (ch : HostChan) : b.keepsNext (execDsmEntry ch s) :=
  .ite (.next h) (.next (h.depart ..))

theorem State.keepsStores.execDsmExit (h : b.keepsStores s) (ch : HostChan) : b.keepsNext (execDsmExit ch s) :=
  .ite (.next h) (.next (h.wake ..))

theorem State.keepsStores.execMrw (h : b.keepsStores s) (ch : HostChan) (mr : BitVec 7) (val : Byte) :
    b.keepsNext (execMrw ch mr val s) := .ite (.next h) (.next (.ite h (h.setHostLane ..)))

theorem State.keepsStores.execMrr (h : b.keepsStores s) (ch : HostChan) (mr : BitVec 7) : b.keepsNext (execMrr ch mr s) :=
  .ite (.next h) (.next (h.setDq ..))

theorem State.keepsStores.execLpddr5TrainingCommand (h : b.keepsStores s) (ch : HostChan) (at' : TrainCmd) :
    b.keepsNext (execLpddr5TrainingCommand ch at' s) := by
  unfold Machine.execLpddr5TrainingCommand
  refine .ite (.next h) ?_
  extract_lets l
  split
  · exact .next (h.setHostLane ..)
  · exact .next h
  · exact .next (h.setHostLane ..)
  · exact .next (h.setHostLane ..)
  · exact .next (h.setDq ..)
  · split
    · exact .next (h.setHostLane ..)
    · exact .next (h.fresh.setDq ..)

theorem State.keepsStores.execBadCmd (h : b.keepsStores s) (x : HostChan) : b.keepsNext (execBadCmd x s) :=
  .ite (.next h) (.next ((h.bump ..).setFlag ..))

theorem State.keepsStores.execHostResetN (h : b.keepsStores s) (ch : HostChan) (low : Bool) : b.keepsNext (execHostResetN ch low s) :=
  .ite (.next h) (.ite (.next ((h.setHostLane ..).depart ..)) (.next (h.wake ..)))

/-! ## Pins -/

/-- Without power the channels keep their saved settings alone: a table in canonical form still. -/
theorem spWf_savedChans {l : List (Nat × DdrChan)} (hl : spWf DdrChan.reset l = true) :
    spWf DdrChan.reset (l.filterMap fun x =>
      if x.2.saved.isSome then some (x.1, { DdrChan.reset with saved := x.2.saved }) else none) = true := by
  refine spWf_filterMap _ (fun e e' he => ?_) (fun e e' _ he hreset => ?_) hl
  · obtain ⟨-, he⟩ := Option.ite_none_right_eq_some.mp he
    exact Option.some.inj he ▸ rfl
  · obtain ⟨hsaved, he⟩ := Option.ite_none_right_eq_some.mp he
    rw [← Option.some.inj he] at hreset
    rw [congrArg DdrChan.saved hreset] at hsaved
    contradiction

theorem State.keepsStores.powerOff (h : b.keepsStores s) : b.keepsStores s.powerOff :=
  ⟨fun hb => { resetIsCanonical with ddr := spWf_savedChans (h.canonical hb).ddr }, h.pending⟩

theorem State.keepsStores.powerUp (h : b.keepsStores s) (seed : Option (BitVec 256)) : b.keepsStores (s.powerUp seed) := .ite h.other h

theorem State.keepsStores.execPowerOn (h : b.keepsStores s) (seed : Option (BitVec 256)) : b.keepsNext (execPowerOn seed s) :=
  .next (h.other.powerUp ..)

theorem State.keepsStores.execS0Complete (h : b.keepsStores s) (jtag wpN : Bool) : b.keepsNext (execS0Complete jtag wpN s) :=
  .ite (.next h.other) (.next h)

theorem State.keepsStores.execNresetAssert (h : b.keepsStores s) : b.keepsNext (execNresetAssert s) := .next h.other.powerOff

theorem State.keepsStores.execNresetRelease (h : b.keepsStores s) (seed : Option (BitVec 256)) : b.keepsNext (execNresetRelease seed s) :=
  .next (h.other.powerUp ..)

theorem State.keepsStores.execRegulatorFault (h : b.keepsStores s) : b.keepsNext (execRegulatorFault s) := .next h.other

theorem State.keepsStores.execVinTurnOff (h : b.keepsStores s) : b.keepsNext (execVinTurnOff s) := .next (.ite h.other h.other.powerOff)

theorem State.keepsStores.scan (h : b.keepsStores s) (op : JtagOp) (captured : List Bool) (scan : List Bool) :
    b.keepsStores (s.scan op captured scan).1 := h.other

theorem State.keepsStores.bypassScan (h : b.keepsStores s) (op : JtagOp) (scan : List Bool) : b.keepsStores (s.bypassScan op scan) :=
  .ite (h.scan ..) h

theorem State.keepsStores.boundaryScan (h : b.keepsStores s) (op : JtagOp) (cells : List Bool) (scan : List Bool) :
    b.keepsStores (s.boundaryScan op cells scan) := .ite ((h.scan ..).other) h

theorem State.keepsStores.execBypass (h : b.keepsStores s) (scan : List Bool) : b.keepsNext (execBypass scan s) := .next (h.bypassScan ..)

theorem State.keepsStores.execSamplePreload (h : b.keepsStores s) (cells : List Bool) (scan : List Bool) :
    b.keepsNext (execSamplePreload cells scan s) := .next (h.boundaryScan ..)

theorem State.keepsStores.execExtest (h : b.keepsStores s) (cells : List Bool) (scan : List Bool) :
    b.keepsNext (execExtest cells scan s) := .next (h.boundaryScan ..)

theorem State.keepsStores.execIdcode (h : b.keepsStores s) (scan : List Bool) : b.keepsNext (execIdcode scan s) :=
  .next (.ite (h.scan ..) h)

theorem State.keepsStores.execHighz (h : b.keepsStores s) (scan : List Bool) : b.keepsNext (execHighz scan s) := .next (h.bypassScan ..)

theorem State.keepsStores.execClamp (h : b.keepsStores s) (scan : List Bool) : b.keepsNext (execClamp scan s) := .next (h.bypassScan ..)

theorem State.keepsStores.lineDrops (h : b.keepsStores s) (lineB : Bool) : b.keepsStores (s.lineDrops lineB) :=
  .ite ((h.other.setFld ..).latchClass ..) h

theorem State.keepsStores.execSafeVrefFall (h : b.keepsStores s) (lineB : Bool) : b.keepsNext (execSafeVrefFall lineB s) :=
  .next (h.lineDrops ..)

theorem State.keepsStores.execCurrentLimitSwitchOff (h : b.keepsStores s) (lineB : Bool) :
    b.keepsNext (execCurrentLimitSwitchOff lineB s) := .next (h.lineDrops ..)

/-! ## Slots -/

theorem State.keepsStores.grantRead (h : b.keepsStores s) (x : Transfer) (k : Nat) : b.keepsStores (s.grantRead x k).2 :=
  .iteOn Prod.snd ((h.readLine ..).foldl _ fun _ _ ht => ht.writeUnit ..) (h.readLine ..)

theorem State.keepsStores.grantWrite (h : b.keepsStores s) (x : Transfer) (k : Nat) : b.keepsStores (s.grantWrite x k).2 := by
  unfold State.grantWrite
  split
  · split
    rename_i x1 us t hr
    have ht : b.keepsStores t := .of_eq Prod.snd hr (.foldlOn Prod.snd h _ fun t _ ht => ht.readUnit ..)
    exact ht.writeLine ..
  · exact h.writeLine ..

theorem State.keepsStores.onHead (h : b.keepsStores s) {f : Transfer → State → Transfer × State}
    (hf : ∀ x t, b.keepsStores t → b.keepsStores (f x t).2) (c : Nat) : b.keepsStores (s.onHead c f) := by
  unfold State.onHead
  split
  · exact h
  · rename_i x rest hq
    extract_lets now sched s1
    have hs1 : b.keepsStores s1 := by
      unfold s1
      split
      · exact h.other
      · exact h
    exact ((hf x s1 hs1).setQueue ..).other

theorem State.keepsStores.drainWbuf (h : b.keepsStores s) (ch n : Nat) (p : WLine → Bool) : b.keepsStores (s.drainWbuf ch n p) :=
  (h.setChan ..).setFld ..

theorem State.keepsStores.windowBegins (h : b.keepsStores s) (ch : Nat) : b.keepsStores (s.windowBegins ch) := h.setChan ..

theorem State.keepsStores.grantWindow (h : b.keepsStores s) (ch : Nat) (w : SlotRun) : b.keepsStores (s.grantWindow ch w) := by
  unfold State.grantWindow
  extract_lets s1 mine d redo s2 left x again s3 left1 reads s4 left2 prot d1 leaving ready writes s5
  have hs2 : b.keepsStores s2 := (h.windowBegins ..).drainWbuf ..
  have hs3 : b.keepsStores s3 := hs2.foldl _ fun _ _ ht => ht.onHead (fun _ _ hu => hu.grantRead ..) _
  have hs4 : b.keepsStores s4 := by
    refine hs3.foldl _ fun _ l ht => ht.onHead (fun x u hu => ?_) _
    exact hu.grantRead x l.2
  have hs5 : b.keepsStores s5 := by
    refine hs4.foldl _ fun _ l ht => .setChan (ht.onHead (fun x u hu => ?_) _) ..
    exact hu.grantWrite x l.2
  exact (hs5.drainWbuf ..).classLines ..

theorem State.keepsStores.openWindow (h : b.keepsStores s) (ch mcyc : Nat) : b.keepsStores (s.openWindow ch mcyc) := by
  unfold State.openWindow
  extract_lets s1 d n redo s2 d1
  have hs1 : b.keepsStores s1 := h.windowBegins ..
  have hs2 : b.keepsStores s2 := (hs1.drainWbuf ..).drainWbuf ..
  exact .ite (hs2.setChan ..) hs2

theorem State.keepsStores.execSlotWindowEnd (h : b.keepsStores s) (ch : ChanId) (dt : Nat) : b.keepsNext (execSlotWindowEnd ch dt s) := by
  unfold Machine.execSlotWindowEnd
  refine .ite (.next h) ?_
  extract_lets s1 s2 x
  have hs1 : b.keepsStores s1 := h.passM ..
  have hs2 : b.keepsStores s2 := hs1.windowBegins ..
  split
  · exact .next hs1
  · refine .ite (.next hs1) ?_
    extract_lets s3 next x1 s4 s5
    have hs3 : b.keepsStores s3 :=
      .ite (hs1.grantWindow ..) (.ite ((hs1.windowBegins ..).refresh ..) (.ite (hs2.setChan ..) (hs1.openWindow ..)))
    have hs4 : b.keepsStores s4 := hs3.setChan ..
    have hs5 : b.keepsStores s5 := .ite (hs4.refresh ..) hs4
    exact .next hs5.placeHeld

theorem State.keepsStores.execStandaloneService (h : b.keepsStores s) (ch : ChanId) (dt : Nat) :
    b.keepsNext (execStandaloneService ch dt s) := .ite (.next h) (.next (.ite (((h.passM ..).openWindow ..).refresh ..) (h.passM ..)))

theorem State.keepsStores.setFails (h : b.keepsStores s) (ch key n : Nat) : b.keepsStores (s.setFails ch key n) := h.setChan ..

theorem State.keepsStores.giveUp (h : b.keepsStores s) (ch lane : Nat) : b.keepsStores (s.giveUp ch lane) :=
  .retrainStart (.ite (h.setFlag ..) ((h.setFlag ..).declareLasting ..)) ..

theorem State.keepsStores.writeFails (h : b.keepsStores s) (ch line lane : Nat) : b.keepsStores (s.writeFails ch line lane) := by
  unfold State.writeFails
  extract_lets a n d was others sent
  refine .ite (((h.setChan ..).setFld ..).setFails ..) ?_
  exact ((((h.setChan ..).setFld ..).setFails ..).markRange ..).giveUp ..

theorem State.keepsStores.readFails (h : b.keepsStores s) (ch line lane : Nat) : b.keepsStores (s.readFails ch line lane) := by
  unfold State.readFails
  extract_lets a key n cs s1 s2 x s3 s4
  have hs1 : b.keepsStores s1 := h.setFails ..
  have hs2 : b.keepsStores s2 := h.setFails ..
  have hs3 : b.keepsStores s3 := hs2.setChan ..
  have hs4 : b.keepsStores s4 := by
    unfold s4
    refine .foldl hs3 _ fun t x1 ht => ?_
    refine .onHead ht (fun _ t1 ht1 => ?_) ..
    split
    · exact ht1.grantRead ..
    · exact ht1
  exact .ite (hs1.foldl _ fun t _ ht => ht.onHead (fun _ u hu => hu) ..) (hs4.giveUp ..)

theorem State.keepsStores.execWriteCrcAlert (h : b.keepsStores s) (ch : ChanId) (lane : Fin 10) (line : BitVec 28) :
    b.keepsNext (execWriteCrcAlert ch lane line s) := .ite (.next h) (.next (((h.setFlag ..).faultAt ..).writeFails ..))

theorem State.keepsStores.execCaParityAlert (h : b.keepsStores s) (ch : ChanId) (line : BitVec 28) (read : Bool) :
    b.keepsNext (execCaParityAlert ch line read s) := by
  unfold Machine.execCaParityAlert
  refine .ite (.next h) ?_
  exact .next (.ite (((h.setFlag ..).faultAt ..).readFails ..) (((h.setFlag ..).faultAt ..).writeFails ..))

/-! ## Units -/

theorem State.keepsStores.execMacSs (h : b.keepsStores s) (c : CoreId) (sl : SliceBits) (n : Nat) : b.keepsNext (execMacSs c sl n s) :=
  .ite (.next h) (.next (h.sliceRow ..))

theorem State.keepsStores.execMacSu (h : b.keepsStores s) (c : CoreId) (sl : SliceBits) (n : Nat) : b.keepsNext (execMacSu c sl n s) :=
  .ite (.next h) (.next (h.sliceRow ..))

theorem State.keepsStores.execMacBin (h : b.keepsStores s) (c : CoreId) (sl : SliceBits) (n : Nat) : b.keepsNext (execMacBin c sl n s) :=
  .ite (.next h) (.next (h.sliceRow ..))

theorem State.keepsStores.execDistL1 (h : b.keepsStores s) (c : CoreId) (sl : SliceBits) (n : Nat) : b.keepsNext (execDistL1 c sl n s) :=
  .ite (.next h) (.next (h.sliceRow ..))

theorem State.keepsStores.execMinplus (h : b.keepsStores s) (c : CoreId) (sl : SliceBits) (n : Nat) :
    b.keepsNext (execMinplus c sl n s) := .ite (.next h) (.next (h.sliceRow ..))

theorem State.keepsStores.execMaxplus (h : b.keepsStores s) (c : CoreId) (sl : SliceBits) (n : Nat) :
    b.keepsNext (execMaxplus c sl n s) := .ite (.next h) (.next (h.sliceRow ..))

theorem State.keepsStores.execRetire (h : b.keepsStores s) (c : CoreId) (sl : SliceBits) (n : Nat) : b.keepsNext (execRetire c sl n s) :=
  .ite (.next h) (.next (h.sliceRow ..))

theorem State.keepsStores.execLoadAcc (h : b.keepsStores s) (c : CoreId) (sl : SliceBits) (n : Nat) :
    b.keepsNext (execLoadAcc c sl n s) := .ite (.next h) (.next (h.sliceRow ..))

theorem State.keepsStores.execFadd (h : b.keepsStores s) (c : CoreId) (sl : SliceBits) (n : Nat) : b.keepsNext (execFadd c sl n s) :=
  .ite (.next h) (.next (h.sliceRow ..))

theorem State.keepsStores.execFsub (h : b.keepsStores s) (c : CoreId) (sl : SliceBits) (n : Nat) : b.keepsNext (execFsub c sl n s) :=
  .ite (.next h) (.next (h.sliceRow ..))

theorem State.keepsStores.execFmul (h : b.keepsStores s) (c : CoreId) (sl : SliceBits) (n : Nat) : b.keepsNext (execFmul c sl n s) :=
  .ite (.next h) (.next (h.sliceRow ..))

theorem State.keepsStores.execFma (h : b.keepsStores s) (c : CoreId) (sl : SliceBits) (n : Nat) : b.keepsNext (execFma c sl n s) :=
  .ite (.next h) (.next (h.sliceRow ..))

theorem State.keepsStores.execFmin (h : b.keepsStores s) (c : CoreId) (sl : SliceBits) (n : Nat) : b.keepsNext (execFmin c sl n s) :=
  .ite (.next h) (.next (h.sliceRow ..))

theorem State.keepsStores.execFmax (h : b.keepsStores s) (c : CoreId) (sl : SliceBits) (n : Nat) : b.keepsNext (execFmax c sl n s) :=
  .ite (.next h) (.next (h.sliceRow ..))

theorem State.keepsStores.execFdot (h : b.keepsStores s) (c : CoreId) (sl : SliceBits) (n : Nat) : b.keepsNext (execFdot c sl n s) :=
  .ite (.next h) (.next (h.sliceRow ..))

theorem State.keepsStores.execFcmpLt (h : b.keepsStores s) (c : CoreId) (sl : SliceBits) (n : Nat) : b.keepsNext (execFcmpLt c sl n s) :=
  .ite (.next h) (.next (h.sliceRow ..))

theorem State.keepsStores.execFcmpLe (h : b.keepsStores s) (c : CoreId) (sl : SliceBits) (n : Nat) : b.keepsNext (execFcmpLe c sl n s) :=
  .ite (.next h) (.next (h.sliceRow ..))

theorem State.keepsStores.execFcmpEq (h : b.keepsStores s) (c : CoreId) (sl : SliceBits) (n : Nat) : b.keepsNext (execFcmpEq c sl n s) :=
  .ite (.next h) (.next (h.sliceRow ..))

theorem State.keepsStores.execFrecipEst (h : b.keepsStores s) (c : CoreId) (sl : SliceBits) (n : Nat) :
    b.keepsNext (execFrecipEst c sl n s) := .ite (.next h) (.next (h.sliceRow ..))

theorem State.keepsStores.execFrsqrtEst (h : b.keepsStores s) (c : CoreId) (sl : SliceBits) (n : Nat) :
    b.keepsNext (execFrsqrtEst c sl n s) := .ite (.next h) (.next (h.sliceRow ..))

theorem State.keepsStores.execFsumErr (h : b.keepsStores s) (c : CoreId) (sl : SliceBits) (n : Nat) :
    b.keepsNext (execFsumErr c sl n s) := .ite (.next h) (.next (h.sliceRow ..))

theorem State.keepsStores.execFprodErr (h : b.keepsStores s) (c : CoreId) (sl : SliceBits) (n : Nat) :
    b.keepsNext (execFprodErr c sl n s) := .ite (.next h) (.next (h.sliceRow ..))

theorem State.keepsStores.execPairAdd (h : b.keepsStores s) (c : CoreId) (sl : SliceBits) (n : Nat) :
    b.keepsNext (execPairAdd c sl n s) := .ite (.next h) (.next (h.sliceRow ..))

theorem State.keepsStores.execPairMac (h : b.keepsStores s) (c : CoreId) (sl : SliceBits) (n : Nat) :
    b.keepsNext (execPairMac c sl n s) := .ite (.next h) (.next (h.sliceRow ..))

theorem State.keepsStores.execIadd (h : b.keepsStores s) (c : CoreId) (sl : SliceBits) (n : Nat) : b.keepsNext (execIadd c sl n s) :=
  .ite (.next h) (.next (h.sliceRow ..))

theorem State.keepsStores.execIsub (h : b.keepsStores s) (c : CoreId) (sl : SliceBits) (n : Nat) : b.keepsNext (execIsub c sl n s) :=
  .ite (.next h) (.next (h.sliceRow ..))

theorem State.keepsStores.execIaddSat (h : b.keepsStores s) (c : CoreId) (sl : SliceBits) (n : Nat) :
    b.keepsNext (execIaddSat c sl n s) := .ite (.next h) (.next (h.sliceRow ..))

theorem State.keepsStores.execIsubSat (h : b.keepsStores s) (c : CoreId) (sl : SliceBits) (n : Nat) :
    b.keepsNext (execIsubSat c sl n s) := .ite (.next h) (.next (h.sliceRow ..))

theorem State.keepsStores.execImul (h : b.keepsStores s) (c : CoreId) (sl : SliceBits) (n : Nat) : b.keepsNext (execImul c sl n s) :=
  .ite (.next h) (.next (h.sliceRow ..))

theorem State.keepsStores.execImulHi (h : b.keepsStores s) (c : CoreId) (sl : SliceBits) (n : Nat) : b.keepsNext (execImulHi c sl n s) :=
  .ite (.next h) (.next (h.sliceRow ..))

theorem State.keepsStores.execImin (h : b.keepsStores s) (c : CoreId) (sl : SliceBits) (n : Nat) : b.keepsNext (execImin c sl n s) :=
  .ite (.next h) (.next (h.sliceRow ..))

theorem State.keepsStores.execImax (h : b.keepsStores s) (c : CoreId) (sl : SliceBits) (n : Nat) : b.keepsNext (execImax c sl n s) :=
  .ite (.next h) (.next (h.sliceRow ..))

theorem State.keepsStores.execVecAnd (h : b.keepsStores s) (c : CoreId) (sl : SliceBits) (n : Nat) : b.keepsNext (execVecAnd c sl n s) :=
  .ite (.next h) (.next (h.sliceRow ..))

theorem State.keepsStores.execVecOr (h : b.keepsStores s) (c : CoreId) (sl : SliceBits) (n : Nat) : b.keepsNext (execVecOr c sl n s) :=
  .ite (.next h) (.next (h.sliceRow ..))

theorem State.keepsStores.execVecXor (h : b.keepsStores s) (c : CoreId) (sl : SliceBits) (n : Nat) : b.keepsNext (execVecXor c sl n s) :=
  .ite (.next h) (.next (h.sliceRow ..))

theorem State.keepsStores.execShiftRne (h : b.keepsStores s) (c : CoreId) (sl : SliceBits) (n : Nat) :
    b.keepsNext (execShiftRne c sl n s) := .ite (.next h) (.next (h.sliceRow ..))

theorem State.keepsStores.execIdiv (h : b.keepsStores s) (c : CoreId) (sl : SliceBits) (n : Nat) : b.keepsNext (execIdiv c sl n s) :=
  .ite (.next h) (.next (h.sliceRow ..))

theorem State.keepsStores.execIrem (h : b.keepsStores s) (c : CoreId) (sl : SliceBits) (n : Nat) : b.keepsNext (execIrem c sl n s) :=
  .ite (.next h) (.next (h.sliceRow ..))

theorem State.keepsStores.execUdiv (h : b.keepsStores s) (c : CoreId) (sl : SliceBits) (n : Nat) : b.keepsNext (execUdiv c sl n s) :=
  .ite (.next h) (.next (h.sliceRow ..))

theorem State.keepsStores.execUrem (h : b.keepsStores s) (c : CoreId) (sl : SliceBits) (n : Nat) : b.keepsNext (execUrem c sl n s) :=
  .ite (.next h) (.next (h.sliceRow ..))

theorem State.keepsStores.execCvtF32 (h : b.keepsStores s) (c : CoreId) (sl : SliceBits) (n : Nat) : b.keepsNext (execCvtF32 c sl n s) :=
  .ite (.next h) (.next (h.sliceRow ..))

theorem State.keepsStores.execCvtF16 (h : b.keepsStores s) (c : CoreId) (sl : SliceBits) (n : Nat) : b.keepsNext (execCvtF16 c sl n s) :=
  .ite (.next h) (.next (h.sliceRow ..))

theorem State.keepsStores.execCvtBf16 (h : b.keepsStores s) (c : CoreId) (sl : SliceBits) (n : Nat) :
    b.keepsNext (execCvtBf16 c sl n s) := .ite (.next h) (.next (h.sliceRow ..))

theorem State.keepsStores.execCvtE4m3 (h : b.keepsStores s) (c : CoreId) (sl : SliceBits) (n : Nat) :
    b.keepsNext (execCvtE4m3 c sl n s) := .ite (.next h) (.next (h.sliceRow ..))

theorem State.keepsStores.execCvtE5m2 (h : b.keepsStores s) (c : CoreId) (sl : SliceBits) (n : Nat) :
    b.keepsNext (execCvtE5m2 c sl n s) := .ite (.next h) (.next (h.sliceRow ..))

theorem State.keepsStores.execCvtI32 (h : b.keepsStores s) (c : CoreId) (sl : SliceBits) (n : Nat) : b.keepsNext (execCvtI32 c sl n s) :=
  .ite (.next h) (.next (h.sliceRow ..))

theorem State.keepsStores.execCvtI16 (h : b.keepsStores s) (c : CoreId) (sl : SliceBits) (n : Nat) : b.keepsNext (execCvtI16 c sl n s) :=
  .ite (.next h) (.next (h.sliceRow ..))

theorem State.keepsStores.execCvtI8 (h : b.keepsStores s) (c : CoreId) (sl : SliceBits) (n : Nat) : b.keepsNext (execCvtI8 c sl n s) :=
  .ite (.next h) (.next (h.sliceRow ..))

theorem State.keepsStores.execCvtU8 (h : b.keepsStores s) (c : CoreId) (sl : SliceBits) (n : Nat) : b.keepsNext (execCvtU8 c sl n s) :=
  .ite (.next h) (.next (h.sliceRow ..))

theorem State.keepsStores.execCvtI32Rtz (h : b.keepsStores s) (c : CoreId) (sl : SliceBits) (n : Nat) :
    b.keepsNext (execCvtI32Rtz c sl n s) := .ite (.next h) (.next (h.sliceRow ..))

theorem State.keepsStores.execCvtI32Floor (h : b.keepsStores s) (c : CoreId) (sl : SliceBits) (n : Nat) :
    b.keepsNext (execCvtI32Floor c sl n s) := .ite (.next h) (.next (h.sliceRow ..))

theorem State.keepsStores.execCvtE4m3Ns (h : b.keepsStores s) (c : CoreId) (sl : SliceBits) (n : Nat) :
    b.keepsNext (execCvtE4m3Ns c sl n s) := .ite (.next h) (.next (h.sliceRow ..))

theorem State.keepsStores.execCvtE5m2Ns (h : b.keepsStores s) (c : CoreId) (sl : SliceBits) (n : Nat) :
    b.keepsNext (execCvtE5m2Ns c sl n s) := .ite (.next h) (.next (h.sliceRow ..))

theorem State.keepsStores.execCvtPair (h : b.keepsStores s) (c : CoreId) (sl : SliceBits) (n : Nat) :
    b.keepsNext (execCvtPair c sl n s) := .ite (.next h) (.next (h.sliceRow ..))

theorem State.keepsStores.execBfExp4 (h : b.keepsStores s) (c : CoreId) (sl : SliceBits) (n : Nat) : b.keepsNext (execBfExp4 c sl n s) :=
  .ite (.next h) (.next (h.sliceRow ..))

theorem State.keepsStores.execBfExp8 (h : b.keepsStores s) (c : CoreId) (sl : SliceBits) (n : Nat) : b.keepsNext (execBfExp8 c sl n s) :=
  .ite (.next h) (.next (h.sliceRow ..))

theorem State.keepsStores.execBfExp16 (h : b.keepsStores s) (c : CoreId) (sl : SliceBits) (n : Nat) :
    b.keepsNext (execBfExp16 c sl n s) := .ite (.next h) (.next (h.sliceRow ..))

theorem State.keepsStores.execBfPack4 (h : b.keepsStores s) (c : CoreId) (sl : SliceBits) (n : Nat) :
    b.keepsNext (execBfPack4 c sl n s) := .ite (.next h) (.next (h.sliceRow ..))

theorem State.keepsStores.execBfPack8 (h : b.keepsStores s) (c : CoreId) (sl : SliceBits) (n : Nat) :
    b.keepsNext (execBfPack8 c sl n s) := .ite (.next h) (.next (h.sliceRow ..))

theorem State.keepsStores.execBfPack16 (h : b.keepsStores s) (c : CoreId) (sl : SliceBits) (n : Nat) :
    b.keepsNext (execBfPack16 c sl n s) := .ite (.next h) (.next (h.sliceRow ..))

theorem State.keepsStores.execBfUnpack (h : b.keepsStores s) (c : CoreId) (sl : SliceBits) (n : Nat) :
    b.keepsNext (execBfUnpack c sl n s) := .ite (.next h) (.next (h.sliceRow ..))

theorem State.keepsStores.execTileScale (h : b.keepsStores s) (c : CoreId) (sl : SliceBits) (n : Nat) :
    b.keepsNext (execTileScale c sl n s) := .ite (.next h) (.next (h.sliceRow ..))

theorem State.keepsStores.execLutExpand (h : b.keepsStores s) (c : CoreId) (sl : SliceBits) (n : Nat) :
    b.keepsNext (execLutExpand c sl n s) := .ite (.next h) (.next (h.sliceRow ..))

theorem State.keepsStores.execNibG0 (h : b.keepsStores s) (c : CoreId) (sl : SliceBits) (n : Nat) : b.keepsNext (execNibG0 c sl n s) :=
  .ite (.next h) (.next (h.sliceRow ..))

theorem State.keepsStores.execNibG1 (h : b.keepsStores s) (c : CoreId) (sl : SliceBits) (n : Nat) : b.keepsNext (execNibG1 c sl n s) :=
  .ite (.next h) (.next (h.sliceRow ..))

theorem State.keepsStores.execNibG2 (h : b.keepsStores s) (c : CoreId) (sl : SliceBits) (n : Nat) : b.keepsNext (execNibG2 c sl n s) :=
  .ite (.next h) (.next (h.sliceRow ..))

theorem State.keepsStores.execNibG3 (h : b.keepsStores s) (c : CoreId) (sl : SliceBits) (n : Nat) : b.keepsNext (execNibG3 c sl n s) :=
  .ite (.next h) (.next (h.sliceRow ..))

theorem State.keepsStores.execHistDump (h : b.keepsStores s) (c : CoreId) (sl : SliceBits) (n : Nat) :
    b.keepsNext (execHistDump c sl n s) := .ite (.next h) (.next (h.sliceRow ..))

/-! ## Upsets -/

theorem State.keepsStores.uncorrectable (h : b.keepsStores s) (a : Upset) : b.keepsStores (s.uncorrectable a) := by
  unfold State.uncorrectable
  split
  · exact h.markRange ..
  · exact h.setPoisonAt ..
  · exact h.setPoisonAt ..
  · exact h.setPoisonAt ..
  · exact h.markWord ..
  · exact h.markWord ..
  · exact h.other
  · exact h.other
  · exact h.setGlChan ..
  · exact h.setGlChan ..
  · exact h
  · exact h.latchClass ..

theorem State.keepsStores.corrected (h : b.keepsStores s) (a : Upset) : b.keepsStores (s.corrected a) := by
  unfold State.corrected
  split
  · exact h.engFlag ..
  · exact h

theorem State.keepsStores.upsetAt (h : b.keepsStores s) (unit : Upset) (hard : Bool) : b.keepsStores (s.upsetAt unit hard) := by
  unfold State.upsetAt
  extract_lets s1
  have hs1 : b.keepsStores s1 := .ite (h.uncorrectable ..) (h.corrected ..)
  split
  · exact hs1.faultAt ..
  · exact hs1

theorem State.keepsStores.upset (h : b.keepsStores s) : b.keepsStores s.upset := by
  unfold State.upset
  refine .ite h ?_
  split
  rename_i x v t hr
  have ht : b.keepsStores t := .of_eq Prod.snd hr h.fresh
  split
  · exact ht.upsetAt ..
  · exact ht

/-! ## Every command -/

theorem State.keepsStores.exec (h : b.keepsStores s) (i : Instr) : b.keepsNext (exec i s) := by
  cases i with
  | normal st dt n => exact h.execNormal st dt n
  | frameWait dt => exact h.execFrameWait dt
  | anchor dt => exact h.execAnchor dt
  | planOpen dt => exact h.execPlanOpen dt
  | planClose dt n => exact h.execPlanClose dt n
  | markerWait st dt n => exact h.execMarkerWait st dt n
  | planEnd st dt => exact h.execPlanEnd st dt
  | markerWaitExpiry st dt => exact h.execMarkerWaitExpiry st dt
  | planHoldEnd dt => exact h.execPlanHoldEnd dt
  | slotWindowEnd ch dt => exact h.execSlotWindowEnd ch dt
  | refreshDebtTick ch dt => exact h.execRefreshDebtTick ch dt
  | frameGo p => exact h.execFrameGo p
  | fillGo p => exact h.execFillGo p
  | fillStop p => exact h.execFillStop p
  | planStop p => exact h.execPlanStop p
  | debugEn p v => exact h.execDebugEn p v
  | debugHold p => exact h.execDebugHold p
  | debugStep p => exact h.execDebugStep p
  | condWriteVisible dt => exact h.execCondWriteVisible dt
  | plHoldLogRead => exact h.execPlHoldLogRead
  | rcFieldRead unit off => exact h.execRcFieldRead unit off
  | standaloneService ch dt => exact h.execStandaloneService ch dt
  | macSs c sl n => exact h.execMacSs c sl n
  | macSu c sl n => exact h.execMacSu c sl n
  | macBin c sl n => exact h.execMacBin c sl n
  | distL1 c sl n => exact h.execDistL1 c sl n
  | minplus c sl n => exact h.execMinplus c sl n
  | maxplus c sl n => exact h.execMaxplus c sl n
  | retire c sl n => exact h.execRetire c sl n
  | loadAcc c sl n => exact h.execLoadAcc c sl n
  | drainRowWrite n => exact h.execDrainRowWrite n
  | move c sl => exact h.execMove c sl
  | segmentLoad c sl => exact h.execSegmentLoad c sl
  | transferComplete c dt => exact h.execTransferComplete c dt
  | fadd c sl n => exact h.execFadd c sl n
  | fsub c sl n => exact h.execFsub c sl n
  | fmul c sl n => exact h.execFmul c sl n
  | fma c sl n => exact h.execFma c sl n
  | fmin c sl n => exact h.execFmin c sl n
  | fmax c sl n => exact h.execFmax c sl n
  | fdot c sl n => exact h.execFdot c sl n
  | fcmpLt c sl n => exact h.execFcmpLt c sl n
  | fcmpLe c sl n => exact h.execFcmpLe c sl n
  | fcmpEq c sl n => exact h.execFcmpEq c sl n
  | frecipEst c sl n => exact h.execFrecipEst c sl n
  | frsqrtEst c sl n => exact h.execFrsqrtEst c sl n
  | fsumErr c sl n => exact h.execFsumErr c sl n
  | fprodErr c sl n => exact h.execFprodErr c sl n
  | pairAdd c sl n => exact h.execPairAdd c sl n
  | pairMac c sl n => exact h.execPairMac c sl n
  | iadd c sl n => exact h.execIadd c sl n
  | isub c sl n => exact h.execIsub c sl n
  | iaddSat c sl n => exact h.execIaddSat c sl n
  | isubSat c sl n => exact h.execIsubSat c sl n
  | imul c sl n => exact h.execImul c sl n
  | imulHi c sl n => exact h.execImulHi c sl n
  | imin c sl n => exact h.execImin c sl n
  | imax c sl n => exact h.execImax c sl n
  | vecAnd c sl n => exact h.execVecAnd c sl n
  | vecOr c sl n => exact h.execVecOr c sl n
  | vecXor c sl n => exact h.execVecXor c sl n
  | shiftRne c sl n => exact h.execShiftRne c sl n
  | idiv c sl n => exact h.execIdiv c sl n
  | irem c sl n => exact h.execIrem c sl n
  | udiv c sl n => exact h.execUdiv c sl n
  | urem c sl n => exact h.execUrem c sl n
  | cvtF32 c sl n => exact h.execCvtF32 c sl n
  | cvtF16 c sl n => exact h.execCvtF16 c sl n
  | cvtBf16 c sl n => exact h.execCvtBf16 c sl n
  | cvtE4m3 c sl n => exact h.execCvtE4m3 c sl n
  | cvtE5m2 c sl n => exact h.execCvtE5m2 c sl n
  | cvtI32 c sl n => exact h.execCvtI32 c sl n
  | cvtI16 c sl n => exact h.execCvtI16 c sl n
  | cvtI8 c sl n => exact h.execCvtI8 c sl n
  | cvtU8 c sl n => exact h.execCvtU8 c sl n
  | cvtI32Rtz c sl n => exact h.execCvtI32Rtz c sl n
  | cvtI32Floor c sl n => exact h.execCvtI32Floor c sl n
  | cvtE4m3Ns c sl n => exact h.execCvtE4m3Ns c sl n
  | cvtE5m2Ns c sl n => exact h.execCvtE5m2Ns c sl n
  | cvtPair c sl n => exact h.execCvtPair c sl n
  | bfExp4 c sl n => exact h.execBfExp4 c sl n
  | bfExp8 c sl n => exact h.execBfExp8 c sl n
  | bfExp16 c sl n => exact h.execBfExp16 c sl n
  | bfPack4 c sl n => exact h.execBfPack4 c sl n
  | bfPack8 c sl n => exact h.execBfPack8 c sl n
  | bfPack16 c sl n => exact h.execBfPack16 c sl n
  | bfUnpack c sl n => exact h.execBfUnpack c sl n
  | tileScale c sl n => exact h.execTileScale c sl n
  | lutExpand c sl n => exact h.execLutExpand c sl n
  | nibG0 c sl n => exact h.execNibG0 c sl n
  | nibG1 c sl n => exact h.execNibG1 c sl n
  | nibG2 c sl n => exact h.execNibG2 c sl n
  | nibG3 c sl n => exact h.execNibG3 c sl n
  | histDump c sl n => exact h.execHistDump c sl n
  | vecHistClear c p => exact h.execVecHistClear c p
  | mtLotSelWrite sel => exact h.execMtLotSelWrite sel
  | mtFetch ring d => exact h.execMtFetch ring d
  | mtFlush ring d => exact h.execMtFlush ring d
  | mtPin ring d => exact h.execMtPin ring d
  | mtUnpin ring d => exact h.execMtUnpin ring d
  | mtDrop ring d => exact h.execMtDrop ring d
  | demandTransferComplete p dt => exact h.execDemandTransferComplete p dt
  | ddrLineDecode ch line err core part implicated waits => exact h.execDdrLineDecode ch line err core part implicated waits
  | writeCrcAlert ch lane line => exact h.execWriteCrcAlert ch lane line
  | caParityAlert ch line read => exact h.execCaParityAlert ch line read
  | scrubRead ch err implicated dt => exact h.execScrubRead ch err implicated dt
  | scrubQuotaTick ch dt => exact h.execScrubQuotaTick ch dt
  | drMarkWrite ch device => exact h.execDrMarkWrite ch device
  | drRetrainReq ch => exact h.execDrRetrainReq ch
  | retrainPeriodExpiry ch dt => exact h.execRetrainPeriodExpiry ch dt
  | retrainTempDrift ch temp => exact h.execRetrainTempDrift ch temp
  | retrainStep ch dt => exact h.execRetrainStep ch dt
  | retrainWaitExpiry ch dt => exact h.execRetrainWaitExpiry ch dt
  | effectiveLevelUpdate ch occ1 occ3 => exact h.execEffectiveLevelUpdate ch occ1 occ3
  | seqAssemblyVisible p dt => exact h.execSeqAssemblyVisible p dt
  | walkerItemWrite p w dt => exact h.execWalkerItemWrite p w dt
  | seqJoin ring d => exact h.execSeqJoin ring d
  | seqAppend ring d => exact h.execSeqAppend ring d
  | seqReset ring d => exact h.execSeqReset ring d
  | seqLeave ring d => exact h.execSeqLeave ring d
  | seqQuery ring d => exact h.execSeqQuery ring d
  | syncEdge dt => exact h.execSyncEdge dt
  | freeRunFrameStart dt => exact h.execFreeRunFrameStart dt
  | goldenSkipDeadline dt => exact h.execGoldenSkipDeadline dt
  | goldenJudgement dt => exact h.execGoldenJudgement dt
  | csi2Packet n x corrected drained dt => exact h.execCsi2Packet n x corrected drained dt
  | ethFrameRx k data fcsOk drained dt dtLast => exact h.execEthFrameRx k data fcsOk drained dt dtLast
  | canFrameRx k x drained dt dtLast => exact h.execCanFrameRx k x drained dt dtLast
  | tdmFrameRx k slots drained dt => exact h.execTdmFrameRx k slots drained dt
  | gpioEdgeCapture g rising dt => exact h.execGpioEdgeCapture g rising dt
  | samplePublish site => exact h.execSamplePublish site
  | linkStateChange n up => exact h.execLinkStateChange n up
  | halt q dt => exact h.execHalt q dt
  | waitTrig q dt => exact h.execWaitTrig q dt
  | stamp q dt => exact h.execStamp q dt
  | xfer q rx dt => exact h.execXfer q rx dt
  | delay q dt => exact h.execDelay q dt
  | emit q dt => exact h.execEmit q dt
  | jump q dt => exact h.execJump q dt
  | gpioOut q dt => exact h.execGpioOut q dt
  | sequencerTrigger q src dt => exact h.execSequencerTrigger q src dt
  | sequencerTimerExpiry q dt => exact h.execSequencerTimerExpiry q dt
  | gpioFrameTrigger g since dt => exact h.execGpioFrameTrigger g since dt
  | gpioPulseEnd g dt => exact h.execGpioPulseEnd g dt
  | driveTransmit n dt => exact h.execDriveTransmit n dt
  | driveTransmitEnd n rx dt => exact h.execDriveTransmitEnd n rx dt
  | datumSnapshot lag dt => exact h.execDatumSnapshot lag dt
  | datumLatch dt => exact h.execDatumLatch dt
  | datumCostStage dt => exact h.execDatumCostStage dt
  | datumPublish dt => exact h.execDatumPublish dt
  | dtRelease ring d => exact h.execDtRelease ring d
  | tvRegister ring d => exact h.execTvRegister ring d
  | tvParam ring d => exact h.execTvParam ring d
  | traverseLatch j k dt => exact h.execTraverseLatch j k dt
  | paramCopyEnd dt => exact h.execParamCopyEnd dt
  | traverseAssemblyEnd dt => exact h.execTraverseAssemblyEnd dt
  | traverseFactorEnd dt => exact h.execTraverseFactorEnd dt
  | traverseIterationEnd dt => exact h.execTraverseIterationEnd dt
  | misclosureTest dt => exact h.execMisclosureTest dt
  | traverseOutputEnd dt => exact h.execTraverseOutputEnd dt
  | estRunEnd dt => exact h.execEstRunEnd dt
  | traverseWindowEnd dt => exact h.execTraverseWindowEnd dt
  | guylineFrameStart dt => exact h.execGuylineFrameStart dt
  | channelTrigger mask dt => exact h.execChannelTrigger mask dt
  | guylineResultReady mask dt => exact h.execGuylineResultReady mask dt
  | guylineOutputWrite mask dt => exact h.execGuylineOutputWrite mask dt
  | glLoad ring d => exact h.execGlLoad ring d
  | stModel ring d => exact h.execStModel ring d
  | stadiaUpdateApply dt => exact h.execStadiaUpdateApply dt
  | proposalFlip dt => exact h.execProposalFlip dt
  | stadiaLatch dt => exact h.execStadiaLatch dt
  | candidateCheck dt => exact h.execCandidateCheck dt
  | stadiaCheckEnd dt => exact h.execStadiaCheckEnd dt
  | stadiaRecheck dt => exact h.execStadiaRecheck dt
  | stadiaGate dt => exact h.execStadiaGate dt
  | stadiaPublish dt => exact h.execStadiaPublish dt
  | lockstepMismatch dt => exact h.execLockstepMismatch dt
  | clockMonitorWindow edges dt => exact h.execClockMonitorWindow edges dt
  | readbackCheck a b dt => exact h.execReadbackCheck a b dt
  | testPulse lineB shown dt => exact h.execTestPulse lineB shown dt
  | wdiEdge dt => exact h.execWdiEdge dt
  | watchdogTimeout dt => exact h.execWatchdogTimeout dt
  | supplyMonitorFault dt => exact h.execSupplyMonitorFault dt
  | plumbEvent dt => exact h.execPlumbEvent dt
  | eventEntryRun dt => exact h.execEventEntryRun dt
  | frameEntryRun since dt => exact h.execFrameEntryRun since dt
  | gateRecordDequeue dt => exact h.execGateRecordDequeue dt
  | gateVerdict dt => exact h.execGateVerdict dt
  | safeStopDelayExpiry dt => exact h.execSafeStopDelayExpiry dt
  | goldenStoreClear dt => exact h.execGoldenStoreClear dt
  | goldenCompare dt => exact h.execGoldenCompare dt
  | pbLoad ring d => exact h.execPbLoad ring d
  | pbClear ring d => exact h.execPbClear ring d
  | pbRelease ring d => exact h.execPbRelease ring d
  | ruleEnd t => exact h.execRuleEnd t
  | ldi t => exact h.execLdi t
  | ldrec t => exact h.execLdrec t
  | ldhdr t => exact h.execLdhdr t
  | ldmem t => exact h.execLdmem t
  | stmem t => exact h.execStmem t
  | ldev t => exact h.execLdev t
  | ruleAdd t => exact h.execRuleAdd t
  | ruleSub t => exact h.execRuleSub t
  | ruleAnd t => exact h.execRuleAnd t
  | ruleOr t => exact h.execRuleOr t
  | ruleXor t => exact h.execRuleXor t
  | ruleShr t => exact h.execRuleShr t
  | ruleShl t => exact h.execRuleShl t
  | ruleMin t => exact h.execRuleMin t
  | ruleMax t => exact h.execRuleMax t
  | ruleAbs t => exact h.execRuleAbs t
  | slt t => exact h.execSlt t
  | slti t => exact h.execSlti t
  | flt t => exact h.execFlt t
  | fnan t => exact h.execFnan t
  | ruleFsub t => exact h.execRuleFsub t
  | fabs t => exact h.execFabs t
  | sext16 t => exact h.execSext16 t
  | skipz t => exact h.execSkipz t
  | skipnz t => exact h.execSkipnz t
  | verdict t => exact h.execVerdict t
  | ruleRaise t => exact h.execRuleRaise t
  | ldevd t => exact h.execLdevd t
  | ldfrm t => exact h.execLdfrm t
  | act ch bank row => exact h.execAct ch bank row
  | pre ch => exact h.execPre ch
  | rd ch bank col => exact h.execRd ch bank col
  | wr ch bank col data => exact h.execWr ch bank col data
  | mwr ch bank col data mask => exact h.execMwr ch bank col data mask
  | ref ch => exact h.execRef ch
  | sre ch => exact h.execSre ch
  | srx ch => exact h.execSrx ch
  | pde ch => exact h.execPde ch
  | dsmEntry ch => exact h.execDsmEntry ch
  | dsmExit ch => exact h.execDsmExit ch
  | mrw ch mr v => exact h.execMrw ch mr v
  | mrr ch mr => exact h.execMrr ch mr
  | lpddr5TrainingCommand ch t => exact h.execLpddr5TrainingCommand ch t
  | badCmd ch => exact h.execBadCmd ch
  | hostResetN ch low => exact h.execHostResetN ch low
  | bootPageWrite ch off v masked => exact h.execBootPageWrite ch off v masked
  | thCommitWrite ch a v => exact h.execThCommitWrite ch a v
  | streamDrainLine str bad => exact h.execStreamDrainLine str bad
  | thMap ring d => exact h.execThMap ring d
  | thUnmap ring d => exact h.execThUnmap ring d
  | thStage ring d => exact h.execThStage ring d
  | thStageFillComplete g => exact h.execThStageFillComplete g
  | thStreamOpen ring d => exact h.execThStreamOpen ring d
  | thStreamClose ring d => exact h.execThStreamClose ring d
  | hostAttnHoldoffEnd => exact h.execHostAttnHoldoffEnd
  | doorbell ch v masked => exact h.execDoorbell ch v masked
  | descriptorFetch meas bad => exact h.execDescriptorFetch meas bad
  | nop ring d => exact h.execNop ring d
  | ctxOpen ring d => exact h.execCtxOpen ring d
  | ctxClose ring d => exact h.execCtxClose ring d
  | ringCreate ring d => exact h.execRingCreate ring d
  | ringDestroy ring d => exact h.execRingDestroy ring d
  | regRead ring d => exact h.execRegRead ring d
  | regWrite ring d => exact h.execRegWrite ring d
  | bcRingSelWrite ring => exact h.execBcRingSelWrite ring
  | powerOn seed => exact h.execPowerOn seed
  | s0Complete jtag wpN => exact h.execS0Complete jtag wpN
  | s1 seq => exact h.execS1 seq
  | s2 seq => exact h.execS2 seq
  | s3 seq saved mpr => exact h.execS3 seq saved mpr
  | s4 seq rdErr links => exact h.execS4 seq rdErr links
  | s5 seq => exact h.execS5 seq
  | s6 seq => exact h.execS6 seq
  | s7 seq => exact h.execS7 seq
  | stepEnd code unit dt => exact h.execStepEnd code unit dt
  | stepTimeout dt => exact h.execStepTimeout dt
  | planLoad ring d => exact h.execPlanLoad ring d
  | planLoadFill ring d => exact h.execPlanLoadFill ring d
  | buRestart ring d => exact h.execBuRestart ring d
  | buResume ring d bad => exact h.execBuResume ring d bad
  | buRetrain ring d => exact h.execBuRetrain ring d
  | powerEstimate prot fill dt => exact h.execPowerEstimate prot fill dt
  | controlTick temp dt => exact h.execControlTick temp dt
  | throttleHoldRequest dt => exact h.execThrottleHoldRequest dt
  | droop mV dt => exact h.execDroop mV dt
  | railMeasurement r mV mA limit => exact h.execRailMeasurement r mV mA limit
  | calibrationUpdate dt => exact h.execCalibrationUpdate dt
  | thermalShutdown temp => exact h.execThermalShutdown temp
  | holdupReady vbank => exact h.execHoldupReady vbank
  | vinSag vin us => exact h.execVinSag vin us
  | saveComplete => exact h.execSaveComplete
  | pwSetCap ring d => exact h.execPwSetCap ring d
  | pwRestore ring d => exact h.execPwRestore ring d
  | pwSaveClear ring d => exact h.execPwSaveClear ring d
  | pwLearnSelWrite phase => exact h.execPwLearnSelWrite phase
  | idAttest ring d => exact h.execIdAttest ring d
  | idCert ring d => exact h.execIdCert ring d
  | idFlashWrite ring d => exact h.execIdFlashWrite ring d
  | flashProgramComplete => exact h.execFlashProgramComplete
  | idLog ring d => exact h.execIdLog ring d
  | fbRecordRelease dt => exact h.execFbRecordRelease dt
  | fbReplay ring d => exact h.execFbReplay ring d
  | replayRecordApply dt => exact h.execReplayRecordApply dt
  | fbStop ring d => exact h.execFbStop ring d
  | faultLeak site dt => exact h.execFaultLeak site dt
  | fbFaultSelWrite site => exact h.execFbFaultSelWrite site
  | dataFlit p hdr payload crc bad dt => exact h.execDataFlit p hdr payload crc bad dt
  | markerFlit p hdr payload crc bad dt => exact h.execMarkerFlit p hdr payload crc bad dt
  | syncFlit p hdr payload crc bad dt => exact h.execSyncFlit p hdr payload crc bad dt
  | ackFlit p hdr payload crc bad dt => exact h.execAckFlit p hdr payload crc bad dt
  | testFlit p clean hdr payload crc bad dt => exact h.execTestFlit p clean hdr payload crc bad dt
  | flitRelease p dt => exact h.execFlitRelease p dt
  | linkTimeoutExpiry p dt => exact h.execLinkTimeoutExpiry p dt
  | laneRetrain p meas dt => exact h.execLaneRetrain p meas dt
  | tlRetrain ring d meas => exact h.execTlRetrain ring d meas
  | nresetAssert => exact h.execNresetAssert
  | nresetRelease seed => exact h.execNresetRelease seed
  | regulatorFault => exact h.execRegulatorFault
  | bypass scan => exact h.execBypass scan
  | samplePreload cells scan => exact h.execSamplePreload cells scan
  | extest cells scan => exact h.execExtest cells scan
  | idcode scan => exact h.execIdcode scan
  | highz scan => exact h.execHighz scan
  | clamp scan => exact h.execClamp scan
  | safeVrefFall lineB => exact h.execSafeVrefFall lineB
  | currentLimitSwitchOff lineB => exact h.execCurrentLimitSwitchOff lineB
  | vinTurnOff => exact h.execVinTurnOff
  | tetherLinkDown p dt => exact h.execTetherLinkDown p dt

/-- A step takes a command of the queue, or none, and leaves stores of that form in their form. -/
theorem step_canonical {s t : State} (hs : s.canonical) (h : step s = .next t) : t.canonical := by
  rcases hp : s.pending with _ | ⟨c, rest⟩
  · rw [step_of_nil hp] at h
    exact Host.Outcome.next.inj h ▸ (State.keepsStores.refl s).upset.canonical hs
  · rw [step, hp] at h
    exact ((State.keepsStores.refl { s with pending := rest }).exec c t h).canonical { hs with }

/-- Settles O5: each operation of the module keeps its stores canonical, so each command does, and so does an upset. -/
theorem stepKeepsCanonical : Obligations.StepKeepsCanonical := fun _ _ => step_canonical

end Sys2Proof.Machine
end

section
/-! The transfer queue of a core: what enters it, and what starting its head changes (O14). -/

namespace Sys2Proof.Machine

variable {s : State} {c sl at' : Nat}

/-! ## The queue of a core -/

theorem State.queue_setQueue_same (h : spWf [] s.stow.queues = true) (c : Nat) (q : List Transfer) : (s.setQueue c q).queue c = q :=
  spGet_spSet_same _ _ _ _ h

theorem State.queuesWf_setQueue (h : spWf [] s.stow.queues = true) (c : Nat) (q : List Transfer) :
    spWf [] (s.setQueue c q).stow.queues = true := spWf_spSet h c q

/-- The transfer that a slice's transfer part asks for, between the ranges given (R122). -/
def State.queued (s : State) (c sl at' : Nat) (rsrc rdst : Place) : Transfer :=
  { core := c, seg := B.SLICE_XOP.get sl == 2, len := B.SLICE_XLEN.get sl, src := B.SLICE_XSRC.get sl, dst := B.SLICE_XDST.get sl,
    rsrc := rsrc, rdst := rdst, idesc := none, part := B.SLICE_PART.get sl, klass := B.SLICE_CLASS.get sl,
    slot := B.SLICE_SLOT_ID.get sl, got := [], route := routeOf c rsrc rdst, due := 0, done := 0,
    upto := (match routeOf c rsrc rdst with | .fabric _ _ => s.clk.fclk | _ => at'), carry := [], again := [], tags := none }

theorem State.moveStart_of_room (h : (s.queue c).length < 4) (rsrc rdst : Place) :
    s.moveStart c sl at' rsrc rdst = s.setQueue c (s.queue c ++ [s.queued c sl at' rsrc rdst]) := by
  unfold State.moveStart
  exact if_neg (Nat.not_le.mpr h)

theorem State.moveStart_of_full (h : 4 ≤ (s.queue c).length) (rsrc rdst : Place) : s.moveStart c sl at' rsrc rdst =
    s.stowFlag F.MT_STATUS_XQ_FULL 0 c (B.SLICE_PART.get sl) (B.SLICE_SLOT_ID.get sl) := by
  unfold State.moveStart
  exact if_pos h

/-- Starting the head of a queue sets its time and its descriptor alone. -/
theorem State.runHead_of_cons {x : Transfer} {rest : List Transfer} (h : s.queue c = x :: rest) (at' : Nat) :
    ∃ upto idesc, s.runHead c at' = s.setQueue c ({ x with upto := upto, idesc := idesc } :: rest) := by
  unfold State.runHead
  rw [h]
  dsimp only
  split
  · exact ⟨_, _, rfl⟩
  · exact ⟨_, _, rfl⟩

/-- A transfer carries what the transfer part of a slice of core `c` asks for. -/
structure Transfer.asked (x : Transfer) (c sl : Nat) : Prop where
  core  : x.core = c
  seg   : x.seg = (B.SLICE_XOP.get sl == 2)
  len   : x.len = B.SLICE_XLEN.get sl
  src   : x.src = B.SLICE_XSRC.get sl
  dst   : x.dst = B.SLICE_XDST.get sl
  part  : x.part = B.SLICE_PART.get sl
  klass : x.klass = B.SLICE_CLASS.get sl

theorem Transfer.asked_queued (s : State) (c sl at' : Nat) (rsrc rdst : Place) (upto : Nat) (idesc : Option Nat) :
    Transfer.asked { s.queued c sl at' rsrc rdst with upto := upto, idesc := idesc } c sl := ⟨rfl, rfl, rfl, rfl, rfl, rfl, rfl⟩

/-- The queue of `c` has grown at its end by a transfer that the slice asks for. -/
structure State.queues (s t : State) (c sl : Nat) : Prop where
  len  : (t.queue c).length = (s.queue c).length + 1
  last : ∃ x : Transfer, (t.queue c).getLast? = some x ∧ x.asked c sl
  mem  : t.mem = s.mem
  regs : t.regs = s.regs
  clk  : t.clk = s.clk

/-- An empty queue takes the transfer and starts it; another takes it at its end. -/
theorem State.moveIssue_of_room (hs : spWf [] s.stow.queues = true) (hop : B.SLICE_XOP.get sl ≠ 0) (hroom : (s.queue c).length < 4)
    (at' : Nat) : s.queues (s.moveIssue c sl at') c sl := by
  unfold State.moveIssue
  rw [if_neg hop]
  dsimp only
  generalize s.srcPlace _ _ _ _ = rsrc
  generalize s.dstPlace _ _ _ _ _ = rdst
  rw [State.moveStart_of_room hroom]
  have hqueue := State.queue_setQueue_same hs c (s.queue c ++ [s.queued c sl at' rsrc rdst])
  cases hq : s.queue c with
  | nil =>
    rw [hq, List.nil_append] at hqueue
    obtain ⟨upto, idesc, hrun⟩ := State.runHead_of_cons hqueue at'
    rw [List.isEmpty_nil, if_pos rfl, List.nil_append, hrun]
    have hhead := State.queue_setQueue_same (State.queuesWf_setQueue hs c [s.queued c sl at' rsrc rdst]) c
      [{ s.queued c sl at' rsrc rdst with upto := upto, idesc := idesc }]
    refine ⟨?_, ⟨_, ?_, Transfer.asked_queued s c sl at' rsrc rdst upto idesc⟩, rfl, rfl, rfl⟩
    · rw [hhead, hq]
      rfl
    · rw [hhead]
      rfl
  | cons y rest =>
    rw [hq] at hqueue
    rw [List.isEmpty_cons, if_neg Bool.false_ne_true]
    refine ⟨?_, ⟨_, ?_, Transfer.asked_queued s c sl at' rsrc rdst (s.queued c sl at' rsrc rdst).upto none⟩, rfl, rfl, rfl⟩
    · rw [hqueue, List.length_append, hq]
      rfl
    · rw [hqueue, List.getLast?_concat]
      rfl

/-! ## A full queue -/

theorem State.stowFlag_eq (s : State) (f : RegField) (code c part slot : Nat) : ∃ p k, s.stowFlag f code c part slot =
    { ((s.setFlag f).setFld F.MT_STATUS_LAST_CORE 0 c).setFld F.MT_STATUS_LAST_PART 0 part with plumb := p, book := k } := by
  unfold State.stowFlag
  extract_lets s₁ s₂
  obtain ⟨p, k, h₂⟩ : ∃ p k, s₂ = { s₁ with plumb := p, book := k } := by
    unfold s₂
    split
    · exact s₁.raise_eq ..
    · exact ⟨_, _, rfl⟩
  obtain ⟨k', hrecord⟩ := s₂.recordAt_eq s₂.acyc 0x0C (0x200 + c) (words [2, c, code, part, slot, s₂.fld F.PL_STEP_STEP]) 1
  refine ⟨p, k', ?_⟩
  rw [State.record, hrecord, h₂]

theorem State.stowFlag_frame (s : State) (f : RegField) (code c part slot : Nat) :
    (s.stowFlag f code c part slot).queue = s.queue ∧ (s.stowFlag f code c part slot).mem = s.mem := by
  obtain ⟨p, k, h⟩ := s.stowFlag_eq f code c part slot
  rw [h]
  exact ⟨rfl, rfl⟩

theorem State.fld_xqFull_stowFlag (hs : s.regsWf) (code c part slot : Nat) :
    (s.stowFlag F.MT_STATUS_XQ_FULL code c part slot).fld F.MT_STATUS_XQ_FULL = 1 := by
  obtain ⟨p, k, h⟩ := s.stowFlag_eq F.MT_STATUS_XQ_FULL code c part slot
  have hregs : (s.stowFlag F.MT_STATUS_XQ_FULL code c part slot).regs =
      (((s.setFlag F.MT_STATUS_XQ_FULL).setFld F.MT_STATUS_LAST_CORE 0 c).setFld F.MT_STATUS_LAST_PART 0 part).regs := by rw [h]
  have hset := State.regsWf_setFlag hs F.MT_STATUS_XQ_FULL 0
  rw [State.fld_congr hregs, State.fld_setFld_sep (State.regsWf_setFld hset ..) part (by decide),
    State.fld_setFld_sep hset c (by decide)]
  exact State.fld_setFld_same hs _ _ _ (by decide)

theorem State.moveIssue_of_full (hop : B.SLICE_XOP.get sl ≠ 0) (hfull : 4 ≤ (s.queue c).length) (at' : Nat) : s.moveIssue c sl at' =
    s.stowFlag F.MT_STATUS_XQ_FULL 0 c (B.SLICE_PART.get sl) (B.SLICE_SLOT_ID.get sl) := by
  have hsome : (s.queue c).isEmpty = false := List.isEmpty_eq_false_iff.mpr (List.ne_nil_of_length_pos (by omega))
  unfold State.moveIssue
  rw [if_neg hop]
  dsimp only
  rw [State.moveStart_of_full hfull, hsome, if_neg Bool.false_ne_true]

/-! ## MOVE and SEGMENT_LOAD -/

theorem xop_movePart {op : Nat} (hop : op < 16) (sl : Nat) : B.SLICE_XOP.get (movePart sl op) = op := by
  have hdiv : movePart sl op / 2 ^ 256 = 2 ^ 4 * (sl / 2 ^ 260) + op := by
    unfold movePart
    omega
  rw [Bits.get, Nat.shiftRight_eq_div_pow]
  show movePart sl op / 2 ^ 256 % 2 ^ 4 = op
  omega

theorem State.moveRow_of_legal (h : moveFault sl = 0) (hheld : s.coreHeld c = false) :
    s.moveRow c sl = s.moveIssue c sl s.clk.aclk := by
  unfold State.moveRow
  rw [h, hheld]
  rfl

theorem State.moveRow_of_held (h : moveFault sl = 0) (hheld : s.coreHeld c = true) : s.moveRow c sl = s := by
  unfold State.moveRow
  rw [h, hheld]
  rfl

/-- The two rows queue the slice's transfer part, with the row's operation. -/
theorem exec_of_moveRow (hs : s.coreDark = false) (c : CoreId) (sl : SliceBits) :
    ∀ q ∈ [(1, Instr.move c sl), (2, .segmentLoad c sl)], q.1 ≠ 0 ∧ B.SLICE_XOP.get (movePart sl.toNat q.1) = q.1 ∧
      exec q.2 s = .next (s.moveRow c.val (movePart sl.toNat q.1)) := by
  simp only [List.forall_mem_cons]
  refine ⟨⟨Nat.one_ne_zero, xop_movePart (by decide) _, ?_⟩, ⟨two_ne_zero, xop_movePart (by decide) _, ?_⟩, List.forall_mem_nil _⟩
  · show execMove c sl s = _
    rw [execMove, hs]
    rfl
  · show execSegmentLoad c sl s = _
    rw [execSegmentLoad, hs]
    rfl

/-- Settles O14: the row issues the transfer, which enters the queue where it has room. -/
theorem movesEnterTheQueue : Obligations.MovesEnterTheQueue := by
  intro s c sl hs hdark
  refine ⟨fun q hq hlegal hheld => ?_, fun q hq hlegal hheld => ?_⟩
  all_goals obtain ⟨hne, hop, hexec⟩ := exec_of_moveRow hdark c sl q hq
  · rw [hexec, State.moveRow_of_legal hlegal hheld]
    have hop' : B.SLICE_XOP.get (movePart sl.toNat q.1) ≠ 0 := hop.trans_ne hne
    refine ⟨fun hroom => ?_, fun hfull => ?_⟩
    · have h := State.moveIssue_of_room hs.queues hop' hroom s.clk.aclk
      obtain ⟨x, hlast, hx⟩ := h.last
      exact ⟨_, x, rfl, h.len, hlast, hx.core, hx.seg.trans (congrArg (· == 2) hop), hx.len, hx.src, hx.dst, hx.part, h.mem, h.regs, h.clk⟩
    · obtain ⟨hqueue, hmem⟩ := s.stowFlag_frame F.MT_STATUS_XQ_FULL 0 c.val (B.SLICE_PART.get (movePart sl.toNat q.1))
        (B.SLICE_SLOT_ID.get (movePart sl.toNat q.1))
      rw [State.moveIssue_of_full hop' hfull]
      exact ⟨_, rfl, congrFun hqueue _, State.fld_xqFull_stowFlag hs.regs .., hmem⟩
  · rw [hexec, State.moveRow_of_held hlegal hheld]

end Sys2Proof.Machine
end

section
/-! What a transfer between core stores moves, and what it leaves as it was (O15). -/

namespace Sys2Proof.Machine

/-! ## Addresses of the core stores -/

section
variable {a : Nat} (hlo : coreBase 0 ≤ a) (hhi : a < coreBase 16)
include hlo

theorem not_ddr_of_core : ¬a < ddrSize := by
  unfold coreBase at hlo
  unfold ddrSize
  omega

theorem imageView_of_core : imageView a = none := by
  unfold coreBase at hlo
  exact if_neg (by omega)

theorem codecView_of_core : codecView a = none := by
  unfold coreBase at hlo
  unfold codecView
  rw [if_neg (by omega), if_neg (by omega)]

theorem tetherView_of_core : tetherView a = none := by
  unfold coreBase at hlo
  exact if_neg (by omega)

theorem isGoldenView_of_core : isGoldenView a = false := by
  unfold coreBase at hlo
  unfold isGoldenView
  rw [Bool.and_eq_false_iff, decide_eq_false_iff_not, decide_eq_false_iff_not]
  omega

include hhi

theorem broadcastView_of_core : broadcastView a = none := by
  unfold coreBase at hlo hhi
  exact if_neg (by omega)

theorem inOpb_of_core : inOpb a = false := by
  unfold coreBase at hlo hhi
  unfold inOpb opbBase
  rw [Bool.and_eq_false_iff, decide_eq_false_iff_not, decide_eq_false_iff_not]
  omega

theorem datumPrivate_of_core : datumPrivate a = false := by
  unfold coreBase at hlo hhi
  unfold datumPrivate datumBase
  rw [Bool.and_eq_false_iff, decide_eq_false_iff_not, decide_eq_false_iff_not]
  omega

theorem not_brick_of_core : ¬(brickBase ≤ a ∧ a < auxBase + auxSize) := by
  unfold coreBase at hlo hhi
  unfold brickBase
  omega

end

/-! ## What a moved unit leaves as it was -/

/-- The registers, which say whose a unit of a core store is, the start test's mark and the queues have not changed. -/
structure State.keepsPlaces (s t : State) : Prop where
  regs   : t.regs = s.regs
  tested : t.bring.tested = s.bring.tested
  queues : t.stow.queues = s.stow.queues

namespace State.keepsPlaces

variable {s t u : State}

theorem refl (s : State) : s.keepsPlaces s := ⟨rfl, rfl, rfl⟩

theorem trans (h : s.keepsPlaces t) (h' : t.keepsPlaces u) : s.keepsPlaces u :=
  ⟨h'.regs.trans h.regs, h'.tested.trans h.tested, h'.queues.trans h.queues⟩

theorem fld (h : s.keepsPlaces t) (f : RegField) (i : Nat) : t.fld f i = s.fld f i := State.fld_congr h.regs f i

/-- The tag of a unit between the first core store and the last rests on the registers. -/
theorem tagOf (h : s.keepsPlaces t) {a : Nat} (hlo : coreBase 0 ≤ a) (hhi : a < coreBase 16) : t.tagOf a = s.tagOf a := by
  have hsram : ¬(sramBase ≤ a ∧ a < sramBase + sramSize) := by
    unfold coreBase at hhi
    unfold sramBase
    omega
  unfold State.tagOf
  rw [if_neg (not_ddr_of_core hlo), if_neg (not_ddr_of_core hlo), inOpb_of_core hlo hhi, if_neg Bool.false_ne_true,
    if_neg Bool.false_ne_true, if_neg hsram, if_neg hsram]
  simp only [State.planLot, State.shareOf, h.fld]

end State.keepsPlaces

/-! ## Reading and writing one unit -/

section
variable {s u r : State} {x : Transfer} {a b k n : Nat}

theorem State.length_rdBytes (s : State) (a n : Nat) : (s.rdBytes a n).length = n := by
  rw [State.rdBytes, State.shade_length, spRange, List.length_map, List.length_range]

/-- A byte of a written range reads as what was written. -/
theorem State.rdByte_wrBytes_inside (h : Memory.wf s.mem) (a : Nat) (bs : List Byte) (hk : k < bs.length) :
    (s.wrBytes a bs).rdByte (a + k) = bs.getD k 0 := by
  rw [← State.getD_rdBytes _ _ hk, State.rdBytes_wrBytes_same h]

/-- Every write of the running cycle is a transfer's, between `lo` and `hi`. -/
def State.edgeWithin (s : State) (lo hi : Nat) : Prop :=
  ∀ e ∈ s.stow.edge, e.who = .transfer ∧ lo ≤ e.addr ∧ e.addr + e.old.length ≤ hi

theorem State.edgeWithin_noteEdge {lo hi : Nat} (h : s.edgeWithin lo hi) (at' : Nat) (hlo : lo ≤ a) (hhi : a + n ≤ hi) :
    (s.noteEdge at' .transfer a n).edgeWithin lo hi := by
  intro e he
  rcases List.mem_append.mp he with he | he
  · exact h e (List.mem_of_mem_filter he)
  · rw [List.mem_singleton.mp he]
    exact ⟨rfl, hlo, by rw [State.length_rdBytes]; exact hhi⟩

/-- Bytes that no write of the running cycle meets read as they stand. -/
theorem State.bytesAt_of_edgeWithin {lo hi : Nat} (h : s.edgeWithin lo hi) (at' : Nat) (hout : a + n ≤ lo ∨ hi ≤ a) :
    s.bytesAt at' a n = s.rdBytes a n := by
  unfold State.bytesAt
  refine if_neg fun hany => ?_
  obtain ⟨e, he, hmeets⟩ := List.any_eq_true.mp hany
  simp only [Bool.and_eq_true, decide_eq_true_eq] at hmeets
  obtain ⟨-, hlo, hhi⟩ := h e he
  omega

/-- A transfer reads a unit that its partition may read as it stands, and with no effect. -/
theorem State.readUnit_of_core {at' lo hi : Nat} (hsrc : x.rsrc = .addr a) (hlo : coreBase 0 ≤ a) (hhi : a + 64 * k < coreBase 16)
    (hreads : (s.tagOf (a + 64 * k)).reads x.part = true) (hedge : s.edgeWithin lo hi)
    (hout : a + 64 * k + 64 ≤ lo ∨ hi ≤ a + 64 * k) :
    ∃ p q, s.readUnit x k at' = (⟨s.rdBytes (a + 64 * k) 64, p, q⟩, s) := by
  have hlo' : coreBase 0 ≤ a + 64 * k := Nat.le_add_right_of_le hlo
  unfold State.readUnit
  rw [hsrc]
  dsimp only
  rw [imageView_of_core hlo, codecView_of_core hlo]
  refine ⟨s.markAt at' (a + 64 * k), s.markAt at' (a + 64 * k + 32), ?_⟩
  show s.readPlain x.part (a + 64 * k) at' = _
  unfold State.readPlain
  rw [hreads, datumPrivate_of_core hlo' hhi, if_neg (not_ddr_of_core hlo'), ← State.bytesAt_of_edgeWithin hedge at' hout]
  rfl

/-- With no vector result of the cycle, a store at a core store notes what it overwrites and nothing else. -/
theorem State.storeEdge_of_core {at' lo hi : Nat} (hlo : coreBase 0 ≤ a) (hhi : a < coreBase 16) (hedge : s.edgeWithin lo hi) :
    s.storeEdge a at' = s ∨ s.storeEdge a at' = s.noteEdge at' .transfer a 64 := by
  unfold State.storeEdge
  rw [inOpb_of_core hlo hhi, if_neg Bool.false_ne_true]
  dsimp only
  split
  · right
    rw [List.filterMap_eq_nil_iff.mpr fun e he => ?_]
    · rfl
    · rw [(hedge e he).1]
  · exact .inl rfl

/-- A unit that a transfer stores between core stores: its bytes, its marks, and what it overwrites. -/
structure State.storesUnit (s t : State) (a : Nat) (bs : List Byte) (lo hi : Nat) : Prop extends s.keepsPlaces t where
  edge    : s.edgeWithin lo hi → t.edgeWithin lo hi
  mem     : Memory.wf s.mem → Memory.wf t.mem
  inside  : Memory.wf s.mem → ∀ j, j < bs.length → t.rdByte (a + j) = bs.getD j 0
  outside : Memory.wf s.mem → ∀ y, (y < a ∨ a + bs.length ≤ y) → t.rdByte y = s.rdByte y

theorem State.rdByte_congr (hmem : r.mem = s.mem) (htested : r.bring.tested = s.bring.tested) (y : Nat) : r.rdByte y = s.rdByte y := by
  simp only [State.rdByte, State.blank, hmem, htested]

/-- Storing the bytes and the marks of a unit, whether or not the write of the cycle is noted before. -/
theorem State.storesUnit_of_storeEdge {at' lo hi : Nat} {bs : List Byte} (p q : Bool)
    (hr : r = s ∨ r = s.noteEdge at' .transfer a 64) (hlo : lo ≤ a) (hhi : a + 64 ≤ hi) :
    s.storesUnit (((r.wrBytes a bs).setPoisonAt a p).setPoisonAt (a + 32) q) a bs lo hi := by
  obtain ⟨hplaces, hmem, hedge⟩ : s.keepsPlaces r ∧ r.mem = s.mem ∧ (s.edgeWithin lo hi → r.edgeWithin lo hi) := by
    rcases hr with rfl | rfl
    · exact ⟨.refl r, rfl, id⟩
    · exact ⟨⟨rfl, rfl, rfl⟩, rfl, fun h => State.edgeWithin_noteEdge h at' hlo hhi⟩
  have hwf (h : Memory.wf s.mem) : Memory.wf r.mem := hmem ▸ h
  refine ⟨hplaces.trans ⟨rfl, rfl, rfl⟩, hedge, fun h => State.memWf_wrBytes (hwf h) a bs, fun h j hj => ?_, fun h y hy => ?_⟩
  · exact State.rdByte_wrBytes_inside (hwf h) a bs hj
  · exact (State.rdByte_wrBytes_outside (hwf h) a bs hy).trans (State.rdByte_congr hmem hplaces.tested y)

/-- A transfer writes a unit that its partition may write. -/
theorem State.writeUnit_of_core {at' lo hi : Nat} {bs : List Byte} (p q : Bool) (hseg : x.seg = false)
    (hdst : x.rdst = .addr b)
    (hlo : coreBase 0 ≤ b) (hhi : b + 64 * k < coreBase 16) (hwrites : (s.tagOf (b + 64 * k)).writes x.part = true)
    (hedge : s.edgeWithin lo hi) (hin : lo ≤ b + 64 * k) (hend : b + 64 * k + 64 ≤ hi) :
    s.storesUnit (s.writeUnit x k ⟨bs, p, q⟩ at') (b + 64 * k) bs lo hi := by
  have hlo' : coreBase 0 ≤ b + 64 * k := Nat.le_add_right_of_le hlo
  have hunit : s.writeUnit x k ⟨bs, p, q⟩ at' =
      (((s.storeEdge (b + 64 * k) at').wrBytes (b + 64 * k) bs).setPoisonAt (b + 64 * k) p).setPoisonAt (b + 64 * k + 32) q := by
    unfold State.writeUnit
    rw [hdst]
    dsimp only
    rw [hseg, if_neg Bool.false_ne_true, imageView_of_core hlo, broadcastView_of_core hlo' hhi, tetherView_of_core hlo',
      isGoldenView_of_core hlo']
    show s.writePlain x.part (b + 64 * k) ⟨bs, p, q⟩ at' = _
    unfold State.writePlain State.storeUnit
    rw [if_pos hwrites, if_neg (not_brick_of_core hlo' hhi), datumPrivate_of_core hlo' hhi, if_neg Bool.false_ne_true,
      if_neg (not_ddr_of_core hlo')]
  rw [hunit]
  exact State.storesUnit_of_storeEdge p q (State.storeEdge_of_core hlo' hhi hedge) hin hend

/-! ## Moving a span of units -/

/-- Unit `k` of the transfer is read and written. -/
def State.moveUnit (s : State) (x : Transfer) (at' k : Nat) : State := (s.readUnit x k at').2.writeUnit x k (s.readUnit x k at').1 at'

theorem State.moveSpan_of_untagged (h : x.tags = none) (s : State) (k n at' : Nat) :
    s.moveSpan x k n at' = (List.range n).foldl (fun t i => t.moveUnit x at' (k + i)) (s.worked 3 x.part n) := by
  unfold State.moveSpan State.underTags
  rw [h]
  rfl

/-- A transfer between ranges of core stores that do not meet, whose partition may read the one and write the other (R33, R122). -/
structure State.movesWithin (s : State) (x : Transfer) (a b : Nat) : Prop where
  seg    : x.seg = false
  src    : x.rsrc = .addr a
  dst    : x.rdst = .addr b
  srcLo  : coreBase 0 ≤ a
  srcHi  : a + 64 * x.len ≤ coreBase 16
  dstLo  : coreBase 0 ≤ b
  dstHi  : b + 64 * x.len ≤ coreBase 16
  apart  : a + 64 * x.len ≤ b ∨ b + 64 * x.len ≤ a
  reads  : ∀ k, k < x.len → (s.tagOf (a + 64 * k)).reads x.part = true
  writes : ∀ k, k < x.len → (s.tagOf (b + 64 * k)).writes x.part = true

/-- The units from `k` to before `n` have been copied, and nothing else of memory has changed. -/
structure State.movedTo (u t : State) (x : Transfer) (a b k n : Nat) : Prop extends u.keepsPlaces t where
  edge   : t.edgeWithin b (b + 64 * x.len)
  mem    : Memory.wf t.mem
  copied : ∀ j, 64 * k ≤ j → j < 64 * n → t.rdByte (b + j) = u.rdByte (a + j)
  other  : ∀ y, (y < b + 64 * k ∨ b + 64 * n ≤ y) → t.rdByte y = u.rdByte y

/-- One more unit. -/
theorem State.movedTo.moveUnit {t : State} (hx : u.movesWithin x a b) (h : u.movedTo t x a b k n) (hkn : k ≤ n) (hn : n < x.len)
    (at' : Nat) :
    u.movedTo (t.moveUnit x at' n) x a b k (n + 1) := by
  have hsrcHi := hx.srcHi
  have hdstHi := hx.dstHi
  have hsrcLo := hx.srcLo
  have hdstLo := hx.dstLo
  have hapart := hx.apart
  have hreads : (t.tagOf (a + 64 * n)).reads x.part = true := by
    rw [h.tagOf (by omega) (by omega)]
    exact hx.reads n hn
  have hwrites : (t.tagOf (b + 64 * n)).writes x.part = true := by
    rw [h.tagOf (by omega) (by omega)]
    exact hx.writes n hn
  obtain ⟨p, q, hread⟩ := State.readUnit_of_core (at' := at') hx.src hx.srcLo (by omega)
    hreads h.edge (by omega)
  have hwrite := State.writeUnit_of_core (at' := at') (bs := t.rdBytes (a + 64 * n) 64) p q hx.seg hx.dst hx.dstLo (by omega)
    hwrites h.edge (by omega) (by omega)
  have hunit : t.moveUnit x at' n = t.writeUnit x n ⟨t.rdBytes (a + 64 * n) 64, p, q⟩ at' := by rw [State.moveUnit, hread]
  rw [hunit]
  refine ⟨h.tokeepsPlaces.trans hwrite.tokeepsPlaces, hwrite.edge h.edge, hwrite.mem h.mem, fun j hlo hhi => ?_, fun y hy => ?_⟩
  · rcases Nat.lt_or_ge j (64 * n) with hj | hj
    · rw [hwrite.outside h.mem _ (by omega)]
      exact h.copied j hlo hj
    · obtain ⟨i, rfl⟩ := Nat.exists_eq_add_of_le hj
      have hi : i < 64 := by omega
      have hbyte := hwrite.inside h.mem i (by rw [State.length_rdBytes]; exact hi)
      rw [State.getD_rdBytes _ _ hi, h.other _ (by omega)] at hbyte
      rw [← Nat.add_assoc, ← Nat.add_assoc]
      exact hbyte
  · rw [hwrite.outside h.mem y (by rw [State.length_rdBytes]; omega)]
    exact h.other y (by omega)

/-- A span of units. -/
theorem State.movedTo.moveSpan {t : State} (hx : u.movesWithin x a b) (htags : x.tags = none) (h : u.movedTo t x a b k n) (hkn : k ≤ n)
    (m : Nat) (hm : n + m ≤ x.len) (at' : Nat) : u.movedTo (t.moveSpan x n m at') x a b k (n + m) := by
  have hstart : u.movedTo (t.worked 3 x.part m) x a b k n := { h with }
  rw [State.moveSpan_of_untagged htags]
  revert hm
  generalize t.worked 3 x.part m = r at hstart ⊢
  induction m with
  | zero => exact fun _ => hstart
  | succ m ih =>
    intro hm
    rw [List.range_succ, List.foldl_append]
    exact (ih (by omega)).moveUnit hx (by omega) (by omega) at'

end

/-! ## The end of a transfer -/

/-- Memory, the start test's mark and the queues have not changed. -/
structure State.keepsMoved (s t : State) : Prop where
  mem    : t.mem = s.mem
  tested : t.bring.tested = s.bring.tested
  queues : t.stow.queues = s.stow.queues

namespace State.keepsMoved

variable {s t u : State}

theorem refl (s : State) : s.keepsMoved s := ⟨rfl, rfl, rfl⟩

theorem trans (h : s.keepsMoved t) (h' : t.keepsMoved u) : s.keepsMoved u :=
  ⟨h'.mem.trans h.mem, h'.tested.trans h.tested, h'.queues.trans h.queues⟩

theorem ite {p : Prop} [Decidable p] (ht : s.keepsMoved t) (hu : s.keepsMoved u) : s.keepsMoved (if p then t else u) := by
  split
  · exact ht
  · exact hu

theorem foldl {β : Type} {f : State → β → State} (l : List β) (hf : ∀ (t : State) y, t.keepsMoved (f t y)) (s : State) :
    s.keepsMoved (l.foldl f s) :=
  List.foldlRecOn (motive := s.keepsMoved) l f (.refl s) fun t ht y _ => ht.trans (hf t y)

theorem setLot (s : State) (l : Nat) (e : Lot) : s.keepsMoved (s.setLot l e) := ⟨rfl, rfl, rfl⟩

theorem lotWritten (s : State) (a : Nat) : s.keepsMoved (s.lotWritten a) :=
  .ite (.ite (.setLot ..) (.ite (.setLot ..) (.refl s))) (.refl s)

theorem touch (s : State) (p l : Nat) : s.keepsMoved (s.touch p l) := ⟨rfl, rfl, rfl⟩

theorem lotHome (s : State) (l : Nat) : s.keepsMoved (s.lotHome l) := .ite (.setLot ..) (.refl s)

theorem lotMoved (s : State) (x : Transfer) (l : Nat) : s.keepsMoved (s.lotMoved x l) := by
  unfold State.lotMoved
  split
  · exact .ite (.ite ⟨rfl, rfl, rfl⟩ (.ite ⟨rfl, rfl, rfl⟩ (.lotWritten ..))) (.refl s)
  · exact .ite (.lotWritten ..) (.refl s)
  · exact .refl s

theorem lotHomed (s : State) (x : Transfer) (l : Nat) : s.keepsMoved (s.lotHomed x l) := by
  unfold State.lotHomed
  split
  · exact .ite (.lotHome ..) (.refl s)
  · exact .refl s

theorem moveLots (s : State) (x : Transfer) : s.keepsMoved (s.moveLots x) :=
  ((State.keepsMoved.foldl _ (fun t l => .lotMoved t x l) s).trans (.foldl _ (fun t l => .lotHomed t x l) _)).trans
    (.foldl _ (fun t l => .ite (.touch t x.part l) (.refl t)) _)

theorem tlPump (s : State) (p : Nat) : s.keepsMoved (s.tlPump p) := .ite ⟨rfl, rfl, rfl⟩ (.refl s)

theorem tlMarkers (s : State) (p : Nat) : s.keepsMoved (s.tlMarkers p) :=
  State.keepsMoved.trans (t := s.setTlPort p (TlPort.passMarkers (s.tlPort p).markers.length (s.tlPort p))) ⟨rfl, rfl, rfl⟩ (.tlPump ..)

theorem popQueue (s : State) (c : Nat) : (s.setQueue c ((s.queue c).drop 1)).keepsMoved (s.popQueue c) := by
  refine .foldl _ (fun t p => .ite (.refl t) ?_) _
  exact State.keepsMoved.trans (t := t.setTlPort p { t.tlPort p with markers := (t.tlPort p).markers.map fun (m : MarkerOut) =>
    { m with ahead := spSet 0 m.ahead c (spGet 0 m.ahead c - 1) } }) ⟨rfl, rfl, rfl⟩ (.tlMarkers ..)

end State.keepsMoved

section
variable {s u : State} {x : Transfer} {a b c : Nat}

theorem codecMisaligned_of_core (h : coreBase 0 ≤ a) (n : Nat) : codecMisaligned (.addr a) n = false := by
  show ((codecView a).isSome && (a % 128 != 0 || n % 2 != 0)) = false
  rw [codecView_of_core h]
  rfl

/-- A transfer between core stores meets nothing as a whole. -/
theorem State.moveWhole_of_core (hx : u.movesWithin x a b) (hsrc : x.src = a) (s : State) : s.moveWhole x = s := by
  simp [State.moveWhole, hsrc, hx.seg, hx.src, hx.dst, imageView_of_core hx.srcLo, codecMisaligned_of_core hx.srcLo,
    codecMisaligned_of_core hx.dstLo]

theorem State.underTags_of_untagged (h : x.tags = none) (s : State) (f : State → State) : s.underTags x f = f s := by
  unfold State.underTags
  rw [h]

theorem State.runHead_of_nil (h : s.queue c = []) (at' : Nat) : s.runHead c at' = s := by
  unfold State.runHead
  rw [h]

/-- The running transfer leaves the queue. -/
theorem State.queue_popQueue (h : spWf [] s.stow.queues = true) (c : Nat) : (s.popQueue c).queue c = (s.queue c).drop 1 := by
  rw [← State.queue_setQueue_same h c ((s.queue c).drop 1), State.queue, State.queue, (State.keepsMoved.popQueue s c).queues]

/-- The completion moves what is left, then the lots' entries, and the queue loses its only transfer. -/
theorem State.moveComplete_of_core (hx : u.movesWithin x a b) (hsrc : x.src = a) (hroute : x.route ≠ .ddr) (htags : x.tags = none)
    (hdue : x.done ≤ x.due) (hlen : x.due ≤ x.len) (hmem : Memory.wf u.mem) (hqueues : spWf [] u.stow.queues = true)
    (hedge : u.stow.edge = []) (hqueue : u.queue c = [x]) :
    ∃ t, u.movedTo t x a b x.done x.len ∧ (u.moveComplete c x).queue c = [] ∧
      ∀ y, (u.moveComplete c x).rdByte y = t.rdByte y := by
  have hstart : u.movedTo u x a b x.done x.done :=
    ⟨.refl u, by rw [State.edgeWithin, hedge]; exact List.forall_mem_nil _, hmem, fun j _ _ => by omega, fun _ _ => rfl⟩
  have hdone := hstart.moveSpan hx htags le_rfl (x.due - x.done) (by omega) (u.clk.aclk - 1)
  rw [Nat.add_sub_of_le hdue] at hdone
  have hmoved := hdone.moveSpan hx htags hdue (x.len - x.due) (by omega) u.clk.aclk
  rw [Nat.add_sub_of_le hlen] at hmoved
  unfold State.moveComplete
  rw [State.moveWhole_of_core hx hsrc]
  dsimp only
  rw [if_neg hroute, Nat.max_eq_right hdue, State.underTags_of_untagged htags]
  generalize (u.moveSpan x x.done (x.due - x.done) (u.clk.aclk - 1)).moveSpan x x.due (x.len - x.due) u.clk.aclk = t at hmoved ⊢
  have hlots := State.keepsMoved.moveLots t x
  have hkept : (t.moveLots x).stow.queues = u.stow.queues := hlots.queues.trans hmoved.queues
  generalize t.moveLots x = r at hlots hkept ⊢
  have hnil : (r.popQueue c).queue c = [] := by
    rw [State.queue_popQueue (by rw [hkept]; exact hqueues), State.queue, hkept]
    exact congrArg (List.drop 1) hqueue
  have hpop := State.keepsMoved.popQueue r c
  rw [State.runHead_of_nil hnil]
  exact ⟨t, hmoved, hnil, State.rdByte_congr (hpop.mem.trans hlots.mem) (hpop.tested.trans hlots.tested)⟩

end

/-! ## TRANSFER_COMPLETE -/

section
variable {s u : State} {c : CoreId} {dt : Nat} {x : Transfer} {rest : List Transfer} (hdark : s.coreDark = false)
  (hu : u = (s.tickA dt).countMoves (s.clk.aclk + dt)) (hqueue : u.queue c.val = x :: rest)
include hdark hu hqueue

theorem exec_transferComplete_of_cons : exec (.transferComplete c dt) s =
    if (u.pausesMoves && u.coreHeld c.val) || (x.route == .ddr && !x.granted) || u.tetherWaits x then .next u
    else .next (u.moveComplete c.val x) := by
  show execTransferComplete c dt s = _
  unfold execTransferComplete
  rw [hdark, if_neg Bool.false_ne_true, ← hu]
  dsimp only
  rw [hqueue]

/-- A hold that pauses transfers lets only time pass. -/
theorem exec_transferComplete_of_paused (hpause : u.pausesMoves = true) (hheld : u.coreHeld c.val = true) :
    exec (.transferComplete c dt) s = .next u := by
  rw [exec_transferComplete_of_cons hdark hu hqueue, hpause, hheld]
  rfl

theorem exec_transferComplete_of_running (hpause : u.pausesMoves = false) (hroute : x.route ≠ .ddr) (hdst : coreBase 0 ≤ x.dst) :
    exec (.transferComplete c dt) s = .next (u.moveComplete c.val x) := by
  have hwait : u.tetherWaits x = false := by
    unfold State.tetherWaits
    rw [tetherView_of_core hdst]
  rw [exec_transferComplete_of_cons hdark hu hqueue, hpause, hwait, beq_eq_false_iff_ne.mpr hroute]
  rfl

end

/-- Settles O15: the spans of a completion copy the units that are left, and what follows them changes no byte. -/
theorem transferMovesBytes : Obligations.TransferMovesBytes := by
  intro s u c dt a b x hs hdark hu hqueue
  have hcanon : u.canonical := by
    rw [hu]
    exact ((State.keepsStores.refl s).tickA dt).countMoves .. |>.canonical hs
  refine ⟨exec_transferComplete_of_paused hdark hu hqueue, ?_⟩
  intro hpause hroute hseg _ htags hedge hsrc hdst hrsrc hrdst hdue hlen hsrcLo hsrcHi hdstLo hdstHi hapart htag
  have hx : u.movesWithin x a b :=
    ⟨hseg, hrsrc, hrdst, hsrcLo, hsrcHi, hdstLo, hdstHi, hapart, fun k hk => (htag k hk).1, fun k hk => (htag k hk).2⟩
  obtain ⟨t, hmoved, hnil, hbytes⟩ := State.moveComplete_of_core (c := c.val) hx hsrc hroute htags hdue hlen hcanon.mem hcanon.queues
    hedge hqueue
  refine ⟨_, exec_transferComplete_of_running hdark hu hqueue hpause hroute (hdst ▸ hdstLo), hnil, fun j hj hj' => ?_, fun y hy => ?_⟩
  · rw [hbytes, hmoved.copied j hj hj']
  · rw [hbytes, hmoved.other y hy]

end Sys2Proof.Machine
end

section
/-! What the demand commands, their transfers and MT_LOT_SEL do (O27). -/

namespace Sys2Proof.Machine

/-! ## MT_LOT_SEL -/

/-- What MT_LOT_W0 and MT_LOT_W1 show after a write of MT_LOT_SEL. -/
def State.shownLot (s : State) (l : Nat) : BitVec 64 × BitVec 64 :=
  if l < 6144 then (s.lotWord l, BitVec.ofNat 64 (s.lot l).last) else (0, 0)

theorem exec_mtLotSelWrite {s : State} (sel : BitVec 13) (hdark : s.dark = false) : exec (.mtLotSelWrite sel) s =
    .next ((s.setReg R.MT_LOT_W0 0 (s.shownLot sel.toNat).1).setReg R.MT_LOT_W1 0 (s.shownLot sel.toNat).2) := by
  show execMtLotSelWrite sel s = _
  unfold execMtLotSelWrite State.shownLot
  rw [hdark, if_neg Bool.false_ne_true]
  dsimp only
  split <;> rfl

/-- The write of MT_LOT_SEL shows the entry and changes no other register. -/
theorem State.regs_showLot {s : State} (h : s.regsWf) (v w : BitVec 64) :
    let t := (s.setReg R.MT_LOT_W0 0 v).setReg R.MT_LOT_W1 0 w
    t.reg R.MT_LOT_W0 = v ∧ t.reg R.MT_LOT_W1 = w ∧
      ∀ (r : RegArr) (j : Nat), R.MT_LOT_W0.key 0 ≠ r.key j → R.MT_LOT_W1.key 0 ≠ r.key j → t.reg r j = s.reg r j := by
  have h' : (s.setReg R.MT_LOT_W0 0 v).regsWf := State.regsWf_setReg h ..
  have hkeys : R.MT_LOT_W1.key 0 ≠ R.MT_LOT_W0.key 0 := by decide
  refine ⟨?_, State.reg_setReg_same h' .., fun r j h0 h1 => ?_⟩
  · rw [State.reg_setReg_ne h' w hkeys, State.reg_setReg_same h]
  · rw [State.reg_setReg_ne h' w h1, State.reg_setReg_ne h v h0]

/-! ## A demand command that is taken -/

section
variable {s : State} {c : Cmd}

theorem demandBody_of_denied (h : s.demandDenied c = true) : demandBody s c = (s, some (denied 0)) := if_pos h

theorem demandBody_of_misaligned (hlen : c.w64 4 % 65536 ≠ 0) (h : s.demandDenied c = false) :
    demandBody s c = (s, some (lenRange 0)) := by
  unfold demandBody
  rw [h, if_neg Bool.false_ne_true]
  exact if_pos hlen

/-- In service mode no command of the partition starts. -/
theorem State.demandRun_of_service {p : Nat} (h : s.demandMode p = false) (n : Nat) : s.demandRun n p = s := by
  cases n with
  | zero => rfl
  | succ n =>
    unfold State.demandRun
    split
    · rfl
    · rw [h, if_neg Bool.false_ne_true, ite_self]

theorem demandBody_of_service (hlen : c.w64 4 % 65536 = 0) (h : s.demandDenied c = false) (hmode : s.demandMode c.part = false) :
    demandBody s c = (s.setDemandQueue c.part (s.demandQueue c.part ++ [⟨c.ring, c.d, false, [], 0, 0⟩]), none) := by
  unfold demandBody
  rw [h, if_neg Bool.false_ne_true, if_neg (show ¬c.w64 4 % lotSize ≠ 0 from not_not.mpr hlen)]
  have hmode' (q : List DemandCmd) : (s.setDemandQueue c.part q).demandMode c.part = false := hmode
  exact congrArg (·, none) (State.demandRun_of_service (hmode' _) _)

end

/-! ## The lot table -/

abbrev State.lotsWf (s : State) : Prop := spWf Lot.reset s.stow.lots = true

section
variable {s : State} (h : s.lotsWf)
include h

theorem State.lotsWf_setLot (l : Nat) (e : Lot) : (s.setLot l e).lotsWf := spWf_spSet h l e

theorem State.lot_setLot_same (l : Nat) (e : Lot) : (s.setLot l e).lot l = e := spGet_spSet_same _ _ _ _ h

theorem State.lot_setLot_ne {l k : Nat} (e : Lot) (hk : k ≠ l) : (s.setLot l e).lot k = s.lot k := spGet_spSet_ne _ _ _ _ _ h hk.symm

theorem State.lotsWf_touch (p l : Nat) : (s.touch p l).lotsWf := State.lotsWf_setLot h ..

theorem State.lot_touch_same (p l : Nat) : (s.touch p l).lot l = { s.lot l with last := s.fld F.MT_SEQ_SEQ p } :=
  State.lot_setLot_same h ..

theorem State.lot_touch_ne (p : Nat) {l k : Nat} (hk : k ≠ l) : (s.touch p l).lot k = s.lot k := State.lot_setLot_ne h _ hk

/-- Marking one lot IN_FLIGHT, however many of the moves are its own. -/
theorem State.lot_inFlight {l : Nat} {ms : List DemandMove} (hms : ∀ m ∈ ms, m.lot = l) (hne : ms ≠ []) :
    (s.inFlight ms).lot l = { s.lot l with state := 4 } ∧ ∀ k, k ≠ l → (s.inFlight ms).lot k = s.lot k := by
  induction ms generalizing s with
  | nil => exact absurd rfl hne
  | cons m ms ih =>
    obtain rfl := hms m (List.mem_cons_self ..)
    have hset := State.lotsWf_setLot h m.lot { s.lot m.lot with state := 4 }
    have hsame := State.lot_setLot_same h m.lot { s.lot m.lot with state := 4 }
    have hother := fun k (hk : k ≠ m.lot) => State.lot_setLot_ne h { s.lot m.lot with state := 4 } hk
    rw [State.inFlight, List.foldl_cons, ← State.inFlight]
    rcases eq_or_ne ms [] with rfl | hms'
    · exact ⟨hsame, hother⟩
    · obtain ⟨hl, hk⟩ := ih hset (fun m hm => hms m (List.mem_cons_of_mem _ hm)) hms'
      exact ⟨by rw [hl, hsame], fun k hkl => by rw [hk k hkl, hother k hkl]⟩

end

theorem State.inFlight_frame (s : State) (ms : List DemandMove) : (s.inFlight ms).regs = s.regs ∧ (s.inFlight ms).mem = s.mem :=
  List.foldlRecOn (motive := fun (t : State) => t.regs = s.regs ∧ t.mem = s.mem) ms _ ⟨rfl, rfl⟩ fun _ ht _ _ => ht

theorem State.state_of_holding {s : State} {ls : List Nat} {u l : Nat} (h : s.holding ls u = some l) : (s.lot l).state ≠ 4 := by
  have hl := List.find?_some h
  simp only [Bool.and_eq_true, Bool.or_eq_true, beq_iff_eq] at hl
  omega

/-- The oldest evictable lot is an evictable one. -/
theorem State.mem_of_oldest {s : State} {ls : List Nat} {l : Nat} (h : s.oldest ls = some l) :
    l ∈ ls.filter fun l => ((s.lot l).state == 1 || (s.lot l).state == 2) && !(s.lot l).pin := by
  unfold State.oldest at h
  dsimp only at h
  revert h
  refine List.foldlRecOn (motive := fun b => b = some l → l ∈ _) _ _ (fun h => nomatch h) fun b hb x hx => ?_
  rcases b with _ | y
  · intro h
    exact Option.some.inj h ▸ hx
  · dsimp only
    split
    · intro h
      exact Option.some.inj h ▸ hx
    · exact hb

/-! ## FETCH -/

/-- The lot `l` taken for the piece `u`: CLEAN with that home, and the youngest of its partition. -/
def State.fillLot (s : State) (p u l : Nat) : State := (s.setLot l { s.lot l with state := 1, homeValid := true, home := u }).touch p l

/-- The number of lots among `ls` that a FETCH may take. -/
def State.fetchRoom (s : State) (ls : List Nat) : Nat :=
  (ls.filter fun l => (s.lot l).state == 0).length +
    (ls.filter fun l => ((s.lot l).state == 1 || (s.lot l).state == 2) && !(s.lot l).pin).length

section
variable {s : State} {c : Cmd} {u l : Nat} {ls : List Nat}

/-- What a FETCH of one piece does. -/
theorem State.demandStart_fetch (hop : B.DESC_OPCODE.get c.d.toNat = 0x0201) (hp : demandPieces c = [u])
    (hls : ls = s.shareLots (c.w 6 % 16) c.part) : s.demandStart c =
      if s.fetchRoom ls < ([u].filter fun u => (s.holding ls u).isNone).length then (s, [], lenRange 0)
      else
        let f := s.fetchPiece c.part u ls
        (f.1.inFlight f.2.1, f.2.1, Reply.detailed (min 0xFFFF f.2.2)) := by
  unfold State.demandStart
  dsimp only
  rw [hop, hp, ← hls]
  simp only [List.foldl_cons, List.foldl_nil, List.nil_append, Nat.zero_add]
  rfl

theorem State.demandStart_fetch_held (hop : B.DESC_OPCODE.get c.d.toNat = 0x0201) (hp : demandPieces c = [u])
    (hls : ls = s.shareLots (c.w 6 % 16) c.part) (h : s.holding ls u = some l) :
    s.demandStart c = (s.touch c.part l, [], Reply.detailed 0) := by
  have hf : s.fetchPiece c.part u ls = (s.touch c.part l, [], 0) := by
    unfold State.fetchPiece
    rw [h]
  rw [State.demandStart_fetch hop hp hls, hf, List.filter_cons_of_neg (by rw [h]; exact Bool.false_ne_true)]
  rfl

theorem State.demandStart_fetch_new (hop : B.DESC_OPCODE.get c.d.toNat = 0x0201) (hp : demandPieces c = [u])
    (hls : ls = s.shareLots (c.w 6 % 16) c.part) (h : s.holding ls u = none) : s.demandStart c =
      if s.fetchRoom ls = 0 then (s, [], lenRange 0)
      else
        let f := s.fetchPiece c.part u ls
        (f.1.inFlight f.2.1, f.2.1, Reply.detailed (min 0xFFFF f.2.2)) := by
  rw [State.demandStart_fetch hop hp hls, List.filter_cons_of_pos (by rw [h]; rfl)]
  exact if_congr Nat.lt_one_iff rfl rfl

/-- No lot of the share is FREE or evictable. -/
theorem State.fetchRoom_eq_zero
    (h : ∀ l ∈ ls, (s.lot l).state ≠ 0 ∧ ((s.lot l).state = 1 ∨ (s.lot l).state = 2 → (s.lot l).pin = true)) :
    s.fetchRoom ls = 0 := by
  have hfree : (ls.filter fun l => (s.lot l).state == 0) = [] :=
    List.filter_eq_nil_iff.mpr fun l hl => by simpa using (h l hl).1
  have hold : (ls.filter fun l => ((s.lot l).state == 1 || (s.lot l).state == 2) && !(s.lot l).pin) = [] :=
    List.filter_eq_nil_iff.mpr fun l hl => by simpa using (h l hl).2
  rw [State.fetchRoom, hfree, hold]
  rfl

theorem State.fetchRoom_ne_zero_of_free (h : ls.find? (fun k => (s.lot k).state == 0) = some l) : s.fetchRoom ls ≠ 0 := by
  have hmem : l ∈ ls.filter fun l => (s.lot l).state == 0 :=
    List.mem_filter.mpr ⟨List.mem_of_find?_eq_some h, by simpa using List.find?_some h⟩
  have := List.length_pos_of_mem hmem
  unfold State.fetchRoom
  omega

theorem State.fetchRoom_ne_zero_of_oldest (h : s.oldest ls = some l) : s.fetchRoom ls ≠ 0 := by
  have := List.length_pos_of_mem (State.mem_of_oldest h)
  unfold State.fetchRoom
  omega

theorem State.demandStart_fetch_free (hop : B.DESC_OPCODE.get c.d.toNat = 0x0201) (hp : demandPieces c = [u])
    (hls : ls = s.shareLots (c.w 6 % 16) c.part) (h : s.holding ls u = none)
    (hfree : ls.find? (fun k => (s.lot k).state == 0) = some l) : s.demandStart c =
      ((s.fillLot c.part u l).inFlight [⟨l, u, true⟩], [⟨l, u, true⟩], Reply.detailed 0) := by
  have hf : s.fetchPiece c.part u ls = (s.fillLot c.part u l, [⟨l, u, true⟩], 0) := by
    unfold State.fetchPiece
    rw [h]
    dsimp only
    rw [hfree]
    rfl
  rw [State.demandStart_fetch_new hop hp hls h, if_neg (State.fetchRoom_ne_zero_of_free hfree), hf]
  rfl

/-- The state in which the eviction of a dirty lot is counted. -/
def State.evicted (s : State) (p : Nat) : State := (s.bump F.MT_EVICT_EVICTIONS p).bump F.MT_EVICT_WRITEBACKS p

theorem State.demandStart_fetch_dirty (hop : B.DESC_OPCODE.get c.d.toNat = 0x0201) (hp : demandPieces c = [u])
    (hls : ls = s.shareLots (c.w 6 % 16) c.part) (h : s.holding ls u = none) (hfull : ∀ k ∈ ls, (s.lot k).state ≠ 0)
    (hold : s.oldest ls = some l) (hdirty : (s.lot l).state = 2) : s.demandStart c =
      (((s.evicted c.part).fillLot c.part u l).inFlight [⟨l, (s.lot l).home, false⟩, ⟨l, u, true⟩],
        [⟨l, (s.lot l).home, false⟩, ⟨l, u, true⟩], Reply.detailed 1) := by
  have hnone : ls.find? (fun k => (s.lot k).state == 0) = none := List.find?_eq_none.mpr fun k hk => by simpa using hfull k hk
  have hf : s.fetchPiece c.part u ls =
      ((s.evicted c.part).fillLot c.part u l, [⟨l, (s.lot l).home, false⟩, ⟨l, u, true⟩], 1) := by
    unfold State.fetchPiece
    rw [h]
    dsimp only
    rw [hnone]
    dsimp only
    rw [hold]
    dsimp only
    rw [if_pos hdirty]
    rfl
  rw [State.demandStart_fetch_new hop hp hls h, if_neg (State.fetchRoom_ne_zero_of_oldest hold), hf]
  rfl

/-- What the lot table and the registers hold once the moves of a lot taken for a piece stand. -/
theorem State.fillLot_inFlight (hs : s.lotsWf) (p : Nat) {ms : List DemandMove} (hms : ∀ m ∈ ms, m.lot = l) (hne : ms ≠ []) :
    let t := (s.fillLot p u l).inFlight ms
    t.lot l = { s.lot l with state := 4, homeValid := true, home := u, last := s.fld F.MT_SEQ_SEQ p } ∧
      (∀ k, k ≠ l → t.lot k = s.lot k) ∧ t.mem = s.mem ∧
      t.regs = (s.setFld F.MT_SEQ_SEQ p (s.fld F.MT_SEQ_SEQ p + 1)).regs := by
  have hset := State.lotsWf_setLot hs l { s.lot l with state := 1, homeValid := true, home := u }
  obtain ⟨hl, hk⟩ := State.lot_inFlight (State.lotsWf_touch hset p l) hms hne
  obtain ⟨hregs, hmem⟩ := (s.fillLot p u l).inFlight_frame ms
  refine ⟨?_, fun k hkl => ?_, hmem, hregs⟩
  · rw [State.fillLot, hl, State.lot_touch_same hset, State.lot_setLot_same hs]
    rfl
  · rw [State.fillLot, hk k hkl, State.lot_touch_ne hset p hkl, State.lot_setLot_ne hs _ hkl]

end

theorem seq_sep_evict (p : Nat) (f : RegField) (hf : f.reg = R.MT_EVICT) : F.MT_SEQ_SEQ.sep p f p ∧ f.sep p F.MT_SEQ_SEQ p := by
  have hkey : R.MT_SEQ.key p ≠ R.MT_EVICT.key p := by
    simp only [RegArr.key, R.MT_SEQ, R.MT_EVICT]
    omega
  exact ⟨.inl (hf ▸ hkey), .inl (hf ▸ hkey.symm)⟩

/-- Counting an eviction and its write-back moves those two fields, and not the sequence number. -/
theorem State.fld_evicted {s : State} (h : s.regsWf) (p : Nat) :
    (s.evicted p).regsWf ∧ (s.evicted p).fld F.MT_SEQ_SEQ p = s.fld F.MT_SEQ_SEQ p ∧
      (s.evicted p).fld F.MT_EVICT_EVICTIONS p = min (2 ^ F.MT_EVICT_EVICTIONS.w - 1) (s.fld F.MT_EVICT_EVICTIONS p + 1) ∧
      (s.evicted p).fld F.MT_EVICT_WRITEBACKS p = min (2 ^ F.MT_EVICT_WRITEBACKS.w - 1) (s.fld F.MT_EVICT_WRITEBACKS p + 1) := by
  have h' : (s.bump F.MT_EVICT_EVICTIONS p).regsWf := State.regsWf_bump h ..
  have hapart : F.MT_EVICT_EVICTIONS.sep p F.MT_EVICT_WRITEBACKS p := .inr ⟨rfl, rfl, by decide, by decide⟩
  have hapart' : F.MT_EVICT_WRITEBACKS.sep p F.MT_EVICT_EVICTIONS p := .inr ⟨rfl, rfl, by decide, by decide⟩
  have hev := (seq_sep_evict p F.MT_EVICT_EVICTIONS rfl).2
  have hwb := (seq_sep_evict p F.MT_EVICT_WRITEBACKS rfl).2
  unfold State.evicted
  refine ⟨State.regsWf_bump h' .., ?_, ?_, ?_⟩
  · rw [State.bump, State.fld_setFld_sep h' _ hwb, State.bump, State.fld_setFld_sep h _ hev]
  · rw [State.bump, State.fld_setFld_sep h' _ hapart', State.fld_bump_same h _ _ _ (by decide)]
  · rw [State.fld_bump_same h' _ _ _ (by decide), State.bump, State.fld_setFld_sep h _ hapart]

section
variable {s : State} {c : Cmd} {u l : Nat} {ls : List Nat} (hs : s.canonical) (hop : B.DESC_OPCODE.get c.d.toNat = 0x0201)
  (hp : demandPieces c = [u]) (hls : ls = s.shareLots (c.w 6 % 16) c.part) (h : s.holding ls u = none)
include hs hop hp hls h

/-- A FETCH of a piece that no lot holds takes the first free lot. -/
theorem State.demandStart_takes_free (hfree : ls.find? (fun k => (s.lot k).state == 0) = some l) :
    let q := s.fld F.MT_SEQ_SEQ c.part
    ∃ t, s.demandStart c = (t, [⟨l, u, true⟩], Reply.detailed 0) ∧
      t.lot l = { s.lot l with state := 4, homeValid := true, home := u, last := q } ∧ (∀ k, k ≠ l → t.lot k = s.lot k) ∧
      t.mem = s.mem ∧ t.fld F.MT_SEQ_SEQ c.part = (q + 1) % 2 ^ F.MT_SEQ_SEQ.w := by
  obtain ⟨hl, hk, hmem, hregs⟩ := State.fillLot_inFlight (u := u) (l := l) hs.lots c.part
    (ms := [⟨l, u, true⟩]) (by simp) (by simp)
  refine ⟨_, State.demandStart_fetch_free hop hp hls h hfree, hl, hk, hmem, ?_⟩
  rw [State.fld_congr hregs, State.fld_setFld_same hs.regs _ _ _ (by decide)]

/-- A FETCH of a piece that no lot holds, with none free and the oldest evictable one dirty, counts and takes that lot. -/
theorem State.demandStart_takes_dirty (hfull : ∀ k ∈ ls, (s.lot k).state ≠ 0) (hold : s.oldest ls = some l)
    (hdirty : (s.lot l).state = 2) :
    ∃ t, s.demandStart c = (t, [⟨l, (s.lot l).home, false⟩, ⟨l, u, true⟩], Reply.detailed 1) ∧
      t.lot l = { s.lot l with state := 4, homeValid := true, home := u, last := s.fld F.MT_SEQ_SEQ c.part } ∧
      (∀ k, k ≠ l → t.lot k = s.lot k) ∧ t.mem = s.mem ∧
      t.fld F.MT_EVICT_EVICTIONS c.part = min (2 ^ F.MT_EVICT_EVICTIONS.w - 1) (s.fld F.MT_EVICT_EVICTIONS c.part + 1) ∧
      t.fld F.MT_EVICT_WRITEBACKS c.part = min (2 ^ F.MT_EVICT_WRITEBACKS.w - 1) (s.fld F.MT_EVICT_WRITEBACKS c.part + 1) := by
  obtain ⟨hwf, hseq, hev, hwb⟩ := State.fld_evicted hs.regs c.part
  obtain ⟨hl, hk, hmem, hregs⟩ := State.fillLot_inFlight (s := s.evicted c.part) (u := u) (l := l) hs.lots c.part
    (ms := [⟨l, (s.lot l).home, false⟩, ⟨l, u, true⟩]) (by simp) (by simp)
  refine ⟨_, State.demandStart_fetch_dirty hop hp hls h hfull hold hdirty, hseq ▸ hl, hk, hmem, ?_, ?_⟩
  · rw [State.fld_congr hregs, State.fld_setFld_sep hwf _ (seq_sep_evict c.part F.MT_EVICT_EVICTIONS rfl).1, hev]
  · rw [State.fld_congr hregs, State.fld_setFld_sep hwf _ (seq_sep_evict c.part F.MT_EVICT_WRITEBACKS rfl).1, hwb]

end

/-! ## FLUSH, PIN, UNPIN and DROP -/

section
variable {s : State} {c : Cmd} {u l : Nat} {ls : List Nat}

theorem State.demandStart_flush_clean (hop : B.DESC_OPCODE.get c.d.toNat = 0x0202)
    (h : ∀ l ∈ s.partLots c.part, (s.lot l).state ≠ 2) :
    s.demandStart c = (s, [], Reply.detailed 0) := by
  have hnil : ((demandPieces c).flatMap fun u => (s.partLots c.part).filter fun l =>
      (s.lot l).state == 2 && (s.lot l).homeValid && (s.lot l).home == u) = [] :=
    List.flatMap_eq_nil_iff.mpr fun u _ => List.filter_eq_nil_iff.mpr fun l hl => by simp [h l hl]
  unfold State.demandStart
  dsimp only
  rw [hop, hnil]
  rfl

/-- What PIN, UNPIN and DROP do to a lot. -/
def State.lotCommand (s : State) (op l : Nat) : State :=
  if op = 0x0203 then s.setLot l { s.lot l with pin := true }
  else if op = 0x0204 then s.setLot l { s.lot l with pin := false }
  else s.lotFree l

/-- Whether PIN, UNPIN or DROP counts a lot in its answer. -/
def State.lotChanges (s : State) (op l : Nat) : Bool :=
  if op = 0x0203 then !(s.lot l).pin else if op = 0x0204 then (s.lot l).pin else true

/-- PIN, UNPIN or DROP of one piece: what it does to the lot that holds it, if any. -/
theorem State.demandStart_lots {op : Nat} (hop : B.DESC_OPCODE.get c.d.toNat = op) (hmem : op ∈ [0x0203, 0x0204, 0x0205])
    (hp : demandPieces c = [u]) (hls : ls = s.shareLots (c.w 6 % 16) c.part) :
    let found := (s.holding ls u).toList
    s.demandStart c = (found.foldl (fun s l => s.lotCommand op l) (found.foldl (fun s l => s.touch c.part l) s), [],
      Reply.detailed (found.filter (s.lotChanges op)).length) := by
  have hfound : (demandPieces c).filterMap (fun u => s.holding ls u) = (s.holding ls u).toList := by
    rw [hp]
    rcases h : s.holding ls u with _ | l <;> simp [h]
  unfold State.demandStart
  dsimp only
  rw [hop, ← hls, hfound]
  simp only [List.mem_cons, List.not_mem_nil, or_false] at hmem
  rcases hmem with rfl | rfl | rfl <;> rfl

theorem State.demandStart_lots_none {op : Nat} (hop : B.DESC_OPCODE.get c.d.toNat = op) (hmem : op ∈ [0x0203, 0x0204, 0x0205])
    (hp : demandPieces c = [u]) (hls : ls = s.shareLots (c.w 6 % 16) c.part) (h : s.holding ls u = none) :
    s.demandStart c = (s, [], Reply.detailed 0) := by
  rw [State.demandStart_lots hop hmem hp hls, h]
  rfl

theorem State.demandStart_lots_held {op : Nat} (hop : B.DESC_OPCODE.get c.d.toNat = op) (hmem : op ∈ [0x0203, 0x0204, 0x0205])
    (hp : demandPieces c = [u]) (hls : ls = s.shareLots (c.w 6 % 16) c.part) (h : s.holding ls u = some l) :
    s.demandStart c = ((s.touch c.part l).lotCommand op l, [], Reply.detailed (bit (s.lotChanges op l))) := by
  have hcount : ([l].filter (s.lotChanges op)).length = bit (s.lotChanges op l) := by
    rw [List.filter_singleton]
    cases s.lotChanges op l <;> rfl
  rw [State.demandStart_lots hop hmem hp hls, h, Option.toList_some, hcount]
  rfl

/-- PIN, UNPIN or DROP of a lot that is CLEAN or DIRTY and has just been touched. -/
theorem State.lotCommand_touch (hs : s.lotsWf) (p : Nat) (h : (s.lot l).state ≠ 4) :
    let e := { s.lot l with last := s.fld F.MT_SEQ_SEQ p }
    (s.touch p l).lotCommand 0x0203 l = (s.touch p l).setLot l { e with pin := true } ∧
      (s.touch p l).lotCommand 0x0204 l = (s.touch p l).setLot l { e with pin := false } ∧
      (s.touch p l).lotCommand 0x0205 l = (s.touch p l).setLot l { e with state := 0 } := by
  have htouch := State.lot_touch_same hs p l
  have hfree : ((s.touch p l).lot l).state ≠ 4 := htouch ▸ h
  refine ⟨?_, ?_, ?_⟩
  · exact congrArg (fun e : Lot => (s.touch p l).setLot l { e with pin := true }) htouch
  · exact congrArg (fun e : Lot => (s.touch p l).setLot l { e with pin := false }) htouch
  · exact (if_neg hfree).trans (congrArg (fun e : Lot => (s.touch p l).setLot l { e with state := 0 }) htouch)

end

/-! ## What a copied range of a table reads -/

section
variable {α : Type} [DecidableEq α] {d : α} {t t' : List (Nat × α)} {k k' : Nat}

omit [DecidableEq α] in
/-- A value other than the default is listed. -/
theorem mem_of_spGet_ne (h : spGet d t k ≠ d) : (k, spGet d t k) ∈ t := by
  induction t with
  | nil => exact absurd rfl h
  | cons e t ih =>
    unfold spGet at h ⊢
    split at h
    · next hk => rw [if_pos hk, hk]; exact List.mem_cons_self ..
    · split at h
      · exact absurd rfl h
      · next hne hlt => rw [if_neg hne, if_neg hlt]; exact List.mem_cons_of_mem _ (ih h)

omit [DecidableEq α] in
/-- A listed value is read. -/
theorem spGet_of_mem {v : α} (ht : t.Pairwise fun x y => x.1 < y.1) (h : (k, v) ∈ t) : spGet d t k = v := by
  induction t with
  | nil => exact absurd h List.not_mem_nil
  | cons e t ih =>
    obtain ⟨hhead, htail⟩ := List.pairwise_cons.mp ht
    unfold spGet
    rcases List.mem_cons.mp h with rfl | hmem
    · exact if_pos rfl
    · have hlt : e.1 < k := hhead _ hmem
      rw [if_neg hlt.ne', if_neg hlt.not_gt, ih htail hmem]

/-- Two entries that list the same values read alike. -/
theorem spGet_congr_mem (h : spWf d t = true) (h' : spWf d t' = true) (hiff : ∀ v, (k, v) ∈ t ↔ (k', v) ∈ t') :
    spGet d t k = spGet d t' k' := by
  by_cases hd : spGet d t k = d
  · by_contra hne
    have hmem := (hiff _).mpr (mem_of_spGet_ne (t := t') (k := k') (hd ▸ Ne.symm hne))
    exact hne (spGet_of_mem (spWf_iff.mp h).1 hmem)
  · exact (spGet_of_mem (spWf_iff.mp h').1 ((hiff _).mp (mem_of_spGet_ne hd))).symm

omit [DecidableEq α] in
theorem mem_spCopy {src dst n : Nat} {v : α} : (k, v) ∈ spCopy t src dst n ↔
    ((k, v) ∈ t ∧ (k < dst ∨ dst + n ≤ k)) ∨ ∃ j, j < n ∧ k = dst + j ∧ (src + j, v) ∈ t := by
  simp only [spCopy, spSplice, spKeep, List.mem_append, List.mem_filter, List.mem_map, decide_eq_true_eq, Bool.and_eq_true]
  constructor
  · rintro ((⟨hmem, hlt⟩ | ⟨⟨i, w⟩, ⟨hmem, hlo, hhi⟩, heq⟩) | ⟨hmem, hge⟩)
    · exact .inl ⟨hmem, .inl hlt⟩
    · obtain ⟨hk, rfl⟩ := Prod.mk.inj heq
      dsimp only at hk hlo hhi
      refine .inr ⟨i - src, by omega, by omega, ?_⟩
      rwa [Nat.add_sub_cancel' hlo]
    · exact .inl ⟨hmem, .inr hge⟩
  · rintro (⟨hmem, hlt | hge⟩ | ⟨j, hj, rfl, hmem⟩)
    · exact .inl (.inl ⟨hmem, hlt⟩)
    · exact .inr ⟨hmem, hge⟩
    · exact .inl (.inr ⟨_, ⟨hmem, by omega, by omega⟩, by rw [Nat.add_sub_cancel_left, Nat.add_comm]⟩)

theorem spGet_spCopy_inside (h : spWf d t = true) (src dst : Nat) {n j : Nat} (hj : j < n) :
    spGet d (spCopy t src dst n) (dst + j) = spGet d t (src + j) := by
  refine spGet_congr_mem (spWf_spCopy _ _ _ h) h fun v => mem_spCopy.trans ⟨?_, fun hmem => .inr ⟨j, hj, rfl, hmem⟩⟩
  rintro (⟨-, hout⟩ | ⟨i, -, hi, hmem⟩)
  · omega
  · rwa [Nat.add_left_cancel hi]

theorem spGet_spCopy_outside (h : spWf d t = true) (src : Nat) {dst n x : Nat} (hx : x < dst ∨ dst + n ≤ x) :
    spGet d (spCopy t src dst n) x = spGet d t x := by
  refine spGet_congr_mem (spWf_spCopy _ _ _ h) h fun v => mem_spCopy.trans ⟨?_, fun hmem => .inl ⟨hmem, hx⟩⟩
  rintro (⟨hmem, -⟩ | ⟨i, hi, rfl, -⟩)
  · exact hmem
  · omega

end

/-! ## What a copied range of memory reads -/

section
variable {s : State}

theorem State.copyRange_frame (s : State) (src dst n : Nat) : (s.copyRange src dst n).stow = s.stow ∧
    (s.copyRange src dst n).bring = s.bring ∧ (s.copyRange src dst n).ddr = s.ddr ∧
    (s.copyRange src dst n).poison = spCopy s.poison (src / 32) (dst / 32) (n / 32) := by
  unfold State.copyRange
  split <;> exact ⟨rfl, rfl, rfl, rfl⟩

/-- A byte that the start test's values do not shade. -/
theorem State.blank_of_unshaded {a : Nat} (h : s.bring.tested = true → ¬a < ddrSize) : s.blank a = 0 := by
  unfold State.blank
  refine if_neg fun hcond => ?_
  rw [Bool.and_eq_true, decide_eq_true_eq] at hcond
  exact h hcond.1 hcond.2

theorem State.rdByte_copyRange_inside (h : Memory.wf s.mem) (src dst : Nat) {n j : Nat} (hj : j < n) :
    (s.copyRange src dst n).rdByte (dst + j) = s.rdByte (src + j) := by
  unfold State.copyRange
  split
  · show (s.wrBytes dst (s.rdBytes src n)).rdByte (dst + j) = _
    rw [State.rdByte_wrBytes_inside h _ _ (by rwa [State.length_rdBytes]), State.getD_rdBytes _ _ hj]
  · next hout =>
    simp only [Bool.and_eq_true, Bool.or_eq_true, decide_eq_true_eq, not_and, not_or] at hout
    have hsrc : s.blank (src + j) = 0 := State.blank_of_unshaded fun ht => by have := (hout ht).1; omega
    have hdst : s.blank (dst + j) = 0 := State.blank_of_unshaded fun ht => by have := (hout ht).2; omega
    show spGet 0 (spCopy s.mem src dst n) (dst + j) ^^^ s.blank (dst + j) = spGet 0 s.mem (src + j) ^^^ s.blank (src + j)
    rw [spGet_spCopy_inside h src dst hj, hsrc, hdst]

theorem State.rdByte_copyRange_outside (h : Memory.wf s.mem) (src : Nat) {dst n x : Nat} (hx : x < dst ∨ dst + n ≤ x) :
    (s.copyRange src dst n).rdByte x = s.rdByte x := by
  unfold State.copyRange
  split
  · show (s.wrBytes dst (s.rdBytes src n)).rdByte x = _
    exact State.rdByte_wrBytes_outside h _ _ (by rwa [State.length_rdBytes])
  · exact congrArg (· ^^^ s.blank x) (spGet_spCopy_outside h src hx)

end

/-! ## Lines poisoned whole -/

/-- The table in which both halves of the line of an entry are marked. -/
def wholeLine (t : List (Nat × Bool)) (e : Nat × Bool) : List (Nat × Bool) :=
  spSet false (spSet false t (e.1 / 2 * 2) true) (e.1 / 2 * 2 + 1) true

theorem spGet_spSet_true {t : List (Nat × Bool)} {a k : Nat} :
    spGet false (spSet false t a true) k = true ↔ a = k ∨ spGet false t k = true := by
  have hne : true ≠ false := by decide
  by_cases hk : a = k
  · subst hk
    simp only [spGet_spSet_same_of_ne false t a hne, true_or]
  · simp only [spGet_spSet_ne_of_ne false t a k hne hk, hk, false_or]

theorem spGet_wholeLine {t : List (Nat × Bool)} {e : Nat × Bool} {k : Nat} : spGet false (wholeLine t e) k = true ↔
    e.1 / 2 * 2 + 1 = k ∨ e.1 / 2 * 2 = k ∨ spGet false t k = true := by
  unfold wholeLine
  rw [spGet_spSet_true, spGet_spSet_true]

theorem spGet_foldl_wholeLine {l : List (Nat × Bool)} {t : List (Nat × Bool)} {k : Nat}
    (h : spGet false t k = true ∨ ∃ e ∈ l, e.1 / 2 * 2 + 1 = k ∨ e.1 / 2 * 2 = k) :
    spGet false (l.foldl wholeLine t) k = true := by
  induction l generalizing t with
  | nil => simpa using h
  | cons e l ih =>
    refine ih ?_
    rcases h with h | ⟨x, hx, hk⟩
    · exact .inl (spGet_wholeLine.mpr (.inr (.inr h)))
    · rcases List.mem_cons.mp hx with rfl | hx
      · exact .inl (spGet_wholeLine.mpr (hk.elim .inl fun hk => .inr (.inl hk)))
      · exact .inr ⟨x, hx, hk⟩

/-- A mark within the lines marks both halves of its line. -/
theorem State.poison_wholeLines {s : State} {a n k : Nat} (h : spGet false s.poison k = true)
    (hlo : a ≤ 32 * k) (hhi : 32 * k < a + n) :
    spGet false (s.wholeLines a n).poison (k / 2 * 2) = true ∧ spGet false (s.wholeLines a n).poison (k / 2 * 2 + 1) = true := by
  have hmem : (k, spGet false s.poison k) ∈ spKeep (fun k => decide (a ≤ 32 * k) && decide (32 * k < a + n)) s.poison :=
    List.mem_filter.mpr ⟨mem_of_spGet_ne (h ▸ by decide), by simp [hlo, hhi]⟩
  exact ⟨spGet_foldl_wholeLine (.inr ⟨_, hmem, .inr rfl⟩), spGet_foldl_wholeLine (.inr ⟨_, hmem, .inl rfl⟩)⟩

/-! ## One demand transfer -/

/-- `t` holds the bytes of the lot at `src` also at `dst`, and every other byte of `s`. -/
structure State.copiesLot (s t : State) (src dst : Nat) : Prop where
  copied : ∀ j, j < 65536 → t.rdByte (dst + j) = s.rdByte (src + j)
  other  : ∀ x, x < dst ∨ dst + 65536 ≤ x → t.rdByte x = s.rdByte x

section
variable {s t v : State} {src dst : Nat}

theorem State.copiesLot_of_copyRange (h : Memory.wf s.mem) (hv : v.mem = s.mem) (hv' : v.bring = s.bring)
    (ht : t.mem = (v.copyRange src dst lotSize).mem) (ht' : t.bring = v.bring) : s.copiesLot t src dst := by
  have hbytes := State.rdByte_congr ht (congrArg (fun b : Bring => b.tested) (ht'.trans (v.copyRange_frame src dst lotSize).2.1.symm))
  have hsame := State.rdByte_congr hv (congrArg (fun b : Bring => b.tested) hv')
  refine ⟨fun j hj => ?_, fun x hx => ?_⟩
  · exact (hbytes _).trans ((State.rdByte_copyRange_inside (hv ▸ h) src dst hj).trans (hsame _))
  · exact (hbytes x).trans ((State.rdByte_copyRange_outside (hv ▸ h) src hx).trans (hsame x))

theorem State.copiesLot.congr (h : s.copiesLot v src dst) (ht : t.mem = v.mem) (ht' : t.bring = v.bring) : s.copiesLot t src dst :=
  have hbytes := State.rdByte_congr ht (congrArg (fun b : Bring => b.tested) ht')
  ⟨fun j hj => (hbytes _).trans (h.copied j hj), fun x hx => (hbytes x).trans (h.other x hx)⟩

end

section
variable {s : State} {p : Nat} {m : DemandMove}

/-- The home's bytes, marks and lost lines in the lot `l`. -/
def State.fillData (s : State) (h l : Nat) : State :=
  let ch := ddrChan h
  let d := s.chan ch
  let hit := d.bad.filter fun a => decide (h ≤ a) && decide (a < h + lotSize)
  let s := hit.foldl (fun s a => s.markRange (lotAddr l + (a - h)) 64 true) (s.copyRange h (lotAddr l) lotSize)
  s.setChan ch { s.chan ch with bad := d.bad.filter fun a => !(hit.contains a) }

theorem State.demandMoveData_of_fill (hfill : m.fill = true) : s.demandMoveData p m =
    ((s.classLines p 3 1024).fillData (m.home * lotSize) m.lot).lotFromDdr m.lot (m.home * lotSize) := if_pos hfill

theorem State.foldl_markRange_frame (s : State) (f : Nat → Nat) (l : List Nat) :
    let t := l.foldl (fun s a => s.markRange (f a) 64 true) s
    t.mem = s.mem ∧ t.bring = s.bring ∧ t.stow = s.stow :=
  List.foldlRecOn (motive := fun (t : State) => t.mem = s.mem ∧ t.bring = s.bring ∧ t.stow = s.stow) l _ ⟨rfl, rfl, rfl⟩
    fun _ ht _ _ => ht

theorem State.fillData_frame (s : State) (h l : Nat) : (s.fillData h l).mem = (s.copyRange h (lotAddr l) lotSize).mem ∧
    (s.fillData h l).bring = s.bring ∧ (s.fillData h l).stow = s.stow := by
  obtain ⟨hstow, hbring, -⟩ := s.copyRange_frame h (lotAddr l) lotSize
  unfold State.fillData
  dsimp only
  generalize (s.chan (ddrChan h)).bad.filter (fun a => decide (h ≤ a) && decide (a < h + lotSize)) = hit
  obtain ⟨hmem, hbring', hstow'⟩ := (s.copyRange h (lotAddr l) lotSize).foldl_markRange_frame (fun a => lotAddr l + (a - h)) hit
  exact ⟨hmem, hbring'.trans hbring, hstow'.trans hstow⟩

/-- A fill copies the home to the lot, which is then CLEAN with that home. -/
theorem State.demandMoveData_fill (hs : s.canonical) (hfill : m.fill = true) :
    let t := s.demandMoveData p m
    s.copiesLot t (m.home * 65536) (lotAddr m.lot) ∧ t.lotsWf ∧
      t.lot m.lot = { s.lot m.lot with state := 1, homeValid := true, home := m.home } := by
  rw [State.demandMoveData_of_fill hfill]
  obtain ⟨hmem, hbring, hstow⟩ := (s.classLines p 3 1024).fillData_frame (m.home * lotSize) m.lot
  generalize (s.classLines p 3 1024).fillData (m.home * lotSize) m.lot = t at hmem hbring hstow
  have hwf : t.lotsWf := by
    unfold State.lotsWf
    rw [hstow]
    exact hs.lots
  have hlot : t.lot m.lot = s.lot m.lot := congrArg (fun t : Stow => spGet Lot.reset t.lots m.lot) hstow
  have hhome : m.home * lotSize / lotSize = m.home := Nat.mul_div_cancel _ (by decide)
  refine ⟨State.copiesLot_of_copyRange (v := s.classLines p 3 1024) hs.mem rfl rfl hmem hbring, State.lotsWf_setLot hwf .., ?_⟩
  rw [State.lotFromDdr, State.lot_setLot_same hwf, hlot, hhome]

theorem State.tagOf_classLines {a : Nat} (ha : a < ddrSize) (k n : Nat) : (s.classLines p k n).tagOf a = s.tagOf a := by
  unfold State.tagOf
  rw [if_pos ha, if_pos ha]
  rfl

theorem State.demandMoveData_of_back (hfill : m.fill = false) (hhome : m.home < 2 ^ 21)
    (htag : (s.tagOf (m.home * 65536)).writes p = true) : s.demandMoveData p m =
      (((s.classLines p 3 1024).copyRange (lotAddr m.lot) (m.home * lotSize) lotSize).wholeLines (m.home * lotSize) lotSize).overwritten
        (m.home * lotSize) lotSize := by
  have hddr : m.home * 65536 < ddrSize := by
    unfold ddrSize
    omega
  have hmay := (congrArg (·.writes p) (State.tagOf_classLines (p := p) hddr 3 1024)).trans htag
  exact (if_neg (hfill ▸ Bool.false_ne_true)).trans (if_pos hmay)

theorem State.bring_demandMoveData (s : State) (p : Nat) (m : DemandMove) : (s.demandMoveData p m).bring = s.bring := by
  rcases hfill : m.fill with _ | _
  · refine Eq.trans (congrArg State.bring (if_neg (hfill ▸ Bool.false_ne_true))) ?_
    split
    · exact ((s.classLines p 3 1024).copyRange_frame (lotAddr m.lot) (m.home * lotSize) lotSize).2.1
    · exact State.bring_raise ..
  · rw [State.demandMoveData_of_fill hfill]
    exact ((s.classLines p 3 1024).fillData_frame (m.home * lotSize) m.lot).2.1

/-- The keys of the two marks of the line of a home's mark. -/
theorem lineMark_keys (h j : Nat) : (h * 65536 + 32 * j / 64 * 64) / 32 = (h * 65536 / 32 + j) / 2 * 2 ∧
    (h * 65536 + 32 * j / 64 * 64 + 32) / 32 = (h * 65536 / 32 + j) / 2 * 2 + 1 := by omega

/-- A write-back copies the lot to the home, whose lines carry a mark of the lot whole. -/
theorem State.demandMoveData_back (hs : s.canonical) (hfill : m.fill = false) (hhome : m.home < 2 ^ 21)
    (htag : (s.tagOf (m.home * 65536)).writes p = true) :
    let t := s.demandMoveData p m
    s.copiesLot t (lotAddr m.lot) (m.home * 65536) ∧
      ∀ j, j < 2048 → s.poisonAt (lotAddr m.lot + 32 * j) = true → t.poisonAt (m.home * 65536 + 32 * j / 64 * 64) = true ∧
        t.poisonAt (m.home * 65536 + 32 * j / 64 * 64 + 32) = true := by
  rw [State.demandMoveData_of_back hfill hhome htag]
  obtain ⟨-, hbring, -, hpoison⟩ := (s.classLines p 3 1024).copyRange_frame (lotAddr m.lot) (m.home * lotSize) lotSize
  refine ⟨State.copiesLot_of_copyRange (v := s.classLines p 3 1024) hs.mem rfl rfl rfl hbring, fun j hj hmark => ?_⟩
  have hsrc : (lotAddr m.lot + 32 * j) / 32 = lotAddr m.lot / 32 + j := by omega
  have hmark0 : spGet false s.poison (lotAddr m.lot / 32 + j) = true := hsrc ▸ hmark
  have hmark' : spGet false ((s.classLines p 3 1024).copyRange (lotAddr m.lot) (m.home * lotSize) lotSize).poison
      (m.home * lotSize / 32 + j) = true := by
    have hwf : spWf false (s.classLines p 3 1024).poison = true := hs.poison
    rw [hpoison, spGet_spCopy_inside hwf _ _ (show j < lotSize / 32 from hj)]
    exact hmark0
  obtain ⟨hlo, hhi⟩ := State.poison_wholeLines (a := m.home * lotSize) (n := lotSize) hmark'
    (by unfold lotSize; omega) (by unfold lotSize; omega)
  obtain ⟨heven, hodd⟩ := lineMark_keys m.home j
  exact ⟨(congrArg (spGet false _) heven).trans hlo, (congrArg (spGet false _) hodd).trans hhi⟩

end

/-! ## A demand transfer that completes -/

/-- The lot of a transfer once it is done: CLEAN unless another transfer of the command is to come. -/
def State.demandSettled (s : State) (m : DemandMove) (ms : List DemandMove) : State :=
  if ms.any fun x => x.lot == m.lot then s else s.setLot m.lot { s.lot m.lot with state := 1 }

section
variable {s : State} {m : DemandMove}

theorem State.demandSettled_frame (s : State) (m : DemandMove) (ms : List DemandMove) : (s.demandSettled m ms).mem = s.mem ∧
    (s.demandSettled m ms).bring = s.bring ∧ (s.demandSettled m ms).poison = s.poison := by
  unfold State.demandSettled
  split <;> exact ⟨rfl, rfl, rfl⟩

/-- A lot that is CLEAN stays so. -/
theorem State.lot_demandSettled (hs : s.lotsWf) (h : (s.lot m.lot).state = 1) (ms : List DemandMove) :
    (s.demandSettled m ms).lot m.lot = s.lot m.lot := by
  unfold State.demandSettled
  split
  · rfl
  · rw [State.lot_setLot_same hs, ← h]

/-- A transfer that is not its command's last takes it from the moves that the command has to make. -/
theorem State.demandComplete_of_more {p : Nat} {q : DemandCmd} {rest : List DemandCmd} {ms : List DemandMove}
    (hqueue : s.demandQueue p = q :: rest) (hmoves : q.moves = m :: ms) (hms : ms ≠ []) : s.demandComplete p =
      ((s.demandMoveData p m).demandSettled m ms).setDemandQueue p ({ q with moves := ms } :: rest) := by
  unfold State.demandComplete
  rw [hqueue]
  dsimp only
  rw [hmoves]
  dsimp only
  rw [if_neg (by rwa [List.isEmpty_iff])]
  rfl

theorem State.restartsDone_of_nil (h : s.bring.restarts = []) : s.restartsDone = s := by
  have hsame : ∀ l, l = s.bring.restarts → { s with bring := { s.bring with restarts := l } } = s := by
    rintro _ rfl
    rfl
  unfold State.restartsDone
  rw [h]
  exact hsame [] h.symm

end

section
variable {s u : State} {p : PartId} {dt : Nat} {q : DemandCmd} {rest : List DemandCmd} {m : DemandMove} {ms : List DemandMove}
  (hdark : s.coreDark = false) (hu : u = s.passM dt) (hqueue : u.demandQueue p.val = q :: rest) (hmoves : q.moves = m :: ms)
include hdark hu hqueue hmoves

theorem exec_demandTransferComplete : exec (.demandTransferComplete p dt) s =
    if u.openForAll (.demand p.val) && u.inOpenQueue (.demand p.val) then .next (u.demandComplete p.val).restartsDone else .next u := by
  show execDemandTransferComplete p dt s = _
  unfold execDemandTransferComplete
  rw [hdark, if_neg Bool.false_ne_true, ← hu]
  dsimp only
  rw [hqueue]
  dsimp only
  rw [hmoves]

end

section
variable {s : State} {p : Nat} {q : DemandCmd} {rest : List DemandCmd} {m : DemandMove} {ms : List DemandMove} (hs : s.canonical)
  (hqueue : s.demandQueue p = q :: rest) (hmoves : q.moves = m :: ms) (hms : ms ≠ [])
include hqueue hmoves hms

/-- The next state keeps the rest of the moves, and what the transfer did to memory and marks. -/
theorem State.demandComplete_frame : let v := s.demandMoveData p m
    let t := s.demandComplete p
    t.demandQueue p = { q with moves := ms } :: rest ∧ t.mem = v.mem ∧ t.bring = s.bring ∧ t.poison = v.poison ∧
      t.lot m.lot = (v.demandSettled m ms).lot m.lot := by
  rw [State.demandComplete_of_more hqueue hmoves hms]
  obtain ⟨hmem, hbring, hpoison⟩ := (s.demandMoveData p m).demandSettled_frame m ms
  exact ⟨spGet_spSet_same_of_ne _ _ _ (List.cons_ne_nil _ _), hmem, hbring.trans (State.bring_demandMoveData ..), hpoison, rfl⟩

include hs

theorem State.demandComplete_fill (hfill : m.fill = true) : let t := s.demandComplete p
    s.copiesLot t (m.home * 65536) (lotAddr m.lot) ∧
      (t.lot m.lot).state = 1 ∧ (t.lot m.lot).homeValid = true ∧ (t.lot m.lot).home = m.home := by
  obtain ⟨-, hmem, hbring, -, hlot⟩ := State.demandComplete_frame hqueue hmoves hms
  obtain ⟨hcopy, hwf, hfilled⟩ := State.demandMoveData_fill (p := p) hs hfill
  have hsettled := State.lot_demandSettled hwf (congrArg Lot.state hfilled) ms
  refine ⟨hcopy.congr hmem (hbring.trans (State.bring_demandMoveData ..).symm), ?_⟩
  rw [hlot, hsettled, hfilled]
  exact ⟨rfl, rfl, rfl⟩

theorem State.demandComplete_back (hfill : m.fill = false) (hhome : m.home < 2 ^ 21)
    (htag : (s.tagOf (m.home * 65536)).writes p = true) : let t := s.demandComplete p
    s.copiesLot t (lotAddr m.lot) (m.home * 65536) ∧
      ∀ j, j < 2048 → s.poisonAt (lotAddr m.lot + 32 * j) = true → t.poisonAt (m.home * 65536 + 32 * j / 64 * 64) = true ∧
        t.poisonAt (m.home * 65536 + 32 * j / 64 * 64 + 32) = true := by
  obtain ⟨-, hmem, hbring, hpoison, -⟩ := State.demandComplete_frame hqueue hmoves hms
  obtain ⟨hcopy, hmarks⟩ := State.demandMoveData_back hs hfill hhome htag
  refine ⟨hcopy.congr hmem (hbring.trans (State.bring_demandMoveData ..).symm), fun j hj hmark => ?_⟩
  obtain ⟨hlo, hhi⟩ := hmarks j hj hmark
  exact ⟨(congrArg (spGet false · _) hpoison).trans hlo, (congrArg (spGet false · _) hpoison).trans hhi⟩

end

/-! ## The statement -/

/-- Settles O27: MT_LOT_SEL, the commands as they are taken and started, and their transfers, each by its own lemma. -/
theorem stowCommandsAct : Obligations.StowCommandsAct := by
  intro s hs
  refine ⟨fun sel hdark => ?_, fun c => ⟨demandBody_of_denied, demandBody_of_misaligned, demandBody_of_service⟩,
    fun c u ls _ hp hls => ⟨fun hop => ⟨fun l => State.demandStart_fetch_held hop hp hls, fun h hroom => ?_,
      fun l h => State.demandStart_takes_free hs hop hp hls h, fun l h => State.demandStart_takes_dirty hs hop hp hls h⟩,
      State.demandStart_flush_clean, fun l h => ?_, fun h hop => State.demandStart_lots_none rfl hop hp hls h⟩,
    fun p dt u q rest m ms hdark hu hqueue hmoves hrestarts _ hhome => ?_⟩
  · obtain ⟨h0, h1, hother⟩ := State.regs_showLot hs.regs (s.shownLot sel.toNat).1 (s.shownLot sel.toNat).2
    refine ⟨_, exec_mtLotSelWrite sel hdark, h0.trans ?_, h1.trans ?_, rfl, hother⟩
    · exact apply_ite Prod.fst ..
    · exact apply_ite Prod.snd ..
  · rw [State.demandStart_fetch_new hop hp hls h, if_pos (State.fetchRoom_eq_zero hroom)]
  · obtain ⟨hpin, hunpin, hdrop⟩ := State.lotCommand_touch hs.lots c.part (State.state_of_holding h)
    refine ⟨fun hop => ?_, fun hop => ?_, fun hop => ?_⟩
    all_goals rw [State.demandStart_lots_held hop (by decide) hp hls h]
    · rw [hpin]
      rfl
    · rw [hunpin]
      rfl
    · rw [hdrop]
      rfl
  · have hcanon : u.canonical := by
      rw [hu]
      exact ((State.keepsStores.refl s).passM dt).canonical hs
    have hexec := exec_demandTransferComplete hdark hu hqueue hmoves
    refine ⟨fun hgo => ?_, fun hgo => ?_, fun hgo hms => ?_⟩
    · rw [hexec, hgo, if_neg Bool.false_ne_true]
    · rw [hexec, hgo, if_pos rfl]
    · obtain ⟨hnext, -, hbring, -⟩ := State.demandComplete_frame hqueue hmoves hms
      refine ⟨u.demandComplete p.val, ?_, hnext, fun hfill => ?_, fun hfill htag => ?_⟩
      · rw [hexec, hgo, if_pos rfl, State.restartsDone_of_nil (hbring ▸ hrestarts)]
      · obtain ⟨hcopy, hstate, hvalid, hlothome⟩ := State.demandComplete_fill hcanon hqueue hmoves hms hfill
        exact ⟨hstate, hvalid, hlothome, hcopy.copied, hcopy.other⟩
      · obtain ⟨hcopy, hmarks⟩ := State.demandComplete_back hcanon hqueue hmoves hms hfill hhome htag
        exact ⟨hcopy.copied, hmarks, hcopy.other⟩

end Sys2Proof.Machine
end

section
/-! SUPPORT. The two codes of a DDR4 line, and its decode when one bit, or one device of one beat, is wrong (R147, R148, R149). -/

namespace Sys2Proof.Machine

/-! ## One beat in error -/

/-- The beats of a line in which beat `b` alone has the error `e`. -/
def oneBeat (b e : Nat) : List Nat := (List.range 8).map fun j => if j = b then e else 0

/-- A number of one base-`2 ^ w` digit, put at place `b`, has that digit alone. -/
theorem digit_shifted {w e : Nat} (he : e < 2 ^ w) (b j : Nat) :
    e * 2 ^ (w * b) / 2 ^ (w * j) % 2 ^ w = if j = b then e else 0 := by
  rcases lt_trichotomy j b with h | rfl | h
  · have hsplit : e * 2 ^ (w * b) = e * 2 ^ (w * (b - j - 1)) * 2 ^ w * 2 ^ (w * j) := by
      have hplace : w * b = w * (b - j - 1) + w + w * j := by
        rw [← Nat.mul_succ, ← Nat.mul_add]
        congr 1
        omega
      rw [hplace, pow_add, pow_add, mul_assoc, mul_assoc, mul_assoc]
    rw [if_neg h.ne, hsplit, Nat.mul_div_cancel _ (Nat.two_pow_pos _), Nat.mul_mod_left]
  · rw [if_pos rfl, Nat.mul_div_cancel _ (Nat.two_pow_pos _), Nat.mod_eq_of_lt he]
  · have hlt : e * 2 ^ (w * b) < 2 ^ (w * j) := calc
      e * 2 ^ (w * b) < 2 ^ w * 2 ^ (w * b) := Nat.mul_lt_mul_of_pos_right he (Nat.two_pow_pos _)
      _ = 2 ^ (w * (b + 1)) := by rw [← pow_add, Nat.mul_succ, Nat.add_comm]
      _ ≤ 2 ^ (w * j) := Nat.pow_le_pow_right (by decide) (Nat.mul_le_mul_left w h)
    rw [if_neg h.ne', Nat.div_eq_of_lt hlt, Nat.zero_mod]

theorem byte_shifted {v : Nat} (hv : v < 256) (b j : Nat) : v * 2 ^ (8 * b) / 2 ^ (8 * j) % 256 = if j = b then v else 0 :=
  digit_shifted (w := 8) hv b j

theorem beats_shifted {e : Nat} (he : e < 2 ^ 80) (b : Nat) : beats (e * 2 ^ (80 * b)) = oneBeat b e :=
  List.map_congr_left fun j _ => digit_shifted he b j

section
variable {b e : Nat} (hb : b < 8)
include hb

theorem oneBeat_any {p : Nat → Bool} (h0 : p 0 = false) : (oneBeat b e).any p = p e := by
  rw [Bool.eq_iff_iff, oneBeat, List.any_map, List.any_eq_true]
  refine ⟨fun ⟨j, _, hj⟩ => ?_, fun h => ⟨b, List.mem_range.mpr hb, by simpa using h⟩⟩
  by_cases hjb : j = b
  · simpa [hjb] using hj
  · simp [hjb, h0] at hj

theorem oneBeat_filterMap {α : Type} {f : Nat → Option α} (h0 : f 0 = none) : (oneBeat b e).filterMap f = (f e).toList := by
  interval_cases b
  all_goals cases h : f e <;> simp [oneBeat, List.range_succ, h, h0]

end

theorem oneBeat_map {f : Nat → Nat} (h0 : f 0 = 0) (b e : Nat) : (oneBeat b e).map f = oneBeat b (f e) := by
  rw [oneBeat, List.map_map]
  exact List.map_congr_left fun j _ => by
    simp only [Function.comp_apply, apply_ite f, h0]

/-! ## The two codes on such a line -/

theorem innerFix_zero : innerFix 0 = (0, none, false) := by decide

/-- R147: the columns are apart, so the syndrome of one wrong bit points back at it. -/
theorem innerFix_of_bit : ∀ k < 72, innerFix (2 ^ k) = (0, some (k / 8), false) := by
  decide +kernel

/-- R147: device 9 has no column. -/
theorem innerSyndrome_of_device9 (v : Nat) : innerSyndrome (v * 2 ^ (8 * 9)) = 0 := by
  have hcheck : v * 2 ^ (8 * 9) / 2 ^ 64 % 256 = 0 := by omega
  have hdata : ∀ i ∈ List.range 64, hasBit (v * 2 ^ (8 * 9)) i = false := fun i hi => by
    have hlt := List.mem_range.mp hi
    rw [hasBit, Nat.testBit_mul_two_pow, decide_eq_false (by omega), Bool.false_and]
  rw [innerSyndrome, hcheck]
  exact List.foldlRecOn (motive := fun x : Nat => x = 0) _ _ rfl fun x hx i hi => by
    rw [hdata i hi, hx]
    rfl

theorem mem_errDevices_oneBeat {b e : Nat} (hb : b < 8) (d : Nat) :
    d ∈ errDevices (oneBeat b e) ↔ d < 10 ∧ e / 2 ^ (8 * d) % 256 ≠ 0 := by
  rw [errDevices, List.mem_filter, oneBeat_any hb (by simp), List.mem_range, bne_iff_ne]

theorem errDevices_nodup (bs : List Nat) : (errDevices bs).Nodup := List.nodup_range.filter _

/-- R148: two devices in error are not taken for a clean line. -/
theorem outerCheck_ne_clean {bs : List Nat} (hne : errDevices bs ≠ []) (hlen : (errDevices bs).length ≤ 2) : outerCheck bs ≠ .clean := by
  unfold outerCheck
  match h : errDevices bs with
  | [] => exact absurd h hne
  | [_] => simp
  | [_, _] => simp
  | _ :: _ :: _ :: _ => simp [h] at hlen

theorem outerCheck_of_device {b d v : Nat} (hb : b < 8) (hd : d < 10) (hv : v < 256) (hv0 : v ≠ 0) :
    outerCheck (oneBeat b (v * 2 ^ (8 * d))) = .device d := by
  have hmem : ∀ j, j ∈ errDevices (oneBeat b (v * 2 ^ (8 * d))) ↔ j ∈ [d] := fun j => by
    rw [mem_errDevices_oneBeat hb, byte_shifted hv, List.mem_singleton]
    by_cases hj : j = d
    · simp [hj, hd, hv0]
    · simp [hj]
  have hdevs : errDevices (oneBeat b (v * 2 ^ (8 * d))) = [d] :=
    List.perm_singleton.mp ((List.perm_ext_iff_of_nodup (errDevices_nodup _) (List.nodup_singleton d)).mpr hmem)
  simp [outerCheck, hdevs]

/-- The bits of device `d'` once bit `i` of a beat with error `v` in device `d` is turned. -/
theorem digit_turned {d v : Nat} (hv : v < 256) (i d' : Nat) : (v * 2 ^ (8 * d) ^^^ 2 ^ i) / 2 ^ (8 * d') % 256 =
    (if d' = d then v else 0) ^^^ (if d' = i / 8 then 2 ^ (i % 8) else 0) := by
  have hbit : 2 ^ (i % 8) < 2 ^ 8 := Nat.pow_lt_pow_right (by decide) (Nat.mod_lt _ (by decide))
  have hi : 2 ^ i = 2 ^ (i % 8) * 2 ^ (8 * (i / 8)) := by rw [← pow_add, Nat.mod_add_div]
  have hxor := Nat.xor_mod_two_pow (a := v * 2 ^ (8 * d) / 2 ^ (8 * d')) (b := 2 ^ i / 2 ^ (8 * d')) (n := 8)
  rw [Nat.xor_div_two_pow, ← byte_shifted hv, ← byte_shifted hbit, ← hi]
  exact hxor

/-- An error of more than one bit within one device is no clean line after the turn of any one bit. -/
theorem outerCheck_turned {b d v : Nat} (hb : b < 8) (hd : d < 10) (hv : v < 256) (hv0 : v ≠ 0) (hbits : ∀ j, v ≠ 2 ^ j) (i : Nat) :
    outerCheck (oneBeat b (v * 2 ^ (8 * d) ^^^ 2 ^ i)) ≠ .clean := by
  have hmem : ∀ j, j ∈ errDevices (oneBeat b (v * 2 ^ (8 * d) ^^^ 2 ^ i)) ↔
      j < 10 ∧ (if j = d then v else 0) ^^^ (if j = i / 8 then 2 ^ (i % 8) else 0) ≠ 0 := fun j => by
    rw [mem_errDevices_oneBeat hb, digit_turned hv]
  refine outerCheck_ne_clean (List.ne_nil_of_mem ((hmem d).mpr ⟨hd, ?_⟩)) ?_
  · rw [if_pos rfl, Nat.xor_ne_zero_iff]
    split
    · exact hbits _
    · exact hv0
  · have hsub : errDevices (oneBeat b (v * 2 ^ (8 * d) ^^^ 2 ^ i)) ⊆ [d, i / 8] := fun j hj => by
      by_contra hout
      simp only [List.mem_cons, List.not_mem_nil, or_false, not_or] at hout
      exact ((hmem j).mp hj).2 (by rw [if_neg hout.1, if_neg hout.2]; rfl)
    exact ((errDevices_nodup _).subperm hsub).length_le

/-! ## The decode (R149) -/

/-- R149: what the outer code makes of a line that the inner code could not correct. -/
def outerDecoded : Outer → Decoded
  | .device d => ⟨.outerCorrected, [], some d⟩
  | _ => ⟨.uncorrectable, [], none⟩

section
variable {b e err : Nat} (hb : b < 8) (herr : beats err = oneBeat b e)
include hb herr

/-- R149, for an unmarked line with one beat in error and no poison. -/
theorem decodeLine_oneBeat (he : outerCheck (oneBeat b e) ≠ .clean) : decodeLine none false err =
    if (innerFix e).2.2 = false ∧ outerCheck (oneBeat b (innerFix e).1) = .clean then ⟨.innerCorrected, (innerFix e).2.1.toList, none⟩
    else outerDecoded (outerCheck (oneBeat b e)) := by
  have hbad : ((oneBeat b e).map innerFix).any (fun f => f.2.2) = (innerFix e).2.2 :=
    List.any_map.trans (oneBeat_any hb (congrArg (·.2.2) innerFix_zero))
  have hdevs : ((oneBeat b e).map innerFix).filterMap (fun f => f.2.1) = (innerFix e).2.1.toList :=
    List.filterMap_map.trans (oneBeat_filterMap hb (congrArg (·.2.1) innerFix_zero))
  have hleft : ((oneBeat b e).map innerFix).map (fun f => f.1) = oneBeat b (innerFix e).1 :=
    List.map_map.trans (oneBeat_map (congrArg (·.1) innerFix_zero) b e)
  have hdirty : (outerCheck (oneBeat b e) == Outer.clean) = false := beq_false_of_ne he
  simp only [decodeLine, herr, hbad, hdevs, hleft, hdirty, Bool.and_false, Bool.not_false, Bool.and_true, Bool.false_eq_true, if_false,
    Bool.and_eq_true, Bool.not_eq_true', beq_iff_eq]
  rfl

end

/-- R149: a line without an error. -/
theorem decodeLine_clean : decodeLine none false 0 = ⟨.clean, [], none⟩ := by
  have hbeats : beats 0 = List.replicate 8 0 := by simp [beats, List.map_const']
  simp only [decodeLine, hbeats]
  decide

/-- R149: one wrong bit of devices 0 to 8. -/
theorem decodeLine_bit {b k : Nat} (hb : b < 8) (hk : k < 72) :
    decodeLine none false (2 ^ (80 * b + k)) = ⟨.innerCorrected, [k / 8], none⟩ := by
  have herr : beats (2 ^ (80 * b + k)) = oneBeat b (2 ^ k) := by
    rw [Nat.add_comm, pow_add]
    exact beats_shifted (Nat.pow_lt_pow_right (by decide) (by omega)) b
  have hdevice : outerCheck (oneBeat b (2 ^ k)) = .device (k / 8) := by
    have hplace : 2 ^ k = 2 ^ (k % 8) * 2 ^ (8 * (k / 8)) := by rw [← pow_add, Nat.mod_add_div]
    rw [hplace]
    exact outerCheck_of_device hb (by omega) (Nat.pow_lt_pow_right (n := 8) (by decide) (Nat.mod_lt _ (by decide))) (Nat.two_pow_pos _).ne'
  have hrest : outerCheck (oneBeat b 0) = .clean := by
    interval_cases b
    all_goals decide
  rw [decodeLine_oneBeat hb herr (by simp [hdevice]), innerFix_of_bit k hk, if_pos ⟨rfl, hrest⟩]
  rfl

/-- What the inner code makes of an error that is none of its single bits is no clean line. -/
theorem outerCheck_innerFix {b d v : Nat} (hb : b < 8) (hd : d < 10) (hv : v < 256) (hv0 : v ≠ 0) (hbits : d = 9 ∨ ∀ j, v ≠ 2 ^ j)
    (hfixed : (innerFix (v * 2 ^ (8 * d))).2.2 = false) : outerCheck (oneBeat b (innerFix (v * 2 ^ (8 * d))).1) ≠ .clean := by
  have hraw : outerCheck (oneBeat b (v * 2 ^ (8 * d))) ≠ .clean := by simp [outerCheck_of_device hb hd hv hv0]
  revert hfixed
  unfold innerFix
  extract_lets syn
  split
  · exact fun _ => hraw
  · next hsyn =>
    have hbits' : ∀ j, v ≠ 2 ^ j := hbits.resolve_left (by rintro rfl; exact hsyn (innerSyndrome_of_device9 v))
    split
    · exact fun _ => outerCheck_turned hb hd hv hv0 hbits' _
    · exact fun h => Bool.noConfusion h

/-- R149: an error within one device that is no single bit of the inner code. -/
theorem decodeLine_device {b d v : Nat} (hb : b < 8) (hd : d < 10) (hv : v < 256) (hv0 : v ≠ 0) (hbits : d = 9 ∨ ∀ j, v ≠ 2 ^ j) :
    decodeLine none false (v * 2 ^ (80 * b + 8 * d)) = ⟨.outerCorrected, [], some d⟩ := by
  have herr : beats (v * 2 ^ (80 * b + 8 * d)) = oneBeat b (v * 2 ^ (8 * d)) := by
    have hlt : v * 2 ^ (8 * d) < 2 ^ 80 := calc
      v * 2 ^ (8 * d) < 2 ^ 8 * 2 ^ (8 * d) := Nat.mul_lt_mul_of_pos_right hv (Nat.two_pow_pos _)
      _ = 2 ^ (8 + 8 * d) := (pow_add ..).symm
      _ ≤ 2 ^ 80 := Nat.pow_le_pow_right (by decide) (by omega)
    rw [Nat.add_comm, pow_add, ← mul_assoc]
    exact beats_shifted hlt b
  have hdevice := outerCheck_of_device hb hd hv hv0
  rw [decodeLine_oneBeat hb herr (by simp [hdevice]), if_neg fun h => outerCheck_innerFix hb hd hv hv0 hbits h.1 h.2, hdevice]
  rfl

end Sys2Proof.Machine
end

section
/-! SUPPORT. What fault sites, records and events leave as it was, and the registers that they write (R153, R491, R493). -/

namespace Sys2Proof.Machine

/-! ## What faults, records and events leave as it was -/

/-- What no fault of a site, no record and no event reaches. -/
def State.offFaults (s : State) : State :=
  { s with regs := [], sites := [], plumb := Plumb.reset, trail := Trail.reset, book := Book.reset, bring := Bring.reset }

/-- The registers that a fault of a site may write. -/
def siteFields : List (RegField × Nat) :=
  [(F.TH_ATTN_FAULT, 0), (F.TH_ATTN_PIN, 0), (F.TL_PORT_STAT_LASTING, 0), (F.TL_PORT_STAT_LASTING, 1), (F.TL_PORT_STAT_LASTING, 2)]

section
variable (s : State)

@[simp] theorem State.offFaults_setFld (f : RegField) (i x : Nat) : (s.setFld f i x).offFaults = s.offFaults := rfl
@[simp] theorem State.offFaults_setFlag (f : RegField) (i : Nat) : (s.setFlag f i).offFaults = s.offFaults := rfl
@[simp] theorem State.offFaults_bump (f : RegField) (i n : Nat) : (s.bump f i n).offFaults = s.offFaults := rfl
@[simp] theorem State.offFaults_setSite (i : Nat) (f : FaultSite) : (s.setSite i f).offFaults = s.offFaults := rfl

@[simp] theorem State.offFaults_record (kind source : Nat) (bs : List Byte) (domain : Nat) :
    (s.record kind source bs domain).offFaults = s.offFaults := by
  obtain ⟨k, hk⟩ := s.recordAt_eq s.acyc kind source bs domain
  rw [State.record, hk]
  rfl

@[simp] theorem State.offFaults_raise (code detail : Nat) : (s.raise code detail).offFaults = s.offFaults := by
  obtain ⟨p, k, hk⟩ := s.raise_eq code detail
  rw [hk]
  rfl

@[simp] theorem State.offFaults_attn (f : RegField) : (s.attn f).offFaults = s.offFaults := by
  unfold State.attn State.updateAttn
  dsimp only
  split
  · rfl
  · split
    · rfl
    · rfl

/-- R493: the site is lasting, and the host is told. -/
def State.lastingTold (i : Nat) : State := (s.setSite i { s.site i with lasting := true }).attn F.TH_ATTN_FAULT

/-- R493: what the declaration does beside, by the place of the site: an engine's, a tether lane's, or another. -/
theorem State.declareLasting_cases (i : Nat) :
    (∃ b detail, s.declareLasting i = ({ s.lastingTold i with bring := b } : State).raise 0x0B detail) ∨
      (∃ p x, p < 3 ∧ s.declareLasting i = (s.lastingTold i).setFld F.TL_PORT_STAT_LASTING p x) ∨
      s.declareLasting i = s.lastingTold i := by
  unfold State.declareLasting
  extract_lets _ told c e _ substituted p
  split
  · exact .inl ⟨_, _, rfl⟩
  · split
    · next h => exact .inr (.inl ⟨p, _, by unfold p; omega, rfl⟩)
    · exact .inr (.inr rfl)

@[simp] theorem State.offFaults_lastingTold (i : Nat) : (s.lastingTold i).offFaults = s.offFaults := State.offFaults_attn ..

@[simp] theorem State.offFaults_declareLasting (i : Nat) : (s.declareLasting i).offFaults = s.offFaults := by
  rcases s.declareLasting_cases i with ⟨b, detail, h⟩ | ⟨p, x, -, h⟩ | h
  · rw [h, State.offFaults_raise]
    exact s.offFaults_lastingTold i
  · rw [h, State.offFaults_setFld, State.offFaults_lastingTold]
  · rw [h, State.offFaults_lastingTold]

@[simp] theorem State.offFaults_faultAt (i : Nat) : (s.faultAt i).offFaults = s.offFaults := by
  unfold State.faultAt
  dsimp only
  split
  · split
    · simp
    · simp
  · rfl

theorem State.record_writesOnly (kind source : Nat) (bs : List Byte) (domain : Nat) : s.writesOnly [] (s.record kind source bs domain) := by
  obtain ⟨k, hk⟩ := s.recordAt_eq s.acyc kind source bs domain
  rw [State.record, hk]
  exact .of_regs rfl

theorem State.lastingTold_writesOnly (i : Nat) : s.writesOnly siteFields (s.lastingTold i) :=
  (State.writesOnly.of_regs (s.setSite_regs ..)).trans ((State.attn_writesOnly _ _).mono (by decide))

theorem State.declareLasting_writesOnly (i : Nat) : s.writesOnly siteFields (s.declareLasting i) := by
  have htold := s.lastingTold_writesOnly i
  rcases s.declareLasting_cases i with ⟨b, detail, h⟩ | ⟨p, x, hp, h⟩ | h
  · rw [h]
    exact (htold.regs (u := { s.lastingTold i with bring := b }) rfl).trans
      ((State.raise_writesOnly _ 0x0B detail).mono (List.nil_subset _))
  · rw [h]
    exact htold.setFld _ _ _ (by interval_cases p <;> decide)
  · rw [h]
    exact htold

theorem State.faultAt_writesOnly (i : Nat) : s.writesOnly siteFields (s.faultAt i) := by
  unfold State.faultAt
  extract_lets f c counted lasting recorded
  have hrecorded : s.writesOnly siteFields recorded :=
    (State.writesOnly.of_regs (s := s) (t := counted) rfl).trans ((State.record_writesOnly ..).mono (List.nil_subset _))
  split
  · split
    · exact hrecorded.trans (State.declareLasting_writesOnly ..)
    · exact hrecorded
  · exact .of_regs rfl

end

end Sys2Proof.Machine
end

section
/-! SUPPORT. The alerts of DDR4 devices: the retry of a write and of a read, and what follows the third failure in a row (R156, R157). -/

namespace Sys2Proof.Machine

/-! ## An alert -/

/-- R157: an alert sets its bit, and its failure counts against the lane. -/
def State.alerted (s : State) (f : RegField) (ch lane : Nat) : State := (s.setFlag f ch).faultAt (siteLane ch lane)

/-- The bits of DR_STATUS that the alerts set. -/
def alertFlags : List RegField := [F.DR_STATUS_CRC_RETRY, F.DR_STATUS_CA_RETRY]

theorem siteFields_sep_alert (ch : ChanId) : ∀ f ∈ alertFlags, ∀ g ∈ siteFields, g.1.sep g.2 f ch.val := by
  revert ch; decide

theorem wbuf_sep_alert (ch : ChanId) : ∀ f ∈ alertFlags, F.DR_STATUS_WBUF.sep ch.val f ch.val := by
  revert ch; decide

section
variable {s : State} (ch : ChanId)

theorem exec_writeCrcAlert (hdark : s.coreDark = false) (lane : Fin 10) (line : BitVec 28) : exec (.writeCrcAlert ch lane line) s =
    .next ((s.alerted F.DR_STATUS_CRC_RETRY ch.val lane.val).writeFails ch.val line.toNat lane.val) := by
  simp only [exec, execWriteCrcAlert, hdark, Bool.false_eq_true, if_false]
  rfl

theorem exec_caParityAlert_write (hdark : s.coreDark = false) (line : BitVec 28) : exec (.caParityAlert ch line false) s =
    .next ((s.alerted F.DR_STATUS_CA_RETRY ch.val 10).writeFails ch.val line.toNat 10) := by
  simp only [exec, execCaParityAlert, hdark, Bool.false_eq_true, if_false]
  rfl

theorem exec_caParityAlert_read (hdark : s.coreDark = false) (line : BitVec 28) : exec (.caParityAlert ch line true) s =
    .next ((s.alerted F.DR_STATUS_CA_RETRY ch.val 10).readFails ch.val line.toNat 10) := by
  simp only [exec, execCaParityAlert, hdark, Bool.false_eq_true, if_false, if_true]
  rfl

@[simp] theorem State.offFaults_alerted (f : RegField) (ch lane : Nat) : (s.alerted f ch lane).offFaults = s.offFaults :=
  State.offFaults_faultAt ..

theorem State.canonical_alerted (hs : s.canonical) (f : RegField) (ch lane : Nat) : (s.alerted f ch lane).canonical :=
  (((State.keepsStores.refl s).setFlag f ch).faultAt _).canonical hs

theorem State.fld_alerted (hregs : s.regsWf) {f : RegField} (hf : f ∈ alertFlags) (lane : Nat) :
    (s.alerted f ch.val lane).fld f ch.val = 1 := by
  have hone : f.fits ∧ 1 % 2 ^ f.w = 1 := by revert f; decide
  rw [State.alerted, (State.faultAt_writesOnly _ _).fld (State.regsWf_setFlag hregs ..) f ch.val (siteFields_sep_alert ch f hf),
    State.setFlag, State.fld_setFld_same hregs _ _ _ hone.1, hone.2]

end

/-! ## Failures in a row -/

section
variable {s : State} {ch key : Nat}

theorem State.failCount_congr {t : State} (h : t.ddr = s.ddr) : t.failCount ch key = s.failCount ch key := by
  rw [State.failCount, State.failCount, State.chan_congr h]

theorem State.failCount_of_none (h : ∀ f ∈ (s.chan ch).fails, f.1 ≠ key) : s.failCount ch key = 1 := by
  have hnone : (s.chan ch).fails.find? (fun f => f.1 == key) = none :=
    List.find?_eq_none.mpr fun f hf => by simpa using h f hf
  rw [State.failCount, hnone]
  rfl

theorem State.mem_setFails (hddr : spWf DdrChan.reset s.ddr = true) {n : Nat} (hn : n ≠ 0) :
    (key, n) ∈ ((s.setFails ch key n).chan ch).fails := by
  rw [State.setFails, State.chan_setChan_same hddr]
  simp [hn]

theorem State.setFails_chan (hddr : spWf DdrChan.reset s.ddr = true) (n : Nat) :
    ∃ x, (s.setFails ch key n).chan ch = { s.chan ch with fails := x } := ⟨_, State.chan_setChan_same hddr _⟩

end

/-! ## A command is given up -/

theorem siteFields_sep_linkFault (ch : ChanId) : ∀ g ∈ siteFields, g.1.sep g.2 F.DR_STATUS_LINK_FAULT ch.val := by
  revert ch; decide

theorem retraining_sep_linkFault (ch : ChanId) : F.DR_STATUS_RETRAINING.sep ch.val F.DR_STATUS_LINK_FAULT ch.val ∧
    F.DR_RETRAIN_STEPS_LEFT.sep ch.val F.DR_STATUS_LINK_FAULT ch.val := by
  revert ch; decide

/-- R157: the lane's site is lasting. -/
def State.laneLost (s : State) (i : Nat) : State := if (s.site i).lasting then s else s.declareLasting i

section
variable {s : State}

theorem State.giveUp_eq (ch lane : Nat) :
    s.giveUp ch lane = ((s.setFlag F.DR_STATUS_LINK_FAULT ch).laneLost (siteLane ch lane)).retrainStart ch := rfl

theorem State.retrainStart_frame (ch : Nat) : (s.retrainStart ch).sites = s.sites ∧ (s.retrainStart ch).poison = s.poison := by
  cases h : s.flag F.DR_STATUS_RETRAINING ch with
  | true => rw [State.retrainStart_of_running h]; exact ⟨rfl, rfl⟩
  | false => rw [State.retrainStart_of_idle h]; exact ⟨rfl, rfl⟩

theorem State.bad_retrainStart (hddr : spWf DdrChan.reset s.ddr = true) (ch : Nat) :
    ((s.retrainStart ch).chan ch).bad = (s.chan ch).bad := by
  cases h : s.flag F.DR_STATUS_RETRAINING ch with
  | true => rw [State.retrainStart_of_running h]
  | false =>
    rw [State.retrainStart_of_idle h]
    have hbegun : (s.retrainBegun ch).chan ch = { s.chan ch with stepWait := some s.clk.mclk } := State.chan_setChan_same hddr _
    rw [hbegun]

theorem State.linkFault_retrainStart (hregs : s.regsWf) (ch : ChanId) :
    (s.retrainStart ch.val).fld F.DR_STATUS_LINK_FAULT ch.val = s.fld F.DR_STATUS_LINK_FAULT ch.val := by
  cases h : s.flag F.DR_STATUS_RETRAINING ch.val with
  | true => rw [State.retrainStart_of_running h]
  | false =>
    rw [State.retrainStart_of_idle h]
    exact State.fld_retrainBegun_other hregs ch (retraining_sep_linkFault ch).1 (retraining_sep_linkFault ch).2

theorem State.sites_declareLasting (i : Nat) :
    (s.declareLasting i).sites = (s.setSite i { s.site i with lasting := true }).sites := by
  have htold : (s.lastingTold i).sites = (s.setSite i { s.site i with lasting := true }).sites := by
    unfold State.lastingTold State.attn State.updateAttn
    dsimp only
    split
    · rfl
    · split
      · rfl
      · rfl
  rcases s.declareLasting_cases i with ⟨b, detail, h⟩ | ⟨p, x, -, h⟩ | h
  · obtain ⟨p, k, hraise⟩ := State.raise_eq { s.lastingTold i with bring := b } 0x0B detail
    rw [h, hraise]
    exact htold
  · rw [h]
    exact htold
  · rw [h]
    exact htold

theorem State.lasting_laneLost (hsites : spWf FaultSite.reset s.sites = true) (i : Nat) : ((s.laneLost i).site i).lasting = true := by
  unfold State.laneLost
  split
  · assumption
  · rw [State.site, State.sites_declareLasting]
    exact congrArg FaultSite.lasting (spGet_spSet_same _ _ _ _ hsites)

theorem State.offFaults_laneLost (i : Nat) : (s.laneLost i).offFaults = s.offFaults := by
  unfold State.laneLost
  split
  · rfl
  · exact s.offFaults_declareLasting i

theorem State.laneLost_writesOnly (i : Nat) : s.writesOnly siteFields (s.laneLost i) := by
  unfold State.laneLost
  split
  · exact .of_regs rfl
  · exact s.declareLasting_writesOnly i

/-- R157: what the controller does for a command that it gives up. -/
theorem State.giveUp_spec (hs : s.canonical) (ch : ChanId) (lane : Nat) :
    (s.giveUp ch.val lane).fld F.DR_STATUS_LINK_FAULT ch.val = 1 ∧ ((s.giveUp ch.val lane).site (siteLane ch.val lane)).lasting = true ∧
      (s.giveUp ch.val lane).fld F.DR_STATUS_RETRAINING ch.val = 1 ∧ (s.giveUp ch.val lane).poison = s.poison ∧
      ((s.giveUp ch.val lane).chan ch.val).bad = (s.chan ch.val).bad := by
  have hflag := State.regsWf_setFlag hs.regs F.DR_STATUS_LINK_FAULT ch.val
  have hlane := (s.setFlag F.DR_STATUS_LINK_FAULT ch.val).laneLost_writesOnly (siteLane ch.val lane)
  have hfrozen := (s.setFlag F.DR_STATUS_LINK_FAULT ch.val).offFaults_laneLost (siteLane ch.val lane)
  have hlost := (s.setFlag F.DR_STATUS_LINK_FAULT ch.val).lasting_laneLost hs.sites (siteLane ch.val lane)
  have hregs := hlane.regsWf hflag
  have hddr := congrArg State.ddr hfrozen
  have hpoison := congrArg State.poison hfrozen
  have hfld := hlane.fld hflag F.DR_STATUS_LINK_FAULT ch.val (siteFields_sep_linkFault ch)
  rw [State.giveUp_eq]
  generalize (s.setFlag F.DR_STATUS_LINK_FAULT ch.val).laneLost (siteLane ch.val lane) = u at *
  obtain ⟨hsites, hpoison'⟩ := u.retrainStart_frame ch.val
  refine ⟨?_, ?_, State.fld_retrainStart hregs ch, hpoison'.trans hpoison, ?_⟩
  · rw [State.linkFault_retrainStart hregs, hfld]
    exact State.fld_setFld_same hs.regs _ _ _ (by decide)
  · rw [State.site, hsites]
    exact hlost
  · have hwf : spWf DdrChan.reset u.ddr = true := (congrArg (spWf DdrChan.reset) hddr).trans hs.ddr
    exact (State.bad_retrainStart hwf _).trans (congrArg DdrChan.bad (State.chan_congr hddr))

end

/-! ## A write that failed -/

section
variable {s : State} {ch line lane : Nat}

/-- The line at `a` has left the write buffer, in which `wbuf` stands. -/
def State.rebuffered (s : State) (ch a : Nat) (wbuf : List WLine) : State :=
  (s.setChan ch { s.chan ch with wbuf := wbuf, sent := (s.chan ch).sent.filter fun l => l.addr != a }).setFld F.DR_STATUS_WBUF ch wbuf.length

/-- R156: below the third failure the line goes to the front of the buffer. -/
theorem State.writeFails_retried (h : s.failCount ch (2 * line) < 3) : ∃ l ls, l.addr = ddrGlobal ch (64 * line) ∧
    s.writeFails ch line lane = (s.rebuffered ch (ddrGlobal ch (64 * line)) (l :: ls)).setFails ch (2 * line) (s.failCount ch (2 * line)) := by
  refine ⟨_, _, ?_, (if_pos h).trans rfl⟩
  cases hwas : ((s.chan ch).sent ++ (s.chan ch).wbuf).find? fun l => l.addr == ddrGlobal ch (64 * line) with
  | none => rfl
  | some l => simpa using List.find?_some hwas

/-- R157: at the third failure the line holds poison. -/
theorem State.writeFails_lost (h : s.failCount ch (2 * line) = 3) : ∃ ls, s.writeFails ch line lane =
    (((s.rebuffered ch (ddrGlobal ch (64 * line)) ls).setFails ch (2 * line) 0).markRange (ddrGlobal ch (64 * line)) 64 true).giveUp ch lane :=
  ⟨_, (if_neg (by omega)).trans rfl⟩

theorem State.chan_rebuffered (hddr : spWf DdrChan.reset s.ddr = true) (a : Nat) (wbuf : List WLine) :
    (s.rebuffered ch a wbuf).chan ch = { s.chan ch with wbuf := wbuf, sent := (s.chan ch).sent.filter fun l => l.addr != a } :=
  State.chan_setChan_same hddr _

/-- R156: what a retry leaves. -/
theorem State.writeFails_retried_spec (hddr : spWf DdrChan.reset s.ddr = true) (h : s.failCount ch (2 * line) = 1) :
    (2 * line, 1) ∈ ((s.writeFails ch line lane).chan ch).fails ∧
      (((s.writeFails ch line lane).chan ch).wbuf.head?.map WLine.addr) = some (ddrGlobal ch (64 * line)) ∧
      (s.writeFails ch line lane).mem = s.mem ∧ (s.writeFails ch line lane).poison = s.poison := by
  obtain ⟨l, ls, hl, heq⟩ := State.writeFails_retried (lane := lane) (h.trans_lt (by decide))
  have hwf : spWf DdrChan.reset (s.rebuffered ch (ddrGlobal ch (64 * line)) (l :: ls)).ddr = true := State.ddrWf_setChan hddr _
  rw [heq, h]
  refine ⟨State.mem_setFails hwf one_ne_zero, ?_, rfl, rfl⟩
  obtain ⟨x, hx⟩ := State.setFails_chan (ch := ch) (key := 2 * line) hwf 1
  rw [hx, State.chan_rebuffered hddr, ← hl]
  rfl

theorem State.fld_writeFails_retried (hregs : s.regsWf) (ch : ChanId) (h : s.failCount ch.val (2 * line) = 1) {f : RegField}
    (hf : f ∈ alertFlags) : (s.writeFails ch.val line lane).fld f ch.val = s.fld f ch.val := by
  obtain ⟨l, ls, -, heq⟩ := State.writeFails_retried (lane := lane) (h.trans_lt (by decide))
  rw [heq]
  exact State.fld_setFld_sep (s := s.setChan ch.val _) hregs _ (wbuf_sep_alert ch f hf)

end

theorem spGet_foldl_true {β : Type} (k : β → Nat) (l : List β) {t : List (Nat × Bool)} {a : Nat}
    (h : spGet false t a = true ∨ ∃ b ∈ l, k b = a) : spGet false (l.foldl (fun t b => spSet false t (k b) true) t) a = true := by
  induction l generalizing t with
  | nil => simpa using h
  | cons b l ih =>
    refine ih ?_
    rcases h with h | ⟨x, hx, hk⟩
    · exact .inl (spGet_spSet_true.mpr (.inr h))
    · rcases List.mem_cons.mp hx with rfl | hx
      · exact .inl (spGet_spSet_true.mpr (.inl hk))
      · exact .inr ⟨x, hx, hk⟩

theorem State.poisonAt_markRange (s : State) (a : Nat) {n : Nat} (hn : 0 < n) : (s.markRange a n true).poisonAt a = true :=
  spGet_foldl_true (fun k => a / 32 + k) _ (.inr ⟨0, List.mem_range.mpr (by omega), rfl⟩)

/-- R157: a write that is given up leaves its line holding poison. -/
theorem State.writeFails_lost_spec {s : State} {line : Nat} (hs : s.canonical) (ch : ChanId) (lane : Nat)
    (h : s.failCount ch.val (2 * line) = 3) : (s.writeFails ch.val line lane).fld F.DR_STATUS_LINK_FAULT ch.val = 1 ∧
      ((s.writeFails ch.val line lane).site (siteLane ch.val lane)).lasting = true ∧
      (s.writeFails ch.val line lane).fld F.DR_STATUS_RETRAINING ch.val = 1 ∧
      (s.writeFails ch.val line lane).poisonAt (ddrGlobal ch.val (64 * line)) = true := by
  obtain ⟨ls, heq⟩ := State.writeFails_lost (lane := lane) h
  have hkept : s.keepsStores (((s.rebuffered ch.val (ddrGlobal ch.val (64 * line)) ls).setFails ch.val (2 * line) 0).markRange
      (ddrGlobal ch.val (64 * line)) 64 true) :=
    ((((State.keepsStores.refl s).setChan ..).setFld ..).setFails ..).markRange ..
  obtain ⟨hfault, hlasting, htrains, hpoison, -⟩ := State.giveUp_spec (hkept.canonical hs) ch lane
  rw [heq]
  refine ⟨hfault, hlasting, htrains, ?_⟩
  rw [State.poisonAt, hpoison]
  exact State.poisonAt_markRange _ _ (by decide)

/-! ## A read that was lost -/

section
variable {s : State}

/-- A step of a running transfer that changes the transfer alone leaves the channels, the registers and memory. -/
theorem State.onHead_frame (s : State) (c : Nat) {f : Transfer → State → Transfer × State} (hf : ∀ x t, (f x t).2 = t) :
    (s.onHead c f).ddr = s.ddr ∧ (s.onHead c f).regs = s.regs ∧ (s.onHead c f).mem = s.mem ∧ (s.onHead c f).poison = s.poison := by
  unfold State.onHead
  split
  · exact ⟨rfl, rfl, rfl, rfl⟩
  · next x rest _ =>
    extract_lets now y tagged
    have htagged : tagged.ddr = s.ddr ∧ tagged.regs = s.regs ∧ tagged.mem = s.mem ∧ tagged.poison = s.poison := by
      unfold tagged
      split
      · exact ⟨rfl, rfl, rfl, rfl⟩
      · exact ⟨rfl, rfl, rfl, rfl⟩
    rw [← hf x tagged] at htagged
    exact htagged

theorem State.foldl_onHead_frame (s : State) (cs : List Nat) {f : Transfer → State → Transfer × State} (hf : ∀ x t, (f x t).2 = t) :
    let t := cs.foldl (fun (s : State) c => s.onHead c f) s
    t.ddr = s.ddr ∧ t.regs = s.regs ∧ t.mem = s.mem ∧ t.poison = s.poison :=
  List.foldlRecOn (motive := fun t : State => t.ddr = s.ddr ∧ t.regs = s.regs ∧ t.mem = s.mem ∧ t.poison = s.poison) cs _
    ⟨rfl, rfl, rfl, rfl⟩ fun t ht c _ => by
      obtain ⟨hddr, hregs, hmem, hpoison⟩ := ht
      obtain ⟨hddr', hregs', hmem', hpoison'⟩ := t.onHead_frame c hf
      exact ⟨hddr'.trans hddr, hregs'.trans hregs, hmem'.trans hmem, hpoison'.trans hpoison⟩

/-- R156: below the third failure the failure is noted, and the transfers that read the line read it again. -/
theorem State.readFails_retried_spec {ch line lane : Nat} (hddr : spWf DdrChan.reset s.ddr = true)
    (h : s.failCount ch (2 * line + 1) = 1) : (2 * line + 1, 1) ∈ ((s.readFails ch line lane).chan ch).fails ∧
      (s.readFails ch line lane).regs = s.regs ∧
      (s.readFails ch line lane).mem = s.mem ∧ (s.readFails ch line lane).poison = s.poison := by
  unfold State.readFails
  extract_lets a key n cs noted
  have hn : n = 1 := h
  obtain ⟨hddr', hregs, hmem, hpoison⟩ := noted.foldl_onHead_frame cs
    (f := fun x s => ({ x with again := (x.again.filter fun y => y.1 != a) ++ [(a, s.clk.mclk)] }, s)) fun _ _ => rfl
  rw [if_pos (by omega)]
  refine ⟨?_, hregs, hmem, hpoison⟩
  rw [State.chan_congr hddr']
  unfold noted
  rw [hn]
  exact State.mem_setFails hddr one_ne_zero

/-- R157: at the third failure the line is delivered with poison to the transfers that read it, and the command is given up. -/
theorem State.readFails_lost {ch line lane : Nat} (h : s.failCount ch (2 * line + 1) = 3) : ∃ t, s.keepsStores t ∧
    s.readFails ch line lane = t.giveUp ch lane ∧ (spWf DdrChan.reset s.ddr = true → s.readersOf ch (ddrGlobal ch (64 * line)) = [] →
      ddrGlobal ch (64 * line) ∈ (t.chan ch).bad) := by
  unfold State.readFails
  extract_lets a key n cs noted cleared _ delivered read
  have hn : n = 3 := h
  have hdelivered : s.keepsStores delivered := ((State.keepsStores.refl s).setFails ch key 0).setChan ..
  have hread : s.keepsStores read := by
    unfold read
    refine .foldl hdelivered _ fun t _ ht => .onHead ht (fun _ u hu => ?_) ..
    split
    · exact hu.grantRead ..
    · exact hu
  refine ⟨read, hread, if_neg (by omega), fun hddr hnone => ?_⟩
  have hcs : cs = [] := hnone
  have hwf : spWf DdrChan.reset cleared.ddr = true := State.ddrWf_setChan hddr _
  have hbad : (delivered.chan ch).bad = (cleared.chan ch).bad ++ [a] := congrArg DdrChan.bad (State.chan_setChan_same hwf _)
  unfold read
  rw [hcs, List.foldl_nil, hbad]
  exact List.mem_append_right _ (List.mem_singleton_self a)

theorem State.readersOf_congr {t : State} (h : t.stow = s.stow) (ch a : Nat) : t.readersOf ch a = s.readersOf ch a := by
  simp only [State.readersOf, State.queue, h]

end

/-! ## Alerts as a whole -/

theorem State.frame_alerted (s : State) (f : RegField) (ch lane : Nat) : (s.alerted f ch lane).ddr = s.ddr ∧
    (s.alerted f ch lane).mem = s.mem ∧ (s.alerted f ch lane).poison = s.poison ∧ (s.alerted f ch lane).stow = s.stow :=
  have h := s.offFaults_alerted f ch lane
  ⟨congrArg (fun u => u.ddr) h, congrArg (fun u => u.mem) h, congrArg (fun u => u.poison) h, congrArg (fun u => u.stow) h⟩

section
variable {s : State} (hs : s.canonical) (ch : ChanId) {f : RegField} (hf : f ∈ alertFlags) {line lane : Nat}
include hs hf

/-- R156: the alert of a write that has not failed before. -/
theorem State.alerted_write_first (h : ∀ x ∈ (s.chan ch.val).fails, x.1 ≠ 2 * line) :
    let t := (s.alerted f ch.val lane).writeFails ch.val line lane
    t.fld f ch.val = 1 ∧ (2 * line, 1) ∈ (t.chan ch.val).fails ∧
      ((t.chan ch.val).wbuf.head?.map WLine.addr) = some (ddrGlobal ch.val (64 * line)) ∧ t.mem = s.mem ∧ t.poison = s.poison := by
  have hcanon := State.canonical_alerted hs f ch.val lane
  obtain ⟨hddr, hmem, hpoison, -⟩ := s.frame_alerted f ch.val lane
  have hcount : (s.alerted f ch.val lane).failCount ch.val (2 * line) = 1 := (State.failCount_congr hddr).trans (State.failCount_of_none h)
  obtain ⟨hnoted, hfront, hmem', hpoison'⟩ := State.writeFails_retried_spec (lane := lane) hcanon.ddr hcount
  exact ⟨(State.fld_writeFails_retried hcanon.regs ch hcount hf).trans (State.fld_alerted ch hs.regs hf lane), hnoted, hfront,
    hmem'.trans hmem, hpoison'.trans hpoison⟩

/-- R156: the alert of a read that has not failed before. -/
theorem State.alerted_read_first (h : ∀ x ∈ (s.chan ch.val).fails, x.1 ≠ 2 * line + 1) :
    let t := (s.alerted f ch.val lane).readFails ch.val line lane
    t.fld f ch.val = 1 ∧ (2 * line + 1, 1) ∈ (t.chan ch.val).fails ∧ t.mem = s.mem ∧ t.poison = s.poison := by
  have hcanon := State.canonical_alerted hs f ch.val lane
  obtain ⟨hddr, hmem, hpoison, -⟩ := s.frame_alerted f ch.val lane
  have hcount : (s.alerted f ch.val lane).failCount ch.val (2 * line + 1) = 1 := (State.failCount_congr hddr).trans (State.failCount_of_none h)
  obtain ⟨hnoted, hregs, hmem', hpoison'⟩ := State.readFails_retried_spec (lane := lane) hcanon.ddr hcount
  exact ⟨(State.fld_congr hregs ..).trans (State.fld_alerted ch hs.regs hf lane), hnoted, hmem'.trans hmem, hpoison'.trans hpoison⟩

end

section
variable {s : State} (hs : s.canonical) (ch : ChanId) (f : RegField) {line : Nat} (lane : Nat)
include hs

/-- R157: the third alert of a write. -/
theorem State.alerted_write_third (h : s.failCount ch.val (2 * line) = 3) :
    let t := (s.alerted f ch.val lane).writeFails ch.val line lane
    t.fld F.DR_STATUS_LINK_FAULT ch.val = 1 ∧ (t.site (siteLane ch.val lane)).lasting = true ∧ t.fld F.DR_STATUS_RETRAINING ch.val = 1 ∧
      t.poisonAt (ddrGlobal ch.val (64 * line)) = true := by
  obtain ⟨hddr, -, -, -⟩ := s.frame_alerted f ch.val lane
  exact State.writeFails_lost_spec (State.canonical_alerted hs f ch.val lane) ch lane ((State.failCount_congr hddr).trans h)

/-- R157: the third alert of a read. -/
theorem State.alerted_read_third (h : s.failCount ch.val (2 * line + 1) = 3) :
    let t := (s.alerted f ch.val lane).readFails ch.val line lane
    t.fld F.DR_STATUS_LINK_FAULT ch.val = 1 ∧ (t.site (siteLane ch.val lane)).lasting = true ∧ t.fld F.DR_STATUS_RETRAINING ch.val = 1 ∧
      (s.readersOf ch.val (ddrGlobal ch.val (64 * line)) = [] → ddrGlobal ch.val (64 * line) ∈ (t.chan ch.val).bad) := by
  have hcanon := State.canonical_alerted hs f ch.val lane
  obtain ⟨hddr, -, -, hstow⟩ := s.frame_alerted f ch.val lane
  obtain ⟨u, hkept, heq, hbad⟩ := State.readFails_lost (lane := lane) ((State.failCount_congr hddr).trans h)
  obtain ⟨hfault, hlasting, htrains, -, hsame⟩ := State.giveUp_spec (hkept.canonical hcanon) ch lane
  dsimp only
  rw [heq]
  refine ⟨hfault, hlasting, htrains, fun hnone => ?_⟩
  rw [hsame]
  exact hbad hcanon.ddr ((State.readersOf_congr hstow ..).trans hnone)

end

end Sys2Proof.Machine
end

section
/-! SUPPORT. The mark of a device, and the delivery of a line with its outcome (R150, R151, R153, Table DR-4). -/

namespace Sys2Proof.Machine

/-! ## Marks -/

/-- R151: a device of the channel is marked. -/
def State.marked (s : State) (ch device : Nat) : State :=
  let t := (s.setFld F.DR_MARK_DEVICE ch device).setFlag F.DR_MARK_VALID ch
  t.setChan ch { t.chan ch with markAt := t.clk.mclk }

/-- R151, R153: the mark is told to Plumb and recorded. -/
def State.markTold (s : State) (ch device : Nat) : State :=
  ((s.marked ch device).raise 0x0A (ch + 16 * device)).record 0x0D ch (words [ch, 0, device, 6, (s.marked ch device).fld F.PL_STEP_STEP]) 3

theorem siteFields_sep_mark (ch : ChanId) : ∀ g ∈ siteFields, g.1.sep g.2 F.DR_MARK_VALID ch.val := by
  revert ch; decide

theorem valid_sep_device (ch : ChanId) : F.DR_MARK_VALID.sep ch.val F.DR_MARK_DEVICE ch.val := by revert ch; decide

section
variable {s : State} (ch : ChanId)

/-- R151: the mark stands, and counts from this cycle. -/
theorem State.marked_spec (hregs : s.regsWf) (hddr : spWf DdrChan.reset s.ddr = true) {d : Nat} (hd : d < 10) :
    (s.marked ch.val d).flag F.DR_MARK_VALID ch.val = true ∧ (s.marked ch.val d).fld F.DR_MARK_DEVICE ch.val = d ∧
      ((s.marked ch.val d).chan ch.val).markAt = s.clk.mclk := by
  have hset : (s.setFld F.DR_MARK_DEVICE ch.val d).regsWf := State.regsWf_setFld hregs ..
  have hvalid : (s.marked ch.val d).fld F.DR_MARK_VALID ch.val = 1 := State.fld_setFld_same hset _ _ _ (by decide)
  refine ⟨by rw [State.flag, hvalid]; rfl, ?_, congrArg DdrChan.markAt (State.chan_setChan_same hddr _)⟩
  refine (State.fld_setFld_sep hset 1 (valid_sep_device ch)).trans ((State.fld_setFld_same hregs _ _ _ (by decide)).trans ?_)
  exact Nat.mod_eq_of_lt (by simp only [F.DR_MARK_DEVICE]; omega)

theorem State.isNone_markOf (s : State) (ch : Nat) :
    (s.markOf ch).isNone = !(s.flag F.DR_MARK_VALID ch && decide ((s.chan ch).markAt + 8 ≤ s.clk.mclk)) := by
  unfold State.markOf
  cases s.flag F.DR_MARK_VALID ch && decide ((s.chan ch).markAt + 8 ≤ s.clk.mclk) with
  | true => rfl
  | false => rfl

theorem exec_drMarkWrite (hdark : s.coreDark = false) (device : Fin 10) : exec (.drMarkWrite ch device) s =
    if (s.site (siteDevice ch.val device.val)).lasting && !(s.flag F.DR_MARK_VALID ch.val) then .next (s.markTold ch.val device.val)
    else .next s := by
  simp only [exec, execDrMarkWrite, hdark, Bool.false_eq_true, if_false]
  rfl

/-- R151: a mark takes effect 8 MCLK cycles after its write. -/
theorem State.markTold_spec (hregs : s.regsWf) (hddr : spWf DdrChan.reset s.ddr = true) {d : Nat} (hd : d < 10) :
    (s.markTold ch.val d).markOf ch.val = none ∧ ((s.markTold ch.val d).tickM 8).markOf ch.val = some d ∧
      (s.markTold ch.val d).mem = s.mem := by
  obtain ⟨hvalid, hdevice, hat⟩ := State.marked_spec ch hregs hddr hd
  have htold : (s.markTold ch.val d).offFaults = (s.marked ch.val d).offFaults := (State.offFaults_record ..).trans (State.offFaults_raise ..)
  have hregs' : (s.markTold ch.val d).regs = (s.marked ch.val d).regs := (State.regs_record ..).trans (State.regs_raise ..)
  have hmem : (s.markTold ch.val d).mem = s.mem := congrArg (fun u => u.mem) htold
  have hclk : (s.markTold ch.val d).clk = s.clk := congrArg (fun u => u.clk) htold
  have hddr' : (s.markTold ch.val d).ddr = (s.marked ch.val d).ddr := congrArg (fun u => u.ddr) htold
  generalize s.markTold ch.val d = t at *
  have hvalid' : t.flag F.DR_MARK_VALID ch.val = true := by rw [State.flag, State.fld_congr hregs']; exact hvalid
  have hat' : (t.chan ch.val).markAt = t.clk.mclk := by rw [State.chan_congr hddr', hat, hclk]
  have htick : (t.tickM 8).flag F.DR_MARK_VALID ch.val = true ∧ ((t.tickM 8).chan ch.val).markAt + 8 ≤ (t.tickM 8).clk.mclk :=
    ⟨hvalid', Nat.add_le_add_right hat'.le 8⟩
  refine ⟨?_, ?_, hmem⟩
  · simp [State.markOf, hat']
  · rw [State.markOf, htick.1, decide_eq_true htick.2, Bool.and_true, if_pos rfl]
    exact congrArg some ((State.fld_congr hregs' ..).trans hdevice)

end

/-! ## The outcome of a line (R150) -/

/-- What no delivery of a line reaches: neither the faults and records of it, nor the channels' error logs and lost lines. -/
def State.offLines (s : State) : State := { s.offFaults with ddr := [] }

/-- A channel beside its error log and its lost lines. -/
def DdrChan.offLog (d : DdrChan) : DdrChan := { d with errLog := [], errLost := false, bad := [] }

theorem DdrChan.offLog_eq {d e : DdrChan} (h : d.offLog = e.offLog) : d.openq = e.openq ∧ d.quota = e.quota ∧ d.markAt = e.markAt :=
  ⟨congrArg (fun d => d.openq) h, congrArg (fun d => d.quota) h, congrArg (fun d => d.markAt) h⟩

/-- The registers that the delivery of a line writes, beside its counter. -/
def deliveryFields (ch : Nat) : List (RegField × Nat) := (F.DR_STATUS_UNCORR, ch) :: siteFields

/-- The delivery of a line has changed registers of `W`, records and fault sites, and of the channels the error log and lost lines of `ch`. -/
structure State.delivers (W : List (RegField × Nat)) (ch : Nat) (s t : State) : Prop where
  regs : s.writesOnly W t
  rest : t.offLines = s.offLines
  ddr  : spWf DdrChan.reset s.ddr = true → spWf DdrChan.reset t.ddr = true
  chan : spWf DdrChan.reset s.ddr = true → (t.chan ch).offLog = (s.chan ch).offLog

namespace State.delivers

variable {W : List (RegField × Nat)} {ch : Nat} {s t u : State}

theorem refl (s : State) : s.delivers W ch s := ⟨.of_regs rfl, rfl, id, fun _ => rfl⟩

theorem trans (h : s.delivers W ch t) (h' : t.delivers W ch u) : s.delivers W ch u :=
  ⟨h.regs.trans h'.regs, h'.rest.trans h.rest, h'.ddr ∘ h.ddr, fun hs => (h'.chan (h.ddr hs)).trans (h.chan hs)⟩

theorem mono {W' : List (RegField × Nat)} (h : s.delivers W ch t) (hsub : W ⊆ W') : s.delivers W' ch t :=
  ⟨h.regs.mono hsub, h.rest, h.ddr, h.chan⟩

/-- Faults, records and events. -/
theorem faults (hregs : s.writesOnly W t) (hrest : t.offFaults = s.offFaults) : s.delivers W ch t :=
  have hddr : t.ddr = s.ddr := congrArg (fun u => u.ddr) hrest
  ⟨hregs, congrArg (fun u => { u with ddr := [] }) hrest, fun h => hddr ▸ h, fun _ => congrArg DdrChan.offLog (State.chan_congr hddr)⟩

/-- A change of the channel's error log or lost lines. -/
theorem setChan {d : DdrChan} (hd : d.offLog = (s.chan ch).offLog) : s.delivers W ch (s.setChan ch d) :=
  ⟨.of_regs rfl, rfl, fun h => State.ddrWf_setChan h d, fun h => by rw [State.chan_setChan_same h, hd]⟩

theorem setFld (f : RegField) (i x : Nat) (hf : (f, i) ∈ W) : s.delivers W ch (s.setFld f i x) :=
  .faults ((State.writesOnly.of_regs rfl).setFld f i x hf) rfl

theorem record (kind source : Nat) (bs : List Byte) (domain : Nat) : s.delivers W ch (s.record kind source bs domain) :=
  .faults ((s.record_writesOnly ..).mono (List.nil_subset _)) (s.offFaults_record ..)

theorem raise (code detail : Nat) : s.delivers W ch (s.raise code detail) :=
  .faults ((s.raise_writesOnly ..).mono (List.nil_subset _)) (s.offFaults_raise ..)

theorem errLog (kind device : Nat) (scrub : Bool) (line : Nat) : s.delivers W ch (s.errLog ch kind device scrub line) := by
  unfold State.errLog
  dsimp only
  split
  · exact .setChan rfl
  · exact .setChan rfl

theorem ite {p : Prop} [Decidable p] (ht : s.delivers W ch t) (hu : s.delivers W ch u) : s.delivers W ch (if p then t else u) := by
  split
  · exact ht
  · exact hu

section
variable (hW : siteFields ⊆ W)
include hW

theorem faultAt (i : Nat) : s.delivers W ch (s.faultAt i) := .faults ((s.faultAt_writesOnly i).mono hW) (s.offFaults_faultAt i)

theorem faultsAt (site : Nat → Nat) (l : List Nat) : s.delivers W ch (l.foldl (fun s d => s.faultAt (site d)) s) :=
  List.foldlRecOn (motive := fun t => s.delivers W ch t) l _ (.refl s) fun _ h _ _ => h.trans (.faultAt hW _)

end

/-- A delivery leaves memory, the queue of commands, Ridgepole and the clocks. -/
theorem frame (h : s.delivers W ch t) : t.mem = s.mem ∧ t.pending = s.pending ∧ t.ridge = s.ridge ∧ t.clk = s.clk :=
  ⟨congrArg (fun u => u.mem) h.rest, congrArg (fun u => u.pending) h.rest, congrArg (fun u => u.ridge) h.rest,
    congrArg (fun u => u.clk) h.rest⟩

end State.delivers

/-! ## What an outcome writes -/

/-- Table DR-7: the counter of an outcome. -/
def outcomeCounter : LineOutcome → Option RegField
  | .clean => none
  | .marked => none
  | .innerCorrected => some F.DR_ECC_COUNT_INNER
  | .outerCorrected => some F.DR_ECC_COUNT_OUTER
  | .storedPoison => some F.DR_ECC_COUNT_POISON
  | .uncorrectable => some F.DR_ECC_COUNT_UNCORR

/-- Every register that the delivery of a line writes. -/
def lineFields (ch : Nat) : List (RegField × Nat) :=
  (F.DR_ECC_COUNT_INNER, ch) :: (F.DR_ECC_COUNT_OUTER, ch) :: (F.DR_ECC_COUNT_POISON, ch) :: (F.DR_ECC_COUNT_UNCORR, ch) :: deliveryFields ch

theorem counter_mem_lineFields {o : LineOutcome} {f : RegField} (h : outcomeCounter o = some f) (ch : Nat) : (f, ch) ∈ lineFields ch := by
  cases o
  all_goals cases h
  all_goals simp [lineFields]

theorem deliveryFields_sep_counter (ch : ChanId) {o : LineOutcome} {f : RegField} (h : outcomeCounter o = some f) :
    ∀ g ∈ deliveryFields ch.val, g.1.sep g.2 f ch.val := by
  cases o
  all_goals cases h
  all_goals revert ch; decide

theorem counter_width {o : LineOutcome} {f : RegField} (h : outcomeCounter o = some f) : f.fits ∧ 2 ^ f.w - 1 = 65535 := by
  cases o
  all_goals cases h
  all_goals decide

theorem lineFields_sep_mark (ch : ChanId) : ∀ g ∈ lineFields ch.val, g.1.sep g.2 F.DR_MARK_VALID ch.val := by
  revert ch; decide

theorem siteFields_sep_uncorr (ch : ChanId) : ∀ g ∈ siteFields, g.1.sep g.2 F.DR_STATUS_UNCORR ch.val := by
  revert ch; decide

theorem siteFields_subset (ch : Nat) : siteFields ⊆ deliveryFields ch := List.subset_cons_self _ _

theorem deliveryFields_subset (ch : Nat) : deliveryFields ch ⊆ lineFields ch :=
  fun _ h => List.mem_cons_of_mem _ (List.mem_cons_of_mem _ (List.mem_cons_of_mem _ (List.mem_cons_of_mem _ h)))

section
variable {s : State} {ch line part : Nat} {scrub : Bool} {x : Decoded} {imp : List Nat}

/-- An outcome without a counter has the inner corrections alone as its consequence. -/
theorem State.lineOutcome_uncounted (h : outcomeCounter x.outcome = none) :
    s.lineOutcome ch line part scrub x imp = x.inner.foldl (fun s d => s.faultAt (siteDevice ch d)) s := by
  obtain ⟨o, inner, outer⟩ := x
  cases o with
  | clean | marked => rfl
  | innerCorrected | outerCorrected | storedPoison | uncorrectable => cases h

/-- An outcome with a counter raises it once. -/
theorem State.lineOutcome_counted {f : RegField} (h : outcomeCounter x.outcome = some f) : ∃ u,
    s.delivers (deliveryFields ch) ch u ∧ (u.bump f ch).delivers (deliveryFields ch) ch (s.lineOutcome ch line part scrub x imp) := by
  unfold State.lineOutcome
  extract_lets s1 a note event d dev s2 s3 x1 s4
  have hW := siteFields_subset ch
  have hs1 : s.delivers (deliveryFields ch) ch s1 := .faultsAt hW (siteDevice ch) x.inner
  have hnote : ∀ (t : State) dev, t.delivers (deliveryFields ch) ch (note t dev) := fun t dev => .record ..
  have hevent : ∀ t : State, t.delivers (deliveryFields ch) ch (event t) := fun t => .ite (.raise ..) (.refl t)
  refine ⟨s1, hs1, ?_⟩
  cases ho : x.outcome with
  | clean | marked => rw [ho] at h; cases h
  | innerCorrected =>
    rw [ho] at h; cases h
    exact .errLog ..
  | outerCorrected =>
    rw [ho] at h; cases h
    exact ((State.delivers.errLog ..).trans (.faultAt hW _)).trans (hnote _ _)
  | storedPoison =>
    rw [ho] at h; cases h
    exact (hnote _ _).trans (hevent _)
  | uncorrectable =>
    rw [ho] at h; cases h
    have hs2 : (s1.bump F.DR_ECC_COUNT_UNCORR ch).delivers (deliveryFields ch) ch s2 :=
      (State.delivers.setFld F.DR_STATUS_UNCORR ch 1 List.mem_cons_self).trans (.errLog ..)
    have hs3 : s2.delivers (deliveryFields ch) ch s3 := .faultsAt hW (siteDevice ch) imp
    have hs4 : s3.delivers (deliveryFields ch) ch s4 := .ite (.refl s3) (.setChan rfl)
    exact (((hs2.trans hs3).trans hs4).trans (hnote _ _)).trans (hevent _)

theorem State.lineOutcome_delivers : s.delivers (lineFields ch) ch (s.lineOutcome ch line part scrub x imp) := by
  have hW := deliveryFields_subset ch
  cases h : outcomeCounter x.outcome with
  | none =>
    rw [State.lineOutcome_uncounted h]
    exact .faultsAt (fun _ h => hW (siteFields_subset ch h)) (siteDevice ch) x.inner
  | some f =>
    obtain ⟨u, hu, ht⟩ := State.lineOutcome_counted (s := s) (line := line) (part := part) (scrub := scrub) (imp := imp) h
    exact ((hu.mono hW).trans (.setFld f ch _ (counter_mem_lineFields h ch))).trans (ht.mono hW)

end

section
variable {s : State} (hregs : s.regsWf) (ch : ChanId) {line part : Nat} {x : Decoded} {imp : List Nat}
include hregs

/-- Table DR-7: the counter of the outcome goes up by one and saturates. -/
theorem State.fld_lineOutcome_counter {scrub : Bool} {f : RegField} (hf : outcomeCounter x.outcome = some f) :
    (s.lineOutcome ch.val line part scrub x imp).fld f ch.val = min 65535 (s.fld f ch.val + 1) := by
  obtain ⟨u, hu, ht⟩ := State.lineOutcome_counted (s := s) (ch := ch.val) (line := line) (part := part) (scrub := scrub) (imp := imp) hf
  have hsep := deliveryFields_sep_counter ch hf
  have huregs := hu.regs.regsWf hregs
  obtain ⟨hfits, hmax⟩ := counter_width hf
  rw [ht.regs.fld (State.regsWf_bump huregs ..) f ch.val hsep, State.fld_bump_same huregs _ _ _ hfits, hu.regs.fld hregs f ch.val hsep, hmax]

end

theorem State.bad_errLog {s : State} (hddr : spWf DdrChan.reset s.ddr = true) (ch kind device : Nat) (scrub : Bool) (line : Nat) :
    ((s.errLog ch kind device scrub line).chan ch).bad = (s.chan ch).bad := by
  unfold State.errLog
  dsimp only
  split
  · rw [State.chan_setChan_same hddr]
  · rw [State.chan_setChan_same hddr]

theorem State.ddr_of_offFaults {s t : State} (h : t.offFaults = s.offFaults) : t.ddr = s.ddr := congrArg (fun u => u.ddr) h

theorem State.ddr_faultsAt (s : State) (site : Nat → Nat) (l : List Nat) : (l.foldl (fun s d => s.faultAt (site d)) s).ddr = s.ddr :=
  List.foldlRecOn (motive := fun t : State => t.ddr = s.ddr) l _ rfl fun t h _ _ =>
    (State.ddr_of_offFaults (t.offFaults_faultAt _)).trans h

/-- R150: an uncorrectable line that is not scrubbed sets UNCORR and is delivered with poison. -/
theorem State.lineOutcome_uncorrectable {s : State} (hregs : s.regsWf) (hddr : spWf DdrChan.reset s.ddr = true) (ch : ChanId)
    {line part : Nat} {x : Decoded} {imp : List Nat} (hx : x.outcome = .uncorrectable) :
    (s.lineOutcome ch.val line part false x imp).fld F.DR_STATUS_UNCORR ch.val = 1 ∧
      ((s.lineOutcome ch.val line part false x imp).chan ch.val).bad = (s.chan ch.val).bad ++ [ddrGlobal ch.val (64 * line)] := by
  unfold State.lineOutcome
  extract_lets s1 a note event d dev s2 s3 _ s4
  simp only [hx]
  have hfaults : s.delivers siteFields ch.val s1 := .faultsAt (List.Subset.refl _) (siteDevice ch.val) x.inner
  have hcounted : (s1.bump F.DR_ECC_COUNT_UNCORR ch.val).regsWf := State.regsWf_bump (hfaults.regs.regsWf hregs) ..
  have hs2 : ((s1.bump F.DR_ECC_COUNT_UNCORR ch.val).setFlag F.DR_STATUS_UNCORR ch.val).delivers siteFields ch.val s2 := .errLog ..
  have hs3 : s2.delivers siteFields ch.val s3 := .faultsAt (List.Subset.refl _) (siteDevice ch.val) imp
  have hs4 : s3.delivers siteFields ch.val s4 := .ite (.refl s3) (.setChan rfl)
  have hnoted : s4.delivers siteFields ch.val (event (note s4 dev)) :=
    (State.delivers.record ..).trans (.ite (.raise ..) (.refl (note s4 dev)))
  refine ⟨?_, ?_⟩
  · rw [(((hs2.trans hs3).trans hs4).trans hnoted).regs.fld (State.regsWf_setFlag hcounted ..) F.DR_STATUS_UNCORR ch.val
      (siteFields_sep_uncorr ch)]
    exact State.fld_setFld_same hcounted _ _ _ (by decide)
  · have hs1wf := hfaults.ddr hddr
    have hnotedDdr : (event (note s4 dev)).ddr = s4.ddr := by
      unfold event
      split
      · exact State.ddr_of_offFaults ((State.offFaults_raise ..).trans (State.offFaults_record ..))
      · exact State.ddr_of_offFaults (State.offFaults_record ..)
    calc ((event (note s4 dev)).chan ch.val).bad
      _ = (s4.chan ch.val).bad := congrArg DdrChan.bad (State.chan_congr hnotedDdr)
      _ = (s3.chan ch.val).bad ++ [a] := congrArg DdrChan.bad (State.chan_setChan_same ((hs2.trans hs3).ddr hs1wf) _)
      _ = (s2.chan ch.val).bad ++ [a] := by rw [State.chan_congr (s2.ddr_faultsAt (siteDevice ch.val) imp)]
      _ = (s1.chan ch.val).bad ++ [a] := by
        rw [State.bad_errLog (s := (s1.bump F.DR_ECC_COUNT_UNCORR ch.val).setFlag F.DR_STATUS_UNCORR ch.val) hs1wf]
        rfl
      _ = (s.chan ch.val).bad ++ [a] := by rw [State.chan_congr (s.ddr_faultsAt (siteDevice ch.val) x.inner)]

/-! ## DDR_LINE_DECODE -/

/-- R150: the outcome delivers the line late. -/
def LineOutcome.slow (o : LineOutcome) : Bool := o == .outerCorrected || o == .uncorrectable

/-- R41, R150: a late line that a bundle waits for raises a hold, unless a window or a mark takes it up. -/
def State.lineHold (s : State) (ch core : Nat) (o : LineOutcome) (waits : Bool) : State :=
  if LineOutcome.slow o && (s.markOf ch).isNone && waits && !(s.coreClaimed core) then s.raiseHold 1 (some (s.clk.aclk + 40)) else s

/-- R149, R150: the line has been decoded as `x`. -/
def State.lineDecoded (s : State) (ch line core part : Nat) (waits : Bool) (x : Decoded) (imp : List Nat) : State :=
  (s.lineOutcome ch line part false x imp).lineHold ch core x.outcome waits

theorem exec_ddrLineDecode {s : State} (hdark : s.coreDark = false) (ch : ChanId) (line : BitVec 28) (err : LineError) (core : CoreId)
    (part : PartId) (imp : BitVec 10) (waits : Bool) {x : Decoded}
    (hx : x = decodeLine (s.markOf ch.val) (s.poisonIn (ddrGlobal ch.val (64 * line.toNat)) 64) err.toNat) :
    exec (.ddrLineDecode ch line err core part imp waits) s =
      .next (s.lineDecoded ch.val line.toNat core.val part.val waits x (bitsOf 10 imp.toNat)) := by
  subst hx
  simp only [exec, execDdrLineDecode, hdark, Bool.false_eq_true, if_false]
  rfl

/-- The registers that a raised hold writes. -/
def holdFields : List (RegField × Nat) := [(F.PL_STATUS_HOLDING, 0), (F.PL_STATUS_HOLD_CAUSE, 0)]

theorem holdFields_sep_counter (ch : ChanId) {o : LineOutcome} {f : RegField} (h : outcomeCounter o = some f) :
    ∀ g ∈ holdFields, g.1.sep g.2 f ch.val := by
  cases o
  all_goals cases h
  all_goals revert ch; decide

theorem holdFields_sep_uncorr (ch : ChanId) : ∀ g ∈ holdFields, g.1.sep g.2 F.DR_STATUS_UNCORR ch.val := by
  revert ch; decide

section
variable {s : State} {ch core : Nat} {o : LineOutcome} {waits : Bool}

theorem State.raiseHold_writesOnly (s : State) (code : Nat) (due : Option Nat) : s.writesOnly holdFields (s.raiseHold code due) := by
  cases hhold : s.ridge.hold with
  | none =>
    rw [State.raiseHold_of_none hhold]
    generalize hbegun : ({ s.countMoves s.clk.aclk with ridge := _ } : State) = begun
    have hregs : begun.regs = s.regs := by rw [← hbegun]; rfl
    exact ((State.writesOnly.of_regs hregs).setFld F.PL_STATUS_HOLDING 0 1 (by decide)).setFld F.PL_STATUS_HOLD_CAUSE 0 code (by decide)
  | some h =>
    simp only [State.raiseHold, State.countMoves_ridge, hhold]
    exact .of_regs rfl

theorem State.lineHold_cases : s.lineHold ch core o waits = s ∨ s.lineHold ch core o waits = s.raiseHold 1 (some (s.clk.aclk + 40)) := by
  unfold State.lineHold
  split
  · exact .inr rfl
  · exact .inl rfl

theorem State.lineHold_writesOnly : s.writesOnly holdFields (s.lineHold ch core o waits) := by
  rcases State.lineHold_cases (s := s) (ch := ch) (core := core) (o := o) (waits := waits) with h | h
  · rw [h]
    exact .of_regs rfl
  · rw [h]
    exact s.raiseHold_writesOnly 1 _

theorem State.lineHold_frame : (s.lineHold ch core o waits).mem = s.mem ∧ (s.lineHold ch core o waits).pending = s.pending ∧
    (s.lineHold ch core o waits).ddr = s.ddr := by
  rcases State.lineHold_cases (s := s) (ch := ch) (core := core) (o := o) (waits := waits) with h | h
  · rw [h]
    exact ⟨rfl, rfl, rfl⟩
  · obtain ⟨x, r, h', heq, -⟩ := s.raiseHold_eq 1 (some (s.clk.aclk + 40))
    rw [h, heq]
    exact ⟨rfl, rfl, rfl⟩

theorem State.lineHold_of_not (h : (LineOutcome.slow o && (s.markOf ch).isNone) = false) : s.lineHold ch core o waits = s := by
  rw [State.lineHold, h]
  rfl

/-- R41: a bundle that waits for a late line on an unclaimed core holds. -/
theorem State.held_lineHold (hslow : LineOutcome.slow o = true) (hmark : (s.markOf ch).isNone = true) (hwaits : waits = true)
    (hclaim : s.coreClaimed core = false) : (s.lineHold ch core o waits).held = true := by
  have hguard : (LineOutcome.slow o && (s.markOf ch).isNone && waits && !(s.coreClaimed core)) = true := by
    simp [hslow, hmark, hwaits, hclaim]
  obtain ⟨x, r, h, heq, -⟩ := s.raiseHold_eq 1 (some (s.clk.aclk + 40))
  rw [State.lineHold, if_pos hguard, heq]
  rfl

end

/-- Whether a mark is in force stands through the delivery of a line. -/
theorem State.delivers.isNone_markOf {s t : State} {ch : ChanId} (h : s.delivers (lineFields ch.val) ch.val t) (hregs : s.regsWf)
    (hddr : spWf DdrChan.reset s.ddr = true) : (t.markOf ch.val).isNone = (s.markOf ch.val).isNone := by
  obtain ⟨-, -, hat⟩ := DdrChan.offLog_eq (h.chan hddr)
  obtain ⟨-, -, -, hclk⟩ := h.frame
  rw [State.isNone_markOf, State.isNone_markOf, State.flag, State.flag, h.regs.fld hregs F.DR_MARK_VALID ch.val (lineFields_sep_mark ch),
    hat, hclk]

section
variable {s : State} {ch line core part : Nat} {waits : Bool} {x : Decoded} {imp : List Nat}

theorem State.lineDecoded_frame : (s.lineDecoded ch line core part waits x imp).mem = s.mem ∧
    (s.lineDecoded ch line core part waits x imp).pending = s.pending := by
  obtain ⟨hmem, hpending, -, -⟩ :=
    (State.lineOutcome_delivers (s := s) (ch := ch) (line := line) (part := part) (scrub := false) (x := x) (imp := imp)).frame
  obtain ⟨hmem', hpending', -⟩ := State.lineHold_frame (s := s.lineOutcome ch line part false x imp) (ch := ch) (core := core)
    (o := x.outcome) (waits := waits)
  exact ⟨hmem'.trans hmem, hpending'.trans hpending⟩

/-- R149, R150: a line without a correction has no consequence. -/
theorem State.lineDecoded_clean (hx : x.outcome = .clean ∨ x.outcome = .marked) (hinner : x.inner = []) :
    s.lineDecoded ch line core part waits x imp = s := by
  have hout : outcomeCounter x.outcome = none ∧ LineOutcome.slow x.outcome = false := by
    rcases hx with hx | hx
    · rw [hx]
      exact ⟨rfl, rfl⟩
    · rw [hx]
      exact ⟨rfl, rfl⟩
  rw [State.lineDecoded, State.lineOutcome_uncounted hout.1, hinner, List.foldl_nil,
    State.lineHold_of_not (by rw [hout.2, Bool.false_and])]

end

section
variable {s : State} (hs : s.canonical) (ch : ChanId) {line core part : Nat} {waits : Bool} {x : Decoded} {imp : List Nat}
include hs

theorem State.isNone_markOf_lineOutcome : ((s.lineOutcome ch.val line part false x imp).markOf ch.val).isNone = (s.markOf ch.val).isNone :=
  State.lineOutcome_delivers.isNone_markOf hs.regs hs.ddr

theorem State.fld_lineDecoded_counter {f : RegField} (hf : outcomeCounter x.outcome = some f) :
    (s.lineDecoded ch.val line core part waits x imp).fld f ch.val = min 65535 (s.fld f ch.val + 1) := by
  rw [State.lineDecoded, State.lineHold_writesOnly.fld (State.lineOutcome_delivers.regs.regsWf hs.regs) f ch.val (holdFields_sep_counter ch hf),
    State.fld_lineOutcome_counter hs.regs ch hf]

/-- R150: an uncorrectable line sets UNCORR and is delivered with poison. -/
theorem State.lineDecoded_uncorrectable (hx : x.outcome = .uncorrectable) :
    (s.lineDecoded ch.val line core part waits x imp).fld F.DR_STATUS_UNCORR ch.val = 1 ∧
      ((s.lineDecoded ch.val line core part waits x imp).chan ch.val).bad = (s.chan ch.val).bad ++ [ddrGlobal ch.val (64 * line)] := by
  obtain ⟨hflag, hbad⟩ := State.lineOutcome_uncorrectable (line := line) (part := part) (imp := imp) hs.regs hs.ddr ch hx
  refine ⟨?_, ?_⟩
  · rw [State.lineDecoded, State.lineHold_writesOnly.fld (State.lineOutcome_delivers.regs.regsWf hs.regs) F.DR_STATUS_UNCORR ch.val
      (holdFields_sep_uncorr ch), hflag]
  · rw [State.lineDecoded, State.chan_congr State.lineHold_frame.2.2, hbad]

/-- R41, R150: a bundle that waits for a late line on an unclaimed core holds. -/
theorem State.held_lineDecoded (hx : x.outcome = .outerCorrected ∨ x.outcome = .uncorrectable) (hwaits : waits = true)
    (hclaim : s.coreClaimed core = false) (hnone : s.markOf ch.val = none) : (s.lineDecoded ch.val line core part waits x imp).held = true := by
  obtain ⟨-, -, hridge, -⟩ :=
    (State.lineOutcome_delivers (s := s) (ch := ch.val) (line := line) (part := part) (scrub := false) (x := x) (imp := imp)).frame
  refine State.held_lineHold ?_ ((State.isNone_markOf_lineOutcome hs ch).trans (by rw [hnone]; rfl)) hwaits
    ((congrArg (fun r : Ridge => r.windows.any _) hridge).trans hclaim)
  rcases hx with hx | hx
  · rw [hx]
    rfl
  · rw [hx]
    rfl

/-- R151: on a channel with a mark every line decodes at the clean latency. -/
theorem State.ridge_lineDecoded (hsome : s.markOf ch.val ≠ none) : (s.lineDecoded ch.val line core part waits x imp).ridge = s.ridge := by
  have hmarked : (s.markOf ch.val).isNone = false := Option.isNone_eq_false_iff.mpr (Option.isSome_iff_ne_none.mpr hsome)
  obtain ⟨-, -, hridge, -⟩ :=
    (State.lineOutcome_delivers (s := s) (ch := ch.val) (line := line) (part := part) (scrub := false) (x := x) (imp := imp)).frame
  rw [State.lineDecoded, State.lineHold_of_not (by rw [State.isNone_markOf_lineOutcome hs ch, hmarked, Bool.and_false]), hridge]

end

end Sys2Proof.Machine
end

section
/-! SUPPORT. Scrub reads, and the statement about lines, alerts, scrubbing and marks (R158, R224). -/

namespace Sys2Proof.Machine

/-! ## SCRUB_READ -/

/-- R158: a line of the quota leaves the OPEN queue, in class C3. -/
def State.scrubTaken (s : State) (ch : Nat) : State :=
  ((s.setChan ch { s.chan ch with quota := (s.chan ch).quota - 1 }).tookOpen ch .scrub 1).classLines 0 3 1

/-- R158: the scrub read of a line that decodes as `x` has been made. -/
def State.scrubbed (s : State) (ch : Nat) (x : Decoded) (imp : List Nat) : State :=
  let line := s.fld F.DR_SCRUB_POS ch
  let t := ((s.scrubTaken ch).lineOutcome ch line 2 true x imp).setFld F.DR_SCRUB_POS ch (if line + 1 = 2 ^ 28 then 0 else line + 1)
  if line + 1 = 2 ^ 28 then t.bump F.DR_SCRUB_PASSES ch else t

/-- R149, R158: the decode of the line that scrubbing reads next. -/
def State.scrubDecode (s : State) (ch : Nat) (err : LineError) : Decoded :=
  decodeLine (s.markOf ch) (s.poisonIn (ddrGlobal ch (64 * s.fld F.DR_SCRUB_POS ch)) 64) err.toNat

theorem exec_scrubRead {s : State} (hdark : s.coreDark = false) (ch : ChanId) (err : LineError) (imp : BitVec 10) (dt : Nat) :
    exec (.scrubRead ch err imp dt) s = .next
      (if (s.passM dt).openFor ch.val .scrub && !((s.passM dt).scrubGated ch.val) then
        (s.passM dt).scrubbed ch.val ((s.passM dt).scrubDecode ch.val err) (bitsOf 10 imp.toNat)
      else s.passM dt) := by
  simp only [exec, execScrubRead, hdark, Bool.false_eq_true, if_false, apply_ite Host.Outcome.next, State.scrubbed, decide_eq_true_eq]
  rfl

theorem passes_sep_pos (ch : ChanId) : F.DR_SCRUB_PASSES.sep ch.val F.DR_SCRUB_POS ch.val := by revert ch; decide

/-- R158: a scrub read takes one line of the quota and moves POS on. -/
theorem State.scrubbed_spec {s : State} (hregs : s.regsWf) (hddr : spWf DdrChan.reset s.ddr = true) (ch : ChanId) (x : Decoded)
    (imp : List Nat) : (s.scrubbed ch.val x imp).mem = s.mem ∧
      ((s.scrubbed ch.val x imp).chan ch.val).quota = (s.chan ch.val).quota - 1 ∧
      (s.scrubbed ch.val x imp).fld F.DR_SCRUB_POS ch.val = (s.fld F.DR_SCRUB_POS ch.val + 1) % 2 ^ 28 := by
  unfold State.scrubbed
  extract_lets line moved
  have hkept : s.keepsPlan (s.scrubTaken ch.val) := (((State.keepsPlan.refl s).setChan ..).setChan ..).classLines ..
  have htaken : ((s.scrubTaken ch.val).chan ch.val).quota = (s.chan ch.val).quota - 1 := by
    refine (congrArg DdrChan.quota (State.chan_setChan_same (State.ddrWf_setChan hddr _) _)).trans ?_
    rw [State.chan_setChan_same hddr]
  have hdelivers : (s.scrubTaken ch.val).delivers (lineFields ch.val) ch.val ((s.scrubTaken ch.val).lineOutcome ch.val line 2 true x imp) :=
    State.lineOutcome_delivers
  have hwf := hdelivers.regs.regsWf (hkept.regs hregs)
  obtain ⟨hmem, -, -, -⟩ := hdelivers.frame
  have hquota := (DdrChan.offLog_eq (hdelivers.chan (hkept.ddr hddr))).2.1.trans htaken
  have hpos : moved.fld F.DR_SCRUB_POS ch.val = (line + 1) % 2 ^ 28 := by
    refine (State.fld_setFld_same hwf _ _ _ (by decide)).trans ?_
    split
    · next h => rw [h]; rfl
    · rfl
  split
  · exact ⟨hmem, hquota, (State.fld_setFld_sep (State.regsWf_setFld hwf ..) _ (passes_sep_pos ch)).trans hpos⟩
  · exact ⟨hmem, hquota, hpos⟩

/-! ## The quota of a served scrub entry -/

theorem src_ne_scrub_of_mem_waits {s : State} {w : Waiting} (h : w ∈ s.waits) : w.src ≠ .scrub := by
  unfold State.waits at h
  extract_lets staged book demand stage at h
  simp only [List.mem_append] at h
  rcases h with ((((h | h) | h) | h) | h) | h
  · obtain ⟨n, -, rfl⟩ := List.mem_map.mp h
    simp
  · unfold book at h
    split at h
    · exact absurd h List.not_mem_nil
    · rw [List.mem_singleton.mp h]
      simp
  · obtain ⟨⟨p, q⟩, -, hq⟩ := List.mem_filterMap.mp h
    cases q with
    | nil => cases hq
    | cons x q =>
      obtain ⟨m, -, rfl⟩ := Option.map_eq_some_iff.mp hq
      simp
  · obtain ⟨g, -, rfl⟩ := List.mem_map.mp h
    simp
  · obtain ⟨i, -, rfl⟩ := List.mem_map.mp h
    simp
  · obtain ⟨p, -, hp⟩ := List.mem_filterMap.mp h
    dsimp only at hp
    split at hp
    · cases hp
    · cases hp
      simp

/-- R158: scrubbing waits only while lines of the quota are left. -/
theorem State.quota_of_waitsOn {s : State} {ch n : Nat} {g : Bool} {ws : List Waiting} (hws : ∀ w ∈ ws, w.src ≠ .scrub)
    (h : (OpenSource.scrub, n, g) ∈ s.waitsOn ch ws) : (s.chan ch).quota ≠ 0 := by
  unfold State.waitsOn at h
  extract_lets d step scrub at h
  simp only [List.mem_append] at h
  rcases h with (h | h) | h
  · unfold step at h
    split at h
    · simp at h
    · exact absurd h List.not_mem_nil
  · obtain ⟨w, hw, heq⟩ := List.mem_filterMap.mp h
    split at heq
    · cases heq
    · exact absurd (congrArg Prod.fst (Option.some.inj heq)) (hws w hw)
  · unfold scrub at h
    split at h
    · next hleft => exact hleft.1
    · exact absurd h List.not_mem_nil

theorem src_mem_of_mem_fillPlaces {ws : List (OpenSource × Nat × Bool)} {room : Nat} {es : List OpenEntry} {e : OpenEntry}
    (h : e ∈ fillPlaces ws room es) : ∃ e' ∈ es, e'.src = e.src := by
  induction es generalizing room with
  | nil => exact absurd h List.not_mem_nil
  | cons x es ih =>
    unfold fillPlaces at h
    rcases List.mem_cons.mp h with rfl | h
    · exact ⟨x, List.mem_cons_self, rfl⟩
    · obtain ⟨e', he', hsrc⟩ := ih h
      exact ⟨e', List.mem_cons_of_mem _ he', hsrc⟩

/-- Whatever stands in an OPEN queue that is up to date waits. -/
theorem State.waitsOn_of_queueOpen {s : State} (hddr : spWf DdrChan.reset s.ddr = true) {ws : List Waiting} {ch : Nat} {e : OpenEntry}
    (h : e ∈ ((s.queueOpen ws ch).chan ch).openq) : ∃ n g, (e.src, n, g) ∈ s.waitsOn ch ws := by
  unfold State.queueOpen at h
  extract_lets w d keep new at h
  rw [State.chan_setChan_same hddr] at h
  obtain ⟨e', he', hsrc⟩ := src_mem_of_mem_fillPlaces h
  rw [← hsrc]
  rcases List.mem_append.mp he' with he' | he'
  · obtain ⟨x, hx, hmatch⟩ := List.any_eq_true.mp (List.mem_filter.mp he').2
    rw [← beq_iff_eq.mp (Bool.and_eq_true_iff.mp hmatch).1]
    exact ⟨_, _, hx⟩
  · obtain ⟨x, hx, rfl⟩ := List.mem_map.mp he'
    exact ⟨_, _, (List.mem_filter.mp hx).1⟩

/-- The scrub entry of a channel stands there for lines of its quota. -/
def DdrChan.scrubsQuota (d : DdrChan) : Prop := ∀ e ∈ d.openq, e.src = .scrub → d.quota ≠ 0

section
variable {s : State} {ch : Nat} {ws : List Waiting} (hws : ∀ w ∈ ws, w.src ≠ .scrub)
include hws

theorem State.scrubsQuota_queueOpen (hddr : spWf DdrChan.reset s.ddr = true) {c : Nat} (h : ch = c ∨ (s.chan ch).scrubsQuota) :
    ((s.queueOpen ws c).chan ch).scrubsQuota := by
  by_cases hc : c = ch
  · subst hc
    intro e he hsrc
    obtain ⟨n, g, hmem⟩ := State.waitsOn_of_queueOpen hddr he
    have hquota : ((s.queueOpen ws c).chan c).quota = (s.chan c).quota := by rw [State.queueOpen, State.chan_setChan_same hddr]
    rw [hquota]
    exact State.quota_of_waitsOn hws (hsrc ▸ hmem)
  · rw [State.queueOpen, State.chan_setChan_ne hddr hc]
    exact h.resolve_left (Ne.symm hc)

theorem State.scrubsQuota_foldl_queueOpen (hddr : spWf DdrChan.reset s.ddr = true) (l : List Nat)
    (h : ch ∈ l ∨ (s.chan ch).scrubsQuota) : ((l.foldl (fun s ch => s.queueOpen ws ch) s).chan ch).scrubsQuota := by
  induction l generalizing s with
  | nil => exact h.resolve_left List.not_mem_nil
  | cons c l ih =>
    have hwf : spWf DdrChan.reset (s.queueOpen ws c).ddr = true := State.ddrWf_setChan hddr _
    refine ih hwf ?_
    rcases h with h | h
    · rcases List.mem_cons.mp h with h | h
      · exact .inr (State.scrubsQuota_queueOpen hws hddr (.inl h))
      · exact .inl h
    · exact .inr (State.scrubsQuota_queueOpen hws hddr (.inr h))

end

/-! ## Channels through OPEN-slot service -/

/-- The channels of `t` are those of `s` but for lost lines. -/
structure State.keepsChans (s t : State) : Prop where
  ddr  : spWf DdrChan.reset s.ddr = true → spWf DdrChan.reset t.ddr = true
  chan : spWf DdrChan.reset s.ddr = true → ∀ ch, (t.chan ch).offLog = (s.chan ch).offLog

namespace State.keepsChans

variable {s t u : State}

theorem of_ddr (h : t.ddr = s.ddr) : s.keepsChans t :=
  ⟨fun hs => h ▸ hs, fun _ _ => congrArg DdrChan.offLog (State.chan_congr h)⟩

theorem trans (h : s.keepsChans t) (h' : t.keepsChans u) : s.keepsChans u :=
  ⟨h'.ddr ∘ h.ddr, fun hs ch => (h'.chan (h.ddr hs) ch).trans (h.chan hs ch)⟩

theorem foldl {β : Type} {f : State → β → State} (hf : ∀ (t : State) (x : β), t.keepsChans (f t x)) (l : List β) (s : State) :
    s.keepsChans (l.foldl f s) :=
  List.foldlRecOn (motive := s.keepsChans) l f (of_ddr rfl) fun t h x _ => h.trans (hf t x)

theorem setChan {c : Nat} {d : DdrChan} (hd : d.offLog = (s.chan c).offLog) : s.keepsChans (s.setChan c d) := by
  refine ⟨fun hs => State.ddrWf_setChan hs d, fun hs ch => ?_⟩
  by_cases hc : c = ch
  · subst hc
    rw [State.chan_setChan_same hs, hd]
  · rw [State.chan_setChan_ne hs hc]

end State.keepsChans

theorem State.landUnit_keepsChans (s : State) (a : Nat) (bs : List Byte) (poison : Bool) : s.keepsChans (s.landUnit a bs poison) := by
  have hwritten : s.keepsChans (s.wrMarked a bs poison) := .of_ddr rfl
  unfold State.landUnit
  dsimp only
  split
  · split
    · exact hwritten
    · exact hwritten.trans (.setChan rfl)
  · refine hwritten.trans (.of_ddr ?_)
    unfold State.lotWritten
    dsimp only
    split
    · split
      · rfl
      · split
        · rfl
        · rfl
    · rfl

theorem State.tlLand_keepsChans (s : State) (f : Flit) : s.keepsChans (s.tlLand f) := by
  unfold State.tlLand
  dsimp only
  split
  · exact .of_ddr rfl
  · split
    · exact .of_ddr rfl
    · exact (State.keepsChans.of_ddr (s := s) (t := s.classLines _ 3 1) rfl).trans (State.landUnit_keepsChans ..)

theorem State.tlArrive_keepsChans (s : State) (p : Nat) : s.keepsChans (s.tlArrive p) := by
  refine (State.keepsChans.foldl (fun t f => .of_ddr ?_) _ s).trans (.of_ddr rfl)
  unfold State.tlQueueMarker
  split
  · rfl
  · rfl

theorem State.setTlPort_keepsChans (s : State) (p : Nat) (x : TlPort) : s.keepsChans (s.setTlPort p x) := .of_ddr rfl

theorem State.tetherDrain_keepsChans (s : State) (ch p k : Nat) : s.keepsChans (s.tetherDrain ch p k) :=
  ((State.keepsChans.foldl (fun t f => t.tlLand_keepsChans f) _ s).trans (State.setTlPort_keepsChans ..)).trans
    (State.tlArrive_keepsChans ..)

theorem State.ringDrain_ddr (s : State) (ch i k : Nat) : (s.ringDrain ch i k).1.ddr = s.ddr := by
  unfold State.ringDrain
  extract_lets u
  generalize hacc : List.foldl _ (([] : List Sample), k, s) u.ready = acc
  have hfold : acc.2.2.ddr = s.ddr := by
    rw [← hacc]
    refine List.foldlRecOn (motive := fun acc : List Sample × Nat × State => acc.2.2.ddr = s.ddr) _ _ rfl fun acc h g _ => ?_
    dsimp only
    split
    · exact h
    · exact h
  obtain ⟨done, k', t⟩ := acc
  dsimp only at hfold ⊢
  split
  · exact hfold
  · dsimp only
    split
    · exact hfold
    · exact hfold

theorem State.portDrain_ddr (s : State) (ch n k : Nat) : (s.portDrain ch n k).ddr = s.ddr := by
  refine List.foldlRecOn (motive := fun acc : State × Nat => acc.1.ddr = s.ddr) _ _ rfl fun acc h i _ => ?_
  split
  · exact h
  · exact (State.ringDrain_ddr ..).trans h

theorem State.serveIngest_keepsChans (s : State) (dt : Nat) : s.keepsChans (s.serveIngest dt) := by
  refine .foldl (fun t ch => ?_) _ s
  split
  · split
    · exact .of_ddr (t.portDrain_ddr ..)
    · exact t.tetherDrain_keepsChans ..
    · exact .of_ddr rfl
  · exact .of_ddr rfl

theorem State.offLog_passM {s : State} (hddr : spWf DdrChan.reset s.ddr = true) (ch dt : Nat) :
    ((s.passM dt).chan ch).offLog = (s.queueOpens.chan ch).offLog := by
  rw [State.passM, State.chan_congr (State.tickM_ddr ..)]
  exact (s.queueOpens.serveIngest_keepsChans dt).chan (s.queueOpens_keepsPlan.ddr hddr) ch

/-- R158, R224: a channel that serves scrubbing has lines of its quota left. -/
theorem State.quota_of_openFor {s : State} (hddr : spWf DdrChan.reset s.ddr = true) (ch : ChanId) (dt : Nat)
    (h : (s.passM dt).openFor ch.val .scrub = true) : ((s.passM dt).chan ch.val).quota ≠ 0 := by
  have hqueued : (s.queueOpens.chan ch.val).scrubsQuota :=
    State.scrubsQuota_foldl_queueOpen (fun _ => src_ne_scrub_of_mem_waits) hddr _ (.inl (List.mem_range.mpr ch.isLt))
  obtain ⟨hopenq, hquota, -⟩ := DdrChan.offLog_eq (State.offLog_passM hddr ch.val dt)
  rw [State.openFor, State.nextOpenEntry, hopenq, Bool.and_eq_true] at h
  obtain ⟨-, hnext⟩ := h
  rw [hquota]
  split at hnext
  · next e he =>
    obtain ⟨g, -, hg⟩ := List.exists_of_findSome?_eq_some he
    exact hqueued e (List.mem_of_find?_eq_some hg) (beq_iff_eq.mp hnext)
  · exact absurd hnext Bool.false_ne_true

/-! ## The statement -/

/-- Settles O28: R149 on one wrong bit and on one wrong device, and each command of the controllers by the lemmas above. -/
theorem ddrLinesAreDecoded : Obligations.DdrLinesAreDecoded := by
  refine ⟨decodeLine_clean, fun b k hb hk => decodeLine_bit hb hk, fun b d v hb hd hv hv0 hbits => decodeLine_device hb hd hv hv0 hbits,
    fun s ch hs hdark => ⟨?_, ?_, ?_, ?_⟩⟩
  -- DDR_LINE_DECODE
  · intro line err core part imp waits a x ha hx
    subst ha
    rw [exec_ddrLineDecode hdark ch line err core part imp waits hx]
    obtain ⟨hmem, hpending⟩ := State.lineDecoded_frame (s := s) (ch := ch.val) (line := line.toNat) (core := core.val) (part := part.val)
      (waits := waits) (x := x) (imp := bitsOf 10 imp.toNat)
    refine ⟨fun hclean hinner => by rw [State.lineDecoded_clean hclean hinner], _, rfl, hmem, hpending, fun h => ?_, fun h => ?_, fun h => ?_,
      fun h => ⟨?_, State.lineDecoded_uncorrectable hs ch h⟩, State.held_lineDecoded hs ch, State.ridge_lineDecoded hs ch⟩
    all_goals exact State.fld_lineDecoded_counter hs ch (by rw [h]; rfl)
  -- SCRUB_READ
  · intro err imp dt u hu
    have hexec := exec_scrubRead hdark ch err imp dt
    rw [← hu] at hexec
    refine ⟨fun hbarred => by rw [hexec, hbarred]; rfl, fun hserved => ?_⟩
    have huregs : u.regsWf := hu ▸ State.regsWf_passM hs.regs dt
    have huddr : spWf DdrChan.reset u.ddr = true := hu ▸ State.ddrWf_passM hs.ddr dt
    have hquota : (u.chan ch.val).quota ≠ 0 := by
      subst hu
      exact State.quota_of_openFor hs.ddr ch dt (Bool.and_eq_true_iff.mp hserved).1
    obtain ⟨hmem, hleft, hpos⟩ := State.scrubbed_spec huregs huddr ch (u.scrubDecode ch.val err) (bitsOf 10 imp.toNat)
    refine ⟨_, by rw [hexec, hserved]; rfl, hmem, ?_, hpos⟩
    rw [hleft, Nat.sub_add_cancel (Nat.pos_of_ne_zero hquota)]
  -- WRITE_CRC_ALERT and CA_PARITY_ALERT
  · intro lane line
    rw [exec_writeCrcAlert ch hdark, exec_caParityAlert_write ch hdark, exec_caParityAlert_read ch hdark]
    refine ⟨fun h => ⟨⟨_, rfl, State.alerted_write_first hs ch (by decide) h⟩, _, rfl, State.alerted_write_first hs ch (by decide) h⟩,
      fun h => ⟨_, rfl, State.alerted_read_first hs ch (by decide) h⟩,
      fun h => ⟨_, rfl, State.alerted_write_third hs ch _ _ h⟩, fun h => ⟨_, rfl, State.alerted_read_third hs ch _ _ h⟩⟩
  -- DR_MARK_WRITE
  · intro d
    rw [exec_drMarkWrite ch hdark]
    refine ⟨fun hlasting hfree => ⟨_, by rw [hlasting, hfree]; rfl, State.markTold_spec ch hs.regs hs.ddr d.isLt⟩, fun h => if_neg ?_⟩
    rcases h with h | h
    · simp [h]
    · simp [h]

end Sys2Proof.Machine
end

section
/-! SUPPORT. Numbers that stand as records one after the other, and the rows of a step table (R165, R170, R175). -/

namespace Sys2Proof.Machine

/-! ## Records -/

/-- The low bytes of a number read back as the number, cut to their bits (R4). -/
theorem leNat_leBytes (n v : Nat) : leNat (leBytes n v) = v % 2 ^ (8 * n) := by
  induction n generalizing v with
  | zero => rw [Nat.mul_zero, pow_zero, Nat.mod_one]; rfl
  | succ n ih => rw [leBytes, leNat, ih, BitVec.toNat_ofNat, Nat.mul_succ, Nat.add_comm (8 * n), pow_add, Nat.mod_mul]; rfl

theorem leBytes_zero (n : Nat) : leBytes n 0 = List.replicate n 0 := by
  induction n with
  | zero => rfl
  | succ n ih => rw [leBytes, Nat.zero_div, ih, List.replicate_succ]; rfl

/-- `m` numbers of `w` bytes each, one after the other. -/
def leRecords (w m : Nat) (f : Nat → Nat) : List Byte := (List.range m).flatMap fun k => leBytes w (f k)

theorem leRecords_succ (w m : Nat) (f : Nat → Nat) : leRecords w (m + 1) f = leBytes w (f 0) ++ leRecords w m fun k => f (k + 1) := by
  rw [leRecords, List.range_succ_eq_map, List.flatMap_cons, List.flatMap_map]
  rfl

theorem length_leRecords (w m : Nat) (f : Nat → Nat) : (leRecords w m f).length = w * m := by
  induction m generalizing f with
  | zero => rfl
  | succ m ih => rw [leRecords_succ, List.length_append, length_leBytes, ih, Nat.mul_succ, Nat.add_comm]

theorem take_drop_leRecords (w : Nat) {m k : Nat} (f : Nat → Nat) (hk : k < m) :
    ((leRecords w m f).drop (w * k)).take w = leBytes w (f k) := by
  induction k generalizing m f with
  | zero =>
    obtain ⟨m, rfl⟩ := Nat.exists_eq_add_one_of_ne_zero hk.ne'
    rw [leRecords_succ, Nat.mul_zero, List.drop_zero, List.take_left' (length_leBytes ..)]
  | succ k ih =>
    obtain ⟨m, rfl⟩ := Nat.exists_eq_add_one_of_ne_zero (Nat.ne_zero_of_lt hk)
    rw [leRecords_succ, Nat.mul_succ, Nat.add_comm (w * k), ← List.drop_drop, List.drop_left' (length_leBytes ..),
      ih _ (Nat.lt_of_succ_lt_succ hk)]

/-- R170: the entries of a list and the zeros past them are one record for each place of the list. -/
theorem padded_eq_leRecords (w n : Nat) (l : List Nat) :
    (l.take n).flatMap (leBytes w) ++ List.replicate (w * n - ((l.take n).flatMap (leBytes w)).length) 0 =
      leRecords w n fun k => l.getD k 0 := by
  induction n generalizing l with
  | zero => rfl
  | succ n ih =>
    rw [leRecords_succ, Nat.mul_succ]
    cases l with
    | nil =>
      have hzeros : List.replicate (w * n) 0 = leRecords w n fun _ => 0 := by simpa using ih []
      simp [← hzeros, leBytes_zero, Nat.add_comm]
    | cons x l =>
      rw [List.getD_cons_zero, List.take_succ_cons, List.flatMap_cons, List.append_assoc, List.length_append, length_leBytes,
        Nat.add_comm (w * n), Nat.add_sub_add_left, ih]
      rfl

section
variable {s : State}

/-- A read of part of a range finds that part of what the range reads. -/
theorem State.rdBytes_part (s : State) (a : Nat) {k n m : Nat} (hk : k + n ≤ m) :
    s.rdBytes (a + k) n = ((s.rdBytes a m).drop k).take n := by
  refine List.ext_getElem (by simp only [List.length_take, List.length_drop, State.length_rdBytes]; omega) fun j hj hj' => ?_
  have hjn : j < n := by rwa [State.length_rdBytes] at hj
  have hleft := State.getD_rdBytes s (a + k) hjn
  have hright := State.getD_rdBytes s a (show k + j < m by omega)
  rw [Nat.add_assoc, ← hright] at hleft
  simpa [List.getD_eq_getElem?_getD, State.length_rdBytes, hjn, show k + j < m by omega] using hleft

/-- A number that was written reads back, cut to its width. -/
theorem State.rdLe_wrBytes_leBytes (h : Memory.wf s.mem) (a v : Nat) {w b : Nat} (hb : 8 * w = b) :
    (s.wrBytes a (leBytes w v)).rdLe a w = v % 2 ^ b := by
  have hread := State.rdBytes_wrBytes_same h a (leBytes w v)
  rw [length_leBytes] at hread
  rw [State.rdLe, hread, leNat_leBytes, hb]

/-- A record that was written reads as its number, cut to its width. -/
theorem State.rdLe_wrBytes_leRecords (h : Memory.wf s.mem) (a : Nat) (f : Nat → Nat) {w m k b : Nat} (hb : 8 * w = b) (hk : k < m) :
    (s.wrBytes a (leRecords w m f)).rdLe (a + w * k) w = f k % 2 ^ b := by
  have hin : w * k + w ≤ w * m := Nat.mul_succ w k ▸ Nat.mul_le_mul_left w hk
  have hread := State.rdBytes_wrBytes_same h a (leRecords w m f)
  rw [length_leRecords] at hread
  rw [State.rdLe, State.rdBytes_part _ a hin, hread, take_drop_leRecords w f hk, leNat_leBytes, hb]

theorem State.rdLe_congr {t : State} (hmem : t.mem = s.mem) (htested : t.bring.tested = s.bring.tested) (a n : Nat) :
    t.rdLe a n = s.rdLe a n := by
  simp only [State.rdLe, State.rdBytes, State.shade, State.blank, hmem, htested]

end

/-! ## Rows -/

theorem SeqRow.ne_reset {x : SeqRow} (h : x.state ≠ 0) : x ≠ SeqRow.reset := fun he => h (he ▸ rfl)

theorem SeqPart.row_setRow_same (q : SeqPart) (r : Nat) {x : SeqRow} (h : x.state ≠ 0) : (q.setRow r x).row r = x :=
  spGet_spSet_same_of_ne _ _ _ (SeqRow.ne_reset h)

theorem SeqPart.row_setRow_ne (q : SeqPart) {r j : Nat} {x : SeqRow} (h : x.state ≠ 0) (hj : j ≠ r) : (q.setRow r x).row j = q.row j :=
  spGet_spSet_ne_of_ne _ _ _ _ (SeqRow.ne_reset h) hj.symm

theorem State.seqPart_setSeqPart_same {s : State} (h : spWf SeqPart.reset s.seq = true) (p : Nat) (q : SeqPart) :
    (s.setSeqPart p q).seqPart p = q := spGet_spSet_same _ _ _ _ h

/-! ## What the sequence units and waiting condition writes leave -/

section
variable (s : State) (p : Nat) (q : SeqPart) (n v : Nat)

@[simp] theorem State.setSeqPart_regs : (s.setSeqPart p q).regs = s.regs := rfl
@[simp] theorem State.setSeqPart_ridge : (s.setSeqPart p q).ridge = s.ridge := rfl
@[simp] theorem State.condWrite_regs : (s.condWrite n v).regs = s.regs := rfl
@[simp] theorem State.condWrite_seqPart : (s.condWrite n v).seqPart p = s.seqPart p := rfl
@[simp] theorem State.condWrite_condPend :
    (s.condWrite n v).ridge.condPend = s.ridge.condPend ++ [⟨n, v % 2 ^ 32, none⟩] := rfl

@[simp] theorem State.rdByte_setSeqPart (y : Nat) : (s.setSeqPart p q).rdByte y = s.rdByte y := State.rdByte_congr (s := s) rfl rfl y
@[simp] theorem State.rdLe_setSeqPart (a m : Nat) : (s.setSeqPart p q).rdLe a m = s.rdLe a m := State.rdLe_congr (s := s) rfl rfl a m
@[simp] theorem State.rdLe_condWrite (a m : Nat) : (s.condWrite n v).rdLe a m = s.rdLe a m := State.rdLe_congr (s := s) rfl rfl a m

end

end Sys2Proof.Machine
end

section
/-! SUPPORT. The sequence commands once started: what each answers, and what it leaves of the rows and of memory (R168, R187). -/

namespace Sys2Proof.Machine

/-! ## The row of a command -/

section
variable {s : State} {c : Cmd}

theorem withRow_of_none (h : s.seqRowOf c.part c.ctx = none) (f : Nat → SeqRow → State × Option Reply) :
    withRow s c f = (s, some ⟨2, 0, 0, none⟩) := by
  rw [withRow, h]

theorem withRow_of_row {r : Nat} (h : s.seqRowOf c.part c.ctx = some r) (f : Nat → SeqRow → State × Option Reply) :
    withRow s c f = f r ((s.seqPart c.part).row r) := by
  rw [withRow, h]

/-- A command that gives one row of its partition another content leaves the other rows, and its tag is noted (R168). -/
theorem State.rows_seqApplied (hs : spWf SeqPart.reset s.seq = true) (q : SeqPart) (r : Nat) {x : SeqRow} (hx : x.state ≠ 0) :
    ((s.seqApplied c (q.setRow r x)).seqPart c.part).row r = x ∧
      (∀ j, j ≠ r → ((s.seqApplied c (q.setRow r x)).seqPart c.part).row j = q.row j) ∧
      ((s.seqApplied c (q.setRow r x)).seqPart c.part).tags = q.tags ++ [c.tag] := by
  rw [State.seqApplied, State.seqPart_setSeqPart_same hs]
  exact ⟨q.row_setRow_same r hx, fun j hj => q.row_setRow_ne hx hj, rfl⟩

end

/-! ## SEQ_JOIN -/

section
variable {s : State} {c : Cmd}

theorem seqJoin_of_full (hrows : s.seqRows c.part ≠ 0) (hfull : ∀ r, r < s.seqRows c.part → ((s.seqPart c.part).row r).state ≠ 0) :
    seqJoin s c = (s, some ⟨2, 1, 0, none⟩) := by
  have hfind : (s.seqAll c.part).find? (fun r => ((s.seqPart c.part).row r).state == 0) = none :=
    List.find?_range_eq_none.mpr fun r hr => by simp [hfull r hr]
  rw [seqJoin, if_neg hrows, hfind]

/-- R187: the lowest EMPTY row is the one that a context can be bound to. -/
theorem seqJoin_of_empty {r : Nat} (hr : r < s.seqRows c.part) (hempty : ((s.seqPart c.part).row r).state = 0)
    (hlowest : ∀ j, j < r → ((s.seqPart c.part).row j).state ≠ 0) : seqJoin s c =
      if (s.seqRowOf c.part c.ctx).isSome then (s, some (conflict 0))
      else (s.seqApplied c ((s.seqPart c.part).setRow r { SeqRow.reset with state := 1, auto := hasBit (c.w 4) 0, ctx := c.ctx }),
        some (Reply.detailed r)) := by
  have hfind : (s.seqAll c.part).find? (fun r => ((s.seqPart c.part).row r).state == 0) = some r :=
    List.find?_range_eq_some.mpr ⟨by simp [hempty], List.mem_range.mpr hr, fun j hj => by simp [hlowest j hj]⟩
  rw [seqJoin, if_neg (Nat.ne_zero_of_lt hr), hfind]

/-- SEQ_JOIN binds the lowest EMPTY row to a context without a row. -/
theorem seqJoin_binds (hs : spWf SeqPart.reset s.seq = true) {r : Nat} (hr : r < s.seqRows c.part)
    (hempty : ((s.seqPart c.part).row r).state = 0) (hlowest : ∀ j, j < r → ((s.seqPart c.part).row j).state ≠ 0)
    (hfree : s.seqRowOf c.part c.ctx = none) : ∃ t, seqJoin s c = (t, some (Reply.detailed r)) ∧
      (t.seqPart c.part).row r = { SeqRow.reset with state := 1, auto := hasBit (c.w 4) 0, ctx := c.ctx } ∧
      (∀ j, j ≠ r → (t.seqPart c.part).row j = (s.seqPart c.part).row j) ∧
      (t.seqPart c.part).tags = (s.seqPart c.part).tags ++ [c.tag] ∧ t.mem = s.mem ∧ t.regs = s.regs := by
  rw [seqJoin_of_empty hr hempty hlowest, hfree]
  obtain ⟨hsame, hother, htags⟩ := State.rows_seqApplied (c := c) hs (s.seqPart c.part) r
    (x := { SeqRow.reset with state := 1, auto := hasBit (c.w 4) 0, ctx := c.ctx }) Nat.one_ne_zero
  exact ⟨_, rfl, hsame, hother, htags, rfl, rfl⟩

end

/-! ## SEQ_APPEND, SEQ_RESET and SEQ_LEAVE -/

/-- The tokens of a SEQ_APPEND stand in the row's log, and no other byte has changed. -/
theorem State.rdByte_appended {s : State} (h : Memory.wf s.mem) (a src n : Nat) :
    (∀ j, j < n → (s.wrBytes a (s.rdBytes src n)).rdByte (a + j) = s.rdByte (src + j)) ∧
      ∀ y, (y < a ∨ a + n ≤ y) → (s.wrBytes a (s.rdBytes src n)).rdByte y = s.rdByte y := by
  refine ⟨fun j hj => ?_, fun y hy => State.rdByte_wrBytes_outside h a _ (by rwa [State.length_rdBytes])⟩
  rw [State.rdByte_wrBytes_inside h _ _ (by rwa [State.length_rdBytes]), State.getD_rdBytes _ _ hj]

/-- A row whose marks have taken a position resets there. -/
theorem SeqRow.isReset_of_marked {x : SeqRow} {n : Nat} (h : x.marks.contains n = true) : x.isReset n = true := by
  simp only [List.contains_eq_mem, decide_eq_true_eq] at h
  simp [SeqRow.isReset, SeqRow.resets, h]

theorem contains_marked (l : List Nat) (n : Nat) : (if l.contains n then l else l ++ [n]).contains n = true := by
  split
  · assumption
  · simp

section
variable {s : State} {c : Cmd} {r : Nat} {x : SeqRow} (hrow : s.seqRowOf c.part c.ctx = some r) (hx : x = (s.seqPart c.part).row r)
include hrow hx

theorem seqAppend_of_row : seqAppend s c =
    if !(s.exchange c.ctx (c.w64 4) c.len) then (s, some (denied 4))
    else if 1048576 < x.logLen + c.len / 4 then (s, some (lenRange 0))
    else ((s.wrBytes (s.seqLogAddr c.part r x.logLen) (s.rdBytes (c.w64 4) c.len)).seqApplied c
      ((s.seqPart c.part).setRow r { x with logLen := x.logLen + c.len / 4 }), some Reply.ok) := by
  rw [seqAppend, withRow_of_row hrow, ← hx]
  rfl

theorem seqReset_of_row : seqReset s c =
    if c.w 4 % 2 ^ 21 < ((s.seqPart c.part).flipped r).pos ∨ x.logLen ≤ c.w 4 % 2 ^ 21 ∨
        8 ≤ ((s.seqPart c.part).flipped r).marks.length then (s, some (lenRange 0))
    else (s.seqApplied c ((s.seqPart c.part).setRow r { x with
      marks := if x.marks.contains (c.w 4 % 2 ^ 21) then x.marks else x.marks ++ [c.w 4 % 2 ^ 21] }), some Reply.ok) := by
  rw [seqReset, withRow_of_row hrow, ← hx]

theorem seqLeave_of_row : seqLeave s c =
    (s.seqApplied c ((s.seqPart c.part).setRow r { x with state := 3, leave := x.leave ++ [(c.ring, c.d)] }), none) := by
  rw [seqLeave, withRow_of_row hrow, ← hx]

/-- SEQ_APPEND copies its tokens to the end of the row's log and counts them. -/
theorem seqAppend_appends (hs : s.canonical) (hstate : x.state ≠ 0) (hex : s.exchange c.ctx (c.w64 4) c.len = true)
    (hfits : x.logLen + c.len / 4 ≤ 1048576) : ∃ t, seqAppend s c = (t, some Reply.ok) ∧
      (t.seqPart c.part).row r = { x with logLen := x.logLen + c.len / 4 } ∧
      (∀ j, j ≠ r → (t.seqPart c.part).row j = (s.seqPart c.part).row j) ∧
      (∀ j, j < c.len → t.rdByte (s.seqLogAddr c.part r x.logLen + j) = s.rdByte (c.w64 4 + j)) ∧
      ∀ y, (y < s.seqLogAddr c.part r x.logLen ∨ s.seqLogAddr c.part r x.logLen + c.len ≤ y) → t.rdByte y = s.rdByte y := by
  rw [seqAppend_of_row hrow hx, hex, if_neg (Nat.not_lt.mpr hfits)]
  obtain ⟨hsame, hother, -⟩ := State.rows_seqApplied (c := c)
    (s := s.wrBytes (s.seqLogAddr c.part r x.logLen) (s.rdBytes (c.w64 4) c.len)) hs.seq (s.seqPart c.part) r
    (x := { x with logLen := x.logLen + c.len / 4 }) hstate
  exact ⟨_, rfl, hsame, hother, State.rdByte_appended hs.mem ..⟩

/-- SEQ_RESET marks a pending position. -/
theorem seqReset_marks (hs : spWf SeqPart.reset s.seq = true) (hstate : x.state ≠ 0)
    (hpos : ((s.seqPart c.part).flipped r).pos ≤ c.w 4 % 2 ^ 21) (hlog : c.w 4 % 2 ^ 21 < x.logLen)
    (hmarks : ((s.seqPart c.part).flipped r).marks.length < 8) : ∃ t, seqReset s c = (t, some Reply.ok) ∧
      ((t.seqPart c.part).row r).marks.contains (c.w 4 % 2 ^ 21) = true ∧
      ((t.seqPart c.part).row r).isReset (c.w 4 % 2 ^ 21) = true ∧
      (∀ j, j ≠ r → (t.seqPart c.part).row j = (s.seqPart c.part).row j) ∧ t.mem = s.mem := by
  rw [seqReset_of_row hrow hx, if_neg (by omega)]
  obtain ⟨hsame, hother, -⟩ := State.rows_seqApplied (c := c) hs (s.seqPart c.part) r (x := { x with
    marks := if x.marks.contains (c.w 4 % 2 ^ 21) then x.marks else x.marks ++ [c.w 4 % 2 ^ 21] }) hstate
  have hmarked := contains_marked x.marks (c.w 4 % 2 ^ 21)
  refine ⟨_, rfl, ?_, ?_, hother, rfl⟩
  · rw [hsame]
    exact hmarked
  · rw [hsame]
    exact SeqRow.isReset_of_marked hmarked

/-- SEQ_LEAVE moves the row to LEAVING and waits for the flip. -/
theorem seqLeave_leaves (hs : spWf SeqPart.reset s.seq = true) : ∃ t, seqLeave s c = (t, none) ∧
    (t.seqPart c.part).row r = { x with state := 3, leave := x.leave ++ [(c.ring, c.d)] } ∧
    (∀ j, j ≠ r → (t.seqPart c.part).row j = (s.seqPart c.part).row j) ∧ t.mem = s.mem := by
  rw [seqLeave_of_row hrow hx]
  obtain ⟨hsame, hother, -⟩ := State.rows_seqApplied (c := c) hs (s.seqPart c.part) r
    (x := { x with state := 3, leave := x.leave ++ [(c.ring, c.d)] }) (by decide : (3 : Nat) ≠ 0)
  exact ⟨_, rfl, hsame, hother, rfl⟩

end

/-! ## What the plan writes into the rows -/

/-- Nothing but the two words that the plan may write into a row entry has changed in partition `p`. -/
structure State.keepsRows (p : Nat) (s t : State) : Prop where
  seq    : spWf SeqPart.reset t.seq = true
  mem    : t.mem = s.mem
  tested : t.bring.tested = s.bring.tested
  tags   : (t.seqPart p).tags = (s.seqPart p).tags
  row    : ∀ r, (t.seqPart p).row r =
    { (s.seqPart p).row r with nextToken := ((t.seqPart p).row r).nextToken, nextValid := ((t.seqPart p).row r).nextValid }

namespace State.keepsRows

variable {p : Nat} {s t u : State}

theorem refl (hs : spWf SeqPart.reset s.seq = true) : s.keepsRows p s := ⟨hs, rfl, rfl, rfl, fun _ => rfl⟩

theorem trans (h : s.keepsRows p t) (h' : t.keepsRows p u) : s.keepsRows p u where
  seq := h'.seq
  mem := h'.mem.trans h.mem
  tested := h'.tested.trans h.tested
  tags := h'.tags.trans h.tags
  row r := by rw [h'.row r, h.row r]

/-- The plan writes the two words of one bound row. -/
theorem writeRow (hs : spWf SeqPart.reset s.seq = true) (free : Nat) {r : Nat} {x : SeqRow}
    (hx : x = { (s.seqPart p).row r with nextToken := x.nextToken, nextValid := x.nextValid }) (hstate : x.state ≠ 0) :
    s.keepsRows p ({ s with free }.setSeqPart p ((s.seqPart p).setRow r x)) := by
  have hpart := State.seqPart_setSeqPart_same (s := { s with free }) hs p ((s.seqPart p).setRow r x)
  refine ⟨spWf_spSet hs .., rfl, rfl, by rw [hpart]; rfl, fun j => ?_⟩
  rw [hpart]
  by_cases hj : j = r
  · rw [hj, SeqPart.row_setRow_same _ _ hstate]
    exact hx
  · rw [SeqPart.row_setRow_ne _ hstate hj]

/-- Entry 57: the plan writes the two words of bound rows and nothing else. -/
theorem planWritesNext (hs : spWf SeqPart.reset s.seq = true) : s.keepsRows p (s.planWritesNext p) := by
  refine List.foldlRecOn (motive := s.keepsRows p) (s.seqAll p) _ (.refl hs) fun t ht r _ => ht.trans ?_
  dsimp only
  split
  · exact .refl ht.seq
  · next hr => exact .writeRow ht.seq _ rfl hr

end State.keepsRows

/-! ## SEQ_QUERY -/

section
variable {s : State} {c : Cmd} {r : Nat} (hrow : s.seqRowOf c.part c.ctx = some r)
include hrow

theorem seqQuery_of_row : seqQuery s c =
    if s.exchange c.ctx (c.w64 4) 64 then
      (((s.planWritesNext c.part).wrMarked (c.w64 4) (leBytes 64 (((s.planWritesNext c.part).seqPart c.part).row r).entry)
        false).seqApplied c ((s.planWritesNext c.part).seqPart c.part), some Reply.ok)
    else (s, some (denied 4)) := by
  rw [seqQuery, withRow_of_row hrow]

/-- SEQ_QUERY writes the row's entry and no other byte. -/
theorem seqQuery_spec (hs : s.canonical) (hex : s.exchange c.ctx (c.w64 4) 64 = true) :
    ∃ t y, seqQuery s c = (t, some Reply.ok) ∧ y = (t.seqPart c.part).row r ∧ t.rdLe (c.w64 4) 64 = y.entry % 2 ^ 512 ∧
      y = { (s.seqPart c.part).row r with nextToken := y.nextToken, nextValid := y.nextValid } ∧
      (t.seqPart c.part).tags = (s.seqPart c.part).tags ++ [c.tag] ∧
      ∀ y, (y < c.w64 4 ∨ c.w64 4 + 64 ≤ y) → t.rdByte y = s.rdByte y := by
  have hplan : s.keepsRows c.part (s.planWritesNext c.part) := .planWritesNext hs.seq
  rw [seqQuery_of_row hrow, if_pos hex]
  generalize s.planWritesNext c.part = u at hplan
  have hu : Memory.wf u.mem := hplan.mem ▸ hs.mem
  have hpart := State.seqPart_setSeqPart_same (s := u.wrMarked (c.w64 4) (leBytes 64 ((u.seqPart c.part).row r).entry) false) hplan.seq
    c.part { u.seqPart c.part with tags := (u.seqPart c.part).tags ++ [c.tag] }
  refine ⟨_, (u.seqPart c.part).row r, rfl, (congrArg (·.row r) hpart).symm, ?_, hplan.row r, ?_, fun y hy => ?_⟩
  · exact (State.rdLe_congr (s := u.wrBytes (c.w64 4) (leBytes 64 ((u.seqPart c.part).row r).entry)) rfl rfl ..).trans
      (State.rdLe_wrBytes_leBytes hu _ _ rfl)
  · rw [← hplan.tags]
    exact congrArg SeqPart.tags hpart
  · refine (State.rdByte_wrMarked_outside hu _ _ false ?_).trans (State.rdByte_congr hplan.mem hplan.tested y)
    rwa [length_leBytes]

end

end Sys2Proof.Machine
end

section
/-! SUPPORT. The step in assembly and the walkers' records as they become visible, and the statement about sequences (R167, R170, R175). -/

namespace Sys2Proof.Machine

/-! ## Writes of a lot -/

theorem State.wrLot_frame (s : State) (a : Nat) (bs : List Byte) :
    (s.wrLot a bs).regs = s.regs ∧ (s.wrLot a bs).ridge = s.ridge ∧ (s.wrLot a bs).seq = s.seq := by
  unfold State.wrLot State.lotWritten
  extract_lets l e
  split_ifs <;> exact ⟨rfl, rfl, rfl⟩

section
variable {s : State} (h : Memory.wf s.mem)
include h

theorem State.rdByte_wrLot_outside (a : Nat) (bs : List Byte) {y : Nat} (hy : y < a ∨ a + bs.length ≤ y) :
    (s.wrLot a bs).rdByte y = s.rdByte y := by
  have hkept := State.keepsMoved.lotWritten (s.wrMarked a bs false) a
  exact (State.rdByte_congr hkept.mem hkept.tested y).trans (State.rdByte_wrMarked_outside h a bs false hy)

theorem State.rdLe_wrLot_leRecords (a : Nat) (f : Nat → Nat) {w m k b : Nat} (hb : 8 * w = b) (hk : k < m) :
    (s.wrLot a (leRecords w m f)).rdLe (a + w * k) w = f k % 2 ^ b := by
  have hkept := State.keepsMoved.lotWritten (s.wrMarked a (leRecords w m f) false) a
  exact (State.rdLe_congr hkept.mem hkept.tested _ _).trans (State.rdLe_wrBytes_leRecords h a f hb hk)

end

/-! ## SEQ_ASSEMBLY_VISIBLE -/

section
variable {s : State} {p : Nat}

theorem State.seqVisible_of_none (h : (s.seqPart p).building = none) : s.seqVisible p = s := by
  rw [State.seqVisible, h]

theorem State.seqVisible_of_building {built : List (Nat × SeqRow)} {st : SeqStep} (h : (s.seqPart p).building = some (built, st)) :
    ∃ q : SeqPart, s.seqVisible p =
        (s.wrLot (s.seqListAddr p) (leRecords 8 (s.seqMaxTokens p) fun k => st.tokens.getD k 0)).setSeqPart p q ∧
      q.building = none ∧ q.step = st := by
  rw [State.seqVisible, h, ← padded_eq_leRecords]
  exact ⟨_, rfl, rfl, rfl⟩

/-- The step in assembly is visible: its list holds its tokens and zeros past them, and no other byte has changed. -/
theorem State.seqVisible_spec (hmem : Memory.wf s.mem) (hseq : spWf SeqPart.reset s.seq = true) {built : List (Nat × SeqRow)}
    {st : SeqStep} (h : (s.seqPart p).building = some (built, st)) :
    ((s.seqVisible p).seqPart p).step = st ∧ ((s.seqVisible p).seqPart p).building = none ∧
      (∀ k, k < s.seqMaxTokens p → (s.seqVisible p).rdLe (s.seqListAddr p + 8 * k) 8 = st.tokens.getD k 0 % 2 ^ 64) ∧
      ∀ y, (y < s.seqListAddr p ∨ s.seqListAddr p + 8 * s.seqMaxTokens p ≤ y) → (s.seqVisible p).rdByte y = s.rdByte y := by
  obtain ⟨q, hvisible, hnone, hstep⟩ := State.seqVisible_of_building h
  obtain ⟨-, -, hkept⟩ := s.wrLot_frame (s.seqListAddr p) (leRecords 8 (s.seqMaxTokens p) fun k => st.tokens.getD k 0)
  rw [hvisible, State.seqPart_setSeqPart_same (hkept ▸ hseq)]
  refine ⟨hstep, hnone, fun k hk => (State.rdLe_setSeqPart ..).trans (State.rdLe_wrLot_leRecords hmem _ _ rfl hk),
    fun y hy => (State.rdByte_setSeqPart ..).trans (State.rdByte_wrLot_outside hmem _ _ ?_)⟩
  rwa [length_leRecords]

end

theorem exec_seqAssemblyVisible {s : State} (hdark : s.coreDark = false) (p : PartId) (dt : Nat) {x : Nat}
    (hflip : ((s.tickA dt).seqPart p.val).lastFlip = some x) : exec (.seqAssemblyVisible p dt) s = .next
      (if x + (s.tickA dt).seqTasm p.val ≤ (s.tickA dt).clk.aclk then (s.tickA dt).seqVisible p.val else s.tickA dt) := by
  show execSeqAssemblyVisible p dt s = _
  rw [execSeqAssemblyVisible, hdark, if_neg Bool.false_ne_true]
  dsimp only
  rw [hflip]

/-! ## WALKER_ITEM_WRITE -/

/-- R175: where walker `w` of partition `p` writes its item records. -/
def State.walkRecords (s : State) (p w : Nat) : Nat :=
  coreBase (s.fld F.PL_SEQ_WALK_CORE (4 * seqIdx p + w)) + 32 * s.fld F.PL_SEQ_WALK_ITEM_ADDR (4 * seqIdx p + w)

/-- R175: the record of lead `k` of a walker. -/
def State.walkRecord (s : State) (p w k : Nat) : Nat :=
  itemRecord (s.walkKind p w) (s.walkAt p w + k) (s.walkItems p w)[s.walkAt p w + k]?

/-- R175: the records of the four leads stand, the walker is no longer due, and its condition register is to receive what is left. -/
def State.walkWritten (s : State) (p w : Nat) : State :=
  ((s.wrLot (s.walkRecords p w) (leRecords 64 4 (s.walkRecord p w))).setSeqPart p
    { s.seqPart p with due := (s.seqPart p).due.filter fun x => x != w }).condWrite
    (s.fld F.PL_SEQ_WALK_COND (4 * seqIdx p + w)) ((s.walkItems p w).length - s.walkAt p w)

theorem exec_walkerItemWrite {s : State} (hdark : s.coreDark = false) (p : PartId) (w : Fin 4) (dt : Nat) :
    exec (.walkerItemWrite p w dt) s = .next
      (if ((s.tickA dt).seqPart p.val).due.contains w.val then (s.tickA dt).walkWritten p.val w.val else s.tickA dt) := by
  show execWalkerItemWrite p w dt s = _
  rw [execWalkerItemWrite, hdark, if_neg Bool.false_ne_true, apply_ite Host.Outcome.next]
  dsimp only
  generalize s.tickA dt = u
  obtain ⟨hregs, -, -⟩ := u.wrLot_frame (u.walkRecords p.val w.val) (leRecords 64 4 (u.walkRecord p.val w.val))
  have hwritten := (State.setSeqPart_regs _ p.val
    { u.seqPart p.val with due := (u.seqPart p.val).due.filter fun x => x != w.val }).trans hregs
  rw [State.walkWritten, ← State.fld_congr hwritten F.PL_SEQ_WALK_COND]
  rfl

/-- The records of a walker stand in their places, it is no longer due, and its count waits to become visible. -/
theorem State.walkWritten_spec {s : State} (hmem : Memory.wf s.mem) (hseq : spWf SeqPart.reset s.seq = true) (p w : Nat) :
    ((s.walkWritten p w).seqPart p).due.contains w = false ∧
      (∀ k, k < 4 → (s.walkWritten p w).rdLe (s.walkRecords p w + 64 * k) 64 = s.walkRecord p w k % 2 ^ 512) ∧
      (s.walkWritten p w).ridge.condPend = s.ridge.condPend ++
        [⟨s.fld F.PL_SEQ_WALK_COND (4 * seqIdx p + w), ((s.walkItems p w).length - s.walkAt p w) % 2 ^ 32, none⟩] ∧
      (s.walkWritten p w).regs = s.regs := by
  obtain ⟨hregs, hridge, hkept⟩ := s.wrLot_frame (s.walkRecords p w) (leRecords 64 4 (s.walkRecord p w))
  rw [State.walkWritten]
  refine ⟨?_, fun k hk => ?_, ?_, ?_⟩
  · rw [State.condWrite_seqPart, State.seqPart_setSeqPart_same (hkept ▸ hseq)]
    simp
  · rw [State.rdLe_condWrite, State.rdLe_setSeqPart, State.rdLe_wrLot_leRecords hmem _ _ rfl hk]
  · rw [State.condWrite_condPend, State.setSeqPart_ridge, hridge]
  · rw [State.condWrite_regs, State.setSeqPart_regs, hregs]

/-! ## The statement -/

/-- Settles O30: each command changes the one row that its context names, and what becomes visible is one list of records. -/
theorem sequenceCommandsAct : Obligations.SequenceCommandsAct := by
  intro s hs
  refine ⟨fun c q hq => ?_, fun hdark p dt x u hu hflip => ?_, fun hdark p w dt u hu => ?_⟩
  · subst hq
    refine ⟨fun hrows => if_pos hrows, seqJoin_of_full, fun r hr hempty hlowest => ?_, fun hnone => ?_, fun r x hrow hx hstate => ?_⟩
    -- SEQ_JOIN
    · refine ⟨fun hbound => ?_, seqJoin_binds hs.seq hr hempty hlowest⟩
      rw [seqJoin_of_empty hr hempty hlowest, if_pos (Option.isSome_iff_ne_none.mpr hbound)]
    -- without a row
    · simp only [List.forall_mem_cons, List.not_mem_nil, false_imp_iff, implies_true, and_true]
      exact ⟨withRow_of_none hnone _, withRow_of_none hnone _, withRow_of_none hnone _, withRow_of_none hnone _⟩
    -- with a row
    · refine ⟨fun hex => ?_, fun hex hfull => ?_, fun hex hfits _ => seqAppend_appends hrow hx hs hstate hex hfits, fun hbad => ?_,
        seqReset_marks hrow hx hs.seq hstate, seqLeave_leaves hrow hx hs.seq, fun hex => ?_, fun hex => ?_⟩
      · rw [seqAppend_of_row hrow hx, hex]
        rfl
      · rw [seqAppend_of_row hrow hx, hex, if_pos hfull]
        rfl
      · rw [seqReset_of_row hrow hx, if_pos hbad]
      · rw [seqQuery_of_row hrow, hex]
        rfl
      · rw [hx]
        exact seqQuery_spec hrow hs hex
  -- SEQ_ASSEMBLY_VISIBLE
  · have hu' : u.canonical := hu ▸ ((State.keepsStores.refl s).tickA dt).canonical hs
    rw [exec_seqAssemblyVisible hdark p dt (hu ▸ hflip), ← hu]
    refine ⟨fun hearly => by rw [if_neg (by omega)], fun hdue hnone => ?_, fun built st hdue hbuilding => ?_⟩
    · rw [if_pos hdue, State.seqVisible_of_none hnone]
    · exact ⟨_, by rw [if_pos hdue], State.seqVisible_spec hu'.mem hu'.seq hbuilding⟩
  -- WALKER_ITEM_WRITE
  · have hu' : u.canonical := hu ▸ ((State.keepsStores.refl s).tickA dt).canonical hs
    rw [exec_walkerItemWrite hdark, ← hu]
    refine ⟨fun hidle => by rw [hidle]; rfl, fun hdue r a i hr hi ha => ?_⟩
    subst hr hi ha
    rw [hdue, if_pos rfl]
    exact ⟨_, rfl, State.walkWritten_spec hu'.mem hu'.seq p.val w.val⟩

end Sys2Proof.Machine
end

section
/-! SUPPORT. The golden frames: their judgement, the deadline of the skip register and the golden OPEN (R214, R215, Table SP-4). -/

namespace Sys2Proof.Machine

/-! ## A fault class once latched -/

theorem hasBit_putBit_true (v i : Nat) : hasBit (putBit v i true) i = true := by
  unfold putBit
  by_cases h : hasBit v i = true
  · rw [if_pos h, if_pos rfl, h]
  · have hclear : v.testBit i = false := Bool.eq_false_iff.mpr h
    rw [if_neg h, if_pos rfl, hasBit, Nat.add_comm, Nat.testBit_two_pow_add_eq, hclear, Bool.not_false]

section
variable {s : State} (hregs : s.regsWf)
include hregs

theorem State.causes_modeShown (m : Nat) : (s.modeShown m).fld F.PB_STATUS_CAUSES = s.fld F.PB_STATUS_CAUSES := by
  have hmode := State.regsWf_setFld hregs F.PB_STATUS_MODE 0 m
  rw [State.modeShown, State.fld_attn (State.regsWf_setFld hmode ..) (by decide) (by decide), State.fld_setFld_sep hmode _ (by decide),
    State.fld_setFld_sep hregs _ (by decide)]

theorem State.causes_modeReached (m : Nat) : (s.modeReached m).fld F.PB_STATUS_CAUSES = s.fld F.PB_STATUS_CAUSES := by
  have hstops : s.writesOnly [(F.PB_COUNTS_STOPS, 0), (F.PB_STATUS_STOP_A, 0), (F.PB_STATUS_STOP_B, 0), (F.PB_STATUS_GATE_OPEN, 0)]
      (s.bump F.PB_COUNTS_STOPS).assertStop :=
    State.writesOnly.regs (((((State.writesOnly.of_regs rfl).setFld F.PB_COUNTS_STOPS 0 _ (by decide)).setFld F.PB_STATUS_STOP_A 0 1
      (by decide)).setFld F.PB_STATUS_STOP_B 0 1 (by decide)).setFld F.PB_STATUS_GATE_OPEN 0 0 (by decide)) rfl
  unfold State.modeReached
  split
  · rfl
  · split
    · exact hstops.fld hregs _ _ (by decide)
    · rfl

theorem State.causes_enterMode (m : Nat) : (s.enterMode m).fld F.PB_STATUS_CAUSES = s.fld F.PB_STATUS_CAUSES := by
  by_cases h : s.fld F.PB_STATUS_MODE < m
  · have hwritten : (((s.modeShown m).fillAsked).stopWritten (s.fld F.PB_STATUS_MODE) m).regs = (s.modeShown m).regs :=
      (State.stopWritten_regs ..).trans rfl
    rw [State.enterMode_of_rise h, State.causes_modeReached (by rw [State.regsWf, hwritten]; exact (s.modeShown_writesOnly m).regsWf hregs),
      State.fld_congr hwritten, State.causes_modeShown hregs]
  · rw [State.enterMode, if_pos (Nat.not_lt.mp h)]

/-- R370: the latched class stands in CAUSES, whatever mode it leads to. -/
theorem State.hasBit_causes_latchClass {k : Nat} (hk : k - 1 < 9) (m : Nat) :
    hasBit ((s.latchClass k m).fld F.PB_STATUS_CAUSES) (k - 1) = true := by
  unfold State.latchClass
  extract_lets causes first latched p asked
  have hfirst : first.regsWf := by
    unfold first
    split
    · exact State.regsWf_setFld hregs ..
    · exact hregs
  have hwf : asked.regsWf := State.regsWf_setFld hfirst ..
  have hasked : asked.fld F.PB_STATUS_CAUSES = putBit causes (k - 1) true % 2 ^ 9 := State.fld_setFld_same hfirst _ _ _ (by decide)
  rw [State.causes_enterMode hwf, hasked, hasBit, Nat.testBit_mod_two_pow, decide_eq_true hk, Bool.true_and]
  exact hasBit_putBit_true ..

end

/-! ## The judgement -/

/-- SP_GOLDEN_STATUS shows the frame that is judged next, and nothing else changes. -/
theorem State.goldenStatus_writesOnly (s : State) :
    s.writesOnly [(F.SP_GOLDEN_STATUS_DUE, 0), (F.SP_GOLDEN_STATUS_RAN, 0)] s.goldenStatus := by
  have hset : ∀ x y, s.writesOnly [(F.SP_GOLDEN_STATUS_DUE, 0), (F.SP_GOLDEN_STATUS_RAN, 0)]
      ((s.setFld F.SP_GOLDEN_STATUS_DUE 0 x).setFld F.SP_GOLDEN_STATUS_RAN 0 y) := fun x y =>
    ((State.writesOnly.of_regs rfl).setFld F.SP_GOLDEN_STATUS_DUE 0 x (by decide)).setFld F.SP_GOLDEN_STATUS_RAN 0 y (by decide)
  unfold State.goldenStatus
  split
  · exact hset 0 0
  · split
    · exact hset 0 0
    · exact hset 1 _

theorem State.goldenStatus_eq (s : State) : ∃ r, s.goldenStatus = { s with regs := r } := by
  unfold State.goldenStatus
  split
  · exact ⟨_, rfl⟩
  · split
    · exact ⟨_, rfl⟩
    · exact ⟨_, rfl⟩

section
variable (s : State)

@[simp] theorem State.goldenStatus_sched : s.goldenStatus.sched = s.sched := by
  obtain ⟨r, h⟩ := s.goldenStatus_eq
  rw [h]

@[simp] theorem State.goldenStatus_mem : s.goldenStatus.mem = s.mem := by
  obtain ⟨r, h⟩ := s.goldenStatus_eq
  rw [h]

@[simp] theorem State.goldenStatus_plumb : s.goldenStatus.plumb = s.plumb := by
  obtain ⟨r, h⟩ := s.goldenStatus_eq
  rw [h]

/-- The golden frames that wait are those of `l`. -/
def State.withGolden (l : List GoldenDue) : State := { s with sched := { s.sched with golden := l } }

/-- R215: the counters and the cause of a deferral. -/
def State.deferCounted (g : GoldenDue) : State :=
  ((s.setFld F.SP_GOLDEN_STATUS_DEFER_RUN 0 (min 4 (s.fld F.SP_GOLDEN_STATUS_DEFER_RUN + 1))).bump
    F.SP_GOLDEN_STATUS_DEFER_TOTAL).setFld F.SP_GOLDEN_STATUS_LAST_CAUSE 0 (s.deferCause g)

/-- R215: a deferral of a cause other than OVERRUN is an event. -/
def State.deferTold (cause : Nat) : State := if cause = 1 then s else s.raise 0x0C cause

/-- R215: the fourth deferral in a row, after `was` others, is a fault. -/
def State.deferLatched (was : Nat) : State := if min 4 (was + 1) = 4 ∧ was < 4 then s.latchClass 5 (s.degradeMode 5) else s

/-- R215: the judged frame `g` has left the list, and where EN is set it has been judged. -/
def State.goldenJudged (g : GoldenDue) (rest : List GoldenDue) : State :=
  (if s.flag F.SP_GOLDEN_CFG_EN then (s.withGolden rest).judgeGolden g else s.withGolden rest).goldenStatus

variable {s}

theorem State.judgeGolden_of_ran {g : GoldenDue} (h : g.ran = true) : s.judgeGolden g = s.setFld F.SP_GOLDEN_STATUS_DEFER_RUN 0 0 :=
  if_pos h

theorem State.judgeGolden_of_deferred {g : GoldenDue} (h : g.ran = false) : s.judgeGolden g =
    ((s.deferCounted g).deferTold (s.deferCause g)).deferLatched (s.fld F.SP_GOLDEN_STATUS_DEFER_RUN) :=
  if_neg (by rw [h]; exact Bool.false_ne_true)

/-- Table SP-4: the first cause that holds. -/
theorem State.deferCause_eq (g : GoldenDue) : s.deferCause g =
    if s.ranAt (s.skipAt g + 1) = false then 3
    else if g.released = none ∨ (g.released.any fun c => decide (s.skipAt g < c)) = true then 2 else if g.overrun then 1 else 4 := by
  unfold State.deferCause
  cases g.released with
  | none => simp
  | some c => simp

theorem State.deferCause_lt (g : GoldenDue) : s.deferCause g < 8 := by
  rw [State.deferCause_eq]
  repeat' split
  all_goals decide

theorem State.deferTold_writesOnly (cause : Nat) : s.writesOnly [] (s.deferTold cause) := by
  unfold State.deferTold
  split
  · exact .of_regs rfl
  · exact s.raise_writesOnly ..

theorem State.deferLatched_writesOnly (was : Nat) : s.writesOnly latchFields (s.deferLatched was) := by
  unfold State.deferLatched
  split
  · exact s.latchClass_writesOnly ..
  · exact .of_regs rfl

theorem State.offPlan_judgeGolden (g : GoldenDue) : (s.judgeGolden g).offPlan = s.offPlan := by
  cases hran : g.ran with
  | true => rw [State.judgeGolden_of_ran hran, State.offPlan_setFld]
  | false =>
    rw [State.judgeGolden_of_deferred hran, State.deferLatched, State.deferTold]
    split
    all_goals split
    all_goals simp [State.deferCounted]

theorem State.deferCounted_spec (hregs : s.regsWf) (g : GoldenDue) :
    (s.deferCounted g).fld F.SP_GOLDEN_STATUS_DEFER_RUN = min 4 (s.fld F.SP_GOLDEN_STATUS_DEFER_RUN + 1) ∧
      (s.deferCounted g).fld F.SP_GOLDEN_STATUS_DEFER_TOTAL = min (2 ^ 32 - 1) (s.fld F.SP_GOLDEN_STATUS_DEFER_TOTAL + 1) ∧
      (s.deferCounted g).fld F.SP_GOLDEN_STATUS_LAST_CAUSE = s.deferCause g := by
  have hrun := State.regsWf_setFld hregs F.SP_GOLDEN_STATUS_DEFER_RUN 0 (min 4 (s.fld F.SP_GOLDEN_STATUS_DEFER_RUN + 1))
  have htotal := State.regsWf_bump hrun F.SP_GOLDEN_STATUS_DEFER_TOTAL 0 1
  rw [State.deferCounted]
  refine ⟨?_, ?_, ?_⟩
  · rw [State.fld_setFld_sep htotal _ (by decide), State.bump, State.fld_setFld_sep hrun _ (by decide),
      State.fld_setFld_same hregs _ _ _ (by decide)]
    exact Nat.mod_eq_of_lt (Nat.lt_of_le_of_lt (Nat.min_le_left ..) (by decide))
  · rw [State.fld_setFld_sep htotal _ (by decide), State.fld_bump_same hrun _ _ _ (by decide), State.fld_setFld_sep hregs _ (by decide)]
    rfl
  · rw [State.fld_setFld_same htotal _ _ _ (by decide)]
    exact Nat.mod_eq_of_lt (State.deferCause_lt g)

/-- R215: a deferral is counted with its cause, and the fourth in a row latches fault class 5. -/
theorem State.judgeGolden_deferred_spec (hregs : s.regsWf) {g : GoldenDue} (h : g.ran = false) :
    (s.judgeGolden g).regsWf ∧
      (s.judgeGolden g).fld F.SP_GOLDEN_STATUS_DEFER_RUN = min 4 (s.fld F.SP_GOLDEN_STATUS_DEFER_RUN + 1) ∧
      (s.judgeGolden g).fld F.SP_GOLDEN_STATUS_DEFER_TOTAL = min (2 ^ 32 - 1) (s.fld F.SP_GOLDEN_STATUS_DEFER_TOTAL + 1) ∧
      (s.judgeGolden g).fld F.SP_GOLDEN_STATUS_LAST_CAUSE = s.deferCause g ∧
      (s.fld F.SP_GOLDEN_STATUS_DEFER_RUN = 3 → hasBit ((s.judgeGolden g).fld F.PB_STATUS_CAUSES) 4 = true) := by
  have hcounted : (s.deferCounted g).regsWf := State.regsWf_setFld (State.regsWf_bump (State.regsWf_setFld hregs ..) ..) ..
  have htold := State.deferTold_writesOnly (s := s.deferCounted g) (s.deferCause g)
  have htoldWf := htold.regsWf hcounted
  have hwrites := (htold.mono (List.nil_subset _)).trans
    (State.deferLatched_writesOnly (s := (s.deferCounted g).deferTold (s.deferCause g)) (s.fld F.SP_GOLDEN_STATUS_DEFER_RUN))
  obtain ⟨hrun, htotal, hcause⟩ := State.deferCounted_spec hregs g
  rw [State.judgeGolden_of_deferred h]
  refine ⟨hwrites.regsWf hcounted, (hwrites.fld hcounted _ _ (by decide)).trans hrun, (hwrites.fld hcounted _ _ (by decide)).trans htotal,
    (hwrites.fld hcounted _ _ (by decide)).trans hcause, fun hwas => ?_⟩
  rw [hwas, State.deferLatched, if_pos (by decide)]
  exact State.hasBit_causes_latchClass htoldWf (k := 5) (by decide) _

end

/-! ## The commands -/

section
variable {s u : State} {dt : Nat} (hdark : s.coreDark = false) (hu : u = s.tickA dt)
include hdark hu

theorem exec_goldenJudgement_of_nil (h : u.sched.golden = []) : exec (.goldenJudgement dt) s = .next u := by
  show execGoldenJudgement dt s = _
  rw [execGoldenJudgement, hdark, if_neg Bool.false_ne_true]
  dsimp only
  rw [← hu, h]

theorem exec_goldenJudgement_of_cons {g : GoldenDue} {rest : List GoldenDue} (h : u.sched.golden = g :: rest) :
    exec (.goldenJudgement dt) s = .next (if u.skipAt g + 1 ≤ u.clk.aclk then u.goldenJudged g rest else u) := by
  show execGoldenJudgement dt s = _
  rw [execGoldenJudgement, hdark, if_neg Bool.false_ne_true]
  dsimp only
  rw [← hu, h]
  exact (apply_ite Host.Outcome.next ..).symm

theorem exec_goldenSkipDeadline_of_none (h : u.sched.golden.find? u.skipDue = none) : exec (.goldenSkipDeadline dt) s = .next u := by
  show execGoldenSkipDeadline dt s = _
  rw [execGoldenSkipDeadline, hdark, if_neg Bool.false_ne_true]
  dsimp only
  rw [← hu, h]

/-- R214: the write of 1 is made for the oldest frame for which it is due. -/
theorem exec_goldenSkipDeadline_of_some {x : GoldenDue} (h : u.sched.golden.find? u.skipDue = some x)
    (hwindow : u.fld F.SP_GOLDEN_CFG_WINDOW ≠ 0) : exec (.goldenSkipDeadline dt) s =
      .next ((u.withGolden (u.sched.golden.map fun g => if g.num = x.num then { g with skip := true } else g)).condIn
        (u.fld F.SP_GOLDEN_CFG_COND) 1 (u.skipAt x)) := by
  show execGoldenSkipDeadline dt s = _
  rw [execGoldenSkipDeadline, hdark, if_neg Bool.false_ne_true]
  dsimp only
  rw [← hu, h]
  exact congrArg Host.Outcome.next (if_neg hwindow)

end

/-- R45: a condition write of a given cycle, outside replay. -/
theorem State.condIn_of_live {s : State} (h : s.flag F.FB_STATUS_REPLAYING = false) (n v t : Nat) : s.condIn n v t = s.condShow n v t := by
  rw [State.condIn, h]
  rfl

section
variable {s : State}

/-- R45: a visible write stands in its register; the schedule and memory stay as they were. -/
theorem State.condIn_spec (hregs : s.regsWf) (hlive : s.flag F.FB_STATUS_REPLAYING = false) (n v t : Nat) :
    (s.condIn n v t).fld F.PL_COND_VALUE n = v % 2 ^ 32 ∧ (s.condIn n v t).sched = s.sched ∧ (s.condIn n v t).mem = s.mem := by
  obtain ⟨old, k, heq⟩ := State.condShow_eq (s := s) n v t
  rw [State.condIn_of_live hlive, heq]
  exact ⟨State.fld_setFld_same hregs _ _ _ (by decide), rfl, rfl⟩

theorem State.goldenJudged_sched_mem (g : GoldenDue) (rest : List GoldenDue) :
    (s.goldenJudged g rest).sched.golden = rest ∧ (s.goldenJudged g rest).mem = s.mem := by
  rw [State.goldenJudged, State.goldenStatus_sched, State.goldenStatus_mem]
  cases s.flag F.SP_GOLDEN_CFG_EN with
  | false => exact ⟨rfl, rfl⟩
  | true =>
    have hoff := State.offPlan_judgeGolden (s := s.withGolden rest) g
    exact ⟨congrArg (fun t => t.sched.golden) hoff, congrArg (fun t => t.mem) hoff⟩

/-- R215: a golden frame that ran ends the deferrals in a row, where EN lets it be judged. -/
theorem State.goldenJudged_of_ran (hregs : s.regsWf) {g : GoldenDue} (rest : List GoldenDue)
    (h : g.ran = true ∨ s.flag F.SP_GOLDEN_CFG_EN = false) :
    (s.goldenJudged g rest).fld F.SP_GOLDEN_STATUS_DEFER_RUN =
        (if s.flag F.SP_GOLDEN_CFG_EN then 0 else s.fld F.SP_GOLDEN_STATUS_DEFER_RUN) ∧
      (s.goldenJudged g rest).fld F.SP_GOLDEN_STATUS_DEFER_TOTAL = s.fld F.SP_GOLDEN_STATUS_DEFER_TOTAL ∧
      (s.goldenJudged g rest).plumb = s.plumb := by
  have hrest : (s.withGolden rest).regsWf := hregs
  rw [State.goldenJudged, State.goldenStatus_plumb]
  cases hen : s.flag F.SP_GOLDEN_CFG_EN with
  | false =>
    have hstatus := (s.withGolden rest).goldenStatus_writesOnly
    exact ⟨hstatus.fld hrest _ _ (by decide), hstatus.fld hrest _ _ (by decide), rfl⟩
  | true =>
    have hran : g.ran = true := h.resolve_right (hen ▸ Bool.noConfusion)
    have hset := State.regsWf_setFld hrest F.SP_GOLDEN_STATUS_DEFER_RUN 0 0
    have hstatus := ((s.withGolden rest).setFld F.SP_GOLDEN_STATUS_DEFER_RUN 0 0).goldenStatus_writesOnly
    rw [if_pos rfl, if_pos rfl, State.judgeGolden_of_ran hran]
    exact ⟨(hstatus.fld hset _ _ (by decide)).trans (State.fld_setFld_same hrest _ _ _ (by decide)),
      (hstatus.fld hset _ _ (by decide)).trans (State.fld_setFld_sep hrest _ (by decide)), rfl⟩

theorem State.goldenJudged_of_deferred (hregs : s.regsWf) {g : GoldenDue} (rest : List GoldenDue) (h : g.ran = false)
    (hen : s.flag F.SP_GOLDEN_CFG_EN = true) :
    (s.goldenJudged g rest).fld F.SP_GOLDEN_STATUS_DEFER_RUN = min 4 (s.fld F.SP_GOLDEN_STATUS_DEFER_RUN + 1) ∧
      (s.goldenJudged g rest).fld F.SP_GOLDEN_STATUS_DEFER_TOTAL = min (2 ^ 32 - 1) (s.fld F.SP_GOLDEN_STATUS_DEFER_TOTAL + 1) ∧
      (s.goldenJudged g rest).fld F.SP_GOLDEN_STATUS_LAST_CAUSE = s.deferCause g ∧
      (s.fld F.SP_GOLDEN_STATUS_DEFER_RUN = 3 → hasBit ((s.goldenJudged g rest).fld F.PB_STATUS_CAUSES) 4 = true) := by
  have hstatus := ((s.withGolden rest).judgeGolden g).goldenStatus_writesOnly
  obtain ⟨hwf, hrun, htotal, hcause, hlatch⟩ := State.judgeGolden_deferred_spec (s := s.withGolden rest) hregs h
  rw [State.goldenJudged, if_pos hen]
  refine ⟨(hstatus.fld hwf _ _ (by decide)).trans hrun, (hstatus.fld hwf _ _ (by decide)).trans htotal,
    (hstatus.fld hwf _ _ (by decide)).trans hcause, fun hwas => ?_⟩
  rw [hstatus.fld hwf _ _ (by decide)]
  exact hlatch hwas

/-- R214: the golden OPEN of the oldest waiting frame marks it as run or not. -/
theorem State.goldenOpened_head {g : GoldenDue} {rest : List GoldenDue} (h : s.sched.golden = g :: rest) (c : Nat) :
    (s.goldenOpened g.num c).sched.golden.head? = some { g with ran := decide (c ≤ s.skipAt g + 1), opened := some c } := by
  have hany : (s.sched.golden.any fun x => x.num == g.num) = true := by simp [h]
  rw [State.goldenOpened, if_pos hany, State.goldenStatus_sched]
  simp [h]

end

/-- Settles O32: the judgement counts the frame as run or as a deferral, and each of its steps writes its own registers alone. -/
theorem goldenFramesAreJudged : Obligations.GoldenFramesAreJudged := by
  intro s u dt hs hdark hu
  have hregs : u.regsWf := hu ▸ State.regsWf_tickA hs.regs dt
  refine ⟨exec_goldenJudgement_of_nil hdark hu, fun g rest hgolden => ⟨fun hearly => ?_, fun hdue => ?_⟩, fun hnone => ?_,
    fun g rest hgolden hdue hwindow hlive _ => ?_, fun g rest c hgolden => ⟨_, State.goldenOpened_head hgolden c, rfl, rfl⟩⟩
  · rw [exec_goldenJudgement_of_cons hdark hu hgolden, if_neg (Nat.not_le.mpr hearly)]
  · obtain ⟨hrest, hmem⟩ := State.goldenJudged_sched_mem (s := u) g rest
    refine ⟨_, by rw [exec_goldenJudgement_of_cons hdark hu hgolden, if_pos hdue], hrest, hmem, State.goldenJudged_of_ran hregs rest,
      fun hran hen => ?_⟩
    rw [← State.deferCause_eq]
    exact State.goldenJudged_of_deferred hregs rest hran hen
  · exact exec_goldenSkipDeadline_of_none hdark hu (List.find?_eq_none.mpr fun g hg => by simp [hnone g hg])
  · have hfind : u.sched.golden.find? u.skipDue = some g := by rw [hgolden, List.find?_cons_of_pos hdue]
    obtain ⟨hcond, hsched, hmem⟩ := State.condIn_spec
      (s := u.withGolden (u.sched.golden.map fun x => if x.num = g.num then { x with skip := true } else x)) hregs hlive
      (u.fld F.SP_GOLDEN_CFG_COND) 1 (u.skipAt g)
    refine ⟨_, exec_goldenSkipDeadline_of_some hdark hu hfind hwindow, hcond, hmem, { g with skip := true }, ?_, rfl⟩
    rw [hsched]
    simp [State.withGolden, hgolden]

end Sys2Proof.Machine
end

section
/-! SUPPORT. A frame start: what it shows in the registers, and what it tells the rest of the module (R206, R207, R208, R210, R217). -/

namespace Sys2Proof.Machine

theorem RegField.get_lt (f : RegField) (v : BitVec 64) : f.get v < 2 ^ f.w := BitVec.isLt _

/-- A register none of whose fields is written reads as before. -/
theorem State.writesOnly.reg {W : List (RegField × Nat)} {s t : State} (h : s.writesOnly W t) (hregs : s.regsWf) {r : RegArr} {j : Nat}
    (hkey : ∀ f ∈ W, f.1.reg.key f.2 ≠ r.key j) : t.reg r j = s.reg r j := by
  have hfld := h.fld hregs ⟨r, 0, 64⟩ j fun f hf => .inl (hkey f hf)
  exact BitVec.eq_of_toNat_eq (by simpa [State.fld, RegField.get] using hfld)

/-! ## What a frame start tells -/

/-- The fields that the work of a frame start writes, once its own registers show it. -/
def tellFields : List (RegField × Nat) :=
  (F.PL_STATUS_FRAME_STATE, 0) :: (F.SP_GOLDEN_STATUS_DUE, 0) :: (F.SP_GOLDEN_STATUS_RAN, 0) ::
    (List.range 64).map fun n => (F.PL_COND_VALUE, n)

/-- The schedule beside the golden frames that wait. -/
def Sched.offGolden (x : Sched) : Sched := { x with golden := [] }

/-- A frame start has been told: memory stands, and the schedule beside a golden frame. -/
structure State.tells (s t : State) : Prop where
  regs  : s.writesOnly tellFields t
  mem   : t.mem = s.mem
  sched : t.sched.offGolden = s.sched.offGolden

namespace State.tells

variable {s t u : State}

theorem refl (s : State) : s.tells s := ⟨.of_regs rfl, rfl, rfl⟩

theorem trans (h : s.tells t) (h' : t.tells u) : s.tells u :=
  ⟨h.regs.trans h'.regs, h'.mem.trans h.mem, h'.sched.trans h.sched⟩

theorem ite {p : Prop} [Decidable p] (ht : s.tells t) (hu : s.tells u) : s.tells (if p then t else u) := by
  split
  · exact ht
  · exact hu

theorem foldl {β : Type} {f : State → β → State} (hf : ∀ (t : State) y, t.tells (f t y)) (l : List β) (s : State) :
    s.tells (l.foldl f s) :=
  List.foldlRecOn (motive := s.tells) l f (.refl s) fun t ht y _ => ht.trans (hf t y)

theorem setFld (h : s.tells t) (f : RegField) (i x : Nat) (hf : (f, i) ∈ tellFields) : s.tells (t.setFld f i x) :=
  ⟨h.regs.setFld f i x hf, h.mem, h.sched⟩

/-- A change of other parts of the module. -/
theorem other (h : s.tells t) {ridge : Ridge} {sensors : Sensors} {plumb : Plumb} {book : Book} {tether : List (Nat × TlPort)} :
    s.tells { t with ridge, sensors, plumb, book, tether } :=
  ⟨h.regs.regs rfl, h.mem, h.sched⟩

theorem withGolden (h : s.tells t) (l : List GoldenDue) : s.tells (t.withGolden l) := ⟨h.regs.regs rfl, h.mem, h.sched⟩

theorem record (h : s.tells t) (kind source : Nat) (bs : List Byte) (domain : Nat) : s.tells (t.record kind source bs domain) := by
  obtain ⟨k, hk⟩ := t.recordAt_eq t.acyc kind source bs domain
  rw [State.record, hk]
  exact h.other

theorem condIn (h : s.tells t) {n : Nat} (hn : n < 64) (v c : Nat) : s.tells (t.condIn n v c) := by
  obtain ⟨old, k, heq⟩ := State.condShow_eq (s := t) n v c
  rw [State.condIn, heq]
  refine .ite h (h.other.setFld F.PL_COND_VALUE n v ?_)
  simp [tellFields, hn]

theorem schedWrite (h : s.tells t) (f p c : Nat) : s.tells (t.schedWrite f p c) := by
  unfold State.schedWrite
  split
  · exact h.condIn (t.fld_lt ..) ..
  · exact h

theorem pinFrame (s : State) (f : Nat) : s.tells (s.pinFrame f) := .foldl (fun t _ => .ite (State.tells.refl t).other (.refl t)) _ _

theorem plumbFrame (s : State) (f : Nat) : s.tells (s.plumbFrame f) := (State.tells.refl s).other

theorem setTlPort (s : State) (p : Nat) (x : TlPort) : s.tells (s.setTlPort p x) := (State.tells.refl s).other

theorem tlPump (s : State) (p : Nat) : s.tells (s.tlPump p) := .ite (.setTlPort ..) (.refl s)

theorem tlSync (s : State) : s.tells s.tlSync := .foldl (fun t p => .ite ((State.tells.setTlPort t p _).trans (.tlPump ..)) (.refl t)) _ _

theorem goNow (s : State) (c : Nat) : s.tells (s.goNow c) :=
  .ite ((State.tells.refl s).other.setFld F.PL_STATUS_FRAME_STATE 0 1 (by decide)) (.refl s)

theorem goldenStatus (s : State) : s.tells s.goldenStatus where
  regs := s.goldenStatus_writesOnly.mono (by simp [tellFields])
  mem := s.goldenStatus_mem
  sched := congrArg Sched.offGolden s.goldenStatus_sched

end State.tells

/-! ## The parts of a frame start -/

section
variable (s : State)

/-- LAST_INTERVAL lies between two frame starts. -/
def State.intervalShown (t : Nat) : State :=
  match s.sched.lastStart with
  | some u => if s.frameNum = 0 then s else s.setFld F.SP_FRAME_STATUS_LAST_INTERVAL 0 (min (2 ^ 27 - 1) (t - u))
  | none => s

/-- R208: the frame number goes on by one. -/
def State.frameCounted (t : Nat) : State := (s.intervalShown t).count F.SP_FRAME_NUM_NUM

/-- R207: both status registers show whether the frame is synced. -/
def State.syncShown (unsynced : Bool) : State :=
  (s.setFld F.SP_FRAME_STATUS_UNSYNCED 0 (bit !(!unsynced))).setFld F.PL_STATUS_UNSYNCED 0 (bit !(!unsynced))

/-- R207: unsynced frames are counted. -/
def State.freeCounted (unsynced : Bool) : State := if unsynced then s.bump F.SP_SYNC_COUNTS_FREE_FRAMES else s

/-- R219: the lines of each class in the frame that has ended. -/
def State.linesShown : State :=
  (List.range 4).foldl (fun s k => s.setFld F.SP_CLASS_FRAME_LINES k (min (2 ^ 32 - 1) (spGet 0 s.sched.frameLines k))) s

/-- What a frame start writes in the registers. -/
def State.frameShown (unsynced : Bool) (t : Nat) : State := (((s.frameCounted t).syncShown unsynced).freeCounted unsynced).linesShown

/-- The start stands as the last one, and the regions of the registers are in force (R217). -/
def State.frameStands (free : Bool) (t : Nat) : State :=
  ({ s with sched := { s.sched with lastStart := some t, freeRun := free, frameLines := [], free := none } } : State).newRegions

/-- R48: a running frame stream may release the start. -/
def State.startWaits (f t : Nat) : State :=
  if s.fld F.PL_STATUS_FRAME_STATE = 1 then { s with ridge := { s.ridge with starts := s.ridge.starts ++ [⟨f, t⟩] } } else s

/-- R215: a golden frame waits for its judgement. -/
def State.goldenWaits (f t : Nat) : State :=
  if s.goldenFrame f then (s.withGolden (s.sched.golden ++ [⟨f, t, none, false, false, false, none, none⟩])).goldenStatus else s

/-- The start of frame `f` is told to Field Book, the pins, Plumb, the best-effort schedules, the links and Ridgepole. -/
def State.frameTold (unsynced : Bool) (f t : Nat) : State :=
  let pinned := ((s.record 0x02 0 (words [bit !unsynced])).pinFrame f).plumbFrame f
  let scheduled := [2, 3, 4, 5, 6, 7].foldl (fun (s : State) p => s.schedWrite f p t) pinned
  ((scheduled.tlSync.goNow t).startWaits f t).goldenWaits f t

theorem State.tells.startWaits (f t : Nat) : s.tells (s.startWaits f t) := .ite (State.tells.refl s).other (.refl s)

theorem State.tells.goldenWaits (f t : Nat) : s.tells (s.goldenWaits f t) :=
  .ite (((State.tells.refl s).withGolden _).trans (.goldenStatus _)) (.refl s)

theorem State.frameStart_eq (free unsynced : Bool) (t : Nat) : s.frameStart free unsynced t =
    ((s.frameShown unsynced t).frameStands free t).frameTold unsynced (s.frameCounted t).frameNum t := rfl

theorem State.frameTold_tells (unsynced : Bool) (f t : Nat) : s.tells (s.frameTold unsynced f t) := by
  have hpinned := (((State.tells.refl s).record 0x02 0 (words [bit !unsynced]) 1).trans (.pinFrame _ f)).trans (.plumbFrame _ f)
  have hgone := ((hpinned.trans (.foldl (fun u p => (State.tells.refl u).schedWrite f p t) [2, 3, 4, 5, 6, 7] _)).trans
    (.tlSync _)).trans (.goNow _ t)
  exact (hgone.trans (.startWaits _ f t)).trans (.goldenWaits _ f t)

/-! ## What a frame start shows -/

theorem State.intervalShown_writesOnly (t : Nat) : s.writesOnly [(F.SP_FRAME_STATUS_LAST_INTERVAL, 0)] (s.intervalShown t) := by
  unfold State.intervalShown
  split
  · split
    · exact .of_regs rfl
    · exact State.writesOnly.setFld (.of_regs rfl) _ _ _ List.mem_cons_self
  · exact .of_regs rfl

theorem State.syncShown_writesOnly (unsynced : Bool) :
    s.writesOnly [(F.SP_FRAME_STATUS_UNSYNCED, 0), (F.PL_STATUS_UNSYNCED, 0)] (s.syncShown unsynced) :=
  ((State.writesOnly.of_regs rfl).setFld F.SP_FRAME_STATUS_UNSYNCED 0 _ (by decide)).setFld F.PL_STATUS_UNSYNCED 0 _ (by decide)

theorem State.freeCounted_writesOnly (unsynced : Bool) : s.writesOnly [(F.SP_SYNC_COUNTS_FREE_FRAMES, 0)] (s.freeCounted unsynced) := by
  unfold State.freeCounted
  split
  · exact State.writesOnly.setFld (.of_regs rfl) _ _ _ List.mem_cons_self
  · exact .of_regs rfl

theorem State.linesShown_writesOnly :
    s.writesOnly ((List.range 4).map fun k => (F.SP_CLASS_FRAME_LINES, k)) s.linesShown :=
  List.foldlRecOn (motive := fun u => s.writesOnly _ u) _ _ (.of_regs rfl) fun _ hu k hk =>
    hu.setFld _ k _ (List.mem_map_of_mem hk)

/-- The registers that a frame start shows itself in. -/
def shownFields : List (RegField × Nat) :=
  [(F.SP_FRAME_STATUS_LAST_INTERVAL, 0), (F.SP_FRAME_NUM_NUM, 0), (F.SP_FRAME_STATUS_UNSYNCED, 0), (F.PL_STATUS_UNSYNCED, 0),
    (F.SP_SYNC_COUNTS_FREE_FRAMES, 0)] ++ (List.range 4).map fun k => (F.SP_CLASS_FRAME_LINES, k)

theorem State.frameShown_writesOnly (unsynced : Bool) (t : Nat) : s.writesOnly shownFields (s.frameShown unsynced t) := by
  have hcounted : s.writesOnly shownFields (s.frameCounted t) :=
    ((s.intervalShown_writesOnly t).mono (by decide)).setFld F.SP_FRAME_NUM_NUM 0 _ (by decide)
  have hsync := hcounted.trans ((State.syncShown_writesOnly _ unsynced).mono (by decide))
  exact (hsync.trans ((State.freeCounted_writesOnly _ unsynced).mono (by decide))).trans ((State.linesShown_writesOnly _).mono (by decide))

theorem State.offPlan_frameShown (unsynced : Bool) (t : Nat) : (s.frameShown unsynced t).offPlan = s.offPlan := by
  have hinterval : (s.intervalShown t).offPlan = s.offPlan := by
    unfold State.intervalShown
    split
    · split
      · rfl
      · rfl
    · rfl
  have hfree : ∀ u : State, (u.freeCounted unsynced).offPlan = u.offPlan := fun u => by
    cases unsynced
    · rfl
    · rfl
  have hlines : ∀ u : State, u.linesShown.offPlan = u.offPlan := fun u =>
    List.foldlRecOn (motive := fun v => State.offPlan v = u.offPlan) _ _ rfl fun _ hv _ _ => hv
  rw [State.frameShown, hlines, hfree]
  exact hinterval

end

/-- What the registers of a frame start are after it: the number, the mark of the frame and the count of unsynced frames. -/
theorem State.frameShown_spec {s : State} (hregs : s.regsWf) (unsynced : Bool) (t : Nat) :
    (s.frameShown unsynced t).fld F.SP_FRAME_NUM_NUM = (s.frameNum + 1) % 2 ^ 48 ∧
      (s.frameShown unsynced t).fld F.SP_FRAME_STATUS_UNSYNCED = bit unsynced ∧
      (s.frameShown unsynced t).fld F.PL_STATUS_UNSYNCED = bit unsynced ∧
      (s.frameShown unsynced t).fld F.SP_SYNC_COUNTS_FREE_FRAMES = (if unsynced then
        min (2 ^ 32 - 1) (s.fld F.SP_SYNC_COUNTS_FREE_FRAMES + 1) else s.fld F.SP_SYNC_COUNTS_FREE_FRAMES) := by
  have hbit : bit (!(!unsynced)) % 2 = bit unsynced := by cases unsynced <;> rfl
  have hinterval := s.intervalShown_writesOnly t
  have hintervalWf := hinterval.regsWf hregs
  have hcountedWf : (s.frameCounted t).regsWf := State.regsWf_count hintervalWf ..
  have hsync := (s.frameCounted t).syncShown_writesOnly unsynced
  have hsyncWf := hsync.regsWf hcountedWf
  have hfree := ((s.frameCounted t).syncShown unsynced).freeCounted_writesOnly unsynced
  have hlines := (((s.frameCounted t).syncShown unsynced).freeCounted unsynced).linesShown_writesOnly
  have hlinesFld := hlines.fld (hfree.regsWf hsyncWf)
  have hset := State.regsWf_setFld hcountedWf F.SP_FRAME_STATUS_UNSYNCED 0 (bit !(!unsynced))
  rw [State.frameShown]
  refine ⟨?_, ?_, ?_, ?_⟩
  · rw [hlinesFld _ _ (by decide), hfree.fld hsyncWf _ _ (by decide), hsync.fld hcountedWf _ _ (by decide), State.frameCounted,
      State.fld_count_same hintervalWf _ _ _ (by decide), hinterval.fld hregs _ _ (by decide)]
    rfl
  · rw [hlinesFld _ _ (by decide), hfree.fld hsyncWf _ _ (by decide), State.syncShown, State.fld_setFld_sep hset _ (by decide),
      State.fld_setFld_same hcountedWf _ _ _ (by decide)]
    exact hbit
  · rw [hlinesFld _ _ (by decide), hfree.fld hsyncWf _ _ (by decide), State.syncShown, State.fld_setFld_same hset _ _ _ (by decide)]
    exact hbit
  · have hcount : ((s.frameCounted t).syncShown unsynced).fld F.SP_SYNC_COUNTS_FREE_FRAMES = s.fld F.SP_SYNC_COUNTS_FREE_FRAMES := by
      rw [hsync.fld hcountedWf _ _ (by decide), State.frameCounted, State.count, State.fld_setFld_sep hintervalWf _ (by decide),
        hinterval.fld hregs _ _ (by decide)]
    rw [hlinesFld _ _ (by decide), ← hcount]
    cases unsynced with
    | false => rfl
    | true => exact State.fld_bump_same hsyncWf _ _ _ (by decide)

/-- R217: the regions of the registers are in force. -/
theorem State.newRegions_eq (s : State) : ∃ x, s.newRegions =
    { s with stow := x, sched := { s.sched with regions := spTabulate 0 32 fun i => s.reg R.SP_REGION i } } := by
  unfold State.newRegions
  dsimp only
  split
  · exact ⟨_, rfl⟩
  · exact ⟨_, rfl⟩

/-! ## A frame start as a whole -/

/-- `t` is `s` after a frame start in cycle `c`, in free-run or not, unsynced or not. -/
structure State.startsFrame (s t : State) (free unsynced : Bool) (c : Nat) : Prop where
  num        : t.frameNum = (s.frameNum + 1) % 2 ^ 48
  mark       : t.unsynced = unsynced
  planMark   : t.fld F.PL_STATUS_UNSYNCED = bit unsynced
  freeFrames : t.fld F.SP_SYNC_COUNTS_FREE_FRAMES = if unsynced then
    min (2 ^ 32 - 1) (s.fld F.SP_SYNC_COUNTS_FREE_FRAMES + 1) else s.fld F.SP_SYNC_COUNTS_FREE_FRAMES
  losses     : t.fld F.SP_SYNC_COUNTS_LOSSES = s.fld F.SP_SYNC_COUNTS_LOSSES
  lost       : t.fld F.SP_FRAME_STATUS_LOST = s.fld F.SP_FRAME_STATUS_LOST
  freeRun    : t.sched.freeRun = free
  lastStart  : t.sched.lastStart = some c
  regions    : ∀ i, i < 32 → spGet 0 t.sched.regions i = s.reg R.SP_REGION i
  mem        : t.mem = s.mem

/-- The fields that speak of a frame and of its source. -/
def frameFields : List RegField :=
  [F.SP_FRAME_NUM_NUM, F.SP_FRAME_STATUS_UNSYNCED, F.PL_STATUS_UNSYNCED, F.SP_SYNC_COUNTS_FREE_FRAMES, F.SP_SYNC_COUNTS_LOSSES,
    F.SP_FRAME_STATUS_LOST]

theorem tellFields_sep : ∀ g ∈ frameFields, ∀ f ∈ tellFields, f.1.sep f.2 g 0 := by decide

theorem shownFields_sep_region : ∀ i, i < 32 → ∀ f ∈ shownFields, f.1.reg.key f.2 ≠ R.SP_REGION.key i := by decide

theorem State.frameStart_spec {s : State} (hregs : s.regsWf) (free unsynced : Bool) (c : Nat) :
    s.startsFrame (s.frameStart free unsynced c) free unsynced c := by
  obtain ⟨hnum, hmark, hplan, hfree⟩ := State.frameShown_spec hregs unsynced c
  have hshown := s.frameShown_writesOnly unsynced c
  have hoff := s.offPlan_frameShown unsynced c
  obtain ⟨x, hstands⟩ := State.newRegions_eq ({ s.frameShown unsynced c with sched :=
    { (s.frameShown unsynced c).sched with lastStart := some c, freeRun := free, frameLines := [], free := none } } : State)
  have htells := ((s.frameShown unsynced c).frameStands free c).frameTold_tells unsynced (s.frameCounted c).frameNum c
  rw [← State.frameStart_eq, State.frameStands, hstands] at htells
  have hfld : ∀ g ∈ frameFields, (s.frameStart free unsynced c).fld g = (s.frameShown unsynced c).fld g := fun g hg =>
    htells.regs.fld (hshown.regsWf hregs) g 0 (tellFields_sep g hg)
  have hsched := htells.sched
  refine ⟨(hfld _ (by decide)).trans hnum, ?_, (hfld _ (by decide)).trans hplan, (hfld _ (by decide)).trans hfree,
    (hfld _ (by decide)).trans (hshown.fld hregs _ _ (by decide)), (hfld _ (by decide)).trans (hshown.fld hregs _ _ (by decide)),
    congrArg (fun x => x.freeRun) hsched, congrArg (fun x => x.lastStart) hsched, fun i hi => ?_,
    htells.mem.trans (congrArg (fun u => u.mem) hoff)⟩
  · rw [State.unsynced, State.flag, hfld _ (by decide), hmark]
    cases unsynced
    · rfl
    · rfl
  · have hregions : (s.frameStart free unsynced c).sched.regions = spTabulate 0 32 fun i => (s.frameShown unsynced c).reg R.SP_REGION i :=
      congrArg (fun x => x.regions) hsched
    rw [hregions, spGet_spTabulate, if_pos hi]
    exact hshown.reg hregs (shownFields_sep_region i hi)

end Sys2Proof.Machine
end

section
/-! SUPPORT. Free-run starts, the edges of the selected source, and the schedule registers (R205, R206, R210). -/

namespace Sys2Proof.Machine

/-! ## Free-run starts -/

/-- R206: the loss of the source, where free-run is not in effect yet. -/
def State.sourceLost (s : State) : State :=
  if s.sched.freeRun then s else ((s.bump F.SP_SYNC_COUNTS_LOSSES).setFlag F.SP_FRAME_STATUS_LOST).attn F.TH_ATTN_SYNC_LOST

/-- What a free-run start sets aside for an edge of the same cycle. -/
def State.setAside (s : State) (t : Nat) : FreeStart := ⟨t, s.reg R.SP_SYNC_COUNTS, s.reg R.SP_FRAME_STATUS, s.reg R.TH_ATTN⟩

/-- The free-run start of this cycle is kept, to be taken back. -/
def State.keepsAside (s : State) (x : FreeStart) : State := { s with sched := { s.sched with free := some x } }

theorem State.freeStart_eq (s : State) (t : Nat) : s.freeStart t = (s.sourceLost.frameStart true true t).keepsAside (s.setAside t) := rfl

@[simp] theorem State.offPlan_sourceLost (s : State) : s.sourceLost.offPlan = s.offPlan := by
  unfold State.sourceLost
  split
  · rfl
  · exact State.offPlan_attn ..

/-- The fields that show the loss of the source. -/
def lostFields : List (RegField × Nat) :=
  [(F.SP_SYNC_COUNTS_LOSSES, 0), (F.SP_FRAME_STATUS_LOST, 0), (F.TH_ATTN_SYNC_LOST, 0), (F.TH_ATTN_PIN, 0)]

theorem lostFields_sep_region : ∀ i, i < 32 → ∀ f ∈ lostFields, f.1.reg.key f.2 ≠ R.SP_REGION.key i := by decide

theorem State.sourceLost_writesOnly (s : State) : s.writesOnly lostFields s.sourceLost := by
  unfold State.sourceLost
  split
  · exact .of_regs rfl
  · exact (((State.writesOnly.of_regs rfl).setFld F.SP_SYNC_COUNTS_LOSSES 0 _ (by decide)).setFld F.SP_FRAME_STATUS_LOST 0 1
      (by decide)).trans ((State.attn_writesOnly ..).mono (by decide))

/-- R206: the entry into free-run is counted and shown. -/
theorem State.sourceLost_spec {s : State} (hregs : s.regsWf) (h : s.sched.freeRun = false) :
    s.sourceLost.fld F.SP_FRAME_STATUS_LOST = 1 ∧
      s.sourceLost.fld F.SP_SYNC_COUNTS_LOSSES = min 65535 (s.fld F.SP_SYNC_COUNTS_LOSSES + 1) := by
  have hcounted := State.regsWf_bump hregs F.SP_SYNC_COUNTS_LOSSES 0 1
  have hflag := State.regsWf_setFlag hcounted F.SP_FRAME_STATUS_LOST 0
  rw [State.sourceLost, h, if_neg Bool.false_ne_true, State.fld_attn hflag (by decide) (by decide),
    State.fld_attn hflag (by decide) (by decide)]
  exact ⟨State.fld_setFld_same hcounted _ _ _ (by decide),
    (State.fld_setFld_sep hcounted _ (by decide)).trans (State.fld_bump_same hregs _ _ _ (by decide))⟩

/-- R206, R207: a free-run start begins an unsynced frame in the cycle in which it fell due; the first counts the loss of the source. -/
theorem State.freeStart_spec {s : State} (hregs : s.regsWf) (c : Nat) :
    (s.freeStart c).frameNum = (s.frameNum + 1) % 2 ^ 48 ∧ (s.freeStart c).unsynced = true ∧
      (s.freeStart c).fld F.PL_STATUS_UNSYNCED = 1 ∧ (s.freeStart c).sched.freeRun = true ∧ (s.freeStart c).sched.lastStart = some c ∧
      (s.freeStart c).fld F.SP_SYNC_COUNTS_FREE_FRAMES = min (2 ^ 32 - 1) (s.fld F.SP_SYNC_COUNTS_FREE_FRAMES + 1) ∧
      (s.sched.freeRun = false → (s.freeStart c).fld F.SP_FRAME_STATUS_LOST = 1 ∧
        (s.freeStart c).fld F.SP_SYNC_COUNTS_LOSSES = min 65535 (s.fld F.SP_SYNC_COUNTS_LOSSES + 1)) ∧
      (s.sched.freeRun = true → (s.freeStart c).fld F.SP_SYNC_COUNTS_LOSSES = s.fld F.SP_SYNC_COUNTS_LOSSES) ∧
      (∀ i, i < 32 → spGet 0 (s.freeStart c).sched.regions i = s.reg R.SP_REGION i) ∧ (s.freeStart c).mem = s.mem := by
  have hlost := s.sourceLost_writesOnly
  have hnum : s.sourceLost.frameNum = s.frameNum := hlost.fld hregs _ _ (by decide)
  have hfree : s.sourceLost.fld F.SP_SYNC_COUNTS_FREE_FRAMES = s.fld F.SP_SYNC_COUNTS_FREE_FRAMES := hlost.fld hregs _ _ (by decide)
  have hmem : s.sourceLost.mem = s.mem := congrArg (fun t => t.mem) s.offPlan_sourceLost
  have hstart := State.frameStart_spec (hlost.regsWf hregs) true true c
  have h : s.sourceLost.startsFrame (s.freeStart c) true true c := { hstart with }
  refine ⟨hnum ▸ h.num, h.mark, h.planMark, h.freeRun, h.lastStart, hfree ▸ h.freeFrames, fun hrun => ?_, fun hrun => ?_, fun i hi => ?_,
    h.mem.trans hmem⟩
  · obtain ⟨hshown, hcounted⟩ := State.sourceLost_spec hregs hrun
    exact ⟨h.lost.trans hshown, h.losses.trans hcounted⟩
  · rw [h.losses, State.sourceLost, if_pos hrun]
  · rw [h.regions i hi]
    exact hlost.reg hregs (lostFields_sep_region i hi)

/-- R206: no free-run start is overdue, so none is caught up with. -/
theorem State.catchFree_of_early {s : State} (h : ∀ d, s.freeDue = some d → s.clk.aclk ≤ d) (n : Nat) : State.catchFree n s = s := by
  cases n with
  | zero => rfl
  | succ n =>
    unfold State.catchFree
    split
    · next d hd => exact if_neg (Nat.not_lt.mpr (h d hd))
    · rfl

/-! ## An edge in the cycle of a free-run start -/

section
variable (s : State) (x : FreeStart)

/-- What the entry into free-run counted and showed is taken back. -/
def State.lossTaken : State :=
  (s.setFld F.SP_SYNC_COUNTS_LOSSES 0 (F.SP_SYNC_COUNTS_LOSSES.get x.counts)).setFld F.SP_FRAME_STATUS_LOST 0
    (F.SP_FRAME_STATUS_LOST.get x.status)

/-- The interrupt's cause is taken back, and its pin where no other cause stands. -/
def State.attnTaken : State :=
  let t := s.setFld F.TH_ATTN_SYNC_LOST 0 (F.TH_ATTN_SYNC_LOST.get x.attn)
  t.setFld F.TH_ATTN_PIN 0 (if (t.reg R.TH_ATTN).toNat % 256 &&& (t.reg R.TH_ATTN).toNat / 256 % 256 != 0
    then t.fld F.TH_ATTN_PIN else F.TH_ATTN_PIN.get x.attn)

/-- The frame is synced, and not counted as unsynced. -/
def State.syncTaken : State :=
  ((s.setFld F.SP_SYNC_COUNTS_FREE_FRAMES 0 (F.SP_SYNC_COUNTS_FREE_FRAMES.get x.counts)).setFld F.SP_FRAME_STATUS_UNSYNCED 0 0).setFld
    F.PL_STATUS_UNSYNCED 0 0

theorem State.tieStart_regs : (s.tieStart x false).regs = (((s.lossTaken x).attnTaken x).syncTaken x).regs := rfl

theorem State.tieStart_sched : (s.tieStart x false).sched = { s.sched with freeRun := false, free := none } := rfl

theorem State.tieStart_mem : (s.tieStart x false).mem = s.mem := rfl

theorem State.lossTaken_writesOnly : s.writesOnly [(F.SP_SYNC_COUNTS_LOSSES, 0), (F.SP_FRAME_STATUS_LOST, 0)] (s.lossTaken x) :=
  ((State.writesOnly.of_regs rfl).setFld _ _ _ (by decide)).setFld _ _ _ (by decide)

theorem State.attnTaken_writesOnly : s.writesOnly [(F.TH_ATTN_SYNC_LOST, 0), (F.TH_ATTN_PIN, 0)] (s.attnTaken x) :=
  ((State.writesOnly.of_regs rfl).setFld _ _ _ (by decide)).setFld _ _ _ (by decide)

theorem State.syncTaken_writesOnly :
    s.writesOnly [(F.SP_SYNC_COUNTS_FREE_FRAMES, 0), (F.SP_FRAME_STATUS_UNSYNCED, 0), (F.PL_STATUS_UNSYNCED, 0)] (s.syncTaken x) :=
  (((State.writesOnly.of_regs rfl).setFld _ _ _ (by decide)).setFld _ _ _ (by decide)).setFld _ _ _ (by decide)

variable {s}

theorem State.lossTaken_spec (hregs : s.regsWf) :
    (s.lossTaken x).fld F.SP_SYNC_COUNTS_LOSSES = F.SP_SYNC_COUNTS_LOSSES.get x.counts ∧
      (s.lossTaken x).fld F.SP_FRAME_STATUS_LOST = F.SP_FRAME_STATUS_LOST.get x.status := by
  have hlosses := State.regsWf_setFld hregs F.SP_SYNC_COUNTS_LOSSES 0 (F.SP_SYNC_COUNTS_LOSSES.get x.counts)
  rw [State.lossTaken, State.fld_setFld_sep hlosses _ (by decide), State.fld_setFld_same hregs _ _ _ (by decide),
    State.fld_setFld_same hlosses _ _ _ (by decide)]
  exact ⟨Nat.mod_eq_of_lt (RegField.get_lt ..), Nat.mod_eq_of_lt (RegField.get_lt ..)⟩

theorem State.syncTaken_spec (hregs : s.regsWf) :
    (s.syncTaken x).fld F.SP_SYNC_COUNTS_FREE_FRAMES = F.SP_SYNC_COUNTS_FREE_FRAMES.get x.counts ∧
      (s.syncTaken x).fld F.SP_FRAME_STATUS_UNSYNCED = 0 ∧ (s.syncTaken x).fld F.PL_STATUS_UNSYNCED = 0 := by
  have hcount := State.regsWf_setFld hregs F.SP_SYNC_COUNTS_FREE_FRAMES 0 (F.SP_SYNC_COUNTS_FREE_FRAMES.get x.counts)
  have hmark := State.regsWf_setFld hcount F.SP_FRAME_STATUS_UNSYNCED 0 0
  rw [State.syncTaken, State.fld_setFld_sep hmark _ (by decide), State.fld_setFld_sep hcount _ (by decide),
    State.fld_setFld_same hregs _ _ _ (by decide), State.fld_setFld_sep hmark _ (by decide),
    State.fld_setFld_same hcount _ _ _ (by decide), State.fld_setFld_same hmark _ _ _ (by decide)]
  exact ⟨Nat.mod_eq_of_lt (RegField.get_lt ..), rfl, rfl⟩

/-- R206: an edge of the cycle of a free-run start makes its frame synced and takes its counts back. -/
theorem State.tieStart_spec (hregs : s.regsWf) :
    (s.tieStart x false).frameNum = s.frameNum ∧ (s.tieStart x false).unsynced = false ∧
      (s.tieStart x false).fld F.PL_STATUS_UNSYNCED = 0 ∧
      (s.tieStart x false).fld F.SP_SYNC_COUNTS_FREE_FRAMES = F.SP_SYNC_COUNTS_FREE_FRAMES.get x.counts ∧
      (s.tieStart x false).fld F.SP_SYNC_COUNTS_LOSSES = F.SP_SYNC_COUNTS_LOSSES.get x.counts ∧
      (s.tieStart x false).fld F.SP_FRAME_STATUS_LOST = F.SP_FRAME_STATUS_LOST.get x.status := by
  have hloss := s.lossTaken_writesOnly x
  have hlossWf := hloss.regsWf hregs
  have hattn := (s.lossTaken x).attnTaken_writesOnly x
  have hattnWf := hattn.regsWf hlossWf
  have hsync := ((s.lossTaken x).attnTaken x).syncTaken_writesOnly x
  obtain ⟨hlosses, hlost⟩ := State.lossTaken_spec x hregs
  obtain ⟨hfree, hmark, hplan⟩ := State.syncTaken_spec x hattnWf
  simp only [State.frameNum, State.unsynced, State.flag, State.fld_congr (s.tieStart_regs x)]
  refine ⟨?_, by rw [hmark]; rfl, hplan, hfree, ?_, ?_⟩
  · rw [hsync.fld hattnWf _ _ (by decide), hattn.fld hlossWf _ _ (by decide), hloss.fld hregs _ _ (by decide)]
  · rw [hsync.fld hattnWf _ _ (by decide), hattn.fld hlossWf _ _ (by decide), hlosses]
  · rw [hsync.fld hattnWf _ _ (by decide), hattn.fld hlossWf _ _ (by decide), hlost]

end

/-! ## An edge of the selected source -/

/-- R205: an edge that comes too soon is counted. -/
def State.earlyEdge (s : State) : State := (s.bump F.SP_SYNC_COUNTS_EARLY).record 0x03 0 []

theorem State.earlyEdge_spec {s : State} (hregs : s.regsWf) :
    s.earlyEdge.frameNum = s.frameNum ∧
      s.earlyEdge.fld F.SP_SYNC_COUNTS_EARLY = min 65535 (s.fld F.SP_SYNC_COUNTS_EARLY + 1) ∧
      s.earlyEdge.sched = s.sched ∧
      s.earlyEdge.mem = s.mem := by
  have hoff : s.earlyEdge.offFaults = s.offFaults :=
    (State.offFaults_record ..).trans (State.offFaults_bump ..)
  have hfld : ∀ g, s.earlyEdge.fld g = (s.bump F.SP_SYNC_COUNTS_EARLY).fld g :=
    fun g => State.fld_congr (State.regs_record ..) g 0
  exact ⟨(hfld _).trans (State.fld_setFld_sep hregs _ (by decide)), (hfld _).trans (State.fld_bump_same hregs _ _ _ (by decide)),
    congrArg (fun t => t.sched) hoff, congrArg (fun t => t.mem) hoff⟩

section
variable {s : State} (hen : s.flag F.SP_FRAME_CFG_EN = true) (hlive : s.flag F.FB_STATUS_REPLAYING = false)
include hen hlive

/-- R205: an edge that is no tie is judged by MIN_GAP. -/
theorem State.syncEdge_of_apart {x : Nat} (hlast : s.sched.lastStart = some x) (hearly : ∀ d, s.freeDue = some d → s.clk.aclk ≤ d)
    (hfree : ∀ y, s.sched.free = some y → y.cyc ≠ s.clk.aclk) : s.syncEdge =
      if x + s.fld F.SP_SYNC_CFG_MIN_GAP ≤ s.clk.aclk then s.frameStart false false s.clk.aclk else s.earlyEdge := by
  rw [State.syncEdge, hen, hlive, if_pos (by rfl), State.catchFree_of_early hearly]
  dsimp only
  rw [hlast]
  cases hf : s.sched.free with
  | none => rfl
  | some y => exact if_neg fun h => hfree y hf h.2

/-- R206: an edge of the cycle in which the last frame started in free-run. -/
theorem State.syncEdge_of_tie {y : FreeStart} (hlast : s.sched.lastStart = some s.clk.aclk) (hfree : s.sched.free = some y)
    (hcyc : y.cyc = s.clk.aclk) : s.syncEdge = s.tieStart y false := by
  have hmissed : s.freeMissed = 0 := by
    rw [State.freeMissed, hlast]
    simp
  rw [State.syncEdge, hen, hlive, if_pos (by rfl), hmissed, State.catchFree]
  dsimp only
  rw [hlast, hfree]
  exact if_pos ⟨rfl, hcyc⟩

end

/-! ## The cyclic schedule -/

/-- R45: a branch of the cycle of a condition write, or of an earlier one, does not see it. -/
theorem State.condAt_condShow {s : State} (n v : Nat) {c : Nat} (h : s.condFloor ≤ c) : (s.condShow n v c).condAt n c = s.condAt n c := by
  have hkept : ((s.ridge.condOld.filter fun x => decide (s.condFloor ≤ x.cyc)).filter fun x => x.reg == n && decide (c ≤ x.cyc)) =
      s.ridge.condOld.filter fun x => x.reg == n && decide (c ≤ x.cyc) := by
    rw [List.filter_filter]
    refine List.filter_congr fun x _ => ?_
    by_cases hx : c ≤ x.cyc
    · rw [decide_eq_true (Nat.le_trans h hx), Bool.and_true]
    · rw [decide_eq_false hx, Bool.and_false, Bool.false_and]
  have hold : (s.condShow n v c).ridge.condOld =
      ⟨n, c, s.fld F.PL_COND_VALUE n⟩ :: s.ridge.condOld.filter fun x => decide (s.condFloor ≤ x.cyc) := by
    rw [State.condShow, State.record]
    obtain ⟨k, hk⟩ := State.recordAt_eq _ _ _ _ _ _
    rw [hk]
    rfl
  rw [State.condAt, hold, List.filter_cons_of_pos (by simp), hkept, List.getLast?_cons, State.condAt]
  cases (s.ridge.condOld.filter fun x => x.reg == n && decide (c ≤ x.cyc)).getLast? with
  | none => rfl
  | some x => rfl

/-- R210: the schedule register takes the FLAGS of the entry, which a branch of that cycle does not see. -/
theorem State.schedWrite_spec {s : State} (hregs : s.regsWf) (hlive : s.flag F.FB_STATUS_REPLAYING = false) {p f : Nat} {e : BitVec 64}
    (h : s.schedEntry p f = some e) (c : Nat) :
    (s.schedWrite f p c).fld F.PL_COND_VALUE (s.fld F.SP_SCHED_CFG_COND p) = F.SP_SCHED_ENT_FLAGS.get e ∧
      (s.condFloor ≤ c →
        (s.schedWrite f p c).condAt (s.fld F.SP_SCHED_CFG_COND p) c = s.condAt (s.fld F.SP_SCHED_CFG_COND p) c) := by
  obtain ⟨hcond, -, -⟩ := State.condIn_spec hregs hlive (s.fld F.SP_SCHED_CFG_COND p) (F.SP_SCHED_ENT_FLAGS.get e) c
  have hwrite : s.schedWrite f p c = s.condIn (s.fld F.SP_SCHED_CFG_COND p) (F.SP_SCHED_ENT_FLAGS.get e) c := by rw [State.schedWrite, h]
  rw [hwrite]
  refine ⟨hcond.trans (Nat.mod_eq_of_lt (RegField.get_lt ..)), fun hfloor => ?_⟩
  rw [State.condIn_of_live hlive]
  exact State.condAt_condShow _ _ hfloor

/-! ## The commands -/

section
variable {s u : State} {dt : Nat} (hdark : s.coreDark = false) (hu : u = s.tickA dt)
include hdark hu

theorem exec_syncEdge : exec (.syncEdge dt) s = .next (if u.fld F.SP_FRAME_CFG_SRC = 0 then u.syncEdge else u) := by
  show execSyncEdge dt s = _
  rw [execSyncEdge, hdark, if_neg Bool.false_ne_true, ← hu]

theorem exec_freeRunFrameStart (hen : u.flag F.SP_FRAME_CFG_EN = true) (hlive : u.flag F.FB_STATUS_REPLAYING = false) {d : Nat}
    (hdue : u.freeDue = some d) : exec (.freeRunFrameStart dt) s = .next (if d ≤ u.clk.aclk then u.freeStart d else u) := by
  show execFreeRunFrameStart dt s = _
  rw [execFreeRunFrameStart, hdark, if_neg Bool.false_ne_true]
  dsimp only
  rw [← hu, hen, hlive, if_pos (by rfl), hdue]
  exact (apply_ite Host.Outcome.next ..).symm

end

/-- Settles O31: an edge and a free-run start each end in State.frameStart, whose registers State.startsFrame lists. -/
theorem framesStart : Obligations.FramesStart := by
  intro s u dt hs hdark hu hen hlive
  have hregs : u.regsWf := hu ▸ State.regsWf_tickA hs.regs dt
  refine ⟨fun hsrc => by rw [exec_syncEdge hdark hu, if_neg hsrc], fun x hlast hsrc hearly hfree => ⟨fun hgap => ?_, fun hgap => ?_⟩,
    fun y hfree hcyc hlast hsrc => ?_, fun x d hlast hd => ?_, fun p f c e _ hentry _ => State.schedWrite_spec hregs hlive hentry c⟩
  · refine ⟨_, ?_, State.earlyEdge_spec hregs⟩
    rw [exec_syncEdge hdark hu, if_pos hsrc, State.syncEdge_of_apart hen hlive hlast hearly hfree, if_neg (Nat.not_le.mpr hgap)]
  · have h := State.frameStart_spec hregs false false u.clk.aclk
    refine ⟨_, ?_, h.num, h.mark, h.planMark, h.freeFrames, h.freeRun, h.lastStart, h.regions, h.mem⟩
    rw [exec_syncEdge hdark hu, if_pos hsrc, State.syncEdge_of_apart hen hlive hlast hearly hfree, if_pos hgap]
  · obtain ⟨hnum, hmark, hplan, hcount, hlosses, hlost⟩ := State.tieStart_spec y hregs
    refine ⟨_, ?_, hnum, hmark, hplan, hcount, hlosses, hlost, rfl, hlast, u.tieStart_mem y⟩
    rw [exec_syncEdge hdark hu, if_pos hsrc, State.syncEdge_of_tie hen hlive hlast hfree hcyc]
  · have hdue : u.freeDue = some d := by rw [State.freeDue, hlast, hd]; rfl
    rw [exec_freeRunFrameStart hdark hu hen hlive hdue]
    refine ⟨fun hbefore => by rw [if_neg (Nat.not_le.mpr hbefore)], fun hat => ?_⟩
    exact ⟨_, by rw [if_pos hat], State.freeStart_spec hregs d⟩

end Sys2Proof.Machine
end

section
/-! SUPPORT. What the operations on samples leave of the micro-sequencers, and the instructions of a micro-sequencer (R237, R238). -/

namespace Sys2Proof.Machine

/-- A second write of a key replaces the first. -/
theorem spSet_spSet {α : Type} [DecidableEq α] {d : α} {t : List (Nat × α)} (h : spWf d t = true) (a : Nat) (x y : α) :
    spSet d (spSet d t a x) a y = spSet d t a y := by
  refine sp_ext (spWf_spSet (spWf_spSet h a x) a y) (spWf_spSet h a y) fun b => ?_
  rw [spGet_spSet _ _ _ _ _ (spWf_spSet h a x), spGet_spSet _ _ _ _ _ h, spGet_spSet _ _ _ _ _ h]
  split <;> rfl

/-! ## The table of sequencers -/

section
variable {s : State} (h : spWf Sequencer.reset s.sensors.seqs = true) (q : Nat) (x y : Sequencer)
include h

theorem State.sequencer_setSequencer : (s.setSequencer q x).sequencer q = x := spGet_spSet_same _ _ _ _ h

theorem State.setSequencer_setSequencer : (s.setSequencer q x).setSequencer q y = s.setSequencer q y := by
  simp only [State.setSequencer, spSet_spSet h]

end

theorem State.sequencer_setPin (s : State) (g : Nat) (b : Bool) (q : Nat) : (s.setPin g b).sequencer q = s.sequencer q := rfl

theorem State.setSequencer_setPin (s : State) (g : Nat) (b : Bool) (q : Nat) (x : Sequencer) :
    (s.setPin g b).setSequencer q x = (s.setSequencer q x).setPin g b := rfl

theorem State.sequencer_congr {s t : State} (h : t.sensors.seqs = s.sensors.seqs) (q : Nat) : t.sequencer q = s.sequencer q := by
  rw [State.sequencer, h, State.sequencer]

section
variable (s : State)

@[simp] theorem State.dropSample_sensors (i seq cause : Nat) : (s.dropSample i seq cause).sensors = s.sensors := by
  unfold State.dropSample
  extract_lets counted n
  have hcounted : counted.sensors = s.sensors := by
    unfold counted
    split
    · rfl
    · split
      · rfl
      · rfl
  obtain ⟨k, hk⟩ := counted.recordAt_eq counted.acyc 0x05 i (words [i, seq, cause]) (0x20 + n)
  rw [State.record, hk]
  exact hcounted

@[simp] theorem State.setUrgency_sensors (n : Nat) : (s.setUrgency n).sensors = s.sensors := rfl
@[simp] theorem State.unmatched_sensors (n : Nat) : (s.unmatched n).sensors = s.sensors := rfl
@[simp] theorem State.setStream'_seqs (i : Nat) (v : StreamUnit) : (s.setStream' i v).sensors.seqs = s.sensors.seqs := rfl
@[simp] theorem State.beginSample_seqs (i t : Nat) : (s.beginSample i t).sensors.seqs = s.sensors.seqs := rfl

@[simp] theorem State.killSample_seqs (i cause : Nat) : (s.killSample i cause).sensors.seqs = s.sensors.seqs := by
  unfold State.killSample
  extract_lets v
  cases v.asm with
  | none => rfl
  | some g =>
    dsimp only
    split
    · rfl
    · rw [State.dropSample_sensors]; rfl

@[simp] theorem State.enterBuffer_seqs (i b : Nat) : (s.enterBuffer i b).sensors.seqs = s.sensors.seqs := by
  rw [State.enterBuffer, State.setUrgency_sensors]
  split
  · rfl
  · rfl

@[simp] theorem State.feedSample_seqs (i : Nat) (bs : List Byte) : (s.feedSample i bs).sensors.seqs = s.sensors.seqs := by
  unfold State.feedSample
  extract_lets v
  cases v.asm with
  | none => rfl
  | some g =>
    dsimp only
    split
    · rfl
    · split
      · exact s.killSample_seqs i 2
      · split
        · exact s.killSample_seqs i 1
        · simp

@[simp] theorem State.endSample_seqs (i t : Nat) : (s.endSample i t).sensors.seqs = s.sensors.seqs := by
  unfold State.endSample
  extract_lets v
  cases v.asm with
  | none => rfl
  | some g =>
    dsimp only
    split
    · rfl
    · rfl

@[simp] theorem State.emit_seqs (n tag first last : Nat) (bs : List Byte) (long : Bool) :
    (s.emit n tag first last bs long).sensors.seqs = s.sensors.seqs := by
  unfold State.emit
  split
  · rfl
  · cases s.matching n (fun x => x % 64 == tag) with
    | none => rfl
    | some i =>
      dsimp only
      split
      · simp
      · simp [State.wholeSample]

end

/-! ## A step of a sequencer -/

/-- R237: the instruction that the sequencer executes next. -/
def State.seqWord (s : State) (q : Nat) : Nat := s.seqInstr q (s.sequencer q).pc

/-- R237: the sequencer runs, does not wait, and its next instruction, of code `op`, is due. -/
structure State.seqDue (s : State) (q op : Nat) : Prop where
  run  : (s.sequencer q).run = true
  free : (s.sequencer q).waiting = false
  op   : seqOp (s.seqWord q) = op
  due  : (s.sequencer q).freeAt ≤ s.portTime (seqPort q)

/-- R237: the sequencer, gone on to the next instruction. -/
def State.seqNext (s : State) (q : Nat) : Sequencer := { s.sequencer q with pc := ((s.sequencer q).pc + 1) % 64 }

section
variable {s : State} {q op n : Nat} {body : State → Nat → Nat → State × Nat} {t : State} {z : Sequencer}

theorem State.seqStep_of_not (h : (s.sequencer q).run = false ∨ (s.sequencer q).waiting = true ∨ seqOp (s.seqWord q) ≠ op ∨
    s.portTime (seqPort q) < (s.sequencer q).freeAt) : s.seqStep q op body = s := by
  refine if_neg fun hdue => ?_
  simp only [Bool.and_eq_true, Bool.not_eq_true', beq_iff_eq, decide_eq_true_eq] at hdue
  obtain ⟨⟨⟨hrun, hfree⟩, hop⟩, hdue⟩ := hdue
  rcases h with h | h | h | h
  · exact absurd hrun (by simp [h])
  · exact absurd hfree (by simp [h])
  · exact h hop
  · exact Nat.not_lt.mpr hdue h

theorem State.seqStep_of_due (h : s.seqDue q op)
    (hbody : body (s.setSequencer q (s.seqNext q)) (s.seqWord q) (s.sequencer q).freeAt = (t, n)) :
    s.seqStep q op body = t.setSequencer q { t.sequencer q with freeAt := (s.sequencer q).freeAt + n } := by
  have hcond : ((s.sequencer q).run && !(s.sequencer q).waiting && seqOp (s.seqWord q) == op &&
      decide ((s.sequencer q).freeAt ≤ s.portTime (seqPort q))) = true := by
    simp [h.run, h.free, h.op, h.due]
  refine (if_pos hcond).trans ?_
  rw [State.seqNext, State.seqWord] at hbody
  dsimp only
  rw [hbody]

/-- An instruction that changes the sequencer alone. -/
theorem State.seqStep_of_set (h : s.seqDue q op) (hwf : spWf Sequencer.reset s.sensors.seqs = true)
    (hbody : body (s.setSequencer q (s.seqNext q)) (s.seqWord q) (s.sequencer q).freeAt = (s.setSequencer q z, n)) :
    s.seqStep q op body = s.setSequencer q { z with freeAt := (s.sequencer q).freeAt + n } := by
  rw [State.seqStep_of_due h hbody, State.sequencer_setSequencer hwf, State.setSequencer_setSequencer hwf]

end

end Sys2Proof.Machine
end

section
/-! SUPPORT. The instructions of a micro-sequencer, command by command (Table SN-7), and its triggers (R238). -/

namespace Sys2Proof.Machine

/-! ## The instructions -/

/-- The bytes that an XFER `w` clocks out: TX_LEN of the transmit table, and zeros. -/
def State.xferSent (s : State) (q w : Nat) : List Byte :=
  (List.range (min (w % 256) (w / 2 ^ 14 % 64))).map (fun k => s.txByte q (w / 2 ^ 8 % 64 + k)) ++
    List.replicate (w % 256 - min (w % 256) (w / 2 ^ 14 % 64)) 0

/-- The assembly buffer after an XFER `w` that receives `rx`, before it is cut to its 192 bytes. -/
def State.xferBuf (s : State) (q w : Nat) (rx : List Byte) : List Byte :=
  if hasBit w 20 && s.portOn (seqPort q) then
    (s.sequencer q).buf ++ ((List.range (w % 256)).map fun k => rx.getD k 0).drop (min (w % 256) (w / 2 ^ 14 % 64))
  else (s.sequencer q).buf

/-- R238: the sequencer past an EMIT, with nothing held. -/
def State.seqCleared (s : State) (q : Nat) : Sequencer :=
  { s.seqNext q with first := none, last := none, buf := [], excess := false }

/-- R238: an EMIT with stamps `a` and `b` hands the buffer over. -/
def State.emitted (s : State) (q a b : Nat) : State :=
  (s.setSequencer q (s.seqCleared q)).emit (seqPort q) (s.seqWord q % 64) a b (s.sequencer q).buf (s.sequencer q).excess

section
variable (s : State) (q w : Nat) (rx : List Byte)

theorem State.length_xferSent : (s.xferSent q w).length = w % 256 := by
  simp [State.xferSent]

theorem map_range_getD {α : Type} (l : List α) (d : α) : ((List.range l.length).map fun k => l.getD k d) = l :=
  List.ext_getElem (by simp) fun k hk hk' => by simp [hk']

variable {w}

theorem State.take_xferBuf_of_off (h : hasBit w 20 = false ∨ s.portOn (seqPort q) = false) (hlen : (s.sequencer q).buf.length ≤ 192) :
    (s.xferBuf q w rx).take 192 = (s.sequencer q).buf := by
  have hkept : s.xferBuf q w rx = (s.sequencer q).buf := by
    refine if_neg ?_
    rcases h with h | h
    · simp [h]
    · simp [h]
  rw [hkept, List.take_of_length_le hlen]

variable {rx}

theorem State.take_xferBuf_of_on (hrx : hasBit w 20 = true) (hon : s.portOn (seqPort q) = true) (htx : w / 2 ^ 14 % 64 = 0)
    (hlen : rx.length = w % 256) (hroom : (s.sequencer q).buf.length + w % 256 ≤ 192) :
    (s.xferBuf q w rx).take 192 = (s.sequencer q).buf ++ rx := by
  have hjoined : s.xferBuf q w rx = (s.sequencer q).buf ++ rx := by
    rw [State.xferBuf, hrx, hon, htx, ← hlen, map_range_getD, Nat.min_zero, List.drop_zero]
    rfl
  rw [hjoined, List.take_of_length_le (by rwa [List.length_append, hlen])]

end

section
variable {s u : State} {q : Fin 6} {dt : Nat} (hdark : s.coreDark = false) (hu : u = s.tickP (seqPort q.val) dt)
include hdark hu

/-- Every instruction command is a step of its sequencer. -/
theorem seqRow {op : Nat} (body : State → Nat → Nat → State × Nat) :
    (if s.coreDark then Host.Outcome.next s else .next ((s.tickP (seqPort q.val) dt).seqStep q.val op body) :
      Host.Outcome State Fault Refusal) = .next (u.seqStep q.val op body) := by
  rw [hdark, if_neg Bool.false_ne_true, hu]

theorem seqRow_due {op : Nat} {body : State → Nat → Nat → State × Nat} (t : State) (n : Nat) (h : u.seqDue q.val op)
    (hbody : body (u.setSequencer q.val (u.seqNext q.val)) (u.seqWord q.val) (u.sequencer q.val).freeAt = (t, n)) :
    (if s.coreDark then Host.Outcome.next s else .next ((s.tickP (seqPort q.val) dt).seqStep q.val op body) :
      Host.Outcome State Fault Refusal) =
      .next (t.setSequencer q.val { t.sequencer q.val with freeAt := (u.sequencer q.val).freeAt + n }) := by
  rw [seqRow hdark hu, State.seqStep_of_due h hbody]

theorem exec_seqRow_idle (rx : List Byte) : ∀ p ∈ ([(0, Instr.halt q dt), (1, .waitTrig q dt), (2, .stamp q dt), (3, .xfer q rx dt),
      (4, .delay q dt), (5, .emit q dt), (6, .jump q dt), (7, .gpioOut q dt)] : List (Nat × Instr)),
    ((u.sequencer q.val).run = false ∨ (u.sequencer q.val).waiting = true ∨ seqOp (u.seqWord q.val) ≠ p.1 ∨
      u.portTime (seqPort q.val) < (u.sequencer q.val).freeAt) → exec p.2 s = .next u := by
  have hidle {op : Nat} (body : State → Nat → Nat → State × Nat) (h : (u.sequencer q.val).run = false ∨
      (u.sequencer q.val).waiting = true ∨ seqOp (u.seqWord q.val) ≠ op ∨ u.portTime (seqPort q.val) < (u.sequencer q.val).freeAt) :=
    (seqRow hdark hu body).trans (congrArg Host.Outcome.next (State.seqStep_of_not h))
  simp only [List.forall_mem_cons]
  exact ⟨hidle _, hidle _, hidle _, hidle _, hidle _, hidle _, hidle _, hidle _, by simp⟩

section
variable (hwf : spWf Sequencer.reset u.sensors.seqs = true)
include hwf

/-- An instruction that changes its sequencer alone. -/
theorem seqRow_set {op n : Nat} {body : State → Nat → Nat → State × Nat} {z : Sequencer} (h : u.seqDue q.val op)
    (hbody : body (u.setSequencer q.val (u.seqNext q.val)) (u.seqWord q.val) (u.sequencer q.val).freeAt =
      ((u.setSequencer q.val (u.seqNext q.val)).setSequencer q.val z, n)) :
    (if s.coreDark then Host.Outcome.next s else .next ((s.tickP (seqPort q.val) dt).seqStep q.val op body) :
      Host.Outcome State Fault Refusal) = .next (u.setSequencer q.val { z with freeAt := (u.sequencer q.val).freeAt + n }) := by
  rw [seqRow hdark hu, State.seqStep_of_set h hwf (hbody.trans (by rw [State.setSequencer_setSequencer hwf]))]

theorem exec_halt_due (h : u.seqDue q.val 0) : exec (.halt q dt) s =
    .next (u.setSequencer q.val { u.seqNext q.val with run := false, freeAt := (u.sequencer q.val).freeAt + 0 }) := by
  refine (seqRow_set hdark hu hwf h rfl).trans ?_
  rw [State.sequencer_setSequencer hwf]

theorem exec_waitTrig_takes (h : u.seqDue q.val 1) (hpend : (u.sequencer q.val).pend.contains (u.seqWord q.val % 64) = true) :
    exec (.waitTrig q dt) s = .next (u.setSequencer q.val { u.seqNext q.val with
      pend := (u.sequencer q.val).pend.filter fun k => k != u.seqWord q.val % 64, freeAt := (u.sequencer q.val).freeAt + 1 }) := by
  have hnext : (u.seqNext q.val).pend.contains (u.seqWord q.val % 64) = true := hpend
  refine (seqRow_set hdark hu hwf h (if_pos ?_)).trans ?_
  · rwa [State.sequencer_setSequencer hwf]
  · rw [State.sequencer_setSequencer hwf]; rfl

theorem exec_waitTrig_waits (h : u.seqDue q.val 1) (hpend : (u.sequencer q.val).pend.contains (u.seqWord q.val % 64) = false)
    (hpc : (u.sequencer q.val).pc < 64) : exec (.waitTrig q dt) s =
      .next (u.setSequencer q.val { u.sequencer q.val with waiting := true, freeAt := (u.sequencer q.val).freeAt + 0 }) := by
  have hnext : ¬(u.seqNext q.val).pend.contains (u.seqWord q.val % 64) = true := Bool.eq_false_iff.mp hpend
  have hback : ((u.seqNext q.val).pc + 63) % 64 = (u.sequencer q.val).pc := by
    show (((u.sequencer q.val).pc + 1) % 64 + 63) % 64 = _
    omega
  refine (seqRow_set hdark hu hwf h (if_neg ?_)).trans ?_
  · rwa [State.sequencer_setSequencer hwf]
  · rw [State.sequencer_setSequencer hwf, hback]; rfl

theorem exec_stamp_due (h : u.seqDue q.val 2) : exec (.stamp q dt) s = .next (u.setSequencer q.val { u.seqNext q.val with
    first := some ((u.sequencer q.val).first.getD (u.sequencer q.val).freeAt), last := some (u.sequencer q.val).freeAt,
    freeAt := (u.sequencer q.val).freeAt + 1 }) := by
  refine (seqRow_set hdark hu hwf h rfl).trans ?_
  rw [State.sequencer_setSequencer hwf]
  rfl

theorem exec_xfer_due (rx : List Byte) (h : u.seqDue q.val 3) : exec (.xfer q rx dt) s =
    .next (u.setSequencer q.val { u.seqNext q.val with
      buf := (u.xferBuf q.val (u.seqWord q.val) rx).take 192
      excess := (u.sequencer q.val).excess || decide (192 < (u.xferBuf q.val (u.seqWord q.val) rx).length)
      sent := some (u.seqWord q.val / 2 ^ 21 % 128, u.xferSent q.val (u.seqWord q.val))
      freeAt := (u.sequencer q.val).freeAt + (8 + u.seqWord q.val % 256 * u.byteCycles q.val) }) := by
  refine (seqRow_set hdark hu hwf h rfl).trans ?_
  rw [State.sequencer_setSequencer hwf]
  rfl

theorem exec_delay_due (h : u.seqDue q.val 4) : exec (.delay q dt) s = .next (u.setSequencer q.val { u.seqNext q.val with
    freeAt := (u.sequencer q.val).freeAt + u.seqWord q.val % 2 ^ 24 }) :=
  (seqRow hdark hu _).trans (congrArg _ (State.seqStep_of_set h hwf rfl))

theorem exec_emit_due (h : u.seqDue q.val 5) {a b : Nat} (ha : (u.sequencer q.val).first = some a)
    (hb : (u.sequencer q.val).last = some b) :
    ∃ t, exec (.emit q dt) s = .next t ∧
      t.sequencer q.val = { u.seqCleared q.val with freeAt := (u.sequencer q.val).freeAt + 1 } ∧
      t.sensors.streams = (u.emitted q.val a b).sensors.streams := by
  have hfirst : (u.seqNext q.val).first = some a := ha
  have hlast : (u.seqNext q.val).last = some b := hb
  have hseqs : (u.emitted q.val a b).sensors.seqs = (u.setSequencer q.val (u.seqCleared q.val)).sensors.seqs := State.emit_seqs ..
  refine ⟨_, seqRow_due hdark hu (u.emitted q.val a b) 1 h ?_, ?_, rfl⟩
  · simp only [State.sequencer_setSequencer hwf, hfirst, hlast, State.stampOr, State.setSequencer_setSequencer hwf]
    rfl
  · rw [State.sequencer_setSequencer (hseqs ▸ spWf_spSet hwf _ _), State.sequencer_congr hseqs, State.sequencer_setSequencer hwf]

theorem exec_gpioOut_drives (h : u.seqDue q.val 7) (hmode : u.fld F.SN_GPIO_MODE (u.seqWord q.val % 32) = 3)
    (howner : u.fld F.SN_GPIO_OWNER (u.seqWord q.val % 32) = q.val) : exec (.gpioOut q dt) s =
      .next ((u.setSequencer q.val { u.seqNext q.val with freeAt := (u.sequencer q.val).freeAt + 1 }).setPin
        (u.seqWord q.val % 32) (hasBit (u.seqWord q.val) 5)) := by
  refine (seqRow_due hdark hu ((u.setSequencer q.val (u.seqNext q.val)).setPin (u.seqWord q.val % 32) (hasBit (u.seqWord q.val) 5)) 1 h
    (congrArg (·, 1) (if_pos ⟨hmode, howner⟩))).trans ?_
  rw [State.setSequencer_setPin, State.sequencer_setPin, State.setSequencer_setSequencer hwf, State.sequencer_setSequencer hwf]

theorem exec_gpioOut_passes (h : u.seqDue q.val 7) (hpin : u.fld F.SN_GPIO_MODE (u.seqWord q.val % 32) ≠ 3 ∨
    u.fld F.SN_GPIO_OWNER (u.seqWord q.val % 32) ≠ q.val) : exec (.gpioOut q dt) s =
      .next (u.setSequencer q.val { u.seqNext q.val with freeAt := (u.sequencer q.val).freeAt + 1 }) :=
  (seqRow hdark hu _).trans (congrArg _ (State.seqStep_of_set (z := u.seqNext q.val) h hwf
    (congrArg (·, 1) (if_neg (not_and_or.mpr hpin)))))

theorem exec_jump_due (h : u.seqDue q.val 6) : exec (.jump q dt) s = .next (u.setSequencer q.val { u.sequencer q.val with
    pc := u.seqWord q.val % 64, freeAt := (u.sequencer q.val).freeAt + 1 }) := by
  refine (seqRow_set hdark hu hwf h rfl).trans ?_
  rw [State.sequencer_setSequencer hwf]
  rfl

end

end

end Sys2Proof.Machine
end

section
/-! SUPPORT. The triggers of a micro-sequencer (R238), the pulses of GPIO pins (R239) and the drive role (R240). -/

namespace Sys2Proof.Machine

/-! ## Triggers -/

section
variable {s : State} {q src : Nat}

/-- R238: the sequencer, let go on by a trigger for which it waited. -/
def State.seqWoken (s : State) (q : Nat) : Sequencer :=
  { s.sequencer q with
    waiting := false, pc := ((s.sequencer q).pc + 1) % 64, freeAt := max (s.sequencer q).freeAt (s.portTime (seqPort q)) + 1 }

theorem State.trigger_wakes (hrun : (s.sequencer q).run = true) (hwait : (s.sequencer q).waiting = true) (hsrc : s.seqWord q % 64 = src) :
    s.trigger q src = s.setSequencer q (s.seqWoken q) := by
  refine if_pos ?_
  rw [State.seqWord] at hsrc
  simp [hrun, hwait, hsrc]

theorem State.trigger_named (hrun : (s.sequencer q).run = true) (hwait : (s.sequencer q).waiting = false)
    (hname : s.seqNames q src = true) :
    s.trigger q src = if (s.sequencer q).pend.contains src then s.bump F.SN_PORT_STATUS_TRIG_MISS (seqPort q)
      else s.setSequencer q { s.sequencer q with pend := (s.sequencer q).pend ++ [src] } := by
  refine (if_neg ?_).trans (if_pos ?_)
  · simp [hwait]
  · simp [hrun, hname]

end

section
variable {s u : State} {q : Fin 6} {dt : Nat} (hdark : s.coreDark = false) (hu : u = s.tickP (seqPort q.val) dt)
include hdark hu

theorem exec_sequencerTrigger_of_absent {k : BitVec 6} (hk : k.toNat < 32) (h : (u.sequencer q.val).arriving.contains k.toNat = false) :
    exec (.sequencerTrigger q k dt) s = .next u := by
  show execSequencerTrigger q k dt s = _
  rw [execSequencerTrigger, hdark, if_neg Bool.false_ne_true]
  dsimp only
  rw [← hu, if_pos hk, if_neg (Bool.eq_false_iff.mp h)]

theorem exec_sequencerTrigger_inBand {k : BitVec 6} (hk : k.toNat = 33) (hq : 4 ≤ q.val) (hon : u.portOn (seqPort q.val) = true) :
    exec (.sequencerTrigger q k dt) s = .next (u.trigger q.val 33) := by
  show execSequencerTrigger q k dt s = _
  rw [execSequencerTrigger, hdark, if_neg Bool.false_ne_true]
  dsimp only
  rw [← hu, hk, if_neg (by decide), if_pos rfl, if_pos ⟨hq, hon⟩]

/-- R238: a trigger for which the sequencer waits lets it go on, another is held, or missed where one is held. -/
theorem exec_sequencerTrigger_spec {k : BitVec 6} (hk : k.toNat = 33) (hq : 4 ≤ q.val) (hon : u.portOn (seqPort q.val) = true)
    (hrun : (u.sequencer q.val).run = true) :
    ((u.sequencer q.val).waiting = true → u.seqWord q.val % 64 = 33 →
      exec (.sequencerTrigger q k dt) s = .next (u.setSequencer q.val (u.seqWoken q.val))) ∧
    ((u.sequencer q.val).waiting = false → u.seqNames q.val 33 = true → (u.sequencer q.val).pend.contains 33 = false →
      exec (.sequencerTrigger q k dt) s =
        .next (u.setSequencer q.val { u.sequencer q.val with pend := (u.sequencer q.val).pend ++ [33] })) ∧
    ((u.sequencer q.val).waiting = false → u.seqNames q.val 33 = true → (u.sequencer q.val).pend.contains 33 = true →
      exec (.sequencerTrigger q k dt) s = .next (u.bump F.SN_PORT_STATUS_TRIG_MISS (seqPort q.val))) := by
  rw [exec_sequencerTrigger_inBand hdark hu hk hq hon]
  refine ⟨fun hwait hsrc => ?_, fun hwait hname hpend => ?_, fun hwait hname hpend => ?_⟩
  · rw [State.trigger_wakes hrun hwait hsrc]
  · rw [State.trigger_named hrun hwait hname, if_neg (Bool.eq_false_iff.mp hpend)]
  · rw [State.trigger_named hrun hwait hname, if_pos hpend]

/-- Table SN-7 source 32: the timer's period lets a sequencer that waits for it go on. -/
theorem exec_sequencerTimerExpiry_spec (hwf : spWf Sequencer.reset u.sensors.seqs = true) (hrun : (u.sequencer q.val).run = true)
    (hwait : (u.sequencer q.val).waiting = true) (hsrc : u.seqWord q.val % 64 = 32) (hperiod : u.fld F.SN_SEQ_CFG_PERIOD q.val ≠ 0) :
    exec (.sequencerTimerExpiry q dt) s =
      .next (if (u.sequencer q.val).timerAt + u.fld F.SN_SEQ_CFG_PERIOD q.val ≤ u.portTime (seqPort q.val) then
        u.setSequencer q.val { u.seqWoken q.val with timerAt := (u.sequencer q.val).timerAt + u.fld F.SN_SEQ_CFG_PERIOD q.val }
      else u) := by
  show execSequencerTimerExpiry q dt s = _
  rw [execSequencerTimerExpiry, hdark, if_neg Bool.false_ne_true]
  dsimp only
  rw [← hu]
  by_cases hdue : (u.sequencer q.val).timerAt + u.fld F.SN_SEQ_CFG_PERIOD q.val ≤ u.portTime (seqPort q.val)
  · have hsame := State.sequencer_setSequencer hwf q.val
      { u.sequencer q.val with timerAt := (u.sequencer q.val).timerAt + u.fld F.SN_SEQ_CFG_PERIOD q.val }
    rw [if_pos (by simp [hrun, hperiod, hdue]), if_pos hdue,
      State.trigger_wakes (by rwa [hsame]) (by rwa [hsame]) (by rwa [State.seqWord, hsame]), State.setSequencer_setSequencer hwf, State.seqWoken, hsame]
    rfl
  · rw [if_neg (by simp [hdue]), if_neg hdue]

end

/-! ## Pulses -/

section
variable {s u : State} {g : BitVec 5} {dt : Nat} (hdark : s.coreDark = false) (hu : u = s.tickP 26 dt)
include hdark hu

/-- R239: pin `p` drives its active level, for a pulse that begins in cycle `d`. -/
def State.pulsed (s : State) (p d : Nat) : State :=
  ({ s with sensors := { s.sensors with
      pulse := spSet 0 s.sensors.pulse p (d + s.fld F.SN_GPIO_WIDTH p + 1)
      pulseEnd := spSet 0 s.sensors.pulseEnd p (d + s.fld F.SN_GPIO_WIDTH p)
      offset := spSet 0 s.sensors.offset p 0 } } : State).setPin p (s.flag F.SN_GPIO_POL p)

/-- R239: the pulse of pin `p` is over, and the pin is back at its other level. -/
def State.pulseOver (s : State) (p : Nat) : State :=
  ({ s with sensors := { s.sensors with pulse := spSet 0 s.sensors.pulse p 0 } } : State).setPin p (!(s.flag F.SN_GPIO_POL p))

theorem exec_gpioFrameTrigger_idle (dr : Nat)
    (h : u.pulseDue g.toNat = none ∨ u.portOn 26 = false ∨ u.fld F.SN_GPIO_MODE g.toNat ≠ 2) :
    exec (.gpioFrameTrigger g dr dt) s = .next u := by
  show execGpioFrameTrigger g dr dt s = _
  rw [execGpioFrameTrigger, hdark, if_neg Bool.false_ne_true]
  dsimp only
  rw [← hu]
  cases hd : u.pulseDue g.toNat with
  | none => rfl
  | some d =>
    have hoff : u.portOn 26 = false ∨ u.fld F.SN_GPIO_MODE g.toNat ≠ 2 := h.resolve_left (by simp [hd])
    refine if_neg ?_
    rcases hoff with hoff | hmode
    · simp [hoff]
    · simp [hmode]

theorem exec_gpioFrameTrigger_due (dr : Nat) {d : Nat} (hd : u.pulseDue g.toNat = some d) (hon : u.portOn 26 = true)
    (hmode : u.fld F.SN_GPIO_MODE g.toNat = 2) :
    exec (.gpioFrameTrigger g dr dt) s = .next (if d ≤ u.portTime 26 then u.pulsed g.toNat d else u) := by
  show execGpioFrameTrigger g dr dt s = _
  rw [execGpioFrameTrigger, hdark, if_neg Bool.false_ne_true]
  dsimp only
  rw [← hu, hd, hon, hmode]
  by_cases hdue : d ≤ u.portTime 26
  · rw [if_pos hdue]
    exact if_pos (by simp [hdue])
  · rw [if_neg hdue]
    exact if_neg (by simp [hdue])

theorem exec_gpioPulseEnd_of_none (h : spGet 0 u.sensors.pulse g.toNat = 0) : exec (.gpioPulseEnd g dt) s = .next u := by
  show execGpioPulseEnd g dt s = _
  rw [execGpioPulseEnd, hdark, if_neg Bool.false_ne_true]
  dsimp only
  rw [← hu, h]

theorem exec_gpioPulseEnd_of_pulse {e : Nat} (h : spGet 0 u.sensors.pulse g.toNat = e + 1) :
    exec (.gpioPulseEnd g dt) s = .next (if e ≤ u.portTime 26 then u.pulseOver g.toNat else u) := by
  show execGpioPulseEnd g dt s = _
  rw [execGpioPulseEnd, hdark, if_neg Bool.false_ne_true]
  dsimp only
  rw [← hu, h]
  exact (apply_ite Host.Outcome.next ..).symm

end

section
variable {s : State} {p d : Nat} (hpulse : spWf 0 s.sensors.pulse = true) (hgpio : spWf false s.sensors.gpio = true)
include hpulse hgpio

/-- R239: a pulse begun. -/
theorem State.pulsed_spec (hend : spWf 0 s.sensors.pulseEnd = true) (hoffset : spWf 0 s.sensors.offset = true) :
    (s.pulsed p d).regs = s.regs ∧ spGet 0 (s.pulsed p d).sensors.pulse p = d + s.fld F.SN_GPIO_WIDTH p + 1 ∧
      (s.pulsed p d).pulseDue p = none ∧ spGet 0 (s.pulsed p d).sensors.pulseEnd p = d + s.fld F.SN_GPIO_WIDTH p ∧
      spGet false (s.pulsed p d).sensors.gpio p = s.flag F.SN_GPIO_POL p ∧ (s.pulsed p d).mem = s.mem := by
  have hcount : spGet 0 (s.pulsed p d).sensors.offset p = 0 := spGet_spSet_same _ _ _ _ hoffset
  refine ⟨rfl, spGet_spSet_same _ _ _ _ hpulse, ?_, spGet_spSet_same _ _ _ _ hend, spGet_spSet_same _ _ _ _ hgpio, rfl⟩
  rw [State.pulseDue, hcount]

theorem State.pulseOver_spec : spGet 0 (s.pulseOver p).sensors.pulse p = 0 ∧
    spGet false (s.pulseOver p).sensors.gpio p = !(s.flag F.SN_GPIO_POL p) ∧ (s.pulseOver p).regs = s.regs ∧
    (s.pulseOver p).mem = s.mem :=
  ⟨spGet_spSet_same _ _ _ _ hpulse, spGet_spSet_same _ _ _ _ hgpio, rfl, rfl⟩

end

/-! ## The drive role -/

/-- R240: the DRIVE port begins to transmit record `r`, the first of its queue. -/
def State.driveBegun (s : State) (n : Nat) (x : DriveRec) (rest : List DriveRec) : State :=
  let t := s.setDriveQueue n ({ x with started := some (s.portTime n) } :: rest)
  { t with sensors := { t.sensors with wire := spSet [] t.sensors.wire n (s.driveFrame n x.record) } }

section
variable {s u : State} {n : SensorPort} {dt : Nat} (hdark : s.coreDark = false) (hu : u = s.tickP n.val dt)
include hdark hu

theorem exec_driveTransmit_of_nil (h : u.driveQueue n.val = []) : exec (.driveTransmit n dt) s = .next u := by
  show execDriveTransmit n dt s = _
  rw [execDriveTransmit, hdark, if_neg Bool.false_ne_true]
  dsimp only
  rw [← hu, h]

theorem exec_driveTransmitEnd_of_nil (rx : List Byte) (h : u.driveQueue n.val = []) : exec (.driveTransmitEnd n rx dt) s = .next u := by
  show execDriveTransmitEnd n rx dt s = _
  rw [execDriveTransmitEnd, hdark, if_neg Bool.false_ne_true]
  dsimp only
  rw [← hu, h]

section
variable {x : DriveRec} {rest : List DriveRec} (hqueue : u.driveQueue n.val = x :: rest)
include hqueue

theorem exec_driveTransmit_of_cons : exec (.driveTransmit n dt) s =
    .next (if x.started = none ∧ u.flag F.SN_PORT_CFG_ROLE n.val = true ∧ u.flag F.FB_STATUS_REPLAYING = false then
      u.driveBegun n.val x rest else u) := by
  show execDriveTransmit n dt s = _
  rw [execDriveTransmit, hdark, if_neg Bool.false_ne_true]
  dsimp only
  rw [← hu, hqueue, apply_ite Host.Outcome.next]
  exact if_congr (by simp [and_assoc]) rfl rfl

theorem exec_driveTransmitEnd_of_idle (rx : List Byte) (h : x.started = none) : exec (.driveTransmitEnd n rx dt) s = .next u := by
  show execDriveTransmitEnd n rx dt s = _
  rw [execDriveTransmitEnd, hdark, if_neg Bool.false_ne_true]
  dsimp only
  rw [← hu, hqueue]
  dsimp only
  rw [h]

theorem exec_driveTransmitEnd_of_begun (rx : List Byte) (h : x.started ≠ none)
    (hport : n.val < 18 ∨ 22 ≤ n.val ∨ u.portOn n.val = false) :
    exec (.driveTransmitEnd n rx dt) s = .next (u.setDriveQueue n.val rest) := by
  obtain ⟨t, ht⟩ := Option.ne_none_iff_exists'.mp h
  show execDriveTransmitEnd n rx dt s = _
  rw [execDriveTransmitEnd, hdark, if_neg Bool.false_ne_true]
  dsimp only
  rw [← hu, hqueue]
  dsimp only
  rw [ht]
  refine if_neg fun ⟨hlo, hhi, hon⟩ => ?_
  rcases hport with h | h | h
  · omega
  · omega
  · exact Bool.false_ne_true (h.symm.trans hon)

end

end

theorem State.driveBegun_spec (s : State) (n : Nat) (x : DriveRec) (rest : List DriveRec) (hframe : s.driveFrame n x.record ≠ []) :
    (s.driveBegun n x rest).driveQueue n = { x with started := some (s.portTime n) } :: rest ∧ (s.driveBegun n x rest).regs = s.regs ∧
      (s.driveBegun n x rest).mem = s.mem ∧ spGet [] (s.driveBegun n x rest).sensors.wire n = s.driveFrame n x.record :=
  ⟨spGet_spSet_same_of_ne _ _ _ (List.cons_ne_nil _ _), rfl, rfl, spGet_spSet_same_of_ne _ _ _ hframe⟩

/-! ## The statement -/

/-- Settles O35: an instruction that is due changes its sequencer alone, but for GPIO_OUT's pin and EMIT's sample. -/
theorem sequencersRunTheirPrograms : Obligations.SequencersRunTheirPrograms := by
  intro s hdark hseqs
  refine ⟨fun q dt w at' rx u x hu hx hw hat => ?_, fun g dr dt u hu hpulse hend hoffset hgpio => ?_, fun n rx dt u hu => ?_⟩
  · have hwf : spWf Sequencer.reset u.sensors.seqs = true := by rw [hu]; exact hseqs
    subst hx hw hat
    refine ⟨exec_seqRow_idle hdark hu rx, fun hrun hfree hat => ?_, fun k => exec_sequencerTrigger_of_absent hdark hu,
      fun k hk hq hon hrun => exec_sequencerTrigger_spec hdark hu hk hq hon hrun, fun hrun hwait hsrc hperiod => ?_⟩
    · have hdue {op : Nat} (hop : seqOp (u.seqWord q.val) = op) : u.seqDue q.val op := ⟨hrun, hfree, hop, hat⟩
      refine ⟨fun h => exec_halt_due hdark hu hwf (hdue h), fun h => exec_waitTrig_takes hdark hu hwf (hdue h),
        fun h => exec_waitTrig_waits hdark hu hwf (hdue h), fun h => exec_stamp_due hdark hu hwf (hdue h), fun h => ?_,
        fun h => exec_delay_due hdark hu hwf (hdue h), fun a b h => exec_emit_due hdark hu hwf (hdue h),
        fun h => exec_jump_due hdark hu hwf (hdue h), fun h => exec_gpioOut_drives hdark hu hwf (hdue h),
        fun h => exec_gpioOut_passes hdark hu hwf (hdue h)⟩
      refine ⟨_, exec_xfer_due hdark hu hwf rx (hdue h), ?_⟩
      rw [State.sequencer_setSequencer hwf]
      exact ⟨rfl, rfl, rfl, rfl, u.take_xferBuf_of_off q.val rx, u.take_xferBuf_of_on q.val, u.xferSent q.val (u.seqWord q.val), rfl,
        u.length_xferSent ..⟩
    · rw [exec_sequencerTimerExpiry_spec hdark hu hwf hrun hwait hsrc hperiod]
      exact ⟨fun hdue => by rw [if_pos hdue]; rfl, fun hearly => by rw [if_neg (Nat.not_le.mpr hearly)]⟩
  · have hsensors : u.sensors = s.sensors := by rw [hu]; rfl
    have hregs : u.regs = s.regs := by rw [hu]; rfl
    have hmem : u.mem = s.mem := by rw [hu]; rfl
    rw [← hsensors] at hpulse hend hoffset hgpio
    rw [← hregs, ← hmem]
    refine ⟨exec_gpioFrameTrigger_idle hdark hu dr, fun d hd hon hmode => ?_, exec_gpioPulseEnd_of_none hdark hu, fun e he => ?_⟩
    · rw [exec_gpioFrameTrigger_due hdark hu dr hd hon hmode]
      exact ⟨fun hdue => ⟨_, by rw [if_pos hdue], State.pulsed_spec hpulse hgpio hend hoffset⟩,
        fun hearly => by rw [if_neg (Nat.not_le.mpr hearly)]⟩
    · rw [exec_gpioPulseEnd_of_pulse hdark hu he]
      exact ⟨fun hdue => ⟨_, by rw [if_pos hdue], State.pulseOver_spec hpulse hgpio⟩,
        fun hearly => by rw [if_neg (Nat.not_le.mpr hearly)]⟩
  · have hregs : u.regs = s.regs := by rw [hu]; rfl
    have hmem : u.mem = s.mem := by rw [hu]; rfl
    rw [← hregs, ← hmem]
    refine ⟨fun h => ⟨exec_driveTransmit_of_nil hdark hu h, exec_driveTransmitEnd_of_nil hdark hu rx h⟩, fun x rest hqueue =>
      ⟨fun hstart hrole hlive hframe => ⟨_, ?_, State.driveBegun_spec u n.val x rest hframe⟩, fun hnot => ?_,
        exec_driveTransmitEnd_of_idle hdark hu hqueue rx, exec_driveTransmitEnd_of_begun hdark hu hqueue rx⟩⟩
    · rw [exec_driveTransmit_of_cons hdark hu hqueue, if_pos ⟨hstart, hrole, hlive⟩]
    · rw [exec_driveTransmit_of_cons hdark hu hqueue, if_neg]
      rintro ⟨hstart, hrole, hlive⟩
      rcases hnot with h | h | h
      · exact h hstart
      · exact Bool.false_ne_true (h.symm.trans hrole)
      · exact Bool.false_ne_true (hlive.symm.trans h)

end Sys2Proof.Machine
end

section
/-! SUPPORT. The publication of a finished sample: its slot, its ring buffer and its header (R20, R233, R234, Table SN-5). -/

namespace Sys2Proof.Machine

/-! ## Ranges of memory -/

section
variable {s t : State} {a n : Nat}

theorem State.rdBytes_congr (h : ∀ k, k < n → t.rdByte (a + k) = s.rdByte (a + k)) : t.rdBytes a n = s.rdBytes a n := by
  refine List.ext_getElem (by rw [State.length_rdBytes, State.length_rdBytes]) fun k hk hk' => ?_
  have hkn : k < n := by rwa [State.length_rdBytes] at hk
  have hbyte := h k hkn
  rw [← State.getD_rdBytes t a hkn, ← State.getD_rdBytes s a hkn] at hbyte
  simpa [List.getD_eq_getElem?_getD, State.length_rdBytes, hkn] using hbyte

theorem State.rdBytes_of_mem (hmem : t.mem = s.mem) (htested : t.bring.tested = s.bring.tested) (a n : Nat) :
    t.rdBytes a n = s.rdBytes a n := State.rdBytes_congr fun _ _ => State.rdByte_congr hmem htested _

theorem State.rdBytes_wrMarked_outside (h : Memory.wf s.mem) {b : Nat} {bs : List Byte} (p : Bool)
    (hsep : a + n ≤ b ∨ b + bs.length ≤ a) : (s.wrMarked b bs p).rdBytes a n = s.rdBytes a n :=
  State.rdBytes_congr fun k hk => State.rdByte_wrMarked_outside h b bs p (by omega)

/-- Two strings written one after the other read back each in its place. -/
theorem State.rdBytes_wrMarked_append (h : Memory.wf s.mem) (a : Nat) (bs cs : List Byte) (p : Bool) :
    (s.wrMarked a (bs ++ cs) p).rdBytes a bs.length = bs ∧ (s.wrMarked a (bs ++ cs) p).rdBytes (a + bs.length) cs.length = cs := by
  have hall := State.rdBytes_wrMarked_same h a (bs ++ cs) p
  have hlen : bs.length + cs.length ≤ (bs ++ cs).length := by rw [List.length_append]
  refine ⟨?_, ?_⟩
  · rw [← Nat.add_zero a, State.rdBytes_part _ a (by omega : 0 + bs.length ≤ (bs ++ cs).length), Nat.add_zero, hall, List.drop_zero,
      List.take_left']
    rfl
  · rw [State.rdBytes_part _ a hlen, hall, List.drop_left' rfl, List.take_length]

end

/-! ## The registers of a stream -/

theorem RegArr.base_le_key (r : RegArr) (i : Nat) : r.unit * 0x1000000 + r.off ≤ r.key i := by
  unfold RegArr.key
  omega

theorem portStatus_key_lt (n : Nat) : R.SN_PORT_STATUS.key n < 0x5000200 := by
  simp only [RegArr.key, R.SN_PORT_STATUS]
  omega

/-- The fields that a publication reads, and its counter. -/
def sampleFields (i : Nat) : List (RegField × Nat) :=
  [(F.SN_STREAM_A_PORT, i), (F.SN_STREAM_A_BUFS, i), (F.SN_STREAM_B_BUF_UNITS, i), (F.SN_STREAM_B_RING_BASE, i),
    (F.SN_STREAM_CNT_PUBLISHED, i), (F.SP_FRAME_NUM_NUM, 0), (F.FB_STATUS_REPLAYING, 0)]

/-- The registers that a publication reads stand. -/
def State.keepsSample (s t : State) (i : Nat) : Prop := ∀ f ∈ sampleFields i, t.fld f.1 f.2 = s.fld f.1 f.2

/-- R236: an urgency level is shown beside the registers of every stream. -/
theorem State.keepsSample_setUrgency {s : State} (hregs : s.regsWf) (n i : Nat) : s.keepsSample (s.setUrgency n) i := by
  have hlow : R.SN_PORT_STATUS.key n < 0x5000200 := portStatus_key_lt n
  have hhigh : 0x5000100 ≤ R.SN_PORT_STATUS.key n := RegArr.base_le_key R.SN_PORT_STATUS n
  have hsep {g : RegField} (j : Nat) (hg : g.reg.key j < 0x5000100 ∨ 0x5000200 ≤ g.reg.key j) :
      (s.setUrgency n).fld g j = s.fld g j :=
    State.fld_setFld_sep hregs _ (.inl fun (he : R.SN_PORT_STATUS.key n = g.reg.key j) => by omega)
  have ha : 0x5000200 ≤ R.SN_STREAM_A.key i := RegArr.base_le_key R.SN_STREAM_A i
  have hb : 0x5000200 ≤ R.SN_STREAM_B.key i := le_trans (by decide) (RegArr.base_le_key R.SN_STREAM_B i)
  have hc : 0x5000200 ≤ R.SN_STREAM_CNT.key i := le_trans (by decide) (RegArr.base_le_key R.SN_STREAM_CNT i)
  simp only [State.keepsSample, sampleFields, List.forall_mem_cons]
  exact ⟨hsep i (.inr ha), hsep i (.inr ha), hsep i (.inr hb), hsep i (.inr hb), hsep i (.inr hc), hsep 0 (.inl (by decide)),
    hsep 0 (.inr (by decide)), by simp⟩

/-- Table SN-5: the header as bytes. -/
def State.headerBytes (s : State) (i : Nat) (x : Sample) : List Byte := leBytes 64 (s.sampleHeader i x)

theorem State.length_headerBytes (s : State) (i : Nat) (x : Sample) : (s.headerBytes i x).length = 64 := length_leBytes ..

namespace State.keepsSample

variable {s t : State} {i : Nat} (h : s.keepsSample t i)
include h

theorem port : t.fld F.SN_STREAM_A_PORT i = s.fld F.SN_STREAM_A_PORT i := h (F.SN_STREAM_A_PORT, i) (by simp [sampleFields])
theorem published : t.fld F.SN_STREAM_CNT_PUBLISHED i = s.fld F.SN_STREAM_CNT_PUBLISHED i :=
  h (F.SN_STREAM_CNT_PUBLISHED, i) (by simp [sampleFields])
theorem replaying : t.flag F.FB_STATUS_REPLAYING = s.flag F.FB_STATUS_REPLAYING :=
  congrArg (· != 0) (h (F.FB_STATUS_REPLAYING, 0) (by simp [sampleFields]))
theorem inline : t.inline i = s.inline i := congrArg (· == 0) (h (F.SN_STREAM_B_BUF_UNITS, i) (by simp [sampleFields]))

theorem ringBuffer (seq : Nat) : t.ringBuffer i seq = s.ringBuffer i seq := by
  have hunits := h (F.SN_STREAM_B_BUF_UNITS, i) (by simp [sampleFields])
  have hbase := h (F.SN_STREAM_B_RING_BASE, i) (by simp [sampleFields])
  have hbufs := h (F.SN_STREAM_A_BUFS, i) (by simp [sampleFields])
  dsimp only at hunits hbase hbufs
  rw [State.ringBuffer, State.ringBuffer, hunits, hbase, hbufs]

theorem ringNext (seq len left : Nat) : t.ringNext i seq len left = s.ringNext i seq len left := by
  rw [State.ringNext, h.ringBuffer, State.ringNext]

theorem sampleHeader (x : Sample) : t.sampleHeader i x = s.sampleHeader i x := by
  have hframe : t.frameNum = s.frameNum := h (F.SP_FRAME_NUM_NUM, 0) (by simp [sampleFields])
  simp only [State.sampleHeader, h.port, h.inline, h.ringBuffer, hframe]

theorem headerBytes (x : Sample) : t.headerBytes i x = s.headerBytes i x := congrArg (leBytes 64) (h.sampleHeader x)

end State.keepsSample

/-! ## The publication -/

/-- The oldest finished sample leaves the stream, whose others are `rest`. -/
def State.sampleTaken (s : State) (i : Nat) (rest : List Sample) : State :=
  (s.setStream' i { s.stream' i with ready := rest }).setUrgency (s.fld F.SN_STREAM_A_PORT i)

/-- R234: what was left of the payload of a ring sample and the copy of its header, in its ring buffer. -/
def State.ringFilled (s : State) (i : Nat) (x : Sample) : State :=
  (s.ringMove (s.ringNext i x.seq x.len x.bytes.length) x.bytes).ringMove (s.ringBuffer i x.seq) (s.headerBytes i x)

/-- R233: the slot's buffer that is not published takes `bs`. -/
def State.slotWritten (s : State) (i : Nat) (bs : List Byte) : State := s.wrMarked (slotBuffer i (s.backOf (.stream i))) bs false

/-- R20, R219, R235: the slot flips, and the publication of `h` with `x` is counted and recorded. -/
def State.sampleShown (s : State) (i n : Nat) (h : List Byte) (buf : Nat) (x : Sample) : State :=
  let s := (s.flip (.stream i)).bump F.SN_STREAM_CNT_PUBLISHED i
  let data := if s.inline i then x.bytes else s.rdBytes (buf + 64) x.len
  let s := if s.flag F.FB_STATUS_RECORDING && !s.inline i then s.classLines 0 3 (linesOf 0 x.len) else s
  s.record 0x04 i (h ++ data) (0x20 + n)

/-- R233, R234: sample `x` of a stream on port `n` is published. -/
def State.samplePublished (s : State) (i n : Nat) (x : Sample) : State :=
  let t := if s.inline i then s else s.ringFilled i x
  (t.slotWritten i (if t.inline i then s.headerBytes i x ++ x.bytes else s.headerBytes i x)).sampleShown i n (s.headerBytes i x)
    (s.ringBuffer i x.seq) x

section
variable {s : State} {i : Nat}

theorem State.publishSample_of_nil (h : (s.stream' i).ready = []) : s.publishSample i = s := by
  rw [State.publishSample, h]

variable {x : Sample} {rest : List Sample}

theorem State.publishSample_of_cons (h : (s.stream' i).ready = x :: rest) : s.publishSample i =
    if (s.sampleTaken i rest).flag F.FB_STATUS_REPLAYING then s.sampleTaken i rest
    else (s.sampleTaken i rest).samplePublished i (s.fld F.SN_STREAM_A_PORT i) x := by
  rw [State.publishSample, h]
  rfl

theorem State.samplePublished_of_inline (n : Nat) (hin : s.inline i = true) : s.samplePublished i n x =
    (s.slotWritten i (s.headerBytes i x ++ x.bytes)).sampleShown i n (s.headerBytes i x) (s.ringBuffer i x.seq) x := by
  rw [State.samplePublished, if_pos hin, if_pos hin]

variable (hregs : s.regsWf)
include hregs

theorem State.keepsSample_sampleTaken : s.keepsSample (s.sampleTaken i rest) i :=
  State.keepsSample_setUrgency (s := s.setStream' i { s.stream' i with ready := rest }) hregs _ i

theorem State.publishSample_of_replay (h : (s.stream' i).ready = x :: rest) (hreplay : s.flag F.FB_STATUS_REPLAYING = true) :
    s.publishSample i = s.sampleTaken i rest := by
  rw [State.publishSample_of_cons h, (State.keepsSample_sampleTaken hregs).replaying, if_pos hreplay]

theorem State.publishSample_of_live (h : (s.stream' i).ready = x :: rest) (hlive : s.flag F.FB_STATUS_REPLAYING = false) :
    s.publishSample i = (s.sampleTaken i rest).samplePublished i (s.fld F.SN_STREAM_A_PORT i) x := by
  rw [State.publishSample_of_cons h, (State.keepsSample_sampleTaken hregs).replaying, if_neg (Bool.eq_false_iff.mp hlive)]

theorem State.inline_ringMove (a : Nat) (bs : List Byte) : (s.ringMove a bs).inline i = s.inline i := by
  have hkey : R.SP_CLASS_LINES.key 1 < R.SN_STREAM_B.key i := lt_of_lt_of_le (by decide) (RegArr.base_le_key R.SN_STREAM_B i)
  exact congrArg (· == 0) (State.fld_setFld_sep (s := s.wrMarked a bs false) (f := F.SP_CLASS_LINES_LINES) (g := F.SN_STREAM_B_BUF_UNITS)
    hregs _ (.inl hkey.ne))

theorem State.regsWf_ringMove (a : Nat) (bs : List Byte) : (s.ringMove a bs).regsWf :=
  State.regsWf_count (s := s.wrMarked a bs false) hregs F.SP_CLASS_LINES_LINES 1 _

theorem State.samplePublished_of_ring (n : Nat) (hin : s.inline i = false) : s.samplePublished i n x =
    ((s.ringFilled i x).slotWritten i (s.headerBytes i x)).sampleShown i n (s.headerBytes i x) (s.ringBuffer i x.seq) x := by
  have hfilled : (s.ringFilled i x).inline i = false := by
    rw [State.ringFilled, State.inline_ringMove (State.regsWf_ringMove hregs ..), State.inline_ringMove hregs, hin]
  rw [State.samplePublished, if_neg (Bool.eq_false_iff.mp hin), if_neg (Bool.eq_false_iff.mp hfilled)]

end

/-! ## What a publication shows -/

/-- What a publication of stream `i`, whose slot and ring buffer `s` holds, leaves: memory stands, the slot flips. -/
theorem State.sampleShown_spec {s : State} (hstreams : spWf StreamUnit.reset s.sensors.streams = true) (i n : Nat)
    (h : List Byte) (buf : Nat) (x : Sample) : (s.sampleShown i n h buf x).mem = s.mem ∧ (s.sampleShown i n h buf x).bring = s.bring ∧
      (s.sampleShown i n h buf x).stream' i = { s.stream' i with side := s.backOf (.stream i) + 1 } := by
  unfold State.sampleShown
  extract_lets flipped data counted
  obtain ⟨k, hk⟩ := counted.recordAt_eq counted.acyc 0x04 i (h ++ data) (0x20 + n)
  rw [State.record, hk]
  have hcounted : counted.mem = s.mem ∧ counted.bring = s.bring ∧ counted.sensors = flipped.sensors := by
    unfold counted
    split
    · exact ⟨rfl, rfl, rfl⟩
    · exact ⟨rfl, rfl, rfl⟩
  obtain ⟨hmem, hbring, hsensors⟩ := hcounted
  refine ⟨hmem, hbring, ?_⟩
  show spGet StreamUnit.reset counted.sensors.streams i = _
  rw [hsensors]
  exact spGet_spSet_same _ _ _ _ hstreams

/-- The counter of an inline sample's publication, which moves no line of DDR4. -/
theorem State.published_sampleShown {s : State} (hregs : s.regsWf) (i n : Nat) (h : List Byte) (buf : Nat) (x : Sample)
    (hin : s.inline i = true) : (s.sampleShown i n h buf x).fld F.SN_STREAM_CNT_PUBLISHED i =
      min (2 ^ F.SN_STREAM_CNT_PUBLISHED.w - 1) (s.fld F.SN_STREAM_CNT_PUBLISHED i + 1) := by
  unfold State.sampleShown
  extract_lets flipped data counted
  have hkey : R.SN_STREAM_CNT.key i ≠ R.SN_STREAM_B.key i := by
    simp only [RegArr.key, R.SN_STREAM_CNT, R.SN_STREAM_B]
    omega
  have hin' : flipped.inline i = true := (congrArg (· == 0) (State.fld_setFld_sep (s := s.flip (.stream i))
    (f := F.SN_STREAM_CNT_PUBLISHED) (g := F.SN_STREAM_B_BUF_UNITS) hregs _ (.inl hkey))).trans hin
  have hcounted : counted = flipped := if_neg (by rw [hin', Bool.not_true, Bool.and_false]; decide)
  obtain ⟨k, hk⟩ := counted.recordAt_eq counted.acyc 0x04 i (h ++ data) (0x20 + n)
  rw [State.record, hk, hcounted]
  exact State.fld_bump_same (s := s.flip (.stream i)) hregs F.SN_STREAM_CNT_PUBLISHED i 1 (by decide)

/-! ## What a publication writes -/

theorem ddrSize_le_slotBuffer (i b : Nat) : ddrSize ≤ slotBuffer i b := by
  unfold ddrSize slotBuffer datumBase
  omega

/-- R20: in `r` the slot of stream `i` has taken `bs` in its buffer `b`, which is published; beside that memory is as in `t`. -/
structure State.publishes (t : State) (i b : Nat) (bs : List Byte) (r : State) : Prop where
  unit  : r.stream' i = { t.stream' i with side := b + 1 }
  bytes : ∀ a m, r.rdBytes a m = (t.wrMarked (slotBuffer i b) bs false).rdBytes a m
  byte  : ∀ y, r.rdByte y = (t.wrMarked (slotBuffer i b) bs false).rdByte y

theorem State.publishes_slotShown {t : State} {i b : Nat} (hstreams : spWf StreamUnit.reset t.sensors.streams = true)
    (hb : t.backOf (.stream i) = b) (n : Nat) (bs h : List Byte) (buf : Nat) (x : Sample) :
    t.publishes i b bs ((t.slotWritten i bs).sampleShown i n h buf x) := by
  subst hb
  obtain ⟨hshown, hbring, hunit⟩ := State.sampleShown_spec (s := t.slotWritten i bs) hstreams i n h buf x
  have htested := congrArg (·.tested) hbring
  exact ⟨hunit, State.rdBytes_of_mem hshown htested, State.rdByte_congr hshown htested⟩

section
variable {s : State} {i : Nat} {x : Sample}

theorem State.rdBytes_ringMove (a : Nat) (bs : List Byte) (b n : Nat) :
    (s.ringMove a bs).rdBytes b n = (s.wrMarked a bs false).rdBytes b n :=
  State.rdBytes_of_mem rfl rfl b n

theorem State.memWf_ringMove (h : Memory.wf s.mem) (a : Nat) (bs : List Byte) : Memory.wf (s.ringMove a bs).mem :=
  State.memWf_wrMarked h a bs false

theorem State.ringMove_sensors (a : Nat) (bs : List Byte) : (s.ringMove a bs).sensors = s.sensors := rfl

theorem State.ringFilled_sensors : (s.ringFilled i x).sensors = s.sensors := by
  rw [State.ringFilled, State.ringMove_sensors, State.ringMove_sensors]

theorem State.stream'_ringFilled (k : Nat) : (s.ringFilled i x).stream' k = s.stream' k := by
  rw [State.stream', State.ringFilled_sensors, State.stream']

theorem State.backOf_ringFilled (k : Nat) : (s.ringFilled i x).backOf (.stream k) = s.backOf (.stream k) := by
  rw [State.backOf, State.sideAt, State.stream'_ringFilled]
  rfl

/-- R234: the ring buffer holds the header copy, and past it what was left of the payload. -/
theorem State.ringFilled_spec (hmem : Memory.wf s.mem) :
    (s.ringFilled i x).rdBytes (s.ringBuffer i x.seq) 64 = s.headerBytes i x ∧
      (s.ringFilled i x).rdBytes (s.ringNext i x.seq x.len x.bytes.length) x.bytes.length = x.bytes := by
  have hlen := s.length_headerBytes i x
  have hmoved := State.memWf_ringMove hmem (s.ringNext i x.seq x.len x.bytes.length) x.bytes
  have hpast : s.ringBuffer i x.seq + 64 ≤ s.ringNext i x.seq x.len x.bytes.length := Nat.le_add_right ..
  refine ⟨?_, ?_⟩
  · rw [State.ringFilled, State.rdBytes_ringMove, ← hlen, State.rdBytes_wrMarked_same hmoved]
  · rw [State.ringFilled, State.rdBytes_ringMove, State.rdBytes_wrMarked_outside hmoved _ (.inr (hlen ▸ hpast)), State.rdBytes_ringMove,
      State.rdBytes_wrMarked_same hmem]

end

section
variable {s : State} {i : Nat} {x : Sample} {rest : List Sample}

theorem State.regsWf_sampleTaken (hregs : s.regsWf) : (s.sampleTaken i rest).regsWf :=
  State.regsWf_setFld (s := s.setStream' i { s.stream' i with ready := rest }) hregs _ _ _

variable (hstreams : spWf StreamUnit.reset s.sensors.streams = true)
include hstreams

theorem State.stream'_sampleTaken : (s.sampleTaken i rest).stream' i = { s.stream' i with ready := rest } :=
  spGet_spSet_same _ _ _ _ hstreams

theorem State.backOf_sampleTaken : (s.sampleTaken i rest).backOf (.stream i) = s.backOf (.stream i) := by
  rw [State.backOf, State.sideAt, State.stream'_sampleTaken hstreams]
  rfl

variable (hregs : s.regsWf) (h : (s.stream' i).ready = x :: rest) (hlive : s.flag F.FB_STATUS_REPLAYING = false)
include hregs h hlive

/-- R233: an inline sample stands in the slot whole, and its publication is counted. -/
theorem State.publishSample_inline (hin : s.inline i = true) :
    (s.sampleTaken i rest).publishes i (s.backOf (.stream i)) (s.headerBytes i x ++ x.bytes) (s.publishSample i) ∧
      (s.publishSample i).fld F.SN_STREAM_CNT_PUBLISHED i =
        min (2 ^ F.SN_STREAM_CNT_PUBLISHED.w - 1) (s.fld F.SN_STREAM_CNT_PUBLISHED i + 1) := by
  have hkept : s.keepsSample (s.sampleTaken i rest) i := State.keepsSample_sampleTaken hregs
  have hin' : (s.sampleTaken i rest).inline i = true := hkept.inline.trans hin
  rw [State.publishSample_of_live hregs h hlive, State.samplePublished_of_inline _ hin', hkept.headerBytes]
  refine ⟨State.publishes_slotShown (spWf_spSet hstreams _ _) (State.backOf_sampleTaken hstreams) .., ?_⟩
  rw [← hkept.published]
  exact State.published_sampleShown (s := (s.sampleTaken i rest).slotWritten i (s.headerBytes i x ++ x.bytes))
    (State.regsWf_sampleTaken hregs) _ _ _ _ _ hin'

/-- R234: the slot of a ring sample takes the header alone. -/
theorem State.publishSample_ring (hin : s.inline i = false) :
    ((s.sampleTaken i rest).ringFilled i x).publishes i (s.backOf (.stream i)) (s.headerBytes i x) (s.publishSample i) := by
  have hkept : s.keepsSample (s.sampleTaken i rest) i := State.keepsSample_sampleTaken hregs
  rw [State.publishSample_of_live hregs h hlive,
    State.samplePublished_of_ring (State.regsWf_sampleTaken hregs) _ (hkept.inline.trans hin), hkept.headerBytes]
  refine State.publishes_slotShown ?_ ?_ ..
  · rw [State.ringFilled_sensors]
    exact spWf_spSet hstreams _ _
  · rw [State.backOf_ringFilled, State.backOf_sampleTaken hstreams]

end

section
variable {s : State} {i : Nat} {x : Sample} {rest : List Sample} (hs : s.canonical)
  (hstreams : spWf StreamUnit.reset s.sensors.streams = true) (h : (s.stream' i).ready = x :: rest)
  (hlive : s.flag F.FB_STATUS_REPLAYING = false)
include hs hstreams h hlive

/-- R233, Table SN-5: what an inline sample leaves in memory. -/
theorem State.publishSample_inline_spec (hin : s.inline i = true) :
    ((s.publishSample i).stream' i).side = s.backOf (.stream i) + 1 ∧ ((s.publishSample i).stream' i).ready = rest ∧
      (s.publishSample i).rdBytes (slotBuffer i (s.backOf (.stream i))) 64 = leBytes 64 (s.sampleHeader i x) ∧
      (s.publishSample i).rdBytes (slotBuffer i (s.backOf (.stream i)) + 64) x.bytes.length = x.bytes ∧
      (s.publishSample i).fld F.SN_STREAM_CNT_PUBLISHED i =
        min (2 ^ F.SN_STREAM_CNT_PUBLISHED.w - 1) (s.fld F.SN_STREAM_CNT_PUBLISHED i + 1) ∧
      ∀ y, (y < slotBuffer i (s.backOf (.stream i)) ∨ slotBuffer i (s.backOf (.stream i)) + 64 + x.bytes.length ≤ y) →
        (s.publishSample i).rdByte y = s.rdByte y := by
  obtain ⟨⟨hunit, hbytes, hbyte⟩, hcount⟩ := State.publishSample_inline hstreams hs.regs h hlive hin
  obtain ⟨hhead, htail⟩ := State.rdBytes_wrMarked_append (s := s.sampleTaken i rest) hs.mem (slotBuffer i (s.backOf (.stream i)))
    (s.headerBytes i x) x.bytes false
  have hlen := s.length_headerBytes i x
  rw [hlen] at hhead htail
  refine ⟨by rw [hunit], by rw [hunit, State.stream'_sampleTaken hstreams], (hbytes ..).trans hhead, (hbytes ..).trans htail, hcount,
    fun y hy => (hbyte y).trans (State.rdByte_wrMarked_outside (s := s.sampleTaken i rest) hs.mem _ _ _ ?_)⟩
  rwa [List.length_append, hlen, ← Nat.add_assoc]

/-- R233, R234, Table SN-5: what a ring sample leaves in memory. -/
theorem State.publishSample_ring_spec (hin : s.inline i = false) (hleft : x.bytes.length ≤ x.len)
    (hroom : s.ringBuffer i x.seq + 64 + x.len ≤ ddrSize) :
    ((s.publishSample i).stream' i).side = s.backOf (.stream i) + 1 ∧ ((s.publishSample i).stream' i).ready = rest ∧
      (s.publishSample i).rdBytes (slotBuffer i (s.backOf (.stream i))) 64 = leBytes 64 (s.sampleHeader i x) ∧
      (s.publishSample i).rdBytes (s.ringBuffer i x.seq) 64 = leBytes 64 (s.sampleHeader i x) ∧
      (s.publishSample i).rdBytes (s.ringNext i x.seq x.len x.bytes.length) x.bytes.length = x.bytes := by
  have hkept : s.keepsSample (s.sampleTaken i rest) i := State.keepsSample_sampleTaken hs.regs
  obtain ⟨hunit, hbytes, -⟩ := State.publishSample_ring hstreams hs.regs h hlive hin
  obtain ⟨hcopy, hpayload⟩ := State.ringFilled_spec (s := s.sampleTaken i rest) (i := i) (x := x) hs.mem
  rw [hkept.ringBuffer, hkept.headerBytes] at hcopy
  rw [hkept.ringNext] at hpayload
  have hmem : Memory.wf ((s.sampleTaken i rest).ringFilled i x).mem :=
    State.memWf_ringMove (State.memWf_ringMove (s := s.sampleTaken i rest) hs.mem ..) ..
  have hslot := ddrSize_le_slotBuffer i (s.backOf (.stream i))
  have hhead := State.rdBytes_wrMarked_same hmem (slotBuffer i (s.backOf (.stream i))) (s.headerBytes i x) false
  rw [s.length_headerBytes] at hhead
  refine ⟨by rw [hunit], ?_, (hbytes ..).trans hhead, ?_, ?_⟩
  · rw [hunit, State.stream'_ringFilled, State.stream'_sampleTaken hstreams]
  · rw [hbytes, State.rdBytes_wrMarked_outside hmem _ (.inl (by omega)), hcopy]
    rfl
  · have hend : s.ringNext i x.seq x.len x.bytes.length + x.bytes.length ≤ ddrSize := by
      rw [State.ringNext]
      omega
    rw [hbytes, State.rdBytes_wrMarked_outside hmem _ (.inl (by omega)), hpayload]

end

/-! ## The command -/

/-- What the OPEN queues do not reach: the registers, the streams and memory. -/
theorem State.queueOpens_frame (s : State) : s.queueOpens.regs = s.regs ∧ s.queueOpens.sensors = s.sensors ∧
    s.queueOpens.mem = s.mem ∧ s.queueOpens.bring = s.bring := by
  obtain ⟨d, hd⟩ := s.queueOpens_eq
  rw [hd]
  exact ⟨rfl, rfl, rfl, rfl⟩

theorem State.canonical_queueOpens {s : State} (hs : s.canonical) : s.queueOpens.canonical :=
  (State.keepsStores.refl s).queueOpens.canonical hs

theorem exec_samplePublish {s v : State} {i : Fin 48} {go : Bool} (hdark : s.coreDark = false) (hv : v = s.queueOpens)
    (hgo : go = (s.inline i.val || v.openForAll (.ingest (s.fld F.SN_STREAM_A_PORT i.val)))) :
    exec (.samplePublish i) s = .next (if go then v.publishSample i.val else v) := by
  have hregs : s.queueOpens.regs = s.regs := s.queueOpens_frame.1
  have hinline : s.queueOpens.inline i.val = s.inline i.val := congrArg (· == 0) (State.fld_congr hregs ..)
  show execSamplePublish i s = _
  rw [execSamplePublish, hdark, if_neg Bool.false_ne_true]
  dsimp only
  rw [hinline, State.fld_congr hregs, hgo, hv]

/-- Settles O34: the OPEN queues apart, a publication writes the slot, and for a ring sample its ring buffer before. -/
theorem samplesArePublished : Obligations.SamplesArePublished := by
  intro s i v go hs hdark hstreams hv hgo
  rw [exec_samplePublish hdark hv hgo]
  obtain ⟨hregs, hsensors, hmem, hbring⟩ : v.regs = s.regs ∧ v.sensors = s.sensors ∧ v.mem = s.mem ∧ v.bring = s.bring :=
    hv ▸ s.queueOpens_frame
  have hcanonical : v.canonical := hv ▸ State.canonical_queueOpens hs
  have hkept : s.keepsSample v i.val := fun f _ => State.fld_congr hregs f.1 f.2
  have hunit : v.stream' i.val = s.stream' i.val := congrArg (fun t : Sensors => spGet StreamUnit.reset t.streams i.val) hsensors
  rw [← hsensors] at hstreams
  refine ⟨fun h => ?_, fun x rest hready hgo => ?_⟩
  · rcases h with h | h
    · rw [h, if_neg Bool.false_ne_true]
    · rw [State.publishSample_of_nil (hunit ▸ h), ite_self]
  rw [if_pos hgo]
  rw [← hunit] at hready
  refine ⟨fun hreplay => ?_, fun hlive b hb => ?_⟩
  · rw [State.publishSample_of_replay hcanonical.regs hready (hkept.replaying.trans hreplay), State.sampleTaken, hunit, hkept.port]
  rw [← hkept.replaying] at hlive
  have hback : v.backOf (.stream i.val) = b := by
    rw [State.backOf, State.sideAt, hunit, hb]
  rw [← hback]
  refine ⟨fun hin _ => ⟨_, rfl, ?_⟩, fun hin hleft hroom => ⟨_, rfl, ?_⟩⟩
  · have hspec := State.publishSample_inline_spec hcanonical hstreams hready hlive (hkept.inline.trans hin)
    rwa [hkept.sampleHeader, hkept.published, funext (State.rdByte_congr hmem (congrArg (·.tested) hbring))] at hspec
  · rw [← hkept.ringBuffer] at hroom
    have hspec := State.publishSample_ring_spec hcanonical hstreams hready hlive (hkept.inline.trans hin) hleft hroom
    rwa [hkept.sampleHeader, hkept.ringBuffer, hkept.ringNext] at hspec

end Sys2Proof.Machine
end

section
/-! SUPPORT. A frame at a ring stream whose port's ingest buffer is full only with what the stream still holds of an
earlier sample (R235, R236). -/

namespace Sys2Proof.Machine

theorem State.tickP_zero {s : State} (h : s.clk.port = []) (n : Nat) : s.tickP n 0 = s := by
  have hclock : { s.clk with port := [] } = s.clk := by rw [← h]
  rw [State.tickP, State.portTime, h]
  exact congrArg (fun c => { s with clk := c }) hclock

/-- A frame of EtherType 0 with no payload. -/
def bareFrame : List Byte := List.replicate 14 0

/-- Stream 47 is a ring stream of Ethernet port 11. -/
def ringPort : State :=
  (((State.reset.setFld F.SN_PORT_CFG_EN 11 1).setFld F.SN_STREAM_A_EN 47 1).setFld F.SN_STREAM_A_PORT 47 11).setFld
    F.SN_STREAM_B_BUF_UNITS 47 1

/-- The ring stream has one byte of a sample in reception. Beside that byte the port's ingest buffer has room for just a bare frame. -/
def lastByteHeld : State :=
  { ringPort with sensors := { ringPort.sensors with
      fill := [(11, 131058)]
      streams := [(47, { StreamUnit.reset with asm := some ⟨0, 0, 0, 1, [0], 0, false⟩ })] } }

theorem lastByteHeld_canonical : lastByteHeld.canonical :=
  (((((State.keepsStores.refl State.reset).setFld ..).setFld ..).setFld ..).setFld ..).other.canonical resetIsCanonical

theorem lastByteHeld_tickP : lastByteHeld.tickP 11 0 = lastByteHeld := State.tickP_zero rfl 11

/-- The frame goes to stream 47, for whose port it is one byte too long. -/
theorem lastByteHeld_full : lastByteHeld.portOn 11 = true ∧ lastByteHeld.matching 11 (etherMatch bareFrame) = some 47 ∧
    lastByteHeld.ingestFits 11 bareFrame.length = false ∧ bareFrame.length ≤ lastByteHeld.maxPayload 47 := by
  decide +kernel

/-- With the frame's sample begun, the held byte is gone and the frame fits: it is taken whole. -/
theorem lastByteHeld_takes : ((lastByteHeld.wholeSample 47 0 0 bareFrame).stream' 47).ready = [⟨0, 0, 0, 14, bareFrame⟩] := by
  decide +kernel

/-- R543: a frame with a good FCS forms one sample of the stream that it matches. -/
theorem exec_ethFrameRx_good {s u : State} {k : Fin 4} {data : List Byte} {i dr dt dl : Nat} (hdark : s.coreDark = false)
    (hu : u = s.tickP (8 + k.val) (dt + dl)) (hon : u.portOn (8 + k.val) = true)
    (hmatch : u.matching (8 + k.val) (etherMatch data) = some i) : exec (.ethFrameRx k data true dr dt dl) s =
      .next (u.wholeSample i (s.portTime (8 + k.val) + dt) (u.portTime (8 + k.val)) data) := by
  show execEthFrameRx k data true dr dt dl s = _
  rw [execEthFrameRx, hdark, if_neg Bool.false_ne_true]
  dsimp only
  rw [← hu, if_pos hon, hmatch]
  rfl

/-- Refutes O33: a frame's sample begins before the frame is judged against the ingest buffer, and it takes the place of a sample in
reception on its stream, whose bytes then no longer count. So where a ring stream of an Ethernet port still holds such bytes, a frame
that does not fit beside them is taken whole, and not dropped as BUF_DROP. The statement's hypotheses (canonical stores, every rail up)
allow such a state, whether or not one is reached from reset. -/
theorem not_samplesAreTakenOrDropped : ¬ Obligations.SamplesAreTakenOrDropped := by
  intro h
  obtain ⟨hon, hmatch, hfits, hlen⟩ := lastByteHeld_full
  obtain ⟨hether, -⟩ := h lastByteHeld lastByteHeld_canonical rfl (by decide)
  obtain ⟨-, -, htaken⟩ := hether 3 bareFrame true 0 0 0 11 0 lastByteHeld rfl lastByteHeld_tickP.symm rfl
  obtain ⟨-, hdropped, -⟩ := htaken 47 hon hmatch
  obtain ⟨t, hexec, -, hstream, -⟩ := hdropped rfl hfits hlen
  have hwhole : exec (.ethFrameRx 3 bareFrame true 0 0 0) lastByteHeld = .next (lastByteHeld.wholeSample 47 0 0 bareFrame) :=
    exec_ethFrameRx_good rfl lastByteHeld_tickP.symm hon hmatch
  obtain rfl := Host.Outcome.next.inj (hwhole.symm.trans hexec)
  have hready := congrArg StreamUnit.ready hstream
  rw [lastByteHeld_takes] at hready
  exact List.cons_ne_nil _ _ hready

end Sys2Proof.Machine
end
